-- ==== Sys2Proof/Word.lean ====
section
/-! DEFINITION. The word types of the Xivis device and the saturation of its counters. -/

namespace Sys2Proof

/-- One byte. -/
abbrev Byte := BitVec 8
/-- The 16-, 32- and 64-bit words of the dictionary and of the record words. -/
abbrev U16 := BitVec 16
abbrev U32 := BitVec 32
abbrev U64 := BitVec 64
/-- A 512-bit vector register, which is also one 64 B line. -/
abbrev V512 := BitVec 512
/-- The 160-bit pattern of an accumulator (R49). -/
abbrev U160 := BitVec 160

/-- Counters of the dictionary saturate at 2^64 − 1 (R71). -/
def ctrMax : Nat := 2 ^ 64 - 1

/-- One saturating increment by `n` (R71). -/
def satAdd (c n : Nat) : Nat := min ctrMax (c + n)

end Sys2Proof
end

