-- ==== Sys2Proof/Syntax.lean ====
section
/-! DEFINITION. The commands of the device: one constructor per row of spec/opcode_table.json, with the operands that the rule of
the row gives it. Outcomes that physics decides (a training result, a sensor reading, the cycles that a V-marked
instruction waited) are operands, because they arrive from outside the model. -/

namespace Sys2Proof

/-- Logical tile index t = 48y + x (R449, R450). -/
abbrev TileIx := Fin 1440
abbrev CoreIx := Fin 4
/-- Scalar and vector register names (R17). -/
abbrev Reg := Fin 32
abbrev VReg := Fin 16
abbrev ZoneIx := Fin 48
abbrev SlotIx := Fin 8
abbrev StackIx := Fin 16
/-- Copy engine Mi.e as 2i + e (R217). -/
abbrev EngineIx := Fin 32
abbrev LinkIx := Fin 36
abbrev LinkDieIx := Fin 18
abbrev RegDieIx := Fin 56
abbrev GroupIx := Fin 8
abbrev PortIx := Fin 12
/-- Mesh ports: 0 north, 1 east, 2 south, 3 west, 4 local (R170). -/
abbrev MeshPort := Fin 5

/-- The core of a tile at which a core command issues. -/
structure CoreAt where
  tile : TileIx
  core : CoreIx
  deriving DecidableEq, Repr

/-- The carriers of management writes, in the order of the write-policy bytes 268 to 271 (R453, R456). -/
inductive Carrier where
  | ethernet | mailbox | smbus | debug
  deriving DecidableEq, Repr

/-- The units of a job's fence (R224): tiles, engines and the link switches of its ports. -/
inductive FenceUnit where
  | tile (t : TileIx) | engine (e : EngineIx) | linkSwitch (right : Bool)
  deriving DecidableEq, Repr

/-- Outcome of a stack's training at the directed speed, or of the verification of recorded training (R212, R358). -/
inductive TrainResult where
  | good | verifyFailedThenGood | failed
  deriving DecidableEq, Repr

/-- What a link found when S8 or a retraining brought it up (R376). -/
inductive LinkTrain where
  | dark | hold | locked (latencyNs : Nat)
  deriving DecidableEq, Repr

/-- The content of an identity control flit (R377). Versions are major·256 + minor. -/
structure Identity where
  maxVer : Nat
  minVer : Nat
  features : U32
  device : Nat
  link : Nat
  grouping : Nat
  conservative : Bool
  deriving DecidableEq, Repr

/-- One member's report at a group fence (R399). Proposal is a job status to stop or end with. -/
inductive Proposal where
  | proceed | rerun | stop (status : Nat)
  deriving DecidableEq, Repr

structure GroupReport where
  device : Nat
  steps : Nat
  proposal : Proposal
  /-- transfers sent to each member and landed from each member, by position in GROUP_MEMBERS -/
  sent : List Nat
  landed : List Nat
  deriving DecidableEq, Repr

/-- A bring-up item by its kind (R364) and unit. -/
structure ItemId where
  kind : Fin 16
  unit : Nat
  deriving DecidableEq, Repr

/-- A request that an engine serves for the host or the manager (R215, R433). -/
inductive MemRequest where
  | read (addr len : Nat) | write (addr : Nat) (data : List Byte) (poison : Bool)
  deriving DecidableEq, Repr

/-- The commands. -/
inductive Instr where
  -- bring-up and firmware
  | coldStart
  | s0Rails (failedDies : List RegDieIx) (strap1 strap2 strap3 : BitVec 7)
  | s1Boot
  | s2FusesAndShadowMap (fuse0Ok fuse1Ok journalOk : Bool)
  | s3DomainsOn (notGood : List ZoneIx)
  | s4ClockAlignment (failed : List ZoneIx)
  | s5TileTest (defects returnDefects : List U32)
  | s6StackTraining (results : List (StackIx × TrainResult))
  | s7EcmetFirmware
  | s8LinkBringup (failedDies : List LinkDieIx) (links : List (LinkIx × LinkTrain))
  | s9Usable (elapsedMs : Nat)
  | itemBudgetExpiry (item : ItemId)
  | failedHot (z : ZoneIx)
  | warmRestart (car : Carrier)
  | tileFirmwareFetch (t : TileIx) (digestGood : List Bool)
  | fwUpdateControl (car : Carrier) (v : Byte)
  | fwChunkBroadcast
  | fwChunkReceive (t : TileIx) (chunk : Fin 64) (bufferFree digestGood : Bool)
  | fwChunkRefetch (t : TileIx) (chunk : Fin 64)
  | fwActivation
  | fwLaggardTimeout
  | mgmtWatchdogExpiry
  | brownout
  | lifeRecordCommit
  -- Ecmet integer register operations (R116, R117)
  | add (i : CoreAt) (d a b : Reg)
  | sub (i : CoreAt) (d a b : Reg)
  | and (i : CoreAt) (d a b : Reg)
  | or (i : CoreAt) (d a b : Reg)
  | xor (i : CoreAt) (d a b : Reg)
  | shl (i : CoreAt) (d a b : Reg)
  | shr (i : CoreAt) (d a b : Reg)
  | sar (i : CoreAt) (d a b : Reg)
  | slt (i : CoreAt) (d a b : Reg)
  | sltu (i : CoreAt) (d a b : Reg)
  | min (i : CoreAt) (d a b : Reg)
  | max (i : CoreAt) (d a b : Reg)
  | minu (i : CoreAt) (d a b : Reg)
  | maxu (i : CoreAt) (d a b : Reg)
  | mul (i : CoreAt) (d a b : Reg)
  | mulh (i : CoreAt) (d a b : Reg)
  | mulhu (i : CoreAt) (d a b : Reg)
  | div (i : CoreAt) (d a b : Reg)
  | divu (i : CoreAt) (d a b : Reg)
  | rem (i : CoreAt) (d a b : Reg)
  | remu (i : CoreAt) (d a b : Reg)
  | mix64 (i : CoreAt) (d a b : Reg)
  | popc (i : CoreAt) (d a b : Reg)
  | clz (i : CoreAt) (d a b : Reg)
  | jr (i : CoreAt) (d a b : Reg)
  | addi (i : CoreAt) (d a : Reg) (imm : U16)
  | andi (i : CoreAt) (d a : Reg) (imm : U16)
  | ori (i : CoreAt) (d a : Reg) (imm : U16)
  | xori (i : CoreAt) (d a : Reg) (imm : U16)
  | shiftiShl (i : CoreAt) (d a : Reg) (amt : BitVec 6) (z : BitVec 8)
  | shiftiShr (i : CoreAt) (d a : Reg) (amt : BitVec 6) (z : BitVec 8)
  | shiftiSar (i : CoreAt) (d a : Reg) (amt : BitVec 6) (z : BitVec 8)
  | lih (i : CoreAt) (d a : Reg) (imm : U16)
  | slti (i : CoreAt) (d a : Reg) (imm : U16)
  -- loads and stores (R109, R114)
  | ld64 (i : CoreAt) (d a : Reg) (imm : U16)
  | ld32 (i : CoreAt) (d a : Reg) (imm : U16)
  | ld32u (i : CoreAt) (d a : Reg) (imm : U16)
  | ld16 (i : CoreAt) (d a : Reg) (imm : U16)
  | ld16u (i : CoreAt) (d a : Reg) (imm : U16)
  | ld8 (i : CoreAt) (d a : Reg) (imm : U16)
  | ld8u (i : CoreAt) (d a : Reg) (imm : U16)
  | st64 (i : CoreAt) (d a : Reg) (imm : U16)
  | st32 (i : CoreAt) (d a : Reg) (imm : U16)
  | st16 (i : CoreAt) (d a : Reg) (imm : U16)
  | st8 (i : CoreAt) (d a : Reg) (imm : U16)
  | vld (i : CoreAt) (d : BitVec 5) (a : Reg) (imm : U16)
  | vst (i : CoreAt) (d : BitVec 5) (a : Reg) (imm : U16)
  -- branches and jumps (R113)
  | beq (i : CoreAt) (a b : Reg) (off : U16)
  | bne (i : CoreAt) (a b : Reg) (off : U16)
  | blt (i : CoreAt) (a b : Reg) (off : U16)
  | bge (i : CoreAt) (a b : Reg) (off : U16)
  | bltu (i : CoreAt) (a b : Reg) (off : U16)
  | bgeu (i : CoreAt) (a b : Reg) (off : U16)
  | j (i : CoreAt) (off : BitVec 26)
  | jal (i : CoreAt) (off : BitVec 26)
  -- vector unit (R118 to R124); `ty` is the raw TYPE or FMT field, `z` the bits the encoding writes 0
  | vadd (i : CoreAt) (vd va vb : VReg) (ty : BitVec 3)
  | vsub (i : CoreAt) (vd va vb : VReg) (ty : BitVec 3)
  | vmul (i : CoreAt) (vd va vb : VReg) (ty : BitVec 3)
  | vfma (i : CoreAt) (vd va vb : VReg) (ty : BitVec 3)
  | vmin (i : CoreAt) (vd va vb : VReg) (ty : BitVec 3)
  | vmax (i : CoreAt) (vd va vb : VReg) (ty : BitVec 3)
  | vabs (i : CoreAt) (vd va vb : VReg) (ty : BitVec 3)
  | vneg (i : CoreAt) (vd va vb : VReg) (ty : BitVec 3)
  | vadds (i : CoreAt) (vd va vb : VReg) (ty : BitVec 3)
  | vsubs (i : CoreAt) (vd va vb : VReg) (ty : BitVec 3)
  | vand (i : CoreAt) (vd va vb : VReg) (ty : BitVec 3)
  | vor (i : CoreAt) (vd va vb : VReg) (ty : BitVec 3)
  | vxor (i : CoreAt) (vd va vb : VReg) (ty : BitVec 3)
  | vsel (i : CoreAt) (vd va vb : VReg) (ty : BitVec 3)
  | vcmplt (i : CoreAt) (vd va vb : VReg) (ty : BitVec 3)
  | vcmpeq (i : CoreAt) (vd va vb : VReg) (ty : BitVec 3)
  | vperm (i : CoreAt) (vd va vb : VReg) (ty : BitVec 3)
  | vcvt (i : CoreAt) (vd va vb : VReg) (ty : BitVec 3)
  | vsplat (i : CoreAt) (vd : VReg) (sa : Reg) (ty : BitVec 3)
  | vext (i : CoreAt) (sd : Reg) (va : VReg) (sa : Reg) (ty : BitVec 3)
  | vins (i : CoreAt) (vd : VReg) (sa sd : Reg) (ty : BitVec 3)
  | vredadd (i : CoreAt) (sd : Reg) (va : VReg) (ty : BitVec 3)
  | vredmax (i : CoreAt) (sd : Reg) (va : VReg) (ty : BitVec 3)
  | vredmin (i : CoreAt) (sd : Reg) (va : VReg) (ty : BitVec 3)
  | venc16 (i : CoreAt) (vd va : VReg) (sa sd : Reg) (fmt : BitVec 3)
  | venc32 (i : CoreAt) (vd va : VReg) (sa sd : Reg) (fmt : BitVec 3)
  | vdec (i : CoreAt) (vd va : VReg) (sa : Reg) (fmt : BitVec 3)
  | vsck (i : CoreAt) (sd : Reg) (va : VReg) (sa : Reg) (fmt : BitVec 3)
  | fnExp2 (i : CoreAt) (vd va vb : VReg) (ty : BitVec 3) (z : BitVec 8)
  | fnLog2 (i : CoreAt) (vd va vb : VReg) (ty : BitVec 3) (z : BitVec 8)
  | fnRcp (i : CoreAt) (vd va vb : VReg) (ty : BitVec 3) (z : BitVec 8)
  | fnRsqrt (i : CoreAt) (vd va vb : VReg) (ty : BitVec 3) (z : BitVec 8)
  | fnTanh (i : CoreAt) (vd va vb : VReg) (ty : BitVec 3) (z : BitVec 8)
  | fnSigm (i : CoreAt) (vd va vb : VReg) (ty : BitVec 3) (z : BitVec 8)
  | fnErf (i : CoreAt) (vd va vb : VReg) (ty : BitVec 3) (z : BitVec 8)
  | fnSinp (i : CoreAt) (vd va vb : VReg) (ty : BitVec 3) (z : BitVec 8)
  -- control registers, waits, lanes (R127 to R136)
  | csrr (i : CoreAt) (d : Reg) (num : BitVec 12)
  | csrw (i : CoreAt) (a : Reg) (num : BitVec 12)
  | plWait (i : CoreAt) (a : Reg) (z : BitVec 12)
  | winOpen (i : CoreAt) (d a : Reg) (w : Fin 8) (z : BitVec 9)
  | winClose (i : CoreAt) (w : Fin 8) (z : BitVec 9)
  | rwWait (i : CoreAt) (d a : Reg) (w : Fin 8) (z : BitVec 9) (waited : Nat)
  | svSend (i : CoreAt) (d a : Reg) (z : BitVec 12) (waited : Nat)
  | svRecv (i : CoreAt) (d a : Reg) (z : BitVec 12) (waited : Nat)
  | tallyRd (i : CoreAt) (d : Reg) (z : BitVec 12) (waited : Nat)
  | sensRd (i : CoreAt) (d a : Reg) (z : BitVec 12) (waited : Nat)
  | lnkRd (i : CoreAt) (d a : Reg) (z : BitVec 12) (answered : Bool) (waited : Nat)
  | sync (i : CoreAt) (mask : BitVec 4) (z : BitVec 8)
  | stepEnd (i : CoreAt) (a : Reg) (z : BitVec 12)
  | watchdogExpiry (i : CoreAt)
  -- counting frame (R74 to R98); `opt` is the raw OPT field
  | frameLoadw (i : CoreAt) (sa sb : Reg) (opt : BitVec 12)
  | frameMul (i : CoreAt) (sa sb : Reg) (opt : BitVec 12)
  | frameDrain (i : CoreAt) (sa sb : Reg) (opt : BitVec 12)
  | frameDrainPartial (i : CoreAt) (sa sb : Reg) (opt : BitVec 9)
  | frameLoada (i : CoreAt) (sa sb : Reg) (opt : BitVec 12)
  | frameEwAdd (i : CoreAt) (sa sb : Reg) (opt : BitVec 8)
  | frameEwSub (i : CoreAt) (sa sb : Reg) (opt : BitVec 8)
  | frameEwMul (i : CoreAt) (sa sb : Reg) (opt : BitVec 8)
  | frameEwMax (i : CoreAt) (sa sb : Reg) (opt : BitVec 8)
  | frameEwMin (i : CoreAt) (sa sb : Reg) (opt : BitVec 8)
  | frameEwRescale (i : CoreAt) (sa sb : Reg) (opt : BitVec 8)
  | frameEwEnc (i : CoreAt) (sa sb : Reg) (opt : BitVec 8)
  | frameEwDec (i : CoreAt) (sa sb : Reg) (opt : BitVec 8)
  | frameWake (i : CoreAt) (sa sb : Reg) (opt : BitVec 12)
  | frameRest (i : CoreAt) (sa sb : Reg) (opt : BitVec 12)
  | frameWait (i : CoreAt) (sa sb : Reg) (opt : BitVec 12)
  | frameAutoRest (t : TileIx)
  -- update engine (R241 to R259)
  | updGroup (i : CoreAt) (sa sb : Reg) (opt : BitVec 12)
  | updRun (i : CoreAt) (sa sb : Reg) (opt : BitVec 12)
  | updWait (i : CoreAt) (sa sb : Reg) (opt : BitVec 12)
  -- mesh (R167 to R193)
  | slotPass (t : TileIx) (entry : Fin 1024) (entryBad corrupt : Bool)
  | slotAdd160 (t : TileIx) (entry : Fin 1024) (entryBad corrupt : Bool)
  | slotAdd160Final (t : TileIx) (entry : Fin 1024) (entryBad corrupt : Bool)
  | slotMax32 (t : TileIx) (entry : Fin 1024) (entryBad corrupt : Bool)
  | slotSum64 (t : TileIx) (entry : Fin 1024) (entryBad corrupt : Bool)
  | unscheduledArrival (t : TileIx) (port : Fin 4) (cy : Nat)
  | serviceLineHop (t : TileIx) (out : MeshPort) (response corrupt : Bool)
  | hopCreditReturn (t : TileIx) (out : MeshPort) (response : Bool)
  | msgArrival (t : TileIx)
  | rwriteArrival (t : TileIx)
  | remoteLineLanding (t : TileIx) (deferredCy : Nat)
  | complArrival (t : TileIx)
  | serviceRequestTimeout (i : CoreAt) (tag : Fin 4)
  -- copy engines and stacks (R200 to R215)
  | copyRead (e : EngineIx) (desc : Fin 8192) (corrupt : Bool)
  | copyReadReq (e : EngineIx) (desc : Fin 8192) (corrupt : Bool)
  | copyWrite (e : EngineIx) (desc : Fin 8192)
  | copyMove (e : EngineIx) (desc : Fin 8192) (err0 err1 : Nat)
  | copyFill (e : EngineIx) (desc : Fin 8192)
  | readRequestArrival (e : EngineIx) (desc : Fin 8192)
  | lineFetch (e : EngineIx) (desc : Fin 8192) (err0 err1 : Nat)
  | lineStaged (e : EngineIx) (desc : Fin 8192)
  | patrolScrub (m : StackIx) (line : Nat) (err0 err1 : Nat)
  | stackTempRead (m : StackIx) (tempC : Int)
  | refreshShorten (m : StackIx)
  | engineFenceTimeout (e : EngineIx)
  | engineServiceRequest (e : EngineIx) (req : MemRequest)
  | engineServiceTimeout (e : EngineIx)
  -- jobs and fences (R221 to R239)
  | jobLoad (j : SlotIx) (car : Carrier)
  | loadChecksComplete (j : SlotIx)
  | jobStart (j : SlotIx) (car : Carrier)
  | jobReplayStart (j : SlotIx) (car : Carrier)
  | jobCycle0Release (j : SlotIx)
  | jobStop (j : SlotIx) (car : Carrier)
  | jobKill (j : SlotIx) (car : Carrier)
  | jobClear (j : SlotIx) (car : Carrier) (failedTiles : List TileIx) (failedWires failedLanes : List U32)
  | unitFenceArrival (j : SlotIx) (u : FenceUnit) (lateCy : Nat)
  | fenceRootDecision (j : SlotIx)
  | fenceRelease (j : SlotIx)
  | stepTimeout (j : SlotIx)
  | fenceEventWrite (j : SlotIx) (car : Carrier) (index : U16) (sub : Byte) (value : U64)
  | digestSnapshot (j : SlotIx) (car : Carrier) (value : Byte)
  | groupEta (j : SlotIx) (car : Carrier) (g : Fin 4096) (value : U32)
  | groupFrozen (j : SlotIx) (car : Carrier) (g : Fin 4096) (value : Byte)
  -- self-tests and weight comparison (R279 to R285)
  | selftestFrameLogic (car : Carrier) (zones : BitVec 48)
  | selftestCoreLogic (car : Carrier) (zones : BitVec 48)
  | selftestRouterMesh (car : Carrier) (zones : BitVec 48)
  | selftestScratchpadMarch (car : Carrier) (zones : BitVec 48)
  | selftestSensorCalibration (car : Carrier) (zones : BitVec 48)
  | selftestModuleLanes (car : Carrier) (modules : BitVec 16)
  | quietSlotTest (j : SlotIx) (z : ZoneIx) (kind : Fin 16)
  | selftestComplete (unit : ZoneIx) (kind : Fin 16) (failedTiles : List TileIx)
  | wcmpRound
  | wcmpAnswer (device : Nat) (phase : Fin 3) (value : U64)
  | wcmpPhaseTimeout
  | wcmpOutvote
  -- clocks and tally (R288 to R315)
  | refLoss
  | refReturn
  | crossingSlip (t : TileIx) (port : Fin 4)
  | droopAssert (z : ZoneIx) (elapsed : Nat)
  | shuntRecharged (z : ZoneIx)
  | stretchEnd (z : ZoneIx)
  | stretchRestart (z : ZoneIx)
  | stretchNotice (z origin : ZoneIx) (seq : BitVec 4) (len elapsed : Nat)
  | stretchExtension (z origin : ZoneIx) (seq : BitVec 4) (len : Nat)
  | freqTargetChange (z : ZoneIx) (marginMhz : Nat)
  | freqSwitchAnnounce
  | vlogTargetReached
  | stepUpVoltageTimeout
  | freqSwitchApply
  | guardWindowClose
  | vlogLower
  | shimmerEnable (car : Carrier) (value : Byte)
  | shimmerOffset (car : Carrier) (value : U16)
  | tallyPulse (highNs : Nat)
  | tallyGlitch
  | tallyMark
  | tallyLoss
  | tallySlewStep
  | tallyEpochNext (car : Carrier) (value : U64)
  | tallyResync (car : Carrier)
  | tallyOrigin (car : Carrier) (value : U64)
  -- power and heat (R316 to R347)
  | regDieFault (d : Fin 48) (cause : Fin 6)
  | edgeRegFault (d : Fin 8) (cause : Fin 6)
  | vlogRegulationTick (g : GroupIx) (needMv : Nat)
  | sensorFailMark (kind : Fin 3) (index : Nat)
  | currentLedgerTick (g : GroupIx) (measuredQa : Nat) (weights : List Nat)
  | zoneSwitchOnRequest (z : ZoneIx)
  | zoneRampStart (z : ZoneIx) (waitUs : Nat)
  | slowRampStart (z : ZoneIx)
  | zonePowerGood (z : ZoneIx)
  | powerGoodTimeout (z : ZoneIx)
  | ratingExcess (g : GroupIx)
  | zonePark (z : ZoneIx)
  | zoneIdlePark (z : ZoneIx)
  | tempSample (temps : List Int)
  | overtempHoldRelease (z : ZoneIx)
  | parkRequest (car : Carrier) (mask : U64)
  | powerOffRequest (car : Carrier) (mask : U64)
  | unparkRequest (car : Carrier) (mask : U64)
  | powerLimitCheck (averageW : Nat)
  | thermalTrip (sensor : Nat)
  | tripCoolExpiry
  | tripRestart (car : Carrier)
  | energyPeriod (dieMicroJ : List Nat)
  | tokenPoolW (car : Carrier) (value : U32)
  | tokenPeriod (reports : List (Nat × Nat × Nat))
  | tokenDebit (seq w : Nat)
  | tokenCredit (seq w : Nat)
  | tokenAck (device seq holding : Nat)
  | tokenAckTimeout
  | tokenMasterSilence
  -- optical links and cascade (R373 to R405)
  | laserLoss (k : LinkDieIx) (lambda : Fin 9)
  | rxSignalLoss (l : LinkIx)
  | fecLockLoss (l : LinkIx)
  | linkDown (l : LinkIx)
  | linkRetrain (l : LinkIx) (ok : Bool) (latencyNs : Nat)
  | identityFlit (l : LinkIx) (f : Identity)
  | dataFlitReceive (l : LinkIx) (bytes : List Byte) (symbols : Nat)
  | nakReceive (l : LinkIx) (fseq : BitVec 12)
  | replayTimer (l : LinkIx)
  | retryLimit (l : LinkIx)
  | auditFlit (l : LinkIx) (sent credited : List Nat)
  | planTransferSend (right : Bool) (row : Nat)
  | transferLanding (p : PortIx) (reduction : Bool)
  | linkCalibrationIdle (l : LinkIx)
  | tallyFlitSend (l : LinkIx)
  | tallyFlitReceive (l : LinkIx) (tally : U64) (hops : Byte)
  | linkTallyLoss
  | masterElectionAnnounce (l : LinkIx) (identity : Nat)
  | electionSettle
  | masterHeartbeat
  | heartbeatLoss
  | groupReady (j : SlotIx) (device : Nat) (members : List Nat) (key : U64)
  | groupStartTally (j : SlotIx) (tally : U64)
  | groupReadyTimeout (j : SlotIx)
  | groupFenceReport (j : SlotIx) (r : GroupReport)
  | groupDecision (j : SlotIx) (d : Proposal)
  | groupReportTimeout (j : SlotIx)
  -- host port (R406 to R421)
  | pcieConfigRequest (write : Bool) (offset : Nat) (value : U32)
  | functionLevelReset
  | hotReset
  | pcieLinkDown
  | perstAssert
  | d3hotEntry
  | d0Entry
  | busMasterDisable
  | aerFatalError
  | w2Base (value : U64)
  | mbxDoorbell (value : U64)
  | mailboxDispatch (n : Fin 16)
  | mbxRelease (value : U64)
  | eqCtrl (q : Fin 16) (value : U64)
  | eqHead (q : Fin 16) (value : U64)
  | bar0RegisterWrite (offset width : Nat) (value : U64)
  | bar2Read (offset len : Nat)
  | bar2Write (offset : Nat) (data : List Byte) (poisoned : Bool)
  | bar4Read (offset len : Nat)
  | bar4Write (offset : Nat) (data : List Byte)
  | eventRaise (kind : Byte) (unit : U16) (data : List Byte)
  | eventEntryWrite (q : Fin 16)
  | msixSignal (q : Fin 16) (timer : Bool)
  | getVersion
  | getCapabilities
  | negotiateAlgorithms (asym hash : U32)
  | getDigests
  | getCertificate (slot : Byte) (offset len : U16)
  | challenge (slot : Byte) (nonce : List Byte)
  | getMeasurements (index : Byte) (sign : Bool) (nonce : List Byte)
  -- Ethernet and SMBus (R422, R423)
  | ethPennosDatagram (origin : Nat) (frame : List Byte)
  | arpRequest (target : U32)
  | ndpMessage (target : List Byte)
  | icmpEcho (v6 : Bool) (payload : List Byte)
  | ethOtherFrame
  | ethAddressApply
  | smbusBlockWrite (pecGood : Bool) (frame : List Byte)
  | smbusBlockRead (pecGood : Bool)
  | smbusReadByte (pecGood : Bool)
  | smbusAlertResponse (pecGood : Bool)
  -- Pennos protocol and dictionary (R424 to R445)
  | hello (car : Carrier) (origin : Nat) (versions : List U16) (maxFrame : U16)
  | close (car : Carrier) (origin session : Nat)
  | pennosRequest (car : Carrier) (origin : Nat) (frame : List Byte)
  | pennosRead (session : Nat) (index : U16) (sub : Byte) (len : U16)
  | pennosWrite (session : Nat) (index : U16) (sub : Byte) (value : List Byte)
  | readRange (session : Nat) (index : U16) (sub : Byte) (offset : U32) (len : U16)
  | writeRange (session : Nat) (index : U16) (sub : Byte) (offset : U32) (value : List Byte)
  | subscribe (session : Nat) (mask : U64)
  | commit (session : Nat) (index : U16) (sub : Byte)
  | sessionIdleTimeout (session : Nat)
  | dictRequestTimeout
  | dictObjectRead (t : TileIx) (req index : U16) (sub : Byte)
  | dictObjectWrite (t : TileIx) (req index : U16) (sub : Byte) (value : U64)
  | dictMemoryRead (e : EngineIx) (req : U16) (addr : U64) (count : U16)
  | dictMemoryWrite (e : EngineIx) (req : U16) (addr : U64) (data : List Byte)
  | dictReply (req : U16)
  | linkFaultRead (l : LinkIx)
  -- protection, maintenance and debug (R453 to R474)
  | attestNonce (car : Carrier) (nonce : List Byte)
  | attestReport
  | mgmtUpdateControl (car : Carrier) (v : Byte)
  | recoveryImage (car : Carrier) (offset : Nat) (data : List Byte)
  | maintRemoveDefect (car : Carrier) (cmd : List Byte)
  | maintClearOverflow (car : Carrier) (cmd : List Byte)
  | maintRemoveRetry (car : Carrier) (cmd : List Byte)
  | maintThaw (car : Carrier) (cmd : List Byte)
  | maintAdvanceRollback (car : Carrier) (cmd : List Byte) (blown : Bool)
  | maintRevokeKey (car : Carrier) (cmd : List Byte) (blown : Bool)
  | maintRaiseDebugLock (car : Carrier) (cmd : List Byte) (blown : Bool)
  | dbgRequest (car : Carrier) (v : Byte)
  | dbgChallenge
  | dbgResponse (car : Carrier) (resp : List Byte) (inTime : Bool)
  | dbgLockNow (car : Carrier)
  | debugSessionOpen
  | haltAt (j : SlotIx) (all : Bool) (steps cycle : Nat) (aheadMs : Nat)
  | haltNow (j : SlotIx) (all : Bool)
  | jobHalt (j : SlotIx)
  | resume (j : SlotIx) (all : Bool)
  | stepCy (j : SlotIx) (all : Bool) (n : Nat)
  | stepInsn (j : SlotIx) (i : CoreAt)
  | bpSet (i : CoreAt) (n : Fin 4) (pc : U16) (enable : Bool)
  | wpSet (t : TileIx) (n : Fin 2) (p len : Nat) (kind : BitVec 2) (agents : BitVec 5) (enable : Bool)
  | readCore (j : SlotIx) (i : CoreAt) (cls : Fin 4) (num : BitVec 12)
  | writeCore (j : SlotIx) (i : CoreAt) (cls : Fin 4) (num : BitVec 12) (value : V512)
  | readSp (j : SlotIx) (t : TileIx) (p len : Nat)
  | writeSp (j : SlotIx) (t : TileIx) (p : Nat) (data : List Byte)
  | readMem (addr len : Nat)
  | writeMem (j : SlotIx) (addr : Nat) (data : List Byte)
  | readFrame (j : SlotIx) (t : TileIx) (bank : Fin 2) (row : Fin 32)
  | clearPoints
  | bypass
  | idcode
  | samplePreload (value : Nat)
  | extest
  | clamp
  | highz
  | dbgframe (frame : List Byte)
  | trstAssert
  -- later rows
  | tallyReferenceCount
  | stepUpDelayExpiry
  | parkingComplete (z : ZoneIx)
  | pcieLinkUp (rateGt width : Nat)
  | perstRelease
  | sgmiiLinkChange (up : Bool)
  | doeDiscovery (index : Byte)
  | laserLightArrival (k : LinkDieIx)
  | reservedInstruction (i : CoreAt) (word : U32)
  deriving DecidableEq, Repr

end Sys2Proof
end

