-- ==== Sys2Proof/Machine/SMap.lean ====
section
/-! DEFINITION. Sparse maps held as plain data: the pairs of a key and a value with the keys strictly rising and no value equal to
what an unlisted key reads as. Memory of every kind, the counters and the tiles are held in this form. -/

namespace Sys2Proof.Machine

/-- A sparse map. What an unlisted key reads as is an argument of every operation. -/
abbrev SMap (α : Type) := List (Nat × α)

/-- The value at `k`; `d` for an unlisted key. -/
def SMap.get {α : Type} (d : α) : SMap α → Nat → α
  | [], _ => d
  | (a, v) :: m, k => if k = a then v else SMap.get d m k

/-- Insert or replace, keeping the keys rising. -/
def SMap.ins {α : Type} (k : Nat) (v : α) : SMap α → SMap α
  | [] => [(k, v)]
  | (a, w) :: m => if k < a then (k, v) :: (a, w) :: m else if k = a then (k, v) :: m else (a, w) :: SMap.ins k v m

/-- Remove a key. -/
def SMap.del {α : Type} (k : Nat) : SMap α → SMap α
  | [] => []
  | (a, w) :: m => if k = a then m else (a, w) :: SMap.del k m

/-- Write: a value equal to what an unlisted key reads as removes the entry, so equal maps are equal data. -/
def SMap.put {α : Type} [DecidableEq α] (d : α) (m : SMap α) (k : Nat) (v : α) : SMap α :=
  if v = d then SMap.del k m else SMap.ins k v m

/-- Every key is above `lo`, keys rise, no value is the default. -/
def SMap.wfFrom {α : Type} [DecidableEq α] (d : α) : Nat → SMap α → Bool
  | _, [] => true
  | lo, (a, v) :: m => decide (lo ≤ a) && (! decide (v = d)) && SMap.wfFrom d (a + 1) m

/-- The canonical form. -/
def SMap.wf {α : Type} [DecidableEq α] (d : α) (m : SMap α) : Bool := SMap.wfFrom d 0 m

/-- Byte memory: an unlisted address reads as 0 (DESIGN CHOICE, log entry 2). -/
abbrev Mem := SMap Byte

/-- What a byte that nothing has written reads as. -/
def memDefault : Byte := 0

/-- The canonical form of a byte memory. -/
def Mem.wf (m : Mem) : Bool := SMap.wf memDefault m

/-- Read one byte. -/
def Mem.read (m : Mem) (a : Nat) : Byte := SMap.get memDefault m a

/-- Write one byte. -/
def Mem.write (m : Mem) (a : Nat) (b : Byte) : Mem := SMap.put memDefault m a b

/-- Read `n` bytes from `a`, the lowest address first. -/
def Mem.readBytes (m : Mem) (a : Nat) : Nat → List Byte
  | 0 => []
  | n + 1 => m.read a :: Mem.readBytes m (a + 1) n

/-- Write bytes from `a` up. -/
def Mem.writeBytes (m : Mem) (a : Nat) : List Byte → Mem
  | [] => m
  | b :: bs => Mem.writeBytes (m.write a b) (a + 1) bs

end Sys2Proof.Machine
end

