-- ==== Sys2Proof/Machine/Bits.lean ====
section
/-! DEFINITION. Bytes and words, the mixing function, the two CRCs and SHA-512. -/

namespace Sys2Proof.Machine

/-- The little-endian number of a byte list. -/
def natOfLE : List Byte → Nat
  | [] => 0
  | b :: bs => b.toNat + 256 * natOfLE bs

/-- `n` bytes of a number, low byte first. -/
def leOfNat : Nat → Nat → List Byte
  | 0, _ => []
  | n + 1, v => BitVec.ofNat 8 v :: leOfNat n (v / 256)

/-- The big-endian number of a byte list. -/
def natOfBE (bs : List Byte) : Nat := bs.foldl (fun a b => a * 256 + b.toNat) 0

/-- `n` bytes of a number, high byte first. -/
def beOfNat (n v : Nat) : List Byte := (leOfNat n v).reverse

/-- Sign extension of the low `w` bits of `v` to an integer. -/
def sextNat (w v : Nat) : Int :=
  let u := v % 2 ^ w
  if u < 2 ^ (w - 1) then (u : Int) else (u : Int) - (2 ^ w : Nat)

/-- The field [lo + n − 1 : lo] of a number. -/
def fieldN (v lo n : Nat) : Nat := (v >>> lo) % 2 ^ n

/-- The numbers 0 … n − 1. -/
def upTo (n : Nat) : List Nat := List.range n

/-- Is bit `k` of a mask set. -/
def bitOf {w : Nat} (m : BitVec w) (k : Nat) : Bool := m.getLsbD k

/-- The mixing function (R117). -/
def mix64 (z : U64) : U64 :=
  let z := (z ^^^ (z >>> (30 : Nat))) * 0xBF58476D1CE4E5B9#64
  let z := (z ^^^ (z >>> (27 : Nat))) * 0x94D049BB133111EB#64
  z ^^^ (z >>> (31 : Nat))

/-- `n` right shifts of a reflected CRC-32 register. -/
def crc32Bits : Nat → U32 → U32
  | 0, c => c
  | n + 1, c => crc32Bits n (if c.getLsbD 0 then (c >>> (1 : Nat)) ^^^ 0xEDB88320#32 else c >>> (1 : Nat))

/-- The CRC-32 of IEEE 802.3 (PRESUMED the common reflected form, log entry 3). -/
def crc32 (bs : List Byte) : U32 :=
  (bs.foldl (fun (c : U32) (b : Byte) => crc32Bits 8 (c ^^^ b.setWidth 32)) 0xFFFFFFFF#32) ^^^ 0xFFFFFFFF#32

/-- `n` left shifts of a CRC-16 register with polynomial 0x1021. -/
def crc16Bits : Nat → U16 → U16
  | 0, c => c
  | n + 1, c => crc16Bits n (if c.getLsbD 15 then (c <<< (1 : Nat)) ^^^ 0x1021#16 else c <<< (1 : Nat))

/-- The CRC-16 with polynomial 0x1021 and initial value 0xFFFF. -/
def crc16 (bs : List Byte) : U16 :=
  bs.foldl (fun (c : U16) (b : Byte) => crc16Bits 8 (c ^^^ ((BitVec.setWidth 16 b) <<< (8 : Nat)))) 0xFFFF#16

/-- What a well-formed UTF-8 text still expects: so many further bytes, the next of them within bounds; `none` once the text is bad. -/
def utf8Next (b : Nat) : Option (Nat × Nat × Nat) → Option (Nat × Nat × Nat)
  | none => none
  | some (0, _, _) =>
    if b < 0x80 then some (0, 0, 0)
    else if b < 0xC2 then none
    else if b < 0xE0 then some (1, 0x80, 0xBF)
    else if b = 0xE0 then some (2, 0xA0, 0xBF)
    else if b = 0xED then some (2, 0x80, 0x9F)
    else if b < 0xF0 then some (2, 0x80, 0xBF)
    else if b = 0xF0 then some (3, 0x90, 0xBF)
    else if b < 0xF4 then some (3, 0x80, 0xBF)
    else if b = 0xF4 then some (3, 0x80, 0x8F)
    else none
  | some (n + 1, lo, hi) => if lo ≤ b ∧ b ≤ hi then some (n, 0x80, 0xBF) else none

/-- Is the text well-formed UTF-8 (R435; the form of the encoding PRESUMED Unicode, log entry 52). -/
def utf8Ok (bs : List Byte) : Bool :=
  match bs.foldl (fun st b => utf8Next b.toNat st) (some (0, 0, 0)) with
  | some (0, _, _) => true
  | _ => false

/-- The first forty round constants of SHA-512. -/
def sha512K1 : List Nat := [
  0x428A2F98D728AE22, 0x7137449123EF65CD, 0xB5C0FBCFEC4D3B2F, 0xE9B5DBA58189DBBC,
  0x3956C25BF348B538, 0x59F111F1B605D019, 0x923F82A4AF194F9B, 0xAB1C5ED5DA6D8118,
  0xD807AA98A3030242, 0x12835B0145706FBE, 0x243185BE4EE4B28C, 0x550C7DC3D5FFB4E2,
  0x72BE5D74F27B896F, 0x80DEB1FE3B1696B1, 0x9BDC06A725C71235, 0xC19BF174CF692694,
  0xE49B69C19EF14AD2, 0xEFBE4786384F25E3, 0x0FC19DC68B8CD5B5, 0x240CA1CC77AC9C65,
  0x2DE92C6F592B0275, 0x4A7484AA6EA6E483, 0x5CB0A9DCBD41FBD4, 0x76F988DA831153B5,
  0x983E5152EE66DFAB, 0xA831C66D2DB43210, 0xB00327C898FB213F, 0xBF597FC7BEEF0EE4,
  0xC6E00BF33DA88FC2, 0xD5A79147930AA725, 0x06CA6351E003826F, 0x142929670A0E6E70,
  0x27B70A8546D22FFC, 0x2E1B21385C26C926, 0x4D2C6DFC5AC42AED, 0x53380D139D95B3DF,
  0x650A73548BAF63DE, 0x766A0ABB3C77B2A8, 0x81C2C92E47EDAEE6, 0x92722C851482353B]

/-- The last forty round constants of SHA-512. -/
def sha512K2 : List Nat := [
  0xA2BFE8A14CF10364, 0xA81A664BBC423001, 0xC24B8B70D0F89791, 0xC76C51A30654BE30,
  0xD192E819D6EF5218, 0xD69906245565A910, 0xF40E35855771202A, 0x106AA07032BBD1B8,
  0x19A4C116B8D2D0C8, 0x1E376C085141AB53, 0x2748774CDF8EEB99, 0x34B0BCB5E19B48A8,
  0x391C0CB3C5C95A63, 0x4ED8AA4AE3418ACB, 0x5B9CCA4F7763E373, 0x682E6FF3D6B2B8A3,
  0x748F82EE5DEFB2FC, 0x78A5636F43172F60, 0x84C87814A1F0AB72, 0x8CC702081A6439EC,
  0x90BEFFFA23631E28, 0xA4506CEBDE82BDE9, 0xBEF9A3F7B2C67915, 0xC67178F2E372532B,
  0xCA273ECEEA26619C, 0xD186B8C721C0C207, 0xEADA7DD6CDE0EB1E, 0xF57D4F7FEE6ED178,
  0x06F067AA72176FBA, 0x0A637DC5A2C898A6, 0x113F9804BEF90DAE, 0x1B710B35131C471B,
  0x28DB77F523047D84, 0x32CAAB7B40C72493, 0x3C9EBE0A15C9BEBC, 0x431D67C49C100D4C,
  0x4CC5D4BECB3E42B6, 0x597F299CFC657E2A, 0x5FCB6FAB3AD6FAEC, 0x6C44198C4A475817]

/-- The initial hash words of SHA-512. -/
def sha512H0 : List Nat := [
  0x6A09E667F3BCC908, 0xBB67AE8584CAA73B, 0x3C6EF372FE94F82B, 0xA54FF53A5F1D36F1,
  0x510E527FADE682D1, 0x9B05688C2B3E6C1F, 0x1F83D9ABFB41BD6B, 0x5BE0CD19137E2179]

/-- The eight working words of a SHA-512 round. -/
structure Sha where
  a : U64
  b : U64
  c : U64
  d : U64
  e : U64
  f : U64
  g : U64
  h : U64
  deriving DecidableEq, Repr

/-- One round with the schedule word and constant already added. -/
def shaRound (x : Sha) (kw : U64) : Sha :=
  let s1 := x.e.rotateRight 14 ^^^ x.e.rotateRight 18 ^^^ x.e.rotateRight 41
  let ch := (x.e &&& x.f) ^^^ ((~~~ x.e) &&& x.g)
  let t1 := x.h + s1 + ch + kw
  let s0 := x.a.rotateRight 28 ^^^ x.a.rotateRight 34 ^^^ x.a.rotateRight 39
  let maj := (x.a &&& x.b) ^^^ (x.a &&& x.c) ^^^ (x.b &&& x.c)
  { a := t1 + s0 + maj, b := x.a, c := x.b, d := x.c, e := x.d + t1, f := x.e, g := x.f, h := x.g }

/-- Rounds over the remaining constants, with a sliding window of sixteen schedule words. -/
def shaRounds : List Nat → List U64 → Sha → Sha
  | [], _, x => x
  | k :: ks, w, x =>
    let w0 := w.getD 0 0
    let w1 := w.getD 1 0
    let w14 := w.getD 14 0
    let s0 := w1.rotateRight 1 ^^^ w1.rotateRight 8 ^^^ (w1 >>> (7 : Nat))
    let s1 := w14.rotateRight 19 ^^^ w14.rotateRight 61 ^^^ (w14 >>> (6 : Nat))
    shaRounds ks (w.drop 1 ++ [w0 + s0 + w.getD 9 0 + s1]) (shaRound x (BitVec.ofNat 64 k + w0))

/-- One 128 B block. -/
def shaBlock (h : Sha) (blk : List Byte) : Sha :=
  let w := (List.range 16).map (fun i => BitVec.ofNat 64 (natOfBE ((blk.drop (8 * i)).take 8)))
  let r := shaRounds (sha512K1 ++ sha512K2) w h
  { a := h.a + r.a, b := h.b + r.b, c := h.c + r.c, d := h.d + r.d,
    e := h.e + r.e, f := h.f + r.f, g := h.g + r.g, h := h.h + r.h }

/-- `n` blocks of a padded message. -/
def shaBlocks : Nat → List Byte → Sha → Sha
  | 0, _, h => h
  | n + 1, m, h => shaBlocks n (m.drop 128) (shaBlock h (m.take 128))

/-- The padding of SHA-512: 0x80, zeros, the bit length in 16 bytes. -/
def shaPad (len : Nat) : List Byte :=
  0x80#8 :: (List.replicate ((239 - len % 128) % 128) 0#8 ++ beOfNat 16 (8 * len))

/-- SHA-512, which the spec names without restating it (PRESUMED FIPS 180-4, log entry 3). -/
def sha512 (m : List Byte) : List Byte :=
  let p := m ++ shaPad m.length
  let i := fun k => BitVec.ofNat 64 (sha512H0.getD k 0)
  let r := shaBlocks (p.length / 128) p ⟨i 0, i 1, i 2, i 3, i 4, i 5, i 6, i 7⟩
  (beOfNat 8 r.a.toNat ++ beOfNat 8 r.b.toNat ++ beOfNat 8 r.c.toNat ++ beOfNat 8 r.d.toNat)
    ++ (beOfNat 8 r.e.toNat ++ beOfNat 8 r.f.toNat ++ beOfNat 8 r.g.toNat ++ beOfNat 8 r.h.toNat)

/-- The first eight bytes of SHA-512, read big-endian: the digests of R14, R125 and R236. -/
def sha512Head (m : List Byte) : U64 := BitVec.ofNat 64 (natOfBE ((sha512 m).take 8))

end Sys2Proof.Machine
end

