-- ==== Sys2Proof/Machine/Grid.lean ====
section
/-! DEFINITION. The logical grid over the shadow map: physical tiles and zones, row steering, the shadow-map entries and their digest, hop
times and the distance tables (R22 to R37, R167, R169, R196). -/

namespace Sys2Proof.Machine

/-- The shadow map in force and the grid that S2 builds from it (R29). `rows` is n of R23; 0 when no grid is presented. -/
structure Grid where
  gradeFused : Nat
  rows : Nat
  /-- ROWS_PER_FIELD: n of R23, also when adjacent shadowed rows leave no grid -/
  perField : Nat
  /-- applied entries with their SOURCE -/
  entries : List U32
  /-- local physical rows shadowed and used, field by field (R33) -/
  shadowed : Vector U16 8
  used : Vector U16 8
  digest : U64
  /-- the byte string of R32 -/
  enc : List Byte
  deriving DecidableEq, Repr

/-- Before S2 nothing is applied. -/
def Grid.reset : Grid := ⟨0, 0, 0, [], Vector.replicate 8 0, Vector.replicate 8 0, 0, []⟩

/-- Physical names (R22). -/
def fieldOf (px py : Nat) : Nat := 4 * (py / 16) + px / 12
def zoneOf (px py : Nat) : Nat := 6 * fieldOf px py + 3 * (py % 16 / 8) + px % 12 / 4

/-- Fields of a shadow-map entry (R31). -/
def smKind (w : U32) : Nat := fieldN w.toNat 28 4
def smSource (w : U32) : Nat := fieldN w.toNat 24 4
def smLoc (w : U32) : Nat := w.toNat % 2 ^ 24
def smEntry (kind source loc : Nat) : U32 := BitVec.ofNat 32 (kind * 2 ^ 28 + source * 2 ^ 24 + loc)

/-- An entry that S2 applies: no reserved code, no set bit that is written 0, a locator that exists (R31, R212). -/
def smValid (w : U32) : Bool :=
  let l := smLoc w
  decide (smSource w ≤ 1) &&
  match smKind w with
  | 1 => decide (l < 2 ^ 7)
  | 2 => decide (fieldN l 13 11 < 1536)
  | 3 => decide (fieldN l 13 11 < 1536) && fieldN l 9 3 == 0
  | 4 => decide (l < 2 ^ 13) && decide (fieldN l 8 5 < 18) && fieldN l 4 4 == 0 && decide (fieldN l 0 4 < 9)
  | 5 => if fieldN l 18 2 = 0 then fieldN l 0 7 == 0
         else fieldN l 18 2 == 1 && decide (fieldN l 15 3 < 6) && fieldN l 7 7 == 0 && decide (fieldN l 0 7 < 67)
  | 6 => decide (fieldN l 11 4 < 12)
  | _ => false

/-- Insert into a rising list without repeats. -/
def insertU32 (w : U32) : List U32 → List U32
  | [] => [w]
  | v :: vs => if w.toNat < v.toNat then w :: v :: vs else if w = v then v :: vs else v :: insertU32 w vs

def sortU32 (l : List U32) : List U32 := l.foldr insertU32 []

/-- The canonical encoding and its digest (R32). -/
def shadowEnc (n : Nat) (applied : List U32) : List Byte :=
  [0x01, BitVec.ofNat 8 n, 0, 0] ++
    (sortU32 (applied.map (fun w => BitVec.ofNat 32 (w.toNat / 2 ^ 28 * 2 ^ 28 + smLoc w)))).flatMap (fun w => beOfNat 4 w.toNat)

/-- Rows shadowed in a field. -/
def shadowMask (applied : List U32) (f : Nat) : U16 :=
  applied.foldl (fun m w => if smKind w = 1 ∧ fieldN (smLoc w) 4 3 = f then m ||| (1#16 <<< (smLoc w % 16)) else m) 0

def popc16 (m : U16) : Nat := ((upTo 16).filter (bitOf m)).length

/-- The n used rows: lowest in a bottom field, highest in a top field (R24). -/
def usedMask (n : Nat) (top : Bool) (sh : U16) : U16 :=
  let free := (upTo 16).filter (fun r => ! bitOf sh r)
  let pick := if top then free.drop (free.length - n) else free.take n
  pick.foldl (fun m r => m ||| (1#16 <<< r)) 0

/-- Two vertically adjacent shadowed rows in a column of fields, the seam pair 15 and 16 included (R27, R28). -/
def adjacentShadow (sh : Nat → U16) : Bool :=
  (upTo 4).any (fun fx =>
    let col := fun py => if py < 16 then bitOf (sh fx) py else bitOf (sh (4 + fx)) (py - 16)
    (upTo 31).any (fun py => col py && col (py + 1)))

/-- The grid of a set of applied entries under the fused grade (R23 to R29). -/
def buildGrid (gradeFused : Nat) (applied : List U32) : Grid :=
  let sh := shadowMask applied
  let nFused := gradeFused / 96
  let nGood := (upTo 8).foldl (fun m f => min m (16 - popc16 (sh f))) 16
  let n0 := min nFused nGood
  let n := if n0 < 13 ∨ adjacentShadow sh then 0 else n0
  let enc := shadowEnc n0 applied
  { gradeFused := gradeFused, rows := n, perField := n0, entries := applied, shadowed := Vector.ofFn (fun f => sh f.val),
    used := Vector.ofFn (fun f => usedMask n (decide (4 ≤ f.val)) (sh f.val)), digest := sha512Head enc, enc := enc }

/-- Used rows of a field, rising. -/
def Grid.usedRows (g : Grid) (f : Nat) : List Nat := (upTo 16).filter (bitOf (g.used.toList.getD f 0))

def Grid.logicalRows (g : Grid) : Nat := 2 * g.rows

/-- Physical row of logical row `y` in the column of fields of logical column `x` (R25). -/
def Grid.physRow (g : Grid) (x y : Nat) : Nat :=
  if y < g.rows then (g.usedRows (x / 12)).getD y 0 else 16 + (g.usedRows (4 + x / 12)).getD (y - g.rows) 0

/-- Logical row that a physical row carries in a column of fields. -/
def Grid.logRow (g : Grid) (x py : Nat) : Option Nat := (upTo g.logicalRows).find? (fun y => g.physRow x y == py)

/-- A tile is in the logical grid. -/
def Grid.hasTile (g : Grid) (t : Nat) : Bool := decide (t < 48 * g.logicalRows)

/-- Zone of a logical tile. -/
def Grid.zone (g : Grid) (x y : Nat) : Nat := zoneOf x (g.physRow x y)
def Grid.tileZone (g : Grid) (t : Nat) : Nat := g.zone (t % 48) (t / 48)

/-- Physical index of a logical tile. -/
def Grid.phys (g : Grid) (t : Nat) : Nat := 48 * g.physRow (t % 48) (t / 48) + t % 48

/-- Logical index of a physical tile. -/
def Grid.logical (g : Grid) (p : Nat) : Option Nat := (g.logRow (p % 48) (p / 48)).map (fun y => 48 * y + p % 48)

/-- Attachment rows of the links of an edge (R35). -/
def attachRows : List Nat := [0, 2, 3, 5, 7, 9, 10, 12, 14, 17, 19, 21, 22, 24, 26, 28, 29, 31]

/-- The logical row where link L(k) joins and the rows moved (R35). -/
def Grid.attach (g : Grid) (k : Nat) : Nat × Nat :=
  let x := if k < 18 then 0 else 47
  let py := attachRows.getD (k % 18) 0
  let cand := (upTo g.logicalRows).filter (fun y => g.physRow x y / 16 == py / 16)
  let dist := fun y => (g.physRow x y - py) + (py - g.physRow x y)
  match cand with
  | [] => (0, 0)
  | c :: cs => let y := cs.foldl (fun b y => if dist y < dist b then y else b) c
               (y, dist y)

/-- Does some link join at this router of the left or right edge (R167). -/
def Grid.linkRow (g : Grid) (right : Bool) (y : Nat) : Bool := (upTo 18).any (fun j => (g.attach (if right then 18 + j else j)).1 == y)

/-- What a port of a router joins (R167). -/
inductive PortTo where
  | router (x y : Nat) | engineEdge (top : Bool) | linkSwitch (right : Bool) | local | unconnected
  deriving DecidableEq, Repr

def Grid.portTo (g : Grid) (x y : Nat) (p : Nat) : PortTo :=
  match p with
  | 0 => if y + 1 < g.logicalRows then .router x (y + 1) else .engineEdge true
  | 1 => if x < 47 then .router (x + 1) y else if g.linkRow true y then .linkSwitch true else .unconnected
  | 2 => if 0 < y then .router x (y - 1) else .engineEdge false
  | 3 => if 0 < x then .router (x - 1) y else if g.linkRow false y then .linkSwitch false else .unconnected
  | 4 => .local
  | _ => .unconnected

/-- Cycles of a vertical hop from logical row `y` to `y + 1` in the column of fields `fx` (R21, R27, R30). -/
def Grid.vHop (g : Grid) (fx y : Nat) : Nat :=
  let a := g.physRow (12 * fx) y
  let b := g.physRow (12 * fx) (y + 1)
  2 + (b - a - 1) + (if a < 16 ∧ 16 ≤ b then 1 else 0)

/-- Steered rows between the edge used row and the port router (R27, R196). -/
def Grid.edgeSteer (g : Grid) (x : Nat) (top : Bool) : Nat :=
  if top then 31 - g.physRow x (g.logicalRows - 1) else g.physRow x 0

/-- Cycles of the hop that leaves router (x, y) by port `p` (R169). -/
def Grid.hop (g : Grid) (x y p : Nat) : Nat :=
  match p with
  | 0 => if y + 1 < g.logicalRows then g.vHop (x / 12) y else 2 + g.edgeSteer x true
  | 2 => if 0 < y then g.vHop (x / 12) (y - 1) else 2 + g.edgeSteer x false
  | 1 => if x < 47 ∧ (x + 1) % 12 = 0 then 3 else 2
  | 3 => if 0 < x ∧ x % 12 = 0 then 3 else 2
  | _ => 0

/-- First entry column of a stack (R34). -/
def entryCol (i : Nat) : Nat := 12 * (i % 8 / 2) + 6 * (i % 2)
def stackTop (i : Nat) : Bool := decide (8 ≤ i)

/-- Columns of fields from one to another, in order. -/
def fieldPath (a b : Nat) : List Nat := if a ≤ b then (upTo (b + 1 - a)).map (a + ·) else (upTo (a + 1 - b)).map (a - ·)

/-- One vertical crossing added to the least costs of ending it in each column of fields of the path: the column never goes back. -/
def vStep (cost : Nat → Nat) : Option Nat → List (Nat × Nat) → List (Nat × Nat)
  | _, [] => []
  | best, (f, c) :: rest =>
    let m := match best with | none => c | some b => min b c
    (f, m + cost f) :: vStep cost (some m) rest

/-- Least cost of the vertical part over all fewest-hop routes between columns `x` and `xc` (R34). `crossings` gives, for each
vertical hop in order, its cost in a column of fields. -/
def vRoute (x xc : Nat) (crossings : List (Nat → Nat)) : Nat :=
  let start := (fieldPath (x / 12) (xc / 12)).map (fun f => (f, 0))
  let done := crossings.foldl (fun st c => vStep c none st) start
  match done.map Prod.snd with
  | [] => 0
  | d :: ds => ds.foldl min d

/-- Cycles of the horizontal hops between two columns. -/
def hRoute (x xc : Nat) : Nat :=
  2 * ((x - xc) + (xc - x)) + ((x / 12 - xc / 12) + (xc / 12 - x / 12))

/-- Vertical crossings from logical row `y` to `yd`, in order. -/
def Grid.crossings (g : Grid) (y yd : Nat) : List (Nat → Nat) :=
  if y ≤ yd then (upTo (yd - y)).map (fun i => fun f => g.vHop f (y + i))
  else (upTo (y - yd)).map (fun i => fun f => g.vHop f (y - 1 - i))

/-- Distance of a logical tile to a stack (R34). -/
def Grid.distStack (g : Grid) (x y i : Nat) : Nat :=
  let a := entryCol i
  let xc := if x < a then a else if a + 5 < x then a + 5 else x
  let top := stackTop i
  let edge := fun (f : Nat) => 2 + g.edgeSteer (12 * f) top
  let cr := (if top then g.crossings y (g.logicalRows - 1) else g.crossings y 0)
  -- the hop into the port router is made in the entry column
  hRoute x xc + (vRoute x xc (cr ++ [fun f => if f = xc / 12 then edge f else 100000]))

/-- Distance of a logical tile to a link (R35). -/
def Grid.distLink (g : Grid) (x y k : Nat) : Nat :=
  let xc := if k < 18 then 0 else 47
  let a := g.attach k
  hRoute x xc + vRoute x xc (g.crossings y a.1) + 2 + a.2

/-- Member links of a port under a grouping of 6 or 12 ports (R384). -/
def portLinks (grouping p : Nat) : List Nat := if grouping = 6 then (upTo 6).map (6 * p + ·) else (upTo 3).map (3 * p + ·)

/-- The distance table (R36). -/
def Grid.distTable (g : Grid) (present linkDies : Nat) (grouping : Nat) : List Byte :=
  let hdr := [0x01, (if g.rows = 0 then 0 else 48), BitVec.ofNat 8 g.logicalRows, 16, 36, 12, BitVec.ofNat 8 grouping, 0] ++
    beOfNat 8 g.digest.toNat
  let linkIn := fun k => linkDies.testBit (k / 2)
  let dl := fun x y k => if linkIn k then g.distLink x y k else 255
  let rec_ := fun t =>
    let x := t % 48
    let y := t / 48
    let ls := (upTo 36).map (dl x y)
    let port := fun p => if p < grouping then
        let ms := (portLinks grouping p).filter linkIn
        if ms.isEmpty then 255 else ms.foldl (fun m k => max m (ls.getD k 0)) 0
      else 255
    ((upTo 16).map (fun i => if present.testBit i then g.distStack x y i else 255) ++ ls ++ (upTo 12).map port).map (BitVec.ofNat 8)
  hdr ++ (upTo (48 * g.logicalRows)).flatMap rec_

end Sys2Proof.Machine
end

