-- ==== Sys2Proof/Machine/BootTypes.lean ====
section
/-! DEFINITION. What the fuses and the life record hold, and what a start holds (chapters 10, 12, 13 and 17). -/

namespace Sys2Proof.Machine

/-- A field-defect entry (R277). -/
structure Defect where
  entry : U32
  tally : Nat
  origin : Nat
  slot : Nat
  cause : Nat
  deriving DecidableEq, Repr

/-- A retry entry (R365). -/
structure Retry where
  stage : Nat
  item : Nat
  unit : Nat
  action : Nat
  cleanSeen : Nat
  cleanReq : Nat
  cause : Nat
  tally : Nat
  deriving DecidableEq, Repr

/-- A start log entry (R367). -/
structure StartLog where
  startNo : Nat
  kind : Nat
  outcome : Nat
  failed : Nat
  passes : Nat
  t0 : Nat
  stageMs : List Nat
  grade : Nat
  stackMask : Nat
  linkDies : Nat
  zonesOn : Nat
  deriving DecidableEq, Repr

/-- The lifetime counts (R345), which lose at most what came after the last commit. -/
structure LifeCounts where
  poweredTk : Nat
  thermalCycles : Nat
  energyUj : Nat
  trips : Nat
  regFailures : Nat
  powerFaults : Nat
  /-- tally counts with VSTQ up, by stack; with laser light, by link die -/
  stackTk : Vector Nat 16
  laserTk : Vector Nat 18
  /-- tally counts ON and wear by zone, wear in units of tally counts weighted 1, 2 and 4 -/
  zoneTk : Vector Nat 48
  wearTk : Vector Nat 48
  deriving DecidableEq, Repr

def LifeCounts.reset : LifeCounts :=
  ⟨0, 0, 0, 0, 0, 0, Vector.replicate 16 0, Vector.replicate 18 0, Vector.replicate 48 0, Vector.replicate 48 0⟩

/-- A fault written to the life record: a failed regulator die, a trip, a ledger break or a power fault, with its unit, cause and tally. -/
structure LifeFault where
  kind : Nat
  unit : Nat
  cause : Nat
  tally : Nat
  deriving DecidableEq, Repr

/-- The life record on the host edge die. -/
structure Life where
  defects : List Defect
  overflowHeld : Nat
  overflows : Nat
  rejects : Nat
  retry : List Retry
  log : List StartLog
  startNo : Nat
  cleanStarts : Nat
  mgmtResets : Nat
  counts : LifeCounts
  /-- as last committed -/
  committed : LifeCounts
  faults : List LifeFault
  /-- recorded training of the stacks and of the link dies, bit by bit (R358, R376) -/
  stackTraining : Nat
  linkTraining : Nat
  granule : Nat
  /-- image slots: management and Ecmet -/
  mgmtImages : Vector (List Byte) 2
  ecmetImages : Vector (List Byte) 2
  lastBoot : Nat
  ecmetSlot : Nat
  /-- the identity certificate and its chain -/
  certChain : List Byte
  /-- other kept values of the dictionary, and the frozen objects, by index·256 + sub-index -/
  kept : List (Nat × List Byte)
  frozen : List Nat
  deriving DecidableEq, Repr

/-- The fuses: variant (R20), protection block and factory entries (R1, R23, R453). Field-changeable values as they read. -/
structure Fuses where
  grade : Nat
  stacksFitted : U16
  linkDiesFitted : BitVec 18
  linkDiesDisabled : BitVec 18
  binMax : Nat
  powerLimit : Nat
  updateEngines : Bool
  stepping : Nat
  serial : Nat
  /-- VLOG target in mV for 1,200 MHz and each 100 MHz step above (R320) -/
  vf : List Nat
  factory : List U32
  keyHash : Vector (List Byte) 4
  keyRoles : U16
  keyRevoked : BitVec 4
  rollback : Nat
  debugLock : Nat
  writePolicy : Vector Byte 4
  identitySeed : List Byte
  ordering : List Byte
  /-- PCIE_IDS (R434), and the part and manufacturer fields of IDCODE (R466) -/
  pcieIds : Nat
  jtagIds : Nat
  deriving DecidableEq, Repr

/-- A verified Ecmet image: its envelope with the payload, and what the device forms of it (R125, R236, R361, R458). -/
structure FwImage where
  bytes : List Byte
  version : Nat
  /-- TILE_DIGEST of the envelope, and the tile digest of the section -/
  tileDigest : Nat
  secDigest : Nat
  imageDigest : Nat
  fnDigest : Nat
  deriving DecidableEq, Repr

/-- The tile section (R458). -/
def FwImage.sec (f : FwImage) : List Byte := f.bytes.drop 256

/-- A start in progress or ended (R348 to R372), and the firmware update. -/
structure BootSt where
  /-- VIN12 has been applied since the last loss -/
  powered : Bool
  /-- the next stage: 0 to 9; 10 when the start has ended -/
  stage : Nat
  kind : Nat
  outcome : Nat
  status : Nat
  elapsedMs : Nat
  t0 : Nat
  failedItems : Nat
  passes : Nat
  stageMs : List Nat
  /-- S8 has ended -/
  s8Done : Bool
  mgmt : Bool
  mgmtSlot : Nat
  mgmtVersion : Nat
  newRetry : Bool
  newDefect : Bool
  reduced : Bool
  /-- actions fixed at S2: item, unit, action; and whether the normal path is tried again (R366) -/
  actions : List (Nat × Nat × Nat × Bool)
  /-- DEVICE_ID_IN_FORCE and other values fixed at S2 -/
  deviceId : Nat
  /-- items whose budget has expired in this start: kind and unit (R350) -/
  left : List (Nat × Nat)
  /-- Ecmet image in force, and the staged one -/
  image : Option FwImage
  staged : Option FwImage
  stageAddr : U64
  updState : Nat
  laggards : List Nat
  /-- the next chunk to leave; 64 for the final packet, 65 after it -/
  nextChunk : Nat
  /-- broadcasts asked for again in an S7 without stacks (R360) -/
  rounds : Nat
  /-- chunks staged, by tile, bit by bit -/
  chunks : SMap Nat
  /-- tiles that have reported: in S7 and in an update -/
  reported : List Nat
  /-- FEATURE_GENERATION (R446) -/
  featGen : Nat
  deriving DecidableEq, Repr

def BootSt.reset : BootSt :=
  { powered := false, stage := 0, kind := 0, outcome := 0xFF, status := 0, elapsedMs := 0, t0 := 0, failedItems := 0, passes := 0, stageMs := [],
    s8Done := false, mgmt := false, mgmtSlot := 0, mgmtVersion := 0, newRetry := false, newDefect := false, reduced := false, actions := [],
    deviceId := 0, left := [], image := none, staged := none, stageAddr := 0, updState := 0, laggards := [], nextChunk := 0, rounds := 0,
    chunks := [], reported := [], featGen := 1 }

end Sys2Proof.Machine
end

