-- ==== Sys2Proof/Machine/ClkTypes.lean ====
section
/-! DEFINITION. What the clock system and the tally hold (chapter 11). -/

namespace Sys2Proof.Machine

/-- A copy of another zone's stretch (R295): origin, sequence number, the cycle of the zone's stretch at which the copy starts, length. -/
structure StretchCopy where
  origin : Nat
  seq : Nat
  start : Nat
  len : Nat
  deriving DecidableEq, Repr

/-- A stretch in progress in a zone, in cycles from its start (R294, R295). -/
structure Stretch where
  /-- start and length of the part that the zone's own detectors decide; none in a pure copy -/
  own : Option (Nat × Nat)
  copies : List StretchCopy
  deriving DecidableEq, Repr

/-- The clock of one zone (R294, R298, R314, R315, R321, R333). -/
structure ZoneClk where
  lock : Bool
  slips : Nat
  stretches : Nat
  stretch : Option Stretch
  seq : Nat
  /-- the last notice of each origin acted on -/
  seen : List StretchCopy
  recharging : Bool
  /-- highest step at which the timing-margin monitors show margin; 0 when there is none -/
  margin : Nat
  /-- voltage-headroom ceiling in force -/
  headroom : Option Nat
  /-- temperature ceiling in force, with its fall-back rule -/
  tempCeil : Nat
  /-- samples in a row that would allow a higher temperature ceiling, and the lowest that they allow -/
  coolTicks : Nat
  coolCeil : Nat
  deriving DecidableEq, Repr

def ZoneClk.reset : ZoneClk := ⟨false, 0, 0, none, 0, [], false, 3600, none, 3600, 0, 3600⟩

/-- The clock system. -/
structure ClkSt where
  freq : Nat
  target : Nat
  limiter : Nat
  pending : Nat
  pendingTally : Nat
  /-- an announcement that waits behind the pending switch (R301) -/
  next : Option (Nat × Nat)
  request : Nat
  /-- the frequency whose voltage the groups are raising to (R300) -/
  upWait : Option Nat
  /-- tally at which the target fell below the frequency in force (R299) -/
  fallAt : Option Nat
  /-- a plan fence has come since -/
  fenceSeen : Bool
  guard : Bool
  /-- the VLOG target is to be lowered 2 tk after a step down -/
  lowerAt : Option Nat
  refState : Nat
  refSpread : Nat
  shimmerOn : Bool
  shimmerOffset : Nat
  zones : Vector ZoneClk 48
  /-- crossings that have slipped since the last fence, tile·8 + port (R293) -/
  slipped : List Nat
  deriving DecidableEq, Repr

def ClkSt.reset : ClkSt :=
  { freq := 1200, target := 1200, limiter := 0x1000, pending := 0, pendingTally := 0, next := none, request := 3600, upWait := none,
    fallAt := none, fenceSeen := false, guard := false, lowerAt := none, refState := 0, refSpread := 0, shimmerOn := true, shimmerOffset := 0,
    zones := Vector.replicate 48 ZoneClk.reset, slipped := [] }

/-- A tally-scheduled event that has come due and waits for the command that carries it out (R311). -/
inductive Due where
  | freqSwitch | vlogLower | wcmp | energy | token | lifeCommit
  deriving DecidableEq, Repr

/-- TALLY_STATE codes (R308). -/
def tsAbsent : Nat := 0
def tsFree : Nat := 1
def tsLocked : Nat := 2
def tsHoldover : Nat := 3
def tsSlewing : Nat := 4
def tsDisagree : Nat := 5

/-- The tally (R305 to R313). -/
structure TallySt where
  now : Nat
  state : Nat
  selected : Nat
  inUse : Nat
  epochNext : Option Nat
  /-- a mark with a written epoch has been taken since ABSENT -/
  marked : Bool
  offset : Int
  slewLeft : Int
  /-- counts since the last slew step -/
  slewPhase : Nat
  /-- source edges since the last interruption (R309) -/
  edges : Nat
  holdoverTk : Nat
  losses : Nat
  glitches : Nat
  origin : Nat
  /-- origins in force with the tally at which each was written -/
  origins : List (Nat × Nat)
  /-- the links give a tally -/
  linkLive : Bool
  due : List Due
  deriving DecidableEq, Repr

def TallySt.reset : TallySt :=
  { now := 0, state := 0, selected := 0, inUse := 0, epochNext := none, marked := false, offset := 0, slewLeft := 0, slewPhase := 0, edges := 0,
    holdoverTk := 0, losses := 0, glitches := 0, origin := 0, origins := [], linkLive := false, due := [] }

end Sys2Proof.Machine
end

