-- ==== Sys2Proof/Config.lean ====
section
/-! DEFINITION. The constants of the part that the model runs, and the free values: constants without a body, of which nothing can be
proved but what holds for every value. -/

namespace Sys2Proof

/-- Whether fma(0, ∞, quiet NaN) raises invalid: IEEE 754 leaves it to the implementation and R119 adds no choice (log entry 4). -/
opaque Config.fmaInvalidOnQuietNaN : Bool

/-- Ed25519 verification of a signature over a message with a public key: the spec names RFC 8032 and restates nothing (log entry 6). -/
opaque Config.ed25519Verify : List Byte → List Byte → List Byte → Bool

/-- The 64 bytes of an Ed25519 signature over a message with a 32 B seed (log entry 6). -/
opaque Config.ed25519Sign : List Byte → List Byte → Nat

/-- The 32 bytes of the public key of a seed (log entry 6). -/
opaque Config.ed25519PublicKey : List Byte → Nat

/-- The n-th random number that the device draws (log entry 7). -/
opaque Config.randomDraw : Nat → Nat

/-- The sample of a voltage sensor, by selector and number of the reading: the spec gives it no value (log entry 14). -/
opaque Config.sensorSample : Nat → Nat → Nat

/-- The data of a line that leaves or is written poisoned because it never came (R211): the spec gives it none (log entry 16). -/
opaque Config.missingLine : Nat → Nat

/-- Channel, DRAM die, bank and row block of a stack's page, as one number: the base die decides the placement internally (R197, log
entry 23). -/
opaque Config.rowBlock : Nat → Nat

/-- Whether the management processor takes a message or a write that a core sends it, by header word: the spec states no result (log
entry 20). -/
opaque Config.managerTakes : Nat → Bool

/-- Which of two equally near multiples of 2^16 is the nearest (R306, log entry 26). -/
opaque Config.markTieUp : Bool

/-- START_STATUS after the first failed item, by kind and cause: the spec names no status for it (R372, log entry 30). -/
opaque Config.startStatus : Nat → Nat → Nat

/-- BOOT_ROM_ID (R421, R443): the spec gives no value (log entry 40). -/
opaque Config.bootRomId : Nat

/-- ETH_MAC at manufacture, by SERIAL: from the identity, in a way the spec does not give (R434, log entry 41). -/
opaque Config.ethMac : Nat → Nat

/-- The addresses that DHCPv4 and SLAAC give, by number of the draw: they come from outside (R422, log entry 41). -/
opaque Config.dhcpAddress : Nat → Nat
opaque Config.slaacAddress : Nat → Nat

/-- A dword of the configuration space, by offset and what was last written to it: the spec fixes no layout (R406, log entry 42). -/
opaque Config.configDword : Nat → Nat → Nat

/-- The public key whose hash a key slot holds, which a maintenance command or an unlock response is checked with (R465, R467, log entry 37). -/
opaque Config.slotKey : List Byte → List Byte

/-- What a failed fuse programming leaves (R454, log entry 43). -/
opaque Config.fusePartial : Nat → Nat

/-- The bytes over which measurement block 4 is formed, of the protection fields it names (R421, log entry 36). -/
opaque Config.fuseFieldBytes : List Byte → List Byte

/-- The status of a DBG_RESPONSE that grants nothing: the spec states none (R467, log entry 44). -/
opaque Config.unlockFailStatus : Nat

/-- What the boundary cells capture at the pins (R466, log entry 45). -/
opaque Config.pinSample : Nat → Nat

/-- CTExponent of the SPDM CAPABILITIES answer (R420, log entry 46). -/
opaque Config.spdmCtExponent : Nat

end Sys2Proof
end

