-- ==== Sys2Proof/Machine/Float.lean ====
section
/-! DEFINITION. IEEE 754 binary32 and binary16 values by exact integer arithmetic and one rounding (R119), with the sticky flags. -/

namespace Sys2Proof.Machine

/-- A binary format: significand bits, exponent of the least subnormal bit, width. -/
structure FFmt where
  p : Nat
  emin : Int
  w : Nat
  deriving DecidableEq, Repr

def f32 : FFmt := ⟨24, -149, 32⟩
def f16 : FFmt := ⟨11, -24, 16⟩

/-- A decoded value: (−1)^neg · m · 2^e. -/
inductive FVal where
  | nan (signalling : Bool)
  | inf (neg : Bool)
  | fin (neg : Bool) (m : Nat) (e : Int)
  deriving DecidableEq, Repr

/-- Result bits with the VFLAGS they raise: [4] invalid, [3] divide by zero, [2] overflow, [1] underflow, [0] inexact. -/
structure FRes where
  bits : Nat
  flags : BitVec 5
  deriving DecidableEq, Repr

/-- The exponent field of all ones. -/
def FFmt.maxEx (f : FFmt) : Nat := 2 ^ (f.w - f.p) - 1

/-- The bits of infinity without its sign. -/
def FFmt.infBits (f : FFmt) : Nat := f.maxEx * 2 ^ (f.p - 1)

/-- The one quiet NaN of results (R119). -/
def FFmt.qnan (f : FFmt) : Nat := f.infBits + 2 ^ (f.p - 2)

def FFmt.signBit (f : FFmt) (neg : Bool) : Nat := if neg then 2 ^ (f.w - 1) else 0

/-- Read a lane. -/
def FFmt.decode (f : FFmt) (bits : Nat) : FVal :=
  let neg := bits / 2 ^ (f.w - 1) % 2 == 1
  let ex := bits / 2 ^ (f.p - 1) % 2 ^ (f.w - f.p)
  let m := bits % 2 ^ (f.p - 1)
  if ex = f.maxEx then
    if m = 0 then .inf neg else .nan (m < 2 ^ (f.p - 2))
  else if ex = 0 then .fin neg m f.emin
  else .fin neg (m + 2 ^ (f.p - 1)) (f.emin + (ex : Int) - 1)

/-- n ÷ d to nearest with ties to even, and whether it was exact. -/
def rneDiv (n d : Nat) : Nat × Bool :=
  let q := n / d
  let r := n % d
  let q' := if 2 * r > d then q + 1 else if 2 * r = d ∧ q % 2 = 1 then q + 1 else q
  (q', r == 0)

/-- floor(log2 (n ÷ d)) for positive n and d. -/
def floorLog2Q (n d : Nat) : Int :=
  let l : Int := (n.log2 : Int) - (d.log2 : Int)
  if 0 ≤ l then (if n < d * 2 ^ l.toNat then l - 1 else l)
  else (if n * 2 ^ (-l).toNat < d then l - 1 else l)

/-- The quotient n ÷ d scaled by 2^x, as a quotient of naturals. -/
def scaleQ (n d : Nat) (x : Int) : Nat × Nat :=
  if 0 ≤ x then (n * 2 ^ x.toNat, d) else (n, d * 2 ^ (-x).toNat)

/-- Round the magnitude n ÷ d · 2^x once (R119). Underflow is judged after rounding with an unbounded exponent. -/
def FFmt.round (f : FFmt) (neg : Bool) (n d : Nat) (x : Int) : FRes :=
  if n = 0 then ⟨f.signBit neg, 0⟩ else
  let nd := scaleQ n d x
  let l := floorLog2Q nd.1 nd.2
  let e := max (l - (f.p - 1 : Nat)) f.emin
  let s := scaleQ nd.1 nd.2 (-e)
  let q := rneDiv s.1 s.2
  let bits := (e - f.emin).toNat * 2 ^ (f.p - 1) + q.1
  if f.infBits ≤ bits then ⟨f.signBit neg + f.infBits, 0b00101#5⟩ else
  let su := scaleQ nd.1 nd.2 ((f.p - 1 : Nat) - l)
  let qu := (rneDiv su.1 su.2).1
  let lu := if qu = 2 ^ f.p then l + 1 else l
  let tiny := decide (lu < f.emin + (f.p - 1 : Nat))
  ⟨f.signBit neg + bits, if q.2 then 0 else if tiny then 0b00011#5 else 0b00001#5⟩

/-- Round an exact signed dyadic m · 2^e; a zero takes the sign given. -/
def FFmt.roundInt (f : FFmt) (zneg : Bool) (m : Int) (e : Int) : FRes :=
  if m = 0 then ⟨f.signBit zneg, 0⟩ else f.round (m < 0) m.natAbs 1 e

def FFmt.nanRes (f : FFmt) (invalid : Bool) : FRes := ⟨f.qnan, if invalid then 0b10000#5 else 0⟩

def FVal.isSnan : FVal → Bool
  | .nan s => s
  | _ => false

def FVal.isNan : FVal → Bool
  | .nan _ => true
  | _ => false

def FVal.signed (neg : Bool) (m : Nat) : Int := if neg then -(m : Int) else m

/-- Fused multiply-add, rounded once (R119). Invalid for 0 · ∞ with a quiet NaN addend is the implementation's (log entry 4). -/
def FFmt.fma (f : FFmt) (a b c : FVal) : FRes :=
  let sn := a.isSnan || b.isSnan || c.isSnan
  match a, b with
  | .nan _, _ => f.nanRes sn
  | _, .nan _ => f.nanRes sn
  | .inf na, .fin nb mb _ =>
    if mb = 0 then (match c with | .nan s => f.nanRes (s || Config.fmaInvalidOnQuietNaN) | _ => f.nanRes true) else
    (match c with
     | .nan _ => f.nanRes sn
     | .inf nc => if (na != nb) == nc then ⟨f.signBit nc + f.infBits, 0⟩ else f.nanRes true
     | .fin _ _ _ => ⟨f.signBit (na != nb) + f.infBits, 0⟩)
  | .fin na ma _, .inf nb =>
    if ma = 0 then (match c with | .nan s => f.nanRes (s || Config.fmaInvalidOnQuietNaN) | _ => f.nanRes true) else
    (match c with
     | .nan _ => f.nanRes sn
     | .inf nc => if (na != nb) == nc then ⟨f.signBit nc + f.infBits, 0⟩ else f.nanRes true
     | .fin _ _ _ => ⟨f.signBit (na != nb) + f.infBits, 0⟩)
  | .inf na, .inf nb =>
    (match c with
     | .nan _ => f.nanRes sn
     | .inf nc => if (na != nb) == nc then ⟨f.signBit nc + f.infBits, 0⟩ else f.nanRes true
     | .fin _ _ _ => ⟨f.signBit (na != nb) + f.infBits, 0⟩)
  | .fin na ma ea, .fin nb mb eb =>
    (match c with
     | .nan _ => f.nanRes sn
     | .inf nc => ⟨f.signBit nc + f.infBits, 0⟩
     | .fin nc mc ec =>
       let np := na != nb
       let ep := ea + eb
       let e := min ep ec
       let sum := FVal.signed np (ma * mb) * 2 ^ (ep - e).toNat + FVal.signed nc mc * 2 ^ (ec - e).toNat
       f.roundInt (np && nc) sum e)

def FVal.one : FVal := .fin false 1 0

def FFmt.add (f : FFmt) (a b : FVal) : FRes := f.fma FVal.one a b

def FVal.negate : FVal → FVal
  | .nan s => .nan s
  | .inf n => .inf (! n)
  | .fin n m e => .fin (! n) m e

def FFmt.sub (f : FFmt) (a b : FVal) : FRes := f.add a b.negate

def FFmt.mul (f : FFmt) (a b : FVal) : FRes :=
  match a, b with
  | .nan s, y => f.nanRes (s || y.isSnan)
  | x, .nan s => f.nanRes (s || x.isSnan)
  | .inf na, .inf nb => ⟨f.signBit (na != nb) + f.infBits, 0⟩
  | .inf na, .fin nb mb _ => if mb = 0 then f.nanRes true else ⟨f.signBit (na != nb) + f.infBits, 0⟩
  | .fin na ma _, .inf nb => if ma = 0 then f.nanRes true else ⟨f.signBit (na != nb) + f.infBits, 0⟩
  | .fin na ma ea, .fin nb mb eb => f.round (na != nb) (ma * mb) 1 (ea + eb)

/-- The bits of a value that the format holds exactly; NaN becomes the quiet NaN. -/
def FFmt.encode (f : FFmt) : FVal → Nat
  | .nan _ => f.qnan
  | .inf n => f.signBit n + f.infBits
  | .fin n m e => (f.round n m 1 e).bits

/-- Absolute value and negation raise no flag, and a NaN result is the quiet NaN (DEDUCED from R119, log entry 5). -/
def FFmt.absBits (f : FFmt) (x : Nat) : Nat :=
  if (f.decode x).isNan then f.qnan else x % 2 ^ (f.w - 1)

def FFmt.negBits (f : FFmt) (x : Nat) : Nat :=
  if (f.decode x).isNan then f.qnan
  else if x / 2 ^ (f.w - 1) % 2 = 1 then x % 2 ^ (f.w - 1) else x % 2 ^ (f.w - 1) + 2 ^ (f.w - 1)

/-- Order key of non-NaN bits with −0 below +0. -/
def FFmt.key (f : FFmt) (x : Nat) : Int :=
  if x / 2 ^ (f.w - 1) % 2 = 1 then -((x % 2 ^ (f.w - 1) : Nat) : Int) - 1 else ((x % 2 ^ (f.w - 1) : Nat) : Int)

/-- Order key of non-NaN bits with −0 equal to +0. -/
def FFmt.cmpKey (f : FFmt) (x : Nat) : Int :=
  if x / 2 ^ (f.w - 1) % 2 = 1 then -((x % 2 ^ (f.w - 1) : Nat) : Int) else ((x % 2 ^ (f.w - 1) : Nat) : Int)

/-- VMIN and VMAX of one lane (R119). -/
def FFmt.minMax (f : FFmt) (isMax : Bool) (x y : Nat) : FRes :=
  let a := f.decode x
  let b := f.decode y
  if a.isNan || b.isNan then f.nanRes (a.isSnan || b.isSnan)
  else if (f.key x < f.key y) == isMax then ⟨y, 0⟩ else ⟨x, 0⟩

/-- VCMPLT: any NaN is invalid and false (R119). -/
def FFmt.lt (f : FFmt) (x y : Nat) : Bool × BitVec 5 :=
  if (f.decode x).isNan || (f.decode y).isNan then (false, 0b10000#5) else (decide (f.cmpKey x < f.cmpKey y), 0)

/-- VCMPEQ: only a signalling NaN is invalid (R119). -/
def FFmt.eq (f : FFmt) (x y : Nat) : Bool × BitVec 5 :=
  let a := f.decode x
  let b := f.decode y
  if a.isNan || b.isNan then (false, if a.isSnan || b.isSnan then 0b10000#5 else 0)
  else (decide (f.cmpKey x = f.cmpKey y), 0)

/-- Round half to even of m · 2^e to an integer, and whether it was exact. -/
def rneIntOf (m : Nat) (e : Int) : Nat × Bool :=
  let s := scaleQ m 1 e
  rneDiv s.1 s.2

/-- Float to a signed integer of `w` bits (R121): saturating, NaN gives 0, invalid outside the type, else inexact. -/
def FFmt.toInt (f : FFmt) (w : Nat) (x : Nat) : Int × BitVec 5 :=
  let hi : Int := (2 ^ (w - 1) : Nat) - 1
  let lo : Int := -((2 ^ (w - 1) : Nat) : Int)
  match f.decode x with
  | .nan _ => (0, 0b10000#5)
  | .inf n => (if n then lo else hi, 0b10000#5)
  | .fin n m e =>
    let q := rneIntOf m e
    let v := FVal.signed n q.1
    if v > hi then (hi, 0b10000#5) else if v < lo then (lo, 0b10000#5)
    else (v, if q.2 then 0 else 0b00001#5)

/-- Convert between float formats with one rounding. -/
def FFmt.convert (src dst : FFmt) (x : Nat) : FRes :=
  match src.decode x with
  | .nan s => dst.nanRes s
  | .inf n => ⟨dst.signBit n + dst.infBits, 0⟩
  | .fin n m e => dst.round n m 1 e

end Sys2Proof.Machine
end

