-- ==== Sys2Proof/Machine/Bead.lean ====
section
/-! DEFINITION. Bead formats and exact arithmetic (R38 to R70): elements, the storage check, the dot product, the accumulator with its
predicted residue, and the one rounding of a drain. -/

namespace Sys2Proof.Machine

/-- Bead element formats (R40). -/
inductive BeadFmt where
  | b8i | b8e | b16i
  deriving DecidableEq, Repr

/-- The two-bit format code of R78. -/
def beadFmtOf : Nat → Option BeadFmt
  | 0 => some .b8i
  | 1 => some .b8e
  | 2 => some .b16i
  | _ => none

/-- Bytes per element, w of R38. -/
def BeadFmt.bytes : BeadFmt → Nat
  | .b16i => 2
  | _ => 1

/-- The format offset o (R40). -/
def BeadFmt.off : BeadFmt → Int
  | .b8e => -10
  | _ => 0

/-- Is the coarse scale a positive normal number (R39). -/
def scaleValid (c : U32) : Bool := ! c.getLsbD 31 && c.toNat / 2 ^ 23 != 0 && c.toNat / 2 ^ 23 != 255

/-- A valid scale as m · 2^e. -/
def scaleVal (c : U32) : Nat × Int := (c.toNat % 2 ^ 23 + 2 ^ 23, ((c.toNat / 2 ^ 23 % 256 : Nat) : Int) - 150)

/-- The expanded value of a B8E byte (R41). -/
def expandB8E (b : Byte) : Int :=
  let m := b.toNat % 16
  let x := b.toNat / 16 % 8
  let mag := if x = 0 then 2 * m else (16 + m) * 2 ^ x
  if b.getLsbD 7 then -(mag : Int) else mag

/-- The expanded elements of a bead's element bytes (R40). -/
def expandElems (f : BeadFmt) (bs : List Byte) : List Int :=
  match f with
  | .b8i => bs.map BitVec.toInt
  | .b8e => bs.map expandB8E
  | .b16i => (List.range 32).map (fun j => sextNat 16 (natOfLE ((bs.drop (2 * j)).take 2)))

/-- The sum of the storage check, with the position of the next byte. -/
def checkSum : Nat → List Byte → Nat → Nat
  | _, [], s => s
  | i, b :: bs, s => checkSum (i + 1) bs (s + i * b.toNat)

/-- The storage check (R45). -/
def storageCheck (elems : List Byte) (byte0 : Byte) : Byte := BitVec.ofNat 8 (checkSum 1 elems byte0.toNat % 255)

/-- A bead as stored: element bytes and the two sidecar bytes (R38, R43). -/
structure Bead where
  elems : List Byte
  byte0 : Byte
  byte1 : Byte
  deriving DecidableEq, Repr

/-- The fine exponent (R43). -/
def Bead.fine (b : Bead) : Int := sextNat 5 b.byte0.toNat

def Bead.flags (b : Bead) : Nat := b.byte0.toNat / 32

def Bead.checkGood (b : Bead) : Bool := b.byte1 == storageCheck b.elems b.byte0

/-- Poisoned, or a reserved flag, which is handled as poisoned (R44). -/
def Bead.poisoned (b : Bead) : Bool := decide (3 ≤ b.flags)

/-- The elements that arithmetic uses (R44). -/
def Bead.operand (f : BeadFmt) (b : Bead) : List Int :=
  if b.flags = 0 ∨ b.flags = 2 then expandElems f b.elems else List.replicate 32 0

/-- A bead of `n` zero bytes with the given sidecar; the canonical forms of R46. -/
def canonBead (f : BeadFmt) (v : Byte) : Bead := ⟨List.replicate (32 * f.bytes) 0, v, v⟩
def allZeroBead (f : BeadFmt) : Bead := canonBead f 0x20
def poisonedBead (f : BeadFmt) : Bead := canonBead f 0x60

/-- The dot product of two element lists (R47). -/
def dotElems : List Int → List Int → Int
  | a :: as, b :: bs => a * b + dotElems as bs
  | _, _ => 0

/-- The shift of a bead pair (R48). -/
def dotShift (fa : BeadFmt) (a : Bead) (fb : BeadFmt) (b : Bead) : Nat :=
  (a.fine + b.fine + fa.off + fb.off + 52).toNat

/-- res(v) of R67. -/
def res255 (v : Int) : Nat := (v % 255).toNat

/-- The residue that the residue unit predicts for a dot product (R68). -/
def dotRho : List Int → List Int → Nat
  | a :: as, b :: bs => (res255 a * res255 b + dotRho as bs) % 255
  | _, _ => 0

/-- One accumulator (R49, R69): the pattern, the poison bit and the predicted residue. -/
structure Acc where
  pat : Nat
  poison : Bool
  resid : Nat
  deriving DecidableEq, Repr

def Acc.zero : Acc := ⟨0, false, 0⟩

/-- The value of a 160-bit pattern. -/
def accInt (p : Nat) : Int := sextNat 160 p

/-- The pattern of an integer mod 2^160. -/
def accPat (v : Int) : Nat := (v % (2 ^ 160 : Nat)).toNat

/-- One contribution d · 2^s, started or continued (R49, R51, R69). -/
def Acc.contribute (start : Bool) (x : Acc) (d : Int) (s rho : Nat) (poison : Bool) : Acc :=
  let c := accPat (d * 2 ^ s)
  let rp := (rho * 2 ^ (s % 8) + (if d < 0 then 1 else 0)) % 255
  if start then ⟨c, poison, rp⟩ else
  let sum := x.pat + c
  ⟨sum % 2 ^ 160, x.poison || poison, (x.resid + rp + 255 - sum / 2 ^ 160) % 255⟩

/-- Merging two partials (R52, R70). -/
def Acc.merge (x y : Acc) : Acc :=
  let sum := x.pat + y.pat
  ⟨sum % 2 ^ 160, x.poison || y.poison, (x.resid + y.resid + 255 - sum / 2 ^ 160) % 255⟩

/-- The accumulator check (R69). -/
def Acc.checkGood (x : Acc) : Bool := x.pat % 255 == x.resid

/-- A conversion factor Q = mq · 2^qe (R54). -/
structure Factor where
  mq : Nat
  qe : Int
  deriving DecidableEq, Repr

/-- round32 of n ÷ d · 2^x to a 24-bit significand with an unbounded exponent (R54). -/
def round24 (n d : Nat) (x : Int) : Factor :=
  let l := floorLog2Q n d
  let s := scaleQ n d (23 - l)
  let q := (rneDiv s.1 s.2).1
  if q = 2 ^ 24 then ⟨2 ^ 23, l - 22 + x⟩ else ⟨q, l - 23 + x⟩

/-- Q = round32(Ca · Cb ÷ Co) for valid scales (R54). -/
def factorOf (ca cb co : U32) : Factor :=
  let a := scaleVal ca
  let b := scaleVal cb
  let o := scaleVal co
  round24 (a.1 * b.1) o.1 (a.2 + b.2 - o.2)

/-- Q = round32(C ÷ Co) of encoding, rescaling and the element-wise operations (R63, R86). -/
def factor1 (c co : U32) : Factor :=
  let a := scaleVal c
  let o := scaleVal co
  round24 a.1 o.1 (a.2 - o.2)

/-- Q = round32(1 ÷ Co) (R63). -/
def factorInv (co : U32) : Factor :=
  let o := scaleVal co
  round24 1 o.1 (-o.2)

/-- Round p · 2^−k to nearest, ties to even (R57). -/
def rneShift (p : Int) (k : Int) : Int :=
  if k ≤ 0 then p * 2 ^ (-k).toNat else
  let q := p / 2 ^ k.toNat
  let r := p % 2 ^ k.toNat
  let half : Int := 2 ^ (k.toNat - 1)
  if r > half ∨ (r = half ∧ q % 2 = 1) then q + 1 else q

/-- The nearest B8E value to p · 2^−k, and whether it fits (R58). -/
def roundB8E (p : Int) (k : Int) : Int × Bool :=
  if p = 0 then (0, true) else
  let a := p.natAbs
  let lg := (a.log2 : Int) - k
  let ex := max 1 (lg - 4)
  let mag := rneShift a (k + ex) * 2 ^ ex.toNat
  (if p < 0 then -mag else mag, decide (mag ≤ 3968))

/-- The byte of a B8E value that fits (R58). -/
def encodeB8E (v : Int) : Byte :=
  let mag := v.natAbs
  let x := if mag < 32 then 0 else mag.log2 - 4
  let m := if mag < 32 then mag / 2 else mag / 2 ^ x - 16
  if v = 0 then 0 else BitVec.ofNat 8 ((if v < 0 then 128 else 0) + x * 16 + m)

/-- The rounded element and whether it fits the format (R57, R58). -/
def roundOut (f : BeadFmt) (p : Int) (k : Int) : Int × Bool :=
  match f with
  | .b8e => roundB8E p k
  | .b8i => let q := rneShift p k
            (q, decide (-128 ≤ q ∧ q ≤ 127))
  | .b16i => let q := rneShift p k
             (q, decide (-32768 ≤ q ∧ q ≤ 32767))

/-- The stored bytes of one element. -/
def elemBytes (f : BeadFmt) (v : Int) : List Byte :=
  match f with
  | .b8e => [encodeB8E v]
  | .b8i => [BitVec.ofInt 8 v]
  | .b16i => leOfNat 2 (v % 65536).toNat

/-- The format's extreme of a sign (R59). -/
def extremeOf (f : BeadFmt) (neg : Bool) : Int :=
  match f with
  | .b8e => if neg then -3968 else 3968
  | .b8i => if neg then -128 else 127
  | .b16i => if neg then -32768 else 32767

/-- The counts of the events that a conversion meets (R71). -/
structure ConvCount where
  satElems : Nat
  ieeeOver : Nat
  poisonWritten : Nat
  deriving DecidableEq, Repr

def ConvCount.zero : ConvCount := ⟨0, 0, 0⟩
def ConvCount.add (a b : ConvCount) : ConvCount :=
  ⟨a.satElems + b.satElems, a.ieeeOver + b.ieeeOver, a.poisonWritten + b.poisonWritten⟩

/-- An exact value of the drain: m · 2^e, or an infinite input of an encoding (R63). -/
inductive XVal where
  | dy (m : Int) (e : Int)
  | inf (neg : Bool)
  deriving DecidableEq, Repr

/-- Rounded at a fine exponent, with the fit test; an infinity never fits. -/
def XVal.roundAt (f : BeadFmt) (fo : Int) : XVal → Int × Bool
  | .dy m e => roundOut f m (fo + f.off - e)
  | .inf neg => (extremeOf f neg, false)

def XVal.neg : XVal → Bool
  | .dy m _ => decide (m < 0)
  | .inf n => n

/-- The smallest fine exponent of the rest of the ladder at which all fit (R56). -/
def chooseFine (f : BeadFmt) (xs : List XVal) : Nat → Int → Option Int
  | 0, _ => none
  | n + 1, fo => if xs.all (fun x => (x.roundAt f fo).2) then some fo else chooseFine f xs n (fo + 1)

/-- A bead of element values with its fine exponent and flags, with a correct storage check (R46). -/
def mkBead (f : BeadFmt) (vs : List Int) (fo : Int) (flags : Nat) : Bead :=
  let es := vs.flatMap (elemBytes f)
  let b0 := BitVec.ofNat 8 (flags * 32 + (fo % 32).toNat)
  ⟨es, b0, storageCheck es b0⟩

/-- The conversion of 32 exact values into one bead (R56 to R60). -/
def encodeBead (f : BeadFmt) (xs : List XVal) : Bead × ConvCount :=
  match chooseFine f xs 32 (-16) with
  | some fo =>
    let vs := xs.map (fun x => (x.roundAt f fo).1)
    if vs.all (fun v => v == 0) then (allZeroBead f, ConvCount.zero) else (mkBead f vs fo 0, ConvCount.zero)
  | none =>
    let rs := xs.map (fun x => (x.roundAt f 15, x.neg))
    let vs := rs.map (fun r => if r.1.2 then r.1.1 else extremeOf f r.2)
    (mkBead f vs 15 2, ⟨(rs.filter (fun r => ! r.1.2)).length, 0, 0⟩)

/-- One exact value to IEEE by the rule of R62: no infinity, no negative zero. -/
def ieeeOut (f : FFmt) (x : XVal) : Nat × Nat :=
  match x with
  | .inf n => (f.signBit n + f.infBits - 1, 1)
  | .dy m e =>
    let r := (f.roundInt false m e).bits
    let mag := r % 2 ^ (f.w - 1)
    if mag = f.infBits then (f.signBit (m < 0) + f.infBits - 1, 1)
    else if mag = 0 then (0, 0) else (r, 0)

/-- round_up32 of a magnitude: towards +infinity (R65). -/
def roundUp32 (x : XVal) : Nat :=
  match x with
  | .inf _ => 0x7F800000
  | .dy m e =>
    if m = 0 then 0 else
    let nd := scaleQ m.natAbs 1 e
    let l := floorLog2Q nd.1 nd.2
    let ex := max (l - 23) (-149)
    let s := scaleQ nd.1 nd.2 (-ex)
    let q := (s.1 + s.2 - 1) / s.2
    min 0x7F800000 ((ex + 149).toNat * 2 ^ 23 + q)

/-- The peak of a list of exact values joined to a peak (R65, R66). -/
def peakOf (p : Nat) (xs : List XVal) : Nat := xs.foldl (fun a x => max a (roundUp32 x)) p

/-- The exact value of an accumulator in units of Co (R55). -/
def accX (q : Factor) (pat : Nat) : XVal := .dy (accInt pat * q.mq) (q.qe - 52)

/-- One decoded element (R64): binary32 bits and 1 when it overflowed. -/
def decodeElem (f : BeadFmt) (b : Bead) (c : U32) (e : Int) : Nat × Nat :=
  let s := scaleVal c
  ieeeOut f32 (.dy (e * s.1) (s.2 + b.fine + f.off))

/-- The 32 decoded values of a bead (R64). -/
def decodeBead (f : BeadFmt) (b : Bead) (c : U32) : List (Nat × Nat) :=
  if b.poisoned || ! scaleValid c then List.replicate 32 (f32.qnan, 0)
  else (b.operand f).map (decodeElem f b c)

/-- The exact values y · Q of an encoding (R63); none when any input is a NaN. -/
def encodeInputs (src : FFmt) (q : Factor) (ys : List Nat) : Option (List XVal) :=
  ys.foldr (fun y acc =>
    match acc, src.decode y with
    | none, _ => none
    | some _, .nan _ => none
    | some l, .inf n => some (.inf n :: l)
    | some l, .fin n m e => some (.dy (FVal.signed n (m * q.mq)) (e + q.qe) :: l)) (some [])

/-- The words of the digest hash, eight bytes each. -/
def digestWords : Nat → U64 → List Byte → U64
  | 0, h, _ => h
  | n + 1, h, b => digestWords n (mix64 (h ^^^ BitVec.ofNat 64 (natOfLE (b.take 8)))) (b.drop 8)

/-- The digest hash of `b` as bead `k` of tensor `t` (R234). -/
def digestH (t k : Nat) (b : List Byte) : U64 :=
  let h := mix64 (BitVec.ofNat 64 (t % 2 ^ 32 * 2 ^ 32 + k % 2 ^ 32))
  mix64 (digestWords ((b.length + 7) / 8) h b ^^^ BitVec.ofNat 64 b.length)

end Sys2Proof.Machine
end

