-- ==== Sys2Proof/Machine/TileTypes.lean ====
section
/-! DEFINITION. What one tile holds: its four Ecmet cores, its scratchpad, its counting frame, its update engine, its router with the
service agent, and its records. Cycles are step cycles of the tile's running step. -/

namespace Sys2Proof.Machine

/-- What a core waits for, or why it issues nothing. -/
inductive CoreRun where
  /-- before firmware runs, and in the monitor while no task runs (R494): the core issues nothing -/
  | stopped
  | running
  /-- holds in SYNC with this mask since this cycle (R131) -/
  | sync (mask : BitVec 4) (since : Nat)
  /-- holds in a V-marked instruction of this kind since this cycle, at this PC (R115, R130) -/
  | waiting (kind : Nat) (since : Nat)
  /-- has issued STEP.END in this cycle (R132) -/
  | ended (at_ : Nat)
  deriving DecidableEq, Repr

/-- A breakpoint of a core (R470). -/
structure Bp where
  pc : U16
  enable : Bool
  deriving DecidableEq, Repr

/-- The core's part of the fence copy (R107, R134); `upd` holds UO_BASE, USCALES, UBEAD and UPEAK of c3 (R259). -/
structure CoreCopy where
  pc : Nat
  s : Vector U64 32
  v : Vector V512 16
  vflags : BitVec 5
  cpeak : Nat
  deriving DecidableEq, Repr

/-- One Ecmet core (R107, R136). -/
structure CoreSt where
  /-- index of the next instruction, 0 to 65,535; 65,536 after sequential execution past the last (R117) -/
  pc : Nat
  s : Vector U64 32
  v : Vector V512 16
  run : CoreRun
  /-- earliest step cycle at which the next instruction may issue (R112) -/
  now : Nat
  /-- cycle at which each result is ready: scalar registers 0 to 31, vector registers 32 to 47 -/
  ready : SMap Nat
  /-- earliest issue cycle of each interval row (R112) -/
  unit : SMap Nat
  vflags : BitVec 5
  cpeak : Nat
  vextra : Nat
  wdog : Nat
  etrap : Nat
  copy : Option CoreCopy
  /-- the function tables have been written (R124) -/
  fnLoaded : Bool
  bps : Vector Bp 4
  deriving DecidableEq, Repr

def CoreSt.reset : CoreSt :=
  { pc := 0, s := Vector.replicate 32 0, v := Vector.replicate 16 0, run := .stopped, now := 0, ready := [], unit := [],
    vflags := 0, cpeak := 0, vextra := 0, wdog := 0, etrap := 0, copy := none, fnLoaded := false,
    bps := Vector.replicate 4 ⟨0, false⟩ }

/-- An exchange register: a write at `at_` is seen by reads issued two cycles later (R114). -/
structure XrCell where
  old : U64
  new : U64
  at_ : Nat
  deriving DecidableEq, Repr

/-- A remote-write window (R128, R161, R162). -/
structure Win where
  isOpen : Bool
  off : Nat
  len : Nat
  count : Nat
  /-- writes accepted since the fence from senders outside the job -/
  ext : Nat
  /-- arrival count in the fence copy -/
  copyCount : Nat
  /-- window in the fence copy -/
  copyOpen : Bool
  copyOff : Nat
  copyLen : Nat
  deriving DecidableEq, Repr

def Win.reset : Win := ⟨false, 0, 0, 0, 0, 0, false, 0, 0⟩

/-- The chain state of an accumulator bank (R80). -/
inductive ChainSt where
  | idle | opened | closed | drained
  deriving DecidableEq, Repr

/-- A row of 32 accumulators (R72). -/
abbrev AccRow := List Acc

def AccRow.zero : AccRow := List.replicate 32 Acc.zero

/-- An accumulator bank (R72): the conversion factor is kept with the scales that gave it; `none` in it is an invalid scale. -/
structure ABank where
  st : ChainSt
  rows : SMap AccRow
  /-- bead products fed to each row, counted at issue (R50, R82) -/
  cnt : SMap Nat
  ca : U32
  cb : U32
  q : Option (Option Factor)
  deriving DecidableEq, Repr

def ABank.reset : ABank := ⟨.idle, [], [], 0, 0, none⟩

/-- A weight register (R72). -/
structure WReg where
  fmt : BeadFmt
  beads : List Bead
  cb : U32
  deriving DecidableEq, Repr

/-- Both registers after reset hold all-zero beads, B8I, Cb 0 (R104). -/
def WReg.reset : WReg := ⟨.b8i, List.replicate 32 (allZeroBead .b8i), 0⟩

/-- The activity ramp of the dot units (R95): the number of groups on at cycle `t0` and the direction since. -/
inductive Ramp where
  | steady | up | down
  deriving DecidableEq, Repr

/-- One digest-table entry (R233). -/
structure DigEnt where
  task : Nat
  source : Nat
  slot : Nat
  ordinal : Nat
  tensor : U32
  base : Nat
  stride : Nat
  deriving DecidableEq, Repr

/-- What an access of an instruction in flight does. -/
inductive AccKind where
  | rd | wr | rowRd | rowWr | mult | eff
  deriving DecidableEq, Repr

/-- One access or effect in flight: cycle, channel (0 first in precedence), scratchpad bank, kind, row or bead, line address. -/
structure FAcc where
  cyc : Nat
  chan : Nat
  bank : Nat
  kind : AccKind
  row : Nat
  p : Nat
  /-- a sidecar write displaced by a sidecar read (R93) -/
  displaced : Bool
  deriving DecidableEq, Repr

/-- One bead product on its way to an accumulator (R48, R68): dot product, shift, predicted residue, poison. -/
structure Contrib where
  d : Int
  s : Nat
  rho : Nat
  poison : Bool
  deriving DecidableEq, Repr

/-- The group in force of the update engine (R243 to R247). -/
structure UpdGroup where
  valid : Bool
  group : Nat
  rule : Nat
  frozen : Bool
  source : Nat
  eta : Nat
  lambda : Nat
  clip : Nat
  s : U64
  deriving DecidableEq, Repr

/-- What an update run captures at issue (R250, R252, R255). -/
structure URun where
  n : Nat
  grp : UpdGroup
  ubead : Nat
  /-- a coarse scale is invalid: every output bead is poisoned -/
  bad : Bool
  facG : Factor
  facE : Factor
  facD : Factor
  facH : Factor
  cg : U32
  dither : Option U64
  deriving DecidableEq, Repr

/-- What an instruction in flight carries: formats, addresses, scales and what it has read and formed so far. -/
structure FArgs where
  fmt : Nat
  fmt2 : Nat
  ofmt : Nat
  eop : Nat
  mask : U32
  wreg : Fin 2
  abank : Fin 2
  start : Bool
  ca : U32
  cb : U32
  co : U32
  q : Option Factor
  /-- physical addresses: element and sidecar lines of the first operand, of the second, and of the output -/
  e1 : Nat
  s1 : Nat
  e2 : Nat
  s2 : Nat
  eo : Nat
  so : Nat
  /-- digest entries that the instruction matches (R233) -/
  dig : List DigEnt
  /-- lines read, by physical line address -/
  buf : SMap V512
  /-- accumulator rows captured for conversion -/
  rows : SMap AccRow
  contribs : SMap (List Contrib)
  /-- bytes to write, by physical address -/
  outb : SMap Nat
  /-- an update run; none for a frame instruction or a group record -/
  run : Option URun
  /-- the expected group and step count of a group record (R242) -/
  want : Nat
  step : U64
  deriving DecidableEq, Repr

def FArgs.zero : FArgs :=
  { fmt := 0, fmt2 := 0, ofmt := 0, eop := 0, mask := 0, wreg := 0, abank := 0, start := false, ca := 0, cb := 0, co := 0,
    q := none, e1 := 0, s1 := 0, e2 := 0, s2 := 0, eo := 0, so := 0, dig := [], buf := [], rows := [], contribs := [], outb := [], run := none, want := 0, step := 0 }

/-- An instruction in its occupancy or with effects to come (R88, R89). -/
structure FOp where
  /-- 0 LOADW, 1 MUL, 2 DRAIN, 3 EW, 4 LOADA, 5 partial DRAIN; in the update engine 6 a group record, 7 a run -/
  fop : Nat
  t0 : Nat
  occEnd : Nat
  /-- slots held: bit 0 compute, 1 load, 2 convert -/
  slots : BitVec 3
  /-- channels held: bit 0 A, bit 1 B -/
  chans : BitVec 2
  /-- share in halves: 1 or 2 -/
  share : Nat
  excl : Bool
  accs : List FAcc
  args : FArgs
  deriving DecidableEq, Repr

/-- The counting frame (R72, R99). -/
structure FrameSt where
  w : Vector WReg 2
  active : Fin 2
  shadowFull : Bool
  /-- issue cycle of the last LOADW into the shadow; none since the last swap -/
  loadwAt : Option Nat
  banks : Vector ABank 2
  peak : Nat
  ewOut : U64
  ewScales : U64
  ewCo : U32
  ramp : Ramp
  rampAt : Nat
  /-- groups powered when the present ramp or steady state began -/
  rampFrom : Nat
  /-- end of the last occupancy of the compute slot that has left `ops`; idle time counts from it (R95) -/
  idleFrom : Int
  /-- instructions in flight, in issue order -/
  ops : List FOp
  /-- first step cycle not yet carried out -/
  clk : Nat
  /-- last cycle in which an effect took place -/
  lastEffect : Nat
  resFail : Bool
  ftrap : Nat
  /-- instructions of sources 1 and 2 issued in the step, for the digest table (R233) -/
  ordOut : Nat
  ordLoadw : Nat
  deriving DecidableEq, Repr

def FrameSt.reset : FrameSt :=
  { w := Vector.replicate 2 WReg.reset, active := 0, shadowFull := false, loadwAt := none,
    banks := Vector.replicate 2 ABank.reset, peak := 0, ewOut := 0, ewScales := 0, ewCo := 0,
    ramp := .steady, rampAt := 0, rampFrom := 0, idleFrom := -64, ops := [], clk := 0, lastEffect := 0, resFail := false, ftrap := 0,
    ordOut := 0, ordLoadw := 0 }

/-- The update engine (R240 to R259). -/
structure UpdSt where
  grp : Option UpdGroup
  /-- first cycle after the record being read is in force (R254) -/
  readEnd : Nat
  uoBase : U64
  uscales : U64
  ubead : Nat
  upeak : Nat
  occEnd : Nat
  ordRun : Nat
  /-- records and runs in flight, in issue order -/
  ops : List FOp
  clk : Nat
  lastEffect : Nat
  /-- cycles and banks that plan-lane slot accesses take before the engine (R146) -/
  slotUse : List (Nat × Nat)
  /-- UO_BASE, USCALES, UBEAD and UPEAK in the fence copy of c3 (R259) -/
  copy : Option (U64 × U64 × Nat × Nat)
  deriving DecidableEq, Repr

def UpdSt.reset : UpdSt :=
  { grp := none, readEnd := 0, uoBase := 0, uscales := 0, ubead := 0, upeak := 0, occEnd := 0, ordRun := 0, ops := [], clk := 0,
    lastEffect := 0, slotUse := [], copy := none }

/-- A plan flit on its way to an input port of this router, with the cycle in which it is present (R169, R171). -/
structure PlanFlit where
  port : Nat
  cyc : Nat
  data : V512
  poison : Bool
  hopBad : Bool
  deriving DecidableEq, Repr

/-- A service line (R168, R180). -/
structure SvLine where
  data : V512
  last : Bool
  poison : Bool
  /-- the packet came in through a link switch: it is routed to its tile of this device (DEDUCED, log entry 19) -/
  entered : Bool
  deriving DecidableEq, Repr

/-- One service channel of one router output (R183, R188). -/
structure HopOut where
  credits : Nat
  /-- credit returns on the wire -/
  returning : Nat
  /-- the input whose packet holds the output -/
  lock : Option Nat
  /-- the input granted last -/
  rr : Nat
  deriving DecidableEq, Repr

def HopOut.reset : HopOut := ⟨4, 0, none, 4⟩

/-- An outstanding request of a core (R184): its reserved entry is its tag. -/
structure SvReq where
  tag : Nat
  seq : Nat
  deriving DecidableEq, Repr

/-- The service agent's ledger and receive queue of one core (R129, R184): full entries oldest first. -/
structure SvCore where
  queue : List (Nat × V512)
  reqs : List SvReq
  /-- requests ended before their completion came (R186) -/
  ended : List SvReq
  nextSeq : Nat
  deriving DecidableEq, Repr

def SvCore.reset : SvCore := ⟨[], [], [], 0⟩

/-- A remote write whose lines are arriving (R161): `keep` when its check accepted it. -/
structure RwIn where
  header : V512
  win : Nat
  /-- physical address of the next line -/
  addr : Nat
  n : Nat
  got : Nat
  keep : Bool
  status : Nat
  deriving DecidableEq, Repr

/-- A line accepted and not yet landed: physical address, data, poison, whether it is the last of its write, and whether a line of
the write is poisoned. -/
structure Landing where
  win : Nat
  addr : Nat
  data : V512
  poison : Bool
  last : Bool
  header : V512
  n : Nat
  deriving DecidableEq, Repr

/-- The router and the service agent (R167 to R191). -/
structure RouterSt where
  /-- the slot table of 1,024 words of 64 bits (R170) -/
  slots : SMap Nat
  /-- the running step's range: first entry and count -/
  first : Nat
  count : Nat
  /-- next flit number and the row mask of each entry in progress (R170, R175) -/
  next : SMap Nat
  mask : SMap Nat
  flits : List PlanFlit
  /-- plan flits placed on each output and arrived at each input in the step (R188) -/
  placed : SMap Nat
  arrived : SMap Nat
  /-- service channels: output·2 + (1 for the response channel) -/
  outs : Vector HopOut 10
  /-- input buffers, input·2 + channel, oldest first; the local inputs hold what the tile sends -/
  ins : SMap (List SvLine)
  /-- per input and channel: 0 a header comes next, 1 inside a packet, 2 discarding a packet whose header check failed -/
  inPkt : SMap Nat
  /-- lines delivered to the tile, oldest first, per channel -/
  rxReq : List SvLine
  rxRsp : List SvLine
  sv : Vector SvCore 4
  rw : Option RwIn
  land : List Landing
  /-- a line of the write now landing was poisoned -/
  landBad : Bool
  /-- a COMPL named an entry that was not reserved (R189) -/
  badTag : Bool
  /-- a ledger break was found here; the ledgers are reset at the next job start (R190) -/
  broken : Bool
  fault : Nat
  deriving DecidableEq, Repr

def RouterSt.reset : RouterSt :=
  { slots := [], first := 0, count := 0, next := [], mask := [], flits := [], placed := [], arrived := [],
    outs := Vector.replicate 10 HopOut.reset, ins := [], inPkt := [], rxReq := [], rxRsp := [], sv := Vector.replicate 4 SvCore.reset,
    rw := none, land := [], landBad := false, badTag := false, broken := false, fault := 0 }

/-- A watchpoint of a tile (R470). -/
structure Wp where
  p : Nat
  len : Nat
  kind : BitVec 2
  agents : BitVec 5
  enable : Bool
  deriving DecidableEq, Repr

/-- The task window and bank map in force (R147), with the task number. -/
structure TaskSt where
  task : Nat
  base : Nat
  bound : Nat
  map : Vector Byte 16
  deriving DecidableEq, Repr

def TaskSt.reset : TaskSt := ⟨0, 0, 0, Vector.replicate 16 0⟩

/-- Residence of a bank (R157): resident exactly when a tag is held. -/
structure Resid where
  resident : Bool
  tag : U32
  deriving DecidableEq, Repr

/-- One tile. -/
structure Tile where
  cores : Vector CoreSt 4
  xr : Vector XrCell 8
  /-- exchange registers in the fence copy -/
  xrCopy : Vector U64 8
  wins : Vector Win 8
  frame : FrameSt
  upd : UpdSt
  router : RouterSt
  /-- scratchpad bytes by physical address, and the bytes whose parity is wrong (R141, R153) -/
  sp : Mem
  spBad : List Nat
  taskTab : Mem
  tsk : TaskSt
  /-- what STEP.END of c0 named: next task and plan-fence flag (R132) -/
  next : Option (Nat × Bool)
  resid : Vector Resid 16
  /-- the last cycle in which a core may still issue: a trap or a detection stopped the tile (R138, R154) -/
  stopAt : Option Nat
  trapped : Bool
  detected : Bool
  /-- detections of the execution: kind (1 parity, 2 router, 4 integrity), cause or source, place (R273) -/
  dets : List (Nat × Nat × Nat)
  arrivedAt : Option Nat
  stepCount : Nat
  rerun : Nat
  residue : Bool
  mirror : Bool
  dither : Option U64
  spDetect : Nat
  integ : Nat
  digTab : List DigEnt
  dig : Vector U64 8
  mirrorAcc : U64
  fnTab : SMap U32
  wps : Vector Wp 2
  /-- the job is halted in the debugger (R468) -/
  halted : Bool
  /-- the cycle of the running step before which an armed halt lands (R469) -/
  haltCy : Option Nat
  /-- job of the tile: the slot, when in a running job -/
  job : Option Nat
  deriving DecidableEq, Repr

def Tile.reset : Tile :=
  { cores := Vector.replicate 4 CoreSt.reset, xr := Vector.replicate 8 ⟨0, 0, 0⟩, xrCopy := Vector.replicate 8 0,
    wins := Vector.replicate 8 Win.reset, frame := FrameSt.reset, upd := UpdSt.reset, router := RouterSt.reset,
    sp := [], spBad := [], taskTab := [], tsk := TaskSt.reset, next := none,
    resid := Vector.replicate 16 ⟨false, 0⟩, stopAt := none, trapped := false, detected := false, dets := [], arrivedAt := none,
    stepCount := 0, rerun := 0, residue := false, mirror := false, dither := none, spDetect := 0, integ := 0,
    digTab := [], dig := Vector.replicate 8 0, mirrorAcc := 0, fnTab := [],
    wps := Vector.replicate 2 ⟨0, 0, 0, 0, false⟩, halted := false, haltCy := none, job := none }

end Sys2Proof.Machine
end

