-- ==== Sys2Proof/Machine/DevTypes.lean ====
section
/-! DEFINITION. What the units beside the tiles hold: device memory and its copy engines, the plan images and job slots, the field-defect
list and the tests (chapters 7 to 10). -/

namespace Sys2Proof.Machine

-- memory stacks and copy engines

/-- A line that an engine has fetched: of a descriptor, with its data, and whether it leaves poisoned. -/
structure StagedLine where
  desc : Nat
  line : Nat
  data : V512
  poison : Bool
  /-- the DRAM page of a line that was read uncorrectable (R208); the cause is recorded when the line leaves -/
  unc : Option Nat
  /-- still on its way into the staging buffer (R204) -/
  fetching : Bool
  /-- fetched for the step after the present one (R203, R210) -/
  early : Bool
  deriving DecidableEq, Repr

/-- The bases of a READ_REQ descriptor in the step (R201, R206, R207). -/
structure ReqSt where
  desc : Nat
  base : Nat
  side : Nat
  /-- nothing is fetched: every line leaves poisoned with zero data -/
  dead : Bool
  /-- the descriptor whose DRAM reads serve this one -/
  mergedWith : Option Nat
  deriving DecidableEq, Repr

/-- A line in the write buffer that waits for the rest of its bead group (R209, R211). -/
structure WbLine where
  desc : Nat
  line : Nat
  addr : Nat
  data : V512
  poison : Bool
  deriving DecidableEq, Repr

/-- A flit at the plan port of an engine: column, cycle of arrival. -/
structure PortFlit where
  col : Nat
  cyc : Nat
  data : V512
  poison : Bool
  hopBad : Bool
  deriving DecidableEq, Repr

/-- One copy engine. -/
structure EngSt where
  /-- the four words of descriptor d at 4d to 4d + 3 (R200) -/
  table : SMap Nat
  /-- range words by task (R218) -/
  ranges : SMap Nat
  first : Nat
  count : Nat
  /-- next line of each descriptor to fetch, to leave or arrive -/
  fetched : SMap Nat
  moved : SMap Nat
  stage : List StagedLine
  reqs : List ReqSt
  /-- groups whose check failed or that arrived poisoned, desc·256 + group -/
  badGroups : List Nat
  wbuf : List WbLine
  port : List PortFlit
  nFetched : Nat
  nDeparted : Nat
  nDropped : Nat
  nArrived : Nat
  nCommitted : Nat
  fault : Nat
  /-- causes reported in the step, for R228 and R273: cause and descriptor -/
  causes : List (Nat × Nat)
  /-- no job uses the engine, or its job has stopped (R211) -/
  stopped : Bool
  deriving DecidableEq, Repr

def EngSt.reset : EngSt :=
  { table := [], ranges := [], first := 0, count := 0, fetched := [], moved := [], stage := [], reqs := [], badGroups := [], wbuf := [],
    port := [], nFetched := 0, nDeparted := 0, nDropped := 0, nArrived := 0, nCommitted := 0, fault := 0, causes := [], stopped := true }

/-- One memory stack (R212, R213, R216). -/
structure StackSt where
  state : Nat
  speed : Nat
  temp : Int
  /-- temperature row of R213 in force: 0 to 3 -/
  tempRow : Nat
  /-- the interval that the temperature asks for is not yet in force -/
  shortenDue : Bool
  refreshNs : Nat
  tempCeiling : Nat
  spareBlocks : Nat
  /-- base die in self-refresh (R319, R337, R368) -/
  selfRefresh : Bool
  /-- interface or rail lost in service (R319) -/
  unusable : Bool
  deriving DecidableEq, Repr

def StackSt.reset : StackSt := ⟨0, 0, 0, 0, false, 3900, 0, 0, false, false⟩

/-- Device memory. -/
structure MemSys where
  /-- STACKS_PRESENT -/
  present : U16
  /-- granule code in force (R198) -/
  granule : Nat
  /-- bytes by stack·2^37 + local address -/
  data : Mem
  /-- lines with metadata 0x5A, by the same key div 64 -/
  poison : List Nat
  stackSts : Vector StackSt 16
  engines : Vector EngSt 32
  /-- service requests that wait: engine, request and what asked -/
  service : List (Nat × MemRequest × Nat)
  /-- the two halves of the firmware regions of the present stacks, and the half in use (R360 to R363) -/
  fwStore : Vector (List Byte) 2
  fwHalf : Fin 2
  deriving DecidableEq, Repr

def MemSys.reset : MemSys :=
  { present := 0, granule := 1, data := [], poison := [], stackSts := Vector.replicate 16 StackSt.reset,
    engines := Vector.replicate 32 EngSt.reset, service := [], fwStore := #v[[], []], fwHalf := 0 }

-- plans and jobs

/-- A tile record of a plan image (R218). -/
structure TileRec where
  t : Nat
  tasks : Mem
  slots : SMap Nat
  ranges : SMap Nat
  /-- residence use code and tag, bank by bank -/
  resid : List (Nat × U32)
  digs : List DigEnt
  /-- scratchpad address, length, source address -/
  preload : List (Nat × Nat × Nat)
  deriving DecidableEq, Repr

/-- An engine record of a plan image (R218). -/
structure EngRec where
  e : Nat
  table : SMap Nat
  ranges : SMap Nat
  deriving DecidableEq, Repr

/-- A quiet slot (R218, R280). -/
structure Quiet where
  task : Nat
  zones : Nat
  start : Nat
  len : Nat
  deriving DecidableEq, Repr

/-- A checked plan image (R217 to R220). -/
structure Plan where
  sourceDigest : Nat
  targetShadow : Nat
  keyDigest : Nat
  zones : Nat
  stackMask : Nat
  granule : Nat
  grouping : Nat
  engines : Nat
  ports : Nat
  flags : Nat
  round : Nat
  reduction : Nat
  ditherKey : Nat
  root : Nat
  fenceD : Nat
  firstTask : Nat
  lengths : List Nat
  tiles : List TileRec
  engs : List EngRec
  /-- tensor descriptors, 32 bytes each (R220) -/
  tensors : List (List Byte)
  quiet : List Quiet
  deriving DecidableEq, Repr

/-- A fence event held pending or read from a log (R231, R232). -/
structure FenceEv where
  seq : Nat
  index : Nat
  sub : Nat
  value : Nat
  size : Nat
  target : Nat
  deriving DecidableEq, Repr

/-- A detection of an execution of a step (R271): kind, unit, cause or source, and address within the unit. -/
structure Det where
  /-- 1 parity, 2 router, 3 engine, 4 integrity source, 5 link -/
  kind : Nat
  unit : Nat
  cause : Nat
  info : Nat
  deriving DecidableEq, Repr

/-- Where a running job stands. -/
inductive Phase where
  /-- not running -/
  | none
  /-- scrub, preloads and staging before cycle 0 (R238) -/
  | starting
  | step
  /-- decided at the root: the next task, or a rerun -/
  | decided (next : Nat) (rerun : Bool) (plan : Bool)
  /-- waits for the decision of the group's master (R399) -/
  | group
  /-- waits at cycle 0 for the start tally (R398) -/
  | waitTally
  deriving DecidableEq, Repr

/-- One job slot (R221 to R238). -/
structure Job where
  /-- JOB_STATE: 0 EMPTY, 1 LOADING, 2 LOADED, 3 RUNNING, 4 STOPPING, 5 ENDED -/
  state : Nat
  status : Nat
  planAddr : U64
  evAddr : U64
  evLen : Nat
  dgAddr : U64
  dgLen : Nat
  everyStep : Bool
  target : U64
  steps : Nat
  planFences : Nat
  jobCy : Nat
  extraCy : Nat
  rerunSteps : Nat
  rerunCy : Nat
  keyEff : Nat
  source : Nat
  layer : Vector U64 8
  startTally : Nat
  endTally : Nat
  laggards : List Nat
  plan : Option Plan
  phase : Phase
  task : Nat
  len : Nat
  reruns : Nat
  execs : List (List Det)
  arrived : List FenceUnit
  late : Nat
  stopReq : Option Nat
  replay : Bool
  log : List (Nat × FenceEv)
  seq : Nat
  pending : List FenceEv
  evUsed : Nat
  dgUsed : Nat
  schedAddr : U64
  schedGroups : Nat
  updBeads : Nat
  updFrozen : Nat
  /-- last applied values of GROUP_ETA and GROUP_FROZEN (R260) -/
  etas : SMap Nat
  frozen : SMap Nat
  /-- energy in µJ, and the final total in mJ (R340) -/
  energyUj : Nat
  energyFinal : Nat
  /-- halt of the debugger (R468) -/
  halted : Bool
  /-- groups (R397 to R400) -/
  groupId : Nat
  members : List Nat
  keyGroup : Nat
  ready : List (Nat × List Nat × Nat)
  reports : List GroupReport
  startAt : Option Nat
  /-- the ledger of a group: transfers sent and landed in the step, by member -/
  sent : SMap Nat
  landed : SMap Nat
  /-- a switch has carried a transfer of the job in the step (R399) -/
  carried : Bool
  /-- statuses that the links of the job's ports ask it to stop with at its next fence (R383, R386, R387) -/
  linkStops : List Nat
  /-- links whose bead check failed in the step, with the cause (R389) -/
  linkDets : List (Nat × Nat)
  /-- tally at which the root began to wait for the master, and GROUP_FENCE_WAIT_TK (R399) -/
  waitFrom : Nat
  waitTk : Nat
  /-- the status with which the group stops the job at its next plan fence (R396) -/
  groupStop : Option Nat
  /-- tally at which the job became LOADED and took its units (R339, R340) -/
  ownFrom : Nat
  deriving DecidableEq, Repr

def Job.reset : Job :=
  { state := 0, status := 0, planAddr := 0, evAddr := 0, evLen := 0, dgAddr := 0, dgLen := 0, everyStep := false, target := 0, steps := 0,
    planFences := 0, jobCy := 0, extraCy := 0, rerunSteps := 0, rerunCy := 0, keyEff := 0, source := 0, layer := Vector.replicate 8 0,
    startTally := 0, endTally := 0, laggards := [], plan := none, phase := .none, task := 0, len := 0, reruns := 0, execs := [], arrived := [],
    late := 0, stopReq := none, replay := false, log := [], seq := 0, pending := [], evUsed := 0, dgUsed := 0, schedAddr := 0, schedGroups := 0,
    updBeads := 0, updFrozen := 0, etas := [], frozen := [], energyUj := 0, energyFinal := 0, halted := false, groupId := 0, members := [],
    keyGroup := 0, ready := [], reports := [], startAt := none, sent := [], landed := [], carried := false, linkStops := [], linkDets := [], waitFrom := 0, waitTk := 0, groupStop := none
    ownFrom := 0 }

-- tests and the comparison of weight copies (chapter 10)

/-- A test or calibration requested on a zone or, for kind 6, a stack (R281). -/
structure TestReq where
  unit : Nat
  kind : Nat
  running : Bool
  /-- the zone was parked and is parked again after the test -/
  repark : Bool
  /-- the job in whose quiet slot it runs -/
  job : Option Nat
  deriving DecidableEq, Repr

/-- A round of the weight comparison on the master (R284). -/
structure WcmpRound where
  phase : Nat
  fence : Nat
  asked : List Nat
  answers : List (Nat × U64)
  deriving DecidableEq, Repr

structure CheckSt where
  tests : List TestReq
  last : Nat
  faultHeld : Nat
  period : Nat
  wcmpJob : Nat
  wcmpSlot : Nat
  wcmpLast : Nat
  wcmpOdd : List Nat
  round : Option WcmpRound
  deriving DecidableEq, Repr

def CheckSt.reset : CheckSt := ⟨[], 0, 0, 0, 0, 0, 0, [], none⟩

end Sys2Proof.Machine
end

