-- ==== Sys2Proof/Machine/HostTypes.lean ====
section
/-! DEFINITION. What the host port, the management ports, the Pennos sessions, the protection unit and the debug unit hold (chapters 15, 17
and 18). -/

namespace Sys2Proof.Machine

/-- An event on its way to the event queues (R411, R412). -/
structure Event where
  kind : Nat
  unit : Nat
  data : List Byte
  tally : Nat
  deriving DecidableEq, Repr

/-- A mailbox slot: 0 free, 1 queued, 2 in progress, 3 response ready (R409, R414). -/
structure Mbx where
  state : Nat
  req : List Byte
  resp : List Byte
  deriving DecidableEq, Repr

/-- An event queue (R410, R413). -/
structure Eq_ where
  base : U64
  enable : Bool
  size : Nat
  vector : Nat
  count : Nat
  time : Nat
  tail : Nat
  phase : Bool
  head : Nat
  /-- entries dropped and not yet reported by an entry of kind 0x0F -/
  dropped : Nat
  /-- entries written since the last message -/
  unsignalled : Nat
  deriving DecidableEq, Repr

def Eq_.reset : Eq_ := ⟨0, false, 0, 0, 0, 0, 0, true, 0, 0, 0⟩

/-- A Pennos session (R425, R426); the minor number of its version, the major one being 1. -/
structure Session where
  id : Nat
  car : Nat
  origin : Nat
  version : Nat
  maxFrame : Nat
  /-- highest SEQ accepted; none before the first request -/
  high : Option Nat
  /-- kept responses by SEQ, newest first -/
  kept : List (Nat × List Byte)
  mask : Nat
  notifySeq : Nat
  deriving DecidableEq, Repr

/-- A request in the shared queue (R428, R370): its carrier, where its answer goes, its session (0 on SMBus) with the minor version and
SEQ under which it was accepted, and its body. -/
structure Request where
  car : Nat
  origin : Nat
  sess : Nat
  ver : Nat
  maxFrame : Nat
  seq : Nat
  body : List Byte
  /-- the frame as it arrived -/
  frame : List Byte
  /-- arrived before S9: answered under R370 also after it -/
  early : Bool
  deriving DecidableEq, Repr

/-- A request on the DOE mailbox (R420). -/
inductive DoeReq where
  | version | capabilities | algorithms (asym hash : Nat) | digests | certificate (slot offset len : Nat)
  | challenge (slot : Nat) (nonce : List Byte) | measurements (index : Nat) (sign : Bool) (nonce : List Byte) | discovery (index : Nat)
  deriving DecidableEq, Repr

/-- The host and management ports. -/
structure HostSt where
  linkUp : Bool
  rate : Nat
  width : Nat
  perst : Bool
  d3hot : Bool
  busMaster : Bool
  /-- writable configuration bytes -/
  config : Mem
  aer : List Nat
  w2Base : U64
  evRoute : U64
  mbx : Vector Mbx 16
  eqs : Vector Eq_ 16
  backlog : List (Nat × Event)
  /-- MSI-X table bytes, and pending bits; every vector is masked after a reset (R418) -/
  msix : Mem
  msixPending : Nat
  sessions : List Session
  nextSession : Nat
  queue : List Request
  /-- SMBus: response waiting, whether a request is in progress, alerts to collect -/
  smResp : Option (List Byte)
  smBusy : Bool
  alerts : List Event
  alertNext : Bool
  ethUp : Bool
  /-- address objects written and not yet applied; addresses in force -/
  ethDue : Bool
  ethMac : Nat
  ethAddr4 : Nat
  ethAddr6 : List Byte
  /-- replies of tile agents and engines on their way: request number, status, value -/
  dictReplies : List (Nat × Nat × List Byte)
  /-- SPDM: a version and algorithms have been agreed -/
  spdmVersion : Bool
  spdmCaps : Bool
  spdmAlgs : Bool
  /-- messages that a signature covers: of the agreement, of the certificate, of the measurements -/
  transcript : List Byte
  spdmCert : List Byte
  spdmMeas : List Byte
  /-- DOE requests that wait while Busy is set (R420) -/
  doeWait : List DoeReq
  straps : Nat
  strapSplits : Nat
  trace : List (List Byte)
  traceCount : Nat
  deriving DecidableEq, Repr

/-- The MSI-X table after a reset: bit 0 of each entry's vector control masks it. -/
def msixReset : Mem := (List.range 64).map (fun v => (16 * v + 12, 1))

def HostSt.reset : HostSt :=
  { linkUp := false, rate := 0, width := 0, perst := false, d3hot := false, busMaster := false, config := [], aer := [], w2Base := 0,
    evRoute := 0xFFFFFFFFFFFFFFFF, mbx := Vector.replicate 16 ⟨0, [], []⟩, eqs := Vector.replicate 16 Eq_.reset, backlog := [], msix := msixReset,
    msixPending := 0, sessions := [], nextSession := 1, queue := [], smResp := none, smBusy := false, alerts := [],
    alertNext := false, ethUp := false, ethDue := false, ethMac := 0, ethAddr4 := 0, ethAddr6 := [], dictReplies := [], spdmVersion := false,
    spdmCaps := false, spdmAlgs := false, transcript := [], spdmCert := [], spdmMeas := [], doeWait := [], straps := 0, strapSplits := 0, trace := [], traceCount := 0 }

/-- An armed halt of a job (R469): step, cycle, cause; the cycle of a hit. -/
structure HaltReq where
  step : Nat
  cyc : Nat
  cause : Nat
  /-- armed between two steps, for the one that comes next -/
  fresh : Bool
  deriving DecidableEq, Repr

/-- Protection and debug. -/
structure ProtSt where
  fuseCopy : Nat
  fusesRead : Bool
  lastReject : Nat
  mgmtUpdState : Nat
  recovery : List Byte
  attestNonce : List Byte
  maintNonce : List Byte
  dbgLevel : Nat
  dbgGranted : Nat
  dbgWanted : Nat
  /-- the challenge that waits for its response, and the tally at which it was read -/
  challenge : Option (List Byte)
  challengeAt : Nat
  dbgFails : Nat
  dbgReply : List Byte
  halts : Vector (Option HaltReq) 8
  /-- halted slots, and where they are halted -/
  haltAt : Vector (Option Nat) 8
  dbgHalt : U64
  dbgHit : U64
  hitsCounted : Nat
  modified : BitVec 8
  traceCtrl : Nat
  /-- a stepped core of STEP_INSN by slot: tile·4 + core, and its `now` when the stepping began -/
  stepCore : Vector (Option (Nat × Nat)) 8
  ir : Nat
  boundary : Nat
  deriving DecidableEq, Repr

def ProtSt.reset : ProtSt :=
  { fuseCopy := 0, fusesRead := false, lastReject := 0, mgmtUpdState := 0, recovery := [], attestNonce := [], maintNonce := [],
    dbgLevel := 0, dbgGranted := 0, dbgWanted := 0, challenge := none, challengeAt := 0, dbgFails := 0, dbgReply := [], halts := Vector.replicate 8 none,
    haltAt := Vector.replicate 8 none, dbgHalt := 0, dbgHit := 0, hitsCounted := 0, modified := 0, traceCtrl := 0,
    stepCore := Vector.replicate 8 none, ir := 0x01, boundary := 0 }

end Sys2Proof.Machine
end

