-- ==== Sys2Proof/Machine/LinkTypes.lean ====
section
/-! DEFINITION. What the optical links, the ports, the link switches and the cascade hold (chapter 14). -/

namespace Sys2Proof.Machine

/-- STATE codes of a link (R394). -/
def lsNone : Nat := 0
def lsDark : Nat := 1
def lsHold : Nat := 2
def lsTraining : Nat := 3
def lsUp : Nat := 4
def lsRetraining : Nat := 5
def lsIncompatible : Nat := 6
def lsDisabled : Nat := 7
def lsDownUntilStart : Nat := 8

/-- Virtual lanes (R379, R381). -/
def vlPlan : Nat := 0
def vlReduction : Nat := 1
def vlService : Nat := 2
def vlMgmt : Nat := 3

/-- Receive buffers per virtual lane (R381). -/
def vlBuffer (vl : Nat) : Nat := match vl with | 0 => 128 | 1 => 128 | 2 => 32 | _ => 8

/-- One virtual lane of one link: credits held for the partner's buffer, and the totals of the audit (R383). -/
structure VlSt where
  credits : Nat
  sent : Nat
  credited : Nat
  received : Nat
  returned : Nat
  deriving DecidableEq, Repr

def VlSt.reset (vl : Nat) : VlSt := ⟨vlBuffer vl, 0, 0, 0, 0⟩

/-- A data flit before its link gives it a place: virtual lane, port sequence, payload bytes [251:8]. -/
structure DataFlit where
  vl : Nat
  pseq : Nat
  payload : List Byte
  deriving DecidableEq, Repr

/-- One link. -/
structure LinkSt where
  state : Nat
  rate : Nat
  version : Nat
  partner : Nat
  partnerLink : Nat
  partnerGrouping : Nat
  features : Nat
  conflict : Bool
  latencyNs : Nat
  replays1ms : Nat
  fecLoad : Nat
  fault : Nat
  attempts : Nat
  laser : Bool
  vls : Vector VlSt 4
  fseq : Nat
  ackSeen : Nat
  expect : Nat
  /-- flits are discarded until the replay arrives; a NAK has been sent -/
  discarding : Bool
  /-- flits held until ACKSEQ passes them, with their FSEQ, oldest first (R382) -/
  retry : List (Nat × DataFlit)
  replayTries : Nat
  crcFails : Nat
  replays : Nat
  fecSymbols : Nat
  downs : Nat
  flitsSent : Nat
  /-- flits dropped whose credits were reset -/
  needIdle : Bool
  deriving DecidableEq, Repr

def LinkSt.reset : LinkSt :=
  { state := 0, rate := 0, version := 0, partner := 0, partnerLink := 0, partnerGrouping := 0, features := 0, conflict := false, latencyNs := 0,
    replays1ms := 0, fecLoad := 0, fault := 0, attempts := 0, laser := false,
    vls := #v[VlSt.reset 0, VlSt.reset 1, VlSt.reset 2, VlSt.reset 3], fseq := 0, ackSeen := 0, expect := 0, discarding := false, retry := [],
    replayTries := 0, crcFails := 0, replays := 0, fecSymbols := 0, downs := 0, flitsSent := 0, needIdle := false }

/-- One port: sequence numbers per virtual lane, flits waiting to be sent, flits received out of order, and the lines delivered in
order on each lane (R385). -/
structure PortSt where
  down : Bool
  txPseq : Vector Nat 4
  rxPseq : Vector Nat 4
  txq : List DataFlit
  /-- flits received out of order, with the link that each came on -/
  rxq : List (Nat × DataFlit)
  /-- flits of transfers delivered in order and not yet landed, oldest first -/
  ready : List (Nat × DataFlit)
  /-- lines of service packets received in part, by channel -/
  asm : SMap (List SvLine)
  deriving DecidableEq, Repr

def PortSt.reset : PortSt := ⟨false, Vector.replicate 4 0, Vector.replicate 4 0, [], [], [], []⟩

/-- A plan line taken from the mesh by a link switch, with its poison. -/
structure SwLine where
  data : V512
  poison : Bool
  deriving DecidableEq, Repr

/-- CASCADE_STATE codes (R404). -/
def csAlone : Nat := 0
def csElecting : Nat := 1
def csMember : Nat := 2
def csMaster : Nat := 3
def csConflict : Nat := 4

/-- The links and the cascade. -/
structure LinkSys where
  links : Vector LinkSt 36
  /-- link dies whose training has ended well this start -/
  dies : Nat
  ports : Vector PortSt 12
  grouping : Nat
  groupingNext : Nat
  /-- plan lines taken at the attachment rows, by edge·64 + row -/
  rows : SMap (List SwLine)
  /-- lines of service packets taken in part at the attachment rows, by (edge·64 + row)·2 + channel -/
  svc : SMap (List SvLine)
  masterSet : Nat
  master : Nat
  state : Nat
  /-- identities heard -/
  heard : List Nat
  lowest : Nat
  /-- ROUTE_TABLE as written, each port plus 1; an unlisted device goes by the partners of the ports -/
  routes : SMap Nat
  /-- hop count of the copy of the tally in use, and its link -/
  tallyHops : Nat
  tallyLink : Option Nat
  deriving DecidableEq, Repr

def LinkSys.reset : LinkSys :=
  { links := Vector.replicate 36 LinkSt.reset, dies := 0, ports := Vector.replicate 12 PortSt.reset, grouping := 12, groupingNext := 12,
    rows := [], svc := [], masterSet := 0xFFFF, master := 0xFFFF, state := 0, heard := [], lowest := 0xFFFF, routes := [], tallyHops := 255, tallyLink := none }

end Sys2Proof.Machine
end

