-- ==== Sys2Proof/Machine/PwrTypes.lean ====
section
/-! DEFINITION. What the power system holds (chapter 12). Currents are in units of 0.25 A and temperatures in units of 0.0625 °C, as SENS.RD
gives them (R322). -/

namespace Sys2Proof.Machine

/-- States of a zone core (R324). -/
def zsOff : Nat := 0
def zsWaiting : Nat := 1
def zsRamping : Nat := 2
def zsOn : Nat := 3
def zsParking : Nat := 4
def zsParked : Nat := 5
def zsUnparking : Nat := 6
def zsFault : Nat := 7

/-- The power side of one zone (R324, R325). -/
structure ZonePwr where
  state : Nat
  hold : Nat
  parkCause : Nat
  temp : Int
  current : Nat
  seqWait : Nat
  /-- the switch-on in progress began from PARKED -/
  unpark : Bool
  slow : Bool
  /-- the gate has closed -/
  gateClosed : Bool
  /-- the parking in progress ends in OFF (R331) -/
  toOff : Bool
  /-- a park request that waits for the switch-on to end, with its cause (R328) -/
  parkAfter : Option Nat
  deriving DecidableEq, Repr

def ZonePwr.reset : ZonePwr := ⟨0, 0, 0, 0, 0, 0, false, false, false, false, none⟩

/-- A token move on its way (R343). -/
structure TokenMove where
  seq : Nat
  donor : Nat
  receiver : Nat
  watts : Nat
  /-- the debit has been acknowledged; the tokens are in transit -/
  credited : Bool
  tries : Nat
  deriving DecidableEq, Repr

/-- The power pool on the master and the holding on a member (R341 to R344). -/
structure TokenSt where
  pool : Nat
  period : Nat
  step : Nat
  floor : Nat
  held : Nat
  member : Bool
  /-- the pool div n of the group, for R344 -/
  fair : Nat
  reserve : Nat
  /-- master's record of the holdings -/
  record : List (Nat × Nat)
  move : Option TokenMove
  seq : Nat
  applied : List Nat
  broken : Bool
  deriving DecidableEq, Repr

def TokenSt.reset : TokenSt := ⟨0, 1048576, 50, 4000, 0, false, 0, 0, [], none, 0, [], false⟩

/-- The power system. -/
structure PwrSt where
  /-- VIN12 good and the rails up -/
  rails : Bool
  powerGood : Bool
  /-- a device power fault: the board must remove VIN12 (R319) -/
  powerFault : Bool
  reg : Vector Nat 56
  regCause : Vector Nat 56
  zones : Vector ZonePwr 48
  /-- switch-on requests waiting, in the order made -/
  queue : List Nat
  /-- switched domains on, bit by bit (R323) -/
  bands : Nat
  memIf : Nat
  linkPorts : Nat
  hostIo : Bool
  debugDom : Bool
  vlogMv : Nat
  /-- setpoint of each group in mV -/
  setMv : Vector Nat 8
  /-- groups that need more than 0.90 V, and groups above RATING (R320, R326) -/
  overMv : Nat
  excess : Nat
  /-- regulation ticks in a row that needed more than 0.90 V -/
  overTicks : Vector Nat 8
  /-- measured outputs of the last ten ledger ticks, newest first, and the estimate of the mesh band -/
  measured : Vector (List Nat) 8
  bandCur : Vector Nat 8
  /-- samples of SENS.RD by selector, and the selectors marked failed (R322) -/
  sensors : SMap Nat
  failed : List Nat
  limitSet : Nat
  powerCeiling : Option Nat
  /-- checks in a row below 93 % of the limit -/
  lowChecks : Nat
  unmet : Bool
  pkgPower : Nat
  pkgPeak : Nat
  vin12 : Nat
  dieTempMax : Int
  /-- DIE_TEMP_MAX has been below 45 °C since the last thermal cycle -/
  cold : Bool
  tripped : Bool
  /-- tallies of the trips, newest first -/
  trips : List Nat
  /-- waits for a write to TRIP_RESTART (R338) -/
  tripWait : Bool
  tripCoolS : Nat
  idleParkMs : Nat
  deviceUj : Nat
  unattrUj : Nat
  token : TokenSt
  deriving DecidableEq, Repr

def PwrSt.reset : PwrSt :=
  { rails := false, powerGood := false, powerFault := false, reg := Vector.replicate 56 0, regCause := Vector.replicate 56 0,
    zones := Vector.replicate 48 ZonePwr.reset, queue := [], bands := 0, memIf := 0, linkPorts := 0, hostIo := false, debugDom := false,
    vlogMv := 0, setMv := Vector.replicate 8 0, overMv := 0, excess := 0, overTicks := Vector.replicate 8 0, measured := Vector.replicate 8 [], bandCur := Vector.replicate 8 0,
    sensors := [], failed := [], limitSet := 7800, powerCeiling := none, lowChecks := 0, unmet := false, pkgPower := 0, pkgPeak := 0, vin12 := 0,
    dieTempMax := 0, cold := true, tripped := false, trips := [], tripWait := false, tripCoolS := 30, idleParkMs := 100, deviceUj := 0,
    unattrUj := 0, token := TokenSt.reset }

end Sys2Proof.Machine
end

