-- ==== Sys2Proof/Machine/State.lean ====
section
/-! DEFINITION. The state of the device, the faults and refusals, and the state after reset. -/

namespace Sys2Proof.Machine

/-- Why a step stops. -/
inductive Fault where
  /-- Raised by a command of a tile or of a core whose tile index lies outside the logical grid in force: the spec gives no such tile
  (R449, R450). Safe. -/
  | noSuchTile
  deriving DecidableEq, Repr

/-- Why an instruction has no meaning. -/
inductive Refusal where
  /-- Raised by an arm of exec whose command has no meaning yet. Safe. -/
  | notModelled (mnemonic : String)
  deriving DecidableEq, Repr

/-- What the device sends to the outside. -/
inductive Out where
  /-- the status of a dictionary operation and the value of a read, to a carrier: 0 Ethernet, 1 mailbox, 2 SMBus, 3 debug; 4 where the
  command names none -/
  | answer (car : Nat) (status : Nat) (data : List Byte)
  /-- a Pennos frame to an origin of a carrier -/
  | frame (car : Nat) (origin : Nat) (bytes : List Byte)
  /-- a PCI Express completion: 0 successful, 1 Unsupported Request, 2 Completer Abort, 3 retry; poisoned; data -/
  | completion (code : Nat) (poisoned : Bool) (data : List Byte)
  /-- a posted write to host memory -/
  | hostWrite (addr : Nat) (data : List Byte)
  /-- an MSI-X message of a vector -/
  | msix (vector : Nat)
  /-- an object of the DOE mailbox -/
  | doe (bytes : List Byte)
  /-- an Ethernet answer that is not a Pennos frame -/
  | eth (kind : Nat) (bytes : List Byte)
  /-- an SMBus byte or block -/
  | smbus (bytes : List Byte)
  /-- a data flit of a link: FSEQ, flit -/
  | flit (link : Nat) (fseq : Nat) (f : DataFlit)
  /-- a control flit of a link: CTYPE, content -/
  | control (link : Nat) (ctype : Nat) (content : List Nat)
  /-- a message of the management virtual lane to a device: 0xFFFF all members; kind and content -/
  | peer (dest : Nat) (kind : Nat) (content : List Nat)
  /-- a stretch notice of a zone to its neighbours: origin, sequence number, length -/
  | notice (zone origin seq len : Nat)
  /-- a broadcast packet of a firmware chunk: image version, chunk number, digest -/
  | chunk (version n digest : Nat)
  /-- the answer of an engine to a service request of the host or the manager: engine, status, poison, data -/
  | service (engine : Nat) (status : Nat) (poisoned : Bool) (data : List Byte)
  /-- bits of the JTAG port -/
  | jtag (ir : Nat) (value : Nat)
  deriving DecidableEq, Repr

/-- The device. -/
structure State where
  /-- commands waiting, first in first out -/
  pending : List Instr
  fuses : Fuses
  life : Life
  boot : BootSt
  grid : Grid
  tiles : SMap Tile
  mem : MemSys
  jobs : Vector Job 8
  check : CheckSt
  clk : ClkSt
  tally : TallySt
  pwr : PwrSt
  link : LinkSys
  host : HostSt
  prot : ProtSt
  /-- counters of the dictionary by index·256 + sub-index, and their per-tile forms by that·2048 + tile (R71, R451) -/
  ctr : SMap Nat
  tctr : SMap Nat
  /-- events raised and not yet routed -/
  events : List Event
  out : List Out
  /-- draws made from the random source (log entry 7) -/
  draws : Nat
  deriving DecidableEq, Repr

/-- The fuses of the part that the model runs: an NX1440-1636A-T whose protection block is unblown but for the shipped write policy (R453, R456,
R490, R491; the choice of the part: log entry 13). -/
def Fuses.reset : Fuses :=
  { grade := 1440, stacksFitted := 0xFFFF, linkDiesFitted := 0x3FFFF, linkDiesDisabled := 0, binMax := 3600,
    powerLimit := 7800, updateEngines := true, stepping := 0, serial := 0, vf := List.replicate 25 750, factory := [],
    keyHash := Vector.replicate 4 (List.replicate 64 0), keyRoles := 0, keyRevoked := 0, rollback := 0, debugLock := 0,
    writePolicy := #v[0x1F, 0x3F, 0x01, 0x1E], identitySeed := List.replicate 32 0,
    ordering := [0x4E, 0x58, 0x31, 0x34, 0x34, 0x30, 0x2D, 0x31, 0x36, 0x33, 0x36, 0x41, 0x2D, 0x54]
    pcieIds := 0, jtagIds := 0 }

/-- The life record at manufacture (R440). -/
def Life.reset : Life :=
  { defects := [], overflowHeld := 0, overflows := 0, rejects := 0, retry := [], log := [], startNo := 0, cleanStarts := 0, mgmtResets := 0,
    counts := LifeCounts.reset, committed := LifeCounts.reset, faults := [], stackTraining := 0, linkTraining := 0, granule := 1,
    mgmtImages := Vector.replicate 2 [], ecmetImages := Vector.replicate 2 [], lastBoot := 0, ecmetSlot := 0, certChain := [], kept := [],
    frozen := [] }

/-- The device before power is applied: only the fuses and the life record hold anything (R1). -/
def State.reset : State :=
  { pending := [], fuses := Fuses.reset, life := Life.reset, boot := BootSt.reset, grid := Grid.reset, tiles := [], mem := MemSys.reset,
    jobs := Vector.replicate 8 Job.reset, check := CheckSt.reset, clk := ClkSt.reset, tally := TallySt.reset, pwr := PwrSt.reset,
    link := LinkSys.reset, host := HostSt.reset, prot := ProtSt.reset, ctr := [], tctr := [], events := [], out := [], draws := 0 }

end Sys2Proof.Machine
end

