-- ==== Sys2Proof/Machine/TileOps.lean ====
section
/-! DEFINITION. The operations that the agents of a tile share: scratchpad access with parity, class and bound (R141 to R155), the
records of a detection and of a trap, the mirror accumulator and the digest slots. -/

namespace Sys2Proof.Machine

/-- A counter of the device by index and sub-index. -/
def ck (index sub : Nat) : Nat := index * 256 + sub

/-- A debug hit: the cycle and the PC or watchpoint number (R470). -/
structure Hit where
  cyc : Nat
  num : Nat
  isBp : Bool
  deriving DecidableEq, Repr

/-- What a tile operation gives: the tile, the counter increments and the debug hits. -/
structure TOut where
  tile : Tile
  bumps : List (Nat × Nat)
  hits : List Hit
  deriving DecidableEq, Repr

/-- What an operation knows of the tile's place: index, logical place, rows of the grid, and the part's update engines. -/
structure TEnv where
  t : Nat
  x : Nat
  y : Nat
  rows : Nat
  engines : Bool
  deriving DecidableEq, Repr

def TOut.of (t : Tile) : TOut := ⟨t, [], []⟩
def TOut.bump (o : TOut) (k n : Nat) : TOut := if n = 0 then o else { o with bumps := o.bumps ++ [(k, n)] }
def TOut.andThen (o : TOut) (f : Tile → TOut) : TOut :=
  let r := f o.tile
  ⟨r.tile, o.bumps ++ r.bumps, o.hits ++ r.hits⟩
def TOut.upd (o : TOut) (f : Tile → Tile) : TOut := { o with tile := f o.tile }

/-- A core of a tile. -/
def Tile.core (t : Tile) (c : CoreIx) : CoreSt := t.cores[c]
def Tile.setCore (t : Tile) (c : CoreIx) (k : CoreSt) : Tile := { t with cores := t.cores.set c k }
def Tile.updCore (t : Tile) (c : CoreIx) (f : CoreSt → CoreSt) : Tile := t.setCore c (f (t.core c))

/-- Scalar registers: s0 reads as 0 and writes to it are discarded (R107). -/
def CoreSt.getS (k : CoreSt) (r : Reg) : U64 := if r = 0 then 0 else k.s[r]
def CoreSt.setS (k : CoreSt) (r : Reg) (v : U64) : CoreSt := if r = 0 then k else { k with s := k.s.set r v }
def CoreSt.setV (k : CoreSt) (r : VReg) (v : V512) : CoreSt := { k with v := k.v.set r v }

/-- Byte addresses (R141). -/
def bankOf (p : Nat) : Nat := p / 262144
def lineAddr (p : Nat) : Nat := p / 64 * 64
def lineInBank (p : Nat) : Nat := p / 64 % 4096
def spSize : Nat := 4194304

/-- The map byte of a bank in the running task (R147). -/
def Tile.mapByte (t : Tile) (b : Nat) : Nat := (t.tsk.map.toList.getD b 0).toNat
def Tile.bankClass (t : Tile) (b : Nat) : Nat := t.mapByte b / 32
def Tile.bankOwner (t : Tile) (b : Nat) : Nat := t.mapByte b / 8 % 4
def Tile.bankCode (t : Tile) (b : Nat) : Bool := t.mapByte b / 4 % 2 == 1

/-- The port classes of R144. -/
def clsFrame : Nat := 1
def clsEcmet : Nat := 2
def clsMesh : Nat := 3
def clsCopy : Nat := 4

/-- Is every byte within the task's bound (R149). -/
def Tile.inBound (t : Tile) (o n : Nat) : Bool := decide (o + n ≤ t.tsk.bound)

/-- Does every line of the access lie in a bank of the class; the access is within the bound. -/
def Tile.classOk (t : Tile) (cls o n : Nat) : Bool :=
  let p := t.tsk.base + o
  (upTo (bankOf (p + n - 1) + 1 - bankOf p)).all (fun i => t.bankClass (bankOf p + i) == cls)

/-- The code bank of a core: the bank that the map marks as its code (R108, R148). -/
def Tile.codeBank (t : Tile) (c : CoreIx) : Nat :=
  ((upTo 16).find? (fun b => t.bankClass b == clsEcmet && t.bankOwner b == c.val && t.bankCode b)).getD 0

/-- Agents of the detection record (R155). -/
def agFrameA : Nat := 1
def agFrameB : Nat := 2
def agFrameS : Nat := 3
def agFetch : Nat := 4
def agData : Nat := 5
def agRouterMesh : Nat := 6
def agRouterCopy : Nat := 7
def agUpdate : Nat := 8

/-- A wait in progress ends without effect. -/
def CoreSt.endWait (k : CoreSt) : CoreSt := match k.run with | .waiting _ _ => { k with run := .stopped } | _ => k

/-- The tile stops: no core issues after cycle `cy`, and waits in progress end without effect (R138, R154). -/
def Tile.stop (t : Tile) (cy : Nat) : Tile :=
  { t with
    stopAt := some (match t.stopAt with | none => cy | some k => min k cy)
    arrivedAt := (match t.arrivedAt with | none => some cy | some a => some a)
    cores := t.cores.map CoreSt.endWait }

/-- The bytes with bad parity that a read of [p, p + n) checks: every byte of every word it touches (R153). -/
def Tile.badIn (t : Tile) (p n : Nat) : List Nat :=
  t.spBad.filter (fun a => decide (p / 8 * 8 ≤ a) && decide (a < (p + n + 7) / 8 * 8))

/-- The detection record of the first bad word among the bytes found (R155). -/
def detectWord (agent cy : Nat) (bad : List Nat) : Nat :=
  let lo := bad.foldl min (bad.headD 0)
  let w := lo / 8
  let bytes := bad.foldl (fun m a => if a / 8 = w then m ||| 2 ^ (a % 8) else m) 0
  cy % 2 ^ 32 * 2 ^ 32 + agent * 2 ^ 28 + bankOf lo * 2 ^ 24 + lineInBank lo * 2 ^ 12 + w % 8 * 2 ^ 8 + bytes

/-- A read checks parity: an error is recorded and stops the tile; the data is delivered all the same (R154). -/
def spCheck (agent p n cy : Nat) (t : Tile) : TOut :=
  let bad := t.badIn p n
  if bad.isEmpty then TOut.of t else
  let lo := bad.foldl min (bad.headD 0)
  (TOut.of ({ t with
    detected := true, dets := t.dets ++ [(1, 0, bankOf lo * 4096 + lineInBank lo)]
    spDetect := if t.spDetect = 0 then detectWord agent cy bad else t.spDetect }.stop cy)).bump
    (ck 0x9130 1) 1

/-- A watchpoint of the tile hits on an access by an agent of its mask (R470). -/
def wpCheck (agentBit : Nat) (wr : Bool) (p n cy : Nat) (t : Tile) : TOut :=
  let hit := fun (w : Wp) => w.enable && bitOf w.agents agentBit && (w.kind == 2 || (w.kind == 1) == wr)
    && decide (p < w.p + w.len) && decide (w.p < p + n)
  let one := fun (i : Fin 2) => if hit t.wps[i] then [(⟨cy, i.val, false⟩ : Hit)] else []
  ⟨t, [], one 0 ++ one 1⟩

/-- The bytes of an access. -/
def Tile.data (t : Tile) (p n : Nat) : List Byte := t.sp.readBytes p n

/-- One line as a number, low byte first. -/
def Tile.line (t : Tile) (p : Nat) : V512 := BitVec.ofNat 512 (natOfLE (t.sp.readBytes (lineAddr p) 64))

/-- The bytes of a line. -/
def lineBytes (v : V512) : List Byte := leOfNat 64 v.toNat
def bytesLine (bs : List Byte) : V512 := BitVec.ofNat 512 (natOfLE bs)

/-- A mirror term of one line write (R268): bytes with their place in the line. -/
def mirrorTerm (t : Tile) (p : Nat) (bs : List (Nat × Byte)) : U64 :=
  let be := bs.foldl (fun m b => m ||| 2 ^ b.1) 0
  let img := (upTo 64).map (fun i => SMap.get (0 : Byte) bs i)
  mix64 (digestH 0xFFFFFFFF ((lineAddr p - t.tsk.base) / 64) img ^^^ BitVec.ofNat 64 be)

/-- Write bytes of one line, by place in the line rising; `mirrored` writes add their term in mirror mode; a poisoned landing
leaves every parity bit of what it writes inverted (R153, R180, R268). -/
def spWriteLine (mirrored poison : Bool) (p : Nat) (bs : List (Nat × Byte)) (t : Tile) : Tile :=
  let l := lineAddr p
  let kept := t.spBad.filter (fun a => ! bs.any (fun b => l + b.1 == a))
  { t with
    sp := bs.foldl (fun m b => m.write (l + b.1) b.2) t.sp
    spBad := if poison then kept ++ bs.map (fun b => l + b.1) else kept
    mirrorAcc := if mirrored && t.mirror && ! bs.isEmpty then t.mirrorAcc + mirrorTerm t p bs else t.mirrorAcc }

/-- Bytes at `p` paired with their places in the line. -/
def placed (p : Nat) : List Byte → List (Nat × Byte)
  | [] => []
  | b :: bs => (p % 64, b) :: placed (p + 1) bs

/-- An aligned scalar or line write of an access within one line. -/
def spWrite (mirrored : Bool) (p : Nat) (bs : List Byte) (t : Tile) : Tile := spWriteLine mirrored false p (placed p bs) t

/-- A whole line lands. -/
def spLand (mirrored poison : Bool) (p : Nat) (v : V512) (t : Tile) : Tile :=
  spWriteLine mirrored poison p (placed (lineAddr p) (lineBytes v)) t

/-- The integrity record takes the first event of a step (R265). -/
def Tile.integrity (t : Tile) (src bank line bead cy : Nat) : Tile :=
  { t with
    detected := true
    dets := t.dets ++ [(4, src, bank * 4096 + line)]
    integ := if t.integ = 0 then cy % 2 ^ 32 * 2 ^ 32 + src * 2 ^ 28 + bank * 2 ^ 24 + line * 2 ^ 12 + bead else t.integ }

/-- A core traps and issues nothing more (R137 to R139). A wait timeout is reported as a detection (R135). -/
def trapTile (c : CoreIx) (cause major cy : Nat) (t : Tile) : Tile :=
  let rec_ := cy % 2 ^ 32 * 2 ^ 32 + (t.core c).pc % 65536 * 2 ^ 16 + major * 2 ^ 10 + cause
  ({ (t.updCore c (fun k => { k with etrap := rec_, run := .stopped })) with trapped := t.trapped || cause != 9 } : Tile).stop cy

/-- The trap as an outcome: the device counts it (R138). -/
def coreTrap (c : CoreIx) (cause major cy : Nat) (t : Tile) : TOut := (TOut.of (trapTile c cause major cy t)).bump (ck 0x9120 1) 1

/-- The digest entries that name this instruction of the running task (R233). -/
def Tile.digFor (t : Tile) (source ordinal : Nat) : List DigEnt :=
  t.digTab.filter (fun e => e.task == t.tsk.task && e.source == source && e.ordinal == ordinal)

/-- Add bead `i` of an instruction to the slots of its entries (R233, R234). -/
def digestAdd (es : List DigEnt) (i : Nat) (b : Bead) (t : Tile) : Tile :=
  { t with dig := es.foldl (fun d e =>
      let k := (e.base + i * e.stride) % 2 ^ 32
      let h := digestH e.tensor.toNat k (b.elems ++ [b.byte0, b.byte1])
      d.set (e.slot % 8) (d[e.slot % 8]'(Nat.mod_lt _ (by decide)) + h) (Nat.mod_lt _ (by decide))) t.dig }

end Sys2Proof.Machine
end

