-- ==== Sys2Proof/Machine/Ops.lean ====
section
/-! DEFINITION. The operations over the whole device that the commands share: tiles, counters, jobs, events, answers. -/

namespace Sys2Proof.Machine

/-- What a command answers. -/
abbrev Res := Host.Outcome State Fault Refusal

/-- A tile by its logical index. -/
def State.tile (s : State) (t : Nat) : Tile := SMap.get Tile.reset s.tiles t
def State.setTile (s : State) (t : Nat) (v : Tile) : State := { s with tiles := SMap.put Tile.reset s.tiles t v }
def State.updTile (s : State) (t : Nat) (f : Tile → Tile) : State := s.setTile t (f (s.tile t))

/-- Apply a change to every tile of a list. -/
def State.forTiles (s : State) (ts : List Nat) (f : Nat → Tile → Tile) : State := ts.foldl (fun s t => s.updTile t (f t)) s

/-- Every tile of the logical grid. -/
def State.allTiles (s : State) : List Nat := upTo (48 * s.grid.logicalRows)

/-- The tiles of a set of zones. -/
def State.zoneTiles (s : State) (mask : Nat) : List Nat := s.allTiles.filter (fun t => mask.testBit (s.grid.tileZone t))

/-- Counters saturate (R71). -/
def State.counter (s : State) (k : Nat) : Nat := SMap.get 0 s.ctr k
def State.bump (s : State) (k n : Nat) : State :=
  { s with ctr := SMap.put 0 s.ctr k (satAdd (s.counter k) n) }

/-- A counter has a per-tile form (R451). -/
def perTile (k : Nat) : Bool :=
  let i := k / 256
  [0x9100, 0x9110, 0x9120, 0x9130, 0x9140, 0x9160].contains i || (i == 0x9170 && decide (k % 256 ≤ 3))

/-- An event of a tile adds to the device counter and to the tile's own (R451). -/
def State.bumpTile (s : State) (t k n : Nat) : State :=
  let s1 := s.bump k n
  if perTile k then { s1 with tctr := SMap.put 0 s1.tctr (k * 2048 + t) (satAdd (SMap.get 0 s1.tctr (k * 2048 + t)) n) } else s1

def State.bumps (s : State) (t : Nat) (l : List (Nat × Nat)) : State := l.foldl (fun s b => s.bumpTile t b.1 b.2) s

/-- Job slots. -/
def State.job (s : State) (j : SlotIx) : Job := s.jobs[j]
def State.setJob (s : State) (j : SlotIx) (v : Job) : State := { s with jobs := s.jobs.set j v }
def State.updJob (s : State) (j : SlotIx) (f : Job → Job) : State := s.setJob j (f (s.job j))
def slotIx (n : Nat) : SlotIx := ⟨n % 8, Nat.mod_lt _ (by decide)⟩
def allSlots : List SlotIx := [0, 1, 2, 3, 4, 5, 6, 7]

/-- JOB_STATE codes (R238). -/
def jsEmpty : Nat := 0
def jsLoading : Nat := 1
def jsLoaded : Nat := 2
def jsRunning : Nat := 3
def jsStopping : Nat := 4
def jsEnded : Nat := 5

/-- A running job: RUNNING or STOPPING. -/
def Job.running (j : Job) : Bool := j.state == jsRunning || j.state == jsStopping
/-- A job that holds its resources (R222). -/
def Job.holds (j : Job) : Bool := j.state == jsLoaded || j.running
def State.anyRunning (s : State) : Bool := allSlots.any (fun j => (s.job j).running)
/-- Every slot is EMPTY or ENDED: between jobs (R437). -/
def State.betweenJobs (s : State) : Bool := allSlots.all (fun j => (s.job j).state == jsEmpty || (s.job j).state == jsEnded)

/-- The slot that owns a zone (R222). -/
def State.zoneOwner (s : State) (z : Nat) : Option SlotIx :=
  allSlots.find? (fun j => (s.job j).holds && match (s.job j).plan with | some p => p.zones.testBit z | none => false)
def State.engineOwner (s : State) (e : Nat) : Option SlotIx :=
  allSlots.find? (fun j => (s.job j).holds && match (s.job j).plan with | some p => p.engines.testBit e | none => false)
def State.portOwner (s : State) (p : Nat) : Option SlotIx :=
  allSlots.find? (fun j => (s.job j).holds && match (s.job j).plan with | some q => q.ports.testBit p | none => false)

/-- Raise an event (R411, R412). -/
def State.raise (s : State) (kind unit : Nat) (data : List Byte) : State :=
  { s with events := s.events ++ [⟨kind, unit, data, s.tally.now⟩] }

/-- Send something to the outside. -/
def State.send (s : State) (o : Out) : State := { s with out := s.out ++ [o] }

def carNum : Carrier → Nat
  | .ethernet => 0
  | .mailbox => 1
  | .smbus => 2
  | .debug => 3

def State.answer (s : State) (car : Carrier) (status : Nat) (data : List Byte) : State := s.send (.answer (carNum car) status data)

/-- A change of JOB_STATE raises an event of kind 0x02 (R221, R412). -/
def State.setJobState (s : State) (j : SlotIx) (st : Nat) : State :=
  let s1 := s.updJob j (fun b => { b with state := st })
  s1.raise 0x02 j.val (leOfNat 1 st ++ [0] ++ leOfNat 2 (s1.job j).status)

/-- A draw of the random source, `n` bytes (log entry 7). -/
def State.random (s : State) (n : Nat) : List Byte × State := (leOfNat n (Config.randomDraw s.draws), { s with draws := s.draws + 1 })

/-- Fault records and other faults written to the life record. -/
def State.lifeFault (s : State) (kind unit cause : Nat) : State :=
  { s with life := { s.life with faults := s.life.faults ++ [⟨kind, unit, cause, s.tally.now⟩] } }

/-- What a tile operation knows of its place. -/
def State.env (s : State) (t : Nat) : TEnv := ⟨t, t % 48, t / 48, s.grid.logicalRows, s.fuses.updateEngines⟩

/-- Halt distance H of a job (R469). -/
def Job.haltDist (j : Job) : Nat := 2 * (match j.plan with | some p => p.fenceD | none => 0) + 16

/-- The halt armed for the running step of a job, as the cycle before which its units stop (R469). -/
def State.armedCy (s : State) (j : SlotIx) : Option Nat :=
  match s.prot.halts[j] with
  | some h => if (s.job j).steps = h.step then some h.cyc else none
  | none => none

/-- The tiles of a job take its armed halt. -/
def State.armTiles (s : State) (j : SlotIx) : State :=
  match (s.job j).plan with
  | some p => s.forTiles (p.tiles.map TileRec.t) (fun _ t => { t with haltCy := s.armedCy j })
  | none => s

/-- A breakpoint or watchpoint hit is recorded and arms the halt; a hit during the H cycles is only counted (R469, R470). -/
def State.hit (s : State) (t : Nat) (h : Hit) : State :=
  match (s.tile t).job with
  | none => s
  | some j =>
    let jx := slotIx j
    let p := s.prot
    if p.halts[jx].isSome || p.haltAt[jx].isSome then { s with prot := { p with hitsCounted := p.hitsCounted + 1 } } else
    ({ s with prot := { p with
        dbgHit := BitVec.ofNat 64 (h.cyc % 2 ^ 32 * 2 ^ 32 + h.num % 65536 * 65536 + t % 2048)
        halts := p.halts.set jx (some ⟨(s.job jx).steps, h.cyc + (s.job jx).haltDist, if h.isBp then 3 else 4, false⟩) } } : State).armTiles jx

/-- Put the outcome of a tile operation back: the tile, the counters (with the job's own of R260) and the debug hits. -/
def State.putTile (s : State) (t : Nat) (o : TOut) : State :=
  let s1 := (s.setTile t o.tile).bumps t o.bumps
  let sum := fun k => (o.bumps.filter (fun b => b.1 == k)).foldl (fun a b => a + b.2) 0
  let s2 := match o.tile.job with
    | some j => if sum (ck 0x9160 1) + sum (ck 0x9160 2) = 0 then s1 else
        s1.updJob (slotIx j) (fun b => { b with updBeads := satAdd b.updBeads (sum (ck 0x9160 1)), updFrozen := satAdd b.updFrozen (sum (ck 0x9160 2)) })
    | none => s1
  o.hits.foldl (fun s h => s.hit t h) s2

/-- A tile operation as a command: a tile outside the grid is a fault. -/
def onTile (t : TileIx) (f : TEnv → Tile → TOut) (s : State) : Res :=
  if s.grid.hasTile t.val then .next (s.putTile t.val (f (s.env t.val) (s.tile t.val))) else .fault .noSuchTile

end Sys2Proof.Machine
end

