-- ==== Sys2Proof/Machine/Flags.lean ====
section
/-! DEFINITION. The vector lanes and the VFLAGS that they raise: lane types (R118), lane arithmetic (R116, R119), reductions (R120),
conversions (R121), bead instructions (R122) and the function tables (R123, R124). -/

namespace Sys2Proof.Machine

/-- A lane type that is not reserved: width in bits, or a float format (R118). -/
inductive LaneTy where
  | int (w : Nat)
  | flt (f : FFmt)
  deriving DecidableEq, Repr

/-- Lane type codes (R118). -/
def laneTy (c : BitVec 3) : Option LaneTy :=
  match c.toNat with
  | 0 => some (.int 8)
  | 1 => some (.int 16)
  | 2 => some (.int 32)
  | 4 => some (.flt f16)
  | 5 => some (.flt f32)
  | _ => none

def LaneTy.w : LaneTy → Nat
  | .int w => w
  | .flt f => f.w

def LaneTy.lanes (t : LaneTy) : Nat := 512 / t.w

/-- Lane `i` of a register: bits [w·i + w − 1 : w·i] (R118). -/
def laneOf (w : Nat) (v : V512) (i : Nat) : Nat := v.toNat / 2 ^ (w * i) % 2 ^ w

/-- The number whose `w`-bit digits are the lanes, lane 0 first. -/
def lanesNat (w : Nat) : List Nat → Nat
  | [] => 0
  | l :: ls => l % 2 ^ w + 2 ^ w * lanesNat w ls

def ofLanes (w : Nat) (ls : List Nat) : V512 := BitVec.ofNat 512 (lanesNat w ls)

def lanesOf (w : Nat) (v : V512) : List Nat := (upTo (512 / w)).map (laneOf w v)

/-- A lane result with its flags. -/
abbrev LaneRes := Nat × BitVec 5

def orFlags (rs : List LaneRes) : BitVec 5 := rs.foldl (fun a r => a ||| r.2) 0

/-- The low `w` bits of an integer. -/
def wrapW (w : Nat) (x : Int) : Nat := (x % ((2 ^ w : Nat) : Int)).toNat

/-- Saturate to a signed integer of `w` bits. -/
def satW (w : Nat) (x : Int) : Nat :=
  wrapW w (max (-((2 ^ (w - 1) : Nat) : Int)) (min (((2 ^ (w - 1) : Nat) : Int) - 1) x))

/-- The lane-wise operations of R116. -/
inductive VOp where
  | add | sub | mul | fma | min | max | abs | neg | adds | subs | cmplt | cmpeq
  deriving DecidableEq, Repr

def fres (r : FRes) : LaneRes := (r.bits, r.flags)

/-- All ones of a lane where true, else 0 (R116). -/
def maskW (w : Nat) (b : Bool) : Nat := if b then 2 ^ w - 1 else 0

/-- One lane of an operation: a, b and the old destination d. Integers wrap, but VADDS and VSUBS saturate (R118, R119). -/
def laneOp (op : VOp) (ty : LaneTy) (a b d : Nat) : LaneRes :=
  match ty with
  | .int w =>
    let x := sextNat w a
    let y := sextNat w b
    match op with
    | .add => (wrapW w (x + y), 0)
    | .sub => (wrapW w (x - y), 0)
    | .mul => (wrapW w (x * y), 0)
    | .fma => (wrapW w (x * y + sextNat w d), 0)
    | .min => (wrapW w (min x y), 0)
    | .max => (wrapW w (max x y), 0)
    | .abs => (wrapW w (if x < 0 then -x else x), 0)
    | .neg => (wrapW w (-x), 0)
    | .adds => (satW w (x + y), 0)
    | .subs => (satW w (x - y), 0)
    | .cmplt => (maskW w (decide (x < y)), 0)
    | .cmpeq => (maskW w (decide (x = y)), 0)
  | .flt f =>
    let x := f.decode a
    let y := f.decode b
    match op with
    | .add => fres (f.add x y)
    | .sub => fres (f.sub x y)
    | .mul => fres (f.mul x y)
    | .fma => fres (f.fma x y (f.decode d))
    | .min => fres (f.minMax false a b)
    | .max => fres (f.minMax true a b)
    | .abs => (f.absBits a, 0)
    | .neg => (f.negBits a, 0)
    | .adds => fres (f.add x y)
    | .subs => fres (f.sub x y)
    | .cmplt => let r := f.lt a b
                (maskW f.w r.1, r.2)
    | .cmpeq => let r := f.eq a b
                (maskW f.w r.1, r.2)

/-- A lane-wise operation on whole registers. -/
def vecOp (op : VOp) (ty : LaneTy) (a b d : V512) : V512 × BitVec 5 :=
  let rs := (upTo ty.lanes).map (fun i => laneOp op ty (laneOf ty.w a i) (laneOf ty.w b i) (laneOf ty.w d i))
  (ofLanes ty.w (rs.map Prod.fst), orFlags rs)

/-- VPERM: lane i is lane (VB lane i mod lanes) of VA (R116). -/
def vecPerm (ty : LaneTy) (a b : V512) : V512 :=
  ofLanes ty.w ((upTo ty.lanes).map (fun i => laneOf ty.w a (laneOf ty.w b i % ty.lanes)))

/-- VINS: lane s[SA] modulo the lane count becomes the low bits of s[SD] (R116, R118). -/
def vecIns (ty : LaneTy) (d : V512) (n v : Nat) : V512 :=
  ofLanes ty.w ((upTo ty.lanes).map (fun i => if i = n % ty.lanes then v % 2 ^ ty.w else laneOf ty.w d i))

/-- VEXT: integer lanes sign-extended, float bits zero-extended (R116). -/
def vecExt (ty : LaneTy) (a : V512) (n : Nat) : U64 :=
  let l := laneOf ty.w a (n % ty.lanes)
  match ty with
  | .int w => BitVec.ofInt 64 (sextNat w l)
  | .flt _ => BitVec.ofNat 64 l

/-! ## Reductions (R120) -/

/-- Combine neighbours in pairs; of a list with an even number of lanes this is one level of the fixed tree. -/
def pairUp (op : Nat → Nat → LaneRes) : List Nat → List Nat × BitVec 5
  | a :: b :: rest =>
    let r := op a b
    let q := pairUp op rest
    (r.1 :: q.1, r.2 ||| q.2)
  | l => (l, 0)

/-- The tree of R120: lane i of each level is op(lane 2i, lane 2i + 1) of the level below. -/
def reduceTree (op : Nat → Nat → LaneRes) : Nat → List Nat → BitVec 5 → Nat × BitVec 5
  | 0, l, fl => (l.headD 0, fl)
  | n + 1, l, fl =>
    let r := pairUp op l
    reduceTree op n r.1 (fl ||| r.2)

/-- Widen binary16 lanes to binary32; a signalling NaN stays signalling for the flags of the operation (log entry 8). -/
def widen16 (b : Nat) : Nat :=
  match f16.decode b with
  | .nan true => f32.infBits + 1
  | .nan false => f32.qnan
  | v => f32.encode v

inductive RedOp where
  | add | max | min
  deriving DecidableEq, Repr

/-- A reduction to a scalar register (R120). -/
def reduce (op : RedOp) (ty : LaneTy) (a : V512) : U64 × BitVec 5 :=
  match ty with
  | .int w =>
    let xs := (lanesOf w a).map (sextNat w)
    let r : Int := match op with
      | .add => xs.foldl (· + ·) 0
      | .max => xs.foldl max (xs.headD 0)
      | .min => xs.foldl min (xs.headD 0)
    (BitVec.ofInt 64 r, 0)
  | .flt f =>
    let ls := if f.w = 16 then (lanesOf 16 a).map widen16 else lanesOf 32 a
    let g := fun x y => match op with
      | .add => fres (f32.add (f32.decode x) (f32.decode y))
      | .max => fres (f32.minMax true x y)
      | .min => fres (f32.minMax false x y)
    let r := reduceTree g (if f.w = 16 then 5 else 4) ls 0
    (BitVec.ofNat 64 r.1, r.2)

/-! ## Conversions (R121) -/

/-- One lane converted between types. -/
def cvtLane (src dst : LaneTy) (x : Nat) : LaneRes :=
  match src, dst with
  | .int a, .int b => (satW b (sextNat a x), 0)
  | .int a, .flt f => fres (f.roundInt false (sextNat a x) 0)
  | .flt f, .int b => let r := f.toInt b x
                      (wrapW b r.1, r.2)
  | .flt f, .flt g => if f.w < g.w then (match f.decode x with | .nan _ => g.qnan | v => g.encode v, 0) else fres (f.convert g x)

/-- Is a conversion's ratio of lane counts allowed (R121). -/
def cvtOk (src dst : LaneTy) : Bool :=
  src.lanes == dst.lanes || dst.lanes == 2 * src.lanes || src.lanes == 2 * dst.lanes

/-- VCVT: the destination register or pair. A destination type equal to TYPE copies the lanes. -/
def vecCvt (src dst : LaneTy) (a0 a1 : V512) : V512 × V512 × BitVec 5 :=
  if src = dst then (a0, 0, 0) else
  let ins := if dst.lanes = 2 * src.lanes then lanesOf src.w a0 ++ lanesOf src.w a1 else lanesOf src.w a0
  let rs := ins.map (cvtLane src dst)
  let out := rs.map Prod.fst
  (ofLanes dst.w (out.take dst.lanes), ofLanes dst.w (out.drop dst.lanes), orFlags rs)

/-! ## Function tables (R123, R124) -/

/-- The memory of the function tables as words: coefficient k of segment seg of function fn is word 512·fn + 4·seg + k. -/
abbrev FnTab := SMap U32

/-- An exact value n · 2^e, for the exact steps of R123. -/
structure Dy where
  n : Int
  e : Int
  deriving DecidableEq, Repr

def Dy.ofF : FVal → Dy
  | .fin neg m e => ⟨FVal.signed neg m, e⟩
  | _ => ⟨0, 0⟩

def Dy.add (a b : Dy) : Dy :=
  let e := min a.e b.e
  ⟨a.n * 2 ^ (a.e - e).toNat + b.n * 2 ^ (b.e - e).toNat, e⟩

/-- floor(n · 2^e). -/
def Dy.floor (a : Dy) : Int := if 0 ≤ a.e then a.n * 2 ^ a.e.toNat else a.n / 2 ^ (-a.e).toNat

def Dy.toF (a : Dy) : FVal := .fin (decide (a.n < 0)) a.n.natAbs a.e

def Dy.round32 (a : Dy) : FRes := f32.roundInt false a.n a.e

/-- Compare n · 2^e with an integer. -/
def Dy.ltInt (a : Dy) (k : Int) : Bool :=
  if 0 ≤ a.e then decide (a.n * 2 ^ a.e.toNat < k) else decide (a.n < k * 2 ^ (-a.e).toNat)

/-- poly(fn, r) for 0 ≤ r < 1 (R123): three fused multiply-adds; the flags are those of the last. -/
def fnPoly (tab : FnTab) (fn : Nat) (r : Dy) : FRes :=
  let r128 : Dy := ⟨r.n * 128, r.e⟩
  let seg := r128.floor.toNat % 128
  let t := (r128.add ⟨-(seg : Int), 0⟩).toF
  let c := fun k => f32.decode ((SMap.get (0 : U32) tab (512 * fn + 4 * seg + k)).toNat)
  let a := f32.fma (c 3) t (c 2)
  let b := f32.fma (f32.decode a.bits) t (c 1)
  f32.fma (f32.decode b.bits) t (c 0)

/-- A result scaled by a power of two and an addend, rounded once; NaN and infinity of the table pass as IEEE states. -/
def fnScale (p : FRes) (e : Int) : FRes :=
  match f32.decode p.bits with
  | .nan _ => f32.nanRes false
  | .inf n => ⟨f32.signBit n + f32.infBits, 0⟩
  | .fin n m x => f32.round n m 1 (x + e)

def fnAddInt (p : FRes) (k : Int) : FRes :=
  match f32.decode p.bits with
  | .nan _ => f32.nanRes false
  | .inf n => ⟨f32.signBit n + f32.infBits, 0⟩
  | .fin n m x => f32.roundInt false ((Dy.add ⟨FVal.signed n m, x⟩ ⟨k, 0⟩).n) ((Dy.add ⟨FVal.signed n m, x⟩ ⟨k, 0⟩).e)

/-- split(x): the exponent e with x = m · 2^e and 1 ≤ m < 2, for positive x. -/
def splitExp (m : Nat) (e : Int) : Int := (m.log2 : Int) + e

/-- FN on a binary32 input (R123, R124). `loaded` is the loaded state: with no tables FN gives +0 wherever R124 does not decide. -/
def fnEval (loaded : Bool) (tab : FnTab) (fn : Nat) (x : FVal) : FRes :=
  let zero : FRes := ⟨0, 0⟩
  let one : FRes := ⟨0x3F800000, 0⟩
  let minusOne : FRes := ⟨0xBF800000, 0⟩
  let pinf : FRes := ⟨f32.infBits, 0⟩
  let run := fun (r : FRes) => if loaded then ⟨r.bits, r.flags &&& 0b00111#5⟩ else zero
  match x with
  | .nan s => f32.nanRes s
  | .inf neg =>
    match fn with
    | 0 => if neg then zero else ⟨f32.infBits, 0b00101#5⟩
    | 1 => if neg then f32.nanRes true else pinf
    | 2 => ⟨f32.signBit neg, 0⟩
    | 3 => if neg then f32.nanRes true else zero
    | 4 => if neg then minusOne else one
    | 5 => if neg then zero else one
    | 6 => if neg then minusOne else one
    | _ => f32.nanRes true
  | .fin neg m e =>
    let d : Dy := ⟨FVal.signed neg m, e⟩
    let se := splitExp m e
    -- the fraction m / 2^log2 m − 1 of split, as an exact value
    let frac : Dy := ⟨(m : Int) - 2 ^ m.log2, -(m.log2 : Int)⟩
    match fn with
    | 0 =>
      if ! d.ltInt 128 then ⟨f32.infBits, 0b00101#5⟩
      else if d.ltInt (-150) then ⟨0, 0b00011#5⟩
      else run (let n := d.floor
                fnScale (fnPoly tab 0 (d.add ⟨-n, 0⟩)) n)
    | 1 =>
      if m = 0 then ⟨f32.signBit true + f32.infBits, 0b01000#5⟩
      else if neg then f32.nanRes true
      else run (fnAddInt (fnPoly tab 1 frac) se)
    | 2 =>
      if m = 0 then ⟨f32.signBit neg + f32.infBits, 0b01000#5⟩
      else run (let r := fnScale (fnPoly tab 2 frac) (-se)
                if (f32.decode r.bits).isNan then r
                else ⟨if neg then (if r.bits < 2 ^ 31 then r.bits + 2 ^ 31 else r.bits - 2 ^ 31) else r.bits, r.flags⟩)
    | 3 =>
      if m = 0 then (if neg then f32.nanRes true else ⟨f32.infBits, 0b01000#5⟩)
      else if neg then f32.nanRes true
      else run (let odd := decide (se % 2 ≠ 0)
                let mm : Dy := ⟨m, -(m.log2 : Int) + (if odd then 1 else 0) - 2⟩
                let ee := if odd then se - 1 else se
                fnScale (fnPoly tab 3 mm) (-(ee / 2)))
    | 7 => run (fnPoly tab 7 (d.add ⟨-d.floor, 0⟩))
    | _ =>
      let k : Int := if fn = 4 then 8 else if fn = 5 then 16 else 4
      let sh : Int := if fn = 4 then -4 else if fn = 5 then -5 else -3
      let r := (d.add ⟨k, 0⟩).round32
      let y := Dy.ofF (f32.decode r.bits)
      if d.ltInt (-k) then (if fn = 5 then zero else minusOne)
      else if ! d.ltInt k || ! y.ltInt (2 * k) then one
      else run (fnPoly tab fn ⟨y.n, y.e + sh⟩)

/-- One lane of FN: binary16 lanes are widened, evaluated as binary32 and rounded once to binary16 (R123). -/
def fnLane (loaded : Bool) (tab : FnTab) (fn : Nat) (f : FFmt) (x : Nat) : LaneRes :=
  let r := fnEval loaded tab fn (f.decode x)
  if f.w = 32 then (r.bits, r.flags)
  else
    let h := f32.convert f16 r.bits
    (h.bits, r.flags ||| h.flags)

def vecFn (loaded : Bool) (tab : FnTab) (fn : Nat) (f : FFmt) (a : V512) : V512 × BitVec 5 :=
  let rs := (lanesOf f.w a).map (fnLane loaded tab fn f)
  (ofLanes f.w (rs.map Prod.fst), orFlags rs)

/-! ## Bead instructions (R122) -/

/-- The element bytes of a bead held in a register, from bit 0. -/
def regBead (f : BeadFmt) (v : V512) : List Byte := leOfNat (32 * f.bytes) v.toNat

/-- VENC: the register with the element bytes, the sidecar, CPEAK and the counters (R63, R65, R122). -/
def vencBead (f : BeadFmt) (src : FFmt) (ys : List Nat) (co : U32) (peak : Nat) : V512 × Nat × Nat × List (Nat × Nat) :=
  let out := fun (b : Bead) => (BitVec.ofNat 512 (natOfLE b.elems), b.byte0.toNat + 256 * b.byte1.toNat)
  let bad := (BitVec.ofNat 512 (natOfLE (poisonedBead f).elems), (poisonedBead f).byte0.toNat + 256 * (poisonedBead f).byte1.toNat)
  if ! scaleValid co then (bad.1, bad.2, peak, [(0x910006, 1), (0x910004, 1)]) else
  match encodeInputs src (factorInv co) ys with
  | none => (bad.1, bad.2, peak, [(0x910004, 1)])
  | some xs =>
    let r := encodeBead f xs
    ((out r.1).1, (out r.1).2, peakOf peak xs, if r.2.satElems = 0 then [] else [(0x910001, r.2.satElems)])

/-- VDEC: the 32 binary32 values of a bead (R64, R122). -/
def vdecBead (f : BeadFmt) (v : V512) (side : Nat) (c : U32) : List (Nat × Nat) :=
  decodeBead f ⟨regBead f v, BitVec.ofNat 8 side, BitVec.ofNat 8 (side / 256)⟩ c

end Sys2Proof.Machine
end

