-- ==== Sys2Proof/Machine/Frame.lean ====
section
/-! DEFINITION. The counting frame in flight (R72 to R106): the accesses that each instruction schedules (R89), the slots and channels
(R88, R90, R91), the moves (R92, R93), the activity ramp (R95, R96), and what every access does in its cycle. -/

namespace Sys2Proof.Machine

/-! ## The schedule of accesses -/

/-- Accesses of one cycle or earlier that are still to do, with the position of their instruction. -/
def dueAt (c : Nat) (ops : List FOp) : List (Nat × FAcc) :=
  (List.zip (List.range ops.length) ops).flatMap (fun o => (o.2.accs.filter (fun a => decide (a.cyc ≤ c))).map (fun a => (o.1, a)))

/-- The interlocks of R92: a drain's row read waits for every earlier write of the row, a row write for every earlier read. -/
def rowBlocked (ops : List FOp) (k : Nat) (a : FAcc) : Bool :=
  match a.kind with
  | .rowRd => (ops.take k).any (fun o => (o.fop == 1 || o.fop == 4) && o.args.abank == ((ops.getD k ⟨0, 0, 0, 0, 0, 0, false, [], FArgs.zero⟩).args.abank)
      && o.accs.any (fun b => b.kind == .rowWr && b.row == a.row))
  | .rowWr => (ops.take k).any (fun o => (o.fop == 2 || o.fop == 5) && o.args.abank == ((ops.getD k ⟨0, 0, 0, 0, 0, 0, false, [], FArgs.zero⟩).args.abank)
      && o.accs.any (fun b => b.kind == .rowRd && b.row == a.row))
  | _ => false

/-- Does the access use a scratchpad bank. -/
def FAcc.port (a : FAcc) : Bool := a.kind == .rd || a.kind == .wr

/-- Bank and channel arbitration of one cycle, in order of precedence: the accesses that lose (R92, R256). -/
def arbitrate (oneChan : Bool) : List (Nat × FAcc) → List Nat → List Nat → List (Nat × FAcc)
  | [], _, _ => []
  | x :: xs, banks, chans =>
    if ! x.2.port then arbitrate oneChan xs banks chans
    else if banks.contains x.2.bank || (oneChan && chans.contains x.2.chan) then x :: arbitrate oneChan xs banks chans
    else arbitrate oneChan xs (x.2.bank :: banks) (x.2.chan :: chans)

/-- The due accesses by channel, earlier instructions first. -/
def byPrecedence (due : List (Nat × FAcc)) : List (Nat × FAcc) :=
  (List.range 5).flatMap (fun ch => due.filter (fun x => x.2.chan == ch))

/-- What one cycle of a schedule gives: instructions with moves made and done accesses removed, accesses carried out, moves. -/
structure CycleOut where
  ops : List FOp
  done : List (Nat × FAcc)
  moves : Nat
  deriving DecidableEq, Repr

/-- Move an instruction by one cycle: the losing accesses and every later stage (R92). -/
def FOp.moved (c : Nat) (losing : List FAcc) (o : FOp) : FOp :=
  { o with occEnd := o.occEnd + 1
           accs := o.accs.map (fun a => if decide (c < a.cyc) || losing.contains a then { a with cyc := a.cyc + 1 } else a) }

/-- One cycle of a port: interlocks, displaced sidecar writes, arbitration, moves (R91 to R93). `busy` banks serve an agent that
goes first (R146). -/
def portCycle (frame : Bool) (busy : List Nat) (c : Nat) (ops : List FOp) : CycleOut :=
  let due := dueAt c ops
  let blocked := if frame then due.filter (fun x => rowBlocked ops x.1 x.2) else []
  let free := due.filter (fun x => ! blocked.contains x)
  let sideRead := frame && free.any (fun x => x.2.chan == 2 && x.2.kind == .rd)
  let disp := if sideRead then free.filter (fun x => x.2.chan == 2 && x.2.kind == .wr) else []
  let rest := byPrecedence (free.filter (fun x => ! disp.contains x))
  let lose := blocked ++ arbitrate frame rest busy []
  let done := rest.filter (fun x => ! lose.contains x)
  let step := fun (ko : Nat × FOp) =>
    let losing := (lose.filter (fun x => x.1 == ko.1)).map Prod.snd
    let mine := (done.filter (fun x => x.1 == ko.1)).map Prod.snd
    let o1 := { ko.2 with accs := (ko.2.accs.filter (fun a => ! mine.contains a)).map (fun a =>
      if disp.contains (ko.1, a) then { a with cyc := c + 1, displaced := true } else a) }
    if losing.isEmpty then o1 else o1.moved c losing
  let losers := (List.range ops.length).filter (fun k => lose.any (fun x => x.1 == k))
  ⟨(List.zip (List.range ops.length) ops).map step, done, losers.length⟩

/-- The next cycle with an access to carry out. -/
def nextDue (ops : List FOp) : Option Nat :=
  (ops.flatMap (fun o => o.accs.map FAcc.cyc)).foldl (fun m c => match m with | none => some c | some k => some (min k c)) none

/-! ## What an instruction has read and forms -/

/-- Bytes [p, p + n) of the lines read; a line not read supplies zeros (R97). -/
def bufBytes (buf : SMap V512) (p n : Nat) : List Byte :=
  (upTo n).map (fun i => BitVec.ofNat 8 ((SMap.get (0 : V512) buf (lineAddr (p + i))).toNat >>> (8 * ((p + i) % 64))))

/-- Bead `i` of an operand group at element address `e` and sidecar address `s` (R73). -/
def bufBead (f : BeadFmt) (buf : SMap V512) (e s i : Nat) : Bead :=
  let w := 32 * f.bytes
  let sc := bufBytes buf (s + 2 * i) 2
  ⟨bufBytes buf (e + w * i) w, sc.getD 0 0, sc.getD 1 0⟩

/-- Put bytes to write at `p`, each kept as byte + 1 so that 0 means not enabled (R98). -/
def outPut (ob : SMap Nat) (p : Nat) : List Byte → SMap Nat
  | [] => ob
  | b :: bs => outPut (SMap.put 0 ob p (b.toNat + 1)) (p + 1) bs

/-- The enabled bytes of a line. -/
def outLine (ob : SMap Nat) (l : Nat) : List (Nat × Byte) :=
  (upTo 64).flatMap (fun i =>
    let v := SMap.get 0 ob (l + i)
    if v = 0 then [] else [(i, BitVec.ofNat 8 (v - 1))])

/-- The operand counters of a consumed bead (R44). -/
def consumeBumps (b : Bead) : List (Nat × Nat) :=
  (if b.flags = 2 then [(ck 0x9100 0x0A, 1)] else []) ++ (if b.poisoned then [(ck 0x9100 3, 1)] else [])
    ++ (if 4 ≤ b.flags then [(ck 0x9100 5, 1)] else [])

def TOut.bumps' (o : TOut) (l : List (Nat × Nat)) : TOut := { o with bumps := o.bumps ++ l }

/-- Formats by code; the checks at issue leave only legal codes. -/
def fmtD (n : Nat) : BeadFmt := (beadFmtOf n).getD .b8i

/-- Bytes of one output bead or row by OFMT (R83). -/
def outBytes (ofmt : Nat) : Nat :=
  match ofmt with
  | 2 => 64
  | 4 => 64
  | 5 => 128
  | _ => 32

def ieeeFmt (ofmt : Nat) : FFmt := if ofmt = 4 then f16 else f32

/-- One accumulator record of a partial block (R84). -/
def accRecord (residue : Bool) (count : Nat) (a : Acc) : List Byte :=
  leOfNat 20 a.pat ++ [if a.poison then 1 else 0, BitVec.ofNat 8 (if residue then a.resid else 0), 0, 0]
    ++ leOfNat 4 (count % 2 ^ 25) ++ [0, 0, 0, 0]

/-- The accumulator of a record (R85). -/
def recordAcc (bs : List Byte) : Acc :=
  ⟨natOfLE (bs.take 20), (bs.getD 20 0).getLsbD 0, (bs.getD 21 0).toNat⟩

def chainCode : ChainSt → Nat
  | .idle => 0
  | .opened => 1
  | .closed => 2
  | .drained => 3

/-- The header line of a partial block (R84). -/
def partialHeader (b : ABank) (mask : U32) : List Byte :=
  leOfNat 4 b.ca.toNat ++ leOfNat 4 b.cb.toNat ++ leOfNat 4 mask.toNat ++ [BitVec.ofNat 8 (chainCode b.st)] ++ List.replicate 51 0

def partialSize : Nat := 32832

/-- One output bead or row from exact values: the bytes of the element plane, the bead when a bead format, and the counts. -/
structure RowOut where
  elems : List Byte
  bead : Option Bead
  count : ConvCount
  deriving DecidableEq, Repr

/-- A poisoned output: the canonical bead, or quiet NaNs (R61, R62). -/
def poisonOut (ofmt : Nat) : RowOut :=
  if ofmt ≤ 2 then
    let b := poisonedBead (fmtD ofmt)
    ⟨b.elems, some b, ⟨0, 0, 1⟩⟩
  else ⟨(List.replicate 32 (ieeeFmt ofmt).qnan).flatMap (leOfNat ((ieeeFmt ofmt).w / 8)), none, ConvCount.zero⟩

/-- Exact values to the output format (R56 to R62). -/
def valuesOut (ofmt : Nat) (xs : List XVal) : RowOut :=
  if ofmt ≤ 2 then
    let r := encodeBead (fmtD ofmt) xs
    ⟨r.1.elems, some r.1, r.2⟩
  else
    let vs := xs.map (ieeeOut (ieeeFmt ofmt))
    ⟨vs.flatMap (fun v => leOfNat ((ieeeFmt ofmt).w / 8) v.1), none, ⟨0, (vs.map Prod.snd).foldl (· + ·) 0, 0⟩⟩

def convBumps (c : ConvCount) : List (Nat × Nat) :=
  (if c.satElems = 0 then [] else [(ck 0x9100 1, c.satElems)]) ++ (if c.ieeeOver = 0 then [] else [(ck 0x9100 2, c.ieeeOver)])
    ++ (if c.poisonWritten = 0 then [] else [(ck 0x9100 4, c.poisonWritten)])

/-- The drain of one row: bytes, counts and the peak contribution (R55 to R62, R65). -/
def drainRow (ofmt : Nat) (q : Option Factor) (row : AccRow) (peak : Nat) : RowOut × Nat :=
  match q with
  | none => (poisonOut ofmt, peak)
  | some f =>
    if ofmt ≤ 2 then
      if row.any Acc.poison then (poisonOut ofmt, peak)
      else
        let xs := row.map (fun a => accX f a.pat)
        (valuesOut ofmt xs, peakOf peak xs)
    else
      let cell := fun (a : Acc) => if a.poison then ((ieeeFmt ofmt).qnan, 0) else ieeeOut (ieeeFmt ofmt) (accX f a.pat)
      let vs := row.map cell
      (⟨vs.flatMap (fun v => leOfNat ((ieeeFmt ofmt).w / 8) v.1), none, ⟨0, (vs.map Prod.snd).foldl (· + ·) 0, 0⟩⟩,
       peakOf peak ((row.filter (fun a => ! a.poison)).map (fun a => accX f a.pat)))

/-! ## Element-wise operations (R86, R87) -/

/-- m · 2^e scaled by a factor. -/
def scaled (m : Int) (e : Int) (f : Factor) : Int × Int := (m * f.mq, e + f.qe)

def dyAdd (a b : Int × Int) : XVal :=
  let e := min a.2 b.2
  .dy (a.1 * 2 ^ (a.2 - e).toNat + b.1 * 2 ^ (b.2 - e).toNat) e

/-- a.1 · 2^a.2 ≤ b.1 · 2^b.2, exactly. -/
def dyLe (a b : Int × Int) : Bool :=
  let e := min a.2 b.2
  decide (a.1 * 2 ^ (a.2 - e).toNat ≤ b.1 * 2 ^ (b.2 - e).toNat)

/-- The exact values of one output bead of EOP 0x0 to 0x5 (R86); exponents are those of the beads. -/
def ewValues (eop : Nat) (ca cb co : U32) (ea : List Int) (fa : Int) (eb : List Int) (fb : Int) : List XVal :=
  let qa := factor1 ca co
  let qb := factor1 cb co
  let q := factorOf ca cb co
  let a := scaleVal ca
  let b := scaleVal cb
  match eop with
  | 0 => List.zipWith (fun x y => dyAdd (scaled x fa qa) (scaled y fb qb)) ea eb
  | 1 => List.zipWith (fun x y => dyAdd (scaled x fa qa) (scaled (-y) fb qb)) ea eb
  | 2 => List.zipWith (fun x y => .dy (x * y * q.mq) (fa + fb + q.qe)) ea eb
  | 3 => List.zipWith (fun x y =>
      let r := if dyLe (y * b.1, fb + b.2) (x * a.1, fa + a.2) then scaled x fa qa else scaled y fb qb
      XVal.dy r.1 r.2) ea eb
  | 4 => List.zipWith (fun x y =>
      let r := if dyLe (x * a.1, fa + a.2) (y * b.1, fb + b.2) then scaled x fa qa else scaled y fb qb
      XVal.dy r.1 r.2) ea eb
  | _ => ea.map (fun x => let r := scaled x fa qa; XVal.dy r.1 r.2)

/-- Are all scales that an EW operation uses valid (R87). -/
def ewScalesOk (eop : Nat) (ca cb co : U32) : Bool :=
  match eop with
  | 5 => scaleValid ca && scaleValid co
  | 6 => scaleValid co
  | 7 => scaleValid ca
  | _ => scaleValid ca && scaleValid cb && scaleValid co

/-- One output bead of an EW instruction: output, peak, and the counters of operands and scales (R86, R87). -/
def ewBead (g : FArgs) (i peak : Nat) : RowOut × Nat × List (Nat × Nat) :=
  let ok := ewScalesOk g.eop g.ca g.cb g.co
  if g.eop = 6 then
    let src := if g.fmt = 0 then f16 else f32
    let nb := src.w / 8
    let ys := (upTo 32).map (fun j => natOfLE (bufBytes g.buf (g.e1 + 32 * nb * i + nb * j) nb))
    if ! ok then (poisonOut g.ofmt, peak, [(ck 0x9100 6, 1)]) else
    match encodeInputs src (factorInv g.co) ys with
    | none => (poisonOut g.ofmt, peak, [])
    | some xs => (valuesOut g.ofmt xs, peakOf peak xs, [])
  else
    let a := bufBead (fmtD g.fmt) g.buf g.e1 g.s1 i
    let readsB := decide (g.eop ≤ 4)
    let b := bufBead (fmtD g.fmt2) g.buf g.e2 g.s2 i
    let eat := consumeBumps a ++ (if readsB then consumeBumps b else [])
    if ! ok || a.poisoned || (readsB && b.poisoned) then (poisonOut g.ofmt, peak, eat)
    else
      let fa := a.fine + (fmtD g.fmt).off
      let fb := b.fine + (fmtD g.fmt2).off
      if g.eop = 7 then
        let s := scaleVal g.ca
        (valuesOut g.ofmt ((a.operand (fmtD g.fmt)).map (fun x => XVal.dy (x * s.1) (fa + s.2))), peak, eat)
      else
        let xs := ewValues g.eop g.ca g.cb g.co (a.operand (fmtD g.fmt)) fa (b.operand (fmtD g.fmt2)) fb
        (valuesOut g.ofmt xs, peakOf peak xs, eat)

/-! ## What each access does -/

def Tile.updFrame (t : Tile) (f : FrameSt → FrameSt) : Tile := { t with frame := f t.frame }

def updOp (k : Nat) (f : FArgs → FArgs) (ops : List FOp) : List FOp :=
  (List.zip (List.range ops.length) ops).map (fun o => if o.1 = k then { o.2 with args := f o.2.args } else o.2)

def opAt (ops : List FOp) (k : Nat) : FOp := ops.getD k ⟨0, 0, 0, 0, 0, 0, false, [], FArgs.zero⟩

/-- The operand groups that an instruction verifies: format, element address, sidecar address, beads (R263). -/
def verifyGroups (fop : Nat) (g : FArgs) : List (Nat × Nat × Nat × U32) :=
  match fop with
  | 0 => [(g.fmt, g.e1, g.s1, 0xFFFFFFFF)]
  | 1 => [(g.fmt, g.e1, g.s1, g.mask)]
  | 3 => (if g.eop = 6 then [] else [(g.fmt, g.e1, g.s1, 0xFFFFFFFF)])
           ++ (if g.eop ≤ 4 then [(g.fmt2, g.e2, g.s2, 0xFFFFFFFF)] else [])
  | _ => []

/-- Verify one bead of a group whose element line or sidecar line has just been read and whose other line is in the buffer. -/
def verifyBead (src cy p : Nat) (g : Nat × Nat × Nat × U32) (buf : SMap V512) (i : Nat) (o : TOut) : TOut :=
  let f := fmtD g.1
  let el := lineAddr (g.2.1 + 32 * f.bytes * i)
  let sl := lineAddr (g.2.2.1 + 2 * i)
  let inBuf := fun l => buf.any (fun x => x.1 == l) || l == p
  if bitOf g.2.2.2 i && (el == p || sl == p) && inBuf el && inBuf sl then
    let b := bufBead f buf g.2.1 g.2.2.1 i
    if b.checkGood then o
    else (o.upd (fun t => t.integrity src (bankOf sl) (lineInBank sl) i cy)).bump (ck 0x9170 1) 1
  else o

/-- Verify what a line read completes (R264). -/
def verifyLine (src cy p fop : Nat) (g : FArgs) (o : TOut) : TOut :=
  (verifyGroups fop g).foldl (fun o grp => (upTo 32).foldl (fun o i => verifyBead src cy p grp g.buf i o) o) o

def agentOfChan (ch : Nat) : Nat := ch + 1

/-- A residue failure in the frame (R103). -/
def resFailure (src cy : Nat) (t : Tile) : Tile :=
  (t.updFrame (fun f => { f with resFail := true })).integrity src 0 0 0 cy

/-- Check the accumulators of a row that leaves the frame (R69, R83, R84). -/
def checkRow (cy : Nat) (row : AccRow) (t : Tile) : TOut :=
  let n := (row.filter (fun a => ! a.checkGood)).length
  if t.residue && n != 0 then (TOut.of (resFailure 4 cy t)).bump (ck 0x9100 9) n else TOut.of t

def rowOf (b : ABank) (r : Nat) : AccRow := SMap.get AccRow.zero b.rows r
def setRow (r : Nat) (row : AccRow) (b : ABank) : ABank := { b with rows := SMap.put AccRow.zero b.rows r row }

/-- The products of one activation row with the 32 weight beads (R47, R48, R51, R68). -/
def rowProducts (f : BeadFmt) (a : Bead) (w : WReg) : List Contrib :=
  let ea := a.operand f
  w.beads.map (fun b =>
    let eb := b.operand w.fmt
    ⟨dotElems ea eb, dotShift f a w.fmt b, dotRho ea eb, a.poisoned || b.poisoned⟩)

/-- A multiply cycle of row r (R72): the bead is consumed, and the weight beads once with the first fed row (R44). -/
def multRow (k cy r : Nat) (g : FArgs) (t : Tile) : TOut :=
  let a := bufBead (fmtD g.fmt) g.buf g.e1 g.s1 r
  let w := t.frame.w[g.wreg]
  let cs := rowProducts (fmtD g.fmt) a w
  let first := g.contribs.isEmpty
  let bad := (cs.filter (fun c => res255 c.d != c.rho)).length
  let t1 := t.updFrame (fun fr => { fr with ops := updOp k (fun g => { g with contribs := SMap.ins r cs g.contribs }) fr.ops })
  let t2 := if t.residue && bad != 0 then resFailure 3 cy t1 else t1
  ((TOut.of t2).bumps' (consumeBumps a ++ (if first then w.beads.flatMap consumeBumps else []))).bump (ck 0x9100 8)
    (if t.residue then bad else 0)

/-- The accumulation of row r; a chain start clears the rows that it does not feed (R49, R81). -/
def accumulateRow (r : Nat) (g : FArgs) (t : Tile) : Tile :=
  let b := t.frame.banks[g.abank]
  let row := if bitOf g.mask r then
      List.zipWith (fun x (c : Contrib) => Acc.contribute g.start x c.d c.s c.rho c.poison) (rowOf b r)
        (SMap.get ([] : List Contrib) g.contribs r)
    else AccRow.zero
  t.updFrame (fun f => { f with banks := f.banks.set g.abank (setRow r row b) })

/-- LOADA writes row r (R85). -/
def loadaRow (r : Nat) (g : FArgs) (t : Tile) : Tile :=
  let b := t.frame.banks[g.abank]
  let base := g.e1 + 64 + 1024 * r
  let row := (upTo 32).map (fun u => recordAcc (bufBytes g.buf (base + 32 * u) 32))
  let cnt := natOfLE (bufBytes g.buf (base + 24) 4) % 2 ^ 25
  let b1 := if bitOf g.mask r then { setRow r row b with cnt := SMap.put 0 b.cnt r cnt } else setRow r AccRow.zero b
  let hdr := fun o => BitVec.ofNat 32 (natOfLE (bufBytes g.buf (g.e1 + o) 4))
  t.updFrame (fun f => { f with banks := f.banks.set g.abank { b1 with ca := hdr 0, cb := hdr 4 } })

/-- Put a finished row or bead into the bytes to write, with its sidecar, counters and digest (R83, R98, R233). -/
def emitRow (k i : Nat) (g : FArgs) (r : RowOut) (t : Tile) : TOut :=
  let ob := outPut g.outb (g.eo + outBytes g.ofmt * i) r.elems
  let ob := match r.bead with | some b => outPut ob (g.so + 2 * i) [b.byte0, b.byte1] | none => ob
  let t1 := t.updFrame (fun fr => { fr with ops := updOp k (fun g => { g with outb := ob }) fr.ops })
  let t2 := match r.bead with | some b => digestAdd g.dig i b t1 | none => t1
  (TOut.of t2).bumps' (convBumps r.count)

/-- What an access of instruction `k` does in cycle `cy`. -/
def frameEffect (cy k : Nat) (a : FAcc) (t : Tile) : TOut :=
  let o := opAt t.frame.ops k
  let g := o.args
  match a.kind with
  | .rd =>
    let g1 := { g with buf := SMap.ins a.p (t.line a.p) g.buf }
    let t1 := t.updFrame (fun fr => { fr with ops := updOp k (fun _ => g1) fr.ops })
    ((verifyLine 1 cy a.p o.fop g1 (TOut.of t1)).andThen (spCheck (agentOfChan a.chan) a.p 64 cy)).andThen (wpCheck 0 false a.p 64 cy)
  | .wr =>
    let bs := outLine g.outb a.p
    ((TOut.of t).upd (spWriteLine true false a.p bs)).andThen (fun t =>
      if bs.isEmpty then TOut.of t else wpCheck 0 true (a.p + (bs.headD (0, 0)).1) (bs.getLastD (0, 0)).1.succ cy t)
  | .mult => multRow k cy a.row g t
  | .rowWr => TOut.of (if o.fop = 4 then loadaRow a.row g t else accumulateRow a.row g t)
  | .rowRd =>
    let row := rowOf t.frame.banks[g.abank] a.row
    let t1 := t.updFrame (fun fr => { fr with ops := updOp k (fun g => { g with rows := SMap.put AccRow.zero g.rows a.row row }) fr.ops })
    (checkRow cy row t1).andThen (fun t1 =>
      if o.fop = 5 then
        let bytes := row.flatMap (accRecord t1.residue (SMap.get 0 (t1.frame.banks[g.abank]).cnt a.row))
        TOut.of (t1.updFrame (fun fr => { fr with ops := updOp k (fun g => { g with outb := outPut g.outb (g.eo + 64 + 1024 * a.row) bytes }) fr.ops }))
      else TOut.of t1)
  | .eff =>
    if o.fop = 0 then
      if a.row < 32 then
        let b := bufBead (fmtD g.fmt) g.buf g.e1 g.s1 a.row
        TOut.of (digestAdd g.dig a.row b (t.updFrame (fun fr =>
          { fr with w := fr.w.set g.wreg { fr.w[g.wreg] with beads := fr.w[g.wreg].beads.set a.row b } })))
      else TOut.of (t.updFrame (fun fr => { fr with shadowFull := if g.wreg = fr.active then fr.shadowFull else true }))
    else if o.fop = 2 && decide (a.row < 32) then
      let r := drainRow g.ofmt g.q (SMap.get AccRow.zero g.rows a.row) t.frame.peak
      emitRow k a.row g r.1 (t.updFrame (fun fr => { fr with peak := r.2 }))
    else if o.fop = 3 && decide (a.row < 32) then
      let r := ewBead g a.row t.frame.peak
      (emitRow k a.row g r.1 (t.updFrame (fun fr => { fr with peak := r.2.1 }))).bumps' r.2.2
    else TOut.of t

/-- Order of the effects of one cycle: reads, row reads, products, formed outputs, row writes, writes. -/
def kindOrder : List AccKind := [.rd, .rowRd, .mult, .eff, .rowWr, .wr]

def inKindOrder (l : List (Nat × FAcc)) : List (Nat × FAcc) := kindOrder.flatMap (fun kd => l.filter (fun x => x.2.kind == kd))

/-- Remove the instructions that are done at cycle `c`; the compute slot's last occupancy is kept for the idle count (R95). -/
def retireOps (c : Nat) (f : FrameSt) : FrameSt :=
  let gone := f.ops.filter (fun o => o.accs.isEmpty && decide (o.occEnd ≤ c))
  { f with ops := f.ops.filter (fun o => ! (o.accs.isEmpty && decide (o.occEnd ≤ c)))
           idleFrom := gone.foldl (fun m o => if o.slots.getLsbD 0 then max m (o.occEnd : Int) else m) f.idleFrom }

/-- One cycle of the frame. -/
def frameCycle (c : Nat) (t : Tile) : TOut :=
  let r := portCycle true [] c t.frame.ops
  let t1 := t.updFrame (fun f => { f with ops := r.ops, lastEffect := if r.done.isEmpty then f.lastEffect else max f.lastEffect c, clk := c + 1 })
  ((inKindOrder r.done).foldl (fun o x => o.andThen (frameEffect c x.1 x.2)) ((TOut.of t1).bump (ck 0x9110 1) r.moves)).upd
    (fun t => t.updFrame (retireOps (c + 1)))

/-- Carry the frame out up to, not including, cycle `upto`. -/
def frameRun : Nat → Nat → Tile → TOut
  | 0, _, t => TOut.of t
  | n + 1, upto, t =>
    match nextDue t.frame.ops with
    | none => TOut.of (t.updFrame (fun f => retireOps upto { f with clk := max f.clk upto }))
    | some c =>
      let c := max c t.frame.clk
      if upto ≤ c then TOut.of (t.updFrame (fun f => retireOps upto { f with clk := max f.clk upto }))
      else (frameCycle c t).andThen (frameRun n upto)

/-- Bring the frame up to cycle `c`. A step has at most 2^20 cycles, so the fuel never runs out. -/
def frameTo (c : Nat) (t : Tile) : TOut := frameRun (c + 1 - t.frame.clk) c t

/-! ## The activity ramp (R95, R96) -/

/-- Groups powered at cycle `c`: one more or fewer every 4 cycles from 4 cycles after the ramp began. -/
def groupsOn (f : FrameSt) (c : Nat) : Nat :=
  let n := (c - f.rampAt) / 4
  match f.ramp with
  | .steady => f.rampFrom
  | .up => min 8 (f.rampFrom + n)
  | .down => f.rampFrom - n

/-- A ramp that has arrived is steady. -/
def settle (f : FrameSt) (c : Nat) : FrameSt :=
  match f.ramp with
  | .steady => f
  | .up => if groupsOn f c = 8 then { f with ramp := .steady, rampFrom := 8, rampAt := c } else f
  | .down => if groupsOn f c = 0 then { f with ramp := .steady, rampFrom := 0, rampAt := c } else f

/-- WAKE in cycle `c`: starts or reverses a ramp; counts an up ramp (R95, R106). Undoing a REST that has removed no group yet is
no up ramp (DEDUCED, log entry 11). -/
def wakeAt (c : Nat) (f : FrameSt) : FrameSt × Nat :=
  let f := settle f c
  if f.ramp = .up ∨ (f.ramp = .steady ∧ f.rampFrom = 8) then (f, 0)
  else if groupsOn f c = 8 then ({ f with ramp := .steady, rampFrom := 8, rampAt := c }, 0)
  else ({ f with ramp := .up, rampFrom := groupsOn f c, rampAt := c }, 1)

/-- REST in cycle `c`. -/
def restAt (c : Nat) (f : FrameSt) : FrameSt :=
  let f := settle f c
  if f.ramp = .down ∨ (f.ramp = .steady ∧ f.rampFrom = 0) then f
  else if groupsOn f c = 0 then { f with ramp := .steady, rampFrom := 0, rampAt := c }
  else { f with ramp := .down, rampFrom := groupsOn f c, rampAt := c }

/-- First cycle from which the compute slot is free for good, as known now (R95). -/
def computeFree (f : FrameSt) : Int :=
  f.ops.foldl (fun m o => if o.slots.getLsbD 0 then max m (o.occEnd : Int) else m) f.idleFrom

/-- The automatic rest in the 64th idle cycle, when it lies before cycle `c` and no ramp has gone down since (R95). -/
def autoRest (c : Nat) (f : FrameSt) : FrameSt :=
  let r := computeFree f + 63
  if decide (r < (c : Int)) && decide (0 ≤ r) && decide (f.rampAt ≤ r.toNat) then restAt r.toNat f else f

/-- The automatic rest as an event of its own: it takes place when no core instruction can use the compute slot before the 64th idle
cycle (R95). A tile that runs no step, or is halted, has none. -/
def frameAutoRest (t : Tile) : TOut :=
  let r := computeFree t.frame + 63
  let k := t.cores[0]
  let free := decide (0 ≤ r) && (k.run != .running || decide (r < (k.now : Int)))
  if t.job.isSome && ! t.halted && free then TOut.of (t.updFrame (autoRest (r.toNat + 1))) else TOut.of t

/-- The frame's activity as of cycle `c`. -/
def actAt (c : Nat) (f : FrameSt) : FrameSt := settle (autoRest c f) c

def fullyOn (f : FrameSt) : Bool := f.ramp == .steady && f.rampFrom == 8

end Sys2Proof.Machine
end

