-- ==== Sys2Proof/Machine/FrameIssue.lean ====
section
/-! DEFINITION. Issue of frame instructions: the conditions of R101 in the issue cycle, the holds of R90, and the instruction that
enters its slot with the accesses of R89. -/

namespace Sys2Proof.Machine

/-- The decoded fields of a frame instruction: FOP, OPT and both operands as read at issue (R74, R75). -/
structure FrameIn where
  fop : Nat
  opt : BitVec 12
  sa : Reg
  sb : Reg
  a : U64
  b : U64
  deriving DecidableEq, Repr

def optF (o : BitVec 12) (lo n : Nat) : Nat := fieldN o.toNat lo n
def lo32 (x : U64) : Nat := x.toNat % 2 ^ 32
def hi32 (x : U64) : Nat := x.toNat / 2 ^ 32
def lo32v (x : U64) : U32 := BitVec.ofNat 32 (lo32 x)
def hi32v (x : U64) : U32 := BitVec.ofNat 32 (hi32 x)

def elemBytesOf (fmt : Nat) : Nat := 32 * 32 * (fmtD fmt).bytes

/-- Reserved codes and non-zero fields that are written 0 (R75 to R78, R86): CAUSE 0x04. -/
def frameReserved (i : FrameIn) : Bool :=
  match i.fop with
  | 0 => optF i.opt 10 2 == 3 || optF i.opt 0 10 != 0 || hi32 i.b != 0
  | 1 => optF i.opt 10 2 == 3 || optF i.opt 0 6 != 0
  | 2 => let f := optF i.opt 9 3
         f == 3 || f == 7 || optF i.opt 0 7 != 0 || (decide (4 ≤ f) && hi32 i.a != 0)
  | 3 =>
    let eop := optF i.opt 8 4
    let af := optF i.opt 6 2
    let bf := optF i.opt 4 2
    let ofm := optF i.opt 1 3
    decide (8 ≤ eop) || ofm == 3 || ofm == 6 || ofm == 7 || optF i.opt 0 1 != 0 || (eop == 7 && decide (ofm < 4))
      || (if eop = 6 then decide (2 ≤ af) else af == 3)
      || (if eop ≤ 4 then bf == 3 else bf != 0 || i.b != 0)
  | 4 => optF i.opt 0 10 != 0 || hi32 i.a != 0 || lo32 i.b != 0
  | _ => i.sa != 0 || i.sb != 0 || i.opt != 0

/-- The task regions (offset, size) that an instruction would touch, masked lines included (R102). -/
def frameRegions (f : FrameSt) (i : FrameIn) : List (Nat × Nat) :=
  match i.fop with
  | 0 => [(lo32 i.a, elemBytesOf (optF i.opt 10 2)), (hi32 i.a, 64)]
  | 1 => [(lo32 i.a, elemBytesOf (optF i.opt 10 2)), (hi32 i.a, 64)]
  | 2 => let ofm := optF i.opt 9 3
         if ofm = 6 then [(lo32 i.a, partialSize)]
         else (lo32 i.a, 32 * outBytes ofm) :: (if ofm ≤ 2 then [(hi32 i.a, 64)] else [])
  | 3 =>
    let eop := optF i.opt 8 4
    let ofm := optF i.opt 1 3
    (if eop = 6 then [(lo32 i.a, 32 * (if optF i.opt 6 2 = 0 then 64 else 128))]
     else [(lo32 i.a, elemBytesOf (optF i.opt 6 2)), (hi32 i.a, 64)])
    ++ (if eop ≤ 4 then [(lo32 i.b, elemBytesOf (optF i.opt 4 2)), (hi32 i.b, 64)] else [])
    ++ [(lo32 f.ewOut, 32 * outBytes ofm)] ++ (if ofm ≤ 2 then [(hi32 f.ewOut, 64)] else [])
  | 4 => [(lo32 i.a, partialSize)]
  | _ => []

/-- The chain conditions (R80, R82): CAUSE 0x06 or 0x07. -/
def frameChain (f : FrameSt) (i : FrameIn) : Nat :=
  match i.fop with
  | 1 =>
    let b := f.banks[(optF i.opt 7 1 : Nat) % 2]'(Nat.mod_lt _ (by decide))
    let mask := hi32v i.b
    if optF i.opt 8 1 = 1 then 0
    else if (upTo 32).any (fun r => bitOf mask r && decide (2 ^ 24 ≤ SMap.get 0 b.cnt r)) then 6
    else if b.st = .opened then 0 else 7
  | 2 =>
    let b := f.banks[(optF i.opt 8 1 : Nat) % 2]'(Nat.mod_lt _ (by decide))
    if b.st = .idle ∨ (b.st = .opened ∧ optF i.opt 9 3 ≠ 6) then 7 else 0
  | _ => 0

/-- The lowest cause that holds, a bound violation in place of a bank-class violation (R102); 0 when none. -/
def frameCause (t : Tile) (i : FrameIn) : Nat :=
  let rs := frameRegions t.frame i
  if rs.any (fun r => ! t.inBound r.1 r.2) then 2
  else if rs.any (fun r => r.1 % 64 != 0) then 3
  else if rs.any (fun r => ! t.classOk clsFrame r.1 r.2) then 1
  else if frameReserved i then 4
  else frameChain t.frame i

/-- The causes of reserved fields come with the lowest code only among those that hold: a bank-class violation is lower than 0x04. -/
def bankIx (n : Nat) : Fin 2 := ⟨n % 2, Nat.mod_lt _ (by decide)⟩

/-! ## Building the instruction -/

def rdAcc (c ch p row : Nat) : FAcc := ⟨c, ch, bankOf p, .rd, row, lineAddr p, false⟩
def wrAcc (c ch p row : Nat) : FAcc := ⟨c, ch, bankOf p, .wr, row, lineAddr p, false⟩
def inAcc (c : Nat) (k : AccKind) (row : Nat) : FAcc := ⟨c, 3, 0, k, row, 0, false⟩

/-- The element lines of an operand group read on a channel: every line in its cycle; a masked line is skipped (R89, R97). -/
def groupReads (t0 ch e fmt : Nat) (mask : U32) : List FAcc :=
  if fmt = 2 then (upTo 32).flatMap (fun r => if bitOf mask r then [rdAcc (t0 + 1 + r) ch (e + 64 * r) r] else [])
  else (upTo 16).flatMap (fun i => if bitOf mask (2 * i) || bitOf mask (2 * i + 1) then [rdAcc (t0 + 1 + 2 * i) ch (e + 64 * i) (2 * i)] else [])

/-- The marker of an instruction's last effect in R89. -/
def lastAcc (c : Nat) : FAcc := inAcc c .eff 99

def allRows : U32 := 0xFFFFFFFF

/-- L of an EW instruction (R89), from line sizes in half lines. -/
def ewL (i : FrameIn) : Nat :=
  let eop := optF i.opt 8 4
  let sz := fun f => if f = 2 then 2 else 1
  let a := if eop = 6 then (if optF i.opt 6 2 = 0 then 2 else 4) else sz (optF i.opt 6 2)
  let b := if eop ≤ 4 then sz (optF i.opt 4 2) else 0
  let o := outBytes (optF i.opt 1 3) / 32
  if a + b ≤ 2 ∧ o ≤ 2 then 1 else 2

/-- The lines of bead `i` of a plane of `half` half-lines a bead that no earlier bead has read (R89). -/
def planeLines (e half i : Nat) : List Nat :=
  if half = 1 then (if i % 2 = 0 then [e + 32 * i] else []) else (upTo (half / 2)).map (fun j => e + 32 * half * i + 64 * j)

/-- Consecutive reads from a cycle. -/
def seqReads (c row : Nat) : List Nat → List FAcc
  | [] => []
  | p :: ps => rdAcc c 0 p row :: seqReads (c + 1) row ps

/-- The accesses of an EW instruction (R89). -/
def ewAccs (t0 : Nat) (i : FrameIn) (g : FArgs) : List FAcc :=
  let l := ewL i
  let half := fun f => if f = 2 then 2 else 1
  let ha := if g.eop = 6 then (if g.fmt = 0 then 2 else 4) else half g.fmt
  let ob := outBytes g.ofmt
  (if g.eop = 6 then [] else [rdAcc t0 2 g.s1 99]) ++ (if g.eop ≤ 4 then [rdAcc (t0 + 1) 2 g.s2 99] else [])
  ++ (upTo 32).flatMap (fun r =>
      seqReads (t0 + 1 + l * r) r (planeLines g.e1 ha r ++ (if g.eop ≤ 4 then planeLines g.e2 (half g.fmt2) r else []))
      ++ [inAcc (t0 + 8 + l * r) .eff r]
      ++ (if ob = 32 then (if r % 2 = 1 then [wrAcc (t0 + 8 + l * r) 1 (g.eo + 32 * r) r] else [])
          else (upTo (ob / 64)).map (fun j => wrAcc (t0 + 8 + l * r + j) 1 (g.eo + ob * r + 64 * j) r)))
  ++ (if g.ofmt ≤ 2 then [wrAcc (t0 + 8 + 32 * l) 2 g.so 99] else [])

/-- The last effect of a DRAIN by output format (R89). -/
def drainLast (ofmt : Nat) : Nat := if ofmt = 4 then 38 else if ofmt = 5 then 70 else 39

/-- The accesses of a DRAIN to a bead or IEEE format (R89, R98). -/
def drainAccs (t0 : Nat) (g : FArgs) : List FAcc :=
  let st := if g.ofmt = 5 then 2 else 1
  let ob := outBytes g.ofmt
  (upTo 32).flatMap (fun r =>
    if bitOf g.mask r then
      [inAcc (t0 + 1 + st * r) .rowRd r, inAcc (t0 + 7 + st * r) .eff r]
      ++ (if ob = 32 then [] else (upTo (ob / 64)).map (fun j => wrAcc (t0 + 7 + st * r + j) 1 (g.eo + ob * r + 64 * j) r))
    else [])
  ++ (if ob = 32 then (upTo 16).flatMap (fun i => if bitOf g.mask (2 * i) || bitOf g.mask (2 * i + 1) then
        [wrAcc (t0 + 8 + 2 * i) 1 (g.eo + 64 * i) (2 * i)] else []) else [])
  ++ (if g.ofmt ≤ 2 ∧ g.mask ≠ 0 then [wrAcc (t0 + 39) 2 g.so 99] else [])
  ++ [lastAcc (t0 + drainLast g.ofmt)]

/-- The accesses of a partial DRAIN (R84, R89). -/
def partialAccs (t0 : Nat) (g : FArgs) : List FAcc :=
  (upTo 32).flatMap (fun r =>
    if bitOf g.mask r then
      inAcc (t0 + 1 + 8 * r) .rowRd r :: (upTo 16).map (fun j => wrAcc (t0 + 2 + 8 * r + j / 2) (j % 2) (g.eo + 64 + 1024 * r + 64 * j) r)
    else [])
  ++ [wrAcc (t0 + 258) 1 g.eo 99]

/-- The accesses of LOADA (R85, R89). -/
def loadaAccs (t0 : Nat) (g : FArgs) : List FAcc :=
  rdAcc t0 1 g.e1 99 :: (upTo 32).flatMap (fun r =>
    (if bitOf g.mask r then (upTo 16).map (fun j => rdAcc (t0 + 1 + 8 * r + j / 2) (j % 2) (g.e1 + 64 + 1024 * r + 64 * j) r) else [])
    ++ [inAcc (t0 + 10 + 8 * r) .rowWr r])
  ++ [lastAcc (t0 + 259)]

/-- The operands of an instruction as it enters its slot. -/
def frameArgs (t : Tile) (i : FrameIn) : FArgs :=
  let b := t.tsk.base
  let f := t.frame
  match i.fop with
  | 0 => { FArgs.zero with fmt := optF i.opt 10 2, wreg := bankIx (1 - f.active.val), cb := lo32v i.b,
                           e1 := b + lo32 i.a, s1 := b + hi32 i.a, dig := t.digFor 2 f.ordLoadw }
  | 1 => { FArgs.zero with
            fmt := optF i.opt 10 2, abank := bankIx (optF i.opt 7 1), start := optF i.opt 8 1 == 1, mask := hi32v i.b, ca := lo32v i.b
            wreg := if optF i.opt 6 1 = 1 then bankIx (1 - f.active.val) else f.active
            e1 := b + lo32 i.a, s1 := b + hi32 i.a }
  | 2 =>
    let bk := f.banks[bankIx (optF i.opt 8 1)]
    let co := lo32v i.b
    { FArgs.zero with
        ofmt := optF i.opt 9 3, abank := bankIx (optF i.opt 8 1), mask := hi32v i.b, co := co
        q := if scaleValid bk.ca && scaleValid bk.cb && scaleValid co then some (factorOf bk.ca bk.cb co) else none
        eo := b + lo32 i.a, so := b + hi32 i.a
        dig := if optF i.opt 9 3 ≤ 2 then t.digFor 1 f.ordOut else []
        outb := if optF i.opt 9 3 = 6 then outPut [] (b + lo32 i.a) (partialHeader bk (hi32v i.b)) else [] }
  | 3 => { FArgs.zero with
            eop := optF i.opt 8 4, fmt := optF i.opt 6 2, fmt2 := optF i.opt 4 2, ofmt := optF i.opt 1 3
            ca := lo32v f.ewScales, cb := hi32v f.ewScales, co := f.ewCo
            e1 := b + lo32 i.a, s1 := b + hi32 i.a, e2 := b + lo32 i.b, s2 := b + hi32 i.b
            eo := b + lo32 f.ewOut, so := b + hi32 f.ewOut
            dig := if optF i.opt 1 3 ≤ 2 then t.digFor 1 f.ordOut else [] }
  | _ => { FArgs.zero with abank := bankIx (optF i.opt 11 1), mask := hi32v i.b, e1 := b + lo32 i.a }

/-- The instruction as it would enter its slots at cycle `t0` (R88, R89). -/
def frameOp (t : Tile) (i : FrameIn) (t0 : Nat) : FOp :=
  let g := frameArgs t i
  match i.fop with
  | 0 => ⟨0, t0, t0 + 32, 0b010, 0b10, if g.fmt = 2 then 2 else 1, false,
          rdAcc t0 2 g.s1 99 :: groupReads t0 1 g.e1 g.fmt allRows ++ (upTo 32).map (fun u => inAcc (t0 + 2 + u) .eff u) ++ [lastAcc (t0 + 33)], g⟩
  | 1 => ⟨1, t0, t0 + 32, 0b001, 0b01, if g.fmt = 2 then 2 else 1, false,
          (if g.mask = 0 then [] else [rdAcc t0 2 g.s1 99]) ++ groupReads t0 0 g.e1 g.fmt g.mask
          ++ (upTo 32).flatMap (fun r => (if bitOf g.mask r then [inAcc (t0 + 3 + r) .mult r] else [])
               ++ (if bitOf g.mask r || g.start then [inAcc (t0 + 5 + r) .rowWr r] else []))
          ++ [lastAcc (t0 + 36)], g⟩
  | 2 => if g.ofmt = 6 then ⟨5, t0, t0 + 259, 0b111, 0b11, 2, true, partialAccs t0 g, g⟩
         else ⟨2, t0, t0 + (if g.ofmt = 5 then 64 else 32), 0b100, 0b10, if g.ofmt ≤ 1 then 1 else 2, false, drainAccs t0 g, g⟩
  | 3 => ⟨3, t0, t0 + 32 * ewL i, 0b111, 0b11, 2, true, ewAccs t0 i g, g⟩
  | _ => ⟨4, t0, t0 + 259, 0b111, 0b11, 2, true, loadaAccs t0 g, g⟩

/-- The instructions in their occupancy at cycle `c`. -/
def liveOps (c : Nat) (f : FrameSt) : List FOp := f.ops.filter (fun o => decide (c < o.occEnd))

/-- Conditions 1, 2 and 5 of R90. -/
def slotsFree (c : Nat) (f : FrameSt) (o : FOp) : Bool :=
  let live := liveOps c f
  ! live.any (fun x => x.excl || (x.slots &&& o.slots) != 0)
  && (upTo 2).all (fun ch => ! o.chans.getLsbD ch || decide (o.share + (live.map (fun x => if x.chans.getLsbD ch then x.share else 0)).foldl (· + ·) 0 ≤ 2))

/-- Condition 3 of R90. -/
def swapReady (c : Nat) (f : FrameSt) (i : FrameIn) : Bool :=
  if i.fop = 1 ∧ optF i.opt 6 1 = 1 then (match f.loadwAt with | none => true | some k => decide (k + 31 ≤ c)) else true

/-- The parity of the later of two half shares on a channel (R91): every element access and later stage moves by 1. -/
def parityMove (f : FrameSt) (o : FOp) : FOp :=
  if o.share != 1 then o else
  let ch := if o.chans.getLsbD 0 then 0 else 1
  let mine := (o.accs.filter (fun a => a.chan == ch)).map FAcc.cyc
  let other := f.ops.filter (fun x => decide (o.t0 < x.occEnd) && x.share == 1 && x.chans == o.chans)
  let theirs := other.flatMap (fun x => (x.accs.filter (fun a => a.chan == ch)).map FAcc.cyc)
  match mine, theirs with
  | m :: _, h :: _ =>
    if m % 2 = h % 2 then
      { o with accs := o.accs.map (fun a => if a.chan == 2 || (o.fop == 2 && a.row == 99) then a else { a with cyc := a.cyc + 1 }) }
    else o
  | _, _ => o

/-- Hold the instruction cycle by cycle until every condition of R90 holds; condition 4 starts or reverses the ramp (R96). -/
def frameHold : Nat → Nat → FrameIn → Tile → Nat × TOut
  | 0, c, _, t => (c, TOut.of t)
  | n + 1, c, i, t =>
    let o := frameTo c t
    let f := actAt c o.tile.frame
    let op := frameOp o.tile i c
    let dots := i.fop == 1 || i.fop == 3
    let w := if dots && ! fullyOn f then wakeAt c f else (f, 0)
    let o1 := (o.upd (fun t => { t with frame := w.1 })).bump (ck 0x9110 4) w.2
    if slotsFree c w.1 op && swapReady c w.1 i && (! dots || fullyOn (settle w.1 c)) then (c, o1)
    else
      let r := frameHold n (c + 1) i o1.tile
      (r.1, ⟨r.2.tile, o1.bumps ++ r.2.bumps, o1.hits ++ r.2.hits⟩)

/-- The longest hold: a step has at most 2^20 cycles. -/
def holdFuel : Nat := 2 ^ 20

def setBank (k : Fin 2) (g : ABank → ABank) (f : FrameSt) : FrameSt := { f with banks := f.banks.set k (g f.banks[k]) }

/-- An instruction enters its slots and channels. -/
def frameEnter (op : FOp) (t0 : Nat) (f : FrameSt) : FrameSt := { f with ops := f.ops ++ [op], clk := min f.clk t0 }

/-- LOADW takes the inactive weight register (R79). -/
def loadwCommit (op : FOp) (t0 : Nat) (f : FrameSt) : FrameSt :=
  frameEnter op t0 { f with
    w := f.w.set op.args.wreg { f.w[op.args.wreg] with fmt := fmtD op.args.fmt, cb := op.args.cb }, loadwAt := some t0, ordLoadw := f.ordLoadw + 1 }

/-- The bank of a MUL: a chain start takes the scales and clears the counts, every fed row counts, and the last MUL closes the chain (R80, R81,
R82). -/
def mulBank (i : FrameIn) (g : FArgs) (cbw : U32) (b : ABank) : ABank :=
  let b1 := if g.start then { b with ca := g.ca, cb := cbw, q := none, cnt := [] } else b
  { b1 with
    cnt := (upTo 32).foldl (fun c r => if bitOf g.mask r then SMap.put 0 c r (SMap.get 0 c r + 1) else c) b1.cnt
    st := if optF i.opt 9 1 == 1 then .closed else .opened }

/-- MUL uses its bank and may swap the weight registers (R80, R81). -/
def mulCommit (i : FrameIn) (op : FOp) (t0 : Nat) (f : FrameSt) : FrameSt :=
  let swap := optF i.opt 6 1 == 1
  frameEnter op t0 { (setBank op.args.abank (mulBank i op.args (f.w[op.args.wreg]).cb) f) with
    active := op.args.wreg, shadowFull := if swap then false else f.shadowFull, loadwAt := if swap then none else f.loadwAt }

/-- DRAIN fixes the conversion factor with the first drain of a chain (R83). -/
def drainCommit (i : FrameIn) (op : FOp) (t0 : Nat) (f : FrameSt) : FrameSt :=
  let g := op.args
  frameEnter op t0 { (setBank g.abank (fun b => { b with st := .drained, q := if b.q.isNone then some g.q else b.q }) f) with
    peak := if optF i.opt 7 1 = 1 then 0 else f.peak, ordOut := if g.ofmt ≤ 2 then f.ordOut + 1 else f.ordOut }

/-- EW counts as an output instruction when it writes beads (R233). -/
def ewCommit (op : FOp) (t0 : Nat) (f : FrameSt) : FrameSt :=
  frameEnter op t0 { f with ordOut := if op.args.ofmt ≤ 2 then f.ordOut + 1 else f.ordOut }

/-- LOADA takes its bank anew (R85). -/
def loadaCommit (i : FrameIn) (op : FOp) (t0 : Nat) (f : FrameSt) : FrameSt :=
  frameEnter op t0 (setBank op.args.abank (fun b =>
    { b with q := none, cnt := [], st := if optF i.opt 10 1 = 1 then .opened else .closed }) f)

/-- What the frame's state takes in the issue cycle (R79 to R85), with the counters of issue. -/
def frameCommit (i : FrameIn) (t0 : Nat) (t : Tile) : TOut :=
  let op := parityMove t.frame (frameOp t i t0)
  let g := op.args
  match i.fop with
  | 0 => TOut.of (t.updFrame (loadwCommit op t0))
  | 1 => (TOut.of (t.updFrame (mulCommit i op t0))).bump (ck 0x9110 3) ((upTo 32).filter (fun r => ! bitOf g.mask r)).length
  | 2 =>
    if g.ofmt = 6 then TOut.of (t.updFrame (frameEnter op t0)) else
    (TOut.of (t.updFrame (drainCommit i op t0))).bump (ck 0x9100 6) (if (t.frame.banks[g.abank]).q.isNone && g.q.isNone then 1 else 0)
  | 3 => TOut.of (t.updFrame (ewCommit op t0))
  | 4 => TOut.of (t.updFrame (loadaCommit i op t0))
  | 5 => let r := wakeAt t0 (actAt t0 t.frame)
         (TOut.of { t with frame := r.1 }).bump (ck 0x9110 4) r.2
  | 6 => TOut.of { t with frame := restAt t0 (actAt t0 t.frame) }
  | _ => TOut.of t

/-- FRAME.WAIT: carry out everything in flight; the cycle after the last effect, or `c` when nothing is pending (R94). -/
def frameFinish (c : Nat) (t : Tile) : Nat × TOut :=
  let o := frameTo c t
  if (nextDue o.tile.frame.ops).isNone then (c, o) else
  let r := o.andThen (frameRun holdFuel (c + holdFuel))
  (max c (r.tile.frame.lastEffect + 1), r.upd (fun t => t.updFrame (fun f => { f with clk := f.lastEffect + 1 })))

/-- FSTAT as a read in cycle `c` returns it: the state at the end of the previous cycle (R100, R136). -/
def fstat (c : Nat) (f : FrameSt) : Nat :=
  let c := c - 1
  let f := actAt c f
  let busy := fun k => if (liveOps c f).any (fun o => o.slots.getLsbD k) then 1 else 0
  let pend := f.ops.any (fun o => o.accs.any (fun a => a.displaced))
  groupsOn f c * 2 ^ 16 + (match f.ramp with | .steady => 0 | .up => 1 | .down => 2) * 2 ^ 14
    + chainCode (f.banks[1]).st * 2 ^ 12 + chainCode (f.banks[0]).st * 2 ^ 10 + f.active.val * 2 ^ 9
    + (if f.shadowFull then 2 ^ 8 else 0) + (if f.resFail then 2 ^ 7 else 0) + (if pend then 8 else 0)
    + busy 2 * 4 + busy 1 * 2 + busy 0

/-- The frame at a step fence (R104). -/
def frameFence (keepTrap : Bool) (f : FrameSt) : FrameSt := { FrameSt.reset with ftrap := if keepTrap then f.ftrap else 0 }

/-- The write rule of the peak registers (R99). -/
def peakWrite (v : U64) : Nat := min (v.toNat % 2 ^ 31) 0x7F800000

end Sys2Proof.Machine
end

