-- ==== Sys2Proof/Machine/Operands.lean ====
section
/-! DEFINITION. Issue of a core instruction: the scoreboard of R112, the checks of R137 and R138 in the issue cycle, the operand forms
(immediates, data addresses, registers), and what every instruction leaves behind. -/

namespace Sys2Proof.Machine

/-- Scoreboard names: s0 to s31 are 0 to 31, v0 to v15 are 32 to 47. -/
def rS (r : Reg) : Nat := r.val
def rV (r : VReg) : Nat := 32 + r.val

def sx16 (imm : U16) : U64 := imm.signExtend 64
def zx16 (imm : U16) : U64 := imm.setWidth 64

/-- The pair of an even register (R118). -/
def vNext (r : VReg) : VReg := ⟨(r.val + 1) % 16, Nat.mod_lt _ (by decide)⟩

/-- The issue cycle: every source ready, every destination written, the unit's interval over (R112). s0 is always ready. -/
def issueCycle (k : CoreSt) (srcs dsts : List Nat) (row : Option Nat) : Nat :=
  let r := (srcs ++ dsts).foldl (fun m x => if x = 0 then m else max m (SMap.get 0 k.ready x)) k.now
  match row with
  | none => r
  | some u => max r (SMap.get 0 k.unit u)

/-- The lowest cause that holds, a bound violation in place of a bank-class violation (R138); 0 when none. -/
def pickCause (l : List Nat) : Nat :=
  let l := l.filter (fun c => c != 0)
  let l := if l.contains 2 || l.contains 3 then l.filter (fun c => c != 1 && c != 6) else l
  match l with
  | [] => 0
  | c :: cs => cs.foldl min c

/-- An armed halt lands at or before cycle `c` (R469). -/
def haltBars (h : Option Nat) (c : Nat) : Bool := match h with | some n => decide (n ≤ c) | none => false

/-- May a core of the tile issue in cycle `t0` (R138, R154, R468, R469). -/
def mayIssue (t : Tile) (t0 : Nat) : Bool :=
  ! t.halted && ! haltBars t.haltCy t0 && (match t.stopAt with | none => true | some k => decide (t0 ≤ k))

/-- A marked code line raises its detection when an instruction of it issues (R154). -/
def fetchCheck (c : CoreIx) (t0 : Nat) (t : Tile) : TOut :=
  let p := 262144 * t.codeBank c + 4 * (t.core c).pc
  spCheck agFetch (lineAddr p) 64 t0 t

/-- A breakpoint hits when the core issues the instruction at its PC (R470). -/
def bpCheck (c : CoreIx) (t0 : Nat) (t : Tile) : TOut :=
  let k := t.core c
  let hit := fun (n : Fin 4) => k.bps[n].enable && k.bps[n].pc.toNat == k.pc
  ⟨t, [], if hit 0 || hit 1 || hit 2 || hit 3 then [⟨t0, k.pc, true⟩] else []⟩

/-- A core that runs issues an instruction: the frame is brought up to the issue cycle, the code line and the breakpoints are
checked, the conditions of R137 are evaluated, and the instruction traps or takes effect. A core that does not run, or may no longer
issue, is left as it is. -/
def coreGo (c : CoreIx) (major : Nat) (srcs dsts : List Nat) (row : Option Nat) (causes : Tile → List Nat)
    (body : Nat → Tile → TOut) (t : Tile) : TOut :=
  let k := t.core c
  let t0 := issueCycle k srcs dsts row
  if k.run = .running ∧ mayIssue t t0 = true then
    let o := frameTo t0 t
    if ! mayIssue o.tile t0 then o
    else if 65535 < k.pc then o.andThen (coreTrap c 2 0 t0)
    else (o.andThen (fetchCheck c t0)).andThen (fun t => (bpCheck c t0 t).andThen (fun t =>
      let cause := pickCause (causes t)
      if cause = 0 then body t0 t else coreTrap c cause major t0 t))
  else TOut.of t

/-- Set the ready cycle of destinations. -/
def markReady (k : CoreSt) (dsts : List Nat) (cy : Nat) : CoreSt :=
  { k with ready := dsts.foldl (fun m x => if x = 0 then m else SMap.put 0 m x cy) k.ready }

/-- The instruction has issued at `t0`: the next may issue at `next`, its results are ready after `lat`. -/
def retire (t0 next lat : Nat) (dsts : List Nat) (row : Option (Nat × Nat)) (k : CoreSt) : CoreSt :=
  let k := markReady { k with pc := k.pc + 1, now := next } dsts (t0 + lat)
  match row with
  | none => k
  | some u => { k with unit := SMap.put 0 k.unit u.1 (t0 + u.2) }

/-- A fixed-timing instruction of a core that only changes the core (R116). -/
def coreOp (c : CoreIx) (major : Nat) (srcs dsts : List Nat) (lat : Nat) (row : Option (Nat × Nat)) (causes : Tile → List Nat)
    (f : CoreSt → CoreSt) (t : Tile) : TOut :=
  coreGo c major srcs dsts (row.map Prod.fst) causes
    (fun t0 t => TOut.of (t.updCore c (fun k => retire t0 (t0 + 1) lat dsts row (f k)))) t

def noCause : Tile → List Nat := fun _ => []
def causeIf (b : Bool) (n : Nat) : List Nat := if b then [n] else []

/-! ## Data addresses (R109) -/

/-- o = s[A] + sext(IMM) mod 2^64. -/
def dataOff (k : CoreSt) (a : Reg) (imm : U16) : Nat := (k.getS a + sx16 imm).toNat

/-- The causes of a data access of `n` bytes at offset `o` by core `c` (R109, R137). -/
def dataCauses (c : CoreIx) (o n : Nat) (t : Tile) : List Nat :=
  let b := bankOf (t.tsk.base + o)
  causeIf (! t.inBound o n) 2 ++ causeIf (o % n != 0) 3
    ++ (if t.bankClass b != clsEcmet then [1] else causeIf (t.bankOwner b != c.val || t.bankCode b) 6)

/-- A data read of a core: parity and watchpoints in the access cycle (R114, R153, R164). -/
def dataRead (p n cy : Nat) (t : Tile) : TOut := (spCheck agData p n cy t).andThen (wpCheck 1 false p n cy)

/-- A data write of a core, which enters the mirror accumulator (R268). -/
def dataWrite (mirrored : Bool) (p cy : Nat) (bs : List Byte) (t : Tile) : TOut :=
  (TOut.of (spWrite mirrored p bs t)).andThen (wpCheck 1 true p bs.length cy)

/-! ## Branches (R113, R117) -/

/-- A target outside 0 to 65,535 is a bound violation. -/
def badTarget (tg : Int) : Bool := decide (tg < 0) || decide (65535 < tg)

/-- A taken branch: the target issues at t + 2 (R113). -/
def takeBranch (t0 : Nat) (tg : Int) (k : CoreSt) : CoreSt := { k with pc := tg.toNat, now := t0 + 2 }

/-! ## V-marked instructions (R115, R135) -/

/-- A V-marked instruction of minimum `m` completes with `waited` further cycles, which are added once to VEXTRA and to
V_EXTRA_CY; its result is ready when the next instruction may issue. -/
def vDone (c : CoreIx) (t0 m waited : Nat) (dsts : List Nat) (f : CoreSt → CoreSt) (t : Tile) : TOut :=
  (TOut.of (t.updCore c (fun k =>
    { (retire t0 (t0 + m + waited) (m + waited) dsts none (f k)) with run := .running, vextra := k.vextra + waited, wdog := 0 }))).bump
    (ck 0x9120 2) waited

/-- The instruction holds: the core waits with the watchdog at the cycles waited so far. -/
def vHold (c : CoreIx) (kind t0 waited : Nat) (t : Tile) : Tile :=
  t.updCore c (fun k => { k with run := .waiting kind t0, wdog := waited % 2 ^ 25 })

/-- A core that waits in a V-marked instruction of this kind goes on with it; a core that runs issues it. -/
def vGo (c : CoreIx) (kind major : Nat) (srcs dsts : List Nat) (causes : Tile → List Nat) (body : Nat → Tile → TOut) (t : Tile) : TOut :=
  match (t.core c).run with
  | .waiting k t0 => if k = kind ∧ mayIssue t t0 = true then body t0 t else TOut.of t
  | _ => coreGo c major srcs dsts none causes body t

end Sys2Proof.Machine
end

