-- ==== Sys2Proof/Machine/Update.lean ====
section
/-! DEFINITION. The parameter update engine (R240 to R259): group records, step sizes, the arithmetic of a run, and its schedule. -/

namespace Sys2Proof.Machine

/-- A finite non-negative binary32 (R246). -/
def finNonneg (b : Nat) : Bool := decide (b < 0x7F800000)

/-- round32(a · b ÷ c) of binary32 values; an exact 0 stays 0 (R250). -/
def updFactor (a b : Nat) (c : Option U32) : Factor :=
  match f32.decode a, f32.decode b with
  | .fin _ ma ea, .fin _ mb eb =>
    if ma * mb = 0 then ⟨0, 0⟩ else
    match c with
    | none => round24 (ma * mb) 1 (ea + eb)
    | some c => let s := scaleVal c
                round24 (ma * mb) s.1 (ea + eb - s.2)
  | _, _ => ⟨0, 0⟩

/-- H = round32(η · c ÷ Cw). -/
def updFactorH (eta clip : Nat) (cw : U32) : Factor := updFactor eta clip (some cw)

/-- A group record: the header line and the point lines (R245). -/
def recU (bs : List Byte) (off n : Nat) : Nat := natOfLE ((bs.drop off).take n)

/-- Step count and step size of point k (R245). -/
def recPoint (bs : List Byte) (k : Nat) : Nat × Nat :=
  if k = 0 then (recU bs 20 4, recU bs 24 4)
  else
    let o := 64 * (1 + (k - 1) / 8) + 8 * ((k - 1) % 8)
    (recU bs o 4, recU bs (o + 4) 4)

def rising : List Nat → Bool
  | a :: b :: rest => decide (a < b) && rising (b :: rest)
  | _ => true

/-- Is the record valid for the expected group (R246). -/
def recordValid (bs : List Byte) (g : Nat) : Bool :=
  let rule := recU bs 2 1
  let source := recU bs 3 1
  let npts := recU bs 5 1
  let pts := (upTo npts).map (recPoint bs)
  decide (rule ≤ 3) && decide (source ≤ 1) && recU bs 4 1 / 2 == 0 && recU bs 6 2 == 0 && recU bs 28 36 == 0
  && recU bs 0 2 == g
  && (source == 1 || finNonneg (recU bs 8 4)) && (rule != 2 || finNonneg (recU bs 12 4))
  && (rule != 3 || (finNonneg (recU bs 16 4) && recU bs 16 4 != 0))
  && (source == 0 || (decide (1 ≤ npts) && decide (npts ≤ 65) && rising (pts.map Prod.fst) && pts.all (fun p => finNonneg p.2)))

/-- The segment of the curve that holds `s`, with its end points (R247). -/
def curveSeg (s : Nat) : List (Nat × Nat) → Option ((Nat × Nat) × (Nat × Nat))
  | a :: b :: rest => if a.1 ≤ s ∧ s < b.1 then some (a, b) else curveSeg s (b :: rest)
  | _ => none

/-- The step size in force (R247). -/
def etaInForce (bs : List Byte) (s : Nat) : Nat :=
  if recU bs 3 1 = 0 then recU bs 8 4 else
  let npts := recU bs 5 1
  let pts := (upTo npts).map (recPoint bs)
  let first := pts.headD (0, 0)
  let last := pts.getLastD (0, 0)
  if s ≤ first.1 then first.2 else if last.1 ≤ s then last.2 else
  match curveSeg s pts with
  | none => last.2
  | some (a, b) =>
    let x := Dy.ofF (f32.decode a.2)
    let y := Dy.ofF (f32.decode b.2)
    let e := min x.e y.e
    let xn := x.n * 2 ^ (x.e - e).toNat
    let yn := y.n * 2 ^ (y.e - e).toNat
    let num := xn * ((b.1 - a.1 : Nat) : Int) + (yn - xn) * ((s - a.1 : Nat) : Int)
    (f32.round (decide (num < 0)) num.natAbs (b.1 - a.1) e).bits

/-- The group that a record puts in force (R246, R247). -/
def groupOf (bs : List Byte) (g : Nat) (s : U64) : UpdGroup :=
  { valid := recordValid bs g, group := g, rule := recU bs 2 1, frozen := recU bs 4 1 % 2 == 1, source := recU bs 3 1,
    eta := etaInForce bs s.toNat, lambda := recU bs 12 4, clip := recU bs 16 4, s := s }

/-! ## Arithmetic of a run -/

/-- A sum of terms m · 2^e. -/
def dySum (ts : List (Int × Int)) : Int × Int :=
  let e := ts.foldl (fun m t => min m t.2) (ts.headD (0, 0)).2
  (ts.foldl (fun a t => a + t.1 * 2 ^ (t.2 - e).toNat) 0, e)

def sgnI (x : Int) : Int := if x < 0 then -1 else if x = 0 then 0 else 1

/-- The new weight element in units of Cw (R251). -/
def updX (u : URun) (ew : Int) (aw : Int) (eg : Int) (ag : Int) : Int × Int :=
  let w := (ew, aw)
  let plain := [w, (-(eg * u.facG.mq), ag + u.facG.qe)]
  let gain := match u.grp.rule with
    | 1 => [w, (-(sgnI eg * u.facE.mq), u.facE.qe)]
    | 2 => plain ++ [(-(ew * u.facD.mq), aw + u.facD.qe)]
    | 3 =>
      let s := scaleVal u.cg
      let c := Dy.ofF (f32.decode u.grp.clip)
      if dyLe ((eg.natAbs : Int) * s.1, ag + s.2) (c.n, c.e) then plain
      else [w, (-(sgnI eg * u.facH.mq), u.facH.qe)]
    | _ => plain
  dySum gain

/-- The dither value of an element (R252). -/
def ditherR (key s : U64) (g idx : Nat) : Nat :=
  let h := mix64 (key ^^^ mix64 s)
  let h := mix64 (h ^^^ BitVec.ofNat 64 (g * 2 ^ 32 + idx % 2 ^ 32))
  h.toNat / 2 ^ 40

/-- floor(a · 2^−k + r · 2^−24) for a ≥ 0 (R252). -/
def dFloor (a : Nat) (k : Int) (r : Nat) : Nat :=
  if k ≤ 0 then a * 2 ^ (-k).toNat else (a * 2 ^ 24 + r * 2 ^ k.toNat) / 2 ^ (k.toNat + 24)

/-- Keyed dither of one element and whether it fits (R252). -/
def roundDither (f : BeadFmt) (p : Int) (k : Int) (r : Nat) : Int × Bool :=
  let a := p.natAbs
  let sg := fun (m : Nat) => if p < 0 then -(m : Int) else (m : Int)
  match f with
  | .b8e =>
    if p = 0 then (0, true) else
    let ex := max 1 ((a.log2 : Int) - k - 4)
    let mag := dFloor a (k + ex) r * 2 ^ ex.toNat
    (sg mag, decide (mag ≤ 3968))
  | .b8i => let q := sg (dFloor a k r)
            (q, decide (-128 ≤ q ∧ q ≤ 127))
  | .b16i => let q := sg (dFloor a k r)
             (q, decide (-32768 ≤ q ∧ q ≤ 32767))

/-- One element rounded under the plan's ROUND. -/
def updRound (f : BeadFmt) (dr : Option Nat) (x : Int × Int) (fo : Int) : Int × Bool :=
  match dr with
  | none => roundOut f x.1 (fo + f.off - x.2)
  | some r => roundDither f x.1 (fo + f.off - x.2) r

def updFine (f : BeadFmt) (xs : List ((Int × Int) × Option Nat)) : Nat → Int → Option Int
  | 0, _ => none
  | n + 1, fo => if xs.all (fun x => (updRound f x.2 x.1 fo).2) then some fo else updFine f xs n (fo + 1)

/-- The output bead of a run (R252), with the count of saturated elements. -/
def updEncode (f : BeadFmt) (xs : List ((Int × Int) × Option Nat)) : Bead × Nat :=
  match updFine f xs 32 (-16) with
  | some fo =>
    let vs := xs.map (fun x => (updRound f x.2 x.1 fo).1)
    if vs.all (fun v => v == 0) then (allZeroBead f, 0) else (mkBead f vs fo 0, 0)
  | none =>
    let rs := xs.map (fun x => (updRound f x.2 x.1 15, decide (x.1.1 < 0)))
    (mkBead f (rs.map (fun r => if r.1.2 then r.1.1 else extremeOf f r.2)) 15 2, (rs.filter (fun r => ! r.1.2)).length)

/-- What one bead of a run gives: output bead, UPEAK, counters (R251 to R253, R257). -/
def updBead (u : URun) (wf gf : BeadFmt) (i : Nat) (w g : Bead) (peak : Nat) : Bead × Nat × List (Nat × Nat) :=
  let eat := consumeBumps w ++ consumeBumps g
  if u.bad || w.poisoned || g.poisoned then (poisonedBead wf, peak, eat ++ [(ck 0x9100 4, 1)])
  else
    let aw := w.fine + wf.off
    let ag := g.fine + gf.off
    let xs := List.zipWith (fun ew eg => updX u ew aw eg ag) (w.operand wf) (g.operand gf)
    let rs := (List.zip (upTo 32) xs).map (fun jx =>
      (jx.2, u.dither.map (fun key => ditherR key u.grp.s u.grp.group (32 * (u.ubead + i) + jx.1))))
    let r := updEncode wf rs
    (r.1, peakOf peak (xs.map (fun x => XVal.dy x.1 x.2)), eat ++ (if r.2 = 0 then [] else [(ck 0x9100 1, r.2)]))

/-! ## Schedule -/

/-- The accesses of a run of `n` beads issued at `t0` (R254); `fmt` codes as in R78. -/
def runAccs (t0 n : Nat) (g : FArgs) : List FAcc :=
  let lines := fun (fmt e ch : Nat) =>
    if fmt = 2 then (upTo n).map (fun i => rdAcc (t0 + 2 + i) ch (e + 64 * i) i)
    else (upTo ((n + 1) / 2)).map (fun m => rdAcc (t0 + 2 + 2 * m) ch (e + 64 * m) (2 * m))
  (upTo ((n + 31) / 32)).flatMap (fun q => [rdAcc (t0 + 1 + 32 * q) 2 (g.s1 + 64 * q) 99, rdAcc (t0 + 1 + 32 * q) 2 (g.s2 + 64 * q) 98])
  ++ lines g.fmt g.e1 0 ++ lines g.fmt2 g.e2 1
  ++ (upTo n).map (fun i => inAcc (t0 + 12 + i) .eff i)
  ++ (if g.fmt = 2 then (upTo n).map (fun i => wrAcc (t0 + 13 + i) 3 (g.eo + 64 * i) i)
      else (upTo ((n + 1) / 2)).map (fun m => wrAcc (t0 + 13 + min (2 * m + 1) (n - 1)) 3 (g.eo + 64 * m) (2 * m)))
  ++ (upTo ((n + 31) / 32)).map (fun q => wrAcc (t0 + 13 + min (32 * q + 31) (n - 1)) 2 (g.so + 64 * q) 99)

/-- The point lines that a record's NPTS needs (R254). -/
def pointLines (npts source : Nat) : Nat := if source = 0 then 0 else (min npts 65 + 6) / 8

def grpAccs (t0 lines : Nat) (g : FArgs) : List FAcc :=
  rdAcc (t0 + 2) 0 g.e1 0 :: (upTo lines).map (fun k => rdAcc (t0 + 3 + k) 0 (g.e1 + 64 * (k + 1)) (k + 1)) ++ [inAcc (t0 + 23) .eff 99]

def Tile.updUpd (t : Tile) (f : UpdSt → UpdSt) : Tile := { t with upd := f t.upd }

/-- Verify the operand beads that a line read completes (R264), source 0x2. -/
def updVerify (cy p : Nat) (u : URun) (g : FArgs) (o : TOut) : TOut :=
  let grp := fun (fmt e s : Nat) (o : TOut) =>
    (upTo u.n).foldl (fun o i =>
      let f := fmtD fmt
      let el := lineAddr (e + 32 * f.bytes * i)
      let sl := lineAddr (s + 2 * i)
      let inBuf := fun l => g.buf.any (fun x => x.1 == l) || l == p
      if (el == p || sl == p) && inBuf el && inBuf sl then
        if (bufBead f g.buf e s i).checkGood then o
        else (o.upd (fun t => t.integrity 2 (bankOf sl) (lineInBank sl) (i % 32) cy)).bump (ck 0x9170 1) 1
      else o) o
  grp g.fmt2 g.e2 g.s2 (grp g.fmt g.e1 g.s1 o)

/-- What an access of the engine does in cycle `cy`. -/
def updEffect (cy k : Nat) (a : FAcc) (t : Tile) : TOut :=
  let o := opAt t.upd.ops k
  let g := o.args
  match a.kind with
  | .rd =>
    let g1 := { g with buf := SMap.ins a.p (t.line a.p) g.buf }
    let t1 := t.updUpd (fun u => { u with ops := updOp k (fun _ => g1) u.ops })
    let o1 := match g.run with | some u => updVerify cy a.p u g1 (TOut.of t1) | none => TOut.of t1
    (o1.andThen (spCheck agUpdate a.p 64 cy)).andThen (wpCheck 3 false a.p 64 cy)
  | .wr =>
    let bs := outLine g.outb a.p
    ((TOut.of t).upd (spWriteLine true false a.p bs)).andThen (fun t =>
      if bs.isEmpty then TOut.of t else wpCheck 3 true (a.p + (bs.headD (0, 0)).1) (bs.getLastD (0, 0)).1.succ cy t)
  | .eff =>
    match g.run with
    | none =>
      let n := (g.buf.length) * 64
      let grp := groupOf (bufBytes g.buf g.e1 n) g.want g.step
      (TOut.of (t.updUpd (fun u => { u with grp := some grp }))).bump (ck 0x9160 4) (if grp.valid then 0 else 1)
    | some u =>
      let w := bufBead (fmtD g.fmt) g.buf g.e1 g.s1 a.row
      let d := bufBead (fmtD g.fmt2) g.buf g.e2 g.s2 a.row
      let r := updBead u (fmtD g.fmt) (fmtD g.fmt2) a.row w d t.upd.upeak
      let wb := 32 * (fmtD g.fmt).bytes
      let ob := outPut (outPut g.outb (g.eo + wb * a.row) r.1.elems) (g.so + 2 * a.row) [r.1.byte0, r.1.byte1]
      let t1 := t.updUpd (fun u => { u with upeak := r.2.1, ops := updOp k (fun g => { g with outb := ob }) u.ops })
      ((TOut.of (digestAdd g.dig a.row r.1 t1)).bumps' r.2.2).bump (ck 0x9160 1) 1
  | _ => TOut.of t

/-- One cycle of the engine: plan-lane slot accesses go first (R146, R256). -/
def updCycle (c : Nat) (t : Tile) : TOut :=
  let busy := (t.upd.slotUse.filter (fun x => x.1 == c)).map Prod.snd
  let r := portCycle false busy c t.upd.ops
  let t1 := t.updUpd (fun u => { u with ops := r.ops, lastEffect := if r.done.isEmpty then u.lastEffect else max u.lastEffect c,
                                        clk := c + 1, slotUse := u.slotUse.filter (fun x => decide (c < x.1)) })
  ((inKindOrder r.done).foldl (fun o x => o.andThen (updEffect c x.1 x.2)) ((TOut.of t1).bump (ck 0x9160 3) r.moves)).upd
    (fun t => t.updUpd (fun u => { u with ops := u.ops.filter (fun o => ! o.accs.isEmpty) }))

/-- Carry the engine out up to, not including, cycle `upto`. -/
def updRunTo : Nat → Nat → Tile → TOut
  | 0, _, t => TOut.of t
  | n + 1, upto, t =>
    match nextDue t.upd.ops with
    | none => TOut.of (t.updUpd (fun u => { u with clk := max u.clk upto }))
    | some c =>
      let c := max c t.upd.clk
      if upto ≤ c then TOut.of (t.updUpd (fun u => { u with clk := max u.clk upto }))
      else (updCycle c t).andThen (updRunTo n upto)

def updTo (c : Nat) (t : Tile) : TOut := updRunTo (c + 1 - t.upd.clk) c t

/-- UPD.WAIT: the cycle after the last effect, or `c` when nothing is pending (R242, R254). -/
def updFinish (c : Nat) (t : Tile) : Nat × TOut :=
  let o := updTo c t
  if (nextDue o.tile.upd.ops).isNone then (max c o.tile.upd.occEnd, o) else
  let r := o.andThen (updRunTo holdFuel (c + holdFuel))
  (max (max c r.tile.upd.occEnd) (r.tile.upd.lastEffect + 1), r.upd (fun t => t.updUpd (fun u => { u with clk := u.lastEffect + 1 })))

/-- The causes common to update instructions: core and part (R258). -/
def updCauses (e : TEnv) (c : CoreIx) : List Nat := causeIf (! e.engines) 7 ++ causeIf (c != 3) 8

/-- The causes of the regions an update instruction would touch. -/
def regionCauses (t : Tile) (rs : List (Nat × Nat)) : List Nat :=
  causeIf (rs.any (fun r => ! t.inBound r.1 r.2)) 2 ++ causeIf (rs.any (fun r => r.1 % 64 != 0)) 3
    ++ causeIf (rs.any (fun r => ! t.classOk clsCopy r.1 r.2)) 1

/-- UPD.GROUP (R242, R246, R254, R255). -/
def updGroupOp (e : TEnv) (c : CoreIx) (sa sb : Reg) (opt : BitVec 12) (t : Tile) : TOut :=
  coreGo c 0x3B [rS sa, rS sb] [] none
    (fun t =>
      let a := (t.core c).getS sa
      let p := t.tsk.base + lo32 a
      let lines := pointLines ((t.sp.read (p + 5)).toNat) ((t.sp.read (p + 3)).toNat)
      updCauses e c ++ causeIf (opt != 0 || a.toNat / 2 ^ 44 != 0) 4 ++ regionCauses t [(lo32 a, 64 * (1 + lines))])
    (fun t0 t =>
      let o := updTo t0 t
      o.andThen (fun t =>
        let a := (t.core c).getS sa
        let t1 := max t0 t.upd.occEnd
        let p := t.tsk.base + lo32 a
        let g := { FArgs.zero with e1 := p, want := a.toNat / 2 ^ 32 % 2 ^ 12, step := (t.core c).getS sb }
        let lines := pointLines ((t.sp.read (p + 5)).toNat) ((t.sp.read (p + 3)).toNat)
        let op : FOp := ⟨6, t1, t1, 0, 0, 0, false, grpAccs t1 lines g, g⟩
        TOut.of ((t.updUpd (fun u => { u with ops := u.ops ++ [op], readEnd := t1 + 24, clk := min u.clk t1 })).updCore c
          (retire t1 (t1 + 1) 1 [] none)))) t

/-- The regions of a run of `n` beads (R242). -/
def runRegions (t : Tile) (a b : U64) (wf gf n : Nat) : List (Nat × Nat) :=
  let plane := fun (f x : Nat) => (x, n * 32 * (fmtD f).bytes)
  [plane wf (lo32 a), (hi32 a, 2 * n), plane gf (lo32 b), (hi32 b, 2 * n), plane wf (lo32 t.upd.uoBase), (hi32 t.upd.uoBase, 2 * n)]

/-- The run as captured at issue (R250, R255). -/
def captureRun (t : Tile) (g : UpdGroup) (n : Nat) : URun :=
  let cw := lo32v t.upd.uscales
  let cg := hi32v t.upd.uscales
  { n := n, grp := g, ubead := t.upd.ubead, bad := ! (scaleValid cw && scaleValid cg),
    facG := updFactor g.eta cg.toNat (some cw), facE := updFactor g.eta 0x3F800000 (some cw),
    facD := updFactor g.eta g.lambda none, facH := updFactorH g.eta g.clip cw, cg := cg, dither := t.dither }

/-- UPD.RUN (R242, R250 to R258): held until the record is read and the previous occupancy is over. -/
def updRunOp (e : TEnv) (c : CoreIx) (sa sb : Reg) (opt : BitVec 12) (t : Tile) : TOut :=
  let wf := optF opt 10 2
  let gf := optF opt 8 2
  let n := optF opt 0 8 + 1
  coreGo c 0x3B [rS sa, rS sb] [] none
    (fun t => updCauses e c ++ causeIf (wf == 3 || gf == 3) 4
      ++ regionCauses t (runRegions t ((t.core c).getS sa) ((t.core c).getS sb) wf gf n))
    (fun t0 t =>
      let t1 := max (max t0 t.upd.occEnd) t.upd.readEnd
      (updTo t1 t).andThen (fun t =>
        if ! mayIssue t t1 then TOut.of t else
        match t.upd.grp with
        | none => coreTrap c 4 0x3B t1 t
        | some g =>
          if ! g.valid then coreTrap c 4 0x3B t1 t else
          let u := captureRun t g n
          let a := (t.core c).getS sa
          let b := (t.core c).getS sb
          let base := t.tsk.base
          let ar := { FArgs.zero with
            fmt := wf, fmt2 := gf, e1 := base + lo32 a, s1 := base + hi32 a, e2 := base + lo32 b, s2 := base + hi32 b
            eo := base + lo32 t.upd.uoBase, so := base + hi32 t.upd.uoBase
            dig := t.digFor 3 t.upd.ordRun, run := some u }
          let op : FOp := ⟨7, t1, t1 + n, 0, 0, 0, false, if g.frozen then [] else runAccs t1 n ar, ar⟩
          let t2 := (t.updUpd (fun s => { s with
              ops := if g.frozen then s.ops else s.ops ++ [op], occEnd := t1 + n, ordRun := s.ordRun + 1,
              ubead := (s.ubead + n) % 2 ^ 32, clk := min s.clk t1 })).updCore c (retire t1 (t1 + 1) 1 [] none)
          (TOut.of t2).bump (ck 0x9160 2) (if g.frozen then n else 0))) t

/-- UPD.WAIT (R242, R254). -/
def updWaitOp (e : TEnv) (c : CoreIx) (sa sb : Reg) (opt : BitVec 12) (t : Tile) : TOut :=
  coreGo c 0x3B [] [] none
    (fun _ => updCauses e c ++ causeIf (sa != 0 || sb != 0 || opt != 0) 4)
    (fun t0 t =>
      let r := updFinish t0 t
      r.2.upd (fun t => t.updCore c (retire t0 (max (t0 + 1) r.1) 1 [] none))) t

/-- USTAT as a read in cycle `c` returns it: the state at the end of the previous cycle (R136, R244). -/
def ustat (c : Nat) (u : UpdSt) : Nat :=
  let c := c - 1
  let gs := if c < u.readEnd then 1 else match u.grp with | none => 0 | some g => if g.valid then 2 else 3
  let info := match u.grp with
    | some g => if g.valid && decide (u.readEnd ≤ c) then g.rule % 4 * 16 + (if g.frozen then 8 else 0) + (if g.source = 1 then 4 else 0) else 0
    | none => 0
  gs * 64 + info + (if u.ops.any (fun o => o.accs.any (fun a => a.kind == .wr)) then 2 else 0) + (if c < u.occEnd then 1 else 0)

/-- UETA (R243). -/
def ueta (u : UpdSt) : Nat :=
  match u.grp with
  | some g => if g.valid then g.group * 2 ^ 32 + g.eta else 0
  | none => 0

/-- The engine at a step fence: no group; UO_BASE, USCALES, UBEAD and UPEAK are kept (R259). -/
def updFence (u : UpdSt) : UpdSt :=
  { u with grp := none, readEnd := 0, occEnd := 0, ordRun := 0, ops := [], clk := 0, lastEffect := 0, slotUse := [] }

end Sys2Proof.Machine
end

