-- ==== Sys2Proof/Machine/EcmetOps.lean ====
section
/-! DEFINITION. What each instruction of an Ecmet core does to its tile (R107 to R136): integer and vector operations, loads and stores,
branches, control registers, windows, waits and the step's end. -/

namespace Sys2Proof.Machine

/-! ## Integer operations (R116, R117) -/

/-- Truncating signed division with the fixed results of R117. -/
def sdiv64 (a b : U64) : U64 := if b = 0 then BitVec.allOnes 64 else BitVec.ofInt 64 (a.toInt.tdiv b.toInt)
def srem64 (a b : U64) : U64 := if b = 0 then a else BitVec.ofInt 64 (a.toInt.tmod b.toInt)
def udiv64 (a b : U64) : U64 := if b = 0 then BitVec.allOnes 64 else BitVec.ofNat 64 (a.toNat / b.toNat)
def urem64 (a b : U64) : U64 := if b = 0 then a else BitVec.ofNat 64 (a.toNat % b.toNat)

def popc64 (a : U64) : U64 := BitVec.ofNat 64 ((upTo 64).filter (fun i => a.getLsbD i)).length
def clz64 (a : U64) : U64 := BitVec.ofNat 64 (if a = 0 then 64 else 63 - a.toNat.log2)
def b64 (b : Bool) : U64 := if b then 1 else 0

/-- A register operation s[D] = f(s[A], s[B]) of latency `lat` (R116). -/
def aluOp (c : CoreIx) (d a b : Reg) (lat : Nat) (f : U64 → U64 → U64) (t : Tile) : TOut :=
  coreOp c 0x01 [rS a, rS b] [rS d] lat none noCause (fun k => k.setS d (f (k.getS a) (k.getS b))) t

/-- A unary register operation, whose B field must be s0 (R116). -/
def unOp (c : CoreIx) (d a b : Reg) (lat : Nat) (f : U64 → U64) (t : Tile) : TOut :=
  coreOp c 0x01 [rS a] [rS d] lat none (fun _ => causeIf (b != 0) 4) (fun k => k.setS d (f (k.getS a))) t

/-- The row of the divider: the next division issues 34 cycles later (R116). -/
def rowDiv : Nat := 1
/-- The row of the bead instructions (R116). -/
def rowBead : Nat := 2

def divOp (c : CoreIx) (d a b : Reg) (f : U64 → U64 → U64) (t : Tile) : TOut :=
  coreOp c 0x01 [rS a, rS b] [rS d] 34 (some (rowDiv, 34)) noCause (fun k => k.setS d (f (k.getS a) (k.getS b))) t

/-- An immediate operation s[D] = f(s[A]) (R116). -/
def immOp (c : CoreIx) (major : Nat) (d a : Reg) (f : U64 → U64) (t : Tile) : TOut :=
  coreOp c major [rS a] [rS d] 1 none noCause (fun k => k.setS d (f (k.getS a))) t

/-- SHIFTI with its written-0 bits (R116). -/
def shiftiOp (c : CoreIx) (d a : Reg) (z : BitVec 8) (f : U64 → U64) (t : Tile) : TOut :=
  coreOp c 0x06 [rS a] [rS d] 1 none (fun _ => causeIf (z != 0) 4) (fun k => k.setS d (f (k.getS a))) t

/-- LIH: s[D] = (s[D] << 16) or zext(IMM); A must be s0 (R116). -/
def lihOp (c : CoreIx) (d a : Reg) (imm : U16) (t : Tile) : TOut :=
  coreOp c 0x07 [rS d] [rS d] 1 none (fun _ => causeIf (a != 0) 4)
    (fun k => k.setS d ((k.getS d <<< (16 : Nat)) ||| zx16 imm)) t

/-- The low six bits of a shift amount (R117). -/
def shAmt (b : U64) : Nat := b.toNat % 64

/-! ## Loads and stores (R109, R114) -/

/-- A scalar load of `n` bytes, sign- or zero-extended. -/
def loadOp (c : CoreIx) (major : Nat) (d a : Reg) (imm : U16) (n : Nat) (signed : Bool) (t : Tile) : TOut :=
  coreGo c major [rS a] [rS d] none (fun t => dataCauses c (dataOff (t.core c) a imm) n t)
    (fun t0 t =>
      let p := t.tsk.base + dataOff (t.core c) a imm
      let x := natOfLE (t.data p n)
      let v : U64 := if signed then BitVec.ofInt 64 (sextNat (8 * n) x) else BitVec.ofNat 64 x
      (dataRead p n (t0 + 2) t).upd (fun t => t.updCore c (fun k => retire t0 (t0 + 1) 4 [rS d] none (k.setS d v)))) t

/-- A scalar store of the low `n` bytes of s[D]. -/
def storeOp (c : CoreIx) (major : Nat) (d a : Reg) (imm : U16) (n : Nat) (t : Tile) : TOut :=
  coreGo c major [rS a, rS d] [] none (fun t => dataCauses c (dataOff (t.core c) a imm) n t)
    (fun t0 t =>
      let p := t.tsk.base + dataOff (t.core c) a imm
      (dataWrite true p (t0 + 2) (leOfNat n ((t.core c).getS d).toNat) t).upd
        (fun t => t.updCore c (fun k => retire t0 (t0 + 1) 1 [] none k))) t

/-- D[3:0] names v0 to v15; D[4] is written 0 (R116). -/
def vOfD (d : BitVec 5) : VReg := ⟨d.toNat % 16, Nat.mod_lt _ (by decide)⟩

/-- The causes of VLD and VST: D[4], and those of the access. An IMM that is no multiple of 64 shows in the offset (R109, log entry
12). -/
def vecMemCauses (c : CoreIx) (d : BitVec 5) (a : Reg) (imm : U16) (t : Tile) : List Nat :=
  causeIf (d.getLsbD 4) 4 ++ dataCauses c (dataOff (t.core c) a imm) 64 t

def vldOp (c : CoreIx) (d : BitVec 5) (a : Reg) (imm : U16) (t : Tile) : TOut :=
  coreGo c 0x14 [rS a] [rV (vOfD d)] none (vecMemCauses c d a imm)
    (fun t0 t =>
      let p := t.tsk.base + dataOff (t.core c) a imm
      let v := t.line p
      (dataRead p 64 (t0 + 2) t).upd (fun t => t.updCore c (fun k => retire t0 (t0 + 1) 4 [rV (vOfD d)] none (k.setV (vOfD d) v)))) t

def vstOp (c : CoreIx) (d : BitVec 5) (a : Reg) (imm : U16) (t : Tile) : TOut :=
  coreGo c 0x15 [rS a, rV (vOfD d)] [] none (vecMemCauses c d a imm)
    (fun t0 t =>
      let p := t.tsk.base + dataOff (t.core c) a imm
      (dataWrite true p (t0 + 2) (lineBytes (t.core c).v[vOfD d]) t).upd
        (fun t => t.updCore c (fun k => retire t0 (t0 + 1) 1 [] none k))) t

/-! ## Branches (R113, R117) -/

def branchOp (c : CoreIx) (major : Nat) (a b : Reg) (off : U16) (cond : U64 → U64 → Bool) (t : Tile) : TOut :=
  let tgt := fun (t : Tile) => ((t.core c).pc : Int) + off.toInt
  let taken := fun (t : Tile) => cond ((t.core c).getS a) ((t.core c).getS b)
  coreGo c major [rS a, rS b] [] none (fun t => causeIf (taken t && badTarget (tgt t)) 2)
    (fun t0 t => TOut.of (t.updCore c (fun k => if taken t then takeBranch t0 (tgt t) k else retire t0 (t0 + 1) 1 [] none k))) t

def jumpOp (c : CoreIx) (link : Bool) (off : BitVec 26) (t : Tile) : TOut :=
  let tgt := fun (t : Tile) => ((t.core c).pc : Int) + off.toInt
  coreGo c (if link then 0x1F else 0x1E) [] (if link then [31] else []) none (fun t => causeIf (badTarget (tgt t)) 2)
    (fun t0 t => TOut.of (t.updCore c (fun k =>
      let k1 := if link then markReady (k.setS 31 (BitVec.ofNat 64 (k.pc + 1))) [31] (t0 + 1) else k
      takeBranch t0 (tgt t) k1))) t

/-- JR: a register whose bits [63:16] are not 0 is a bound violation; D and B must be s0 (R116, R117). -/
def jrOp (c : CoreIx) (d a b : Reg) (t : Tile) : TOut :=
  coreGo c 0x01 [rS a] [] none
    (fun t => causeIf (d != 0 || b != 0) 4 ++ causeIf (decide (65535 < ((t.core c).getS a).toNat)) 2)
    (fun t0 t => TOut.of (t.updCore c (fun k => takeBranch t0 (k.getS a).toNat k))) t

/-! ## Vector unit (R116, R118 to R124) -/

def tyCause (ty : BitVec 3) : List Nat := causeIf (laneTy ty).isNone 4
def isFloat (ty : BitVec 3) : Bool := match laneTy ty with | some (.flt _) => true | _ => false
def orVflags (f : BitVec 5) (k : CoreSt) : CoreSt := { k with vflags := k.vflags ||| f }

/-- A lane-wise operation on vector registers; `reads` are the vector sources, `latI` and `latF` the latencies (R116). -/
def vecLane (c : CoreIx) (op : VOp) (reads : List VReg) (vd va vb : VReg) (ty : BitVec 3) (latI latF : Nat) (t : Tile) : TOut :=
  coreOp c 0x20 (reads.map rV) [rV vd] (if isFloat ty then latF else latI) none (fun _ => tyCause ty)
    (fun k => match laneTy ty with
      | some l => let r := vecOp op l k.v[va] k.v[vb] k.v[vd]
                  orVflags r.2 (k.setV vd r.1)
      | none => k) t

/-- A bitwise operation; the type must not be reserved (R118). -/
def vecBit (c : CoreIx) (reads : List VReg) (vd va vb : VReg) (ty : BitVec 3) (f : V512 → V512 → V512 → V512) (t : Tile) : TOut :=
  coreOp c 0x20 (reads.map rV) [rV vd] 1 none (fun _ => tyCause ty) (fun k => k.setV vd (f k.v[va] k.v[vb] k.v[vd])) t

def vpermOp (c : CoreIx) (vd va vb : VReg) (ty : BitVec 3) (t : Tile) : TOut :=
  coreOp c 0x20 [rV va, rV vb] [rV vd] 3 none (fun _ => tyCause ty)
    (fun k => match laneTy ty with | some l => k.setV vd (vecPerm l k.v[va] k.v[vb]) | none => k) t

/-- VCVT: VB[2:0] is the destination type, VB[3] is written 0; pairs are named by even registers (R116, R121). -/
def vcvtOp (c : CoreIx) (vd va vb : VReg) (ty : BitVec 3) (t : Tile) : TOut :=
  let dt := laneTy (BitVec.ofNat 3 vb.val)
  let pairIn := match laneTy ty, dt with | some a, some b => b.lanes == 2 * a.lanes | _, _ => false
  let pairOut := match laneTy ty, dt with | some a, some b => a.lanes == 2 * b.lanes | _, _ => false
  let bad := match laneTy ty, dt with
    | some a, some b => ! cvtOk a b || decide (8 ≤ vb.val) || (pairIn && va.val % 2 == 1) || (pairOut && vd.val % 2 == 1)
    | _, _ => true
  coreOp c 0x20 (if pairIn then [rV va, rV (vNext va)] else [rV va]) (if pairOut then [rV vd, rV (vNext vd)] else [rV vd]) 4 none
    (fun _ => causeIf bad 4)
    (fun k => match laneTy ty, dt with
      | some a, some b =>
        let r := vecCvt a b k.v[va] k.v[vNext va]
        let k1 := k.setV vd r.1
        orVflags r.2.2 (if pairOut then k1.setV (vNext vd) r.2.1 else k1)
      | _, _ => k) t

def vsplatOp (c : CoreIx) (vd : VReg) (sa : Reg) (ty : BitVec 3) (t : Tile) : TOut :=
  coreOp c 0x21 [rS sa] [rV vd] 1 none (fun _ => tyCause ty)
    (fun k => match laneTy ty with
      | some l => k.setV vd (ofLanes l.w ((upTo l.lanes).map (fun _ => (k.getS sa).toNat % 2 ^ l.w)))
      | none => k) t

def vextOp (c : CoreIx) (sd : Reg) (va : VReg) (sa : Reg) (ty : BitVec 3) (t : Tile) : TOut :=
  coreOp c 0x21 [rS sa, rV va] [rS sd] 2 none (fun _ => tyCause ty)
    (fun k => match laneTy ty with | some l => k.setS sd (vecExt l k.v[va] (k.getS sa).toNat) | none => k) t

def vinsOp (c : CoreIx) (vd : VReg) (sa sd : Reg) (ty : BitVec 3) (t : Tile) : TOut :=
  coreOp c 0x21 [rS sa, rS sd, rV vd] [rV vd] 2 none (fun _ => tyCause ty)
    (fun k => match laneTy ty with | some l => k.setV vd (vecIns l k.v[vd] (k.getS sa).toNat (k.getS sd).toNat) | none => k) t

def vredOp (c : CoreIx) (op : RedOp) (sd : Reg) (va : VReg) (ty : BitVec 3) (t : Tile) : TOut :=
  coreOp c 0x21 [rV va] [rS sd] 8 none (fun _ => tyCause ty)
    (fun k => match laneTy ty with
      | some l => let r := reduce op l k.v[va]
                  orVflags r.2 (k.setS sd r.1)
      | none => k) t

/-- VENC16 and VENC32 (R122): the bead goes to VD, its sidecar to s[SD], and CPEAK and the counters follow R63 and R65. -/
def vencOp (c : CoreIx) (wide : Bool) (vd va : VReg) (sa sd : Reg) (fmt : BitVec 3) (t : Tile) : TOut :=
  let f := beadFmtOf fmt.toNat
  let src := if wide then [rV va, rV (vNext va), rS sa] else [rV va, rS sa]
  coreGo c 0x21 src [rV vd, rS sd] (some rowBead) (fun _ => causeIf (f.isNone || (wide && va.val % 2 == 1)) 4)
    (fun t0 t =>
      let k := t.core c
      let ys := if wide then lanesOf 32 k.v[va] ++ lanesOf 32 k.v[vNext va] else lanesOf 16 k.v[va]
      let r := vencBead (f.getD .b8i) (if wide then f32 else f16) ys (lo32v (k.getS sa)) k.cpeak
      (TOut.of (t.updCore c (fun k =>
        retire t0 (t0 + 1) 12 [rV vd, rS sd] (some (rowBead, 4))
          { ((k.setV vd r.1).setS sd (BitVec.ofNat 64 r.2.1)) with cpeak := r.2.2.1 }))).bumps' r.2.2.2) t

/-- VDEC (R64, R122). -/
def vdecOp (c : CoreIx) (vd va : VReg) (sa : Reg) (fmt : BitVec 3) (t : Tile) : TOut :=
  let f := beadFmtOf fmt.toNat
  coreGo c 0x21 [rV va, rS sa] [rV vd, rV (vNext vd)] (some rowBead) (fun _ => causeIf (f.isNone || vd.val % 2 == 1) 4)
    (fun t0 t =>
      let k := t.core c
      let r := vdecBead (f.getD .b8i) k.v[va] (lo32 (k.getS sa) % 65536) (hi32v (k.getS sa))
      let vals := r.map Prod.fst
      (TOut.of (t.updCore c (fun k =>
        retire t0 (t0 + 1) 8 [rV vd, rV (vNext vd)] (some (rowBead, 2))
          ((k.setV vd (ofLanes 32 (vals.take 16))).setV (vNext vd) (ofLanes 32 (vals.drop 16)))))).bump (ck 0x9100 2)
            ((r.map Prod.snd).foldl (· + ·) 0)) t

/-- VSCK (R45, R122). -/
def vsckOp (c : CoreIx) (sd : Reg) (va : VReg) (sa : Reg) (fmt : BitVec 3) (t : Tile) : TOut :=
  let f := beadFmtOf fmt.toNat
  coreOp c 0x21 [rV va, rS sa] [rS sd] 4 (some (rowBead, 1)) (fun _ => causeIf f.isNone 4)
    (fun k => k.setS sd ((storageCheck (regBead (f.getD .b8i) k.v[va]) ((k.getS sa).setWidth 8)).setWidth 64)) t

/-- FN (R123, R124): VB must be v0, FUNC[10:3] is written 0, the type is a float type. -/
def fnOp (c : CoreIx) (fn : Nat) (vd va vb : VReg) (ty : BitVec 3) (z : BitVec 8) (t : Tile) : TOut :=
  coreGo c 0x22 [rV va] [rV vd] none (fun _ => causeIf (! isFloat ty || vb != 0 || z != 0) 4)
    (fun t0 t => TOut.of (t.updCore c (fun k =>
      match laneTy ty with
      | some (.flt f) => let r := vecFn k.fnLoaded t.fnTab fn f k.v[va]
                         retire t0 (t0 + 1) 10 [rV vd] none (orVflags r.2 (k.setV vd r.1))
      | _ => k))) t

/-! ## Control registers (R99, R136, R243) -/

/-- An exchange register as a read issued at `t0` sees it (R114). -/
def xrAt (x : XrCell) (t0 : Nat) : U64 := if x.at_ + 2 ≤ t0 then x.new else x.old

/-- The new state of an exchange register written at `t0`. -/
def xrPut (x : XrCell) (t0 : Nat) (v : U64) : XrCell := ⟨xrAt x (t0 + 1), v, t0⟩

/-- The causes of a register access (R136, R137, R243). -/
def csrCauses (e : TEnv) (c : CoreIx) (wr : Bool) (n : Nat) (v : U64) : List Nat :=
  let ro := [0x000, 0x001, 0x002, 0x003, 0x004, 0x008, 0x00B, 0x00C]
  if ro.contains n then causeIf wr 4
  else if n = 0x009 then causeIf (wr && decide (32 ≤ v.toNat)) 4
  else if n = 0x00A then causeIf (wr && decide (2 ^ 32 ≤ v.toNat)) 4
  else if 0x010 ≤ n ∧ n ≤ 0x017 then causeIf (wr && (n - 0x010) / 2 != c.val) 4
  else if 0x0C0 ≤ n ∧ n ≤ 0x0C5 then
    causeIf (c != 0) 5 ++ causeIf (wr && (n == 0x0C0 || n == 0x0C2 || ((n == 0x0C1 || n == 0x0C5) && decide (2 ^ 32 ≤ v.toNat)))) 4
  else if 0x0D0 ≤ n ∧ n ≤ 0x0D5 then
    causeIf (! e.engines || c != 3 || (wr && (n == 0x0D4 || n == 0x0D5 || ((n == 0x0D2 || n == 0x0D3) && decide (2 ^ 32 ≤ v.toNat))))) 4
  else [4]

/-- The value of a register as a read issued at `t0` sees it. -/
def csrValue (e : TEnv) (c : CoreIx) (n t0 : Nat) (t : Tile) : U64 :=
  let k := t.core c
  let f := t.frame
  if 0x010 ≤ n ∧ n ≤ 0x017 then xrAt (t.xr[(n - 0x010) % 8]'(Nat.mod_lt _ (by decide))) t0 else
  match n with
  | 0x000 => BitVec.ofNat 64 (e.x * 2 ^ 10 + e.y * 2 ^ 5 + c.val)
  | 0x001 => BitVec.ofNat 64 t0
  | 0x002 => BitVec.ofNat 64 t.stepCount
  | 0x003 => BitVec.ofNat 64 t.rerun
  | 0x004 => BitVec.ofNat 64 t.tsk.task
  | 0x008 => BitVec.ofNat 64 k.etrap
  | 0x009 => k.vflags.setWidth 64
  | 0x00A => BitVec.ofNat 64 k.cpeak
  | 0x00B => BitVec.ofNat 64 k.vextra
  | 0x00C => BitVec.ofNat 64 k.wdog
  | 0x0C0 => BitVec.ofNat 64 (fstat t0 f)
  | 0x0C1 => BitVec.ofNat 64 f.peak
  | 0x0C2 => BitVec.ofNat 64 f.ftrap
  | 0x0C3 => f.ewOut
  | 0x0C4 => f.ewScales
  | 0x0C5 => f.ewCo.setWidth 64
  | 0x0D0 => t.upd.uoBase
  | 0x0D1 => t.upd.uscales
  | 0x0D2 => BitVec.ofNat 64 t.upd.ubead
  | 0x0D3 => BitVec.ofNat 64 t.upd.upeak
  | 0x0D4 => BitVec.ofNat 64 (ueta t.upd)
  | 0x0D5 => BitVec.ofNat 64 (ustat t0 t.upd)
  | _ => 0

/-- A register write, in effect from the next cycle (R114). -/
def csrWrite (c : CoreIx) (n t0 : Nat) (v : U64) (t : Tile) : Tile :=
  if 0x010 ≤ n ∧ n ≤ 0x017 then
    { t with xr := t.xr.set ((n - 0x010) % 8) (xrPut (t.xr[(n - 0x010) % 8]'(Nat.mod_lt _ (by decide))) t0 v) (Nat.mod_lt _ (by decide)) }
  else match n with
  | 0x009 => t.updCore c (fun k => { k with vflags := v.setWidth 5 })
  | 0x00A => t.updCore c (fun k => { k with cpeak := peakWrite v })
  | 0x0C1 => t.updFrame (fun f => { f with peak := peakWrite v })
  | 0x0C3 => t.updFrame (fun f => { f with ewOut := v })
  | 0x0C4 => t.updFrame (fun f => { f with ewScales := v })
  | 0x0C5 => t.updFrame (fun f => { f with ewCo := v.setWidth 32 })
  | 0x0D0 => t.updUpd (fun u => { u with uoBase := v })
  | 0x0D1 => t.updUpd (fun u => { u with uscales := v })
  | 0x0D2 => t.updUpd (fun u => { u with ubead := v.toNat })
  | 0x0D3 => t.updUpd (fun u => { u with upeak := peakWrite v })
  | _ => t

def csrrOp (e : TEnv) (c : CoreIx) (d : Reg) (num : BitVec 12) (t : Tile) : TOut :=
  coreGo c 0x28 [] [rS d] none (fun _ => csrCauses e c false num.toNat 0)
    (fun t0 t => (updTo t0 t).upd (fun t =>
      let v := csrValue e c num.toNat t0 t
      t.updCore c (fun k => retire t0 (t0 + 1) 1 [rS d] none (k.setS d v)))) t

def csrwOp (e : TEnv) (c : CoreIx) (a : Reg) (num : BitVec 12) (t : Tile) : TOut :=
  coreGo c 0x28 [rS a] [] none (fun t => csrCauses e c true num.toNat ((t.core c).getS a))
    (fun t0 t => ((frameTo (t0 + 1) t).andThen (updTo (t0 + 1))).upd (fun t =>
      let v := (t.core c).getS a
      (csrWrite c num.toNat t0 v t).updCore c (fun k => retire t0 (t0 + 1) 1 [] none k))) t

/-! ## Waits, windows, cooperation (R127 to R133) -/

/-- PL.WAIT: the next instruction issues when the step's position reaches s[A][31:0] (R127). -/
def plWaitOp (c : CoreIx) (a : Reg) (z : BitVec 12) (t : Tile) : TOut :=
  coreGo c 0x2C [rS a] [] none (fun _ => causeIf (z != 0) 4)
    (fun t0 t => TOut.of (t.updCore c (fun k => retire t0 (max (t0 + 1) (lo32 (k.getS a))) 1 [] none k))) t

def Tile.setWin (t : Tile) (w : Fin 8) (f : Win → Win) : Tile := { t with wins := t.wins.set w (f t.wins[w]) }

/-- WIN.OPEN: offset s[A], length s[D], multiples of 64 B, within the bound, in mesh-class banks; the count is set to 0 (R128). -/
def winOpenOp (c : CoreIx) (d a : Reg) (w : Fin 8) (z : BitVec 9) (t : Tile) : TOut :=
  coreGo c 0x2C [rS a, rS d] [] none
    (fun t =>
      let off := ((t.core c).getS a).toNat
      let len := ((t.core c).getS d).toNat
      causeIf (z != 0) 4 ++ causeIf (! t.inBound off len) 2 ++ causeIf (off % 64 != 0 || len % 64 != 0) 3
        ++ causeIf (len != 0 && ! t.classOk clsMesh off len) 1)
    (fun t0 t =>
      let off := ((t.core c).getS a).toNat
      let len := ((t.core c).getS d).toNat
      TOut.of ((t.setWin w (fun x => { x with isOpen := true, off := off, len := len, count := 0, ext := 0 })).updCore c
        (retire t0 (t0 + 1) 1 [] none))) t

/-- WIN.CLOSE (R128). -/
def winCloseOp (c : CoreIx) (w : Fin 8) (z : BitVec 9) (t : Tile) : TOut :=
  coreGo c 0x2C [] [] none (fun _ => causeIf (z != 0) 4)
    (fun t0 t => TOut.of ((t.setWin w (fun x => { x with isOpen := false })).updCore c (retire t0 (t0 + 1) 1 [] none))) t

/-- The kinds of V-marked waits. -/
def wkRw : Nat := 1
def wkSend : Nat := 2
def wkRecv : Nat := 3
def wkTally : Nat := 4
def wkSens : Nat := 5
def wkLink : Nat := 6

/-- The MAJOR of a waiting instruction. -/
def wkMajor (k : Nat) : Nat := if k ≤ 3 then 0x2C else 0x2D

/-- RW.WAIT: holds until the arrival count reaches s[A][31:0]; on a closed window it completes in its minimum (R128). -/
def rwWaitOp (c : CoreIx) (d a : Reg) (w : Fin 8) (z : BitVec 9) (waited : Nat) (t : Tile) : TOut :=
  vGo c wkRw 0x2C [rS a] [rS d] (fun _ => causeIf (z != 0) 4)
    (fun t0 t =>
      let x := t.wins[w]
      if ! x.isOpen then vDone c t0 1 0 [rS d] (fun k => k.setS d (BitVec.ofNat 64 x.count)) t
      else if lo32 ((t.core c).getS a) ≤ x.count then vDone c t0 1 waited [rS d] (fun k => k.setS d (BitVec.ofNat 64 x.count)) t
      else TOut.of (vHold c wkRw t0 waited t)) t

/-- TALLY.RD: the tally count as the ring gave it; between 8 and 24 cycles (R130). -/
def tallyRdOp (c : CoreIx) (d : Reg) (z : BitVec 12) (waited : Nat) (tally : U64) (t : Tile) : TOut :=
  vGo c wkTally 0x2D [] [rS d] (fun _ => causeIf (z != 0) 4)
    (fun t0 t => vDone c t0 8 (min waited 16) [rS d] (fun k => k.setS d tally) t) t

/-- SENS.RD: the reading of sensor s[A]; between 16 and 4,096 cycles (R130). -/
def sensRdOp (c : CoreIx) (d a : Reg) (z : BitVec 12) (waited : Nat) (reading : U64 → U64) (t : Tile) : TOut :=
  vGo c wkSens 0x2D [rS a] [rS d] (fun _ => causeIf (z != 0) 4)
    (fun t0 t => vDone c t0 16 (min waited 4080) [rS d] (fun k => k.setS d (reading (k.getS a))) t) t

/-- LNK.RD: the status word of link s[A][5:0]; all ones when no answer came within the timeout (R130). -/
def lnkRdOp (c : CoreIx) (d a : Reg) (z : BitVec 12) (answered : Bool) (waited : Nat) (status : Nat → U64) (t : Tile) : TOut :=
  vGo c wkLink 0x2D [rS a] [rS d] (fun _ => causeIf (z != 0) 4)
    (fun t0 t => vDone c t0 64 waited [rS d]
      (fun k => k.setS d (if answered then status ((k.getS a).toNat % 64) else BitVec.allOnes 64)) t) t

/-- The cores of a SYNC group that hold with the same mask, when all of them do (R131). -/
def syncReady (mask : BitVec 4) (t : Tile) : Bool :=
  (List.finRange 4).all (fun (k : Fin 4) => ! mask.getLsbD k.val || (match (t.core k).run with | .sync m _ => m == mask | _ => false))

/-- The cycle of the last SYNC of the group. -/
def syncLast (mask : BitVec 4) (t : Tile) : Nat :=
  (List.finRange 4).foldl (fun m (k : Fin 4) =>
    if mask.getLsbD k.val then (match (t.core k).run with | .sync _ s => max m s | _ => m) else m) 0

/-- Release the group: each issues its next instruction in the cycle after the last SYNC. -/
def syncRelease (mask : BitVec 4) (t : Tile) : Tile :=
  let nxt := syncLast mask t + 1
  (List.finRange 4).foldl (fun t (k : Fin 4) =>
    if mask.getLsbD k.val then t.updCore k (fun s => { s with run := .running, pc := s.pc + 1, now := nxt, wdog := 0 }) else t) t

/-- SYNC (R131). -/
def syncOp (c : CoreIx) (mask : BitVec 4) (z : BitVec 8) (t : Tile) : TOut :=
  coreGo c 0x30 [] [] none (fun _ => causeIf (z != 0 || ! mask.getLsbD c.val) 4)
    (fun t0 t =>
      let t1 := t.updCore c (fun k => { k with run := .sync mask t0 })
      TOut.of (if syncReady mask t1 then syncRelease mask t1 else t1)) t

/-- The tile arrives at the fence in the cycle after the last of its cores has issued STEP.END (R132). -/
def arriveIfEnded (t : Tile) : Tile :=
  let ends := (List.finRange 4).map (fun (k : Fin 4) => match (t.core k).run with | .ended n => some n | _ => none)
  if ends.all Option.isSome ∧ t.arrivedAt.isNone then
    { t with arrivedAt := some (ends.foldl (fun m n => max m (n.getD 0)) 0 + 1) }
  else t

/-- STEP.END (R132): c0 names the next task and the plan-fence flag and waits for the frame, c3 waits for the update engine. -/
def stepEndOp (c : CoreIx) (a : Reg) (z : BitVec 12) (t : Tile) : TOut :=
  coreGo c 0x30 [rS a] [] none
    (fun t => causeIf (z != 0 || (if c = 0 then decide (512 ≤ ((t.core c).getS a).toNat) else a != 0)) 4)
    (fun t0 t =>
      let v := ((t.core c).getS a).toNat
      let f := if c = 0 then frameFinish t0 t else if c = 3 then updFinish t0 t else (t0, TOut.of t)
      f.2.upd (fun t =>
        let t1 := t.updCore c (fun k => { k with run := .ended (max t0 (f.1 - 1)), pc := k.pc + 1, now := max (t0 + 1) f.1 })
        let t2 := if c = 0 then { t1 with next := some (v % 256, decide (256 ≤ v)) } else t1
        arriveIfEnded t2)) t

/-- The watchdog ends a wait without its effect: cause 0x09, reported as a detection with source 0x6 (R135, R271). -/
def watchdogOp (c : CoreIx) (t : Tile) : TOut :=
  let go := fun (major t0 : Nat) =>
    (((coreTrap c 9 major t0 t).upd (fun t => (t.integrity 6 0 0 0 (t0 + 2 ^ 24)).stop (t0 + 2 ^ 24))).bump (ck 0x9120 3) 1)
  match (t.core c).run with
  | .waiting k t0 => if t.halted then TOut.of t else go (wkMajor k) t0
  | .sync _ t0 => if t.halted then TOut.of t else go 0x30 t0
  | _ => TOut.of t

/-! ## Frame instructions of a core (R76, R126) -/

/-- The frame traps: FTRAP, the counters of its cause, and ETRAP of the issuing core with cause 0x0F (R101, R102, R126). -/
def frameTrap (c : CoreIx) (fop cause t0 : Nat) (t : Tile) : TOut :=
  let t1 := t.updFrame (fun f => { f with ftrap := t0 % 2 ^ 32 * 2 ^ 32 + fop * 2 ^ 12 + cause })
  ((coreTrap c 0x0F 0x3A t0 t1).bump (ck 0x9100 7) (if cause = 6 then 1 else 0)).bump (ck 0x9110 2) (if cause = 7 then 1 else 0)

/-- A frame instruction: only c0 issues it; it traps, or is held under R90 and enters its slots (R76, R90, R102). -/
def frameInsn (c : CoreIx) (fop : Nat) (sa sb : Reg) (opt : BitVec 12) (t : Tile) : TOut :=
  coreGo c 0x3A [rS sa, rS sb] [] none noCause
    (fun t0 t =>
      let i : FrameIn := ⟨fop, opt, sa, sb, (t.core c).getS sa, (t.core c).getS sb⟩
      if c ≠ 0 then frameTrap c fop 5 t0 t
      else
        let cause := frameCause t i
        if cause ≠ 0 then frameTrap c fop cause t0 t
        else if fop = 7 then
          let r := frameFinish t0 t
          r.2.upd (fun t => t.updCore c (retire t0 (max (t0 + 1) r.1) 1 [] none))
        else if fop = 5 ∨ fop = 6 then
          (frameCommit i t0 t).upd (fun t => t.updCore c (retire t0 (t0 + 1) 1 [] none))
        else
          let h := frameHold holdFuel t0 i t
          h.2.andThen (fun t => if ! mayIssue t h.1 then TOut.of t else (frameCommit i h.1 t).upd (fun t => t.updCore c (retire h.1 (h.1 + 1) 1 [] none)))) t

/-- Is a word reserved as an instruction: its MAJOR, or its operation within a class (R75, R111, R116, R242). -/
def reservedWord (w : U32) : Bool :=
  let m := fieldN w.toNat 26 6
  let func := fieldN w.toNat 0 11
  let sub := fieldN w.toNat 12 4
  let fop := fieldN w.toNat 22 4
  if m = 0x01 then ! (decide (func ≤ 0x00D) || [0x010, 0x011, 0x012, 0x018, 0x019, 0x01A, 0x01B, 0x020, 0x021, 0x022, 0x030].contains func)
  else if 0x02 ≤ m ∧ m ≤ 0x15 then m == 0x06 && fieldN w.toNat 6 2 == 3
  else if 0x18 ≤ m ∧ m ≤ 0x1F then false
  else if m = 0x20 then ! (decide (func ≤ 0x009) || [0x010, 0x011, 0x012, 0x013, 0x018, 0x019, 0x020, 0x028].contains func)
  else if m = 0x21 then ! (decide (fieldN w.toNat 0 5 ≤ 5) || (decide (8 ≤ fieldN w.toNat 0 5) && decide (fieldN w.toNat 0 5 ≤ 11)))
  else if m = 0x22 then false
  else if m = 0x28 then decide (2 ≤ sub)
  else if m = 0x2C then decide (6 ≤ sub)
  else if m = 0x2D then decide (3 ≤ sub)
  else if m = 0x30 then decide (2 ≤ sub)
  else if m = 0x3A then decide (8 ≤ fop) || (fop == 3 && decide (8 ≤ fieldN w.toNat 8 4))
  else if m = 0x3B then decide (3 ≤ fop)
  else true

/-- A core issues a reserved word and traps as an absent unit; a reserved FOP or EOP traps in the frame (R76, R86, R111, R137). A word that is
not reserved is not this event, and nothing happens. -/
def reservedOp (c : CoreIx) (w : U32) (t : Tile) : TOut :=
  let m := fieldN w.toNat 26 6
  if ! reservedWord w then TOut.of t
  else if m = 0x3A then
    coreGo c 0x3A [] [] none noCause (fun t0 t => frameTrap c (fieldN w.toNat 22 4) (if c = 0 then 4 else 5) t0 t) t
  else coreGo c m [] [] none (fun _ => [4]) (fun _ t => TOut.of t) t

end Sys2Proof.Machine
end

