-- ==== Sys2Proof/Machine/Router.lean ====
section
/-! DEFINITION. The router and the service agent of a tile (R167 to R191): slot-table entries, combining in flight, service packets,
the request ledger, completions and the drop paths. -/

namespace Sys2Proof.Machine

/-! ## Slot table (R170, R171) -/

/-- A decoded slot-table entry. -/
structure SlotEnt where
  start : Nat
  count : Nat
  stride : Nat
  out : Nat
  ina : Nat
  inb : Nat
  op : Nat
  loff : Nat
  deriving DecidableEq, Repr

def slotEnt (w : Nat) : SlotEnt :=
  ⟨fieldN w 44 20, fieldN w 32 12, fieldN w 28 4, fieldN w 25 3, fieldN w 22 3, fieldN w 19 3, fieldN w 16 3, fieldN w 0 16⟩

/-- The output cycle of flit k (R170). -/
def SlotEnt.outCy (e : SlotEnt) (k : Nat) : Nat := e.start + k * (e.stride + 1)

/-- X of R171: the cycles from present to output. -/
def SlotEnt.delay (e : SlotEnt) : Nat := if e.op = 0 then 0 else if e.op ≤ 2 then 2 else 1

/-- A router event: the record keeps the first of a step (R191); causes 0x01 and 0x02 stop the tile as a trap does, 0x03 to 0x07 as a
detection. -/
def routerFault (cause entry port cy : Nat) (t : Tile) : Tile :=
  let rec_ := cy % 2 ^ 32 * 2 ^ 32 + entry * 2 ^ 22 + port * 2 ^ 19 + cause
  let t1 := { t with router := { t.router with fault := if t.router.fault = 0 then rec_ else t.router.fault } }
  if cause = 1 ∨ cause = 2 then { t1 with trapped := true }.stop cy
  else if cause = 8 then t1
  else { t1 with detected := true, dets := t1.dets ++ [(2, cause, port)] }.stop cy

def Tile.updRouter (t : Tile) (f : RouterSt → RouterSt) : Tile := { t with router := f t.router }

/-- The flit present on a neighbour input in a cycle. -/
def flitAt (t : Tile) (port cy : Nat) : Option PlanFlit := t.router.flits.find? (fun f => f.port == port && f.cyc == cy)

/-- What an input of an entry gives: a line with its poison, nothing (missing), or a refused local access. -/
inductive SlotIn where
  | line (v : V512) (poison : Bool)
  | missing
  | refused (cause : Nat)
  deriving DecidableEq, Repr

/-- The agent of a router read by the class of the bank (R155). -/
def routerAgent (cls : Nat) : Nat := if cls = clsMesh then agRouterMesh else agRouterCopy

/-- The cause of a slot access to a task offset; 0 when it is allowed (R145, R149, R191). -/
def slotAccessCause (t : Tile) (o : Nat) : Nat :=
  if ! t.inBound o 64 then 2
  else
    let cls := t.bankClass (bankOf (t.tsk.base + o))
    if cls = clsMesh ∨ cls = clsCopy then 0 else 1

/-- A slot access to a copy/update bank goes before the update engine (R146). -/
def slotUses (p cy : Nat) (t : Tile) : Tile :=
  if t.bankClass (bankOf p) = clsCopy then t.updUpd (fun u => { u with slotUse := u.slotUse ++ [(cy, bankOf p)] }) else t

/-- Take one input of an entry (R171, R174, R191): a local line is read in the cycle before it is present. -/
def slotInput (entry port present off : Nat) (t : Tile) : SlotIn × TOut :=
  if port = 4 then
    let cause := slotAccessCause t off
    if cause ≠ 0 then (.refused cause, TOut.of (routerFault cause entry 4 (present - 1) t))
    else
      let p := t.tsk.base + off
      let o := updTo (present - 1) (slotUses p (present - 1) t)
      let ag := routerAgent (t.bankClass (bankOf p))
      (.line (o.tile.line p) false, (o.andThen (spCheck ag (lineAddr p) 64 (present - 1))).andThen (wpCheck 2 false (lineAddr p) 64 (present - 1)))
  else
    match flitAt t port present with
    | some f =>
      if f.hopBad then
        (.line f.data true, (TOut.of (routerFault 6 entry port present t)).bump (ck 0x9140 6) 1)
      else (.line f.data f.poison, TOut.of t)
    | none => (.missing, (TOut.of (routerFault 4 entry port present t)).bump (ck 0x9140 7) 1)

/-! ## Combining in flight (R175 to R178) -/

/-- One record of two partial blocks added (R175). -/
def addRecord (residue : Bool) (a b : List Byte) : List Byte × Bool :=
  let x := recordAcc a
  let y := recordAcc b
  let sum := x.pat + y.pat
  let carry := sum / 2 ^ 160
  let r := if residue then (x.resid + y.resid + 255 - carry) % 255 else 0
  let cnt := min (natOfLE ((a.drop 24).take 4) % 2 ^ 25 + natOfLE ((b.drop 24).take 4) % 2 ^ 25) (2 ^ 25 - 1)
  let o : Acc := ⟨sum % 2 ^ 160, x.poison || y.poison, r⟩
  (leOfNat 20 o.pat ++ [if o.poison then 1 else 0, BitVec.ofNat 8 r, 0, 0] ++ leOfNat 4 cnt ++ [0, 0, 0, 0], o.checkGood)

/-- One line of ADD160: the output line, the row mask, and the number of failing records of occupied rows (R175, R176). -/
def add160Line (residue : Bool) (k mask : Nat) (a b : V512) : V512 × Nat × Nat :=
  let m := k % 513
  if m = 0 then (a, fieldN a.toNat 64 32, 0)
  else
    let rec1 := fun (q : Nat) =>
      let n := 2 * (m - 1) + q
      if (mask >>> (n / 32)) % 2 = 1 then
        addRecord residue (((lineBytes a).drop (32 * q)).take 32) (((lineBytes b).drop (32 * q)).take 32)
      else (List.replicate 32 0, true)
    let r0 := rec1 0
    let r1 := rec1 1
    (bytesLine (r0.1 ++ r1.1), mask, (if r0.2 then 0 else 1) + (if r1.2 then 0 else 1))

/-- MAX32 and SUM64 on lanes of a line (R177). -/
def lanes2 (w : Nat) (f : Nat → Nat → Nat) (a b : V512) : V512 :=
  ofLanes w ((upTo (512 / w)).map (fun i => f (laneOf w a i) (laneOf w b i) % 2 ^ w))

/-- What a flit placed on an output carries to State level: port, output cycle, line, poison. -/
structure FlitOut where
  port : Nat
  cy : Nat
  data : V512
  poison : Bool
  deriving DecidableEq, Repr

/-- The result of an entry's step: the tile and the flit that leaves through a port other than local. -/
structure SlotOut where
  out : TOut
  flit : Option FlitOut

/-- Land a plan line in the tile (R171, R180, R268); class and bound were checked. -/
def landPlan (p cy : Nat) (v : V512) (poison : Bool) (t : Tile) : TOut :=
  ((updTo cy (slotUses p cy t)).upd (spLand true poison p v)).andThen (fun t =>
    ((wpCheck 2 true (lineAddr p) 64 cy t).bump (ck 0x9140 9) (if poison then 1 else 0)))

/-- Place the line of flit k: into the bank when OUT is local, else on the output (R171, R188). -/
def slotPlace (entry : Nat) (e : SlotEnt) (k : Nat) (v : V512) (poison : Bool) (t : Tile) : SlotOut :=
  let u := e.outCy k
  let adv := fun (t : Tile) => t.updRouter (fun r => { r with next := SMap.put 0 r.next entry (k + 1) })
  if e.out = 4 then
    let off := 64 * (e.loff + k)
    let cause := slotAccessCause t off
    if cause ≠ 0 then ⟨TOut.of (adv (routerFault cause entry 4 u t)), none⟩
    else ⟨(landPlan (t.tsk.base + off) u v poison t).upd adv, none⟩
  else ⟨TOut.of (adv (t.updRouter (fun r => { r with placed := SMap.put 0 r.placed e.out (SMap.get 0 r.placed e.out + 1) }))),
        some ⟨e.out, u, v, poison⟩⟩

/-- The next flit of an entry whose OP is `op` (R170 to R178). An entry outside the running step's range, finished, or of another OP
does nothing; a tile whose job is halted does nothing (R468). A parity error in the entry read places nothing more of it (R191). -/
def slotStep (op entry : Nat) (entryBad : Bool) (t : Tile) : SlotOut :=
  let r := t.router
  let e := slotEnt (SMap.get 0 r.slots entry)
  let k := SMap.get 0 r.next entry
  if t.halted || haltBars t.haltCy (e.outCy k) || ! (decide (r.first ≤ entry) && decide (entry < r.first + r.count)) || e.op != op || decide (e.count < k) then ⟨TOut.of t, none⟩
  else if entryBad then
    ⟨TOut.of ((routerFault 5 entry 0 (e.outCy k) t).updRouter (fun r => { r with next := SMap.put 0 r.next entry (e.count + 1) })), none⟩
  else
    let u := e.outCy k
    let present := u - e.delay
    let off := 64 * (e.loff + k)
    let a := slotInput entry e.ina present off t
    let b := if op = 0 then (SlotIn.missing, a.2) else
      let q := slotInput entry e.inb present off a.2.tile
      (q.1, ⟨q.2.tile, a.2.bumps ++ q.2.bumps, a.2.hits ++ q.2.hits⟩)
    let fin := fun (v : V512) (p : Bool) (o : TOut) =>
      let s := slotPlace entry e k v p o.tile
      (⟨⟨s.out.tile, o.bumps ++ s.out.bumps, o.hits ++ s.out.hits⟩, s.flit⟩ : SlotOut)
    match a.1, b.1 with
    | .refused _, _ => ⟨b.2.upd (fun t => t.updRouter (fun r => { r with next := SMap.put 0 r.next entry (k + 1) })), none⟩
    | _, .refused _ => ⟨b.2.upd (fun t => t.updRouter (fun r => { r with next := SMap.put 0 r.next entry (k + 1) })), none⟩
    | .missing, .missing => fin 0 true b.2
    | .line v _, .missing => if op = 0 then fin v (match a.1 with | .line _ p => p | _ => true) b.2 else fin v true b.2
    | .missing, .line v _ => fin v true b.2
    | .line va pa, .line vb pb =>
      if op = 1 ∨ op = 2 then
        let x := add160Line t.residue k (SMap.get 0 r.mask entry) va vb
        let o := b.2.upd (fun t => t.updRouter (fun r => { r with mask := SMap.put 0 r.mask entry x.2.1 }))
        let o := if op = 2 ∧ t.residue = true ∧ x.2.2 ≠ 0 then
            (o.upd (routerFault 7 entry e.out u)).bump (ck 0x9100 9) x.2.2 else o
        fin x.1 (pa || pb) o
      else if op = 3 then fin (lanes2 32 max va vb) (pa || pb) b.2
      else fin (lanes2 64 (· + ·) va vb) (pa || pb) b.2

/-- Does an entry of the running range take input `port` in cycle `cy` (R174). -/
def takesInput (t : Tile) (port cy : Nat) : Bool :=
  (upTo t.router.count).any (fun i =>
    let e := slotEnt (SMap.get 0 t.router.slots (t.router.first + i))
    (e.ina == port || (e.op != 0 && e.inb == port)) && (upTo (e.count + 1)).any (fun k => e.outCy k - e.delay == cy))

/-- A plan flit that no entry takes is discarded and recorded (R174, R191). A flit that no neighbour placed counts as arrived all the same. -/
def unscheduled (port cy : Nat) (t : Tile) : TOut :=
  if t.job.isNone || takesInput t port cy then TOut.of t
  else
    let known := (flitAt t port cy).isSome
    (TOut.of (routerFault 3 0 port cy (t.updRouter (fun r =>
      { r with flits := r.flits.filter (fun f => ! (f.port == port && f.cyc == cy))
               arrived := if known then r.arrived else SMap.put 0 r.arrived port (SMap.get 0 r.arrived port + 1) })))).bump (ck 0x9140 7) 1

/-! ## Service packets (R180 to R182) -/

def hdrOf (v : V512) : Nat := v.toNat % 2 ^ 64
def hType (h : Nat) : Nat := fieldN h 60 4
def hDkind (h : Nat) : Nat := fieldN h 58 2
def hDx (h : Nat) : Nat := fieldN h 52 6
def hDy (h : Nat) : Nat := fieldN h 47 5
def hDcore (h : Nat) : CoreIx := ⟨fieldN h 45 2 % 4, Nat.mod_lt _ (by decide)⟩
def hSx (h : Nat) : Nat := fieldN h 39 6
def hSy (h : Nat) : Nat := fieldN h 34 5
def hScore (h : Nat) : Nat := fieldN h 32 2
def hDev (h : Nat) : Nat := fieldN h 20 12
def hSeq (h : Nat) : Nat := fieldN h 10 10
def hTag (h : Nat) : Nat := fieldN h 8 2

/-- HCHK of the header bytes b1 to b7 (R181). -/
def hchk (h : Nat) : Nat := ((upTo 7).map (fun i => (i + 1) * fieldN h (8 * (i + 1)) 8)).foldl (· + ·) 0 % 255

def hdrGood (h : Nat) : Bool := hchk h == h % 256

/-- A header with its check filled in. -/
def withChk (h : Nat) : Nat := h / 256 * 256 + hchk h

/-- The line with another header. -/
def setHdr (v : V512) (h : Nat) : V512 := BitVec.ofNat 512 (v.toNat / 2 ^ 64 * 2 ^ 64 + h % 2 ^ 64)

def payByte (v : V512) (i : Nat) : Nat := fieldN v.toNat (8 * i) 8

/-- n − 1 of an RWRITE header, bits [5:0] of byte 9 (R182). -/
def rwLines (v : V512) : Nat := payByte v 9 % 64 + 1

/-- Completion statuses (R185). -/
def stDone : Nat := 0x0000
def stDonePoisoned : Nat := 0x0951
def stWindowClosed : Nat := 0x0952
def stOutsideWindow : Nat := 0x0953
def stBusy : Nat := 0x0954
def stNoDestination : Nat := 0x0955
def stLinkDown : Nat := 0x0956
def stJobEnded : Nat := 0x0957
def stTimeout : Nat := 0x0958

/-- The COMPL line that answers a request: it goes back to the source, and to the source's device when the request came through a
link switch (R182, R184, R185). -/
def complLine (e : TEnv) (req : V512) (status lines : Nat) : SvLine :=
  let h := hdrOf req
  let fromLink := hDkind h = 2
  let hh := 3 * 2 ^ 60 + (if fromLink then 2 else 0) * 2 ^ 58 + hSx h * 2 ^ 52 + hSy h * 2 ^ 47 + hScore h * 2 ^ 45
    + e.x * 2 ^ 39 + e.y * 2 ^ 34 + hDev h * 2 ^ 20 + hSeq h * 2 ^ 10 + hTag h * 2 ^ 8
  let pay := status % 65536 + lines % 65536 * 65536
  ⟨BitVec.ofNat 512 (withChk hh + pay * 2 ^ 64), true, false, false⟩

/-- Queue lines at a local input of the router: channel 0 request, 1 response. -/
def injectLines (ch : Nat) (ls : List SvLine) (t : Tile) : Tile :=
  t.updRouter (fun r => { r with ins := SMap.put [] r.ins (8 + ch) (SMap.get [] r.ins (8 + ch) ++ ls) })

/-- Send a completion. -/
def sendCompl (e : TEnv) (req : V512) (status lines : Nat) (t : Tile) : Tile := injectLines 1 [complLine e req status lines] t

def Tile.sv (t : Tile) (c : CoreIx) : SvCore := t.router.sv[c]
def Tile.setSv (t : Tile) (c : CoreIx) (s : SvCore) : Tile := t.updRouter (fun r => { r with sv := r.sv.set c s })

/-- Queue entries of a core that are neither full nor reserved (R184). -/
def freeEntries (s : SvCore) : List Nat :=
  (upTo 4).filter (fun i => ! s.queue.any (fun q => q.1 == i) && ! s.reqs.any (fun q => q.tag == i))

/-- Does the header name a reachable destination and a legal packet (R182): MSG or RWRITE, DKIND not 11, within the grid. -/
def sendable (e : TEnv) (h : Nat) : Bool :=
  (hType h == 1 || hType h == 2) && hDkind h != 3 && (hDkind h != 0 || (decide (hDx h < 48) && decide (hDy h < e.rows)))

/-- The offsets of the lines that SV.SEND reads: the header line, and the data lines of an RWRITE (R182). -/
def sendOffsets (k : CoreSt) (t : Tile) (a : Reg) : List Nat :=
  let o := (k.getS a).toNat
  let v := t.line (t.tsk.base + o)
  o :: (if hType (hdrOf v) = 2 then (upTo (rwLines v)).map (fun i => o + 64 * (i + 1)) else [])

/-- The conditions of R137 for SV.SEND: its written-0 bits, and the data access of every line that it reads. -/
def sendCauses (c : CoreIx) (a : Reg) (z : BitVec 12) (t : Tile) : List Nat :=
  causeIf (z != 0) 4 ++ (sendOffsets (t.core c) t a).flatMap (fun o => dataCauses c o 64 t)

/-- The packet as it leaves: the header's source, sequence number, tag and check are filled in (R182). -/
def sendPacket (e : TEnv) (c : CoreIx) (h0 seq tag : Nat) (lines : List V512) : List SvLine :=
  let src := e.x * 2 ^ 39 + e.y * 2 ^ 34 + c.val * 2 ^ 32
  let h := h0 / 2 ^ 45 * 2 ^ 45 + src + hDev h0 * 2 ^ 20 + seq * 2 ^ 10 + tag * 2 ^ 8
  let mk := fun (il : Nat × V512) =>
    (⟨if il.1 = 0 then setHdr il.2 (withChk h) else il.2, decide (il.1 + 1 = lines.length), false, false⟩ : SvLine)
  (List.zip (upTo lines.length) lines).map mk

/-- The core reads the lines at these offsets, one in each cycle. -/
def sendReads (t0 : Nat) (offs : List Nat) (t : Tile) : TOut :=
  (List.zip (upTo offs.length) offs).foldl (fun o io => o.andThen (dataRead (t.tsk.base + io.2) 64 (t0 + 2 + io.1))) (TOut.of t)

/-- SV.SEND takes the entry `tag` and sends its packet. -/
def sendTake (e : TEnv) (c : CoreIx) (d a : Reg) (waited tag t0 : Nat) (t : Tile) : TOut :=
  let s := t.sv c
  let offs := sendOffsets (t.core c) t a
  let pkt := sendPacket e c (hdrOf (t.line (t.tsk.base + ((t.core c).getS a).toNat))) s.nextSeq tag (offs.map (fun o => t.line (t.tsk.base + o)))
  let t1 := (injectLines 0 pkt t).setSv c { s with reqs := s.reqs ++ [⟨tag, s.nextSeq⟩], nextSeq := (s.nextSeq + 1) % 1024 }
  (sendReads t0 offs t1).andThen (vDone c t0 2 waited [rS d] (fun k => k.setS d 0))

/-- SV.SEND in its issue cycle: a header that names no reachable destination leaves 1 (R182); without a free entry, a fifth request or room at
the router it holds (R184). -/
def sendBody (e : TEnv) (c : CoreIx) (d a : Reg) (waited t0 : Nat) (t : Tile) : TOut :=
  let p := t.tsk.base + ((t.core c).getS a).toNat
  if ! sendable e (hdrOf (t.line p)) then (dataRead p 64 (t0 + 2) t).andThen (vDone c t0 2 0 [rS d] (fun k => k.setS d 1))
  else
    match freeEntries (t.sv c) with
    | [] => TOut.of (vHold c wkSend t0 waited t)
    | tag :: _ =>
      if 4 ≤ (t.sv c).reqs.length ∨ 4 ≤ (SMap.get ([] : List SvLine) t.router.ins 8).length then TOut.of (vHold c wkSend t0 waited t)
      else sendTake e c d a waited tag t0 t

/-- SV.SEND (R129, R182, R184): held until a request may be outstanding, a queue entry can be reserved and the router takes the
line; then the header's source, sequence number, tag and check are filled in and every line of the packet is sent. -/
def svSendOp (e : TEnv) (c : CoreIx) (d a : Reg) (z : BitVec 12) (waited : Nat) (t : Tile) : TOut :=
  vGo c wkSend 0x2C [rS a] [rS d] (sendCauses c a z) (sendBody e c d a waited) t

/-- The conditions of R137 for SV.RECV. -/
def recvCauses (c : CoreIx) (a : Reg) (z : BitVec 12) (t : Tile) : List Nat :=
  causeIf (z != 0) 4 ++ dataCauses c ((t.core c).getS a).toNat 64 t

/-- SV.RECV in its issue cycle. -/
def recvBody (c : CoreIx) (d a : Reg) (waited t0 : Nat) (t : Tile) : TOut :=
  let s := t.sv c
  let limit := lo32 ((t.core c).getS d)
  match s.queue with
  | q :: rest =>
    (dataWrite false (t.tsk.base + ((t.core c).getS a).toNat) (t0 + 2) (lineBytes q.2) (t.setSv c { s with queue := rest })).andThen
      (vDone c t0 2 waited [rS d] (fun k => k.setS d 0))
  | [] =>
    if limit ≠ 0 ∧ limit ≤ waited then (vDone c t0 2 waited [rS d] (fun k => k.setS d 1) t).bump (ck 0x9120 4) 1
    else TOut.of (vHold c wkRecv t0 waited t)

/-- SV.RECV (R129): the oldest line goes to offset s[A]; a wait limit in s[D][31:0] ends the wait with status 1. -/
def svRecvOp (c : CoreIx) (d a : Reg) (z : BitVec 12) (waited : Nat) (t : Tile) : TOut :=
  vGo c wkRecv 0x2C [rS a, rS d] [rS d] (recvCauses c a z) (recvBody c d a waited) t

/-! ## Arrivals at the service agent (R161, R184 to R187) -/

/-- A line leaves the receive buffer of a channel, and its hop credit starts back on the wire (R187, R188). -/
def popRx (ch : Nat) (t : Tile) : Tile :=
  t.updRouter (fun r =>
    let o := r.outs[(8 + ch) % 10]'(Nat.mod_lt _ (by decide))
    let r1 := { r with outs := r.outs.set ((8 + ch) % 10) { o with returning := o.returning + 1 } (Nat.mod_lt _ (by decide)) }
    if ch = 0 then { r1 with rxReq := r1.rxReq.drop 1 } else { r1 with rxRsp := r1.rxRsp.drop 1 })

/-- A MSG enters the receive queue of DCORE, or is refused (R184, R185, R187). -/
def msgArrive (e : TEnv) (t : Tile) : TOut :=
  match t.router.rxReq with
  | [] => TOut.of t
  | l :: _ =>
    let h := hdrOf l.data
    if t.router.rw.isSome ∨ hType h ≠ 1 then TOut.of t else
    let c := hDcore h
    let s := t.sv c
    let t1 := popRx 0 t
    if t.job.isNone then (TOut.of (sendCompl e l.data stJobEnded 0 t1)).bump (ck 0x9140 0x0B) 1
    else match freeEntries s with
      | i :: _ => TOut.of (sendCompl e l.data stDone 0 (t1.setSv c { s with queue := s.queue ++ [(i, l.data)] }))
      | [] => (TOut.of (sendCompl e l.data stBusy 0 t1)).bump (ck 0x9140 2) 1

/-- The check of a remote write against its window (R161): the outcome status, 0 when accepted. -/
def windowCheck (t : Tile) (v : V512) : Nat :=
  let w := t.wins[(payByte v 8 % 8)]'(Nat.mod_lt _ (by decide))
  let off := fieldN v.toNat 96 32
  if ! w.isOpen then stWindowClosed
  else if off % 64 ≠ 0 ∨ w.len < off + 64 * rwLines v then stOutsideWindow
  else 0

/-- Take the data lines of the write in progress that have arrived; accepted lines wait to land, others are discarded. -/
def rwTake (e : TEnv) : Nat → TOut → TOut
  | 0, o => o
  | n + 1, o =>
    let t := o.tile
    match t.router.rw, t.router.rxReq with
    | some w, l :: _ =>
      if decide (8 ≤ t.router.land.length) && w.keep then o else
      let done := decide (w.got + 1 = w.n) || l.last
      let t1 := popRx 0 t
      let t2 := if w.keep then
          t1.updRouter (fun r => { r with land := r.land ++ [⟨w.win, w.addr, l.data, l.poison, done, w.header, w.n⟩] })
        else t1
      let t3 := t2.updRouter (fun r => { r with rw := if done then none else some { w with got := w.got + 1, addr := w.addr + 64 } })
      let t4 := if done && ! w.keep then sendCompl e w.header w.status 0 t3 else t3
      rwTake e n { o with tile := t4 }
    | _, _ => o

/-- An RWRITE arrives: its header is checked once, and its data lines are taken as they come (R161, R187). -/
def rwArrive (e : TEnv) (t : Tile) : TOut :=
  match t.router.rw with
  | some _ => rwTake e 64 (TOut.of t)
  | none =>
    match t.router.rxReq with
    | [] => TOut.of t
    | l :: _ =>
      let h := hdrOf l.data
      if hType h ≠ 2 then TOut.of t else
      let st := windowCheck t l.data
      let w := t.wins[(payByte l.data 8 % 8)]'(Nat.mod_lt _ (by decide))
      let rw : RwIn := ⟨l.data, payByte l.data 8 % 8, t.tsk.base + w.off + fieldN l.data.toNat 96 32, rwLines l.data, 0, st == 0, st⟩
      let t1 := (popRx 0 t).updRouter (fun r => { r with rw := some rw })
      rwTake e 64 ((TOut.of t1).bump (ck 0x9140 1) (if st = 0 then 0 else 1))

/-- Is the sender of a write outside the tile's job (R162): another device, or a tile that this one cannot place in its job. -/
def fromOutside (h : Nat) : Bool := hDkind h == 2

/-- The next accepted line lands in its first free cycle (R146, R161, R180); the last one counts the write and completes it. -/
def landNext (e : TEnv) (deferred : Nat) (senderInJob : Bool) (t : Tile) : TOut :=
  match t.router.land with
  | [] => TOut.of t
  | l :: rest =>
    let t1 := t.updRouter (fun r => { r with land := rest })
    let mesh := t.bankClass (bankOf l.addr) == clsMesh
    let o := if mesh then
        ((TOut.of (spLand false l.poison l.addr l.data t1)).andThen (wpCheck 4 true l.addr 64 0)).bump (ck 0x9140 9) (if l.poison then 1 else 0)
      else (TOut.of t1).bump (ck 0x9130 3) 1
    let o := o.bump (ck 0x9130 4) deferred
    let bad := t.router.landBad || l.poison
    if ! l.last then o.upd (fun t => t.updRouter (fun r => { r with landBad := bad }))
    else o.upd (fun t =>
      let wi : Fin 8 := ⟨l.win % 8, Nat.mod_lt _ (by decide)⟩
      let outside := fromOutside (hdrOf l.header) || ! senderInJob
      let t2 := (t.updRouter (fun r => { r with landBad := false })).setWin wi (fun w =>
        { w with count := (w.count + 1) % 2 ^ 64, ext := if outside then w.ext + 1 else w.ext })
      sendCompl e l.header (if bad then stDonePoisoned else stDone) l.n t2)

/-- A COMPL reaches the agent (R184, R186, R189). In a tile of no running job it is discarded and counted as late (R187). -/
def complArrive (t : Tile) : TOut :=
  match t.router.rxRsp with
  | [] => TOut.of t
  | l :: _ =>
    let h := hdrOf l.data
    let c := hDcore h
    let s := t.sv c
    let key : SvReq := ⟨hTag h, hSeq h⟩
    let t1 := popRx 1 t
    if s.reqs.contains key && t.job.isNone then
      (TOut.of (t1.setSv c { s with reqs := s.reqs.filter (fun r => r != key) })).bump (ck 0x9140 5) 1
    else if s.reqs.contains key then
      TOut.of (t1.setSv c { s with reqs := s.reqs.filter (fun r => r != key), queue := s.queue ++ [(key.tag, l.data)] })
    else if s.ended.contains key then
      (TOut.of (t1.setSv c { s with ended := s.ended.filter (fun r => r != key) })).bump (ck 0x9140 5) 1
    else if s.reqs.any (fun r => r.tag == key.tag) then (TOut.of t1).bump (ck 0x9140 5) 1
    else TOut.of (t1.updRouter (fun r => { r with badTag := true }))

/-- A request that is still outstanding ends with TIMEOUT, made by its own agent (R186). -/
def svTimeout (e : TEnv) (c : CoreIx) (tag : Nat) (t : Tile) : TOut :=
  let s := t.sv c
  match s.reqs.find? (fun r => r.tag == tag) with
  | none => TOut.of t
  | some q =>
    let h := 3 * 2 ^ 60 + e.x * 2 ^ 52 + e.y * 2 ^ 47 + c.val * 2 ^ 45 + e.x * 2 ^ 39 + e.y * 2 ^ 34 + q.seq * 2 ^ 10 + q.tag * 2 ^ 8
    let line : V512 := BitVec.ofNat 512 (withChk h + stTimeout * 2 ^ 64)
    (TOut.of (t.setSv c { s with
        reqs := s.reqs.filter (fun r => r != q), ended := s.ended ++ [q]
        queue := if t.job.isNone then s.queue else s.queue ++ [(tag, line)] })).bump (ck 0x9140 4) 1

/-! ## Hops (R183, R187, R188) -/

/-- A line reaches an input buffer of the router (R168, R187): a failed hop check sets POISON; the first router that finds a header
check wrong discards the whole packet, returning each credit as the line leaves. The second part says whether the line took a
place in the buffer. -/
def svArrive (inp ch : Nat) (l : SvLine) (corrupt : Bool) (t : Tile) : TOut × Bool :=
  let key := inp * 2 + ch
  let st := SMap.get 0 t.router.inPkt key
  let l1 := if corrupt then { l with poison := true } else l
  let setSt := fun (n : Nat) (t : Tile) => t.updRouter (fun r => { r with inPkt := SMap.put 0 r.inPkt key n })
  let o := (TOut.of t).bump (ck 0x9140 6) (if corrupt then 1 else 0)
  if st = 2 ∨ (st = 0 ∧ hdrGood (hdrOf l.data) = false) then
    ((o.upd (setSt (if l.last then 0 else 2))).bump (ck 0x9140 3) (if st = 0 then 1 else 0), false)
  else
    (o.upd (fun t => (setSt (if l.last then 0 else 1) t).updRouter (fun r =>
      { r with ins := SMap.put [] r.ins key (SMap.get [] r.ins key ++ [l1]) })), true)

end Sys2Proof.Machine
end

