-- ==== Sys2Proof/Machine/TileFence.lean ====
section
/-! DEFINITION. A tile at its boundaries: task descriptors (R147, R148), the step's start, the fence copy and its restoration (R133, R134, R192,
R259), job start and end (R157 to R163), parking and power-off (R160, R331). -/

namespace Sys2Proof.Machine

/-! ## Task descriptors -/

def descByte (m : Mem) (n i : Nat) : Nat := (m.read (64 * n + i)).toNat
def descBase (m : Mem) (n : Nat) : Nat := natOfLE (m.readBytes (64 * n) 4)
def descBound (m : Mem) (n : Nat) : Nat := natOfLE (m.readBytes (64 * n + 4) 4)
def descEntry (m : Mem) (n c : Nat) : Nat := natOfLE (m.readBytes (64 * n + 24 + 2 * c) 2)
def descMap (m : Mem) (n : Nat) : Vector Byte 16 := Vector.ofFn (fun b => m.read (64 * n + 8 + b.val))

/-- A map byte is well formed (R147, R148). -/
def mapByteOk (v : Nat) : Bool := decide (v / 32 ≤ 4) && v % 4 == 0 && (v / 32 == clsEcmet || v / 4 % 8 == 0)

/-- Code banks of core `c` in a descriptor. -/
def codeBanks (m : Mem) (n c : Nat) : List Nat :=
  (upTo 16).filter (fun b => let v := descByte m n (8 + b); v / 32 == clsEcmet && v / 8 % 4 == c && v / 4 % 2 == 1)

/-- A descriptor is valid (R108, R147, R148). -/
def descValid (m : Mem) (n : Nat) : Bool :=
  descBase m n % 64 == 0 && descBound m n % 64 == 0 && decide (64 ≤ descBound m n)
  && decide (descBase m n + descBound m n ≤ spSize)
  && (upTo 16).all (fun b => mapByteOk (descByte m n (8 + b)))
  && (upTo 4).all (fun c => (codeBanks m n c).length == 1)
  && (upTo 32).all (fun i => descByte m n (32 + i) == 0)

def closeWindows (t : Tile) : Tile := { t with wins := t.wins.map (fun w => { w with isOpen := false }) }

/-- A valid descriptor takes effect: map, base, bound, entry points; all windows close (R133). -/
def enterTask (n : Nat) (t : Tile) : Tile :=
  let m := t.taskTab
  let t1 := closeWindows { t with tsk := ⟨n, descBase m n, descBound m n, descMap m n⟩ }
  (List.finRange 4).foldl (fun t c => t.updCore c (fun k => { k with pc := descEntry m n c.val })) t1

/-- An invalid descriptor traps c0 at the fence: STEP_CY 0, with the PC and MAJOR of the STEP.END that named the task (R133). -/
def badTaskTrap (started : Bool) (t : Tile) : TOut :=
  let k := t.core 0
  let rec_ := if started then (k.pc - 1) % 65536 * 2 ^ 16 + 0x30 * 2 ^ 10 + 4 else 4
  let t1 := { (t.setCore 0 { k with etrap := rec_ }) with trapped := true }.stop 0
  (TOut.of { t1 with cores := t1.cores.map (fun k => { k with run := .stopped }) }).bump (ck 0x9120 1) 1

/-! ## Start of a step, fence copy, rerun -/

/-- The units of the tile at cycle 0 of a step: `first` and `count` are the slot-table range (R104, R139, R192, R259). -/
def Tile.stepStart (first count : Nat) (t : Tile) : Tile :=
  { t with
    cores := t.cores.map (fun k => { k with run := .running, now := 0, ready := [], unit := [], vextra := 0, wdog := 0, etrap := 0 })
    xr := t.xr.map (fun x => ⟨x.new, x.new, 0⟩)
    frame := frameFence false t.frame
    upd := updFence t.upd
    router := { t.router with first := first, count := count, next := [], mask := [], flits := [], placed := [], arrived := [], fault := 0 }
    next := none, stopAt := none, trapped := false, detected := false, dets := [], arrivedAt := none
    dig := Vector.replicate 8 0, mirrorAcc := 0 }

/-- The fence copy (R134, R162, R259). -/
def Tile.fenceCopy (t : Tile) : Tile :=
  { t with
    cores := t.cores.map (fun k => { k with copy := some ⟨k.pc, k.s, k.v, k.vflags, k.cpeak⟩ })
    xrCopy := t.xr.map (fun x => x.new)
    wins := t.wins.map (fun w => { w with ext := 0, copyCount := w.count, copyOpen := w.isOpen, copyOff := w.off, copyLen := w.len })
    upd := { t.upd with copy := some (t.upd.uoBase, t.upd.uscales, t.upd.ubead, t.upd.upeak) } }

/-- Restore the fence copy: window counts keep the writes from outside the job (R134, R162). -/
def Tile.restoreCopy (t : Tile) : Tile :=
  { t with
    cores := t.cores.map (fun k => match k.copy with
      | some c => { k with pc := c.pc, s := c.s, v := c.v, vflags := c.vflags, cpeak := c.cpeak }
      | none => k)
    xr := t.xrCopy.map (fun x => ⟨x, x, 0⟩)
    wins := t.wins.map (fun w => { w with isOpen := w.copyOpen, off := w.copyOff, len := w.copyLen, count := w.copyCount + w.ext })
    upd := match t.upd.copy with
      | some c => { t.upd with uoBase := c.1, uscales := c.2.1, ubead := c.2.2.1, upeak := c.2.2.2 }
      | none => t.upd }

/-- A rerun of the step (R134, R192, R272). -/
def Tile.rerunStep (t : Tile) : Tile :=
  { (t.restoreCopy.stepStart t.router.first t.router.count) with rerun := t.rerun + 1 }

/-- Land every accepted line (R151 item 2). -/
def landAll (e : TEnv) : Nat → TOut → TOut
  | 0, o => o
  | n + 1, o => if o.tile.router.land.isEmpty then o else landAll e n (o.andThen (landNext e 0 true))

/-- The handover into the next step of a job (R133, R134, R151): `range` gives the slot-table range of the task. -/
def Tile.nextStep (e : TEnv) (task : Nat) (range : Nat × Nat) (t : Tile) : TOut :=
  let same := task = t.tsk.task
  let ok := descValid t.taskTab task
  let o := if same then TOut.of t else (landAll e 64 (TOut.of t)).upd (fun t => if ok then enterTask task t else closeWindows t)
  let o := o.upd (fun t => ({ (t.stepStart range.1 range.2) with rerun := 0, stepCount := t.stepCount + 1 }).fenceCopy)
  if same || ok then o else o.andThen (badTaskTrap true)

/-- Records cleared at the fence at which a step completes (R155, R265). -/
def Tile.clearStepRecords (t : Tile) : Tile := { t with spDetect := 0, integ := 0 }

/-- Records cleared by CLEAR (R104, R139, R192, R228). -/
def Tile.clearRecords (t : Tile) : Tile :=
  { t with
    cores := t.cores.map (fun k => { k with etrap := 0 })
    frame := { t.frame with ftrap := 0 }
    router := { t.router with fault := 0 }
    spDetect := 0, integ := 0 }

/-! ## Scrubs, residence (R157 to R160) -/

/-- Keep only the bytes of the banks of a mask. -/
def keepBanks (keep : Nat → Bool) (t : Tile) : Tile :=
  { t with sp := t.sp.filter (fun c => keep (bankOf c.1)), spBad := t.spBad.filter (fun a => keep (bankOf a)) }

/-- Scrub banks: zero bytes with valid parity (R159). -/
def scrubBanks (banks : List Nat) (t : Tile) : TOut :=
  (TOut.of (keepBanks (fun b => ! banks.contains b) t)).bump (ck 0x9130 5) banks.length

def Tile.setResid (t : Tile) (b : Nat) (r : Resid) : Tile := { t with resid := t.resid.setIfInBounds b r }
def Tile.residOf (t : Tile) (b : Nat) : Resid := t.resid.toList.getD b ⟨false, 0⟩

/-- Uses of a bank (R157): 0 fresh, 1 make, 2 use. -/
def useFresh : Nat := 0
def useMake : Nat := 1
def useUse : Nat := 2

def bankUse (uses : List (Nat × U32)) (b : Nat) : Nat × U32 := uses.getD b (0, 0)

/-- Residence at job start: fresh and make banks are scrubbed and not resident (R157). -/
def startResidence (uses : List (Nat × U32)) (t : Tile) : TOut :=
  let banks := (upTo 16).filter (fun b => (bankUse uses b).1 != useUse)
  (scrubBanks banks t).upd (fun t => banks.foldl (fun t b => t.setResid b ⟨false, 0⟩) t)

/-- Residence at job end (R157). -/
def endResidence (normal : Bool) (uses : List (Nat × U32)) (t : Tile) : Tile :=
  (upTo 16).foldl (fun t b =>
    let u := bankUse uses b
    if u.1 = useMake ∧ normal = true then t.setResid b ⟨true, u.2⟩
    else if u.1 = useUse then t else t.setResid b ⟨false, 0⟩) t

/-! ## Job start and end -/

/-- The service agent at a job start: empty ledgers; requests still outstanding of an earlier job end as late completions. -/
def SvCore.jobStart (s : SvCore) : SvCore := { s with queue := [], reqs := [], ended := s.ended ++ s.reqs }

/-- The tile at a job start, before the scrub and the preloads: registers are 0 (PRESUMED the reset values, log entry 15). -/
def Tile.jobStart (j : Nat) (residue mirror : Bool) (dither : Option U64) (t : Tile) : TOut :=
  let broken := t.router.broken
  let r := { t.router with sv := t.router.sv.map SvCore.jobStart, fault := 0, badTag := false, broken := false, rw := none, land := [], landBad := false }
  let r := if broken then { r with outs := Vector.replicate 10 HopOut.reset, ins := [], inPkt := [], rxReq := [], rxRsp := [] } else r
  let t1 := closeWindows { t with
    cores := t.cores.map (fun k => { CoreSt.reset with fnLoaded := k.fnLoaded, bps := k.bps })
    xr := Vector.replicate 8 ⟨0, 0, 0⟩, xrCopy := Vector.replicate 8 0
    wins := Vector.replicate 8 Win.reset
    frame := FrameSt.reset, upd := UpdSt.reset, router := r, next := none, stopAt := none, trapped := false, detected := false, dets := []
    arrivedAt := none, stepCount := 0, rerun := 0, residue := residue, mirror := mirror, dither := dither, spDetect := 0, integ := 0
    dig := Vector.replicate 8 0, mirrorAcc := 0, halted := false, haltCy := none, job := some j }
  (TOut.of t1).bump (ck 0x9140 0x0D) (if broken then 1 else 0)

/-- Cycle 0 of the first step: the first task takes effect, and the fence copy is taken (R133, R134). -/
def Tile.firstStep (task : Nat) (range : Nat × Nat) (t : Tile) : TOut :=
  let ok := descValid t.taskTab task
  let t1 := ((if ok then enterTask task t else { t with tsk := { t.tsk with task := task } }).stepStart range.1 range.2).fenceCopy
  if ok then TOut.of t1 else badTaskTrap false t1

/-- The tile when its job ends, stops or is killed: windows close, plan lanes place nothing more, and the queue lines of its cores are
discarded (R163, R187). -/
def Tile.jobEnd (t : Tile) : TOut :=
  let lines := t.router.sv.toList.foldl (fun n s => n + s.queue.length) 0
  let r := { t.router with count := 0, flits := [], sv := t.router.sv.map (fun s => { s with queue := [] }) }
  (TOut.of (closeWindows { t with
    cores := t.cores.map (fun k => { k with run := .stopped }), router := r, halted := false, haltCy := none, job := none })).bump (ck 0x9140 0x0A) lines

/-- Every effect in flight of the frame and of the update engine takes place (R94, R102, R138, R254). -/
def Tile.settleUnits (t : Tile) : TOut :=
  (frameFinish t.frame.clk t).2.andThen (fun t => (updFinish t.upd.clk t).2)

/-! ## Parking and power -/

/-- The zone core of the tile is parked: resident banks are kept, the mesh band keeps the router (R104, R139, R160, R165, R192). -/
def Tile.park (t : Tile) : Tile :=
  let t1 := keepBanks (fun b => (t.residOf b).resident) t
  { Tile.reset with sp := t1.sp, spBad := t1.spBad, resid := t.resid, router := t.router }

/-- The zone core comes up: the banks that are not resident are scrubbed (R159, R160). -/
def Tile.powerUp (t : Tile) : TOut :=
  scrubBanks ((upTo 16).filter (fun b => ! (t.residOf b).resident)) t

/-- Router state of a tile whose zone is switched off completely: tables and ledgers are lost (R192). -/
def Tile.powerOff (_t : Tile) : Tile := Tile.reset

end Sys2Proof.Machine
end

