-- ==== Sys2Proof/Machine/MemOps.lean ====
section
/-! DEFINITION. Device memory (R197 to R199, R208), the descriptors of the copy engines (R200 to R203), and what a line of a descriptor does
(R201 to R211). -/

namespace Sys2Proof.Machine

/-! ## Addresses -/

def granuleBytes (c : Nat) : Nat := match c with | 0 => 4096 | 2 => 2097152 | _ => 65536

/-- Present stacks, rising. -/
def State.presentList (s : State) : List Nat := (upTo 16).filter (bitOf s.mem.present)

/-- Bytes of one stack: 96 GiB (R194). -/
def stackBytes : Nat := 103079215104

def State.memCapacity (s : State) : Nat := s.presentList.length * stackBytes

/-- Key of a byte of a stack. -/
def stackKey (stack loc : Nat) : Nat := stack * 2 ^ 37 + loc

/-- Stack and local address of a device memory address; none at or beyond the capacity (R197). -/
def locateIn (present : List Nat) (granule addr : Nat) : Option (Nat × Nat) :=
  let m := present.length
  let g := granuleBytes granule
  if addr < m * stackBytes then
    let gi := addr / g
    some (present.getD (gi % m) 0, gi / m * g + addr % g)
  else none

def State.locate (s : State) (addr : Nat) : Option (Nat × Nat) := locateIn s.presentList s.mem.granule addr

def State.stackSt (s : State) (m : Nat) : StackSt := s.mem.stackSts.toList.getD m StackSt.reset
def State.updStack (s : State) (m : StackIx) (f : StackSt → StackSt) : State :=
  { s with mem := { s.mem with stackSts := s.mem.stackSts.set m (f s.mem.stackSts[m]) } }

/-- A stack answers: present, and neither in self-refresh nor lost (R212, R319, R337). -/
def State.stackUsable (s : State) (m : Nat) : Bool :=
  bitOf s.mem.present m && ! (s.stackSt m).selfRefresh && ! (s.stackSt m).unusable

/-- Bytes of device memory from an address; a byte beyond the capacity reads 0. -/
def State.memBytes (s : State) (addr n : Nat) : List Byte :=
  (upTo n).map (fun i => match s.locate (addr + i) with | some p => s.mem.data.read (stackKey p.1 p.2) | none => 0)

/-- Does a range of device memory touch a line with metadata 0x5A (R208). -/
def State.memPoisoned (s : State) (addr n : Nat) : Bool :=
  (upTo ((addr + n + 63) / 64 - addr / 64)).any (fun i =>
    match s.locate ((addr / 64 + i) * 64) with | some p => s.mem.poison.contains (stackKey p.1 p.2 / 64) | none => false)

/-- One line of a stack. -/
def State.stackLine (s : State) (stack loc : Nat) : V512 := BitVec.ofNat 512 (natOfLE (s.mem.data.readBytes (stackKey stack (lineAddr loc)) 64))
def State.linePoison (s : State) (stack loc : Nat) : Bool := s.mem.poison.contains (stackKey stack loc / 64)

/-- Insert into a rising list of numbers without repeats. -/
def insNat (k : Nat) : List Nat → List Nat
  | [] => [k]
  | a :: l => if k < a then k :: a :: l else if k = a then a :: l else a :: insNat k l

/-- Write bytes within one line of a stack; a write of a whole line sets its metadata, a part of a poisoned line leaves it poisoned. -/
def State.stackWrite (s : State) (stack loc : Nat) (bs : List Byte) (poison : Bool) : State :=
  let k := stackKey stack loc / 64
  let m := s.mem
  let p := if poison then insNat k m.poison else if bs.length = 64 then m.poison.filter (fun x => x != k) else m.poison
  { s with mem := { m with data := m.data.writeBytes (stackKey stack loc) bs, poison := p } }

def State.putLine (s : State) (stack loc : Nat) (v : V512) (poison : Bool) : State :=
  s.stackWrite stack (lineAddr loc) (lineBytes v) poison

/-- Write bytes at a device memory address, line by line. -/
def State.memWriteLines : Nat → State → Nat → List Byte → Bool → State
  | 0, s, _, _, _ => s
  | n + 1, s, addr, bs, poison =>
    if bs.isEmpty then s else
    let k := 64 - addr % 64
    let s1 := match s.locate addr with
      | some p => s.stackWrite p.1 p.2 (bs.take k) poison
      | none => s
    State.memWriteLines n s1 (addr + k) (bs.drop k) poison

def State.memWrite (s : State) (addr : Nat) (bs : List Byte) (poison : Bool) : State :=
  s.memWriteLines (bs.length / 64 + 2) addr bs poison

/-! ## Descriptors (R200 to R202) -/

structure Desc where
  op : Nat
  col : Nat
  bead : Nat
  start : Nat
  count : Nat
  stride : Nat
  reqCy : Nat
  addr : Nat
  word : Nat
  addr2 : Nat
  fill : Nat
  /-- bits that are written 0 -/
  rest : Bool
  deriving DecidableEq, Repr

def opNone : Nat := 0
def opRead : Nat := 1
def opReadReq : Nat := 2
def opWrite : Nat := 3
def opMove : Nat := 4
def opFill : Nat := 5

/-- The descriptor of four words. -/
def descOf (d0 d1 d2 d3 : Nat) : Desc :=
  ⟨fieldN d0 60 4, fieldN d0 58 2, fieldN d0 56 2, fieldN d0 36 20, fieldN d0 24 12, fieldN d0 20 4, fieldN d0 0 20,
   fieldN d1 0 48, fieldN d1 48 3, fieldN d2 0 48, d3, fieldN d1 51 13 != 0 || fieldN d2 48 16 != 0⟩

def tableDesc (t : SMap Nat) (d : Nat) : Desc :=
  descOf (SMap.get 0 t (4 * d)) (SMap.get 0 t (4 * d + 1)) (SMap.get 0 t (4 * d + 2)) (SMap.get 0 t (4 * d + 3))

/-- Scheduled cycle of line k. -/
def Desc.cy (d : Desc) (k : Nat) : Nat := d.start + k * (d.stride + 1)
def Desc.lines (d : Desc) : Nat := d.count + 1

/-- Lines of a bead group: 17 or 33 (R202). -/
def Desc.groupLen (d : Desc) : Nat := if d.bead = 1 then 17 else 33

/-- Device memory address of line k from its bases (R201, R202). -/
def Desc.lineAt (d : Desc) (base side k : Nat) : Nat :=
  if d.bead = 0 then base + 64 * k
  else
    let l := d.groupLen
    let q := k / l
    let p := k % l
    if p = 0 then side + 64 * q else base + 64 * ((l - 1) * q + p - 1)

/-- ADDR2 is a static address of the descriptor (R201, R202). -/
def Desc.usesAddr2 (d : Desc) : Bool := d.op == opMove || (d.bead != 0 && d.op != opReadReq)

/-- Does the descriptor hold only what R205 allows of its fields. -/
def Desc.wellFormed (d : Desc) : Bool :=
  decide (d.op ≤ 5) && d.bead != 3 && ! d.rest
  && (if d.op = opMove ∨ d.op = opFill then d.col == 0 && d.bead == 0 else d.op == opNone || d.col != 3)
  && (d.op == opFill || d.fill == 0)
  && (if d.op = opReadReq then d.addr == 0 && d.addr2 == 0 && (d.bead == 0 || d.word % 2 == 0) else d.reqCy == 0 && d.word == 0)
  && (d.bead == 0 || d.lines % d.groupLen == 0)
  && d.addr % 64 == 0 && (! d.usesAddr2 || d.addr2 % 64 == 0)

/-- The beads of a group of staged lines, sidecar line first, with the bead format of the group (R202, R209): the number that fail. -/
def groupFails (bead : Nat) (ls : List V512) : Nat :=
  let side := lineBytes (ls.headD 0)
  let elems := (ls.drop 1).flatMap lineBytes
  let per := if bead = 1 then 32 else 64
  ((upTo 32).filter (fun i =>
    let b : Bead := ⟨(elems.drop (per * i)).take per, side.getD (2 * i) 0, side.getD (2 * i + 1) 0⟩
    ! b.checkGood)).length

end Sys2Proof.Machine
end

