-- ==== Sys2Proof/Machine/EngineOps.lean ====
section
/-! DEFINITION. The copy engines (R201 to R211): fetching, staging, departures, arrivals, the write buffer, the ledger and the fault record. -/

namespace Sys2Proof.Machine

def State.eng (s : State) (e : EngineIx) : EngSt := s.mem.engines[e]
def State.setEng (s : State) (e : EngineIx) (g : EngSt) : State := { s with mem := { s.mem with engines := s.mem.engines.set e g } }
def State.updEng (s : State) (e : EngineIx) (f : EngSt → EngSt) : State := s.setEng e (f (s.eng e))
def engIx (n : Nat) : EngineIx := ⟨n % 32, Nat.mod_lt _ (by decide)⟩

/-- Logical column of a COL of an engine (R194). -/
def engColumn (e col : Nat) : Nat := entryCol (e / 2) + 3 * (e % 2) + col
def engTop (e : Nat) : Bool := stackTop (e / 2)

/-- The edge router of a column on the engine's side, and its port towards the engine (R196). -/
def State.edgeRow (s : State) (top : Bool) : Nat := if top then s.grid.logicalRows - 1 else 0
def edgePort (top : Bool) : Nat := if top then 0 else 2

/-- Cycles between an engine's plan port and the edge router of a column (R196). -/
def State.engLatency (s : State) (e col : Nat) : Nat :=
  s.grid.hop (engColumn e col) (s.edgeRow (engTop e)) (edgePort (engTop e)) + 6

/-- The engine that a column belongs to, and its COL (R194). -/
def engineOfColumn (x : Nat) (top : Bool) : Nat × Nat :=
  let i := 2 * (x / 12) + x % 12 / 6 + (if top then 8 else 0)
  (2 * i + x % 6 / 3, x % 3)

/-- The record keeps the first event of a step; every cause is reported to the fence (R211). -/
def engFaultAt (place cause desc col cy : Nat) (g : EngSt) : EngSt :=
  { g with
    fault := if g.fault = 0 then cy % 2 ^ 32 * 2 ^ 32 + desc * 2 ^ 19 + col * 2 ^ 17 + cause else g.fault
    causes := g.causes ++ [(cause, place)] }

/-- An event when a fault record is written (R412); the record's unit is the engine (log entry 21). -/
def State.noteEngine (e : EngineIx) (s0 s1 : State) : State :=
  if (s0.eng e).fault = 0 ∧ (s1.eng e).fault ≠ 0 then s1.raise 0x07 e.val (leOfNat 8 (s1.eng e).fault) else s1

/-- A cause whose place is its descriptor. -/
def engFault (cause desc col cy : Nat) (g : EngSt) : EngSt := engFaultAt desc cause desc col cy g

/-- The DRAM page of a line, with its stack (R197). -/
def pageKey (p : Nat × Nat) : Nat := p.1 * 2 ^ 26 + p.2 / 2048

/-- A plan flit reaches an input of a router: it counts as arrived there (R188). A tile of no running job takes none (R187). -/
def State.deliverFlit (s : State) (t port cy : Nat) (v : V512) (poison hopBad : Bool) : State :=
  if (s.tile t).job.isNone then s else
  s.updTile t (fun t => t.updRouter (fun r =>
    { r with flits := r.flits ++ [⟨port, cy, v, poison, hopBad⟩], arrived := SMap.put 0 r.arrived port (SMap.get 0 r.arrived port + 1) }))

/-- A flit that the engine places on a column in cycle `u`, its HOPCHK intact or not (R191, R196). -/
def State.engPlace (s : State) (e : EngineIx) (col u : Nat) (v : V512) (poison corrupt : Bool) : State :=
  let top := engTop e.val
  s.deliverFlit (48 * s.edgeRow top + engColumn e.val col) (edgePort top) (u + s.engLatency e.val col) v poison corrupt

/-- The slot whose running step an engine serves. -/
def State.engStep (s : State) (e : EngineIx) : Option SlotIx :=
  match s.engineOwner e.val with
  | some j => if (s.job j).phase = .step ∧ (s.job j).halted = false ∧ (s.eng e).stopped = false then some j else none
  | none => none

/-- The descriptor takes part in the running step with this operation and has lines left. -/
def EngSt.due (g : EngSt) (d op : Nat) : Bool :=
  decide (g.first ≤ d) && decide (d < g.first + g.count) && (tableDesc g.table d).op == op
  && decide (SMap.get 0 g.moved d < (tableDesc g.table d).lines)

def EngSt.req (g : EngSt) (d : Nat) : Option ReqSt := g.reqs.find? (fun r => r.desc == d)

/-- The descriptor whose DRAM reads serve `d` (R206). -/
def EngSt.root (g : EngSt) (d : Nat) : Nat := match g.req d with | some r => r.mergedWith.getD d | none => d

/-- The descriptors that one DRAM read serves. -/
def EngSt.sharers (g : EngSt) (root : Nat) : List Nat :=
  root :: (g.reqs.filter (fun r => r.mergedWith == some root)).map ReqSt.desc

/-- The line of a descriptor that waits in the staging buffer for the running step. -/
def EngSt.staged (g : EngSt) (d k : Nat) : Option StagedLine := g.stage.find? (fun l => l.desc == d && l.line == k && ! l.early)

def EngSt.advance (g : EngSt) (d : Nat) : EngSt := { g with moved := SMap.put 0 g.moved d (SMap.get 0 g.moved d + 1) }

/-- A staged line that no requester needs any more leaves the buffer (R206, R210). -/
def EngSt.release (g : EngSt) (root k : Nat) : EngSt :=
  if (g.sharers root).all (fun d => decide (k < SMap.get 0 g.moved d)) && (g.staged root k).isSome then
    { g with stage := g.stage.filter (fun l => ! (l.desc == root && l.line == k && ! l.early)), nDeparted := g.nDeparted + 1 }
  else g

/-- A line that is still being fetched when it must leave is dropped when it comes; one not fetched is passed over. -/
def EngSt.passOver (g : EngSt) (root k : Nat) : EngSt :=
  match g.staged root k with
  | some _ => { g with stage := g.stage.filter (fun l => ! (l.desc == root && l.line == k && ! l.early)), nDropped := g.nDropped + 1 }
  | none => { g with fetched := SMap.put 0 g.fetched root (max (SMap.get 0 g.fetched root) (k + 1)) }

/-- The check of a bead group before its sidecar line leaves (R209): nothing when another requester had it checked already. -/
def State.checkGroup (s : State) (e : EngineIx) (d : Desc) (di k : Nat) : State :=
  let g := s.eng e
  let root := g.root di
  let done := (g.sharers root).any (fun x => x != di && decide (k < SMap.get 0 g.moved x))
  if d.bead = 0 ∨ k % d.groupLen ≠ 0 ∨ done = true then s
  else
    let ls := (upTo d.groupLen).filterMap (fun i => (g.staged root (k + i)).bind (fun l => if l.fetching then none else some l.data))
    let fails := if ls.length = d.groupLen then groupFails d.bead ls else 0
    if fails = 0 then s
    else (s.updEng e (fun g => { engFault 4 di d.col (d.cy k) g with badGroups := g.badGroups ++ [root * 65536 + k / d.groupLen] })).bump (ck 0x9150 4) fails

/-- The next line of a READ or READ_REQ leaves (R201, R203, R207, R208, R209, R211). -/
def State.departLine (s : State) (e : EngineIx) (di : Nat) (corrupt : Bool) : State :=
  let d := tableDesc (s.eng e).table di
  let k := SMap.get 0 (s.eng e).moved di
  let dead := d.op == opReadReq && (match (s.eng e).req di with | some r => r.dead | none => true)
  let unasked := d.op == opReadReq && ((s.eng e).req di).isNone
  let s := if unasked && k == 0 then s.updEng e (engFault 6 di d.col d.reqCy) else s
  if dead then (s.engPlace e d.col (d.cy k) 0 true corrupt).updEng e (fun g => g.advance di)
  else
    let s := s.checkGroup e d di k
    let g := s.eng e
    let root := g.root di
    let badGroup := d.bead != 0 && g.badGroups.contains (root * 65536 + k / d.groupLen)
    match (g.staged root k).bind (fun l => if l.fetching then none else some l) with
    | some l =>
      let note := fun (g : EngSt) => match l.unc with | some page => engFaultAt page 3 di d.col (d.cy k) g | none => g
      (s.engPlace e d.col (d.cy k) l.data (l.poison || badGroup) corrupt).updEng e (fun g => ((note g).advance di).release root k)
    | none =>
      let s1 := { (s.engPlace e d.col (d.cy k) (BitVec.ofNat 512 (Config.missingLine s.draws)) true corrupt) with draws := s.draws + 1 }
      (s1.updEng e (fun g => ((engFault 2 di d.col (d.cy k) g).advance di).passOver root k)).bump (ck 0x9150 5) 1

/-- A line as the stack gives it: each codeword has a number of symbols in error (R208). The answer is the poison of the line,
whether it is uncorrectable, and the counters. -/
def eccRead (err0 err1 : Nat) (stored : Bool) : Bool × Bool × List (Nat × Nat) :=
  let unc := (if 2 ≤ err0 then 1 else 0) + (if 2 ≤ err1 then 1 else 0)
  let cor := (if err0 = 1 then 1 else 0) + (if err1 = 1 then 1 else 0)
  let bad := decide (0 < unc)
  (bad || stored, bad,
    (if cor = 0 then [] else [(ck 0x9150 1, cor)]) ++ (if unc = 0 then [] else [(ck 0x9150 2, unc)])
      ++ (if stored && ! bad then [(ck 0x9150 3, 1)] else []))

def State.bumpAll (s : State) (l : List (Nat × Nat)) : State := l.foldl (fun s b => s.bump b.1 b.2) s

/-- The line that a LINE_FETCH of descriptor `di` reads: the next of the running step, or the next early line of the task that follows.
The parts are the line number and whether it is early. -/
def EngSt.nextFetch (g : EngSt) (di : Nat) (next : Option (Nat × Nat)) : Option (Nat × Bool) :=
  let d := tableDesc g.table di
  let inRange := decide (g.first ≤ di) && decide (di < g.first + g.count)
  let k := SMap.get 0 g.fetched di
  let live := d.op == opRead || (d.op == opReadReq && (match g.req di with | some r => ! r.dead && r.mergedWith.isNone | none => false))
  if inRange && live && decide (k < d.lines) then some (k, false)
  else match next with
    | some r =>
      let n := (g.stage.filter (fun l => l.desc == di && l.early)).length
      if d.op == opRead && decide (r.1 ≤ di) && decide (di < r.1 + r.2) && decide (n < d.lines) && decide (d.cy n < 1024) then some (n, true) else none
    | none => none

/-- The range of an engine for a task (R218). -/
def rangeOf (ranges : SMap Nat) (task : Nat) : Nat × Nat :=
  let w := SMap.get 0 ranges task
  (fieldN w 0 13, fieldN w 13 14)

/-- The range of the task that the root tile's c0 has named (R132, R210). -/
def State.nextRange (s : State) (e : EngineIx) (j : SlotIx) : Option (Nat × Nat) :=
  match (s.job j).plan with
  | some p => match (s.tile p.root).next with
    | some n => if n.1 = 255 then none else some (rangeOf (s.eng e).ranges n.1)
    | none => none
  | none => none

/-- LINE_FETCH (R203, R208): the line enters the staging buffer on its way. -/
def State.fetchLine (s : State) (e : EngineIx) (di err0 err1 : Nat) : State :=
  match s.engineOwner e.val with
  | none => s
  | some j =>
    let g := s.eng e
    let ph := (s.job j).phase
    let inStep := ph == .step && ! (s.job j).halted
    let before := ph == .starting || ph == .waitTally || (match ph with | .decided _ _ _ => true | _ => false)
    if g.stopped || ! (inStep || before) then s
    else match g.nextFetch di (s.nextRange e j) with
      | none => s
      | some (k, early) =>
        let d := tableDesc g.table di
        let r := (g.req di).getD ⟨di, d.addr, d.addr2, false, none⟩
        if before && decide (1024 ≤ d.cy k) then s else
        match s.locate (d.lineAt r.base r.side k) with
        | none => s
        | some p =>
          let o := eccRead err0 err1 (s.linePoison p.1 p.2)
          let line : StagedLine := ⟨di, k, s.stackLine p.1 p.2, o.1, if o.2.1 then some (pageKey p) else none, true, early⟩
          let s1 := s.updEng e (fun g =>
            { g with stage := g.stage ++ [line], nFetched := g.nFetched + 1, fetched := if early then g.fetched else SMap.put 0 g.fetched di (k + 1) })
          s1.bumpAll o.2.2

/-- LINE_STAGED (R204): the oldest line of the descriptor on its way is in the buffer. -/
def stageNext (di : Nat) : List StagedLine → List StagedLine
  | [] => []
  | l :: ls => if l.desc = di ∧ l.fetching = true then { l with fetching := false } :: ls else l :: stageNext di ls

/-- The flit at the plan port in a cycle. -/
def EngSt.flitAt (g : EngSt) (col cy : Nat) : Option PortFlit := g.port.find? (fun f => f.col == col && f.cyc == cy)

/-- Is a read of `n` lines from these bases valid, and does it lie in the engine's stack, in both planes (R207). -/
def State.rangeOk (s : State) (e : EngineIx) (d : Desc) (base side : Nat) : Bool :=
  let ok := fun a => decide (a % 64 = 0) && (match s.locate a with | some p => p.1 == e.val / 2 | none => false)
  decide (base % 64 = 0) && (d.bead == 0 || decide (side % 64 = 0)) && (upTo d.lines).all (fun k => ok (d.lineAt base side k))

/-- READ_REQUEST_ARRIVAL (R201, R206, R207): the request flit of a READ_REQ descriptor reaches the plan port. -/
def State.requestArrives (s : State) (e : EngineIx) (di : Nat) : State :=
  let g := s.eng e
  let d := tableDesc g.table di
  if (s.engStep e).isNone || ! g.due di opReadReq || (g.req di).isSome then s
  else
    let dead := fun (g : EngSt) => { g with reqs := g.reqs ++ [⟨di, 0, 0, true, none⟩] }
    match g.flitAt d.col d.reqCy with
    | none => s.updEng e (fun g => dead (engFault 6 di d.col d.reqCy g))
    | some f =>
      if f.hopBad then s.updEng e (fun g => dead (engFault 5 di d.col d.reqCy g))
      else if f.poison then s.updEng e dead
      else
        let word := fun i => fieldN f.data.toNat (64 * i) 64
        let base := word d.word
        let side := if d.bead = 0 then 0 else word (d.word + 1)
        if ! s.rangeOk e d base side then s.updEng e (fun g => dead (engFault 1 di d.col d.reqCy g))
        else
          let same := fun (r : ReqSt) =>
            let q := tableDesc g.table r.desc
            ! r.dead && r.mergedWith.isNone && r.base == base && r.side == side && q.reqCy / 64 == d.reqCy / 64 && q.count == d.count && q.bead == d.bead
          let root := (g.reqs.find? same).map ReqSt.desc
          (s.updEng e (fun g => { g with reqs := g.reqs ++ [⟨di, base, side, false, root⟩] })).bump (ck 0x9150 6) (if root.isSome then 1 else 0)

/-- Commit a line of device memory. -/
def State.commitLine (s : State) (e : EngineIx) (addr : Nat) (v : V512) (poison : Bool) : State :=
  let s1 := match s.locate addr with | some p => s.putLine p.1 p.2 v poison | none => s
  s1.updEng e (fun g => { g with nCommitted := g.nCommitted + 1 })

/-- The last line of a bead group has arrived: it is verified, and its lines are committed (R209). -/
def State.commitGroup (s : State) (e : EngineIx) (d : Desc) (di k : Nat) : State :=
  let g := s.eng e
  let ls := g.wbuf.filter (fun l => l.desc == di)
  let poisoned := ls.any (fun l => l.poison)
  let fails := if poisoned then 0 else groupFails d.bead (ls.map WbLine.data)
  let s1 := ls.foldl (fun s l => s.commitLine e l.addr l.data (poisoned || decide (0 < fails))) s
  let s2 := s1.updEng e (fun g =>
    let g1 := { g with wbuf := g.wbuf.filter (fun l => l.desc != di) }
    if fails = 0 then g1 else engFault 4 di d.col (d.cy k) g1)
  s2.bump (ck 0x9150 4) fails

/-- COPY_WRITE (R201, R209, R211): the next line arrives on its column and is written. -/
def State.arriveLine (s : State) (e : EngineIx) (di : Nat) : State :=
  let g := s.eng e
  let d := tableDesc g.table di
  let k := SMap.get 0 g.moved di
  let f := g.flitAt d.col (d.cy k)
  let cause := match f with | none => 6 | some f => if f.hopBad then 5 else 0
  let data : V512 := match f with | some f => f.data | none => BitVec.ofNat 512 (Config.missingLine s.draws)
  let poison := match f with | some f => f.poison || f.hopBad | none => true
  let addr := d.lineAt d.addr d.addr2 k
  let s0 := if f.isNone then { s with draws := s.draws + 1 } else s
  let s1 := s0.updEng e (fun g =>
    let g1 := { (if cause = 0 then g else engFault cause di d.col (d.cy k) g) with nArrived := g.nArrived + 1 }
    g1.advance di)
  if d.bead = 0 then s1.commitLine e addr data poison
  else
    let s2 := s1.updEng e (fun g => { g with wbuf := g.wbuf ++ [⟨di, k, addr, data, poison⟩] })
    if k % d.groupLen + 1 = d.groupLen then s2.commitGroup e d di k else s2

/-- COPY_MOVE (R201, R208, R209): the next line is read and written. -/
def State.moveLine (s : State) (e : EngineIx) (di err0 err1 : Nat) : State :=
  let d := tableDesc (s.eng e).table di
  let k := SMap.get 0 (s.eng e).moved di
  match s.locate (d.addr + 64 * k), s.locate (d.addr2 + 64 * k) with
  | some a, some b =>
    let o := eccRead err0 err1 (s.linePoison a.1 a.2)
    let s1 := (s.putLine b.1 b.2 (s.stackLine a.1 a.2) o.1).bumpAll o.2.2
    s1.updEng e (fun g => (if o.2.1 then engFaultAt (pageKey a) 3 di 0 (d.cy k) g else g).advance di)
  | _, _ => s.updEng e (fun g => g.advance di)

/-- COPY_FILL (R201): the next line takes the pattern. -/
def State.fillLine (s : State) (e : EngineIx) (di : Nat) : State :=
  let d := tableDesc (s.eng e).table di
  let k := SMap.get 0 (s.eng e).moved di
  let bytes := (upTo 8).flatMap (fun _ => leOfNat 8 d.fill)
  let s1 := match s.locate (d.addr + 64 * k) with | some p => s.putLine p.1 p.2 (bytesLine bytes) false | none => s
  s1.updEng e (fun g => g.advance di)

/-! ## Boundaries of a step (R210, R214) -/

/-- Every scheduled line of the step has left or arrived. -/
def EngSt.linesDone (g : EngSt) : Bool :=
  (upTo g.count).all (fun i =>
    let d := tableDesc g.table (g.first + i)
    d.op == opNone || decide (d.lines ≤ SMap.get 0 g.moved (g.first + i)))

/-- Early lines of a descriptor: those with c(k) < 1,024 (R203). -/
def Desc.earlyLines (d : Desc) : Nat :=
  if d.op != opRead || decide (1024 ≤ d.start) then 0 else min d.lines ((1023 - d.start) / (d.stride + 1) + 1)

/-- Every early line of a range is staged; `early` tells lines kept for the next step from those of the step about to begin. -/
def EngSt.earlyStaged (g : EngSt) (r : Nat × Nat) (early : Bool) : Bool :=
  (upTo r.2).all (fun i =>
    let di := r.1 + i
    decide ((tableDesc g.table di).earlyLines ≤ (g.stage.filter (fun l => l.desc == di && l.early == early && ! l.fetching)).length))

/-- The ledger identities of R210. -/
def EngSt.ledgerOk (g : EngSt) : Bool :=
  g.nFetched == g.nDeparted + g.nDropped + g.stage.length && g.nArrived == g.nCommitted + g.wbuf.length

/-- Flits at the plan port that no descriptor of the step takes: cause 0x06 each (R211). -/
def EngSt.unscheduled (g : EngSt) : EngSt :=
  let takes := fun (f : PortFlit) => (upTo g.count).any (fun i =>
    let d := tableDesc g.table (g.first + i)
    d.col == f.col && ((d.op == opReadReq && d.reqCy == f.cyc)
      || (d.op == opWrite && decide (d.start ≤ f.cyc) && (f.cyc - d.start) % (d.stride + 1) == 0 && decide ((f.cyc - d.start) / (d.stride + 1) < d.lines))))
  g.port.foldl (fun g f => if takes f then g else engFault 6 0 f.col f.cyc g) { g with port := g.port.filter takes }

/-- The engine at cycle 0 of a step of the task with this range: early lines become lines of the step. -/
def EngSt.nextStep (r : Nat × Nat) (g : EngSt) : EngSt :=
  let keep := (g.stage.filter (fun l => l.early)).map (fun l => { l with early := false })
  { g with
    first := r.1, count := r.2, stage := keep, moved := [], reqs := [], badGroups := [], port := [], wbuf := []
    fetched := keep.foldl (fun m l => SMap.put 0 m l.desc (SMap.get 0 m l.desc + 1)) []
    nFetched := keep.length, nDeparted := 0, nDropped := 0, nArrived := 0, nCommitted := 0, fault := 0, causes := [] }

/-- The engine at a rerun: the range restarts, staged lines are kept (R210, R214). -/
def EngSt.rerunStep (g : EngSt) : EngSt :=
  { g with
    moved := [], reqs := [], badGroups := [], port := [], wbuf := []
    fetched := (g.stage.filter (fun l => ! l.early)).foldl (fun m l => SMap.put 0 m l.desc (SMap.get 0 m l.desc + 1)) []
    nFetched := g.stage.length, nDeparted := 0, nDropped := 0, nArrived := 0, nCommitted := 0, fault := 0, causes := [] }

/-- The engine at a job start, before staging: the tables of the plan, and the range of the first task. -/
def EngSt.jobStart (table ranges : SMap Nat) (task : Nat) (_g : EngSt) : EngSt :=
  { EngSt.reset with table := table, ranges := ranges, first := (rangeOf ranges task).1, count := (rangeOf ranges task).2, stopped := false }

/-- The engine when its job stops, is killed or ends (R211): staged lines are dropped, lines of unfinished groups are committed poisoned. -/
def State.engStop (s : State) (e : EngineIx) : State :=
  let g := s.eng e
  let s1 := g.wbuf.foldl (fun s l => s.commitLine e l.addr l.data true) s
  (s1.updEng e (fun g => { g with stage := [], wbuf := [], port := [], stopped := true })).bump (ck 0x9150 7) g.stage.length

end Sys2Proof.Machine
end

