-- ==== Sys2Proof/Machine/Copy.lean ====
section
/-! DEFINITION. The commands of the copy engines and of the stacks (chapter 7). -/

namespace Sys2Proof.Machine

/-- A line of a descriptor is due in the running step of the engine's job. -/
def State.copyDue (s : State) (e : EngineIx) (di op : Nat) : Bool :=
  (match s.engStep e with
    | some j => ! haltBars (s.armedCy j) ((tableDesc (s.eng e).table di).cy (SMap.get 0 (s.eng e).moved di))
    | none => false) && (s.eng e).due di op

/-- READ (R201): the next line leaves. -/
def execCopyRead (e : EngineIx) (desc : Fin 8192) (corrupt : Bool) (s : State) : Res :=
  .next (if s.copyDue e desc.val opRead then State.noteEngine e s (s.departLine e desc.val corrupt) else s)

/-- READ_REQ (R201): the next line leaves. -/
def execCopyReadReq (e : EngineIx) (desc : Fin 8192) (corrupt : Bool) (s : State) : Res :=
  .next (if s.copyDue e desc.val opReadReq then State.noteEngine e s (s.departLine e desc.val corrupt) else s)

/-- WRITE (R201): the next line arrives. -/
def execCopyWrite (e : EngineIx) (desc : Fin 8192) (s : State) : Res :=
  .next (if s.copyDue e desc.val opWrite then State.noteEngine e s (s.arriveLine e desc.val) else s)

/-- MOVE (R201): the next line is read and written. -/
def execCopyMove (e : EngineIx) (desc : Fin 8192) (err0 err1 : Nat) (s : State) : Res :=
  .next (if s.copyDue e desc.val opMove then State.noteEngine e s (s.moveLine e desc.val err0 err1) else s)

/-- FILL (R201): the next line takes the pattern. -/
def execCopyFill (e : EngineIx) (desc : Fin 8192) (s : State) : Res :=
  .next (if s.copyDue e desc.val opFill then State.noteEngine e s (s.fillLine e desc.val) else s)

/-- A request flit reaches the engine (R207). -/
def execReadRequestArrival (e : EngineIx) (desc : Fin 8192) (s : State) : Res := .next (State.noteEngine e s (s.requestArrives e desc.val))

/-- A line is fetched from the stack (R203, R208). -/
def execLineFetch (e : EngineIx) (desc : Fin 8192) (err0 err1 : Nat) (s : State) : Res := .next (State.noteEngine e s (s.fetchLine e desc.val err0 err1))

/-- A fetched line is in the staging buffer (R204). -/
def execLineStaged (e : EngineIx) (desc : Fin 8192) (s : State) : Res :=
  .next (s.updEng e (fun g => { g with stage := stageNext desc.val g.stage }))

/-- Patrol scrub reads a line of a stack with the same correction (R208). -/
def execPatrolScrub (m : StackIx) (line : Nat) (err0 err1 : Nat) (s : State) : Res :=
  if s.stackUsable m.val = true ∧ 64 * line < stackBytes then
    .next (s.bumpAll (eccRead err0 err1 (s.linePoison m.val (64 * line))).2.2)
  else .next s

/-- Row of R213 for a temperature in °C, given the row in force: a row falls back only 3 °C below its threshold. -/
def tempRowOf (row : Nat) (t : Int) : Nat :=
  let rise := if 105 ≤ t then 3 else if 95 ≤ t then 2 else if 85 ≤ t then 1 else 0
  let stay := if t ≤ 82 then 0 else if t ≤ 92 then 1 else if t ≤ 102 then 2 else 3
  if row ≤ rise then rise else min row (max rise stay)

/-- Refresh interval in ns, and ceiling in MHz (0 none), of a row (R213). -/
def rowRefresh (row : Nat) : Nat := match row with | 0 => 3900 | 1 => 1950 | _ => 975
def rowCeiling (row : Nat) : Nat := match row with | 2 => 3000 | 3 => 1200 | _ => 0

/-- The hottest DRAM die is read (R213): on a rise the interval shortens at once when the lower frequency is in force, else later. -/
def execStackTempRead (m : StackIx) (tempC : Int) (s : State) : Res :=
  if s.stackUsable m.val = false then .next s
  else
    let k := s.stackSt m.val
    let row := tempRowOf k.tempRow tempC
    let c := rowCeiling row
    let inForce := decide (c = 0) || decide (s.clk.freq ≤ c)
    let k1 := { k with temp := tempC, tempRow := row, tempCeiling := c }
    let k2 := if row < k.tempRow ∨ rowRefresh row = k.refreshNs then { k1 with refreshNs := rowRefresh row, shortenDue := false }
      else if k.tempRow < row then (if inForce then { k1 with refreshNs := rowRefresh row, shortenDue := false } else { k1 with shortenDue := true })
      else k1
    let s1 := s.updStack m (fun _ => k2)
    .next (if k.tempRow < 3 ∧ row = 3 then s1.raise 0x06 (0x100 + m.val) (leOfNat 2 (16 * tempC % 65536).toNat) else s1)

/-- The shorter interval takes effect: the lower frequency is in force, or 20 ms have passed (R213). -/
def State.shorten (s : State) (m : StackIx) : State :=
  s.updStack m (fun k => if k.shortenDue then { k with refreshNs := rowRefresh k.tempRow, shortenDue := false } else k)

/-- REFRESH_SHORTEN (R213). -/
def execRefreshShorten (m : StackIx) (s : State) : Res := .next (s.shorten m)

/-- Lines of a range with metadata 0x5A that are read are counted (R208). -/
def State.countPoisonRead (s : State) (addr len : Nat) : State :=
  s.bump (ck 0x9150 3) ((upTo ((addr + len + 63) / 64 - addr / 64)).filter (fun i => s.memPoisoned (64 * (addr / 64 + i)) 1)).length

/-- What an engine does for the host or the manager (R215): its answer, and the memory after it. -/
def State.serveMem (s : State) (e : EngineIx) (req : MemRequest) : State :=
  match req with
  | .read addr len => (s.countPoisonRead addr len).send (.service e.val 0 (s.memPoisoned addr len) (s.memBytes addr len))
  | .write addr data poison => (s.memWrite addr data poison).send (.service e.val 0 false [])

/-- A service request reaches its engine (R215): it is served, or waits while the stack does not answer. -/
def execEngineServiceRequest (e : EngineIx) (req : MemRequest) (s : State) : Res :=
  if s.stackUsable (e.val / 2) then .next (s.serveMem e req)
  else .next { s with mem := { s.mem with service := s.mem.service ++ [(e.val, req, 0)] } }

/-- A request that an engine has not answered in 1 ms is answered 0x0575, a DICT packet by a reply (R215, R433). -/
def execEngineServiceTimeout (e : EngineIx) (s : State) : Res :=
  match s.mem.service.find? (fun q => q.1 == e.val) with
  | none => .next s
  | some q =>
    let s1 : State := { s with mem := { s.mem with service := s.mem.service.erase q } }
    let s2 := if q.2.2 = 0 then s1.send (.service e.val 0x0575 false [])
      else { s1 with host := { s1.host with dictReplies := s1.host.dictReplies ++ [(q.2.2 - 1, 0x0575, [])] } }
    .next (s2.bump (ck 0x9150 8) 1)

end Sys2Proof.Machine
end

