-- ==== Sys2Proof/Machine/PlanOps.lean ====
section
/-! DEFINITION. The plan image (R217 to R220), the fence depth (R224) and the reproducibility key (R236). -/

namespace Sys2Proof.Machine

/-- A number of `n` bytes at an offset of a byte list. -/
def leAt (bs : List Byte) (off n : Nat) : Nat := natOfLE ((bs.drop off).take n)
def zerosAt (bs : List Byte) (off n : Nat) : Bool := ((bs.drop off).take n).all (fun b => b == 0)

/-- A sparse map of numbers from a list of words. -/
def smapOfWords (ws : List Nat) : SMap Nat := (List.zip (upTo ws.length) ws).foldl (fun m p => SMap.put 0 m p.1 p.2) []
def wordsOf (n : Nat) (bs : List Byte) (count : Nat) : List Nat := (upTo count).map (fun i => leAt bs (n * i) n)
def memOfBytes (bs : List Byte) : Mem := Mem.writeBytes [] 0 bs

/-! ## The fence network (R224) -/

/-- The neighbours of a tile in a set, with the cycles of the hop from the neighbour to the tile (R169). -/
def Grid.fenceHops (g : Grid) (ts : List Nat) (t : Nat) : List (Nat × Nat) :=
  let x := t % 48
  let y := t / 48
  ((if 0 < x then [(t - 1, g.hop (x - 1) y 1)] else []) ++ (if x < 47 then [(t + 1, g.hop (x + 1) y 3)] else [])
    ++ (if 0 < y then [(t - 48, g.hop x (y - 1) 0)] else []) ++ (if y + 1 < g.logicalRows then [(t + 48, g.hop x (y + 1) 2)] else [])).filter
      (fun p => ts.contains p.1)

/-- One round of relaxation of the latencies to the root; 0 stands for no route yet, and latencies are kept plus 1. -/
def Grid.relax (g : Grid) (ts : List Nat) (d : SMap Nat) : SMap Nat :=
  ts.foldl (fun d t =>
    let a := SMap.get 0 d t
    if a = 0 then d else
    (g.fenceHops ts t).foldl (fun d p =>
      let b := SMap.get 0 d p.1
      if b = 0 ∨ a + p.2 < b then SMap.put 0 d p.1 (a + p.2) else d) d) d

def Grid.relaxN (g : Grid) (ts : List Nat) : Nat → SMap Nat → SMap Nat
  | 0, d => d
  | n + 1, d => let d1 := g.relax ts d
                if d1 = d then d else g.relaxN ts n d1

/-- Least latencies to the root within the set, plus 1; 0 where the root is not reached. -/
def Grid.fenceDist (g : Grid) (ts : List Nat) (root : Nat) : SMap Nat := g.relaxN ts ts.length [(root, 1)]

/-- The tile through which an engine joins: the edge tile of the lowest of its entry columns whose edge tile is in the set. -/
def Grid.engineJoin (g : Grid) (ts : List Nat) (e : Nat) : Option Nat :=
  ((upTo 3).map (fun c => 48 * (if engTop e then g.logicalRows - 1 else 0) + engColumn e c)).find? (fun t => ts.contains t)

/-- The tile through which the link switch of an edge joins, with the cycles to it: that of the lowest member link of its ports whose
tile is in the set (DEDUCED, log entry 17). -/
def Grid.switchJoin (g : Grid) (ts : List Nat) (grouping ports : Nat) (right : Bool) : Option (Nat × Nat) :=
  let ls := ((upTo grouping).filter (fun p => ports.testBit p)).flatMap (portLinks grouping)
  let mine := ls.filter (fun k => decide (18 ≤ k) == right)
  (mine.map (fun k => let a := g.attach k; (48 * a.1 + (if right then 47 else 0), 2 + a.2))).find? (fun p => ts.contains p.1)

/-- The fence depth D: the largest latency of any unit to the root (R224). -/
def Grid.fenceDepth (g : Grid) (ts : List Nat) (root engines grouping ports : Nat) : Nat :=
  let d := g.fenceDist ts root
  let at_ := fun t => SMap.get 0 d t - 1
  let tiles := ts.map at_
  let engs := ((upTo 32).filter (fun e => engines.testBit e)).filterMap (fun e =>
    (g.engineJoin ts e).map (fun t => at_ t + g.hop (t % 48) (t / 48) (edgePort (engTop e)) + 6))
  let sws := [false, true].filterMap (fun r => (g.switchJoin ts grouping ports r).map (fun p => at_ p.1 + p.2))
  (tiles ++ engs ++ sws).foldl max 0

/-! ## The reproducibility key (R236) -/

def keyDigest (stepping round reduction imageDigest dither : Nat) : Nat :=
  (sha512Head (leOfNat 2 stepping ++ leOfNat 1 round ++ leOfNat 1 reduction ++ leOfNat 8 imageDigest
    ++ leOfNat 8 (if round = 0 then 0 else dither) ++ [0, 0, 0, 0])).toNat

/-! ## Parsing -/

/-- Size of a tile record before its digest table and preload list. -/
def tileRecFixed : Nat := 64 + 16384 + 8192 + 1024 + 128
/-- Size of an engine record. -/
def engRecSize : Nat := 64 + 262144 + 1024

/-- One digest entry (R233). -/
def digEntOf (bs : List Byte) : DigEnt :=
  let b1 := leAt bs 1 1
  ⟨leAt bs 0 1, b1 % 4, b1 / 32, leAt bs 2 2, BitVec.ofNat 32 (leAt bs 4 4), leAt bs 8 4, leAt bs 12 4⟩

/-- Banks that a preload touches. -/
def preloadBanks (p len : Nat) : List Nat := if len = 0 then [] else (upTo ((p + len - 1) / 262144 + 1 - p / 262144)).map (p / 262144 + ·)

/-- A tile record; none when check 2 of R221 refuses it. -/
def parseTile (taskCount t : Nat) (hd body : List Byte) : Option TileRec :=
  let p := leAt hd 2 2
  let g := leAt hd 4 2
  let tasks := body.take 16384
  let slots := (body.drop 16384).take 8192
  let ranges := (body.drop 24576).take 1024
  let resid := (body.drop 25600).take 128
  let digs := (upTo g).map (fun i => (body.drop (25728 + 16 * i)).take 16)
  let pres := (upTo p).map (fun i => let b := (body.drop (25728 + 16 * (g + i))).take 16; (leAt b 0 4, leAt b 4 4, leAt b 8 8))
  let rw := wordsOf 4 ranges 256
  let uses := (upTo 16).map (fun b => (leAt resid (8 * b) 1, BitVec.ofNat 32 (leAt resid (8 * b + 4) 4)))
  let ok := leAt hd 0 1 == t % 48 && leAt hd 1 1 == t / 48 && zerosAt hd 6 58
    && zerosAt tasks (64 * taskCount) (16384 - 64 * taskCount)
    && rw.all (fun w => decide (w < 2 ^ 21) && decide (w % 1024 + w / 1024 ≤ 1024))
    && (upTo 16).all (fun b => zerosAt resid (8 * b + 1) 3)
    && uses.all (fun u => decide (u.1 ≤ 2) && ((u.1 == useFresh) == (u.2 == 0)))
    && digs.all (fun b => let b1 := leAt b 1 1; b1 % 4 != 0 && b1 / 4 % 8 == 0)
    && pres.all (fun q => q.1 % 64 == 0 && q.2.1 % 64 == 0 && decide (q.1 + q.2.1 ≤ spSize)
        && (preloadBanks q.1 q.2.1).all (fun b => (bankUse uses b).1 != useUse))
  if ok then
    some ⟨t, memOfBytes tasks, smapOfWords (wordsOf 8 slots 1024), smapOfWords rw, uses, digs.map digEntOf, pres⟩
  else none

/-- The tile records, one after another; also the offset after the last. -/
def parseTiles (rd : Nat → Nat → List Byte) (endAt taskCount : Nat) : List Nat → Nat → Option (List TileRec × Nat)
  | [], off => some ([], off)
  | t :: ts, off =>
    let hd := rd off 64
    let size := tileRecFixed + 16 * (leAt hd 2 2 + leAt hd 4 2)
    if endAt < off + size then none
    else match parseTile taskCount t hd (rd (off + 64) (size - 64)) with
      | none => none
      | some r => match parseTiles rd endAt taskCount ts (off + size) with
        | none => none
        | some q => some (r :: q.1, q.2)

/-- The engine records. -/
def parseEngines (rd : Nat → Nat → List Byte) (endAt : Nat) : List Nat → Nat → Option (List EngRec × Nat)
  | [], off => some ([], off)
  | e :: es, off =>
    let bs := rd off engRecSize
    let rw := wordsOf 4 ((bs.drop (64 + 262144)).take 1024) 256
    let ok := decide (off + engRecSize ≤ endAt) && leAt bs 0 1 == e / 2 && leAt bs 1 1 == e % 2 && zerosAt bs 2 62
      && rw.all (fun w => decide (w < 2 ^ 27) && decide (fieldN w 0 13 + fieldN w 13 14 ≤ 8192))
    if ! ok then none
    else match parseEngines rd endAt es (off + engRecSize) with
      | none => none
      | some q => some (⟨e, smapOfWords (wordsOf 8 ((bs.drop 64).take 262144) 32768), smapOfWords rw⟩ :: q.1, q.2)

/-- A tensor descriptor is well formed (R220). -/
def tensorOk (b : List Byte) : Bool :=
  let c := leAt b 8 4
  leAt b 0 4 != 0 && decide (leAt b 4 1 ≤ 2) && zerosAt b 5 3 && zerosAt b 22 2 && zerosAt b 30 2
    && (c == 0 || scaleValid (BitVec.ofNat 32 c))

def distinct (l : List Nat) : Bool := match l with | [] => true | a :: r => ! r.contains a && distinct r

/-- The plan image at an address, or none when check 2 of R221 refuses it (R217 to R220, R224). -/
def parsePlan (s : State) (addr : Nat) : Option Plan :=
  let rd := fun off n => s.memBytes (addr + off) n
  let h := rd 0 256
  let grid := s.grid
  let zones := leAt h 32 8
  let grouping := leAt h 43 1
  let ports := leAt h 48 2
  let flags := leAt h 50 1
  let n := leAt h 70 2
  let sec := fun k => leAt h (72 + 8 * k) 8
  let endAt := sec 6
  let root := 48 * leAt h 65 1 + leAt h 64 1
  let engines := leAt h 44 4
  let ts := s.zoneTiles (zones % 2 ^ 48)
  let engs := (upTo 32).filter (fun e => engines.testBit e)
  let hdrOk := addr % 64 == 0 && leAt h 0 4 == 0x4E504C31 && leAt h 4 2 == 1 && zerosAt h 6 2 && decide (zones < 2 ^ 48)
    && decide (leAt h 42 1 ≤ 2) && (grouping == 0 || grouping == 6 || grouping == 12) && decide (ports < 2 ^ grouping)
    && decide (flags < 32) && decide (leAt h 51 1 ≤ 1) && decide (leAt h 52 1 ≤ 2) && zerosAt h 53 3
    && (leAt h 51 1 != 0 || zerosAt h 56 8) && zerosAt h 69 1 && decide (1 ≤ n) && decide (n ≤ 255) && decide (leAt h 68 1 < n)
    && zerosAt h 128 128 && sec 5 == 0 && decide (addr + endAt ≤ s.memCapacity) && decide (256 ≤ sec 0)
    && decide (sec 0 + 8 * n ≤ sec 1) && decide (leAt h 64 1 < 48) && ts.contains root
  if ! hdrOk then none
  else
    let tasks := rd (sec 0) (8 * n)
    let lens := (upTo n).map (fun k => leAt tasks (8 * k) 4)
    if ! (lens.all (fun l => decide (1 ≤ l) && decide (l ≤ 2 ^ 20)) && (upTo n).all (fun k => zerosAt tasks (8 * k + 4) 4)) then none
    else match parseTiles rd endAt n ts (sec 1) with
      | none => none
      | some (tiles, endT) =>
        if sec 2 < endT then none
        else match parseEngines rd endAt engs (sec 2) with
          | none => none
          | some (ers, endE) =>
            let cnt := leAt (rd (sec 3) 8) 0 4
            let tens := (upTo cnt).map (fun i => rd (sec 3 + 8 + 32 * i) 32)
            let qn := leAt (rd (sec 4) 8) 0 4
            let qs := (upTo qn).map (fun i => rd (sec 4 + 8 + 16 * i) 16)
            let quiet := qs.map (fun b => (⟨leAt b 0 1, leAt b 1 6, leAt b 8 4, leAt b 12 4⟩ : Quiet))
            let dist := grid.fenceDist ts root
            let ok := decide (endE ≤ sec 3) && zerosAt (rd (sec 3) 8) 4 4 && decide (sec 3 + 8 + 32 * cnt ≤ sec 4)
              && tens.all tensorOk && distinct (tens.map (fun b => leAt b 0 4))
              && zerosAt (rd (sec 4) 8) 4 4 && decide (sec 4 + 8 + 16 * qn ≤ endAt)
              && qs.all (fun b => zerosAt b 7 1)
              && quiet.all (fun q => decide (q.task < n) && decide (q.zones &&& zones = q.zones) && decide (q.start + q.len ≤ lens.getD q.task 0))
              && ts.all (fun t => SMap.get 0 dist t != 0)
              && engs.all (fun e => (grid.engineJoin ts e).isSome)
              && leAt h 66 2 == grid.fenceDepth ts root engines grouping ports
            if ! ok then none
            else some
              { sourceDigest := leAt h 8 8, targetShadow := leAt h 16 8, keyDigest := leAt h 24 8, zones := zones, stackMask := leAt h 40 2
                granule := leAt h 42 1, grouping := grouping, engines := engines, ports := ports, flags := flags, round := leAt h 51 1
                reduction := leAt h 52 1, ditherKey := leAt h 56 8, root := root, fenceD := leAt h 66 2, firstTask := leAt h 68 1
                lengths := lens, tiles := tiles, engs := ers, tensors := tens, quiet := quiet }

/-! ## Flags of a plan (R217) -/

def Plan.usesUpdate (p : Plan) : Bool := p.flags.testBit 0
def Plan.residue (p : Plan) : Bool := p.flags.testBit 1
def Plan.mirror (p : Plan) : Bool := p.flags.testBit 2
def Plan.keyFree (p : Plan) : Bool := p.flags.testBit 3
def Plan.dither (p : Plan) : Option U64 := if p.round = 1 then some (BitVec.ofNat 64 p.ditherKey) else none
def Plan.tileSet (p : Plan) : List Nat := p.tiles.map TileRec.t
def Plan.engineSet (p : Plan) : List Nat := (upTo 32).filter (fun e => p.engines.testBit e)
def Plan.zoneSet (p : Plan) : List Nat := (upTo 48).filter (fun z => p.zones.testBit z)
def Plan.portSet (p : Plan) : List Nat := (upTo 12).filter (fun q => p.ports.testBit q)
/-- Length of a step; a task that the plan does not describe traps at once, and its step is taken as 1 cy (DEDUCED, log entry 18). -/
def Plan.len (p : Plan) (task : Nat) : Nat := p.lengths.getD task 1
def Plan.tileRec (p : Plan) (t : Nat) : Option TileRec := p.tiles.find? (fun r => r.t == t)
/-- The slot-table range of a task at a tile (R218). -/
def TileRec.range (r : TileRec) (task : Nat) : Nat × Nat :=
  let w := SMap.get 0 r.ranges task
  (w % 1024, w / 1024 % 2048)
/-- The edges whose link switch the plan's ports use. -/
def Plan.switchEdges (p : Plan) : List Bool :=
  [false, true].filter (fun r => (p.portSet.flatMap (portLinks p.grouping)).any (fun k => decide (18 ≤ k) == r))
/-- The units of the job's fence (R224). -/
def Plan.units (p : Plan) : List FenceUnit :=
  p.tiles.map (fun r => FenceUnit.tile ⟨r.t % 1440, Nat.mod_lt _ (by decide)⟩) ++ p.engineSet.map (fun e => FenceUnit.engine (engIx e))
    ++ p.switchEdges.map FenceUnit.linkSwitch

end Sys2Proof.Machine
end

