-- ==== Sys2Proof/Machine/PwrOps.lean ====
section
/-! DEFINITION. Zone cores and regulator groups (R316 to R334): working dies, headroom, switching on, parking, holds, and the limit in force. -/

namespace Sys2Proof.Machine

def zoneIx (z : Nat) : ZoneIx := ⟨z % 48, Nat.mod_lt _ (by decide)⟩
def groupIx (n : Nat) : GroupIx := ⟨n % 8, Nat.mod_lt _ (by decide)⟩
def regIx (d : Nat) : RegDieIx := ⟨d % 56, Nat.mod_lt _ (by decide)⟩
def State.zonePwr (s : State) (z : Nat) : ZonePwr := s.pwr.zones[zoneIx z]
def State.updZone (s : State) (z : Nat) (f : ZonePwr → ZonePwr) : State :=
  { s with pwr := { s.pwr with zones := s.pwr.zones.set (zoneIx z) (f (s.zonePwr z)) } }
def allZones : List Nat := upTo 48
def maskZones (m : Nat) : List Nat := allZones.filter (fun z => m.testBit z)
def zonesMask (l : List Nat) : Nat := l.foldl (fun m z => m ||| 2 ^ z) 0

/-- The zone grid is 12 zones wide and 4 high (R22, R295). -/
def zoneX (z : Nat) : Nat := 3 * (z / 6 % 4) + z % 3
def zoneY (z : Nat) : Nat := 2 * (z / 24) + z % 6 / 3
def zoneAt (x y : Nat) : Nat := 6 * (4 * (y / 2) + x / 3) + 3 * (y % 2) + x % 3

/-- The zones with which a zone shares a crossing (R289, R295). -/
def zoneNeighbours (z : Nat) : List Nat :=
  let x := zoneX z
  let y := zoneY z
  (if 0 < x then [zoneAt (x - 1) y] else []) ++ (if x < 11 then [zoneAt (x + 1) y] else [])
    ++ (if 0 < y then [zoneAt x (y - 1)] else []) ++ (if y < 3 then [zoneAt x (y + 1)] else [])

/-! ## Stops at a step fence -/

/-- The device asks a running job to stop at its next step fence with a status; the first request stands (R228; STOPPING while it waits is
DEDUCED, log entry 18). -/
def State.askStop (s : State) (j : SlotIx) (status : Nat) : State :=
  let b := s.job j
  if ! b.running then s
  else
    let s1 := s.updJob j (fun b => { b with stopReq := some (b.stopReq.getD status) })
    if b.state = jsRunning then s1.setJobState j jsStopping else s1

/-! ## Regulators -/

/-- REG_STATE codes (R346). -/
def rsInService : Nat := 1
def rsFailed : Nat := 2
def rsDisabled : Nat := 3
def rsFailedS0 : Nat := 4

def State.regState (s : State) (d : Nat) : Nat := s.pwr.reg[regIx d]
def State.setReg (s : State) (d st cause : Nat) : State :=
  { s with pwr := { s.pwr with reg := s.pwr.reg.set (regIx d) st, regCause := s.pwr.regCause.set (regIx d) cause } }

/-- Working dies of a group (R317). -/
def State.workingDies (s : State) (g : Nat) : Nat := ((upTo 6).filter (fun i => s.regState (6 * g + i) == rsInService)).length

/-- RATING of a group in units of 0.25 A (R317). -/
def State.rating (s : State) (g : Nat) : Nat := 720 * min (s.workingDies g) 5

/-- The headroom H of a group in units of 0.25 A, without the reserve of 8 A (R326). -/
def State.headroom (s : State) (g : Nat) : Int :=
  let zs := (upTo 6).map (fun i => s.zonePwr (6 * g + i))
  let sum := zs.foldl (fun n z => n + z.current) (s.pwr.bandCur[groupIx g])
  let meas := (s.pwr.measured[groupIx g]).foldl max 0
  let inrush := (zs.filter (fun z => (z.state == zsRamping || z.state == zsUnparking) && ! z.slow && ! z.gateClosed)).length * 120
  (s.rating g : Int) - (max meas sum : Nat) - 32 - inrush

/-- A ramp is in progress in the group (R326). -/
def State.ramping (s : State) (g : Nat) : Bool :=
  (upTo 6).any (fun i => let z := (s.zonePwr (6 * g + i)).state; z == zsRamping || z == zsUnparking)

/-! ## Holds -/

/-- HOLD codes (R325). -/
def hoFault : Nat := 1
def hoOverflow : Nat := 2
def hoRegulator : Nat := 3
def hoDomain : Nat := 4
def hoHot : Nat := 5

/-- PARK_CAUSE codes (R325). -/
def pcIdle : Nat := 1
def pcHeat : Nat := 2
def pcRequest : Nat := 3
def pcRegulator : Nat := 4
def pcHold : Nat := 5
def pcLimit : Nat := 6
def pcTest : Nat := 7

/-- The zone's group has at most four working dies (R318). -/
def State.regHeld (s : State) (z : Nat) : Bool := decide (s.workingDies (z / 6) ≤ 4)

/-- A zone that no load and no request switches on: fault-held, overflow-held, regulator-held, in FAULT or held for heat (R275, R278, R318,
R328, R329, R334). -/
def State.zoneHeld (s : State) (z : Nat) : Bool :=
  let p := s.zonePwr z
  p.hold != 0 || p.state == zsFault || s.check.faultHeld.testBit z || s.life.overflowHeld.testBit z || s.regHeld z

/-- Fault-hold a zone (R275). -/
def State.faultHold (s : State) (z : Nat) : State :=
  ({ s with check := { s.check with faultHeld := s.check.faultHeld ||| 2 ^ z } }).updZone z (fun p =>
    { p with hold := if p.hold = 0 then hoFault else p.hold })

/-! ## Parking (R328 to R331) -/

/-- Begin to park a zone core. A zone that is being switched on is parked when that ends (R328); a parked zone that is to go off goes off. -/
def State.beginPark (s : State) (z cause : Nat) (toOff : Bool) : State :=
  let p := s.zonePwr z
  if p.state = zsOn then s.updZone z (fun p => { p with state := zsParking, parkCause := cause, toOff := toOff, gateClosed := false })
  else if p.state = zsWaiting ∨ p.state = zsRamping ∨ p.state = zsUnparking then
    s.updZone z (fun p => { p with parkAfter := some cause, toOff := toOff })
  else if p.state = zsParked ∧ toOff = true then
    (s.forTiles (s.zoneTiles (2 ^ z)) (fun _ t => t.powerOff)).updZone z (fun p => { p with state := zsOff, parkCause := 0 })
  else if p.state = zsParking then s.updZone z (fun p => { p with toOff := p.toOff || toOff })
  else s

/-- Park a zone at once, a switch-on in progress included (R318, R328). -/
def State.abortPark (s : State) (z cause : Nat) : State :=
  let p := s.zonePwr z
  if p.state = zsWaiting then
    ({ s with pwr := { s.pwr with queue := s.pwr.queue.filter (fun y => y != z) } }).updZone z (fun p =>
      { p with state := if p.unpark then zsParked else zsOff, parkCause := if p.unpark then cause else 0, parkAfter := none })
  else if p.state = zsRamping ∨ p.state = zsUnparking then
    s.updZone z (fun p => { p with state := zsParking, parkCause := cause, toOff := false, gateClosed := false, parkAfter := none })
  else s.beginPark z cause false

/-- The gate is open: the zone core is parked, or off, and its tiles hold only what that state keeps (R160, R330, R331). -/
def State.parkDone (s : State) (z : Nat) : State :=
  let p := s.zonePwr z
  if p.state ≠ zsParking then s
  else
    let s1 := s.forTiles (s.zoneTiles (2 ^ z)) (fun _ t => if p.toOff then t.powerOff else t.park)
    s1.updZone z (fun p => { p with state := if p.toOff then zsOff else zsParked, parkCause := if p.toOff then 0 else p.parkCause, toOff := false })

/-! ## Switching on (R326, R327) -/

/-- Queue a switch-on; a zone that is not OFF or PARKED is left. A request made while H < 44 A waits for headroom. -/
def State.requestOn (s : State) (z : Nat) : State :=
  let p := s.zonePwr z
  if p.state = zsOff ∨ p.state = zsParked then
    (({ s with pwr := { s.pwr with queue := s.pwr.queue ++ [z] } }).updZone z (fun p =>
      { p with state := zsWaiting, unpark := p.state == zsParked, slow := false, gateClosed := false, parkAfter := none, seqWait := 0 })).bump
      (ck 0x4070 2) (if s.headroom (z / 6) < 176 then 1 else 0)
  else s

/-- The oldest waiting request of a group, ties by zone number being the order in which they were made. -/
def State.nextInGroup (s : State) (g : Nat) : Option Nat := s.pwr.queue.find? (fun z => z / 6 == g)

def State.startRamp (s : State) (z : Nat) (slow : Bool) (wait : Nat) : State :=
  ({ s with pwr := { s.pwr with queue := s.pwr.queue.filter (fun y => y != z) } }).updZone z (fun p =>
    { p with state := if p.unpark then zsUnparking else zsRamping, slow := slow, gateClosed := false, seqWait := min wait 65535 })

/-- The firmware image's tile section in a tile: function tables of the four cores (R124, R360). -/
def Tile.loadFw (sec : List Byte) (t : Tile) : Tile :=
  { t with
    fnTab := (List.zip (upTo 4096) (wordsOf 4 sec 4096)).foldl (fun m p => SMap.put 0 m p.1 (BitVec.ofNat 32 p.2)) []
    cores := t.cores.map (fun k => { k with fnLoaded := true }) }

/-- Power is good: SRAM repair, the scrub of the banks that are not resident, the reload of the cores, and ON (R327). A zone that was off
has no resident bank. A park that waited begins. -/
def State.powerGood (s : State) (z : Nat) : State :=
  let ts := s.zoneTiles (2 ^ z)
  let s1 := ts.foldl (fun s t => s.putTile t (s.tile t).powerUp) s
  let s2 := match s.boot.image with
    | some f => s1.forTiles ts (fun _ t => t.loadFw f.sec)
    | none => s1
  let p := s2.zonePwr z
  let s3 := s2.updZone z (fun p => { p with state := zsOn, parkCause := 0, gateClosed := true, parkAfter := none, unpark := false, slow := false })
  match p.parkAfter with
  | some c => s3.beginPark z c p.toOff
  | none => s3.updZone z (fun p => { p with toOff := false })

/-! ## Limits -/

/-- POWER_LIMIT_IN_FORCE (R335). -/
def State.limitInForce (s : State) : Nat :=
  let a := min s.fuses.powerLimit s.pwr.limitSet
  if s.pwr.token.member then min a s.pwr.token.held else a

/-- A zone core that no LOADED, RUNNING or STOPPING job owns (R329). -/
def State.zoneIdle (s : State) (z : Nat) : Bool := (s.zoneOwner z).isNone

/-- Zones to park at the end of a job that owned them: those that are held (R275, R278, R329). -/
def State.parkHeld (s : State) (zones : List Nat) : State :=
  zones.foldl (fun s z => if s.zoneHeld z then s.beginPark z pcHold false else s) s

/-- The temperature ceiling of a zone in MHz for a temperature in units of 0.0625 °C (R333). -/
def tempCeilOf (binMax : Nat) (t : Int) : Nat :=
  if t ≤ 1520 then binMax
  else if t ≤ 1680 then max 1200 (binMax - 200 * ((t - 1520 + 15) / 16).toNat)
  else 1200

end Sys2Proof.Machine
end

