-- ==== Sys2Proof/Machine/DefectOps.lean ====
section
/-! DEFINITION. The field-defect list and fault-held zones (R275, R277, R278). -/

namespace Sys2Proof.Machine

/-- Entry of a tile row of a tile's field (R31). -/
def rowEntryOf (g : Grid) (t : Nat) : U32 :=
  let p := g.phys t
  smEntry 1 1 (fieldOf (p % 48) (p / 48) * 16 + p / 48 % 16)

/-- Field and local row of a tile row entry; of the tile that an SRAM row or a mesh wire names. -/
def entryRow (w : U32) : Option (Nat × Nat) :=
  let l := smLoc w
  match smKind w with
  | 1 => some (fieldN l 4 3, l % 16)
  | 2 => let p := fieldN l 13 11
         some (fieldOf (p % 48) (p / 48), p / 48 % 16)
  | 3 => let p := fieldN l 13 11
         some (fieldOf (p % 48) (p / 48), p / 48 % 16)
  | _ => none

/-- A KIND 0x1 entry covers an SRAM row or a mesh wire of a tile in its row (R278). -/
def covers (row w : U32) : Bool := smKind row == 1 && (smKind w == 2 || smKind w == 3) && entryRow row == entryRow w

/-- Zones that hold a tile, bank, router or module the entry names (R275). -/
def entryZones (w : U32) : List Nat :=
  let l := smLoc w
  match smKind w with
  | 1 => (upTo 3).map (fun i => 6 * fieldN l 4 3 + 3 * (l % 16 / 8) + i)
  | 2 => let p := fieldN l 13 11
         [zoneOf (p % 48) (p / 48)]
  | 3 => let p := fieldN l 13 11
         [zoneOf (p % 48) (p / 48)]
  | 5 => if fieldN l 18 2 = 1 then
           let i := fieldN l 20 4
           [zoneOf (entryCol i + fieldN l 15 3) (if stackTop i then 31 else 0)]
         else []
  | _ => []

/-- The list without duplicates of a new entry and without what a KIND 0x1 entry, the new one included, covers (R278). -/
def compactDefects (w : U32) (l : List Defect) : List Defect :=
  let rows := w :: l.map Defect.entry
  l.filter (fun d => d.entry != w && ! rows.any (fun r => covers r d.entry))

/-- Enter a defect (R275, R278). An entry that the list holds or covers is not appended; without room its zones are held for overflow. -/
def State.enterDefect (s : State) (w : U32) (origin slot cause : Nat) : State :=
  let l := s.life.defects
  let zs := entryZones w
  if l.any (fun d => d.entry == w || covers d.entry w) then zs.foldl State.faultHold s
  else
    let l1 := compactDefects w l
    if l1.length < 1024 then
      let d : Defect := ⟨w, s.tally.now, origin, slot, cause⟩
      let s1 := { s with life := { s.life with defects := l1 ++ [d] }, boot := { s.boot with newDefect := true } }
      zs.foldl State.faultHold ((s1.bump (ck 0x9170 6) 1).raise 0x07 l1.length (leOfNat 4 w.toNat ++ leOfNat 4 s.tally.now))
    else
      let s1 := { s with life := { s.life with
        defects := l1, overflowHeld := s.life.overflowHeld ||| zonesMask zs, overflows := satAdd s.life.overflows 1 } }
      zs.foldl (fun s z => s.updZone z (fun p => { p with hold := if p.hold = 0 then hoOverflow else p.hold })) s1

/-- SRAM-row entries of a bank that are applied or pending (R273). -/
def State.sramRows (s : State) (t bank : Nat) : Nat :=
  let named := fun (w : U32) => smKind w == 2 && fieldN (smLoc w) 13 11 == s.grid.phys t && fieldN (smLoc w) 9 4 == bank
  let applied := s.grid.entries.filter named
  let pending := (s.life.defects.map Defect.entry).filter (fun w => named w && ! applied.contains w)
  applied.length + pending.length

/-- The entry for a parity detection at a line of a bank (R273). -/
def State.parityEntry (s : State) (t bank line : Nat) : U32 :=
  if 8 ≤ s.sramRows t bank then rowEntryOf s.grid t
  else smEntry 2 1 (s.grid.phys t * 2 ^ 13 + bank * 2 ^ 9 + line / 8)

end Sys2Proof.Machine
end

