-- ==== Sys2Proof/Machine/Guard.lean ====
section
/-! DEFINITION. Management writes: the answer before S9 and during a management reset (R370, R371), the write policy of the carrier (R431,
R456), and the one counter of each refusal (R432). -/

namespace Sys2Proof.Machine

/-- A start has ended: requests are served normally (R370). -/
def State.usable (s : State) : Bool := s.boot.powered && s.boot.stage == 10

/-- The boot ROM alone runs, with the recovery set (R350, R461). -/
def State.recovery (s : State) : Bool := s.boot.powered && s.boot.outcome == 3

/-- S1 has ended, so that something answers on the management ports (R369). -/
def State.listening (s : State) : Bool := s.boot.powered && decide (2 ≤ s.boot.stage)

/-- A carrier is served: in recovery only the mailbox and SMBus are (R369, R461). -/
def State.carrierOn (s : State) (car : Carrier) : Bool := s.listening && ! (s.recovery && (car == .ethernet || car == .debug))

/-- Write classes (R456). -/
def clsConfig : Nat := 0
def clsJobs : Nat := 1
def clsFirmware : Nat := 2
def clsProtect : Nat := 3
def clsDebug : Nat := 4

/-- Does the policy byte of a carrier let a class through (R456). The debug port takes no write outside FIRMWARE, PROTECT and DEBUG (R466). -/
def State.policyAllows (s : State) (car : Carrier) (cls : Nat) : Bool :=
  bitOf (s.fuses.writePolicy[(carNum car) % 4]'(Nat.mod_lt _ (by decide))) cls && ! (car == .debug && decide (cls < 2))

/-- The sub-indices of PROTOCOL_REFUSALS (R434). -/
def refusalSubs : List Nat := [0x03, 0x04, 0x06, 0x07, 0x08, 0x09, 0x0A, 0x0C, 0x0D, 0x0F, 0x11, 0x12]

/-- The counter of a refusal (R432, R448): a status of another range is counted by its owning chapter, and 0x0101 and 0x0102 have none. -/
def State.countRefusal (s : State) (st : Nat) : State :=
  if st = 0x0105 then s.bump (ck 0x1040 4) 1
  else if st = 0x010B then s.bump (ck 0x1040 2) 1
  else if st = 0x010E then s.bump (ck 0x1040 3) 1
  else if st = 0x0113 then s.bump (ck 0x1040 0x0E) 1
  else if st = 0x0412 then s.bump (ck 0x1040 5) 1
  else if st / 256 = 1 ∧ refusalSubs.contains (st % 256) = true then s.bump (ck 0x1041 (st % 256)) 1
  else s

/-- What applies a write: the state after it and its status. A status other than 0x0000 and 0x0001 leaves the state but for counters. -/
abbrev Writer := State → State × Nat

/-- How a write is served outside normal service: before S9 (R370), and in recovery (R461). -/
structure Serve where
  early : Bool
  recovery : Bool
  deriving DecidableEq, Repr

/-- A write on a carrier through its checks; `served` says that the request arrived at S9 or later (R370, R371, R431, R461). -/
def State.guarded (s : State) (car : Carrier) (cls : Nat) (served : Bool) (v : Serve) (w : Writer) : State × Nat :=
  let apply := fun (s : State) =>
    if ! s.policyAllows car cls then (s.countRefusal 0x0105, 0x0105)
    else
      let r := w s
      (r.1.countRefusal r.2, r.2)
  if s.recovery then
    if s.policyAllows car cls && ! v.recovery then (s, 0x0101) else apply s
  else if ! s.boot.mgmt then (s.bump (ck 0xA120 0x0A) 1, 0x0A02)
  else if ! served && ! v.early then (s.bump (ck 0xA120 9) 1, 0x0A01)
  else apply s

/-- An RWJ object takes a write only between jobs; then the owning rule checks the value (R437). -/
def rwj (w : Writer) : Writer := fun s => if s.betweenJobs then w s else (s, 0x0106)

/-- A refusal with a status of its chapter, counted in the chapter's counter (R432). -/
def refuse (k st : Nat) : Writer := fun s => (s.bump k 1, st)

/-- A management write as a command: the device answers its status on the carrier. Nothing answers before the end of S1. -/
def mgmtWriteIn (v : Serve) (car : Carrier) (cls : Nat) (w : Writer) (s : State) : Res :=
  if ! s.carrierOn car then .next s
  else
    let r := s.guarded car cls s.usable v w
    .next (r.1.answer car r.2 [])

/-- A management write that only normal service takes. -/
def mgmtWrite (car : Carrier) (cls : Nat) (w : Writer) (s : State) : Res := mgmtWriteIn ⟨false, false⟩ car cls w s

/-- The answer of a read that is a command: the value where normal service holds (R370, R371, R461). -/
def mgmtRead (f : State → State × Nat × List Byte) (s : State) : Res :=
  if ! s.listening then .next s
  else if s.recovery then .next (s.send (.answer 4 0x0101 []))
  else if ! s.boot.mgmt then .next ((s.bump (ck 0xA120 0x0A) 1).send (.answer 4 0x0A02 []))
  else if ! s.usable then .next ((s.bump (ck 0xA120 0x0C) 1).send (.answer 4 0x0A01 []))
  else
    let r := f s
    .next ((r.1.countRefusal r.2.1).send (.answer 4 r.2.1 r.2.2))

end Sys2Proof.Machine
end

