-- ==== Sys2Proof/Machine/Status.lean ====
section
/-! DEFINITION. Words that cores and the dictionary read: sensor readings (R322) and the status word of a link (R394). -/

namespace Sys2Proof.Machine

/-- A reading: value, whether the zone core of the sensor is on, and whether the sensor is marked failed (R322). -/
def sensorWord (value : Nat) (zoneOn failed : Bool) : U64 :=
  BitVec.ofNat 64 ((if failed then 2 else if zoneOn then 0 else 1) * 2 ^ 32 + value % 2 ^ 32)

/-- Units of 0.0625 °C as 32 bits of two's complement. -/
def tempWord (t : Int) : Nat := (t % (2 ^ 32 : Nat)).toNat

def State.zoneState (s : State) (z : Nat) : Nat := (s.pwr.zones.toList.getD z ZonePwr.reset).state

/-- The zone core is switched on: VLOG is applied (R324). -/
def State.zoneOn (s : State) (z : Nat) : Bool := s.zoneState z == zsOn

/-- The reading of a selector (R322): all ones for any selector that the table does not name. The samples of the voltage sensors are
free values (log entry 14). -/
def sensorReading (s : State) (sel : U64) : U64 :=
  let n := sel.toNat
  let i := n % 4096
  let failed := s.pwr.failed.contains n
  if 65536 ≤ n then BitVec.allOnes 64
  else match n / 4096 with
    | 1 => if i < 768 then sensorWord (Config.sensorSample n s.draws) (s.zoneOn (i / 16)) failed else BitVec.allOnes 64
    | 2 => if i < 384 then sensorWord (SMap.get 0 s.pwr.sensors n) true failed else BitVec.allOnes 64
    | 3 => if i < 48 then sensorWord (s.pwr.zones.toList.getD i ZonePwr.reset).current (s.zoneOn i) failed else BitVec.allOnes 64
    | 4 => if i < 8 then sensorWord ((s.pwr.measured.toList.getD i []).headD 0) true failed else BitVec.allOnes 64
    | 5 => if i = 0 then sensorWord s.pwr.pkgPower true failed else BitVec.allOnes 64
    | 6 => if i < 8 then sensorWord (Config.sensorSample n s.draws) true failed else BitVec.allOnes 64
    | _ => BitVec.allOnes 64

/-- Wavelengths of a link die that the shadow map names (R31, R374). -/
def Grid.wavelengths (g : Grid) (k : Nat) : List Nat :=
  (g.entries.filter (fun w => smKind w == 4 && fieldN (smLoc w) 8 5 == k)).map (fun w => smLoc w % 16)

/-- λ8 carries a lane (R374). -/
def Grid.spareLane (g : Grid) (k : Nat) : Bool := match g.wavelengths k with | [w] => w != 8 | _ => false

def State.linkSt (s : State) (l : Nat) : LinkSt := s.link.links.toList.getD l LinkSt.reset

/-- The status word of a link (R394). -/
def linkStatus (s : State) (l : Nat) : U64 :=
  let k := s.linkSt l
  if 36 ≤ l ∨ k.state = lsNone then 0
  else BitVec.ofNat 64 (k.state * 2 ^ 60 + k.rate % 16 * 2 ^ 56 + k.version % 256 * 2 ^ 48 + k.partner % 4096 * 2 ^ 36
    + k.partnerLink % 64 * 2 ^ 30 + (if s.grid.spareLane (l / 2) then 2 ^ 29 else 0) + k.features % 256 * 2 ^ 16
    + min k.replays1ms 255 * 2 ^ 8 + k.fecLoad % 256)

end Sys2Proof.Machine
end

