-- ==== Sys2Proof/Machine/LinkOps.lean ====
section
/-! DEFINITION. The ports and links (R381 to R391): credits, retry, striping, the delivery of flits in order, what a link switch does with
service packets, and what it means for a link and a port to go down. -/

namespace Sys2Proof.Machine

def linkIx (n : Nat) : LinkIx := ⟨n % 36, Nat.mod_lt _ (by decide)⟩
def portIx (n : Nat) : PortIx := ⟨n % 12, Nat.mod_lt _ (by decide)⟩
def State.setLink (s : State) (l : Nat) (k : LinkSt) : State := { s with link := { s.link with links := s.link.links.set (linkIx l) k } }
def State.updLink (s : State) (l : Nat) (f : LinkSt → LinkSt) : State := s.setLink l (f (s.linkSt l))
def State.portSt (s : State) (p : Nat) : PortSt := s.link.ports[portIx p]
def State.updPort (s : State) (p : Nat) (f : PortSt → PortSt) : State :=
  { s with link := { s.link with ports := s.link.ports.set (portIx p) (f (s.portSt p)) } }
def vlIx (n : Nat) : Fin 4 := ⟨n % 4, Nat.mod_lt _ (by decide)⟩
def LinkSt.updVl (k : LinkSt) (vl : Nat) (f : VlSt → VlSt) : LinkSt := { k with vls := k.vls.set (vlIx vl) (f k.vls[vlIx vl]) }

/-! ## Ports (R378, R384) -/

/-- Links of a port that are fitted and not disabled (R384). -/
def State.members (s : State) (p : Nat) : List Nat :=
  (portLinks s.link.grouping p).filter (fun l => (s.linkSt l).state != lsNone && (s.linkSt l).state != lsDisabled)
def State.upMembers (s : State) (p : Nat) : List Nat := (s.members p).filter (fun l => (s.linkSt l).state == lsUp)
def State.portOfLink (s : State) (l : Nat) : Nat := if s.link.grouping = 6 then l / 6 else l / 3
/-- A feature that the port holds in force on all of its member links (R378). -/
def State.portFeature (s : State) (p bit : Nat) : Bool :=
  let ms := s.members p
  ! ms.isEmpty && ms.all (fun l => (s.linkSt l).features.testBit bit)

/-- The port for a device: ROUTE_TABLE as written, else the lowest port with a link to it as partner (R404). -/
def State.route (s : State) (dev : Nat) : Option Nat :=
  match SMap.get 0 s.link.routes dev with
  | 0 => (upTo s.link.grouping).find? (fun p => (s.upMembers p).any (fun l => (s.linkSt l).partner == dev))
  | n + 1 => if n < s.link.grouping then some n else none

/-- The fault record of a link keeps the first event since the last read (R395). -/
def State.linkFault (s : State) (l cause slot : Nat) : State :=
  let w := s.tally.now % 2 ^ 32 * 2 ^ 32 + slot % 8 * 2 ^ 29 + cause
  if (s.linkSt l).fault = 0 then (s.updLink l (fun k => { k with fault := w })).raise 0x07 l (leOfNat 8 w) else s

/-- A change of a link's status raises an event (R412). -/
def State.linkEvent (s : State) (l : Nat) : State := s.raise 0x04 l (leOfNat 8 (linkStatus s l).toNat)

/-- A link event that stops the job that owns the port at its next fence. -/
def State.portStop (s : State) (p status : Nat) : State :=
  match s.portOwner p with
  | some j => s.updJob j (fun b => { b with linkStops := b.linkStops ++ [status] })
  | none => s

/-- The slot concerned by an event of a port; 0 when no job owns it. -/
def State.portSlot (s : State) (p : Nat) : Nat := match s.portOwner p with | some j => j.val | none => 0

/-! ## Sending (R381, R382, R385) -/

/-- The order in which waiting flits leave: management, then service, then plan and reduction in alternation, with at most one service
flit in four while others wait (R381). -/
def alternate {α : Type} : Nat → List α → List α → List α
  | 0, a, b => a ++ b
  | _ + 1, [], b => b
  | n + 1, x :: a, b => x :: alternate n b a

def oneInFour {α : Type} : Nat → List α → List α → List α
  | 0, sv, bulk => sv ++ bulk
  | _ + 1, [], bulk => bulk
  | n + 1, x :: sv, bulk => x :: (bulk.take 3 ++ oneInFour n sv (bulk.drop 3))

def sendOrder (q : List DataFlit) : List DataFlit :=
  let of_ := fun vl => q.filter (fun f => f.vl == vl)
  of_ vlMgmt ++ oneInFour q.length (of_ vlService) (alternate q.length (of_ vlPlan) (of_ vlReduction))

/-- The member with the most credits on the lane, ties to the lowest link (R385); none when no member can send. -/
def State.pickMember (s : State) (p vl : Nat) : Option Nat :=
  ((s.upMembers p).filter (fun l => decide (0 < (s.linkSt l).vls[vlIx vl].credits) && decide ((s.linkSt l).retry.length < 512))).foldl
    (fun b l => match b with
      | none => some l
      | some m => if (s.linkSt m).vls[vlIx vl].credits < (s.linkSt l).vls[vlIx vl].credits then some l else b) none

/-- One flit leaves on a link: a credit is taken, the flit is held until it is acknowledged (R381, R382). -/
def State.sendOn (s : State) (l : Nat) (f : DataFlit) : State :=
  let k := s.linkSt l
  (s.setLink l ({ k with
    fseq := (k.fseq + 1) % 4096, retry := k.retry ++ [(k.fseq, f)], flitsSent := satAdd k.flitsSent 1 }.updVl f.vl (fun v =>
      { v with credits := v.credits - 1, sent := (v.sent + 1) % 2 ^ 32 }))).send (.flit l k.fseq f)

/-- Send what can leave of a list of flits in sending order; the answer lists what stays. -/
def State.sendFlits (p : Nat) : List DataFlit → State → State × List DataFlit
  | [], s => (s, [])
  | f :: fs, s =>
    match s.pickMember p f.vl with
    | some l => State.sendFlits p fs (s.sendOn l f)
    | none => let r := State.sendFlits p fs s
              (r.1, f :: r.2)

/-- Send what can leave of a port's queue. -/
def State.pump (s : State) (p : Nat) : State :=
  let r := State.sendFlits p (sendOrder (s.portSt p).txq) s
  r.1.updPort p (fun q => { q with txq := r.2 })

/-- Queue payloads of a lane on a port, each with the port's next sequence number (R385), and send what can leave. -/
def State.enqueue (s : State) (p vl : Nat) (payloads : List (List Byte)) : State :=
  (payloads.foldl (fun s b => s.updPort p (fun q =>
    { q with txPseq := q.txPseq.set (vlIx vl) ((q.txPseq[vlIx vl] + 1) % 65536), txq := q.txq ++ [⟨vl, q.txPseq[vlIx vl], b⟩] })) s).pump p

/-! ## Payloads (R380) -/

def padTo (n : Nat) (bs : List Byte) : List Byte := (bs ++ List.replicate n 0).take n

/-- A line slot of a data flit with its tag. -/
structure LineSlot where
  data : V512
  last : Bool
  poison : Bool
  vc : Bool
  deriving DecidableEq, Repr

def LineSlot.tag (l : LineSlot) : Byte :=
  BitVec.ofNat 8 (1 + (if l.last then 2 else 0) + (if l.poison then 4 else 0) + (if l.vc then 8 else 0))

/-- Three line slots to a flit: the 244 payload bytes. -/
def lineFlits : Nat → List LineSlot → List (List Byte)
  | 0, _ => []
  | _ + 1, [] => []
  | n + 1, ls =>
    let h := ls.take 3
    padTo 244 (padTo 192 (h.flatMap (fun l => lineBytes l.data)) ++ h.map LineSlot.tag) :: lineFlits n (ls.drop 3)

/-- The valid lines of a data flit. -/
def slotsOf (b : List Byte) : List LineSlot :=
  (upTo 3).filterMap (fun i =>
    let t := (b.getD (192 + i) 0).toNat
    if t % 2 = 1 then some ⟨bytesLine ((b.drop (64 * i)).take 64), t.testBit 1, t.testBit 2, t.testBit 3⟩ else none)

/-! ## Service packets at a link switch (R390, R391) -/

/-- The column and the mesh input of an edge. -/
def edgeCol (right : Bool) : Nat := if right then 47 else 0
def edgeIn (right : Bool) : Nat := if right then 1 else 3

/-- Lines that a switch hands to the mesh at an attachment row wait at that router's input (R183). -/
def State.meshInject (s : State) (right : Bool) (row ch : Nat) (ls : List SvLine) : State :=
  s.updTile (48 * row + edgeCol right) (fun t => t.updRouter (fun r =>
    let key := edgeIn right * 2 + ch
    { r with ins := SMap.put [] r.ins key (SMap.get [] r.ins key ++ ls) }))

/-- The mark, in SX or DX, of a packet of a link switch itself: no column has this number (log entry 19). -/
def switchMark : Nat := 63

/-- The completion of a switch for a request from a tile of this device (R185). -/
def switchCompl (h status : Nat) (right : Bool) (row : Nat) : SvLine :=
  let hh := 3 * 2 ^ 60 + hSx h * 2 ^ 52 + hSy h * 2 ^ 47 + hScore h * 2 ^ 45 + edgeCol right * 2 ^ 39 + row % 32 * 2 ^ 34
    + hSeq h * 2 ^ 10 + hTag h * 2 ^ 8
  ⟨BitVec.ofNat 512 (withChk hh + status % 65536 * 2 ^ 64), true, false, false⟩

/-- The completion of a switch for a request that came from another device. -/
def farCompl (h dev status : Nat) : LineSlot :=
  let hh := 3 * 2 ^ 60 + 2 * 2 ^ 58 + hSx h * 2 ^ 52 + hSy h * 2 ^ 47 + hScore h * 2 ^ 45 + dev % 4096 * 2 ^ 20 + hSeq h * 2 ^ 10 + hTag h * 2 ^ 8
  ⟨BitVec.ofNat 512 (withChk hh + status % 65536 * 2 ^ 64), true, false, true⟩

def isRequest (h : Nat) : Bool := hType h == 1 || hType h == 2

/-- A whole service packet taken from the mesh at an attachment row (R390): sent on the port that ROUTE_TABLE names, or answered. A
completion for a transfer of the switch ends there. -/
def State.switchPacket (s : State) (right : Bool) (row ch : Nat) (ls : List SvLine) : State :=
  let h := hdrOf (ls.headD ⟨0, true, false, false⟩).data
  let dev := hDev h
  let answer := fun (st : Nat) (s : State) => if isRequest h then s.meshInject right row 1 [switchCompl h st right row] else s
  if hType h = 3 ∧ hDx h = switchMark then s
  else if dev = s.boot.deviceId then answer stNoDestination s
  else match s.route dev with
    | none => answer stNoDestination s
    | some p =>
      if (s.upMembers p).isEmpty then answer stLinkDown s
      else s.enqueue p vlService (lineFlits ls.length (ls.map (fun l => ⟨l.data, l.last, l.poison, ch == 1⟩)))

/-- A service line reaches the link switch of an edge. -/
def State.switchTake (s : State) (right : Bool) (row ch : Nat) (l : SvLine) : State :=
  let key := ((if right then 64 else 0) + row) * 2 + ch
  let ls := SMap.get [] s.link.svc key ++ [l]
  if l.last then ({ s with link := { s.link with svc := SMap.put [] s.link.svc key [] } }).switchPacket right row ch ls
  else { s with link := { s.link with svc := SMap.put [] s.link.svc key ls } }

/-- The link at whose attachment row a port hands lines to the mesh, or takes them: its lowest up member, else its lowest member. -/
def State.portLink (s : State) (p : Nat) : Nat := ((s.upMembers p).head?).getD (((s.members p).head?).getD ((portLinks s.link.grouping p).headD 0))

/-- The edge and row of a link. -/
def State.linkPlace (s : State) (l : Nat) : Bool × Nat := (decide (18 ≤ l), (s.grid.attach l).1)

/-- A packet for this device enters the mesh (R388, R390): the destination tile of a request is in bytes 16 and 17, and DEV becomes the
device at the other end of the link (DEDUCED, log entry 19). A tile outside the grid is no destination. -/
def State.enterPacket (s : State) (p l : Nat) (ls : List LineSlot) : State :=
  let v := (ls.headD ⟨0, true, false, false⟩).data
  let h := hdrOf v
  let src := (s.linkSt l).partner
  let req := isRequest h
  let x := payByte v 16
  let y := payByte v 17
  let place := s.linkPlace (s.portLink p)
  if ! hdrGood h then s.bump (ck 0x9140 3) 1
  else if req && ! (decide (x < 48) && decide (y < s.grid.logicalRows)) then
    s.enqueue p vlService (lineFlits 1 [farCompl h src stNoDestination])
  else
    let h1 := h / 2 ^ 58 * 2 ^ 58 + (if req then x % 64 * 2 ^ 52 + y % 32 * 2 ^ 47 + h % 2 ^ 47 else h % 2 ^ 58)
    let h2 := h1 / 2 ^ 32 * 2 ^ 32 + src % 4096 * 2 ^ 20 + h1 % 2 ^ 20
    let out := (List.zip (upTo ls.length) ls).map (fun q =>
      (⟨if q.1 = 0 then setHdr q.2.data (withChk h2) else q.2.data, q.2.last, q.2.poison, true⟩ : SvLine))
    s.meshInject place.1 place.2 (if req then 0 else 1) out

/-- A whole service packet from another device (R390, R391): for this device it enters the mesh; for another it is forwarded on the port
that ROUTE_TABLE names, and a request that cannot be is answered. -/
def State.arrivePacket (s : State) (p l : Nat) (ls : List LineSlot) : State :=
  let h := hdrOf (ls.headD ⟨0, true, false, false⟩).data
  let flits := lineFlits ls.length ls
  if hDev h = s.boot.deviceId then s.enterPacket p l ls
  else
    let fail := fun (st : Nat) (s : State) =>
      (if isRequest h then s.enqueue p vlService (lineFlits 1 [farCompl h (s.linkSt l).partner st]) else s).bump (ck 0x6030 1) flits.length
    match s.route (hDev h) with
    | none => fail stNoDestination s
    | some q =>
      if (s.upMembers q).isEmpty || ! s.portFeature p 0 || ! s.portFeature q 0 then fail stNoDestination s
      else (s.enqueue q vlService flits).bump (ck 0x6030 5) flits.length

/-! ## Receiving (R381, R382, R385) -/

/-- A flit leaves the receive buffer of a link: its credit goes back in an idle header with the FSEQ expected next. -/
def State.returnCredit (s : State) (l vl : Nat) : State :=
  (s.updLink l (fun k => k.updVl vl (fun v => { v with returned := (v.returned + 1) % 2 ^ 32 }))).send
    (.control l 0 [(s.linkSt l).expect, vl, 1])

/-- The lines of a service flit join the packets that the port is receiving. -/
def State.serviceLines (p l : Nat) : List LineSlot → State → State
  | [], s => s
  | x :: xs, s =>
    let ch := if x.vc then 1 else 0
    let ls := SMap.get [] (s.portSt p).asm ch ++ [⟨x.data, x.last, x.poison, x.vc⟩]
    let s1 := if x.last then
        (s.updPort p (fun q => { q with asm := SMap.put [] q.asm ch [] })).arrivePacket p l (ls.map (fun y => ⟨y.data, y.last, y.poison, x.vc⟩))
      else s.updPort p (fun q => { q with asm := SMap.put [] q.asm ch ls })
    State.serviceLines p l xs s1

/-- One flit that is next in the order of its port and lane. Plan and reduction flits wait for their transfer to land; service lines go on
at once; a management flit is a message whose effect has a command of its own. -/
def State.deliver (s : State) (p l : Nat) (f : DataFlit) : State :=
  let s1 := s.updPort p (fun q => { q with rxPseq := q.rxPseq.set (vlIx f.vl) ((f.pseq + 1) % 65536) })
  if f.vl = vlPlan ∨ f.vl = vlReduction then s1.updPort p (fun q => { q with ready := q.ready ++ [(l, f)] })
  else (if f.vl = vlService then State.serviceLines p l (slotsOf f.payload) s1 else s1).returnCredit l f.vl

/-- Deliver every flit whose turn has come. -/
def State.deliverAll (p : Nat) : Nat → State → State
  | 0, s => s
  | n + 1, s =>
    let q := s.portSt p
    match q.rxq.find? (fun f => f.2.pseq == q.rxPseq[vlIx f.2.vl]) with
    | none => s
    | some f => State.deliverAll p n ((s.updPort p (fun q => { q with rxq := q.rxq.erase f })).deliver p f.1 f.2)

/-- Distance of a port sequence number behind the next one: a flit already delivered (R385). -/
def pseqOld (next pseq : Nat) : Bool := decide (0 < (next + 65536 - pseq) % 65536) && decide ((next + 65536 - pseq) % 65536 < 32768)

/-- A flit received in the order of its link reaches its port. -/
def State.portReceive (s : State) (p l : Nat) (f : DataFlit) : State :=
  let q := s.portSt p
  if pseqOld q.rxPseq[vlIx f.vl] f.pseq || q.rxq.any (fun g => g.2.vl == f.vl && g.2.pseq == f.pseq) then s.returnCredit l f.vl
  else State.deliverAll p (q.rxq.length + 1) (s.updPort p (fun q => { q with rxq := q.rxq ++ [(l, f)] }))

/-- FSEQ of the flits that ACKSEQ passes (R382). -/
def ackPast (ack fseq : Nat) : Bool := decide (0 < (ack + 4096 - fseq) % 4096) && decide ((ack + 4096 - fseq) % 4096 ≤ 2048)

/-- The header of any flit acknowledges and returns credits (R379, R381, R382). -/
def State.takeHeader (s : State) (l ack crvl crn : Nat) : State :=
  let k := s.linkSt l
  let held := k.retry.filter (fun r => ! ackPast ack r.1)
  let adv := decide (held.length < k.retry.length)
  let k1 := { k with retry := held, ackSeen := ack, replayTries := if adv then 0 else k.replayTries }
  (s.setLink l (k1.updVl crvl (fun v => { v with credits := min (vlBuffer crvl) (v.credits + crn), credited := (v.credited + crn) % 2 ^ 32 }))).pump
    (s.portOfLink l)

/-- A flit that fails: it and every later one are discarded until the replay, and one NAK is sent (R382). -/
def State.flitFails (s : State) (l : Nat) : State :=
  let k := s.linkSt l
  if k.discarding then s else (s.setLink l { k with discarding := true }).send (.control l 2 [k.expect])

/-- Replay every held flit from a sequence number (R382): an attempt; replays take no credits. -/
def State.replayFrom (s : State) (l fseq : Nat) : State :=
  let k := s.linkSt l
  let from_ := k.retry.filter (fun r => ! ackPast fseq r.1)
  let s1 := s.setLink l { k with
    replays := satAdd k.replays 1, replays1ms := min 255 (k.replays1ms + 1), replayTries := k.replayTries + 1 }
  from_.foldl (fun s r => s.send (.flit l r.1 r.2)) s1

/-! ## Links and ports that go down (R375, R385, R386) -/

/-- A port whose last up member is gone (R386): waiting flits are dropped, a remote write cut short is completed with poisoned lines, and
the job that owns the port stops at its next fence. -/
def State.portDown (s : State) (p : Nat) : State :=
  let q := s.portSt p
  let ls := SMap.get [] q.asm 0
  let v := (ls.headD ⟨0, true, false, false⟩).data
  let cut := ! ls.isEmpty && hType (hdrOf v) == 2
  let n := rwLines v + 1
  let rest := (upTo (n - ls.length)).map (fun i =>
    (⟨BitVec.ofNat 512 (Config.missingLine (s.draws + i)), decide (ls.length + i + 1 = n), true, false⟩ : SvLine))
  let s1 := if cut then (({ s with draws := s.draws + rest.length }).enterPacket p (s.portLink p)
      ((ls ++ rest).map (fun (l : SvLine) => (⟨l.data, l.last, l.poison, false⟩ : LineSlot)))).bump (ck 0x9140 0x0C) 1 else s
  let s2 := (s1.updPort p (fun q => { q with down := true, txq := [], asm := [] })).bump (ck 0x6030 1) q.txq.length
  let s3 := (s.members p).foldl (fun s l => s.linkFault l 3 (s.portSlot p)) (s2.bump (ck 0x6030 2) 1)
  s3.portStop p 0x0718

/-- The state of the cascade after a link came up or went (R377, R396). -/
def State.cascadeState (s : State) : State :=
  let up := (upTo 36).filter (fun l => (s.linkSt l).state == lsUp)
  let me := s.boot.deviceId
  if up.any (fun l => (s.linkSt l).conflict) then { s with link := { s.link with state := csConflict } }
  else if up.isEmpty then { s with link := { s.link with state := csAlone, master := 0xFFFF, heard := [], lowest := me } }
  else if s.link.masterSet ≠ 0xFFFF then
    { s with link := { s.link with state := if s.link.masterSet = me then csMaster else csMember, master := s.link.masterSet } }
  else if s.link.state = csAlone ∨ s.link.state = csConflict then { s with link := { s.link with state := csElecting, lowest := min me s.link.lowest } }
  else s

/-- A link goes down (R375, R385): its unacknowledged flits go to the other members when port replay is in force, else they are dropped. -/
def State.linkGoDown (s : State) (l newState : Nat) : State :=
  let k := s.linkSt l
  let p := s.portOfLink l
  if k.state ≠ lsUp then s
  else
    let replay := s.portFeature p 5
    let s1 := s.setLink l { k with state := newState, downs := satAdd k.downs 1, retry := [], attempts := 0, discarding := false }
    let s1 := s1.linkEvent l
    let s2 := if (s1.upMembers p).isEmpty then (s1.bump (ck 0x6030 1) k.retry.length).portDown p
      else if replay then (s1.updPort p (fun q => { q with txq := k.retry.map Prod.snd ++ q.txq })).pump p
      else s1.bump (ck 0x6030 1) k.retry.length
    s2.cascadeState

/-- A link comes up: credits are reset to the buffer size, and the port takes it in at once (R381, R385, R386). -/
def State.linkComesUp (s : State) (l : Nat) : State :=
  let k := s.linkSt l
  let s1 := s.setLink l { k with
    state := lsUp, attempts := 0, fseq := 0, ackSeen := 0, expect := 0, discarding := false, retry := [], replayTries := 0
    vls := #v[VlSt.reset 0, VlSt.reset 1, VlSt.reset 2, VlSt.reset 3] }
  ((s1.updPort (s.portOfLink l) (fun q => { q with down := false })).linkEvent l).pump (s.portOfLink l)

/-! ## Transfers (R387 to R389) -/

/-- The transfer header (R387). -/
structure Xfer where
  kind : Nat
  vl : Nat
  bead : Nat
  dev : Nat
  x : Nat
  y : Nat
  win : Nat
  n : Nat
  off : Nat
  deriving DecidableEq, Repr

def xferByte (b : List Byte) (i : Nat) : Nat := (b.getD i 0).toNat

/-- The header of a transfer; none when a value is reserved or out of range. `full` says that bytes 16 to 63 are there to be 0. -/
def xferOf (full : Bool) (b : List Byte) : Option Xfer :=
  let y := xferByte b
  let n := y 10 + 256 * y 11
  let dev := y 4 + 256 * y 5
  let off := natOfLE ((b.drop 12).take 4)
  let ok := (y 0 == 1 || y 0 == 2) && decide (y 1 ≤ 1) && (y 1 == 0 || y 0 == 2) && decide (y 2 ≤ 2) && (y 2 == 0 || y 0 == 1)
    && y 3 == 0 && y 9 == 0 && decide (dev < 4096) && decide (y 8 < 8) && off % 64 == 0 && decide (y 6 < 48) && decide (y 7 < 32)
    && (if y 0 = 2 then n == 513 else decide (1 ≤ n) && decide (n ≤ 64) && (y 2 != 1 || n % 17 == 0) && (y 2 != 2 || n % 33 == 0))
    && (! full || ((b.drop 16).take 48).all (fun z => z == 0))
  if ok then some ⟨y 0, y 1, y 2, dev, y 6, y 7, y 8, n, off⟩ else none

/-- Verify the bead groups of a transfer's lines (R389): the lines, with failing groups poisoned, and the number of failing beads. -/
def xferGroups (bead : Nat) : Nat → List SwLine → List SwLine × Nat
  | 0, ls => (ls, 0)
  | _ + 1, [] => ([], 0)
  | n + 1, ls =>
    let len := if bead = 1 then 17 else 33
    let g := ls.take len
    let fails := if bead = 0 ∨ g.length ≠ len then 0 else groupFails bead (g.map SwLine.data)
    let g1 := if fails = 0 then g else g.map (fun l => { l with poison := true })
    let r := xferGroups bead n (ls.drop len)
    (g1 ++ r.1, fails + r.2)

/-- A group that fails at a switch: counted bead by bead, recorded, and a detection of the job that owns the port (R263, R389). -/
def State.linkBeadFails (s : State) (p l cause fails : Nat) : State :=
  if fails = 0 then s else
  let s1 := (s.bump (ck 0x9170 2) fails).linkFault l cause (s.portSlot p)
  match s.portOwner p with
  | some j => s1.updJob j (fun b => { b with linkDets := b.linkDets ++ [(l, cause)] })
  | none => s1

/-- Record `i` (32 bytes) of a partial block of 513 lines, and whether its line is poisoned. -/
def blockRec (ls : List SwLine) (i : Nat) : List Byte × Bool :=
  let l := ls.getD (1 + i / 2) ⟨0, false⟩
  (((lineBytes l.data).drop (32 * (i % 2))).take 32, l.poison)

/-- The occupied rows of a block. -/
def maskRows (m : Nat) : List Nat := (upTo 32).filter (fun r => m.testBit r)

/-- Records of twelve to a flit: 240 bytes, then the poison bits and the number of records (R380). -/
def recFlits : Nat → List (List Byte × Bool) → List (List Byte)
  | 0, _ => []
  | _ + 1, [] => []
  | n + 1, rs =>
    let h := rs.take 12
    let bits := (List.zip (upTo h.length) h).foldl (fun m q => if q.2.2 then m + 2 ^ q.1 else m) 0
    (padTo 240 (h.flatMap (fun r => r.1.take 20)) ++ leOfNat 4 (bits + (h.length - 1) * 2 ^ 12)) :: recFlits n (rs.drop 12)

/-- The flits of a partial block on the reduction lane (R388): transfer header bytes [15:0], block header bytes [12:0] and the row counts,
one after another; then the records of the occupied rows. -/
def reductionFlits (hdr : List Byte) (ls : List SwLine) : List (List Byte) :=
  let bh := lineBytes (ls.headD ⟨0, false⟩).data
  let mask := natOfLE ((bh.drop 8).take 4)
  let counts := (upTo 32).map (fun r => natOfLE (((blockRec ls (32 * r)).1.drop 24).take 4))
  let recs := (maskRows mask).flatMap (fun r => (upTo 32).map (fun u =>
    let q := blockRec ls (32 * r + u)
    (q.1, q.2 || (q.1.getD 20 0).getLsbD 0)))
  padTo 244 (hdr.take 16 ++ bh.take 13 ++ counts.flatMap (leOfNat 4)) :: recFlits recs.length recs

/-- A record of a rebuilt block: pattern, poison, residue of the pattern, row count (R84, R388). -/
def rebuiltRec (pat : List Byte) (poison : Bool) (cnt : Nat) : List Byte :=
  pat ++ [if poison then 1 else 0, BitVec.ofNat 8 (natOfLE pat % 255), 0, 0] ++ leOfNat 4 (cnt % 2 ^ 25) ++ [0, 0, 0, 0]

/-- The 513 lines of a block from its flits: masked rows are zero records (R388). -/
def rebuildBlock (first : List Byte) (recs : List (List Byte × Bool)) : List SwLine :=
  let bh := (first.drop 16).take 13
  let mask := natOfLE ((bh.drop 8).take 4)
  let cnt := fun r => natOfLE ((first.drop (29 + 4 * r)).take 4)
  let rows := maskRows mask
  let pos := fun r => (rows.takeWhile (fun q => q != r)).length
  let rec_ := fun i =>
    let r := i / 32
    if mask.testBit r then
      let q := recs.getD (32 * pos r + i % 32) (List.replicate 20 0, true)
      (rebuiltRec q.1 q.2 (cnt r), q.2)
    else (List.replicate 32 0, false)
  ⟨bytesLine (padTo 64 bh), false⟩ :: (upTo 512).map (fun k =>
    let a := rec_ (2 * k)
    let b := rec_ (2 * k + 1)
    ⟨bytesLine (a.1 ++ b.1), a.2 || b.2⟩)

/-- The records of a record flit. -/
def flitRecs (b : List Byte) : List (List Byte × Bool) :=
  let w := natOfLE ((b.drop 240).take 4)
  (upTo (w / 2 ^ 12 % 16 + 1)).map (fun i => ((b.drop (20 * i)).take 20, w.testBit i))

/-- The lines of one remote write of a transfer, as a service packet (R388). -/
def xferPacket (x : Xfer) (src : Nat) (off : Nat) (ls : List SwLine) : List SvLine :=
  let h := 2 * 2 ^ 60 + 2 * 2 ^ 58 + x.x * 2 ^ 52 + x.y * 2 ^ 47 + switchMark * 2 ^ 39 + src % 4096 * 2 ^ 20
  let pay := x.win + (ls.length - 1) % 64 * 2 ^ 8 + off % 2 ^ 32 * 2 ^ 32
  ⟨BitVec.ofNat 512 (withChk h + pay * 2 ^ 64), false, false, true⟩ ::
    (List.zip (upTo ls.length) ls).map (fun q => ⟨q.2.data, decide (q.1 + 1 = ls.length), q.2.poison, true⟩)

/-- The writes of a transfer: one, or nine of a partial block. -/
def xferPackets (x : Xfer) (src : Nat) (ls : List SwLine) : List (List SvLine) :=
  (upTo ((ls.length + 63) / 64)).map (fun i => xferPacket x src (x.off + 4096 * i) ((ls.drop (64 * i)).take 64))

end Sys2Proof.Machine
end

