-- ==== Sys2Proof/Machine/Features.lean ====
section
/-! DEFINITION. The feature objects that change between starts (R446 to R448). -/

namespace Sys2Proof.Machine

/-- ZONES_AVAILABLE (R446). -/
def State.zonesAvailable (s : State) : Nat :=
  zonesMask (allZones.filter (fun z =>
    let p := s.zonePwr z
    ! (p.state == zsOff && p.hold != 0) && p.state != zsFault && ! s.check.faultHeld.testBit z && p.hold != hoOverflow && ! s.life.overflowHeld.testBit z && ! s.regHeld z))

/-- PORTS_AVAILABLE (R384, R446). -/
def State.portsAvailable (s : State) : Nat :=
  ((upTo s.link.grouping).filter (fun p => ! (s.members p).isEmpty)).foldl (fun m p => m ||| 2 ^ p) 0

/-- FEATURE_GENERATION rises by 1 when a change after S9 reaches one of the two objects (R448). -/
def State.noteFeatures (before after : State) : State :=
  if before.usable && after.usable &&
      (decide (before.zonesAvailable ≠ after.zonesAvailable) || decide (before.portsAvailable ≠ after.portsAvailable)) then
    { after with boot := { after.boot with featGen := (after.boot.featGen + 1) % 2 ^ 32 } }
  else after

/-- A write whose effect may change them. -/
def featWriter (w : Writer) : Writer := fun s => (s.noteFeatures (w s).1, (w s).2)

end Sys2Proof.Machine
end

