-- ==== Sys2Proof/Machine/LoadChecks.lean ====
section
/-! DEFINITION. The checks of slot tables (R172) and of copy tables (R203, R205) when a plan is loaded. -/

namespace Sys2Proof.Machine

/-- More than `limit` units of weight within some run of `width` consecutive cycles. -/
def overWindow (width limit : Nat) (ev : List (Int × Nat)) : Bool :=
  ev.any (fun a => decide (limit < (ev.map (fun b => if a.1 ≤ b.1 ∧ b.1 < a.1 + width then b.2 else 0)).foldl (· + ·) 0))

def noRepeat : List (Nat × Nat × Nat) → Bool
  | [] => true
  | a :: l => ! l.contains a && noRepeat l

/-! ## Slot tables -/

/-- Ports that an entry names as inputs. -/
def SlotEnt.inputs (e : SlotEnt) : List Nat := if e.op = 0 then [e.ina] else [e.ina, e.inb]

/-- The conditions of R172 on one entry at a tile. -/
def slotEntryOk (g : Grid) (t len : Nat) (e : SlotEnt) : Bool :=
  let x := t % 48
  let y := t / 48
  let ports := e.out :: e.inputs
  let linkPort := fun p => (p == 1 && x == 47) || (p == 3 && x == 0)
  decide (e.out ≤ 4) && decide (e.ina ≤ 4) && decide (e.inb ≤ 4) && decide (e.op ≤ 4)
    && e.ina != e.out && (if e.op = 0 then e.inb == 0 else e.ina != e.inb && e.inb != e.out)
    && decide ((ports.filter (fun p => p == 4)).length ≤ 1) && (e.loff == 0 || ports.contains 4)
    && ports.all (fun p => match g.portTo x y p with | .unconnected => false | _ => true)
    && e.inputs.all (fun p => ! linkPort p)
    && decide (e.outCy e.count < len) && decide (e.delay + (if e.inputs.contains 4 then 1 else 0) ≤ e.start)

/-- The entries of a task at the tiles of the plan, with the tile. -/
def taskEntries (p : Plan) (task : Nat) : List (Nat × SlotEnt) :=
  p.tiles.flatMap (fun r =>
    let rg := r.range task
    (upTo rg.2).map (fun i => (r.t, slotEnt (SMap.get 0 r.slots (rg.1 + i)))))

def flitCycles (e : SlotEnt) : List Nat := (upTo (e.count + 1)).map e.outCy

/-- Flits placed on outputs: tile, port, cycle. -/
def placements (es : List (Nat × SlotEnt)) : List (Nat × Nat × Nat) :=
  es.flatMap (fun q => if q.2.out = 4 then [] else (flitCycles q.2).map (fun u => (q.1, q.2.out, u)))

/-- Flits taken at neighbour inputs: tile, port, cycle present. -/
def takings (es : List (Nat × SlotEnt)) : List (Nat × Nat × Nat) :=
  es.flatMap (fun q => (q.2.inputs.filter (fun p => p != 4)).flatMap (fun p => (flitCycles q.2).map (fun u => (q.1, p, u - q.2.delay))))

def oppositePort (p : Nat) : Nat := match p with | 0 => 2 | 1 => 3 | 2 => 0 | _ => 1

/-- Where a placed flit arrives when a router takes it. -/
def Grid.arrival (g : Grid) (q : Nat × Nat × Nat) : Option (Nat × Nat × Nat) :=
  match g.portTo (q.1 % 48) (q.1 / 48) q.2.1 with
  | .router x y => some (48 * y + x, oppositePort q.2.1, q.2.2 + g.hop (q.1 % 48) (q.1 / 48) q.2.1)
  | _ => none

/-- Inputs that come from a router. -/
def Grid.fromRouter (g : Grid) (q : Nat × Nat × Nat) : Bool :=
  match g.portTo (q.1 % 48) (q.1 / 48) q.2.1 with | .router _ _ => true | _ => false

def Grid.fromEngine (g : Grid) (q : Nat × Nat × Nat) : Bool :=
  match g.portTo (q.1 % 48) (q.1 / 48) q.2.1 with | .engineEdge _ => true | _ => false

/-- The slot tables of one task pass R172. -/
def slotsOk (g : Grid) (p : Plan) (task : Nat) : Bool :=
  let es := taskEntries p task
  let pl := placements es
  let tk := takings es
  let arr := pl.filterMap g.arrival
  es.all (fun q => slotEntryOk g q.1 (p.len task) q.2)
    && noRepeat pl
    && arr.all (fun a => tk.contains a)
    && (tk.filter g.fromRouter).all (fun a => arr.contains a)
    && pl.all (fun q => decide (((pl.filter (fun r => r.1 == q.1 && r.2.1 == q.2.1 && decide (q.2.2 ≤ r.2.2) && decide (r.2.2 < q.2.2 + 1024))).length) ≤ 960))

def checkSlots (g : Grid) (p : Plan) : Bool := (upTo p.lengths.length).all (slotsOk g p)

/-! ## Copy tables -/

/-- The descriptors of a task of an engine that are not empty, with their numbers. -/
def taskDescs (r : EngRec) (task : Nat) : List (Nat × Desc) :=
  let rg := rangeOf r.ranges task
  ((upTo rg.2).map (fun i => (rg.1 + i, tableDesc r.table (rg.1 + i)))).filter (fun q => q.2.op != opNone)

/-- Lines on a column: engine, column, cycle. -/
def colLines (e : Nat) (ops : List Nat) (ds : List (Nat × Desc)) : List (Nat × Nat × Nat) :=
  (ds.filter (fun q => ops.contains q.2.op)).flatMap (fun q => (upTo q.2.lines).map (fun k => (e, q.2.col, q.2.cy k)))

/-- Static addresses of the lines of a descriptor: read side and write side (R201). -/
def Desc.readAddrs (d : Desc) : List Nat :=
  if d.op = opRead then (upTo d.lines).map (d.lineAt d.addr d.addr2)
  else if d.op = opMove then (upTo d.lines).map (fun k => d.addr + 64 * k) else []
def Desc.writeAddrs (d : Desc) : List Nat :=
  if d.op = opWrite then (upTo d.lines).map (d.lineAt d.addr d.addr2)
  else if d.op = opFill then (upTo d.lines).map (fun k => d.addr + 64 * k)
  else if d.op = opMove then (upTo d.lines).map (fun k => d.addr2 + 64 * k) else []

/-- Cost of each line of a plane: 1 unit, and 3 for a page not touched before (R203). -/
def pageCosts (locate : Nat → Option (Nat × Nat)) (unit : Nat) : List Nat → List (Nat × Nat) → List Nat
  | [], _ => []
  | a :: as, seen =>
    let pg := match locate a with | some p => (p.1, p.2 / 2048) | none => (16, a / 2048)
    (if seen.contains pg then unit else unit + 3) :: pageCosts locate unit as (pg :: seen)

/-- The costs of a descriptor at the cycles they are scheduled at (R203). -/
def Desc.costs (locate : Nat → Option (Nat × Nat)) (d : Desc) : List (Int × Nat) :=
  let at_ := fun (sh : Int) (l : List Nat) => (List.zip (upTo d.lines) l).map (fun q => ((d.cy q.1 : Int) - sh, q.2))
  if d.op = opRead then at_ 1024 (pageCosts locate 1 d.readAddrs [])
  else if d.op = opReadReq then
    let n := d.lines
    let q := n / d.groupLen
    [((d.cy 0 : Int) - 1024, n + 3 * ((n + 30) / 32 + 1) + (if d.bead = 0 then 0 else 3 * ((q + 30) / 32 + 1)))]
  else if d.op = opMove then
    at_ 0 ((List.zip (pageCosts locate 1 d.readAddrs []) (pageCosts locate 1 d.writeAddrs [])).map (fun q => q.1 + q.2))
  else at_ 0 (pageCosts locate 1 d.writeAddrs [])

/-- Lines staged by this engine in a cycle, counted without merging (R205). -/
def stagedCount (ds : List (Nat × Desc)) (c : Int) : Nat :=
  ((ds.filter (fun q => q.2.op == opRead || q.2.op == opReadReq)).map (fun q =>
    ((upTo q.2.lines).filter (fun k => decide ((q.2.cy k : Int) - 1024 ≤ c) && decide (c < q.2.cy k))).length)).foldl (· + ·) 0

/-- Every fetch point of the engine's lines. -/
def fetchPoints (ds : List (Nat × Desc)) : List Int :=
  (ds.filter (fun q => q.2.op == opRead || q.2.op == opReadReq)).flatMap (fun q => (upTo q.2.lines).map (fun k => (q.2.cy k : Int) - 1024))

/-- Reads and writes of addresses with the cycles at which they count (R205). -/
def readTimes (ds : List (Nat × Desc)) : List (Nat × Int) :=
  ds.flatMap (fun q => (List.zip (upTo q.2.lines) q.2.readAddrs).map (fun r =>
    (r.2, (q.2.cy r.1 : Int) - (if q.2.op = opRead then 1024 else 0))))
def writeTimes (ds : List (Nat × Desc)) : List (Nat × Int) :=
  ds.flatMap (fun q => (List.zip (upTo q.2.lines) q.2.writeAddrs).map (fun r => (r.2, (q.2.cy r.1 : Int))))

/-- Faults of the form of the tables of one task at one engine: status 0x0571 (R205). -/
def copyFormOk (len : Nat) (e : Nat) (ds : List (Nat × Desc)) : Bool :=
  ds.all (fun q => q.2.wellFormed && decide (q.2.cy q.2.count < len)
      && (q.2.op != opReadReq || (decide (q.2.reqCy < len) && decide (q.2.reqCy + 1024 ≤ q.2.cy 0))))
    && noRepeat (colLines e [opRead, opReadReq] ds) && noRepeat (colLines e [opWrite] ds)
    && (fetchPoints ds).all (fun c => decide (stagedCount ds c ≤ 4096))

/-- Arrivals at the plan ports of the engines: engine, column, cycle (R196). -/
def Grid.engineArrivals (g : Grid) (pl : List (Nat × Nat × Nat)) : List (Nat × Nat × Nat) :=
  (pl.filter g.fromEngine).map (fun q =>
    let ec := engineOfColumn (q.1 % 48) (q.2.1 == 0)
    (ec.1, ec.2, q.2.2 + g.hop (q.1 % 48) (q.1 / 48) q.2.1 + 6))

/-- Flits of the engines at the routers: tile, port, cycle (R196). -/
def Grid.engineDepartures (g : Grid) (ls : List (Nat × Nat × Nat)) : List (Nat × Nat × Nat) :=
  ls.map (fun q =>
    let top := engTop q.1
    let x := engColumn q.1 q.2.1
    let y := if top then g.logicalRows - 1 else 0
    (48 * y + x, edgePort top, q.2.2 + g.hop x y (edgePort top) + 6))

/-- The cross-check of a task against the port routers' entries (R205). -/
def crossOk (g : Grid) (p : Plan) (task : Nat) : Bool :=
  let es := taskEntries p task
  let arr := g.engineArrivals (placements es)
  let tk := (takings es).filter g.fromEngine
  let exp := p.engs.flatMap (fun r =>
    let ds := taskDescs r task
    colLines r.e [opWrite] ds ++ (ds.filter (fun q => q.2.op == opReadReq)).map (fun q => (r.e, q.2.col, q.2.reqCy)))
  let dep := g.engineDepartures (p.engs.flatMap (fun r => colLines r.e [opRead, opReadReq] (taskDescs r task)))
  arr.all (fun a => exp.contains a) && exp.all (fun a => arr.contains a) && dep.all (fun a => tk.contains a) && tk.all (fun a => dep.contains a)

/-- The write-to-read distance of a stack: within a step, and across the shortest fence from every task to every other (R205). -/
def distanceOk (p : Plan) (stack : Nat) : Bool :=
  let mine := p.engs.filter (fun r => r.e / 2 == stack)
  let tasks := upTo p.lengths.length
  let rt := fun n => mine.flatMap (fun r => readTimes (taskDescs r n))
  let wt := fun n => mine.flatMap (fun r => writeTimes (taskDescs r n))
  let fence : Int := 2 * p.fenceD + 40
  tasks.all (fun n => (rt n).all (fun r =>
    (wt n).all (fun w => w.1 != r.1 || ! (decide (0 ≤ r.2 - w.2) && decide (r.2 - w.2 < 1024)))
    && tasks.all (fun m => (wt m).all (fun w => w.1 != r.1 || decide (1024 ≤ (p.len m : Int) - w.2 + fence + r.2)))))

/-- Check 10 of R221: the first of the statuses of R205, in the table's order, that applies; 0 when none (DEDUCED order, log entry 18). -/
def checkCopies (s : State) (p : Plan) : Nat :=
  let g := s.grid
  let tasks := upTo p.lengths.length
  let loc := locateIn s.presentList p.granule
  let form := tasks.all (fun n => p.engs.all (fun r => copyFormOk (p.len n) r.e (taskDescs r n)) && crossOk g p n)
  let budget := tasks.all (fun n => p.engs.all (fun r => ! overWindow 1024 5120 ((taskDescs r n).flatMap (fun q => q.2.costs loc))))
  let inStack := fun (e a : Nat) => match loc a with | some q => q.1 == e / 2 | none => false
  let addrs := tasks.all (fun n => p.engs.all (fun r => (taskDescs r n).all (fun q => (q.2.readAddrs ++ q.2.writeAddrs).all (inStack r.e))))
  let dist := (upTo 16).all (distanceOk p)
  if ! form then 0x0571 else if ! budget then 0x0572 else if ! addrs then 0x0576 else if ! dist then 0x0574 else 0

end Sys2Proof.Machine
end

