-- ==== Sys2Proof/Machine/MeshOps.lean ====
section
/-! DEFINITION. The mesh between tiles: where plan flits go when they leave a router (R167, R169, R196), and the hops of service lines (R183,
R187, R188). -/

namespace Sys2Proof.Machine

/-- The crossing before an input has slipped since the last fence: it delivers every flit with POISON 1 (R293). -/
def State.crossingSlipped (s : State) (t port : Nat) : Bool := s.clk.slipped.contains (8 * t + port)

/-- A plan flit leaves a router, its HOPCHK intact or not: to the neighbour's input, to the plan port of the engine whose column it is, or to the link switch. -/
def State.flitLeaves (s : State) (t : Nat) (f : FlitOut) (corrupt : Bool) : State :=
  let x := t % 48
  let y := t / 48
  match s.grid.portTo x y f.port with
  | .router x' y' =>
    s.deliverFlit (48 * y' + x') (oppositePort f.port) (f.cy + s.grid.hop x y f.port) f.data
      (f.poison || s.crossingSlipped (48 * y' + x') (oppositePort f.port)) corrupt
  | .engineEdge top =>
    let e := engineOfColumn x top
    s.updEng (engIx e.1) (fun g => if g.stopped then g else
      { g with port := g.port ++ [⟨e.2, f.cy + s.grid.hop x y f.port + 6, f.data, f.poison, corrupt⟩] })
  | .linkSwitch right =>
    let key := (if right then 64 else 0) + y
    { s with link := { s.link with rows := SMap.put [] s.link.rows key (SMap.get [] s.link.rows key ++ [⟨f.data, f.poison || corrupt⟩]) } }
  | _ => s

/-- A slot-table entry as a command. -/
def State.runSlot (op : Nat) (t entry : Nat) (entryBad corrupt : Bool) (s : State) : State :=
  let r := slotStep op entry entryBad (s.tile t)
  let s1 := s.putTile t r.out
  match r.flit with
  | some f => s1.flitLeaves t f corrupt
  | none => s1

/-- The output port of a packet at a router: logical column first, then logical row (R183, R390). -/
def State.svRoute (s : State) (t : Nat) (l : SvLine) : Nat :=
  let h := hdrOf l.data
  let x := t % 48
  let y := t / 48
  let go := fun (dx dy last : Nat) => if y < dy then 0 else if dy < y then 2 else if x < dx then 1 else if dx < x then 3 else last
  if hDkind h = 1 then go 47 0 2
  else if hDkind h = 2 ∧ l.entered = false then
    let k := match s.route (hDev h) with
      | some p => s.portLink p
      | none => ((upTo 36).find? (fun k => (s.linkSt k).state != lsNone)).getD 0
    let q := s.linkPlace k
    go (edgeCol q.1) q.2 (edgeIn q.1)
  else go (hDx h) (hDy h) 4

/-- One service channel of one output. -/
def hopIx (out ch : Nat) : Fin 10 := ⟨(2 * out + ch) % 10, Nat.mod_lt _ (by decide)⟩
def Tile.hopOut (t : Tile) (out ch : Nat) : HopOut := t.router.outs[hopIx out ch]
def Tile.updHop (t : Tile) (out ch : Nat) (f : HopOut → HopOut) : Tile :=
  t.updRouter (fun r => { r with outs := r.outs.set (hopIx out ch) (f (t.hopOut out ch)) })

/-- The input that an output serves next: the one whose packet holds it, else the next in round-robin order with a header for it. -/
def State.hopInput (s : State) (t out ch : Nat) : Option Nat :=
  let tl := s.tile t
  let o := tl.hopOut out ch
  let head := fun (i : Nat) => (SMap.get ([] : List SvLine) tl.router.ins (i * 2 + ch)).head?
  match o.lock with
  | some i => if (head i).isSome then some i else none
  | none =>
    let busy := fun i => (upTo 5).any (fun p => (tl.hopOut p ch).lock == some i)
    ((upTo 5).map (fun k => (o.rr + 1 + k) % 5)).find? (fun i => ! busy i && (match head i with
      | some l => s.svRoute t l == out
      | none => false))

/-- A line and a credit are there. -/
def State.hopReady (s : State) (t out ch : Nat) : Bool := decide (0 < ((s.tile t).hopOut out ch).credits) && (s.hopInput t out ch).isSome

/-- The management processor takes a packet at the bottom port router of column 47, and answers a request (R182 to R185). What it answers
is a free value (log entry 20). -/
def State.managerLine (s : State) (ch : Nat) (l : SvLine) : State :=
  let key := 1024 + ch
  let ls := SMap.get [] s.link.svc key ++ [l]
  if ! l.last then { s with link := { s.link with svc := SMap.put [] s.link.svc key ls } }
  else
    let s1 := { s with link := { s.link with svc := SMap.put [] s.link.svc key [] } }
    let h := hdrOf (ls.headD l).data
    if ! isRequest h then s1
    else
      let st := if Config.managerTakes h then stDone else stNoDestination
      s1.updTile 47 (fun t => t.updRouter (fun r => { r with ins := SMap.put [] r.ins 5 (SMap.get [] r.ins 5 ++ [switchCompl h st true 0]) }))

/-- Hand a line over to what an output joins; the second part says whether the credit stays with a buffer entry downstream. -/
def State.hopInto (s : State) (t out ch : Nat) (l : SvLine) (corrupt : Bool) : State × Bool :=
  let bad := { l with poison := l.poison || corrupt }
  match s.grid.portTo (t % 48) (t / 48) out with
  | .router x y =>
    let u := 48 * y + x
    let l := { l with poison := l.poison || s.crossingSlipped u (oppositePort out) }
    let r := svArrive (oppositePort out) ch l corrupt (s.tile u)
    (s.putTile u r.1, r.2)
  | .local =>
    (s.updTile t (fun t => t.updRouter (fun r =>
      if ch = 0 then { r with rxReq := r.rxReq ++ [bad] } else { r with rxRsp := r.rxRsp ++ [bad] })), true)
  | .linkSwitch right => (s.switchTake right (t / 48) ch bad, false)
  | .engineEdge top => (if top = false ∧ t = 47 then s.managerLine ch bad else s, false)
  | .unconnected => (s, false)

/-- A service line moves through an output (R183): the credit is taken, the freed entry's credit starts back to the router before, and the
packet holds the output to its last line. The response channel goes first. -/
def State.hopLine (s : State) (t out ch : Nat) (corrupt : Bool) : State :=
  if (ch = 0 ∧ s.hopReady t out 1 = true) ∨ s.hopReady t out ch = false then s
  else match s.hopInput t out ch with
    | none => s
    | some i =>
      match SMap.get ([] : List SvLine) (s.tile t).router.ins (i * 2 + ch) with
      | [] => s
      | l :: rest =>
        let s1 := s.updTile t (fun t =>
          (t.updRouter (fun r => { r with ins := SMap.put [] r.ins (i * 2 + ch) rest })).updHop out ch (fun o =>
            { o with credits := o.credits - 1, lock := if l.last then none else some i, rr := i }))
        let s2 := match s.grid.portTo (t % 48) (t / 48) i with
          | .router x y => s1.updTile (48 * y + x) (fun u => u.updHop (oppositePort i) ch (fun o => { o with returning := o.returning + 1 }))
          | _ => s1
        let r := s2.hopInto t out ch l corrupt
        if r.2 then r.1 else r.1.updTile t (fun t => t.updHop out ch (fun o => { o with returning := o.returning + 1 }))

/-- A command of a tile over the whole device: a tile outside the grid is a fault. -/
def onGrid (t : TileIx) (f : State → State) (s : State) : Res := if s.grid.hasTile t.val then .next (f s) else .fault .noSuchTile

/-- Is the sender of a header a tile of the same job (R162). -/
def State.senderInJob (s : State) (t : Nat) : Bool :=
  match (s.tile t).router.land with
  | l :: _ =>
    let h := hdrOf l.header
    hDkind h != 2 && (s.tile t).job.isSome && (s.tile (48 * hSy h + hSx h)).job == (s.tile t).job
  | [] => true

end Sys2Proof.Machine
end

