-- ==== Sys2Proof/Machine/RetryOps.lean ====
section
/-! DEFINITION. The retry table of the life record (R364 to R366). -/

namespace Sys2Proof.Machine

/-- Actions of the retry table (R365). -/
def raSkip : Nat := 1
def raLevel1 : Nat := 2
def raLevel2 : Nat := 3
def raFull : Nat := 4

/-- Causes of the retry table (R365). -/
def rcBudget : Nat := 1
def rcNotGood : Nat := 2
def rcVerify : Nat := 3
def rcTrain : Nat := 5
def rcTimeout : Nat := 6
def rcHot : Nat := 7

/-- The actions of an item, from left to right (R364). -/
def itemActions (kind : Nat) : List Nat :=
  match kind with
  | 1 => [raSkip]
  | 2 => [raSkip]
  | 3 => [raLevel1, raSkip]
  | 4 => [raLevel1]
  | 6 => [raLevel1, raLevel2, raSkip]
  | 7 => [raFull]
  | 8 => [raLevel1]
  | 9 => [raSkip]
  | 10 => [raLevel1, raSkip]
  | _ => []

/-- The stage of an item (R364). -/
def itemStage (kind : Nat) : Nat :=
  match kind with
  | 1 => 0 | 2 => 1 | 3 => 3 | 4 => 4 | 6 => 6 | 7 => 6 | 8 => 7 | 9 => 7 | _ => 8

/-- The action to the right of one; the last stays. -/
def nextAction : List Nat → Nat → Nat
  | [], a => a
  | [_], a => a
  | x :: y :: l, a => if x = a then y else nextAction (y :: l) a

def isItem (kind unit : Nat) (r : Retry) : Bool := r.item == kind && r.unit == unit

/-- The entry of an item. -/
def State.retryOf (s : State) (kind unit : Nat) : Option Retry := s.life.retry.find? (isItem kind unit)

/-- The action of an item in the start in progress, as fixed at S2; 0 on the normal path (R366). -/
def State.actionOf (s : State) (kind unit : Nat) : Nat :=
  match s.boot.actions.find? (fun a => a.1 == kind && a.2.1 == unit) with
  | some a => if a.2.2.2 then 0 else a.2.2.1
  | none => 0

/-- Is the normal path of the item tried again in this start (R366). -/
def State.triesNormal (s : State) (kind unit : Nat) : Bool :=
  match s.boot.actions.find? (fun a => a.1 == kind && a.2.1 == unit) with
  | some a => a.2.2.2
  | none => false

/-- Put a new entry into the table: when it is full, it replaces the entry with the oldest tally whose action is not the skip (R365). -/
def addRetry (r : Retry) (l : List Retry) : List Retry :=
  if l.length < 256 then l ++ [r]
  else
    let cand := l.filter (fun x => x.action != raSkip)
    match cand with
    | [] => l
    | c :: cs => let old := cs.foldl (fun m x => if x.tally < m.tally then x else m) c
                 l.map (fun x => if x = old then r else x)

/-- A failed item creates or advances its entry (R364, R366). -/
def State.retryFail (s : State) (kind unit cause : Nat) : State :=
  let acts := itemActions kind
  let now := s.tally.now
  let l := match s.retryOf kind unit with
    | none => addRetry ⟨itemStage kind, kind, unit, acts.headD raSkip, 0, 3, cause, now⟩ s.life.retry
    | some r =>
      let r1 := if s.triesNormal kind unit then
          { r with cleanSeen := 0, cleanReq := if r.cleanReq = 0xFF ∨ 48 ≤ r.cleanReq then 0xFF else 2 * r.cleanReq, tally := now, cause := cause }
        else { r with
          action := nextAction acts r.action, cleanSeen := if nextAction acts r.action = r.action then r.cleanSeen else 0, tally := now, cause := cause }
      s.life.retry.map (fun x => if isItem kind unit x then r1 else x)
  { s with life := { s.life with retry := l }, boot := { s.boot with newRetry := true } }

/-- The entry of an item is removed: its normal path succeeded when tried again, or its full training did (R364, R366). -/
def State.retryRemove (s : State) (kind unit : Nat) : State :=
  { s with life := { s.life with retry := s.life.retry.filter (fun r => ! isItem kind unit r) } }

/-- An item passes: its entry goes when the start tried the normal path again. -/
def State.retryPass (s : State) (kind unit : Nat) : State := if s.triesNormal kind unit then s.retryRemove kind unit else s

end Sys2Proof.Machine
end

