-- ==== Sys2Proof/Machine/JobOps.lean ====
section
/-! DEFINITION. Jobs (R221 to R238): loading and its checks, the start of a job, its end, and the logs. -/

namespace Sys2Proof.Machine

/-! ## Loading (R221) -/

/-- LOAD (R221): check 1. -/
def State.loadJob (j : SlotIx) : Writer := fun s =>
  if (s.job j).state ≠ jsEmpty then (s.bump (ck 0x7020 1) 1, 0x0701)
  else ((s.updJob j (fun b => { b with status := 0, energyUj := 0, energyFinal := 0 })).setJobState j jsLoading, 0)

/-- The loads end without success: the slot returns to EMPTY (R221). -/
def State.refuseLoad (s : State) (j : SlotIx) (status : Nat) : State :=
  ((s.updJob j (fun b => { b with status := status })).setJobState j jsEmpty).bump (ck 0x7020 1) 1

/-- The effective key digest of a plan (R236). -/
def State.planKey (s : State) (p : Plan) : Nat :=
  keyDigest s.fuses.stepping p.round p.reduction (match s.boot.image with | some f => f.imageDigest | none => 0) p.ditherKey

/-- Check 5: a unit or a link feature is absent (R221, R378); a part in management only refuses every plan (R350, log entry 31). -/
def State.unitAbsent (s : State) (p : Plan) : Bool :=
  s.boot.outcome == 2 || (p.usesUpdate && ! s.fuses.updateEngines) || (p.mirror && s.grid.rows == 0)
  || p.engineSet.any (fun e => ! s.stackUsable (e / 2))
  || (p.grouping != 0 && p.grouping != s.link.grouping)
  || p.portSet.any (fun q => (s.members q).isEmpty || (p.reduction == 1 && ! s.portFeature q 3))

/-- Check 6: a zone, engine or port of another job, or a zone under test (R221, R281). -/
def State.resourcesInUse (s : State) (p : Plan) : Bool :=
  p.zoneSet.any (fun z => (s.zoneOwner z).isSome || s.check.tests.any (fun q => q.unit == z && q.running && q.kind != 6))
  || p.engineSet.any (fun e => (s.engineOwner e).isSome || s.check.tests.any (fun q => q.unit == e / 2 && q.running && q.kind == 6))
  || p.portSet.any (fun q => (s.portOwner q).isSome)

/-- Check 11: a bank declared "use" is resident with its tag (R158). -/
def State.residenceOk (s : State) (p : Plan) : Bool :=
  p.tiles.all (fun r => (upTo 16).all (fun b =>
    let u := bankUse r.resid b
    u.1 != useUse || (((s.tile r.t).residOf b).resident && ((s.tile r.t).residOf b).tag == u.2)))

/-- The status of the first check from 3 to 11 that fails; 0 when none does (R221). -/
def State.loadStatus (s : State) (p : Plan) : Nat :=
  if p.targetShadow ≠ s.grid.digest.toNat then 0x0703
  else if s.planKey p ≠ p.keyDigest ∧ p.keyFree = false then 0x0704
  else if s.unitAbsent p then 0x0705
  else if s.resourcesInUse p then 0x0706
  else if p.zoneSet.any s.zoneHeld then 0x0707
  else if p.stackMask ≠ s.mem.present.toNat ∨ p.granule ≠ s.life.granule then 0x0573
  else if ! checkSlots s.grid p then 0x0962
  else
    let c := checkCopies s p
    if c ≠ 0 then c else if s.residenceOk p then 0 else 0x0741

/-- The records of a plan are written to the tiles and engines (R192, R214, R218). -/
def State.writeRecords (s : State) (p : Plan) : State :=
  let s1 := p.tiles.foldl (fun s r => s.updTile r.t (fun t =>
    { t with taskTab := r.tasks, digTab := r.digs, router := { t.router with slots := r.slots } })) s
  p.engs.foldl (fun s r => s.updEng (engIx r.e) (fun g => { g with table := r.table, ranges := r.ranges })) s1

/-- The checks end (R221). Zones that are off or parked are switched on first, and the slot stays LOADING until they are ON (R329). -/
def State.loadChecks (s : State) (j : SlotIx) : State :=
  let b := s.job j
  if b.state ≠ jsLoading then s
  else match parsePlan s b.planAddr.toNat with
    | none => s.refuseLoad j 0x0702
    | some p =>
      let st := s.loadStatus p
      if st ≠ 0 then (s.refuseLoad j st).bump (ck 0x9130 6) (if st = 0x0741 then 1 else 0)
      else if p.zoneSet.any (fun z => (s.zonePwr z).state != zsOn) then p.zoneSet.foldl State.requestOn s
      else
        ((s.writeRecords p).updJob j (fun b => { b with
          plan := some p, status := 0, keyEff := s.planKey p, source := p.sourceDigest, pending := [], seq := 0, ownFrom := s.tally.now })).setJobState j jsLoaded

/-! ## Starting (R157, R219, R238, R249, R398) -/

/-- Address of a group's record (R245). -/
def schedHeader (b : Job) (g : Nat) : Nat := b.schedAddr.toNat + 576 * g

/-- The engine that commits writes at an address: of the stack's engines that the job owns, the lower (R249). -/
def State.schedEngine (s : State) (p : Plan) (addr : Nat) : Option Nat :=
  match s.locate addr with
  | some q => [2 * q.1, 2 * q.1 + 1].find? (fun e => p.engines.testBit e)
  | none => none

/-- The schedule table is reachable (R249). -/
def State.schedOk (s : State) (b : Job) (p : Plan) : Bool :=
  ! p.usesUpdate || b.schedGroups == 0
  || (b.schedAddr.toNat % 64 == 0 && (upTo b.schedGroups).all (fun g => (s.schedEngine p (schedHeader b g)).isSome))

/-- An entry of the event log (R232). -/
def logEntry (fence seq tally index sub size value : Nat) : List Byte :=
  leOfNat 4 fence ++ leOfNat 4 seq ++ leOfNat 8 tally ++ leOfNat 2 index ++ leOfNat 1 sub ++ leOfNat 1 size ++ [0, 0, 0, 0] ++ leOfNat 8 value

/-- The entries of an event log up to the first of fence 0 (R231, R232; the end of a log: log entry 18). -/
def readLog : Nat → List (List Byte) → List (Nat × FenceEv)
  | 0, _ => []
  | _ + 1, [] => []
  | n + 1, b :: bs =>
    if leAt b 0 4 = 0 then [] else
    (leAt b 0 4, ⟨leAt b 4 4, leAt b 16 2, leAt b 18 1, leAt b 24 8, leAt b 19 1, 0⟩) :: readLog n bs

/-- A preload: bytes of device memory, with the parity of a poisoned source line inverted (R180, R219). -/
def State.preload (s : State) (t : Nat) (q : Nat × Nat × Nat) : State :=
  (upTo (q.2.1 / 64)).foldl (fun s i =>
    let a := q.2.2 + 64 * i
    let v := bytesLine (s.memBytes a 64)
    let bad := s.memPoisoned a 64
    s.updTile t (fun t => spLand false bad (q.1 + 64 * i) v t)) s

/-- The tiles of a starting job: registers, ledgers, scrub, preloads (R104, R157, R190, R192, R219). -/
def State.startTiles (s : State) (j : SlotIx) (p : Plan) : State :=
  p.tiles.foldl (fun s r =>
    let o := ((s.tile r.t).jobStart j.val p.residue p.mirror p.dither).andThen (startResidence r.resid)
    r.preload.foldl (fun s q => s.preload r.t q) (s.putTile r.t o)) s

def State.startEngines (s : State) (p : Plan) : State :=
  p.engs.foldl (fun s r => s.updEng (engIx r.e) (EngSt.jobStart r.table r.ranges p.firstTask)) s

/-- Kinds of messages between devices on the management lane (R396 to R399, R284, R343); the spec gives them no code (log entry 22). -/
def pkElect : Nat := 1
def pkHeartbeat : Nat := 2
def pkReady : Nat := 3
def pkStart : Nat := 4
def pkReport : Nat := 5
def pkDecision : Nat := 6
def pkWcmp : Nat := 7
def pkDebit : Nat := 8
def pkCredit : Nat := 9
def pkAck : Nat := 10
def pkBreak : Nat := 11
def pkOutvote : Nat := 12

/-- START and REPLAY_START (R238). -/
def State.startJob (j : SlotIx) (replay : Bool) : Writer := fun s =>
  let b := s.job j
  match b.plan with
  | none => (s, 0x0107)
  | some p =>
    if b.state ≠ jsLoaded then (s, 0x0107)
    else if ! s.schedOk b p then (s, 0x0801)
    else if b.groupId ≠ 0 ∧ (s.link.state = csConflict ∨ s.link.master = 0xFFFF) then (s, 0x0719)
    else
      let s := { s with mem := { s.mem with granule := s.life.granule } }
      let log := if replay then readLog (b.evLen / 32) ((upTo (b.evLen / 32)).map (fun i => s.memBytes (b.evAddr.toNat + 32 * i) 32)) else []
      let s1 := (s.startTiles j p).startEngines p
      let s2 := s1.updJob j (fun b => { b with
        steps := 0, planFences := 0, jobCy := 0, extraCy := 0, rerunSteps := 0, rerunCy := 0, layer := Vector.replicate 8 0
        startTally := 0, endTally := 0, laggards := [], phase := .starting, task := p.firstTask, len := p.len p.firstTask, reruns := 0
        execs := [], arrived := [], late := 0, stopReq := none, replay := replay, log := log, evUsed := 0, dgUsed := 0, updBeads := 0
        updFrozen := 0, halted := false, ready := [], reports := [], startAt := none, sent := [], landed := [], carried := false
        linkStops := [], linkDets := [], groupStop := none })
      let s3 := if b.groupId = 0 then s2
        else if s.link.master = s.boot.deviceId then
          s2.updJob j (fun b => { b with ready := [(s.boot.deviceId, b.members, b.keyEff)] })
        else s2.send (.peer s2.link.master pkReady ([b.groupId, s2.boot.deviceId, b.keyEff] ++ b.members))
      (s3.setJobState j jsRunning, 0)

/-- Every engine of the job holds the early lines of its range (R210, R238). -/
def State.stagedForStart (s : State) (p : Plan) : Bool :=
  p.engineSet.all (fun e => let g := s.eng (engIx e)
                            g.earlyStaged (g.first, g.count) false)

/-- Cycle 0 of the first step (R133, R134, R238). -/
def State.releaseCycle0 (s : State) (j : SlotIx) (p : Plan) : State :=
  let s1 := p.tiles.foldl (fun s r => s.putTile r.t ((s.tile r.t).firstStep p.firstTask (r.range p.firstTask))) s
  (s1.updJob j (fun b => { b with phase := .step, startTally := s.tally.now })).armTiles j

/-- The job is ready for cycle 0; a member of a group waits for its start tally (R238, R398). -/
def State.cycle0 (s : State) (j : SlotIx) : State :=
  let b := s.job j
  match b.plan with
  | none => s
  | some p =>
    if b.running ∧ (b.phase = .starting ∨ b.phase = .waitTally) ∧ s.stagedForStart p = true then
      if b.groupId = 0 then s.releaseCycle0 j p
      else match b.startAt with
        | some t => if t ≤ s.tally.now then s.releaseCycle0 j p else s.updJob j (fun b => { b with phase := .waitTally })
        | none => s.updJob j (fun b => { b with phase := .waitTally })
    else s

/-! ## The end of a job (R157, R163, R187, R211, R228, R238, R275) -/

/-- The plan lines that the switches of the job's ports still hold are dropped. -/
def State.dropRows (s : State) (p : Plan) : State :=
  let ks := p.portSet.flatMap (fun q => (portLinks s.link.grouping q).map (fun l => (if 18 ≤ l then 64 else 0) + (s.grid.attach l).1))
  { s with link := { s.link with rows := s.link.rows.filter (fun r => ! ks.contains r.1) } }

/-- The job in a running slot ends with a status. -/
def State.endJob (s : State) (j : SlotIx) (status : Nat) (normal : Bool) : State :=
  let b := s.job j
  match b.plan with
  | none => (s.updJob j (fun b => { b with status := status, endTally := s.tally.now, energyFinal := b.energyUj / 1000, phase := .none })).setJobState j jsEnded
  | some p =>
    let s1 := if b.running then
        let s1 := p.tiles.foldl (fun s r => s.putTile r.t (((s.tile r.t).jobEnd).upd (endResidence normal r.resid))) s
        (p.engineSet.foldl (fun s e => s.engStop (engIx e)) s1).dropRows p
      else s
    let s2 := s1.bump (ck 0x7020 3) b.pending.length
    let s3 := s2.updJob j (fun b => { b with
      status := status, phase := .none, pending := [], stopReq := none, endTally := s.tally.now, energyFinal := b.energyUj / 1000
      halted := false, linkStops := [], groupStop := none })
    let s4 := { s3 with prot := { s3.prot with halts := s3.prot.halts.set j none, haltAt := s3.prot.haltAt.set j none } }
    (s4.setJobState j jsEnded).parkHeld p.zoneSet

/-! ## Digest log and event log (R232, R235) -/

/-- Append a digest-log entry, or count its loss. -/
def State.digestLog (s : State) (j : SlotIx) : State :=
  let b := s.job j
  if 80 * (b.dgUsed + 1) ≤ b.dgLen then
    let e := leOfNat 4 b.planFences ++ [0, 0, 0, 0] ++ leOfNat 8 b.steps ++ b.layer.toList.flatMap (fun d => leOfNat 8 d.toNat)
    (s.memWrite (b.dgAddr.toNat + 80 * b.dgUsed) e false).updJob j (fun b => { b with dgUsed := b.dgUsed + 1 })
  else s.bump (ck 0x7020 4) 1

/-- GROUP_ETA, GROUP_FROZEN and DIGEST_SNAPSHOT by index (R238, R260): the group of the first two. -/
def evEta (index sub : Nat) : Option Nat := if 0x8200 ≤ index ∧ index < 0x8280 then some (index % 16 * 256 + sub) else none
def evFrozen (index sub : Nat) : Option Nat := if 0x8300 ≤ index ∧ index < 0x8380 then some (index % 16 * 256 + sub) else none

/-- Apply one fence event (R231, R248): the group record in the schedule table takes the value. -/
def State.applyEvent (s : State) (j : SlotIx) (e : FenceEv) : State :=
  let b := s.job j
  match evEta e.index e.sub, evFrozen e.index e.sub with
  | some g, _ =>
    (s.memWrite (schedHeader b g + 8) (leOfNat 4 e.value) false).updJob j (fun b => { b with etas := SMap.put 0 b.etas g e.value })
  | none, some g =>
    let a := schedHeader b g + 4
    let old := natOfLE (s.memBytes a 1)
    (s.memWrite a [BitVec.ofNat 8 (old / 2 * 2 + e.value % 2)] false).updJob j (fun b => { b with frozen := SMap.put 0 b.frozen g e.value })
  | none, none => s

/-- Write the log entry of an applied event; a replay has its entries already. -/
def State.logEvent (s : State) (j : SlotIx) (fence : Nat) (e : FenceEv) : State :=
  let b := s.job j
  if b.replay then s
  else (s.memWrite (b.evAddr.toNat + 32 * b.evUsed) (logEntry fence e.seq s.tally.now e.index e.sub e.size e.value) false).updJob j
    (fun b => { b with evUsed := b.evUsed + 1 })

/-- Is an event due at the plan fence of this ordinal (R231). -/
def FenceEv.due (e : FenceEv) (fence now : Nat) : Bool :=
  if e.target / 2 ^ 63 = 1 then e.target % 2 ^ 63 == fence else decide (e.target ≤ now)

/-- Insert by sequence number. -/
def insBySeq (e : FenceEv) : List FenceEv → List FenceEv
  | [] => [e]
  | f :: fs => if e.seq < f.seq then e :: f :: fs else f :: insBySeq e fs

/-- The events of a plan fence apply in sequence order and are logged (R231, R232). -/
def State.applyEvents (s : State) (j : SlotIx) (fence : Nat) : State :=
  let b := s.job j
  let due := if b.replay then (b.log.filter (fun q => q.1 == fence)).map Prod.snd else b.pending.filter (fun e => e.due fence s.tally.now)
  let due := due.foldl (fun l e => insBySeq e l) []
  let s1 := s.updJob j (fun b => { b with pending := if b.replay then b.pending else b.pending.filter (fun e => ! e.due fence s.tally.now) })
  (due.foldl (fun s e => (s.applyEvent j e).logEvent j fence e) s1).bump (ck 0x7020 2) due.length

/-- Accept a write to a fence event (R231, R232). -/
def State.acceptEvent (j : SlotIx) (index sub value size : Nat) : Writer := fun s =>
  let b := s.job j
  let n := b.target.toNat % 2 ^ 63
  if b.replay ∧ b.running then (s, 0x0721)
  else if b.target.toNat / 2 ^ 63 = 1 ∧ n ≤ b.planFences then (s, 0x0720)
  else if b.evLen < 32 * (b.evUsed + b.pending.length + 1) then (s, 0x0722)
  else (s.updJob j (fun b => { b with seq := b.seq + 1, pending := b.pending ++ [⟨b.seq + 1, index, sub, value, size, b.target.toNat⟩] }), 0x0001)

end Sys2Proof.Machine
end

