-- ==== Sys2Proof/Machine/FenceOps.lean ====
section
/-! DEFINITION. Fences (R189, R224 to R235, R268 to R273): arrival, ledgers, the mirror exchange, the outcome at the root, and the release. -/

namespace Sys2Proof.Machine

/-! ## Arrival (R225) -/

def unitKey : FenceUnit → Nat
  | .tile t => t.val
  | .engine e => 2048 + e.val
  | .linkSwitch r => 4096 + (if r then 1 else 0)

/-- The slot-table entries of the running range have placed their last flit (R173, R225). -/
def slotsPlaced (t : Tile) : Bool :=
  (upTo t.router.count).all (fun i =>
    let e := t.router.first + i
    decide ((slotEnt (SMap.get 0 t.router.slots e)).count < SMap.get 0 t.router.next e))

/-- A tile has arrived: it stopped, or all its cores have ended the step and its router is done (R225). -/
def tileArrived (t : Tile) : Bool := t.stopAt.isSome || (t.arrivedAt.isSome && slotsPlaced t)

/-- An engine has arrived (R210, R225): lines done, and the early lines of the task that comes next staged. -/
def State.engineArrived (s : State) (e : EngineIx) (j : SlotIx) : Bool :=
  let g := s.eng e
  g.linesDone && (match s.nextRange e j with
    | some r => g.earlyStaged r true
    | none => true)

/-- A unit arrives at the fence of its job; `late` is the cycles after L. -/
def State.arrive (s : State) (j : SlotIx) (u : FenceUnit) (late : Nat) : State :=
  let b := s.job j
  match b.plan with
  | none => s
  | some p =>
    if b.phase ≠ .step ∨ b.running = false ∨ b.halted = true ∨ b.arrived.any (fun v => unitKey v == unitKey u)
        ∨ ! p.units.any (fun v => unitKey v == unitKey u) then s
    else
      let ok := match u with
        | .tile t => tileArrived (s.tile t.val)
        | .engine e => s.engineArrived e j
        | .linkSwitch _ => true
      if ! ok then s
      else
        let overBy := match u with
          | .tile t => (match (s.tile t.val).arrivedAt with | some a => a - b.len | none => 0)
          | _ => 0
        let s1 := match u with | .engine e => State.noteEngine e s (s.updEng e EngSt.unscheduled) | _ => s
        s1.updJob j (fun b => { b with arrived := b.arrived ++ [u], late := max b.late (max late overBy) })

/-- Every unit of the job has arrived. -/
def Job.allArrived (b : Job) : Bool :=
  match b.plan with
  | some p => p.units.all (fun u => b.arrived.any (fun v => unitKey v == unitKey u))
  | none => false

/-! ## Ledgers (R188 to R190, R210) -/

/-- Lines in the buffer downstream of an output. -/
def State.hopHeld (s : State) (t out ch : Nat) : Nat :=
  match s.grid.portTo (t % 48) (t / 48) out with
  | .router x y => (SMap.get ([] : List SvLine) (s.tile (48 * y + x)).router.ins (oppositePort out * 2 + ch)).length
  | .local => if ch = 0 then (s.tile t).router.rxReq.length else (s.tile t).router.rxRsp.length
  | _ => 0

/-- The hop identity of R188 at one router. -/
def State.hopsOk (s : State) (t : Nat) : Bool :=
  (upTo 5).all (fun out => (upTo 2).all (fun ch =>
    let o := (s.tile t).hopOut out ch
    o.credits + o.returning + s.hopHeld t out ch == 4))

/-- Lines that an engine has placed on a column in the step. -/
def EngSt.placedOn (g : EngSt) (col : Nat) : Nat :=
  (upTo g.count).foldl (fun n i =>
    let d := tableDesc g.table (g.first + i)
    if (d.op = opRead ∨ d.op = opReadReq) ∧ d.col = col then n + SMap.get 0 g.moved (g.first + i) else n) 0

/-- The plan-lane identities of R189 at the inputs of one router: what its neighbours in the job and its engine placed has arrived. -/
def State.flitsOk (s : State) (p : Plan) (t : Nat) : Bool :=
  (upTo 4).all (fun i =>
    let got := SMap.get 0 (s.tile t).router.arrived i
    match s.grid.portTo (t % 48) (t / 48) i with
    | .router x y =>
      let u := 48 * y + x
      if p.tileSet.contains u then SMap.get 0 (s.tile u).router.placed (oppositePort i) == got else got == 0
    | .engineEdge top =>
      let e := engineOfColumn (t % 48) top
      if p.engines.testBit e.1 then (s.eng (engIx e.1)).placedOn e.2 == got else got == 0
    | _ => got == 0)

/-- The request ledgers of a tile's cores (R189). -/
def svLedgerOk (t : Tile) : Bool :=
  ! t.router.badTag && t.router.sv.toList.all (fun c =>
    decide (c.reqs.length ≤ 4) && distinct (c.reqs.map SvReq.tag) && ! c.reqs.any (fun q => c.queue.any (fun e => e.1 == q.tag)))

/-- The tiles and engines at which an invariant fails. -/
def State.breaks (s : State) (p : Plan) : List Nat × List Nat :=
  (p.tileSet.filter (fun t => ! (s.hopsOk t && s.flitsOk p t && svLedgerOk (s.tile t))),
   p.engineSet.filter (fun e => ! (s.eng (engIx e)).ledgerOk))

/-- Record the breaks (R190, R191, R211): router cause 0x08, engine cause 0x07, the counter and the life record. -/
def State.recordBreaks (s : State) (len : Nat) (br : List Nat × List Nat) : State :=
  let s1 := br.1.foldl (fun s t =>
    ((s.updTile t (fun t => (routerFault 8 0 0 len t).updRouter (fun r => { r with broken := true }))).bumpTile t (ck 0x9140 8) 1).lifeFault 4 t 8) s
  br.2.foldl (fun s e => ((s.updEng (engIx e) (engFault 7 0 0 len)).bump (ck 0x9140 8) 1).lifeFault 4 (2048 + e) 7) s1

/-! ## The mirror exchange (R267 to R269) -/

/-- Mirror pairs whose nine values differ, by the even tile. -/
def State.mirrorDiffs (s : State) (p : Plan) : List Nat :=
  if ! p.mirror then [] else
  (p.tileSet.filter (fun t => t % 2 == 0)).filter (fun t =>
    let a := s.tile t
    let b := s.tile (t + 1)
    a.mirrorAcc != b.mirrorAcc || a.dig != b.dig)

def State.recordMirror (s : State) (len : Nat) (ds : List Nat) : State :=
  ds.foldl (fun s t => ((s.updTile t (fun t => t.integrity 5 0 0 0 len)).updTile (t + 1) (fun t => t.integrity 5 0 0 0 len)).bumpTile t (ck 0x9170 3) 1) s

/-! ## Reports (R226, R271) -/

/-- The detections of the execution that has just ended (R271). -/
def State.detections (s : State) (j : SlotIx) (p : Plan) : List Det :=
  p.tileSet.flatMap (fun t => (s.tile t).dets.map (fun d => (⟨d.1, t, d.2.1, d.2.2⟩ : Det)))
  ++ p.engineSet.flatMap (fun e => ((s.eng (engIx e)).causes.filter (fun c => decide (2 ≤ c.1) && decide (c.1 ≤ 6))).map (fun c => (⟨3, e, c.1, c.2⟩ : Det)))
  ++ (s.job j).linkDets.map (fun d => (⟨5, d.1, d.2, 0⟩ : Det))

/-- A tile stopped with a detection, however it was recorded. -/
def State.anyDetection (s : State) (j : SlotIx) (p : Plan) : Bool :=
  ! (s.detections j p).isEmpty || p.tileSet.any (fun t => (s.tile t).detected)

def State.anyTrap (s : State) (j : SlotIx) (p : Plan) : Bool :=
  p.tileSet.any (fun t => (s.tile t).trapped) || p.engineSet.any (fun e => (s.eng (engIx e)).causes.any (fun c => c.1 == 1))
  || (s.job j).linkStops.contains 0x0710

/-- The next task and plan-fence flag that every c0 named, when they agree (R226). -/
def State.agreedNext (s : State) (p : Plan) : Option (Nat × Bool) :=
  match (s.tile p.root).next with
  | some n => if p.tileSet.all (fun t => (s.tile t).next == some n) then some n else none
  | none => none

/-- The kind of the fence: a plan fence when the flag is set at the root (R132, R228). -/
def State.fenceIsPlan (s : State) (p : Plan) : Bool := match (s.tile p.root).next with | some n => n.2 | none => false

/-- Nominal fence length (R227). -/
def nominalFence (d : Nat) (plan : Bool) : Nat := 2 * d + (if plan then 64 else 40)

/-! ## The stop with 0x0711 (R156, R273) -/

/-- The unit reported the same source or cause in all three executions (R273). -/
def persistent (execs : List (List Det)) (d : Det) : Bool :=
  decide (3 ≤ execs.length) && execs.all (fun l => l.any (fun e => e.kind == d.kind && e.unit == d.unit && e.cause == d.cause))

/-- The detections of the last execution that are persistent, one for each unit and source. -/
def persistentDets (execs : List (List Det)) : List Det :=
  ((execs.getLast?).getD []).foldl (fun l d =>
    if persistent execs d && ! l.any (fun e => e.kind == d.kind && e.unit == d.unit && e.cause == d.cause) then l ++ [d] else l) []

/-- The row-block entry of a page (R212, R273): where the base die placed the page is a free value (log entry 23). -/
def rowBlockEntry (page : Nat) : U32 :=
  let v := Config.rowBlock page
  smEntry 6 1 (page / 2 ^ 26 % 16 * 2 ^ 20 + v % 32 * 2 ^ 15 + v / 32 % 12 * 2 ^ 11 + v / 384 % 16 * 2 ^ 7 + v / 6144 % 128)

/-- What is entered at once for a persistent detection (R273); the others wait for the tests at CLEAR or give nothing. -/
def State.enterPersistent (s : State) (slot : Nat) (d : Det) : State :=
  if d.kind = 1 then s.enterDefect (s.parityEntry d.unit (d.info / 4096) (d.info % 4096)) 1 slot 0
  else if (d.kind = 4 ∧ (d.cause = 3 ∨ d.cause = 4)) ∨ (d.kind = 2 ∧ d.cause ≠ 6) then s.enterDefect (rowEntryOf s.grid d.unit) 1 slot d.cause
  else if d.kind = 3 ∧ d.cause = 3 then s.enterDefect (rowBlockEntry d.info) 1 slot 3
  else s

/-- Residence is cleared for a resident bank in which the fault is raised (R156). -/
def State.clearFaultBank (s : State) (d : Det) : State :=
  if d.kind = 1 ∧ ((s.tile d.unit).residOf (d.info / 4096)).resident = true then s.updTile d.unit (fun t => t.setResid (d.info / 4096) ⟨false, 0⟩) else s

/-- The job stops with 0x0711 (R156, R228, R273). -/
def State.detectionStop (s : State) (j : SlotIx) : State :=
  let execs := (s.job j).execs
  let last := (execs.getLast?).getD []
  let s1 := (s.bump (ck 0x9170 5) 1).bump (ck 0x9130 2) (if last.any (fun d => d.kind == 1) then 1 else 0)
  let s2 := (persistentDets execs).foldl (fun s d => s.enterPersistent j.val d) s1
  (last.foldl State.clearFaultBank s2).endJob j 0x0711 false

/-! ## The outcome (R228) -/

/-- What the root decides. -/
inductive FenceOut where
  | stop (status : Nat)
  | detStop
  | rerun
  | finish (status : Nat)
  | go (next : Nat)
  deriving DecidableEq, Repr

/-- The rules of R228 in their order, with what the links of the job's ports ask for: an audit break is a ledger break (R383), a transfer
with a wrong header is handled as a trap (R387), a port down stops the job (R386), and a step that carried a transfer must end at a
plan fence (R399). -/
def State.fenceOutcome (s : State) (j : SlotIx) (p : Plan) (br : List Nat × List Nat) : FenceOut :=
  let b := s.job j
  if ! br.1.isEmpty || ! br.2.isEmpty || b.linkStops.contains 0x0960 then .stop 0x0960
  else if s.anyDetection j p then (if b.reruns < 2 then .rerun else .detStop)
  else if s.anyTrap j p then .stop 0x0710
  else if b.linkStops.contains 0x0718 then .stop 0x0718
  else match s.agreedNext p with
    | none => .stop 0x0712
    | some n =>
      if b.carried && ! n.2 then .stop 0x0712
      else match b.stopReq with
        | some st => .finish st
        | none => match (if n.2 then b.groupStop else none) with
          | some st => .finish st
          | none => if n.1 = 255 then .finish 0x0700 else .go n.1

/-- The digest sums of a step (R235). -/
def State.digestSums (s : State) (p : Plan) : Vector U64 8 :=
  Vector.ofFn (fun k : Fin 8 => p.tileSet.foldl (fun (h : U64) t => if p.mirror = true ∧ t % 2 = 1 then h else h + (s.tile t).dig[k]) 0)

/-- The step completes: counts, digests, events of a plan fence, logs and records (R155, R230 to R235, R265). -/
def State.completeStep (s : State) (j : SlotIx) (p : Plan) (plan : Bool) : State :=
  let b := s.job j
  let sums := s.digestSums p
  let s1 := s.updJob j (fun b => { b with
    steps := satAdd b.steps 1, planFences := b.planFences + (if plan then 1 else 0), jobCy := satAdd b.jobCy (b.len + nominalFence p.fenceD plan)
    extraCy := satAdd b.extraCy b.late, layer := Vector.zipWith (· + ·) b.layer sums })
  let s2 := if plan then s1.applyEvents j (b.planFences + 1) else s1
  let s3 := if plan || b.everyStep then s2.digestLog j else s2
  let s4 := s3.forTiles p.tileSet (fun _ t => t.clearStepRecords)
  if plan then { s4 with clk := { s4.clk with fenceSeen := true } } else s4

/-- Audit flits leave on the member links of the job's ports (R383). -/
def State.sendAudits (s : State) (p : Plan) : State :=
  (p.portSet.flatMap s.upMembers).foldl (fun s l =>
    let k := s.linkSt l
    if k.features.testBit 6 then s.send (.control l 3 (k.vls.toList.map VlSt.sent ++ k.vls.toList.map VlSt.credited)) else s) s

/-- Transfers that the switches hold in part at a fence: the plan placed fewer lines than the header names (R387). -/
def State.shortTransfers (s : State) (j : SlotIx) (p : Plan) : State :=
  p.portSet.foldl (fun s q => (s.members q).foldl (fun s l =>
    let key := (if 18 ≤ l then 64 else 0) + (s.grid.attach l).1
    if (SMap.get [] s.link.rows key).isEmpty then s
    else
      let s1 := { s with link := { s.link with rows := SMap.put [] s.link.rows key [] } }
      (s1.linkFault l 5 j.val).updJob j (fun b => { b with linkStops := b.linkStops ++ [0x0710] })) s) s

/-- The effects in flight take place, and the root has every report (R94, R226, R254, R269). -/
def State.gatherReports (s : State) (j : SlotIx) (p : Plan) : State :=
  let s1 := p.tileSet.foldl (fun s t => s.putTile t (s.tile t).settleUnits) s
  (s1.recordMirror (s1.job j).len (s1.mirrorDiffs p)).shortTransfers j p

/-- A proposal of a member for its group (R399). -/
def outcomeProposal : FenceOut → Proposal
  | .stop st => .stop st
  | .detStop => .stop 0x0711
  | .rerun => .rerun
  | .finish st => .stop st
  | .go _ => .proceed

/-- An end that keeps made residence (R157): a normal end, or a stop by request (DEDUCED, log entry 18). -/
def endsNormally (status : Nat) : Bool := status == 0x0700 || status == 0x0708

/-- Carry out an outcome. -/
def State.carryOut (s : State) (j : SlotIx) (p : Plan) (o : FenceOut) : State :=
  let plan := s.fenceIsPlan p
  match o with
  | .stop st => s.endJob j st false
  | .detStop => s.detectionStop j
  | .rerun => s.updJob j (fun b => { b with phase := .decided b.task true plan })
  | .finish st => (s.completeStep j p plan).endJob j st (endsNormally st)
  | .go n => (s.completeStep j p plan).updJob j (fun b => { b with phase := .decided n false plan })

/-- The transfers of the interval for each member, in the order of the group (R399). -/
def Job.transfers (b : Job) (m : SMap Nat) : List Nat := b.members.map (SMap.get 0 m)

/-- The report of a member to the master (R399). -/
def proposalCode : Proposal → Nat
  | .proceed => 0
  | .rerun => 1
  | .stop st => 65536 + st

def State.reportOut (s : State) (j : SlotIx) (q : Proposal) : Out :=
  let b := s.job j
  .peer s.link.master pkReport ([b.groupId, s.boot.deviceId, b.steps, proposalCode q] ++ b.transfers b.sent ++ b.transfers b.landed)

def outcomeStops : FenceOut → Bool
  | .stop _ => true
  | .detStop => true
  | .finish _ => true
  | _ => false

/-! ## Group fences (R399, R400) -/

/-- A decision of the master reaches a member: at its group fence it is applied; a stop that comes earlier waits for the next plan fence, or
ends the start (R398 to R400). -/
def State.applyDecision (s : State) (j : SlotIx) (d : Proposal) : State :=
  let b := s.job j
  match b.plan with
  | none => s
  | some p =>
    if b.running = false ∨ b.groupId = 0 then s
    else match b.phase, d with
      | .group, d =>
        let o := s.fenceOutcome j p (s.breaks p)
        let s1 := s.updJob j (fun b => { b with waitTk := b.waitTk + (s.tally.now - b.waitFrom), sent := [], landed := [] })
        match d with
        | .proceed => s1.carryOut j p o
        | .rerun => s1.carryOut j p .rerun
        | .stop st =>
          if st = 0x0700 then s1.carryOut j p (.finish st)
          else if outcomeProposal o = .stop st then s1.carryOut j p o else s1.endJob j st false
      | .starting, .stop st => s.endJob j st false
      | .waitTally, .stop st => s.endJob j st false
      | _, .stop st => s.updJob j (fun b => { b with groupStop := some (b.groupStop.getD st) })
      | _, _ => s

def isStop : Proposal → Bool
  | .stop _ => true
  | _ => false

/-- The report of a device, empty when there is none. -/
def reportOf (rs : List GroupReport) (d : Nat) : GroupReport := (rs.find? (fun r => r.device == d)).getD ⟨d, 0, .proceed, [], []⟩

/-- Transfers from one member to another differ from those landed, for members at the same step (R400; members that stopped before the plan
fence of the others are left out: log entry 29). -/
def transfersDiffer (members : List Nat) (rs : List GroupReport) : Bool :=
  let ix := List.zip (upTo members.length) members
  ix.any (fun a => ix.any (fun c =>
    let x := reportOf rs a.2
    let y := reportOf rs c.2
    x.steps == y.steps && x.sent.getD c.1 0 != y.landed.getD a.1 0))

/-- The decisions of R400 for every member, when every report is there. -/
def groupDecisions (members : List Nat) (rs : List GroupReport) : List (Nat × Proposal) :=
  let rs := members.map (reportOf rs)
  let going := (rs.filter (fun r => ! isStop r.proposal)).map GroupReport.steps
  let all := fun d => members.map (fun m => (m, d))
  if going.any (fun n => n != going.headD 0) then all (.stop 0x0712)
  else if transfersDiffer members rs then all (.stop 0x0960)
  else if rs.any (fun r => isStop r.proposal) then
    if rs.all (fun r => r.proposal == .stop 0x0700) then all (.stop 0x0700)
    else rs.map (fun r => (r.device, match r.proposal with | .stop st => .stop st | _ => .stop 0x0714))
  else if rs.any (fun r => r.proposal == .rerun) then all .rerun
  else all .proceed

/-- The master sends decisions and applies its own. -/
def State.decideGroup (s : State) (j : SlotIx) (ds : List (Nat × Proposal)) : State :=
  let b := s.job j
  let me := s.boot.deviceId
  let s1 := (ds.filter (fun d => d.1 != me)).foldl (fun s d => s.send (.peer d.1 pkDecision [b.groupId, proposalCode d.2])) s
  let s2 := s1.updJob j (fun b => { b with reports := [] })
  match ds.find? (fun d => d.1 == me) with
  | some d => s2.applyDecision j d.2
  | none => s2

/-- The master takes a report; with the last one it decides. -/
def State.takeReport (s : State) (j : SlotIx) (r : GroupReport) : State :=
  let b := s.job j
  if b.reports.any (fun q => q.device == r.device) ∨ b.members.contains r.device = false then s
  else
    let rs := b.reports ++ [r]
    let s1 := s.updJob j (fun b => { b with reports := rs })
    if b.members.all (fun d => rs.any (fun q => q.device == d)) then s1.decideGroup j (groupDecisions b.members rs) else s1

/-- The root reports to the master, which may be this device. -/
def State.report (s : State) (j : SlotIx) (q : Proposal) : State :=
  let b := s.job j
  if s.link.master = s.boot.deviceId then s.takeReport j ⟨s.boot.deviceId, b.steps, q, b.transfers b.sent, b.transfers b.landed⟩
  else s.send (s.reportOut j q)

/-- A halt armed for a cycle of the running step has not landed yet (R469). -/
def State.haltInStep (s : State) (j : SlotIx) : Bool :=
  (s.job j).phase == .step && (match s.armedCy j with | some c => decide (c < (s.job j).len) | none => false)

/-- FENCE_ROOT_DECISION (R226 to R228): every unit has arrived. At a plan fence a member of a group reports to the master and waits. -/
def State.rootDecision (s : State) (j : SlotIx) : State :=
  let b := s.job j
  match b.plan with
  | none => s
  | some p =>
    if b.phase ≠ .step ∨ b.running = false ∨ b.halted = true ∨ s.haltInStep j = true ∨ b.allArrived = false then s
    else
      let s1 := (s.gatherReports j p).sendAudits p
      let br := s1.breaks p
      let s2 := s1.recordBreaks b.len br
      let dets := s2.detections j p
      let o := s2.fenceOutcome j p br
      let s3 := s2.updJob j (fun b => { b with execs := b.execs ++ [dets] })
      if b.groupId = 0 then s3.carryOut j p o
      else if s3.fenceIsPlan p then
        (s3.updJob j (fun b => { b with phase := .group, waitFrom := s.tally.now })).report j (outcomeProposal o)
      else (if outcomeStops o then s3.report j (outcomeProposal o) else s3).carryOut j p o

/-! ## The release (R210, R227, R272) -/

/-- The units of a rerun (R272). -/
def State.rerunUnits (s : State) (j : SlotIx) (p : Plan) (plan : Bool) : State :=
  let s1 := s.forTiles p.tileSet (fun _ t => t.rerunStep)
  let s2 := p.engineSet.foldl (fun s e => s.updEng (engIx e) EngSt.rerunStep) s1
  ((s2.updJob j (fun b => { b with
    phase := .step, reruns := b.reruns + 1, rerunSteps := b.rerunSteps + (if b.reruns = 0 then 1 else 0)
    rerunCy := satAdd b.rerunCy (b.len + b.late + nominalFence p.fenceD plan), arrived := [], late := 0, carried := false, linkDets := [] })).bump
    (ck 0x9170 4) 1).armTiles j

/-- The units of the next step: the handover of R151 at the tiles, and the range of the task at the engines. -/
def State.nextUnits (s : State) (j : SlotIx) (p : Plan) (n : Nat) : State :=
  let s1 := p.tiles.foldl (fun s r => s.putTile r.t ((s.tile r.t).nextStep (s.env r.t) n (r.range n))) s
  let s2 := p.engs.foldl (fun s r => s.updEng (engIx r.e) (EngSt.nextStep (rangeOf r.ranges n))) s1
  (s2.updJob j (fun b => { b with
    phase := .step, task := n, len := p.len n, reruns := 0, execs := [], arrived := [], late := 0, carried := false, linkDets := [] })).armTiles j

/-- A halt lands before cycle 0 of the next step: its cycle fell at or after L (R469). -/
def State.haltAtFence (s : State) (j : SlotIx) : Bool :=
  match s.prot.halts[j] with
  | some h => (s.job j).phase != .step && (decide (h.step < (s.job j).steps) || (! h.fresh && h.step == (s.job j).steps && decide ((s.job j).len ≤ h.cyc) && decide (0 < (s.job j).execs.length)))
  | none => false

/-- FENCE_RELEASE (R227). Crossings that slipped are counted anew in the next step. -/
def State.release (s : State) (j : SlotIx) : State :=
  let b := s.job j
  match b.plan, b.phase with
  | some p, .decided n rerun plan =>
    if b.running = false ∨ b.halted = true ∨ s.haltAtFence j = true then s
    else
      let s1 := { s with clk := { s.clk with slipped := s.clk.slipped.filter (fun c => ! p.tileSet.contains (c / 8)) } }
      if rerun then s1.rerunUnits j p plan else s1.nextUnits j p n
  | _, _ => s

/-! ## Step timeout and kill (R229) -/

/-- The tile named for a unit that has not arrived: its own, or the one through which it joins the fence network. -/
def State.unitTile (s : State) (p : Plan) (u : FenceUnit) : Option Nat :=
  match u with
  | .tile t => some t.val
  | .engine e => s.grid.engineJoin p.tileSet e.val
  | .linkSwitch r => (s.grid.switchJoin p.tileSet p.grouping p.ports r).map Prod.fst

/-- A unit has not arrived by 2L: the job stops, and the first sixteen are listed. -/
def State.stepTimesOut (s : State) (j : SlotIx) : State :=
  let b := s.job j
  match b.plan with
  | none => s
  | some p =>
    if b.phase ≠ .step ∨ b.running = false ∨ b.halted = true ∨ b.allArrived = true then s
    else
      let late := p.units.filter (fun u => ! b.arrived.any (fun v => unitKey v == unitKey u))
      let ts := (late.filterMap (s.unitTile p)).foldl (fun l t => insNat t l) []
      ((s.updJob j (fun b => { b with laggards := ts.take 16 })).bump (ck 0x7020 5) 1).endJob j 0x0713 false

/-- KILL (R229). -/
def State.killJob (j : SlotIx) : Writer := fun s =>
  let b := s.job j
  if b.holds then (s.endJob j 0x0709 false, 0) else (s, 0x0107)

/-- STOP (R238). -/
def State.stopJob (j : SlotIx) : Writer := fun s =>
  if (s.job j).state = jsRunning then (s.askStop j 0x0708, 0) else (s, 0x0107)

/-! ## CLEAR (R238, R273, R274, R279) -/

/-- A tile's link that an input joins, as tile and direction of a mesh-wire entry (R31). -/
def State.inputLink (s : State) (t port : Nat) : Nat × Nat :=
  match port with
  | 0 => (s.grid.phys t, 1)
  | 1 => (s.grid.phys t, 0)
  | 2 => (s.grid.phys (t - 48), 1)
  | _ => (s.grid.phys (t - 1), 0)

/-- SELFTESTS_RUN, SELFTESTS_FAILED and SELFTEST_LAST after a test (R281, R287). -/
def State.noteTest (s : State) (kind unit n failed : Nat) : State :=
  (({ s with check := { s.check with last := kind * 2 ^ 60 + (if failed = 0 then 1 else 2) * 2 ^ 56 + unit % 64 } }).bump (ck 0x9170 7) n).bump
    (ck 0x9170 8) failed

/-- The tests of R273 after a stop with 0x0711, with the wires, lanes and tiles that fail them. -/
def State.clearTest (slot : Nat) (failedTiles : List Nat) (wires lanes : List U32) (s : State) (d : Det) : State :=
  if d.kind = 2 ∧ d.cause = 6 then
    let k := s.inputLink d.unit d.info
    let bad := wires.filter (fun w => smKind w == 3 && fieldN (smLoc w) 13 11 == k.1 && fieldN (smLoc w) 12 1 == k.2)
    let s1 := s.noteTest 3 (s.grid.tileZone d.unit) 1 (if bad.isEmpty then 0 else 1)
    if bad.isEmpty then s1.enterDefect (rowEntryOf s1.grid d.unit) 1 slot 6 else bad.foldl (fun s w => s.enterDefect w 1 slot 6) s1
  else if d.kind = 3 ∧ (d.cause = 5 ∨ d.cause = 6) then
    let col := (tableDesc (s.eng (engIx d.unit)).table d.info).col + 3 * (d.unit % 2)
    let bad := lanes.filter (fun w => smKind w == 5 && fieldN (smLoc w) 20 4 == d.unit / 2 && fieldN (smLoc w) 18 2 == 1 && fieldN (smLoc w) 15 3 == col)
    bad.foldl (fun s w => s.enterDefect w 1 slot d.cause) (s.noteTest 6 (d.unit / 2) 1 (if bad.isEmpty then 0 else 1))
  else if d.kind = 6 then s.noteTest 5 (s.grid.tileZone d.unit) 1 0
  else if d.kind = 4 ∧ d.cause = 5 then
    let s1 := s.noteTest 2 (s.grid.tileZone d.unit) 2 (if failedTiles.contains d.unit then 1 else 0)
    if failedTiles.contains d.unit then s1.enterDefect (rowEntryOf s1.grid d.unit) 1 slot 5 else s1
  else s

/-- The tests of R274 after a step timeout. -/
def State.laggardTest (slot : Nat) (failedTiles : List Nat) (s : State) (t : Nat) : State :=
  let s1 := s.noteTest 2 (s.grid.tileZone t) 2 (if failedTiles.contains t then 1 else 0)
  if failedTiles.contains t then s1.enterDefect (rowEntryOf s1.grid t) 2 slot 0 else s1

/-- A test that is allowed now begins (R279, R281): module lanes when no job owns the stack's engines; a zone without a job once its core
is on or being switched on, for kind 3 with no neighbour in a job; a parked zone is unparked for it and parked again. -/
def State.startTest (s : State) (q : TestReq) : TestReq × State :=
  if q.running then (q, s)
  else if q.kind = 6 then
    ({ q with running := (s.engineOwner (2 * q.unit)).isNone && (s.engineOwner (2 * q.unit + 1)).isNone }, s)
  else if (s.zoneOwner q.unit).isSome ∨ (q.kind = 3 ∧ (zoneNeighbours q.unit).any (fun z => (s.zoneOwner z).isSome) = true) then (q, s)
  else
    let st := (s.zonePwr q.unit).state
    if st = zsFault ∨ st = zsParking then (q, s)
    else if st = zsOff ∨ st = zsParked then
      (if s.regHeld q.unit then (q, s) else ({ q with running := true, repark := st == zsParked }, s.requestOn q.unit))
    else ({ q with running := true }, s)

/-- Every test that waits and is allowed begins. -/
def State.startTests (s : State) : State :=
  s.check.tests.foldl (fun (s : State) q =>
    let r := s.startTest q
    { r.2 with check := { r.2.check with tests := r.2.check.tests.map (fun x => if x = q then r.1 else x) } }) s

/-- CLEAR (R228, R238). -/
def State.clearJob (j : SlotIx) (failedTiles : List Nat) (wires lanes : List U32) : Writer := fun s =>
  let b := s.job j
  if b.state ≠ jsLoaded ∧ b.state ≠ jsEnded then (s, 0x0107)
  else
    let s1 := if b.state = jsEnded ∧ b.status = 0x0711 then (persistentDets b.execs).foldl (State.clearTest j.val failedTiles wires lanes) s
      else if b.state = jsEnded ∧ b.status = 0x0713 then b.laggards.foldl (State.laggardTest j.val failedTiles) s
      else s
    let s2 := match b.plan with
      | some p =>
        let s2 := if b.state = jsEnded then
            (p.engineSet.filter (fun e => (s1.engineOwner e).isNone)).foldl
              (fun (s : State) e => s.updEng (engIx e) (fun g => { g with fault := 0, causes := [] }))
              (s1.forTiles (p.tileSet.filter (fun t => (s1.tile t).job.isNone)) (fun _ t => t.clearRecords))
          else s1
        s2
      | none => s1
    let s3 := s2.updJob j (fun b => { b with plan := none, execs := [], energyUj := 0, energyFinal := 0, pending := [] })
    let s4 := s3.setJobState j jsEmpty
    (match b.plan with | some p => s4.startTests.parkHeld p.zoneSet | none => s4.startTests, 0)

end Sys2Proof.Machine
end

