-- ==== Sys2Proof/Machine/Jobs.lean ====
section
/-! DEFINITION. The commands of jobs and fences (chapter 8, and the group objects of chapter 9). -/

namespace Sys2Proof.Machine

/-- LOAD (R221, R238). -/
def execJobLoad (j : SlotIx) (car : Carrier) (s : State) : Res := mgmtWrite car clsJobs (State.loadJob j) s

/-- The checks of a load end (R221). -/
def execLoadChecksComplete (j : SlotIx) (s : State) : Res := .next (s.loadChecks j)

/-- START (R238). -/
def execJobStart (j : SlotIx) (car : Carrier) (s : State) : Res := mgmtWrite car clsJobs (State.startJob j false) s

/-- REPLAY_START (R231, R238). -/
def execJobReplayStart (j : SlotIx) (car : Carrier) (s : State) : Res := mgmtWrite car clsJobs (State.startJob j true) s

/-- Cycle 0 of the first step (R238). -/
def execJobCycle0Release (j : SlotIx) (s : State) : Res := .next (s.cycle0 j)

/-- STOP (R228, R238). -/
def execJobStop (j : SlotIx) (car : Carrier) (s : State) : Res := mgmtWrite car clsJobs (State.stopJob j) s

/-- KILL (R229). -/
def execJobKill (j : SlotIx) (car : Carrier) (s : State) : Res := mgmtWrite car clsJobs (State.killJob j) s

/-- CLEAR (R228, R238, R273, R274). -/
def execJobClear (j : SlotIx) (car : Carrier) (failedTiles : List TileIx) (failedWires failedLanes : List U32) (s : State) : Res :=
  mgmtWrite car clsJobs (featWriter (State.clearJob j (failedTiles.map Fin.val) failedWires failedLanes)) s

/-- A unit arrives at the fence (R225). -/
def execUnitFenceArrival (j : SlotIx) (u : FenceUnit) (lateCy : Nat) (s : State) : Res := .next (s.arrive j u lateCy)

/-- The root decides (R228). -/
def execFenceRootDecision (j : SlotIx) (s : State) : Res := .next (s.noteFeatures (s.rootDecision j))

/-- The release reaches the units (R227). -/
def execFenceRelease (j : SlotIx) (s : State) : Res := .next (s.release j)

/-- 2L without an arrival (R229). -/
def execStepTimeout (j : SlotIx) (s : State) : Res := .next (s.stepTimesOut j)

/-- GROUP_ETA (R260). A value with sign bit 1 is negative (R246; DEDUCED, log entry 24). -/
def State.writeEta (j : SlotIx) (g : Nat) (v : Nat) : Writer := fun s =>
  let refuse := fun (st : Nat) => (s.bump (ck 0x9160 5) 1, st)
  if ! s.fuses.updateEngines then refuse 0x0803
  else if (s.job j).schedGroups ≤ g ∨ 0x7F800000 ≤ v then refuse 0x0802
  else State.acceptEvent j (0x8200 + 16 * j.val + g / 256) (g % 256) v 4 s

/-- GROUP_FROZEN (R260). -/
def State.writeFrozen (j : SlotIx) (g : Nat) (v : Nat) : Writer := fun s =>
  let refuse := fun (st : Nat) => (s.bump (ck 0x9160 5) 1, st)
  if 1 < v then (s, 0x0107)
  else if ! s.fuses.updateEngines then refuse 0x0803
  else if (s.job j).schedGroups ≤ g then refuse 0x0802
  else State.acceptEvent j (0x8300 + 16 * j.val + g / 256) (g % 256) v 1 s

/-- DIGEST_SNAPSHOT (R235, R238). -/
def State.writeSnapshot (j : SlotIx) (v : Nat) : Writer := State.acceptEvent j (0x7100 + j.val) 0x0B v 1

/-- A write to an object that is applied at a plan fence (R231). -/
def State.writeEvent (j : SlotIx) (index sub value : Nat) : Writer :=
  match evEta index sub, evFrozen index sub with
  | some g, _ => if index / 16 % 8 = j.val ∧ value < 2 ^ 32 then State.writeEta j g value else fun s => (s, 0x0104)
  | none, some g => if index / 16 % 8 = j.val ∧ value < 2 ^ 8 then State.writeFrozen j g value else fun s => (s, 0x0104)
  | none, none =>
    if index = 0x7100 + j.val ∧ sub = 0x0B then (if value < 2 ^ 8 then State.writeSnapshot j value else fun s => (s, 0x0104))
    else fun s => (s, 0x0101)

/-- A fence event (R231). -/
def execFenceEventWrite (j : SlotIx) (car : Carrier) (index : U16) (sub : Byte) (value : U64) (s : State) : Res :=
  mgmtWrite car clsJobs (State.writeEvent j index.toNat sub.toNat value.toNat) s

/-- DIGEST_SNAPSHOT (R235). -/
def execDigestSnapshot (j : SlotIx) (car : Carrier) (value : Byte) (s : State) : Res := mgmtWrite car clsJobs (State.writeSnapshot j value.toNat) s

/-- GROUP_ETA (R260). -/
def execGroupEta (j : SlotIx) (car : Carrier) (g : Fin 4096) (value : U32) (s : State) : Res :=
  mgmtWrite car clsJobs (State.writeEta j g.val value.toNat) s

/-- GROUP_FROZEN (R260). -/
def execGroupFrozen (j : SlotIx) (car : Carrier) (g : Fin 4096) (value : Byte) (s : State) : Res :=
  mgmtWrite car clsJobs (State.writeFrozen j g.val value.toNat) s

/-- An engine has not arrived 1 ms after the last router of its job (R211): the job stops, and the stack is recorded for retraining. -/
def State.engineTimesOut (s : State) (e : EngineIx) : State :=
  match s.engineOwner e.val with
  | none => s
  | some j =>
    let b := s.job j
    match b.plan with
    | none => s
    | some p =>
      let tilesIn := p.tileSet.all (fun t => b.arrived.any (fun v => unitKey v == t))
      if b.phase ≠ .step ∨ b.running = false ∨ b.halted = true ∨ tilesIn = false ∨ b.arrived.any (fun v => unitKey v == 2048 + e.val) = true then s
      else
        let s1 := State.noteEngine e s (s.updEng e (engFault 8 0 0 b.len))
        (s1.endJob j 0x0575 false).retryFail 7 (e.val / 2) rcTimeout

/-- ENGINE_FENCE_TIMEOUT (R211). -/
def execEngineFenceTimeout (e : EngineIx) (s : State) : Res := .next (s.engineTimesOut e)

end Sys2Proof.Machine
end

