-- ==== Sys2Proof/Machine/SelfTest.lean ====
section
/-! DEFINITION. Self-tests and calibrations (R279 to R281), and the comparison of weight copies (R283 to R285). -/

namespace Sys2Proof.Machine

/-! ## Requests (R281) -/

/-- A request for one unit; a kind already pending there changes nothing. -/
def State.requestTest (kind : Nat) (s : State) (u : Nat) : State :=
  if s.check.tests.any (fun q => q.unit == u && q.kind == kind) then s
  else
    let r := s.startTest ⟨u, kind, false, false, none⟩
    { r.2 with check := { r.2.check with tests := r.2.check.tests ++ [r.1] } }

/-- SELFTEST_REQUEST with a kind and a mask of zones, or of stacks. -/
def State.requestTests (kind mask n : Nat) : Writer := fun s =>
  (((upTo n).filter (fun u => mask.testBit u)).foldl (State.requestTest kind) s, 0)

/-- Kind 0x1. -/
def execSelftestFrameLogic (car : Carrier) (zones : BitVec 48) (s : State) : Res := mgmtWrite car clsConfig (State.requestTests 1 zones.toNat 48) s
/-- Kind 0x2. -/
def execSelftestCoreLogic (car : Carrier) (zones : BitVec 48) (s : State) : Res := mgmtWrite car clsConfig (State.requestTests 2 zones.toNat 48) s
/-- Kind 0x3. -/
def execSelftestRouterMesh (car : Carrier) (zones : BitVec 48) (s : State) : Res := mgmtWrite car clsConfig (State.requestTests 3 zones.toNat 48) s
/-- Kind 0x4. -/
def execSelftestScratchpadMarch (car : Carrier) (zones : BitVec 48) (s : State) : Res :=
  mgmtWrite car clsConfig (State.requestTests 4 zones.toNat 48) s
/-- Kind 0x5. -/
def execSelftestSensorCalibration (car : Carrier) (zones : BitVec 48) (s : State) : Res :=
  mgmtWrite car clsConfig (State.requestTests 5 zones.toNat 48) s
/-- Kind 0x6. -/
def execSelftestModuleLanes (car : Carrier) (modules : BitVec 16) (s : State) : Res := mgmtWrite car clsConfig (State.requestTests 6 modules.toNat 16) s

/-! ## Quiet slots (R280) -/

/-- Length of a test that quiet slots admit (R279). -/
def quietLen (kind : Nat) : Option Nat := match kind with | 1 => some 12288 | 5 => some 4096 | _ => none

/-- The running step has a quiet slot for the zone that is long enough; a rerun runs no test. -/
def Job.quietFor (b : Job) (z kind : Nat) : Bool :=
  match b.plan, quietLen kind with
  | some p, some n => b.running && b.phase == .step && b.reruns == 0 && ! b.halted
      && p.quiet.any (fun q => q.task == b.task && q.zones.testBit z && decide (n + 64 ≤ q.len))
  | _, _ => false

/-- A pending test begins in a quiet slot. -/
def State.quietTest (s : State) (j : SlotIx) (z kind : Nat) : State :=
  if (s.job j).quietFor z kind ∧ s.zoneOwner z = some j then
    { s with check := { s.check with tests := s.check.tests.map (fun q =>
        if q.unit = z ∧ q.kind = kind ∧ q.running = false then { q with running := true, job := some j.val } else q) } }
  else s

/-- QUIET_SLOT_TEST (R280, R281). -/
def execQuietSlotTest (j : SlotIx) (z : ZoneIx) (kind : Fin 16) (s : State) : Res := .next (s.quietTest j z.val kind.val)

/-- The frame after a test in a quiet slot: off, idle, banks IDLE, weights as after reset, the peak as it was (R280). -/
def frameTested (f : FrameSt) : FrameSt :=
  { f with
    w := Vector.replicate 2 WReg.reset, active := 0, shadowFull := false, loadwAt := none, banks := Vector.replicate 2 ABank.reset
    ramp := .steady, rampFrom := 0, idleFrom := -64, ops := [] }

/-! ## The end of a test (R279 to R281) -/

/-- A test of a zone ends. In a job, a failing tile reports a detection, with source 0x3 for kind 0x1; outside, its row is entered. -/
def State.zoneTestEnds (s : State) (q : TestReq) (failed : List Nat) : State :=
  let ts := s.zoneTiles (2 ^ q.unit)
  let bad := ts.filter (fun t => failed.contains t)
  match q.job with
  | some j =>
    let s1 := s.forTiles ts (fun _ t => { t with frame := frameTested (frameFinish t.frame.clk t).2.tile.frame })
    s1.forTiles bad (fun _ t =>
      if t.job = some j then (if q.kind = 1 then t.integrity 3 0 0 0 t.frame.clk else { t with detected := true }) else t)
  | none =>
    let s1 := if q.kind = 4 then ts.foldl (fun s t => s.putTile t (s.tile t).powerUp) s else s
    bad.foldl (fun s t => s.enterDefect (rowEntryOf s.grid t) 3 0xFF 0) s1

/-- A running test ends. A zone that was unparked for its tests is parked again after the last of them. -/
def State.testEnds (s : State) (u kind : Nat) (failed : List Nat) : State :=
  match s.check.tests.find? (fun q => q.unit == u && q.kind == kind && q.running) with
  | none => s
  | some q =>
    if kind ≠ 6 ∧ (s.zonePwr u).state ≠ zsOn then s
    else
      let s1 := ({ s with check := { s.check with tests := s.check.tests.erase q } }).noteTest kind u 1 (if failed.isEmpty then 0 else 1)
      if kind = 6 then s1
      else
        let s2 := s1.zoneTestEnds q failed
        let rest := s2.check.tests.any (fun x => x.unit == u && x.running && x.kind != 6)
        if q.repark = true ∧ rest = true then
          { s2 with check := { s2.check with tests := s2.check.tests.map (fun x => if x.unit = u ∧ x.running = true ∧ x.kind ≠ 6 then { x with repark := true } else x) } }
        else if q.repark = true then s2.beginPark u pcTest false else s2

/-- SELFTEST_COMPLETE (R281). -/
def execSelftestComplete (unit : ZoneIx) (kind : Fin 16) (failedTiles : List TileIx) (s : State) : Res :=
  .next (s.noteFeatures (s.testEnds unit.val kind.val (failedTiles.map Fin.val)))

/-- Tests are abandoned at a trip or a power-off (R287, R337). -/
def State.abandonTests (s : State) (which : TestReq → Bool) : State :=
  match s.check.tests.filter which with
  | [] => s
  | q :: qs =>
    let l := (qs.getLast?).getD q
    { s with check := { s.check with
        tests := s.check.tests.filter (fun x => ! which x), last := l.kind * 2 ^ 60 + 3 * 2 ^ 56 + l.unit % 64 } }

/-! ## The comparison of weight copies (R283 to R285) -/

/-- Entries of the own digest log of the compared job: ordinal of the plan fence, and slot (R235). -/
def State.ownDigest (s : State) (k : Nat) : Nat × Nat :=
  let b := s.job (slotIx s.check.wcmpJob)
  let a := b.dgAddr.toNat + 80 * k
  (natOfLE (s.memBytes a 4), natOfLE (s.memBytes (a + 16 + 8 * (s.check.wcmpSlot % 8)) 8))

/-- The own answer in phase 1, the ordinal of the latest entry; in phase 2, the slot of the entry at plan fence F. -/
def State.ownAnswer (s : State) (phase fence : Nat) : Option Nat :=
  let n := (s.job (slotIx s.check.wcmpJob)).dgUsed
  if phase = 1 then (if n = 0 then none else some (s.ownDigest (n - 1)).1)
  else ((upTo n).map s.ownDigest).find? (fun e => e.1 == fence) |>.map Prod.snd

/-- The master opens a phase: it asks the others and answers for its own copy. -/
def State.openPhase (s : State) (phase fence : Nat) (asked : List Nat) : State :=
  let me := s.boot.deviceId
  let own := if asked.contains me then (match s.ownAnswer phase fence with | some v => [(me, BitVec.ofNat 64 v)] | none => []) else []
  let s1 := { s with check := { s.check with round := some ⟨phase, fence, asked, own⟩ } }
  (asked.filter (fun d => d != me)).foldl (fun s d => s.send (.peer d pkWcmp [phase, fence, s.check.wcmpJob, s.check.wcmpSlot])) s1

/-- How many answers hold a value. -/
def votes (as : List (Nat × U64)) (v : U64) : Nat := (as.filter (fun a => a.2 == v)).length

/-- Outcome, count of the common or majority value, and the odd copies (R285). -/
def wcmpOutcome (as : List (Nat × U64)) : Nat × Nat × List Nat :=
  let n := as.length
  let best := as.foldl (fun m a => max m (votes as a.2)) 0
  if n < 2 then (0, 0, [])
  else if best = n then (1, n, [])
  else if 3 ≤ n ∧ n < 2 * best then
    (2, best, (as.filter (fun a => votes as a.2 != best)).map Prod.fst)
  else (3, 0, [])

/-- A weight comparison stops the compared job (R285). -/
def State.outvoted (s : State) : State := s.askStop (slotIx s.check.wcmpJob) 0x0715

/-- The master decides a round: WCMP_LAST, WCMP_ODD, the counters, the messages to the odd copies. -/
def State.decideRound (s : State) (r : WcmpRound) : State :=
  let o := wcmpOutcome r.answers
  let s1 := { s with check := { s.check with
    round := none, wcmpOdd := o.2.2
    wcmpLast := r.fence % 2 ^ 32 * 2 ^ 32 + r.answers.length % 256 * 2 ^ 24 + o.2.1 % 256 * 2 ^ 16 + o.1 * 2 ^ 8 } }
  let s2 := (s1.bump (ck 0x9170 0x0A) o.2.2.length).bump (ck 0x9170 0x0B) (if o.1 = 3 then 1 else 0)
  let s3 := o.2.2.foldl (fun s d => if d = s.boot.deviceId then s.outvoted else s.send (.peer d pkOutvote [s.check.wcmpJob])) s2
  s3.raise 0x09 0 (leOfNat 8 s3.check.wcmpLast)

/-- A phase ends: after the first, F is the smallest ordinal; after the second the master decides. Silent members are excluded. -/
def State.phaseEnds (s : State) (r : WcmpRound) : State :=
  if r.phase = 1 then
    match r.answers with
    | [] => s.decideRound { r with fence := 0 }
    | a :: as => s.openPhase 2 (as.foldl (fun m b => min m b.2.toNat) a.2.toNat) (r.answers.map Prod.fst)
  else s.decideRound r

/-- Every member asked has answered. -/
def WcmpRound.full (r : WcmpRound) : Bool := r.asked.all (fun d => r.answers.any (fun a => a.1 == d))

/-- WCMP_ROUND: the count T with T mod WCMP_PERIOD = 0 has come, and the master opens a round (R283, R284). -/
def State.wcmpOpens (s : State) : State :=
  if ! s.tally.due.contains .wcmp then s
  else
    let s1 := { s with tally := { s.tally with due := s.tally.due.filter (fun d => d != .wcmp) } }
    let b := s1.job (slotIx s1.check.wcmpJob)
    if s1.check.period = 0 ∨ s1.link.state ≠ csMaster ∨ b.groupId = 0 then s1
    else (s1.bump (ck 0x9170 9) 1).openPhase 1 0 b.members

/-- WCMP_ROUND (R283). -/
def execWcmpRound (s : State) : Res := .next s.wcmpOpens

/-- WCMP_ANSWER (R284): an answer to the open phase. -/
def execWcmpAnswer (device : Nat) (phase : Fin 3) (value : U64) (s : State) : Res :=
  match s.check.round with
  | none => .next s
  | some r =>
    if r.phase ≠ phase.val ∨ r.asked.contains device = false ∨ r.answers.any (fun a => a.1 == device) = true then .next s
    else
      let r1 := { r with answers := r.answers ++ [(device, value)] }
      let s1 := { s with check := { s.check with round := some r1 } }
      .next (if r1.full then s1.phaseEnds r1 else s1)

/-- WCMP_PHASE_TIMEOUT (R284, R285). -/
def execWcmpPhaseTimeout (s : State) : Res := .next (match s.check.round with | some r => s.phaseEnds r | none => s)

/-- WCMP_OUTVOTE (R285). -/
def execWcmpOutvote (s : State) : Res := .next s.outvoted

end Sys2Proof.Machine
end

