-- ==== Sys2Proof/Machine/ClkOps.lean ====
section
/-! DEFINITION. The clock system and the tally (R290, R293 to R313): ceilings and target, stretches, the count and what comes due on it. -/

namespace Sys2Proof.Machine

def State.zoneClk (s : State) (z : Nat) : ZoneClk := s.clk.zones[zoneIx z]
def State.updClk (s : State) (f : ClkSt → ClkSt) : State := { s with clk := f s.clk }
def State.updZoneClk (s : State) (z : Nat) (f : ZoneClk → ZoneClk) : State :=
  s.updClk (fun c => { c with zones := c.zones.set (zoneIx z) (f (s.zoneClk z)) })
def State.updTally (s : State) (f : TallySt → TallySt) : State := { s with tally := f s.tally }

/-- The mesh band of a zone's field is powered. -/
def State.bandOn (s : State) (z : Nat) : Bool := s.pwr.bands.testBit (z / 6)

/-! ## The common frequency (R298 to R301, R333) -/

/-- VLOG target in mV for a frequency (R320). -/
def State.vfMv (s : State) (f : Nat) : Nat := s.fuses.vf.getD ((f - 1200) / 100) 0

/-- More than half of a zone's sensors of one kind have failed (R322). -/
def State.sensorsBad (s : State) (z kind : Nat) : Bool :=
  let per := if kind = 1 then 16 else 8
  decide (per < 2 * ((upTo per).filter (fun k => s.pwr.failed.contains (kind * 4096 + per * z + k))).length)

/-- Ceiling and cause of a zone, between 1,200 MHz and the bin maximum; the first cause of R315 that binds is named. -/
def State.zoneCeiling (s : State) (z : Nat) : Nat × Nat :=
  let k := s.zoneClk z
  let cl := fun v => max 1200 (min v s.fuses.binMax)
  let cs := [(cl s.fuses.binMax, 0), (cl k.tempCeil, 1), (cl k.margin, 2)] ++ (match k.headroom with | some h => [(cl h, 3)] | none => [])
    ++ (if s.sensorsBad z 2 then [(1200, 1)] else []) ++ (if s.sensorsBad z 1 then [(1200, 3)] else [])
  cs.foldl (fun b c => if c.1 < b.1 then c else b) (cl s.fuses.binMax, 0)

/-- Ceiling of a stack: its speed and its temperature (R212, R213). -/
def State.stackCeiling (s : State) (i : Nat) : Option Nat :=
  let k := s.stackSt i
  let a := if k.speed = 10 then [3000] else if k.speed = 8 then [2400] else []
  let b := if k.tempCeiling = 0 then [] else [k.tempCeiling]
  match a ++ b with
  | [] => none
  | c :: cs => some (cs.foldl min c)

/-- The limits of R298 with their FREQ_LIMITER codes, lowest kind and index first. -/
def State.freqLimits (s : State) : List (Nat × Nat) :=
  [(s.fuses.binMax, 0x1000), (s.clk.request, 0x2000)]
  ++ (allZones.filter s.bandOn).map (fun z => ((s.zoneCeiling z).1, 0x3000 + z))
  ++ ((upTo 16).filter (fun i => s.mem.present.toNat.testBit i)).filterMap (fun i => (s.stackCeiling i).map (fun c => (c, 0x4000 + i)))
  ++ (match s.pwr.powerCeiling with | some c => [(c, 0x5000)] | none => [])

/-- The lowest limit, the first of equals. -/
def State.freqTarget (s : State) : Nat × Nat :=
  s.freqLimits.foldl (fun b c => if c.1 < b.1 then c else b) (s.fuses.binMax, 0x1000)

/-- Recompute the target. The tally of a fall is kept, and a step up that the target no longer wants is given up. -/
def State.retarget (s : State) : State :=
  let t := s.freqTarget
  let c := s.clk
  let drop := match c.upWait with | some _ => decide (t.1 ≤ c.freq) | none => false
  let fell := decide (t.1 < c.freq) && c.fallAt.isNone
  let s1 := s.updClk (fun c => { c with
    target := t.1, limiter := t.2
    upWait := if drop then none else c.upWait
    fallAt := if c.freq ≤ t.1 then none else if fell then some s.tally.now else c.fallAt
    fenceSeen := if fell then false else c.fenceSeen })
  if drop then { s1 with pwr := { s1.pwr with vlogMv := s1.vfMv c.freq } } else s1

/-- Announce a switch to `f` at tally `t`; a pending one is replaced when its tally is 2 tk off or more (R301). -/
def State.announce (s : State) (f t : Nat) : State :=
  let c := s.clk
  if c.pending = 0 ∨ s.tally.now + 2 ≤ c.pendingTally then s.updClk (fun c => { c with pending := f, pendingTally := t, next := none })
  else s.updClk (fun c => { c with next := some (f, max t (c.pendingTally + 2)) })

/-- A switch down (R299): 2 tk after the next plan fence or the fall, or 20 ms after it. -/
def State.announceDown (s : State) : State :=
  let c := s.clk
  match c.fallAt with
  | none => s
  | some a =>
    if c.freq ≤ c.target then s
    else
      let now := s.tally.now
      let t := if c.fenceSeen || ! s.anyRunning then now + 2 else max (now + 2) (a + 312500)
      s.announce (max c.target (c.freq - 400)) t

/-- A pending switch applies (R300, R301, R213). -/
def State.applySwitch (s : State) : State :=
  let c := s.clk
  let up := decide (c.freq < c.pending)
  let s1 := s.updClk (fun c => { c with
    freq := c.pending
    pending := match c.next with | some n => n.1 | none => 0
    pendingTally := match c.next with | some n => n.2 | none => 0
    next := none
    guard := up || c.guard
    lowerAt := if up then c.lowerAt else some (s.tally.now + 2)
    fallAt := if c.pending ≤ c.target then none else c.fallAt
    fenceSeen := true })
  let s2 := (s1.bump (ck 0x3000 8) 1).bump (ck 0x3030 5) (if up then 1 else 0)
  let s3 := (List.finRange 16).foldl (fun s m =>
    if (s.stackSt m.val).shortenDue && decide (s.clk.freq ≤ (s.stackSt m.val).tempCeiling) then s.shorten m else s) s2
  s3.raise 0x05 0 (leOfNat 2 s3.clk.freq ++ leOfNat 2 s3.clk.limiter)

/-- A zone whose timing-margin monitors show no margin is held, parked at once when idle, else after its job, which stops with 0x0404 (R333). -/
def State.marginLost (s : State) (z : Nat) : State :=
  let s1 := s.faultHold z
  match s1.zoneOwner z with
  | some j => if (s1.job j).running then s1.askStop j 0x0404 else s1
  | none => s1.beginPark z pcHold false

/-! ## Stretches (R294, R295) -/

/-- A zone's own detectors begin a stretch: notice, shunt, counts. `st` is the stretch then in progress. -/
def State.ownStretch (s : State) (z : Nat) (st : Stretch) : State :=
  let k := s.zoneClk z
  let seq := (k.seq + 1) % 16
  let s1 := s.updZoneClk z (fun k => { k with
    stretch := some st, seq := seq, stretches := min (k.stretches + 1) (2 ^ 24 - 1), recharging := true })
  ((s1.bump (ck 0x3030 1) 1).bump (ck 0x4070 5) (if k.recharging then 1 else 0)).send (.notice z z seq 16)

/-- A detector asserts, `elapsed` cycles into the stretch in progress. -/
def State.droop (s : State) (z elapsed : Nat) : State :=
  if ! s.bandOn z then s
  else match (s.zoneClk z).stretch with
    | none => s.ownStretch z ⟨some (0, 16), []⟩
    | some st =>
      match st.own with
      | none => s.ownStretch z { st with own := some (elapsed, 16) }
      | some o =>
        let len := min 64 (max o.2 (elapsed - o.1 + 16))
        if len = o.2 then s
        else (s.updZoneClk z (fun k => { k with stretch := some { st with own := some (o.1, len) } })).send (.notice z z (s.zoneClk z).seq len)

/-- Length of a stretch: to the latest of its own end and the ends of its copies. -/
def Stretch.total (st : Stretch) : Nat :=
  st.copies.foldl (fun m c => max m (c.start + c.len)) (match st.own with | some o => o.1 + o.2 | none => 0)

/-- A detector is still asserted at the 64th cycle: a new stretch begins in the next. -/
def State.restart (s : State) (z : Nat) : State :=
  match (s.zoneClk z).stretch with
  | some st =>
    match st.own with
    | some o =>
      if o.2 ≠ 64 then s
      else
        let e := o.1 + 64
        let cs := (st.copies.filter (fun c => decide (e < c.start + c.len))).map (fun c => { c with start := c.start - e, len := c.start + c.len - e - (c.start - e) })
        ((s.bump (ck 0x3030 3) e).bump (ck 0x3030 4) 1).ownStretch z ⟨some (0, 16), cs⟩
    | none => s
  | none => s

def State.stretchEnds (s : State) (z : Nat) : State :=
  match (s.zoneClk z).stretch with
  | some st => (s.updZoneClk z (fun k => { k with stretch := none })).bump (ck 0x3030 3) st.total
  | none => s

/-- A notice of another zone's stretch is copied and forwarded, once. -/
def State.copyStretch (s : State) (z origin seq len elapsed : Nat) : State :=
  let k := s.zoneClk z
  if ! s.bandOn z || z == origin || k.seen.any (fun c => c.origin == origin && c.seq == seq) then s
  else
    let c : StretchCopy := ⟨origin, seq, (match k.stretch with | some _ => elapsed | none => 0), len⟩
    let st : Stretch := match k.stretch with | some st => { st with copies := st.copies ++ [c] } | none => ⟨none, [c]⟩
    let s1 := s.updZoneClk z (fun k => { k with stretch := some st, seen := c :: k.seen.filter (fun x => x.origin != origin) })
    (s1.bump (ck 0x3030 2) 1).send (.notice z origin seq len)

/-- An extension of a copied stretch is applied and forwarded, once. -/
def State.extendStretch (s : State) (z origin seq len : Nat) : State :=
  let k := s.zoneClk z
  match k.stretch with
  | none => s
  | some st =>
    if s.bandOn z && st.copies.any (fun c => c.origin == origin && c.seq == seq && decide (c.len < len)) then
      let cs := st.copies.map (fun c => if c.origin = origin ∧ c.seq = seq then { c with len := len } else c)
      (s.updZoneClk z (fun k => { k with stretch := some { st with copies := cs } })).send (.notice z origin seq len)
    else s

/-! ## Crossings (R293) -/

/-- A crossing before an input slips: counts, poison until the next fence, a detection of the receiving tile. -/
def State.slip (s : State) (t port : Nat) : State :=
  match s.grid.portTo (t % 48) (t / 48) port with
  | .router x y =>
    let z := s.grid.tileZone t
    let z' := s.grid.zone x y
    if z = z' ∨ s.crossingSlipped t port = true then s
    else
      let up := fun (s : State) z => s.updZoneClk z (fun k => { k with slips := min (k.slips + 1) 255 })
      let s1 := up (up ((s.bump (ck 0x3030 6) 1).updClk (fun c => { c with slipped := c.slipped ++ [8 * t + port] })) z) z'
      s1.updTile t (fun t => if t.job.isSome then { t with detected := true, dets := t.dets ++ [(6, port, 0)] } else t)
  | _ => s

/-! ## The tally (R305 to R312) -/

/-- Wear weight of a temperature (R345). -/
def wearOf (t : Int) : Nat := if t ≤ 1360 then 1 else if t ≤ 1520 then 2 else 4

/-- The lifetime counts of `d` counts of the tally (R345). -/
def State.lifeTick (s : State) (d : Nat) : State :=
  let c := s.life.counts
  let vstq := fun i => s.mem.present.toNat.testBit i && s.pwr.rails && s.regState (if i < 8 then 52 else 53) == rsInService
  { s with life := { s.life with counts := { c with
      poweredTk := c.poweredTk + (if s.boot.powered then d else 0)
      stackTk := Vector.ofFn (fun i : Fin 16 => c.stackTk[i] + (if vstq i.val then d else 0))
      laserTk := Vector.ofFn (fun i : Fin 18 => c.laserTk[i] + (if (s.linkSt (2 * i.val)).laser then d else 0))
      zoneTk := Vector.ofFn (fun z : Fin 48 => c.zoneTk[z] + (if s.zoneOn z.val then d else 0))
      wearTk := Vector.ofFn (fun z : Fin 48 => c.wearTk[z] + (if s.zoneOn z.val then d * wearOf (s.zonePwr z.val).temp else 0)) } } }

/-- Put a due event. -/
def addDue (b : Bool) (d : Due) (l : List Due) : List Due := if b && ! l.contains d then l ++ [d] else l

/-- The count comes to `n`: the events of R311 come due, each once, and the per-millisecond counts of the links begin anew (R394). -/
def State.tallyTo (s : State) (n : Nat) : State :=
  let o := s.tally.now
  let past := fun m => decide (0 < m) && decide (o / m < n / m)
  let due := s.tally.due
  let due := addDue (s.clk.pending != 0 && decide (s.clk.pendingTally ≤ n)) .freqSwitch due
  let due := addDue (match s.clk.lowerAt with | some t => decide (t ≤ n) | none => false) .vlogLower due
  let due := addDue (past s.check.period) .wcmp due
  let due := addDue (past 1024) .energy due
  let due := addDue (past s.pwr.token.period) .token due
  let due := addDue (past (2 ^ 30)) .lifeCommit due
  let s1 := (s.lifeTick (n - o)).updTally (fun t => { t with now := n % 2 ^ 64, due := due })
  if past 15625 then
    { s1 with link := { s1.link with links := s1.link.links.map (fun l => { l with replays1ms := 0, fecLoad := 0 }) } }
  else s1

/-- Take a due event; the second part says whether it was due. -/
def State.takeDue (s : State) (d : Due) : State × Bool :=
  if s.tally.due.contains d then (s.updTally (fun t => { t with due := t.due.filter (fun x => x != d) }), true) else (s, false)

/-- One source edge (R306, R308, R310): while slewing, every 1,024th count takes 2 or is held. -/
def State.sourceEdge (s : State) : State :=
  let t := s.tally
  if t.state = tsSlewing ∧ t.slewPhase = 1023 then
    let left := if 0 < t.slewLeft then t.slewLeft - 1 else t.slewLeft + 1
    let s1 := if 0 < t.slewLeft then s.tallyTo (t.now + 2) else s
    s1.updTally (fun t => { t with slewLeft := left, slewPhase := 0, state := if left = 0 then tsLocked else tsSlewing })
  else
    (s.tallyTo (t.now + 1)).updTally (fun t => { t with slewPhase := if t.state = tsSlewing then t.slewPhase + 1 else t.slewPhase })

/-- The source in use is lost (R307, R309). -/
def State.sourceLost (s : State) : State :=
  let t := s.tally
  if t.state = tsAbsent ∨ t.state = tsHoldover ∨ t.inUse = 0 then s
  else s.updTally (fun t => { t with state := tsHoldover, inUse := 0, edges := 0, losses := t.losses + 1, linkLive := t.linkLive && t.inUse != 2 })

/-- The count that a source gives is `src`: Δ decides the state (R308, R310, R312). -/
def State.takeOffset (s : State) (src : Nat) (use : Nat) : State :=
  let d : Int := (src : Int) - s.tally.now
  s.updTally (fun t => { t with
    offset := d, inUse := use
    state := if d = 0 then tsLocked else if d.natAbs ≤ 2 ^ 20 then tsSlewing else tsDisagree
    slewLeft := if d.natAbs ≤ 2 ^ 20 then d else 0
    slewPhase := if t.state = tsSlewing then t.slewPhase else 0 })

/-- The nearest multiple of 2^16; which one of two equally near is a free value (log entry 26). -/
def nearestMark (n : Nat) : Nat :=
  if n % 65536 = 32768 then (if Config.markTieUp then n / 65536 + 1 else n / 65536) * 65536 else (n + 32768) / 65536 * 65536

/-- A mark whose source count is known or expected (R306, R308). -/
def State.takeMark (s : State) (known : Option Nat) (use : Nat) : State :=
  let t := s.tally
  let named := known.isSome || t.epochNext.isSome
  let src := match known with
    | some n => n
    | none => match t.epochNext with | some e => e * 65536 | none => nearestMark t.now
  let s1 := if known.isNone then s.updTally (fun t => { t with epochNext := none }) else s
  if named && ! t.marked then
    let s2 := s1.updTally (fun t => { t with marked := true })
    if s.anyRunning then s2.takeOffset src use
    else (s2.tallyTo src).updTally (fun t => { t with state := tsLocked, inUse := use, offset := 0, slewLeft := 0 })
  else if t.marked then s1.takeOffset src use
  else s1.updTally (fun t => { t with state := tsFree, inUse := use })

end Sys2Proof.Machine
end

