-- ==== Sys2Proof/Machine/Power.lean ====
section
/-! DEFINITION. The power system (chapter 12): faults of regulators, the ledger, switching zones, heat, the power limit, the trip, energy. -/

namespace Sys2Proof.Machine

def State.updPwr (s : State) (f : PwrSt → PwrSt) : State := { s with pwr := f s.pwr }
def State.updCounts (s : State) (f : LifeCounts → LifeCounts) : State := { s with life := { s.life with counts := f s.life.counts } }

/-- The lifetime counts are committed (R345). -/
def State.commitCounts (s : State) : State := { s with life := { s.life with committed := s.life.counts } }

/-! ## Loss of power (R1, R319, R478) -/

/-- Every rail is off: the fuses and the life record stay, with the objects kept there (R314, R346, R404) and the counts last committed. -/
def State.powerDown (s : State) : State :=
  { State.reset with
    pending := s.pending, fuses := s.fuses, life := { s.life with counts := s.life.committed }, out := s.out, draws := s.draws
    clk := { ClkSt.reset with request := s.clk.request }
    tally := { TallySt.reset with selected := s.tally.selected, origin := s.tally.origin, origins := s.tally.origins }
    pwr := { PwrSt.reset with limitSet := s.pwr.limitSet, tripCoolS := s.pwr.tripCoolS, trips := s.pwr.trips }
    link := { LinkSys.reset with grouping := s.link.grouping, groupingNext := s.link.groupingNext, masterSet := s.link.masterSet } }

/-- A device power fault (R319): the record is committed, and the rails go off until VIN12 has been removed. -/
def State.powerFaults (s : State) (die cause : Nat) : State :=
  let s1 := ((s.updCounts (fun c => { c with powerFaults := c.powerFaults + 1 })).lifeFault 3 die cause).commitCounts
  (s1.powerDown).updPwr (fun p => { p with powerFault := true })

/-! ## Regulators (R317 to R319) -/

/-- Jobs that hold their resources stop at once. -/
def State.stopNow (s : State) (which : SlotIx → Bool) (status : Nat) : State :=
  allSlots.foldl (fun s j => if (s.job j).holds && which j then s.endJob j status false else s) s

def Job.usesZone (b : Job) (z : Nat) : Bool := match b.plan with | some p => p.zones.testBit z | none => false
def Job.usesEngine (b : Job) (e : Nat) : Bool := match b.plan with | some p => p.engines.testBit e | none => false
def Job.usesPort (b : Job) (q : Nat) : Bool := match b.plan with | some p => p.ports.testBit q | none => false

/-- The failed die is recorded, and disabled at later starts under the retry rules (R318, R364). -/
def State.dieFails (s : State) (d cause : Nat) : State :=
  (((s.setReg d rsFailed cause).updCounts (fun c => { c with regFailures := c.regFailures + 1 })).lifeFault 1 d cause).retryFail 1 d rcNotGood

/-- The six zones of a field are parked at once and held for their regulator group; the jobs that own them stop (R318, R330). -/
def State.fieldParks (s : State) (g : Nat) : State :=
  let s1 := (upTo 6).foldl (fun (s : State) i =>
    (s.abortPark (6 * g + i) pcRegulator).updZone (6 * g + i) (fun p => { p with hold := if p.hold = 0 then hoRegulator else p.hold })) s
  s1.stopNow (fun j => (upTo 6).any (fun i => (s.job j).usesZone (6 * g + i))) 0x0403

/-- A field die fails (R318). -/
def State.fieldDieFails (s : State) (d cause : Nat) : State :=
  if s.regState d ≠ rsInService ∨ cause = 0 then s
  else
    let s1 := s.dieFails d cause
    let w := s1.workingDies (d / 6)
    if 5 ≤ w then s1.bump (ck 0x4070 1) 1 else if w = 4 then s1.fieldParks (d / 6) else s1.powerFaults d cause

/-- The stacks of a range become unusable until the next start, with or without their contents; the jobs on their engines stop (R319). -/
def State.stacksLost (s : State) (lo n : Nat) (contents : Bool) : State :=
  let mine := fun i => decide (lo ≤ i) && decide (i < lo + n)
  let s1 := { s with mem := { s.mem with
    stackSts := Vector.ofFn (fun i : Fin 16 => if mine i.val then { s.mem.stackSts[i] with selfRefresh := contents, unusable := true } else s.mem.stackSts[i])
    data := if contents then s.mem.data else s.mem.data.filter (fun c => ! mine (c.1 / 2 ^ 37))
    poison := if contents then s.mem.poison else s.mem.poison.filter (fun l => ! mine (64 * l / 2 ^ 37)) } }
  s1.stopNow (fun j => (upTo 32).any (fun e => mine (e / 2) && (s.job j).usesEngine e)) 0x0403

/-- An edge die fails (R319). -/
def State.edgeDieFails (s : State) (d cause : Nat) : State :=
  if s.regState d ≠ rsInService ∨ cause = 0 then s
  else
    let s1 := s.dieFails d cause
    match d with
    | 48 =>
      let s2 := (upTo 18).foldl (fun (s : State) l => (s.linkGoDown l lsDownUntilStart).updLink l (fun k =>
        if k.state = lsNone ∨ k.state = lsDisabled then k else { k with state := lsDownUntilStart })) s1
      s2.stopNow (fun j => (upTo s.link.grouping).any (fun q => (s.job j).usesPort q && (portLinks s.link.grouping q).any (fun l => decide (l < 18)))) 0x0403
    | 50 => s1.stacksLost 0 8 true
    | 51 => s1.stacksLost 8 8 true
    | 52 => s1.stacksLost 0 8 false
    | 53 => s1.stacksLost 8 8 false
    | 54 => s1.stacksLost 0 16 false
    | _ => s1.powerFaults d cause

/-- REG_DIE_FAULT (R318). -/
def execRegDieFault (d : Fin 48) (cause : Fin 6) (s : State) : Res := .next (s.noteFeatures (s.fieldDieFails d.val cause.val))

/-- EDGE_REG_FAULT (R319). -/
def execEdgeRegFault (d : Fin 8) (cause : Fin 6) (s : State) : Res := .next (s.noteFeatures (s.edgeDieFails (48 + d.val) cause.val))

/-! ## Voltage and sensors (R320, R322, R333) -/

/-- The voltage-headroom ceiling of a group's zones is evaluated: FREQ_COMMON − 100 MHz while R320 or R326 calls for it. -/
def State.evalHeadroom (s : State) (g : Nat) : State :=
  let on := s.pwr.overMv.testBit g || s.pwr.excess.testBit g
  (upTo 6).foldl (fun (s : State) i => s.updZoneClk (6 * g + i) (fun k => { k with headroom := if on then some (max 1200 (s.clk.freq - 100)) else none })) s

def setBit (m i : Nat) (b : Bool) : Nat := if m.testBit i = b then m else if b then m + 2 ^ i else m - 2 ^ i

/-- VLOG_REGULATION_TICK (R320): the output needed to hold the target, up to 0.90 V; 200 µs above it call for the ceiling. -/
def execVlogRegulationTick (g : GroupIx) (needMv : Nat) (s : State) : Res :=
  let p := s.pwr
  let n := if 900 < needMv then p.overTicks[g] + 1 else 0
  let overBy := decide (1000 ≤ n)
  let s1 := s.updPwr (fun p => { p with
    setMv := p.setMv.set g (min needMv 900), overTicks := p.overTicks.set g n, overMv := setBit p.overMv g.val overBy })
  .next (if overBy && ! p.overMv.testBit g.val then (s1.evalHeadroom g.val).retarget else s1)

/-- RATING_EXCESS (R326). -/
def execRatingExcess (g : GroupIx) (s : State) : Res :=
  .next (((s.updPwr (fun p => { p with excess := setBit p.excess g.val true })).evalHeadroom g.val).retarget)

/-- A held zone that no job owns is parked at once. -/
def State.holdZone (s : State) (z : Nat) : State :=
  let s1 := s.faultHold z
  if s1.zoneIdle z then s1.beginPark z pcHold false else s1

/-- A sensor is marked failed (R322); a zone with more than half of one kind failed is fault-held. -/
def State.sensorFails (s : State) (kind index : Nat) : State :=
  let per := if kind = 1 then 16 else 8
  if (kind ≠ 1 ∧ kind ≠ 2) ∨ 48 * per ≤ index then s
  else
    let sel := kind * 4096 + index
    let z := index / per
    let s1 := if s.pwr.failed.contains sel then s else s.updPwr (fun p => { p with failed := p.failed ++ [sel] })
    if s1.sensorsBad z kind then (s1.holdZone z).retarget else s1

/-- SENSOR_FAIL_MARK (R322). -/
def execSensorFailMark (kind : Fin 3) (index : Nat) (s : State) : Res := .next (s.noteFeatures (s.sensorFails kind.val index))

/-! ## The current ledger and switching on (R326 to R328) -/

/-- The estimates of a group from activity weights of its six zones and its mesh band, scaled to sum to the measured output; what integer
division leaves goes to the mesh band (DESIGN CHOICE, log entry 27). -/
def State.ledger (s : State) (g : GroupIx) (meas : Nat) (ws : List Nat) : State :=
  let w := fun i => ws.getD i 0
  let sum := (upTo 7).foldl (fun n i => n + w i) 0
  let share := fun i => if sum = 0 then 0 else meas * w i / sum
  let zs := (upTo 6).map share
  let s1 := (upTo 6).foldl (fun (s : State) i => s.updZone (6 * g.val + i) (fun p => { p with current := min (share i) 65535 })) s
  s1.updPwr (fun p => { p with
    bandCur := p.bandCur.set g (meas - zs.foldl (· + ·) 0), measured := p.measured.set g ((meas :: p.measured[g]).take 10)
    excess := if meas ≤ s.rating g.val then setBit p.excess g.val false else p.excess })

/-- CURRENT_LEDGER_TICK (R326). -/
def execCurrentLedgerTick (g : GroupIx) (measuredQa : Nat) (weights : List Nat) (s : State) : Res := .next (s.ledger g measuredQa weights)

/-- ZONE_SWITCH_ON_REQUEST (R326, R327): held zones stay off; a request waits during a management reset (R371). -/
def execZoneSwitchOnRequest (z : ZoneIx) (s : State) : Res :=
  .next (if ! s.boot.mgmt || s.zoneHeld z.val then s else s.requestOn z.val)

/-- ZONE_RAMP_START (R326): the group's oldest request ramps when H ≥ 44 A and no other zone of the group ramps; slowly where the retry
table says so (R354). -/
def execZoneRampStart (z : ZoneIx) (waitUs : Nat) (s : State) : Res :=
  let g := z.val / 6
  let slow := s.actionOf 3 z.val == raLevel1
  .next (if s.nextInGroup g = some z.val ∧ s.ramping g = false ∧ s.bandOn z.val = true ∧ (slow = true ∨ 176 ≤ s.headroom g) then s.startRamp z.val slow waitUs else s)

/-- SLOW_RAMP_START (R326): after 1 ms of waiting. -/
def execSlowRampStart (z : ZoneIx) (s : State) : Res :=
  let g := z.val / 6
  .next (if s.nextInGroup g = some z.val ∧ s.ramping g = false ∧ s.bandOn z.val = true then (s.startRamp z.val true 1000).bump (ck 0x4070 3) 1 else s)

/-- The zone core ramps. -/
def State.zoneRamps (s : State) (z : Nat) : Bool := s.zoneState z == zsRamping || s.zoneState z == zsUnparking

/-- ZONE_POWER_GOOD (R327). -/
def execZonePowerGood (z : ZoneIx) (s : State) : Res := .next (if s.zoneRamps z.val then s.powerGood z.val else s)

/-- Power-good is not reached (R328): the gate opens again, and the zone is in FAULT until the next start. -/
def State.domainFault (s : State) (z : Nat) : State :=
  let s1 := s.forTiles (s.zoneTiles (2 ^ z)) (fun _ t => t.powerOff)
  let s2 := s1.updZone z (fun p => { p with state := zsFault, hold := if p.hold = 0 then hoDomain else p.hold, parkAfter := none, toOff := false })
  (s2.bump (ck 0x4070 4) 1).abandonTests (fun q => q.unit == z && q.kind != 6)

/-- POWER_GOOD_TIMEOUT (R328). -/
def execPowerGoodTimeout (z : ZoneIx) (s : State) : Res := .next (s.noteFeatures (if s.zoneRamps z.val then s.domainFault z.val else s))

/-! ## Parking (R328 to R331) -/

/-- Idle, and no test runs on it (R281, R329). -/
def State.zoneFree (s : State) (z : Nat) : Bool := s.zoneIdle z && ! s.check.tests.any (fun q => q.unit == z && q.kind != 6 && q.running)

/-- The cause for which the device parks an idle zone: the first of R329 that the state shows (DEDUCED, log entry 27). -/
def State.parkReason (s : State) (z : Nat) : Nat :=
  if s.regHeld z then pcRegulator else if s.zoneHeld z then pcHold else if 1520 < (s.zonePwr z).temp then pcHeat
  else if s.pwr.unmet then pcLimit else if s.pwr.idleParkMs ≠ 0 then pcIdle else pcRequest

/-- ZONE_PARK (R318, R329, R330): a zone of a group with four working dies is parked whether owned or not; other parking waits during a
management reset (R371). -/
def execZonePark (z : ZoneIx) (s : State) : Res :=
  .next (if s.regHeld z.val then s.fieldParks (z.val / 6) else if s.boot.mgmt && s.zoneFree z.val then s.beginPark z.val (s.parkReason z.val) false else s)

/-- ZONE_IDLE_PARK (R329). -/
def execZoneIdlePark (z : ZoneIx) (s : State) : Res :=
  .next (if s.boot.mgmt = true ∧ s.zoneFree z.val = true ∧ s.pwr.idleParkMs ≠ 0 ∧ s.zoneOn z.val = true then s.beginPark z.val pcIdle false else s)

/-- PARKING_COMPLETE (R324, R330, R331): tests that waited for the zone begin. -/
def execParkingComplete (z : ZoneIx) (s : State) : Res := .next (s.noteFeatures (s.parkDone z.val).startTests)

/-- A request is counted as refused when it leaves one of its zones as it is (R346). -/
def State.countLeft (s : State) (left : Bool) : State := s.bump (ck 0x4070 8) (if left then 1 else 0)

/-- PARK_REQUEST (R329, R346). -/
def State.writePark (toOff : Bool) (m : Nat) : Writer := fun s =>
  if 2 ^ 48 ≤ m then refuse (ck 0x4070 8) 0x0401 s
  else
    let zs := maskZones m
    let can := fun (s : State) z => s.zoneFree z && (let st := s.zoneState z
      st == zsOn || st == zsWaiting || st == zsRamping || st == zsUnparking || (toOff && (st == zsParked || st == zsParking)))
    let s1 := zs.foldl (fun (s : State) z => if can s z then s.beginPark z pcRequest toOff else s) s
    (if toOff then s1 else s1.countLeft (zs.any (fun z => ! can s z)), 0)
def execParkRequest (car : Carrier) (mask : U64) (s : State) : Res := mgmtWrite car clsConfig (State.writePark false mask.toNat) s

/-- POWER_OFF_REQUEST (R331). -/
def execPowerOffRequest (car : Carrier) (mask : U64) (s : State) : Res := mgmtWrite car clsConfig (featWriter (State.writePark true mask.toNat)) s

/-- UNPARK_REQUEST (R331, R346). -/
def State.writeUnpark (m : Nat) : Writer := fun s =>
  if 2 ^ 48 ≤ m then refuse (ck 0x4070 8) 0x0401 s
  else
    let zs := maskZones m
    let can := fun (s : State) z => ! s.zoneHeld z && (s.zoneState z == zsOff || s.zoneState z == zsParked)
    ((zs.foldl (fun (s : State) z => if can s z then s.requestOn z else s) s).countLeft (zs.any (fun z => ! can s z)), 0)
def execUnparkRequest (car : Carrier) (mask : U64) (s : State) : Res := mgmtWrite car clsConfig (State.writeUnpark mask.toNat) s

/-! ## Temperature (R332 to R334) -/

/-- The temperature ceiling of a zone: a fall is taken at once; a rise when 10 ms of samples allow it with 2 °C to spare (R333). -/
def tempStep (binMax : Nat) (t : Int) (k : ZoneClk) : ZoneClk :=
  let c := tempCeilOf binMax t
  let w := tempCeilOf binMax (t + 32)
  if c ≤ k.tempCeil ∧ w ≤ k.tempCeil then { k with tempCeil := c, coolTicks := 0 }
  else if w ≤ k.tempCeil then { k with coolTicks := 0 }
  else
    let low := if k.coolTicks = 0 then w else min w k.coolCeil
    if 99 ≤ k.coolTicks then { k with tempCeil := low, coolTicks := 0 } else { k with coolTicks := k.coolTicks + 1, coolCeil := low }

/-- A zone heats (R329, R334): an idle zone above 95 °C is parked; above 105 °C a job is asked to stop and the zone is held. -/
def State.heat (s : State) (z : Nat) (t : Int) : State :=
  let note := fun (s : State) => s.raise 0x06 z (leOfNat 2 (t % 65536).toNat)
  match s.zoneOwner z with
  | none => if 1520 < t ∧ s.zoneOn z = true then note (s.beginPark z pcHeat false) else s
  | some j =>
    if t ≤ 1680 ∨ (s.zonePwr z).hold = hoHot then s
    else
      let b := s.job j
      let s1 := s.updZone z (fun p => { p with hold := if p.hold = 0 then hoHot else p.hold })
      note ((if b.running && b.stopReq.isNone then s1.bump (ck 0x4070 6) 1 else s1).askStop j 0x0402)

/-- One sample of every temperature sensor (R322, R332). -/
def State.sampleTemps (s : State) (ts : List Int) : State :=
  let s1 := s.updPwr (fun p => { p with sensors := (List.zip (upTo 384) ts).foldl (fun m q => SMap.put 0 m (0x2000 + q.1) (tempWord q.2)) p.sensors })
  let zone := fun z => ((upTo 8).filter (fun k => ! s.pwr.failed.contains (0x2000 + 8 * z + k))).filterMap (fun k => ts[8 * z + k]?)
  allZones.foldl (fun (s : State) z =>
    match zone z with
    | [] => s
    | c :: cs =>
      let t := cs.foldl max c
      ((s.updZone z (fun p => { p with temp := t })).updZoneClk z (tempStep s.fuses.binMax t)).heat z t) s1

/-- DIE_TEMP_MAX and the thermal cycles (R332, R345). -/
def State.dieTemp (s : State) : State :=
  let zs := s.pwr.zones.toList.map ZonePwr.temp
  let m := zs.foldl max (zs.headD 0)
  let rise := s.pwr.cold && decide (1360 < m)
  (s.updPwr (fun p => { p with dieTempMax := m, cold := if m < 720 then true else if rise then false else p.cold })).updCounts (fun c =>
    { c with thermalCycles := c.thermalCycles + (if rise then 1 else 0) })

/-- TEMP_SAMPLE (R332 to R334). -/
def execTempSample (temps : List Int) (s : State) : Res := .next ((s.sampleTemps temps).dieTemp.retarget)

/-- OVERTEMP_HOLD_RELEASE (R334): 10 s below 95 °C. -/
def execOvertempHoldRelease (z : ZoneIx) (s : State) : Res :=
  .next (if (s.zonePwr z.val).hold = hoHot ∧ (s.zonePwr z.val).temp < 1520 then s.noteFeatures (s.updZone z.val (fun p => { p with hold := 0 })) else s)

/-! ## The power limit (R335, R336) -/

/-- The highest idle ON zone. -/
def State.limitPark (s : State) : Option Nat := (allZones.filter (fun z => s.zoneOn z && s.zoneFree z)).getLast?

def State.setUnmet (s : State) (b : Bool) : State :=
  if s.pwr.unmet = b then s else (s.updPwr (fun p => { p with unmet := b })).raise 0x0A 0 (leOfNat 1 (if b then 1 else 0))

/-- A check of the 10 ms average (R336). -/
def State.checkLimit (s : State) (avg : Nat) : State :=
  let l := s.limitInForce
  let s1 := s.updPwr (fun p => { p with pkgPower := avg, pkgPeak := max p.pkgPeak avg })
  if l < avg then
    let s2 := s1.updPwr (fun p => { p with powerCeiling := some (max 1200 (s.clk.freq - 100)), lowChecks := 0 })
    if s.clk.freq = 1200 then
      match s.limitPark with
      | some z => (s2.beginPark z pcLimit false)
      | none => (s2.setUnmet true).bump (ck 0x4070 7) 10
    else s2
  else
    let low := decide (100 * avg < 93 * l)
    let n := if low then s.pwr.lowChecks + 1 else 0
    let raised := match s.pwr.powerCeiling with
      | some c => if 10 ≤ n then (if s.fuses.binMax ≤ c + 100 then none else some (c + 100)) else some c
      | none => none
    (s1.updPwr (fun p => { p with powerCeiling := raised, lowChecks := if 10 ≤ n then 0 else n })).setUnmet false

/-- POWER_LIMIT_CHECK (R333, R336): every 10 ms, with the voltage-headroom ceilings. -/
def execPowerLimitCheck (averageW : Nat) (s : State) : Res :=
  .next (((upTo 8).foldl State.evalHeadroom (s.checkLimit averageW)).retarget)

/-! ## The thermal trip (R337) -/

/-- A comparator asserts at 115 °C. -/
def State.trip (s : State) (sensor : Nat) : State :=
  if s.pwr.tripped ∨ s.pwr.rails = false then s
  else
    let now := s.tally.now
    let s1 := allSlots.foldl (fun (s : State) j => if (s.job j).state = jsEmpty ∨ (s.job j).state = jsEnded then s else s.endJob j 0x0420 false) s
    let s2 := s1.abandonTests (fun _ => true)
    let s3 : State := (upTo 36).foldl (fun (s : State) l => (s.linkGoDown l lsHold).updLink l (fun k =>
      if k.state = lsNone ∨ k.state = lsDisabled ∨ k.state = lsDark then k else { k with state := lsHold })) s2
    let s4 : State := { s3 with
      tiles := []
      mem := { s3.mem with stackSts := s3.mem.stackSts.map (fun k => { k with selfRefresh := true, unusable := true }) }
      pwr := { s3.pwr with
        zones := s3.pwr.zones.map (fun p => { p with state := zsOff, parkCause := 0, current := 0, parkAfter := none, toOff := false })
        queue := [], bands := 0, memIf := 0, linkPorts := 0, vlogMv := 0, tripped := true
        trips := now :: s3.pwr.trips, tripWait := decide (2 ≤ (s3.pwr.trips.filter (fun t => decide (now - t ≤ 2 ^ 36))).length) } }
    ((s4.updCounts (fun c => { c with trips := c.trips + 1 })).lifeFault 2 sensor 0).commitCounts

/-- THERMAL_TRIP (R337). -/
def execThermalTrip (sensor : Nat) (s : State) : Res := .next (s.noteFeatures (s.trip sensor))

/-! ## Energy (R339, R340) -/

/-- Counts of a period that a job owned its units. -/
def Job.ownedIn (b : Job) (p0 : Nat) : Nat :=
  if ! b.holds && b.state != jsEnded then 0
  else
    let hi := if b.holds then p0 + 1024 else min (p0 + 1024) b.endTally
    hi - max p0 b.ownFrom

/-- A unit's share goes to the jobs that owned it, in proportion to the counts owned; the rest is unattributed. -/
def State.share (s : State) (p0 e : Nat) (uses : Job → Bool) : State :=
  let parts := allSlots.map (fun j => (j, if uses (s.job j) then e * (s.job j).ownedIn p0 / 1024 else 0))
  let s1 := parts.foldl (fun (s : State) q => s.updJob q.1 (fun b =>
    let n := b.energyUj + q.2
    { b with energyUj := n, energyFinal := if b.state = jsEnded ∧ 0 < q.2 then n / 1000 else b.energyFinal })) s
  s1.updPwr (fun p => { p with unattrUj := p.unattrUj + (e - parts.foldl (fun n q => n + q.2) 0) })

/-- Divide an energy among units in proportion to weights; what integer division leaves is unattributed (DESIGN CHOICE, log entry 27). -/
def State.divide (s : State) (p0 e : Nat) (units : List (Nat × (Job → Bool))) : State :=
  let sum := units.foldl (fun n u => n + u.1) 0
  let part := fun (w : Nat) => if sum = 0 then 0 else e * w / sum
  let s1 := units.foldl (fun (s : State) u => s.share p0 (part u.1) u.2) s
  s1.updPwr (fun p => { p with unattrUj := p.unattrUj + (e - units.foldl (fun n u => n + part u.1) 0) })

/-- The measured energy of the 56 dies in a period of 1,024 tk is divided (R339): field dies by the current ledger; VHIF, VSTQ and VSTP equally
over the present stacks they feed; VLNK equally over the link dies it feeds; the rest is unattributed (the equal parts: log entry 27). -/
def State.energy (s : State) (es : List Nat) : State :=
  let p0 := s.tally.now / 1024 * 1024 - 1024
  let e := fun d => es.getD d 0
  let total := (upTo 56).foldl (fun n d => n + e d) 0
  let group := fun (s : State) g =>
    let sum := (upTo 6).foldl (fun n i => n + e (6 * g + i)) 0
    s.divide p0 sum ((upTo 6).map (fun i => ((s.zonePwr (6 * g + i)).current, fun (b : Job) => b.usesZone (6 * g + i)))
      ++ [(s.pwr.bandCur[groupIx g], fun _ => false)])
  let engs := fun lo n => (upTo 32).filterMap (fun k =>
    if lo ≤ k / 2 ∧ k / 2 < lo + n ∧ s.mem.present.toNat.testBit (k / 2) = true then some (1, fun (b : Job) => b.usesEngine k) else none)
  let links := fun lo => (upTo 36).filterMap (fun l =>
    if lo ≤ l ∧ l < lo + 18 ∧ (s.linkSt l).state ≠ lsNone then some (1, fun (b : Job) => b.usesPort (s.portOfLink l)) else none)
  let s1 := (upTo 8).foldl group s
  let s2 := (((s1.divide p0 (e 50) (engs 0 8)).divide p0 (e 51) (engs 8 8)).divide p0 (e 52) (engs 0 8)).divide p0 (e 53) (engs 8 8)
  let s3 := (((s2.divide p0 (e 54) (engs 0 16)).divide p0 (e 48) (links 0)).divide p0 (e 49) (links 18)).divide p0 (e 55) []
  (s3.updPwr (fun p => { p with deviceUj := p.deviceUj + total })).updCounts (fun c => { c with energyUj := c.energyUj + total })

/-- ENERGY_PERIOD (R339). -/
def execEnergyPeriod (dieMicroJ : List Nat) (s : State) : Res :=
  let r := s.takeDue .energy
  .next (if r.2 then r.1.energy dieMicroJ else r.1)

end Sys2Proof.Machine
end

