-- ==== Sys2Proof/Machine/BootOps.lean ====
section
/-! DEFINITION. What a start does (R348 to R372): items and their failures, the start log, the resets of a start, and signed images (R458,
R459). -/

namespace Sys2Proof.Machine

def State.updBoot (s : State) (f : BootSt → BootSt) : State := { s with boot := f s.boot }

/-! ## Signed images (R458, R459, R361) -/

/-- A little-endian field of an envelope. -/
def imgField (b : List Byte) (off n : Nat) : Nat := natOfLE ((b.drop off).take n)

def imgMgmt : Nat := 1
def imgEcmet : Nat := 2

/-- The first check that an image of a kind fails; 0 when it verifies (R459). -/
def State.imageFault (s : State) (kind : Nat) (b : List Byte) : Nat :=
  let len := imgField b 16 8
  let lenOk := if kind = imgEcmet then len = 65536 else 65536 ≤ len ∧ len ≤ 8388608
  let slot := imgField b 5 1
  let hash := s.fuses.keyHash[slot % 4]'(Nat.mod_lt _ (by decide))
  let pub := (b.drop 32).take 32
  if imgField b 0 4 ≠ 0x4D495856 ∨ imgField b 4 1 ≠ kind ∨ ¬ lenOk ∨ b.length ≠ 256 + len ∨ 4 ≤ slot ∨ imgField b 6 2 ≠ 0 ∨ imgField b 192 64 ≠ 0 then
    0x0B01
  else if bitOf s.fuses.keyRevoked slot = true ∨ hash.all (fun x => x == 0) = true ∨ bitOf s.fuses.keyRoles (4 * slot) = false then 0x0B02
  else if sha512 pub ≠ hash then 0x0B03
  else if sha512 (b.drop 256) ≠ (b.drop 64).take 64 then 0x0B04
  else if Config.ed25519Verify pub (b.take 128) ((b.drop 128).take 64) = false then 0x0B05
  else if imgField b 12 4 < s.fuses.rollback then 0x0B06
  else 0

/-- Verify an image: the code of a failure stands in PROT_LAST_REJECT, and failures of checks 2 to 6 count (R459). -/
def State.verifyImage (s : State) (kind : Nat) (b : List Byte) : State × Bool :=
  let c := s.imageFault kind b
  if c = 0 then (s, true)
  else (({ s with prot := { s.prot with lastReject := c } }).bump (ck 0xB040 1) (if c = 0x0B01 then 0 else 1), false)

/-- The digest of a chunk of a tile section (R361). -/
def chunkDigest (sec : List Byte) (c : Nat) : U64 :=
  (upTo 16).foldl (fun d i => d + digestH 0xFFFFFFFE (16 * c + i) ((sec.drop (1024 * c + 64 * i)).take 64)) 0

def tileDigestOf (sec : List Byte) : U64 := (upTo 64).foldl (fun d c => d + chunkDigest sec c) 0

/-- What the device forms of a verified Ecmet image (R125, R236, R361). -/
def fwImage (b : List Byte) : FwImage :=
  { bytes := b, version := imgField b 8 4, tileDigest := imgField b 24 8, secDigest := (tileDigestOf (b.drop 256)).toNat
    imageDigest := (sha512Head b).toNat, fnDigest := (sha512Head ((b.drop 256).take 16384)).toNat }

/-! ## Items (R350, R364 to R366) -/

/-- The actions of a start as the record gives them; an entry that has been clean often enough has its normal path tried (R366). -/
def fixActions (l : List Retry) : List (Nat × Nat × Nat × Bool) :=
  l.map (fun r => (r.item, r.unit, r.action, r.cleanReq != 0xFF && decide (r.cleanReq ≤ r.cleanSeen)))

/-- The budget of the item has expired in this start (R350). -/
def State.leftOut (s : State) (kind unit : Nat) : Bool := s.boot.left.contains (kind, unit)

/-- An item fails: its entry, the count of the log, and START_STATUS of the first (R350, R364, R367, R372). A stack whose recorded training
fails and that then trains in full is not out of service. -/
def State.itemFails (s : State) (kind unit cause : Nat) : State :=
  (s.retryFail kind unit cause).updBoot (fun b => { b with
    failedItems := min 255 (b.failedItems + 1)
    status := if b.failedItems = 0 then Config.startStatus kind cause % 65536 else b.status
    reduced := b.reduced || kind != 7 })

/-- An item fails unless its expired budget has already failed it. -/
def State.itemFailsNow (s : State) (kind unit cause : Nat) : State := if s.leftOut kind unit then s else s.itemFails kind unit cause

/-- The order in which two image slots are tried (R352, R360, R364, R366): a slot whose normal path is tried again goes first, a slot
that its entry names goes last. -/
def State.slotOrder (s : State) (kind cur : Nat) : List Nat :=
  let other := 1 - cur
  if s.triesNormal kind other then [other, cur] else if s.actionOf kind cur = raSkip then [other, cur] else [cur, other]

/-- Try image slots in order: the first that verifies. -/
def State.trySlots (s : State) (item kind : Nat) (img : Nat → List Byte) : List Nat → State × Option Nat
  | [] => (s, none)
  | i :: is =>
    if s.leftOut item i then s.trySlots item kind img is
    else
      let r := s.verifyImage kind (img i)
      if r.2 then (r.1.retryPass item i, some i) else (r.1.itemFails item i rcVerify).trySlots item kind img is

/-! ## The start log and the stages (R345, R367, R412) -/

/-- Milliseconds of 15,625 counts from t0. -/
def State.sinceT0 (s : State) : Nat := (s.tally.now - s.boot.t0) / 15625

def zonesIn (s : State) (f : Nat → Bool) : List Nat := allZones.filter (fun z => f (s.zoneState z))
def State.zonesUp (s : State) : Nat := zonesMask (zonesIn s (fun st => st == zsOn || st == zsParked))

/-- The log entry of the start in progress, as it stands. -/
def State.startEntry (s : State) : StartLog :=
  { startNo := s.life.startNo, kind := s.boot.kind, outcome := s.boot.outcome, failed := s.boot.failedItems, passes := s.boot.passes
    t0 := s.boot.t0, stageMs := s.boot.stageMs, grade := 96 * s.grid.rows, stackMask := s.mem.present.toNat, linkDies := s.link.dies
    zonesOn := if s.boot.stage = 10 then s.zonesUp else 0 }

/-- The entry is updated in place. -/
def State.updLog (s : State) : State := { s with life := { s.life with log := s.life.log.dropLast ++ [s.startEntry] } }

/-- The outcome of a stage: its time, the log, the commit of the counts, the event. -/
def State.stageOutcome (s : State) (k ms : Nat) : State :=
  let s1 := s.updBoot (fun b => { b with stageMs := b.stageMs.set k (min ms 65535), elapsedMs := ms })
  s1.updLog.commitCounts.raise 0x08 k (leOfNat 1 s1.boot.outcome)

/-- A stage ends and another begins. -/
def State.stageDone (s : State) (k next : Nat) : State := (s.updBoot (fun b => { b with stage := next })).stageOutcome k s.sinceT0

/-- The start ends at stage `k` (R350). -/
def State.endStart (s : State) (k outcome : Nat) : State :=
  (s.updBoot (fun b => { b with outcome := outcome, stage := 10 })).stageOutcome k s.sinceT0

/-- A stage of the start in progress. -/
def State.inStage (s : State) (k : Nat) : Bool := s.boot.powered && s.boot.stage == k

/-! ## The resets of a start (R348, R368, R440) -/

/-- What a start that keeps the power resets: slots, tests, volatile objects and counters. The tally, the reference, the ports and the
management processor stay up; device memory and the kept values stay (R348, R368, R440). -/
def State.warmReset (s : State) : State :=
  { s with
    jobs := Vector.replicate 8 Job.reset, check := CheckSt.reset, ctr := [], tctr := []
    clk := { ClkSt.reset with
      request := s.clk.request, refState := s.clk.refState, shimmerOffset := s.clk.shimmerOffset }
    tally := { s.tally with
      epochNext := none, holdoverTk := 0, losses := 0, glitches := 0, due := s.tally.due.filter (fun d => d == .lifeCommit || d == .energy) }
    pwr := { PwrSt.reset with
      rails := true, powerGood := s.pwr.powerGood, reg := s.pwr.reg, regCause := s.pwr.regCause, hostIo := s.pwr.hostIo, vlogMv := s.pwr.vlogMv
      setMv := s.pwr.setMv, measured := s.pwr.measured, sensors := s.pwr.sensors, limitSet := s.pwr.limitSet, vin12 := s.pwr.vin12
      dieTempMax := s.pwr.dieTempMax, cold := s.pwr.cold, trips := s.pwr.trips, tripCoolS := s.pwr.tripCoolS }
    prot := { s.prot with
      dbgFails := if 8 ≤ s.prot.dbgFails then s.prot.dbgFails else 0
      dbgGranted := 0, dbgWanted := 0, challenge := none, dbgReply := [], halts := Vector.replicate 8 none, haltAt := Vector.replicate 8 none
      dbgHalt := 0, dbgHit := 0, hitsCounted := 0, modified := 0, traceCtrl := 0, stepCore := Vector.replicate 8 none, attestNonce := []
      lastReject := 0, mgmtUpdState := 0 }
    host := { s.host with trace := [], traceCount := 0 } }

/-- The compute die is shut down (R368): zone cores off with every bank lost, stacks in self-refresh, links in hold, domains off. -/
def State.shutDown (s : State) : State :=
  { s with
    tiles := [], grid := Grid.reset
    mem := { s.mem with
      present := 0, engines := MemSys.reset.engines, service := []
      stackSts := s.mem.stackSts.map (fun k => { StackSt.reset with selfRefresh := true, temp := k.temp }) }
    link := { LinkSys.reset with
      grouping := s.link.groupingNext, groupingNext := s.link.groupingNext, masterSet := s.link.masterSet
      links := s.link.links.map (fun k => { LinkSt.reset with
        laser := k.laser, latencyNs := k.latencyNs, state := if k.state = lsNone ∨ k.state = lsDisabled then k.state else lsHold }) } }

/-- A start begins: its number, its log entry, its actions (R348, R366, R367). -/
def State.beginStart (s : State) (kind : Nat) : State :=
  let b := s.boot
  let s1 : State := { s with
    life := { s.life with startNo := (s.life.startNo + 1) % 2 ^ 32 }
    boot := { BootSt.reset with
      powered := true, stage := if kind = 1 then 0 else 2, kind := kind, t0 := s.tally.now, stageMs := List.replicate 10 0xFFFF
      mgmt := b.mgmt, mgmtSlot := b.mgmtSlot, mgmtVersion := b.mgmtVersion, deviceId := b.deviceId, actions := fixActions s.life.retry } }
  { s1 with life := { s1.life with log := (s1.life.log ++ [s1.startEntry]).drop (s1.life.log.length - 63) } }

/-- A start that follows a shutdown (R348, R368): MAINT_NONCE takes a new value (R465). -/
def State.restart_ (s : State) (kind : Nat) : State :=
  let s1 := (s.warmReset.shutDown).beginStart kind
  let r := s1.random 16
  { r.2 with prot := { r.2.prot with maintNonce := r.1 } }

end Sys2Proof.Machine
end

