-- ==== Sys2Proof/Machine/Debug.lean ====
section
/-! DEFINITION. Halting, stepping and the debug commands (R457, R466 to R473). -/

namespace Sys2Proof.Machine

/-! ## Levels, the reply and the trace -/

/-- The debug level in force (R457, R467). -/
def State.level (s : State) : Nat := max s.prot.dbgLevel s.prot.dbgGranted

/-- The reply of a command: its status, then data (R472). -/
def State.dbgReplies (s : State) (status : Nat) (data : List Byte) : State :=
  { s with prot := { s.prot with dbgReply := leOfNat 2 status ++ data } }

/-- Records that the trace holds (R473). -/
def traceSize : Nat := 524286

/-- A record: an entry of R411 with the phase bit 0. -/
def entryBytes (kind unit tally : Nat) (data : List Byte) : List Byte :=
  [BitVec.ofNat 8 kind, 0] ++ leOfNat 2 unit ++ [0, 0, 0, 0] ++ leOfNat 8 tally ++ (data ++ List.replicate 16 0).take 16

/-- Append a record to the ring (R473). -/
def State.traceAdd (s : State) (kind unit : Nat) (data : List Byte) : State :=
  let t := s.host.trace ++ [entryBytes kind unit s.tally.now data]
  { s with host := { s.host with trace := t.drop (t.length - traceSize), traceCount := s.host.traceCount + 1 } }

def tkHalt : Nat := 0x11
def tkResume : Nat := 0x12
def tkWrite : Nat := 0x13

/-- A debug command under its level: above the level it is answered 0x0C01 (R457, R472). A device without power does nothing. -/
def State.dbgCommand (s : State) (need : Nat) (f : State → State) : State :=
  if ! s.boot.powered then s else if s.level < need then s.dbgReplies 0x0C01 [] else f s

/-- The slots that a command names: one, or with scope 1 every slot that a condition holds of. -/
def State.scope (s : State) (j : SlotIx) (all : Bool) (p : Job → Bool) : List SlotIx :=
  if all then allSlots.filter (fun k => p (s.job k)) else [j]

/-- A command over slots: 0x0C06 when none of them runs, 0x0C04 when its condition fails (R472). -/
def State.onSlots (s : State) (js : List SlotIx) (cond : Job → Bool) (f : State → SlotIx → State) : State :=
  if js.isEmpty || js.any (fun j => ! (s.job j).running) then s.dbgReplies 0x0C06 []
  else if js.any (fun j => ! cond (s.job j)) then s.dbgReplies 0x0C04 []
  else (js.foldl f s).dbgReplies 0 []

/-! ## Halts (R468, R469) -/

/-- Arm a halt of a job. -/
def State.armHalt (s : State) (j : SlotIx) (h : HaltReq) : State :=
  ({ s with prot := { s.prot with halts := s.prot.halts.set j (some h) } } : State).armTiles j

/-- The root's current step cycle: the furthest that one of its cores has come. -/
def State.rootCycle (s : State) (j : SlotIx) : Nat :=
  match (s.job j).plan with
  | some p => if (s.job j).phase = .step then (s.tile p.root).cores.toList.foldl (fun m k => max m k.now) 0 else 0
  | none => 0

/-- A halt at a cycle of the running step; between steps, of the one that comes next. -/
def State.haltReq (s : State) (j : SlotIx) (cyc cause : Nat) : HaltReq := ⟨(s.job j).steps, cyc, cause, (s.job j).phase != .step⟩

/-- HALT_AT (R469, R472): a target that lies at least 1 ms ahead. -/
def execHaltAt (j : SlotIx) (all : Bool) (steps cycle : Nat) (aheadMs : Nat) (s : State) : Res :=
  .next (s.dbgCommand 1 (fun s =>
    if aheadMs < 1 then s.dbgReplies 0x0C03 []
    else s.onSlots (s.scope j all Job.running) (fun b => ! b.halted) (fun s k =>
      (s.armHalt k ⟨steps, cycle, 1, false⟩).traceAdd tkHalt k.val (leOfNat 1 1))))

/-- HALT_NOW (R469): at the root's current step cycle + H. -/
def execHaltNow (j : SlotIx) (all : Bool) (s : State) : Res :=
  .next (s.dbgCommand 1 (fun s =>
    s.onSlots (s.scope j all Job.running) (fun b => ! b.halted) (fun s k =>
      (s.armHalt k (s.haltReq k (s.rootCycle k + (s.job k).haltDist) 2)).traceAdd tkHalt k.val (leOfNat 1 2))))

/-- The core that STEP_INSN names has not issued since (R469). -/
def State.stepPending (s : State) (j : SlotIx) : Bool :=
  match s.prot.stepCore[j] with
  | some q => ((s.tile (q.1 / 4)).core ⟨q.1 % 4, Nat.mod_lt _ (by decide)⟩).now == q.2
  | none => false

/-- Every unit of the job freezes at a cycle (R468): the frames and update engines have done what lies before it. -/
def State.freeze (s : State) (j : SlotIx) (cyc : Nat) (cause : Nat) : State :=
  let ts := match (s.job j).plan with | some p => p.tiles.map TileRec.t | none => []
  let s1 := if (s.job j).phase = .step ∧ 0 < cyc then
      ts.foldl (fun (s : State) t => s.putTile t ((frameTo (cyc - 1) (s.tile t)).andThen (updTo (cyc - 1)))) s
    else s
  let s2 := (s1.forTiles ts (fun _ t => { t with halted := true })).updJob j (fun b => { b with halted := true })
  let w := cyc % 2 ^ 32 * 2 ^ 32 + cause * 2 ^ 24 + j.val * 2 ^ 21 + min 3 (s.job j).reruns * 2 ^ 19
  let s3 := { s2 with prot := { s2.prot with
    halts := s2.prot.halts.set j none, haltAt := s2.prot.haltAt.set j (some cyc), stepCore := s2.prot.stepCore.set j none
    dbgHalt := BitVec.ofNat 64 w } }
  s3.traceAdd tkHalt j.val (leOfNat 8 w)

/-- JOB_HALT (R468, R469): the armed halt of the job lands. A step series goes on for another cycle until its core has issued. -/
def execJobHalt (j : SlotIx) (s : State) : Res :=
  let b := s.job j
  .next (if ! b.running || b.halted then s
    else match s.prot.halts[j] with
      | none => s
      | some h =>
        if s.haltInStep j then
          (if s.stepPending j then s.armHalt j { h with cyc := h.cyc + 1, fresh := false } else s.freeze j h.cyc h.cause)
        else if s.haltAtFence j then s.freeze j b.len h.cause
        else s)

/-- The units of a halted job go on. -/
def State.unfreeze (s : State) (j : SlotIx) : State :=
  let ts := match (s.job j).plan with | some p => p.tiles.map TileRec.t | none => []
  let s1 := (s.forTiles ts (fun _ t => { t with halted := false, haltCy := none })).updJob j (fun b => { b with halted := false })
  { s1 with prot := { s1.prot with haltAt := s1.prot.haltAt.set j none } }

/-- RESUME (R469). -/
def execResume (j : SlotIx) (all : Bool) (s : State) : Res :=
  .next (s.dbgCommand 1 (fun s =>
    s.onSlots (s.scope j all Job.halted) Job.halted (fun s k => (s.unfreeze k).traceAdd tkResume k.val [])))

/-- The halted cycle: 0 of the step to come for a job halted before it. -/
def State.haltedCy (s : State) (j : SlotIx) : Nat := if (s.job j).phase = .step then (s.prot.haltAt[j]).getD 0 else 0

/-- STEP_CY (R469): n from 1 to 2^20. -/
def execStepCy (j : SlotIx) (all : Bool) (n : Nat) (s : State) : Res :=
  .next (s.dbgCommand 1 (fun s =>
    if n = 0 ∨ 2 ^ 20 < n then s.dbgReplies 0x0C05 []
    else s.onSlots (s.scope j all Job.halted) Job.halted (fun s k =>
      let h := s.haltReq k (s.haltedCy k + n) 5
      ((s.unfreeze k).armHalt k h).traceAdd tkHalt k.val (leOfNat 1 4))))

/-- STEP_INSN (R469): steps of one cycle until the named core has issued. -/
def execStepInsn (j : SlotIx) (i : CoreAt) (s : State) : Res :=
  .next (s.dbgCommand 1 (fun s =>
    if ! s.grid.hasTile i.tile.val then s.dbgReplies 0x0C05 []
    else s.onSlots [j] Job.halted (fun s k =>
      let h := s.haltReq k (s.haltedCy k + 1) 5
      let s1 := (s.unfreeze k).armHalt k h
      let q := (4 * i.tile.val + i.core.val, ((s.tile i.tile.val).core i.core).now)
      ({ s1 with prot := { s1.prot with stepCore := s1.prot.stepCore.set k (some q) } } : State).traceAdd tkHalt k.val (leOfNat 1 5))))

/-! ## Breakpoints and watchpoints (R470) -/

/-- A command to a tile: a tile that does not exist is a reserved value. -/
def State.dbgTile (s : State) (need t : Nat) (f : State → State) : State :=
  s.dbgCommand need (fun s => if s.grid.hasTile t then f s else s.dbgReplies 0x0C05 [])

/-- BP_SET (R470). -/
def execBpSet (i : CoreAt) (n : Fin 4) (pc : U16) (enable : Bool) (s : State) : Res :=
  .next (s.dbgTile 1 i.tile.val (fun s =>
    ((s.updTile i.tile.val (fun t => t.updCore i.core (fun k => { k with bps := k.bps.set n ⟨pc, enable⟩ }))).traceAdd tkWrite i.tile.val
      (leOfNat 1 6)).dbgReplies 0 []))

/-- WP_SET (R470): a length of 1 B to 4 MiB within the scratchpad; kind 3 is reserved. -/
def execWpSet (t : TileIx) (n : Fin 2) (p len : Nat) (kind : BitVec 2) (agents : BitVec 5) (enable : Bool) (s : State) : Res :=
  .next (s.dbgTile 1 t.val (fun s =>
    if len = 0 ∨ 2 ^ 22 < len ∨ 2 ^ 22 ≤ p ∨ kind = 3 then s.dbgReplies 0x0C05 []
    else ((s.updTile t.val (fun k => { k with wps := k.wps.set n ⟨p, len, kind, agents, enable⟩ })).traceAdd tkWrite t.val (leOfNat 1 7)).dbgReplies 0 []))

/-- CLEAR_POINTS (R472). -/
def execClearPoints (s : State) : Res :=
  .next (s.dbgCommand 1 (fun s =>
    (s.forTiles s.allTiles (fun _ t => { t with
      wps := Vector.replicate 2 ⟨0, 0, 0, 0, false⟩, cores := t.cores.map (fun k => { k with bps := CoreSt.reset.bps }) })).dbgReplies 0 []))

/-! ## Reads and writes (R471, R472) -/

/-- A tile that is halted, or whose job has stopped or ended. -/
def State.dbgStill (s : State) (t : Nat) : Bool := (s.tile t).halted || (s.tile t).job.isNone

def State.stillTile (s : State) (need t : Nat) (f : State → State) : State :=
  s.dbgTile need t (fun s => if s.dbgStill t then f s else s.dbgReplies 0x0C04 [])

/-- A write marks its slot while that slot is halted, and is traced (R471, R472). -/
def State.dbgWrote (s : State) (j : SlotIx) (cmd : Nat) : State :=
  let s1 := if (s.job j).halted then { s with prot := { s.prot with modified := s.prot.modified ||| (1#8 <<< j.val) } } else s
  (s1.traceAdd tkWrite j.val (leOfNat 1 cmd)).dbgReplies 0 []

/-- Register number of a class exists: PC, s, v, CSR. -/
def coreNumOk (cls num : Nat) : Bool := match cls with | 0 => num == 0 | 1 => decide (num < 32) | 2 => decide (num < 16) | _ => true

/-- The cycle at which a still tile is read. -/
def stillCy (t : Tile) : Nat := match t.haltCy with | some c => c | none => t.cores.toList.foldl (fun m k => max m k.now) 0

/-- READ_CORE (R472). -/
def execReadCore (j : SlotIx) (i : CoreAt) (cls : Fin 4) (num : BitVec 12) (s : State) : Res :=
  let _ := j
  .next (s.stillTile 1 i.tile.val (fun s =>
    let t := s.tile i.tile.val
    let k := t.core i.core
    let n := num.toNat
    if ! coreNumOk cls.val n then s.dbgReplies 0x0C05 []
    else match cls.val with
      | 0 => s.dbgReplies 0 (leOfNat 8 k.pc)
      | 1 => s.dbgReplies 0 (leOfNat 8 (k.s[n % 32]'(Nat.mod_lt _ (by decide))).toNat)
      | 2 => s.dbgReplies 0 (leOfNat 64 (k.v[n % 16]'(Nat.mod_lt _ (by decide))).toNat)
      | _ =>
        if (csrCauses (s.env i.tile.val) i.core false n 0).any (fun c => c != 0) then s.dbgReplies 0x0C05 []
        else s.dbgReplies 0 (leOfNat 8 (csrValue (s.env i.tile.val) i.core n (stillCy t) t).toNat)))

/-- WRITE_CORE (R472): s0 stays 0. -/
def execWriteCore (j : SlotIx) (i : CoreAt) (cls : Fin 4) (num : BitVec 12) (value : V512) (s : State) : Res :=
  .next (s.stillTile 2 i.tile.val (fun s =>
    let ti := i.tile.val
    let n := num.toNat
    let v64 : U64 := value.setWidth 64
    if ! coreNumOk cls.val n || (cls.val == 0 && decide (65536 ≤ value.toNat)) then s.dbgReplies 0x0C05 []
    else match cls.val with
      | 0 => (s.updTile ti (fun t => t.updCore i.core (fun k => { k with pc := v64.toNat % 65536 }))).dbgWrote j 9
      | 1 => (s.updTile ti (fun t => t.updCore i.core (fun k => k.setS ⟨n % 32, Nat.mod_lt _ (by decide)⟩ v64))).dbgWrote j 9
      | 2 => (s.updTile ti (fun t => t.updCore i.core (fun k => { k with v := k.v.set (n % 16) value (Nat.mod_lt _ (by decide)) }))).dbgWrote j 9
      | _ =>
        if (csrCauses (s.env ti) i.core true n v64).any (fun c => c != 0) then s.dbgReplies 0x0C05 []
        else (s.updTile ti (fun t => csrWrite i.core n (stillCy t) v64 t)).dbgWrote j 9))

/-- Bytes that one command reads or writes (R472). -/
def dbgMax : Nat := 4032

/-- READ_SP (R472): the bank class does not matter, and nothing is detected. -/
def execReadSp (j : SlotIx) (t : TileIx) (p len : Nat) (s : State) : Res :=
  let _ := j
  .next (s.stillTile 1 t.val (fun s =>
    if dbgMax < len ∨ 2 ^ 22 < p + len then s.dbgReplies 0x0C05 [] else s.dbgReplies 0 ((s.tile t.val).data p len)))

/-- WRITE_SP (R472): with good parity. -/
def execWriteSp (j : SlotIx) (t : TileIx) (p : Nat) (data : List Byte) (s : State) : Res :=
  .next (s.stillTile 2 t.val (fun s =>
    if dbgMax < data.length ∨ 2 ^ 22 < p + data.length then s.dbgReplies 0x0C05 []
    else (s.updTile t.val (fun k => { k with
      sp := k.sp.writeBytes p data, spBad := k.spBad.filter (fun a => ! (decide (p ≤ a) && decide (a < p + data.length))) })).dbgWrote j 0x0B))

/-- READ_MEM (R472): device memory, at any time. -/
def execReadMem (addr len : Nat) (s : State) : Res :=
  .next (s.dbgCommand 1 (fun s =>
    if dbgMax < len ∨ s.memCapacity < addr + len then s.dbgReplies 0x0C05 [] else s.dbgReplies 0 (s.memBytes addr len)))

/-- WRITE_MEM (R472). -/
def execWriteMem (j : SlotIx) (addr : Nat) (data : List Byte) (s : State) : Res :=
  .next (s.dbgCommand 2 (fun s =>
    if dbgMax < data.length ∨ s.memCapacity < addr + data.length then s.dbgReplies 0x0C05 [] else (s.memWrite addr data false).dbgWrote j 0x0D))

/-- READ_FRAME (R84, R472): row r of a bank as 32 records. -/
def execReadFrame (j : SlotIx) (t : TileIx) (bank : Fin 2) (row : Fin 32) (s : State) : Res :=
  let _ := j
  .next (s.stillTile 1 t.val (fun s =>
    let k := s.tile t.val
    let b := k.frame.banks[bank]
    s.dbgReplies 0 ((SMap.get AccRow.zero b.rows row.val).flatMap (accRecord k.residue (SMap.get 0 b.cnt row.val)))))

end Sys2Proof.Machine
end

