-- ==== Sys2Proof/Machine/Attest.lean ====
section
/-! DEFINITION. Identity, measurements and the SPDM responder of the DOE mailbox (R420, R421, R455, R462). The layouts of the DOE objects
and of the SPDM 1.2 messages, which the rules name and do not restate, are PRESUMED those of their standards (log entry 47). -/

namespace Sys2Proof.Machine

/-- ASCII bytes. -/
def ascii (t : String) : List Byte := t.toList.map (fun c => BitVec.ofNat 8 c.toNat)

/-! ## Identity and measurements (R421, R455) -/

/-- The seed of the identity key (R455). -/
def State.identityKey (s : State) : List Byte := (sha512 (ascii "XIVIS-ID" ++ s.fuses.identitySeed)).take 32

/-- Sign with the identity key. -/
def State.identitySign (s : State) (msg : List Byte) : List Byte := leOfNat 64 (Config.ed25519Sign s.identityKey msg)

/-- IDENTITY_PUBKEY. -/
def State.identityPub (s : State) : List Byte := leOfNat 32 (Config.ed25519PublicKey s.identityKey)

/-- BOOT_ROM_ID, from S1. -/
def State.bootRomId (s : State) : Nat := if s.boot.powered && decide (2 ≤ s.boot.stage) then Config.bootRomId % 2 ^ 64 else 0

/-- S7 has ended with an image in force. -/
def State.ecmetIn (s : State) : Option FwImage := if 8 ≤ s.boot.stage then s.boot.image else none

/-- The field ECMET_IMAGE of the reproducibility key (R236, R443). -/
def State.ecmetImage (s : State) : Nat := match s.ecmetIn with | some f => f.imageDigest | none => 0

/-- WRITE_POLICY as a word. -/
def State.policyWord (s : State) : Nat := natOfLE s.fuses.writePolicy.toList

/-- KEY_HASHES. -/
def State.keyHashes (s : State) : List Byte := s.fuses.keyHash.toList.flatMap id

/-- The protection fields of block 4 in the order of R453. -/
def State.protFields (s : State) : List Byte :=
  s.keyHashes ++ leOfNat 2 s.fuses.keyRoles.toNat ++ leOfNat 1 s.fuses.keyRevoked.toNat ++ leOfNat 1 s.fuses.debugLock ++ leOfNat 4 s.policyWord

/-- The content of a measurement block, raw or as a digest; empty while it is absent (R421). -/
def State.measurement (s : State) (k : Nat) : List Byte :=
  match k with
  | 1 => leOfNat 8 s.bootRomId
  | 2 => sha512 (s.life.mgmtImages[s.boot.mgmtSlot % 2]'(Nat.mod_lt _ (by decide)))
  | 3 => (match s.ecmetIn with | some f => sha512 f.bytes | none => [])
  | 4 => sha512 (Config.fuseFieldBytes s.protFields)
  | 5 => leOfNat 8 s.fuses.rollback
  | 6 => leOfNat 2 s.fuses.stepping ++ leOfNat 8 s.ecmetImage
  | 7 => leOfNat 8 s.grid.digest.toNat
  | 8 => leOfNat 1 s.level
  | _ => []

/-! ## SPDM messages (R420) -/

/-- A DOE data object of a type. -/
def doeObject (type : Nat) (payload : List Byte) : List Byte :=
  let n := (payload.length + 3) / 4
  leOfNat 2 1 ++ [BitVec.ofNat 8 type, 0] ++ leOfNat 4 (n + 2) ++ (payload ++ List.replicate 3 0).take (4 * n)

def spdmError (code : Nat) : List Byte := [0x12, 0x7F, BitVec.ofNat 8 code, 0]
def seInvalid : Nat := 1
def seUnexpected : Nat := 4

/-- The text that a signature covers: the combined context and the hash of the messages. -/
def spdmSigned (context : String) (msgs : List Byte) : List Byte :=
  let c := ascii context
  (List.replicate 4 (ascii "dmtf-spdm-v1.2.*")).flatMap id ++ List.replicate (36 - c.length) 0 ++ c ++ sha512 msgs

def spdmEd25519 : Nat := 0x400
def spdmSha512 : Nat := 4
/-- CERT_CAP, CHAL_CAP and MEAS_CAP with signatures. -/
def spdmFlags : Nat := 0x16
/-- Largest message of an object of 8 KiB. -/
def spdmMax : Nat := 8184

/-- The request as its message. -/
def DoeReq.bytes : DoeReq → List Byte
  | .version => [0x10, 0x84, 0, 0]
  | .capabilities => [0x12, 0xE1, 0, 0] ++ List.replicate 16 0
  | .algorithms asym hash =>
    [0x12, 0xE3, 0, 0] ++ leOfNat 2 32 ++ [1, 0] ++ leOfNat 4 asym ++ leOfNat 4 hash ++ List.replicate 16 0
  | .digests => [0x12, 0x81, 0, 0]
  | .certificate slot offset len => [0x12, 0x82, BitVec.ofNat 8 slot, 0] ++ leOfNat 2 offset ++ leOfNat 2 len
  | .challenge slot nonce => [0x12, 0x83, BitVec.ofNat 8 slot, 0] ++ nonce
  | .measurements index sign nonce =>
    [0x12, 0xE0, if sign then 1 else 0, BitVec.ofNat 8 index] ++ (if sign then nonce ++ [0] else [])
  | .discovery index => leOfNat 4 index

/-- A measurement block of the record: raw values and digests are told apart by bit 7 of the type. -/
def State.measBlock (s : State) (k : Nat) : List Byte :=
  let v := s.measurement k
  let ty := match k with | 1 => 0x80 | 2 => 1 | 3 => 1 | 4 => 2 | 5 => 0x83 | 6 => 0x83 | 7 => 0x82 | _ => 0x83
  if v = [] then [] else [BitVec.ofNat 8 k, 1] ++ leOfNat 2 (v.length + 3) ++ [BitVec.ofNat 8 ty] ++ leOfNat 2 v.length ++ v

/-- The blocks that are present. -/
def State.measPresent (s : State) : List Nat := [1, 2, 3, 4, 5, 6, 7, 8].filter (fun k => s.measurement k != [])

/-- Send the answer of a request, as SPDM. -/
def State.doeAnswer (s : State) (msg : List Byte) : State := s.send (.doe (doeObject 1 msg))

def State.updHost (s : State) (f : HostSt → HostSt) : State := { s with host := f s.host }

/-- CHALLENGE_AUTH of slot 0. -/
def State.spdmChallenge (s : State) (req : List Byte) : State :=
  let n := s.random 32
  let head := [0x12, 0x03, 0x00, 0x01] ++ sha512 s.life.certChain ++ n.1 ++ leOfNat 2 0
  let sig := n.2.identitySign (spdmSigned "responder-challenge_auth signing" (s.host.transcript ++ s.host.spdmCert ++ req ++ head))
  (n.2.updHost (fun h => { h with spdmCert := [], spdmMeas := [] })).doeAnswer (head ++ sig)

/-- MEASUREMENTS: the number of blocks for index 0, every block for index 0xFF, else one. -/
def State.spdmMeasurements (s : State) (index : Nat) (sign : Bool) (req : List Byte) : State :=
  let ks := if index = 0 then [] else if index = 0xFF then s.measPresent else s.measPresent.filter (fun k => k == index)
  if ks.isEmpty && index != 0 then s.doeAnswer (spdmError seInvalid)
  else
    let rec_ := ks.flatMap s.measBlock
    let n := s.random 32
    let head := [0x12, 0x60, BitVec.ofNat 8 (if index = 0 then s.measPresent.length else 0), 0, BitVec.ofNat 8 ks.length]
      ++ leOfNat 3 rec_.length ++ rec_ ++ n.1 ++ leOfNat 2 0
    let msgs := s.host.spdmMeas ++ req ++ head
    if sign then
      (n.2.updHost (fun h => { h with spdmMeas := [] })).doeAnswer
        (head ++ n.2.identitySign (spdmSigned "responder-measurements signing" (s.host.transcript ++ msgs)))
    else (n.2.updHost (fun h => { h with spdmMeas := msgs })).doeAnswer head

/-- Answer a request of the DOE mailbox (R420). -/
def State.serveDoe (s : State) (r : DoeReq) : State :=
  let h := s.host
  let req := r.bytes
  let agreed := h.spdmVersion && h.spdmCaps && h.spdmAlgs
  let cert := fun (s : State) (ans : List Byte) =>
    (s.updHost (fun h => { h with spdmCert := h.spdmCert ++ req ++ ans, spdmMeas := [] })).doeAnswer ans
  match r with
  | .discovery i =>
    s.send (.doe (doeObject 0 (if i = 0 then [1, 0, 0, 1] else if i = 1 then [1, 0, 1, 0] else [0xFF, 0xFF, 0, 0])))
  | .version =>
    let ans : List Byte := [0x10, 0x04, 0, 0, 0, 1, 0x00, 0x12]
    (s.updHost (fun h => { h with
      spdmVersion := true, spdmCaps := false, spdmAlgs := false, transcript := req ++ ans, spdmCert := [], spdmMeas := [] })).doeAnswer ans
  | .capabilities =>
    if ! h.spdmVersion then s.doeAnswer (spdmError seUnexpected)
    else
      let ans := [0x12, 0x61, 0, 0, 0, BitVec.ofNat 8 Config.spdmCtExponent, 0, 0] ++ leOfNat 4 spdmFlags ++ leOfNat 4 spdmMax ++ leOfNat 4 spdmMax
      (s.updHost (fun h => { h with spdmCaps := true, transcript := h.transcript ++ req ++ ans })).doeAnswer ans
  | .algorithms asym hash =>
    if ! (h.spdmVersion && h.spdmCaps) then s.doeAnswer (spdmError seUnexpected)
    else
      let a := asym &&& spdmEd25519
      let d := hash &&& spdmSha512
      let ans := [0x12, 0x63, 0, 0] ++ leOfNat 2 36 ++ [1, 0] ++ leOfNat 4 8 ++ leOfNat 4 a ++ leOfNat 4 d ++ List.replicate 16 0
      (s.updHost (fun h => { h with spdmAlgs := decide (a ≠ 0 ∧ d ≠ 0), transcript := h.transcript ++ req ++ ans })).doeAnswer ans
  | .digests =>
    if ! agreed then s.doeAnswer (spdmError seUnexpected) else cert s ([0x12, 0x01, 0, 1] ++ sha512 s.life.certChain)
  | .certificate slot offset len =>
    if ! agreed then s.doeAnswer (spdmError seUnexpected)
    else if slot ≠ 0 ∨ s.life.certChain.length < offset then s.doeAnswer (spdmError seInvalid)
    else
      let part := (s.life.certChain.drop offset).take (min len (spdmMax - 8))
      cert s ([0x12, 0x02, 0, 0] ++ leOfNat 2 part.length ++ leOfNat 2 (s.life.certChain.length - offset - part.length) ++ part)
  | .challenge slot nonce =>
    if ! agreed then s.doeAnswer (spdmError seUnexpected)
    else if slot ≠ 0 ∨ nonce.length ≠ 32 then s.doeAnswer (spdmError seInvalid)
    else s.spdmChallenge req
  | .measurements index sign nonce =>
    if ! agreed then s.doeAnswer (spdmError seUnexpected)
    else if sign = true ∧ nonce.length ≠ 32 then s.doeAnswer (spdmError seInvalid)
    else s.spdmMeasurements index sign req

/-- The DOE mailbox is reachable (R369, R461). -/
def State.doeOn (s : State) : Bool := s.listening && ! s.recovery && s.pwr.hostIo && s.host.linkUp && ! s.host.perst

/-- A request of the DOE mailbox: during a management reset it waits with Busy set (R371, R420). -/
def State.doe (s : State) (r : DoeReq) : State :=
  if ! s.doeOn then s
  else if ! s.boot.mgmt then s.updHost (fun h => { h with doeWait := h.doeWait ++ [r] })
  else s.serveDoe r

/-- The requests that waited are served when the processor runs again (R420). -/
def State.doeDrain (s : State) : State :=
  let w := s.host.doeWait
  w.foldl (fun (s : State) r => s.serveDoe r) (s.updHost (fun h => { h with doeWait := [] }))

/-- GET_VERSION (R420). -/
def execGetVersion (s : State) : Res := .next (s.doe .version)
/-- GET_CAPABILITIES (R420). -/
def execGetCapabilities (s : State) : Res := .next (s.doe .capabilities)
/-- NEGOTIATE_ALGORITHMS (R420). -/
def execNegotiateAlgorithms (asym hash : U32) (s : State) : Res := .next (s.doe (.algorithms asym.toNat hash.toNat))
/-- GET_DIGESTS (R420). -/
def execGetDigests (s : State) : Res := .next (s.doe .digests)
/-- GET_CERTIFICATE (R420). -/
def execGetCertificate (slot : Byte) (offset len : U16) (s : State) : Res := .next (s.doe (.certificate slot.toNat offset.toNat len.toNat))
/-- CHALLENGE (R420). -/
def execChallenge (slot : Byte) (nonce : List Byte) (s : State) : Res := .next (s.doe (.challenge slot.toNat nonce))
/-- GET_MEASUREMENTS (R421). -/
def execGetMeasurements (index : Byte) (sign : Bool) (nonce : List Byte) (s : State) : Res :=
  .next (s.doe (.measurements index.toNat sign nonce))
/-- DOE_DISCOVERY (R420). -/
def execDoeDiscovery (index : Byte) (s : State) : Res := .next (s.doe (.discovery index.toNat))

end Sys2Proof.Machine
end

