-- ==== Sys2Proof/Machine/Tokens.lean ====
section
/-! DEFINITION. Power tokens (R341 to R344): the pool on the master, its moves, and the holding of a member. -/

namespace Sys2Proof.Machine

/-- The devices of the cascade, the own included (R396). -/
def State.cascade (s : State) : List Nat := insNat s.boot.deviceId s.link.heard

def State.updToken (s : State) (f : TokenSt → TokenSt) : State := s.updPwr (fun p => { p with token := f p.token })

/-- The pool is divided (R341): pool div n for each member, the remainder is the master's reserve. Pool 0 ends the group. -/
def State.setPool (s : State) (pool : Nat) : State :=
  let ms := s.cascade
  let n := ms.length
  let each := pool / n
  s.updToken (fun t => { t with
    pool := pool, held := if pool = 0 then 0 else each, member := pool != 0, fair := each, reserve := pool - n * each
    record := if pool = 0 then [] else ms.map (fun d => (d, each)), move := none, broken := false })

/-- The device holds the pool: it is the master, or alone. -/
def State.holdsPool (s : State) : Bool := s.link.state == csMaster || s.link.state == csAlone

/-- TOKEN_POOL_W (R341, R346). -/
def State.writePool (v : Nat) : Writer :=
  rwj (fun s => (if s.holdsPool then s.setPool v else s.updToken (fun t => { t with pool := v }), 0))
def execTokenPoolW (car : Carrier) (value : U32) (s : State) : Res := mgmtWrite car clsConfig (State.writePool value.toNat) s

def holdingOf (r : List (Nat × Nat)) (d : Nat) : Nat := match r.find? (fun q => q.1 == d) with | some q => q.2 | none => 0
def setHolding (r : List (Nat × Nat)) (d v : Nat) : List (Nat × Nat) := r.map (fun q => if q.1 = d then (d, v) else q)

/-- Tokens in transit. -/
def TokenSt.transit (t : TokenSt) : Nat := match t.move with | some m => if m.credited then m.watts else 0 | none => 0

/-- The sum of the record, the reserve and the tokens in transit is the pool (R341). -/
def TokenSt.sumOk (t : TokenSt) : Bool := t.record.foldl (fun n q => n + q.2) 0 + t.reserve + t.transit == t.pool

/-- A token-ledger break (R344): every member is told, and the pool is set afresh. -/
def State.tokenBreak (s : State) : State :=
  ((s.bump (ck 0x4050 6) 1).send (.peer 0xFFFF pkBreak [0x0430])).setPool s.pwr.token.pool

/-- A holding is lowered or raised by a move, once for each sequence number (R343). -/
def State.applyMove (s : State) (seq w : Nat) (up : Bool) : State :=
  if s.pwr.token.applied.contains (2 * seq + (if up then 1 else 0)) then s
  else s.updToken (fun t => { t with
    held := if up then t.held + w else t.held - w, applied := (2 * seq + (if up then 1 else 0)) :: t.applied
    fair := if t.member then t.fair else w, member := true })

/-- The master takes an acknowledgement (R343, R344). -/
def State.tokenAck (s : State) (device seq holding : Nat) : State :=
  let t := s.pwr.token
  match t.move with
  | none => s
  | some m =>
    if m.seq ≠ seq ∨ s.holdsPool = false then s
    else if ! m.credited then
      if device ≠ m.donor then s
      else
        let v := holdingOf t.record m.donor - m.watts
        let s1 := s.updToken (fun t => { t with record := setHolding t.record m.donor v, move := some { m with credited := true, tries := 0 } })
        if v ≠ holding ∨ s1.pwr.token.sumOk = false then s1.tokenBreak
        else s1.send (.peer m.receiver pkCredit [seq, m.watts])
    else if device ≠ m.receiver then s
    else
      let v := holdingOf t.record m.receiver + m.watts
      let s1 := s.updToken (fun t => { t with record := setHolding t.record m.receiver v, move := none })
      if v ≠ holding ∨ s1.pwr.token.sumOk = false then s1.tokenBreak else s1.bump (ck 0x4050 5) 1

/-- Halves whose member is the master itself are carried out at once. -/
def State.ownHalves (s : State) : State :=
  let me := s.boot.deviceId
  let step := fun (s : State) =>
    match s.pwr.token.move with
    | some m =>
      if ! m.credited && m.donor == me then (s.applyMove m.seq m.watts false).tokenAck me m.seq (s.applyMove m.seq m.watts false).pwr.token.held
      else if m.credited && m.receiver == me then (s.applyMove m.seq m.watts true).tokenAck me m.seq (s.applyMove m.seq m.watts true).pwr.token.held
      else s
    | none => s
  step (step s)

/-- Of members with their waits, the one that a comparison prefers; ties go to the lowest identity. -/
def pickWait (better : Nat → Nat → Bool) : List (Nat × Nat) → Option (Nat × Nat)
  | [] => none
  | q :: qs => some (qs.foldl (fun b c => if better c.2 b.2 || (c.2 == b.2 && decide (c.1 < b.1)) then c else b) q)

/-- A period's reports: device, holding, fence wait. The master checks its record and makes at most one move (R342, R344). That the fused limit
of every receiver is the own one: DESIGN CHOICE, log entry 28. -/
def State.tokenReports (s : State) (rs : List (Nat × Nat × Nat)) : State :=
  let t := s.pwr.token
  if ! s.holdsPool || t.pool == 0 || t.move.isSome then s
  else if rs.any (fun r => holdingOf t.record r.1 != r.2.1) || ! t.sumOk then s.tokenBreak
  else
    let ws := rs.map (fun r => (r.1, r.2.2))
    match pickWait (fun a b => decide (b < a)) ws, pickWait (fun a b => decide (a < b)) ws with
    | some d, some r =>
      let amount := min t.step (min (holdingOf t.record d.1 - t.floor) (s.fuses.powerLimit - holdingOf t.record r.1))
      if 100 * (d.2 - r.2) ≤ 5 * t.period ∨ amount = 0 then s
      else
        let s1 := s.updToken (fun t => { t with seq := t.seq + 1, move := some ⟨t.seq + 1, d.1, r.1, amount, false, 0⟩ })
        (if d.1 = s.boot.deviceId then s1 else s1.send (.peer d.1 pkDebit [t.seq + 1, amount])).ownHalves
    | _, _ => s

/-- TOKEN_PERIOD (R342). -/
def execTokenPeriod (reports : List (Nat × Nat × Nat)) (s : State) : Res :=
  let r := s.takeDue .token
  .next (if r.2 then r.1.tokenReports reports else r.1)

/-- The member answers a half with its holding. -/
def State.ackMove (s : State) (seq : Nat) : State :=
  s.send (.peer s.link.master pkAck [s.boot.deviceId, seq, s.pwr.token.held])

/-- TOKEN_DEBIT (R343). -/
def execTokenDebit (seq w : Nat) (s : State) : Res := .next ((s.applyMove seq w false).ackMove seq)

/-- TOKEN_CREDIT (R343). A member without tokens takes its first holding so (log entry 28). -/
def execTokenCredit (seq w : Nat) (s : State) : Res := .next ((s.applyMove seq w true).ackMove seq)

/-- TOKEN_ACK (R343, R344). -/
def execTokenAck (device seq holding : Nat) (s : State) : Res := .next ((s.tokenAck device seq holding).ownHalves)

/-- TOKEN_ACK_TIMEOUT (R343): the half is sent again; after three unanswered credits the tokens go to the reserve. A debit that three times goes
unanswered is given up (DEDUCED, log entry 28). -/
def execTokenAckTimeout (s : State) : Res :=
  match s.pwr.token.move with
  | none => .next s
  | some m =>
    if m.tries + 1 < 3 then
      let s1 := s.updToken (fun t => { t with move := some { m with tries := m.tries + 1 } })
      .next (if m.credited then s1.send (.peer m.receiver pkCredit [m.seq, m.watts]) else s1.send (.peer m.donor pkDebit [m.seq, m.watts]))
    else .next (s.updToken (fun t => { t with move := none, reserve := if m.credited then t.reserve + m.watts else t.reserve }))

/-- TOKEN_MASTER_SILENCE (R344): three periods without the master. -/
def execTokenMasterSilence (s : State) : Res :=
  .next (if s.pwr.token.member ∧ s.link.state = csMember then s.updToken (fun t => { t with held := min t.held t.fair }) else s)

end Sys2Proof.Machine
end

