-- ==== Sys2Proof/Machine/Links.lean ====
section
/-! DEFINITION. The commands of the optical links and of the cascade (chapter 14). -/

namespace Sys2Proof.Machine

/-! ## Links that go down and come up (R375 to R377) -/

/-- A wavelength that carries a lane of a die (R374). -/
def State.lambdaInUse (s : State) (k i : Nat) : Bool :=
  match s.grid.wavelengths k with
  | [w] => i != w
  | _ => decide (i < 8)

/-- LASER_LOSS (R375): both links of the die go down together and are dark. -/
def execLaserLoss (k : LinkDieIx) (lambda : Fin 9) (s : State) : Res :=
  if ! s.lambdaInUse k.val lambda.val then .next s
  else .next ([2 * k.val, 2 * k.val + 1].foldl (fun (s : State) l => (s.linkGoDown l lsDark).updLink l (fun q =>
    { q with laser := false, state := if q.state = lsRetraining ∨ q.state = lsHold ∨ q.state = lsTraining then lsDark else q.state })) s)

/-- RX_SIGNAL_LOSS (R375). -/
def execRxSignalLoss (l : LinkIx) (s : State) : Res := .next (s.linkGoDown l.val lsRetraining)

/-- FEC_LOCK_LOSS (R375). -/
def execFecLockLoss (l : LinkIx) (s : State) : Res := .next (s.linkGoDown l.val lsRetraining)

/-- LINK_DOWN (R375, R385, R386). -/
def execLinkDown (l : LinkIx) (s : State) : Res := .next (s.linkGoDown l.val lsRetraining)

/-- A link takes a new state, with the event of R412. -/
def State.linkTo (s : State) (l : Nat) (k : LinkSt) : State := (s.setLink l k).linkEvent l

/-- LINK_RETRAIN (R376): with recorded values, up to three attempts; the identity exchange then brings the link up. -/
def execLinkRetrain (l : LinkIx) (ok : Bool) (latencyNs : Nat) (s : State) : Res :=
  let k := s.linkSt l.val
  if k.state ≠ lsRetraining ∧ k.state ≠ lsHold then .next s
  else if ok then .next (s.linkTo l.val { k with state := lsTraining, latencyNs := latencyNs })
  else if k.attempts + 1 < 3 then .next (s.setLink l.val { k with attempts := k.attempts + 1 })
  else .next (s.linkTo l.val { k with state := lsDownUntilStart, attempts := 3 })

/-- LASER_LIGHT_ARRIVAL (R376): the dark links of the die are taken up by retraining in service. -/
def execLaserLightArrival (k : LinkDieIx) (s : State) : Res :=
  .next ([2 * k.val, 2 * k.val + 1].foldl (fun (s : State) l =>
    let q := s.linkSt l
    if q.state = lsDark then s.linkTo l { q with state := lsRetraining, laser := true, attempts := 0 } else s.updLink l (fun q => { q with laser := q.state != lsNone })) s)

/-- Protocol versions that the device implements (R377). -/
def linkVersions : List Nat := [0x0201, 0x0200, 0x0101, 0x0100]

/-- Feature bits defined in a version (R377). -/
def featuresOf (v : Nat) : Nat := if 0x0201 ≤ v then 0x7F else if 0x0200 ≤ v then 0x3F else if 0x0101 ≤ v then 0x07 else 0x03

/-- Flood the lowest identity heard on every up link but one (R396). -/
def State.flood (s : State) (except_ : Nat) : State :=
  ((upTo 36).filter (fun l => (s.linkSt l).state == lsUp && l != except_)).foldl (fun (s : State) l =>
    s.send (.peer (s.linkSt l).partner pkElect [s.link.lowest])) s

/-- The identity of the partner decides version, features and rate (R377). -/
def State.negotiate (s : State) (l : Nat) (f : Identity) : State :=
  let k := s.linkSt l
  if k.state ≠ lsTraining ∧ k.state ≠ lsUp ∧ k.state ≠ lsRetraining ∧ k.state ≠ lsHold then s
  else match linkVersions.find? (fun v => decide (f.minVer ≤ v) && decide (v ≤ f.maxVer)) with
    | none => (s.linkTo l { k with state := lsIncompatible }).bump (ck 0x6030 4) 1
    | some v =>
      let slow := f.conservative || s.actionOf 0x0A (l / 2) == raLevel1
      let bad := f.grouping != s.link.grouping || f.device == s.boot.deviceId
      let s1 := s.setLink l { k with
        version := v / 256 * 16 + v % 16, features := 0x7F &&& f.features.toNat &&& featuresOf v, rate := if slow then 2 else 1
        partner := f.device, partnerLink := f.link, partnerGrouping := f.grouping, conflict := bad }
      let s2 := if k.state = lsUp then s1 else s1.linkComesUp l
      let s3 := if f.device = s.boot.deviceId then s2 else { s2 with link := { s2.link with heard := insNat f.device s2.link.heard } }
      let s4 := s3.cascadeState
      if s4.link.state = csElecting then s4.flood 36 else s4

/-- IDENTITY_FLIT (R377). -/
def execIdentityFlit (l : LinkIx) (f : Identity) (s : State) : Res := .next (s.negotiate l.val f)

/-! ## Flits (R379 to R383) -/

/-- A flit arrives: FEC, CRC, header, order (R379, R381, R382). -/
def State.flitArrives (s : State) (l : Nat) (bytes : List Byte) (symbols : Nat) : State :=
  let k := s.linkSt l
  if k.state ≠ lsUp then s
  else
    let s1 := s.setLink l { k with
      fecSymbols := satAdd k.fecSymbols (if symbols ≤ 15 then symbols else 0), fecLoad := if 15 < symbols then 255 else max k.fecLoad symbols }
    let good := bytes.length == 256 && decide (symbols ≤ 15) && crc32 (bytes.take 252) == BitVec.ofNat 32 (natOfLE (bytes.drop 252))
    if ! good then (s1.updLink l (fun k => { k with crcFails := satAdd k.crcFails 1 })).flitFails l
    else
      let h := natOfLE (bytes.take 8)
      let s2 := s1.takeHeader l (fieldN h 34 12) (fieldN h 32 2) (fieldN h 24 8)
      if fieldN h 60 4 ≠ 1 then s2
      else if fieldN h 46 12 ≠ k.expect then s2.flitFails l
      else
        let vl := fieldN h 58 2
        let s3 := s2.updLink l (fun k => ({ k with expect := (k.expect + 1) % 4096, discarding := false }).updVl vl (fun v =>
          { v with received := (v.received + 1) % 2 ^ 32 }))
        s3.portReceive (s.portOfLink l) l ⟨vl, fieldN h 8 16, (bytes.drop 8).take 244⟩

/-- DATA_FLIT_RECEIVE (R382). -/
def execDataFlitReceive (l : LinkIx) (bytes : List Byte) (symbols : Nat) (s : State) : Res := .next (s.flitArrives l.val bytes symbols)

/-- NAK_RECEIVE (R382). -/
def execNakReceive (l : LinkIx) (fseq : BitVec 12) (s : State) : Res :=
  .next (if (s.linkSt l.val).state = lsUp then s.replayFrom l.val fseq.toNat else s)

/-- REPLAY_TIMER (R382): flits are held and ACKSEQ has not advanced. -/
def execReplayTimer (l : LinkIx) (s : State) : Res :=
  let k := s.linkSt l.val
  .next (if k.state = lsUp then (match k.retry with | r :: _ => s.replayFrom l.val r.1 | [] => s) else s)

/-- RETRY_LIMIT (R382): 64 attempts without an advance. -/
def execRetryLimit (l : LinkIx) (s : State) : Res := .next (if 64 ≤ (s.linkSt l.val).replayTries then s.linkGoDown l.val lsRetraining else s)

/-- AUDIT_FLIT (R383). -/
def execAuditFlit (l : LinkIx) (sent credited : List Nat) (s : State) : Res :=
  let k := s.linkSt l.val
  let p := s.portOfLink l.val
  if k.state ≠ lsUp ∨ k.features.testBit 6 = false ∨ (k.vls.toList.map VlSt.received = sent ∧ k.vls.toList.map VlSt.returned = credited) then .next s
  else .next ((((s.linkFault l.val 4 (s.portSlot p)).portStop p 0x0960).bump (ck 0x6030 3) 1))

/-! ## Transfers (R387 to R391) -/

/-- The link whose attachment row a transfer leaves by: of a port that a job owns first. -/
def State.rowLink (s : State) (right : Bool) (row : Nat) : Option Nat :=
  let ls := (upTo 36).filter (fun l => decide (18 ≤ l) == right && (s.grid.attach l).1 == row && (s.members (s.portOfLink l)).contains l)
  match ls.find? (fun l => (s.portOwner (s.portOfLink l)).isSome) with
  | some l => some l
  | none => ls.head?

def State.setRow (s : State) (key : Nat) (ls : List SwLine) : State := { s with link := { s.link with rows := SMap.put [] s.link.rows key ls } }

/-- Count a transfer for the ledger of the group (R399). -/
def State.countXfer (s : State) (p dev : Nat) (landed : Bool) : State :=
  match s.portOwner p with
  | none => s
  | some j => s.updJob j (fun b => if landed then { b with landed := SMap.put 0 b.landed dev (SMap.get 0 b.landed dev + 1), carried := true }
      else { b with sent := SMap.put 0 b.sent dev (SMap.get 0 b.sent dev + 1), carried := true })

/-- The switch sends the transfer at the front of a row once the plan has placed all its lines. -/
def State.sendTransfer (s : State) (right : Bool) (row : Nat) : State :=
  let key := (if right then 64 else 0) + row
  match SMap.get [] s.link.rows key with
  | [] => s
  | h :: ls =>
    match s.rowLink right row with
    | none => s.setRow key []
    | some l =>
      let p := s.portOfLink l
      match xferOf true (lineBytes h.data) with
      | none => (((s.setRow key []).linkFault l 5 (s.portSlot p)).portStop p 0x0710)
      | some x =>
        if ls.length < x.n then s
        else
          let g := xferGroups x.bead x.n (ls.take x.n)
          let s1 := ((s.setRow key (ls.drop x.n)).linkBeadFails p l 1 g.2).countXfer p x.dev false
          let out := if x.vl = 1 then reductionFlits (lineBytes h.data) g.1
            else lineFlits (x.n + 1) ((h :: g.1).map (fun q => ⟨q.data, false, q.poison, false⟩))
          if (s1.upMembers p).isEmpty then s1.bump (ck 0x6030 1) out.length else s1.enqueue p (if x.vl = 1 then vlReduction else vlPlan) out

/-- PLAN_TRANSFER_SEND (R387 to R389). -/
def execPlanTransferSend (right : Bool) (row : Nat) (s : State) : Res := .next (s.sendTransfer right row)

/-- The flits that a transfer takes, from its first one; none when the header is invalid. -/
def flitsNeeded (reduction : Bool) (b : List Byte) : Option (Xfer × Nat) :=
  match xferOf (! reduction) (b.take 64) with
  | none => none
  | some x =>
    if reduction then
      let mask := natOfLE ((b.drop 24).take 4)
      some (x, 1 + ((maskRows mask).length * 32 + 11) / 12)
    else some (x, (x.n + 3) / 3)

/-- The lines of a received transfer. -/
def landedLines (reduction : Bool) (x : Xfer) (fs : List DataFlit) : List SwLine :=
  if reduction then rebuildBlock ((fs.headD ⟨0, 0, []⟩).payload) ((fs.drop 1).flatMap (fun f => flitRecs f.payload))
  else (((fs.flatMap (fun f => slotsOf f.payload)).drop 1).take x.n).map (fun l => ⟨l.data, l.poison⟩)

/-- Take flits of the ready list of a port, giving their credits back. -/
def State.takeReady (s : State) (p : Nat) (fs : List (Nat × DataFlit)) : State :=
  fs.foldl (fun (s : State) f => s.returnCredit f.1 f.2.vl) (s.updPort p (fun q => { q with ready := q.ready.filter (fun f => ! fs.contains f) }))

/-- A whole transfer is there: it lands on this device's mesh, or is forwarded (R388, R389, R391). -/
def State.landTransfer (s : State) (p : Nat) (reduction : Bool) : State :=
  let vl := if reduction then vlReduction else vlPlan
  let fs := (s.portSt p).ready.filter (fun f => f.2.vl == vl)
  match fs with
  | [] => s
  | f :: _ =>
    match flitsNeeded reduction f.2.payload with
    | none => ((s.takeReady p [f]).linkFault f.1 5 (s.portSlot p)).portStop p 0x0710
    | some (x, n) =>
      if fs.length < n then s
      else
        let mine := fs.take n
        let s1 := s.takeReady p mine
        if x.dev ≠ s.boot.deviceId then
          match s.route x.dev with
          | some q =>
            if (s.upMembers q).isEmpty || ! s.portFeature p 0 || ! s.portFeature q 0 then s1.bump (ck 0x6030 1) n
            else (s1.enqueue q vl (mine.map (fun f => f.2.payload))).bump (ck 0x6030 5) n
          | none => s1.bump (ck 0x6030 1) n
        else if s.grid.logicalRows ≤ x.y then (s1.linkFault f.1 5 (s.portSlot p)).portStop p 0x0710
        else
          let src := (s.linkSt f.1).partner
          let g := xferGroups x.bead x.n (landedLines reduction x (mine.map Prod.snd))
          let s2 := (s1.linkBeadFails p f.1 2 g.2).countXfer p src true
          let place := s2.linkPlace (s2.portLink p)
          (xferPackets x src g.1).foldl (fun (s : State) ls => s.meshInject place.1 place.2 0 ls) s2

/-- TRANSFER_LANDING (R388, R389, R391). -/
def execTransferLanding (p : PortIx) (reduction : Bool) (s : State) : Res := .next (s.landTransfer p.val reduction)

/-- LINK_CALIBRATION_IDLE (R392): wall time only. -/
def execLinkCalibrationIdle (_l : LinkIx) (s : State) : Res := .next s

/-! ## The tally on the links (R393) -/

/-- A link with tally in force. -/
def State.tallyLinkUp (s : State) (l : Nat) : Bool := (s.linkSt l).state == lsUp && (s.linkSt l).features.testBit 2

/-- TALLY_FLIT_SEND (R393). -/
def execTallyFlitSend (l : LinkIx) (s : State) : Res :=
  .next (if s.link.state = csMaster ∧ s.tallyLinkUp l.val = true then s.send (.control l.val 5 [s.tally.now, 0]) else s)

/-- A tally flit is taken as a mark of the link source, by the copy with the fewest hops, and forwarded (R307, R310, R393). -/
def State.tallyFlit (s : State) (l t hops : Nat) : State :=
  let better := match s.link.tallyLink with
    | none => true
    | some k => k == l || decide (hops < s.link.tallyHops) || (hops == s.link.tallyHops && decide (l < k))
  if s.link.state ≠ csMember ∨ s.tallyLinkUp l = false ∨ better = false then s
  else
    let src := t + ((s.linkSt l).latencyNs + 32) / 64
    let s1 := ({ s with link := { s.link with tallyLink := some l, tallyHops := hops } }).updTally (fun t => { t with linkLive := true })
    let s2 := if s.tally.selected = 2 ∨ (s.tally.selected = 0 ∧ s.tally.inUse ≠ 1) then s1.takeMark (some src) 2 else s1
    ((upTo 36).filter (fun k => k != l && s2.tallyLinkUp k)).foldl (fun (s : State) k => s.send (.control k 5 [src, hops + 1])) s2

/-- TALLY_FLIT_RECEIVE (R393). -/
def execTallyFlitReceive (l : LinkIx) (tally : U64) (hops : Byte) (s : State) : Res := .next (s.tallyFlit l.val tally.toNat hops.toNat)

/-- LINK_TALLY_LOSS (R393). -/
def execLinkTallyLoss (s : State) : Res :=
  let s1 := ({ s with link := { s.link with tallyLink := none, tallyHops := 255 } }).updTally (fun t => { t with linkLive := false })
  .next (if s.tally.inUse = 2 then s1.sourceLost else s1)

/-! ## The master (R396, R397) -/

/-- Every running group stops with 0x0716 (R397, R400). -/
def State.groupsLost (s : State) : State :=
  allSlots.foldl (fun (s : State) j => if (s.job j).running && (s.job j).groupId != 0 then s.applyDecision j (.stop 0x0716) else s) s

/-- MASTER_ELECTION_ANNOUNCE (R396). -/
def execMasterElectionAnnounce (l : LinkIx) (identity : Nat) (s : State) : Res :=
  if (s.linkSt l.val).state ≠ lsUp ∨ s.link.masterSet ≠ 0xFFFF then .next s
  else
    let s1 := if identity = s.boot.deviceId then s else { s with link := { s.link with heard := insNat identity s.link.heard } }
    if identity < min s.link.lowest s.boot.deviceId ∧ s.link.state ≠ csConflict then
      .next (({ s1 with link := { s1.link with lowest := identity, state := csElecting } }).flood l.val)
    else .next s1

/-- ELECTION_SETTLE (R396, R397): a new master takes up its pool and its running groups afresh. -/
def execElectionSettle (s : State) : Res :=
  if s.link.state ≠ csElecting then .next s
  else
    let m := min s.link.lowest s.boot.deviceId
    let s1 := { s with link := { s.link with master := m, state := if m = s.boot.deviceId then csMaster else csMember } }
    let s2 := if s.link.master ≠ m then s1.groupsLost else s1
    .next (if m = s.boot.deviceId ∧ s2.pwr.token.pool ≠ 0 then s2.setPool s2.pwr.token.pool else s2)

/-- MASTER_HEARTBEAT (R396). -/
def execMasterHeartbeat (s : State) : Res := .next (if s.link.state = csMaster then s.send (.peer 0xFFFF pkHeartbeat [s.boot.deviceId]) else s)

/-- HEARTBEAT_LOSS (R396, R400). -/
def execHeartbeatLoss (s : State) : Res :=
  if s.link.state ≠ csMember then .next s
  else
    let low := if s.link.masterSet = 0xFFFF then s.boot.deviceId else s.link.masterSet
    let s1 := ({ s with link := { s.link with state := csElecting, lowest := low } }).bump (ck 0x6030 6) 1
    .next ((s1.groupsLost).flood 36)

/-! ## Job groups (R398 to R400) -/

/-- The master waits for the members of a group that is being started. -/
def Job.gathering (b : Job) : Bool := b.running && b.groupId != 0 && b.startAt.isNone && (b.phase == .starting || b.phase == .waitTally)

/-- Every member of a group stops. -/
def State.stopGroup (s : State) (j : SlotIx) (st : Nat) : State := s.decideGroup j ((s.job j).members.map (fun d => (d, .stop st)))

/-- A member is ready; with the last one the master compares lists and key digests, and gives the start tally. -/
def State.memberReady (s : State) (j : SlotIx) (device : Nat) (members : List Nat) (key : Nat) : State :=
  let b := s.job j
  if ! b.gathering || ! b.members.contains device || b.ready.any (fun r => r.1 == device) then s
  else
    let rs := b.ready ++ [(device, members, key)]
    let s1 := s.updJob j (fun b => { b with ready := rs })
    if ! b.members.all (fun d => rs.any (fun r => r.1 == d)) then s1
    else if rs.any (fun r => r.2.1 != b.members || ! r.2.1.contains r.1) then s1.stopGroup j 0x071A
    else if rs.any (fun r => r.2.2 != b.keyEff) then s1.stopGroup j 0x0717
    else
      let t := s.tally.now + 1024
      (b.members.filter (fun d => d != s.boot.deviceId)).foldl (fun (s : State) d => s.send (.peer d pkStart [b.groupId, t]))
        (s1.updJob j (fun b => { b with startAt := some t }))

/-- GROUP_READY (R398). -/
def execGroupReady (j : SlotIx) (device : Nat) (members : List Nat) (key : U64) (s : State) : Res :=
  .next (s.memberReady j device members key.toNat)

/-- GROUP_START_TALLY (R398). -/
def execGroupStartTally (j : SlotIx) (tally : U64) (s : State) : Res :=
  .next (if (s.job j).gathering then s.updJob j (fun b => { b with startAt := some tally.toNat }) else s)

/-- GROUP_READY_TIMEOUT (R398). -/
def execGroupReadyTimeout (j : SlotIx) (s : State) : Res :=
  let b := s.job j
  .next (if b.gathering && ! b.members.all (fun d => b.ready.any (fun r => r.1 == d)) then s.stopGroup j 0x0716 else s)

/-- GROUP_FENCE_REPORT (R399, R400). -/
def execGroupFenceReport (j : SlotIx) (r : GroupReport) (s : State) : Res :=
  .next (if (s.job j).groupId = 0 ∨ s.link.master ≠ s.boot.deviceId then s else s.noteFeatures (s.takeReport j r))

/-- GROUP_DECISION (R399, R400). -/
def execGroupDecision (j : SlotIx) (d : Proposal) (s : State) : Res := .next (s.noteFeatures (s.applyDecision j d))

/-- GROUP_REPORT_TIMEOUT (R400). -/
def execGroupReportTimeout (j : SlotIx) (s : State) : Res :=
  .next (if (s.job j).reports.isEmpty then s else s.noteFeatures (s.stopGroup j 0x0716))

end Sys2Proof.Machine
end

