-- ==== Sys2Proof/Machine/BringUp.lean ====
section
/-! DEFINITION. The stages of a start and what restarts the device (R338, R345, R348 to R359, R366, R368, R478). -/

namespace Sys2Proof.Machine

/-! ## S0 and S1 (R351, R352, R483) -/

/-- COLD_START (R348): VIN12 is good after a loss of it. -/
def execColdStart (s : State) : Res :=
  .next (if s.boot.powered || s.pwr.powerFault then s
    else (s.powerDown.updBoot (fun b => { b with powered := true })).beginStart 1)

/-- The majority of three samples, bit by bit. -/
def majority (a b c : BitVec 7) : BitVec 7 := (a &&& b) ||| (a &&& c) ||| (b &&& c)

/-- Straps whose samples did not all agree (R483). -/
def strapSplits (a b c : BitVec 7) : Nat := ((upTo 7).filter (fun i => ! (bitOf a i == bitOf b i && bitOf b i == bitOf c i))).length

/-- The state of a regulator die after its self-check and its ramp (R351, R364). -/
def State.dieAtS0 (s : State) (failed : List RegDieIx) (d : Nat) : State :=
  if s.actionOf 1 d = raSkip then s.setReg d rsDisabled 0
  else if failed.any (fun f => f.val == d) || s.leftOut 1 d then (s.setReg d rsFailedS0 0).itemFailsNow 1 d rcNotGood
  else (s.setReg d rsInService 0).retryPass 1 d

/-- A die whose absence the device cannot run without: a group with at most three, or V49 or V55 (R318, R319). -/
def State.fatalDie (s : State) : Option Nat :=
  (upTo 56).find? (fun d => s.regState d != rsInService && (if d < 48 then decide (s.workingDies (d / 6) ≤ 3) else d == 49 || d == 55))

/-- S0_RAILS (R351, R318, R319, R483). -/
def execS0Rails (failedDies : List RegDieIx) (strap1 strap2 strap3 : BitVec 7) (s : State) : Res :=
  if ! s.inStage 0 then .next s
  else
    let s1 := { s with host := { s.host with straps := (majority strap1 strap2 strap3).toNat, strapSplits := strapSplits strap1 strap2 strap3 } }
    let s2 := (upTo 56).foldl (fun (s : State) d => s.dieAtS0 failedDies d) s1
    match s2.fatalDie with
    | some d => .next (s2.powerFaults d 0)
    | none =>
      let mv := s2.vfMv 1200
      .next ((s2.updPwr (fun p => { p with rails := true, powerGood := true, vlogMv := mv, setMv := Vector.replicate 8 mv })).stageDone 0 1)

/-- A kept value of the dictionary, or its default at manufacture. -/
def State.keptNat (s : State) (key dflt : Nat) : Nat := match s.life.kept.find? (fun v => v.1 == key) with | some v => natOfLE v.2 | none => dflt

/-- The addresses of the Ethernet port as its objects give them (R422): static or from DHCPv4, and static or from SLAAC. -/
def State.takeAddresses (s : State) : State :=
  let a6 := match s.life.kept.find? (fun v => v.1 == ck 0x1020 6) with | some v => v.2 | none => []
  let a4 := if s.keptNat (ck 0x1020 2) 0 = 1 then s.keptNat (ck 0x1020 3) 0 else Config.dhcpAddress s.draws % 2 ^ 32
  let b6 := if a6.all (fun b => b == 0) then beOfNat 16 (Config.slaacAddress s.draws) else a6
  { s with draws := s.draws + 1, host := { s.host with ethMac := s.keptNat (ck 0x1020 1) (Config.ethMac s.fuses.serial % 2 ^ 48) % 2 ^ 48, ethAddr4 := a4, ethAddr6 := b6, ethDue := false } }

/-- The boot ROM tries the management slots (R352). -/
def State.bootSlots (s : State) : State × Option Nat :=
  s.trySlots 2 imgMgmt (fun i => s.life.mgmtImages[i % 2]'(Nat.mod_lt _ (by decide))) (s.slotOrder 2 s.life.lastBoot)

/-- The management processor runs the image of a slot. -/
def State.mgmtRuns (s : State) (slot : Nat) : State :=
  let img := s.life.mgmtImages[slot % 2]'(Nat.mod_lt _ (by decide))
  { s with
    life := { s.life with lastBoot := slot }
    boot := { s.boot with mgmt := true, mgmtSlot := slot, mgmtVersion := imgField img 8 4 } }

/-- S1_BOOT (R352): at S1 of a cold start, and again while the management processor is in reset (R371). -/
def execS1Boot (s : State) : Res :=
  if s.inStage 1 then
    let r := s.bootSlots
    match r.2 with
    | some slot =>
      let s1 := (r.1.mgmtRuns slot).updPwr (fun p => { p with hostIo := true })
      let n := s1.random 16
      .next (({ n.2 with prot := { n.2.prot with maintNonce := n.1 } }).takeAddresses.stageDone 1 2)
    | none => .next ((r.1.updPwr (fun p => { p with hostIo := true })).endStart 1 3)
  else if s.boot.powered && ! s.boot.mgmt && s.boot.outcome != 3 && decide (2 ≤ s.boot.stage) then
    let r := s.bootSlots
    match r.2 with
    | some slot => .next (r.1.mgmtRuns slot).doeDrain
    | none => .next r.1
  else .next s

/-! ## S2 (R23 to R32, R353, R366) -/

/-- The shadow-map entries of the fuses and of the life record, in that order. -/
def State.allEntries (s : State) : List U32 := s.fuses.factory ++ s.life.defects.map Defect.entry

/-- The grid from the entries as they stand. -/
def State.buildMap (s : State) : State := { s with grid := buildGrid s.fuses.grade (s.allEntries.filter smValid) }

/-- The holds with which a start begins: overflow and regulator (R275, R278, R318, R325). -/
def State.startHolds (s : State) : State :=
  allZones.foldl (fun (s : State) z => s.updZone z (fun p =>
    { p with hold := if s.life.overflowHeld.testBit z then hoOverflow else if s.regHeld z then hoRegulator else if p.hold = hoFault then 0 else p.hold }))
    { s with check := { s.check with faultHeld := 0 } }

/-- The debug level without an unlock (R457). -/
def State.openLevel (s : State) : Nat := if s.fuses.debugLock = 0 then 2 else 0

/-- A link die is fitted and disabled neither by fuses nor by the retry table (R353, R364). -/
def State.dieUsed (s : State) (k : Nat) : Bool :=
  bitOf s.fuses.linkDiesFitted k && ! bitOf s.fuses.linkDiesDisabled k && s.actionOf 0x0A k != raSkip

/-- The links as S2 finds them. -/
def State.linksAtS2 (s : State) : State :=
  (upTo 36).foldl (fun (s : State) l => s.updLink l (fun k =>
    { k with state := if ! bitOf s.fuses.linkDiesFitted (l / 2) then lsNone else if ! s.dieUsed (l / 2) then lsDisabled else if k.state = lsHold then lsHold else lsDark })) s

/-- The identity in force and the default of the shimmer offset (R304, R444): a start that keeps the power keeps the offset unless the
identity changes (DEDUCED, log entry 32). -/
def State.takeIdentity (s : State) : State :=
  let old := s.boot.deviceId
  let d := s.keptNat (ck 0x0100 7) (s.fuses.serial % 4096)
  let s1 := { s with boot := { s.boot with deviceId := d }, link := { s.link with lowest := d } }
  if s.boot.kind = 1 ∨ d ≠ old then s1.updClk (fun c => { c with shimmerOffset := 97 * d % 390 }) else s1

/-- What S2 fixes besides the map. -/
def State.s2Values (s : State) (fuse0Ok : Bool) : State :=
  let s1 := s.startHolds.linksAtS2
  let n := ((s.allEntries).filter (fun w => ! smValid w)).length
  let s2 := { s1 with
    prot := { s1.prot with fuseCopy := if fuse0Ok then 0 else 1, fusesRead := true, dbgLevel := s.openLevel }
    life := { s1.life with rejects := min (s1.life.rejects + n) (2 ^ 32 - 1) }
    mem := { s1.mem with granule := s.life.granule }
    boot := { s1.boot with actions := fixActions s.life.retry } }
  s2.updPwr (fun p => { p with debugDom := s.openLevel != 0 })

/-- S2_FUSES_AND_SHADOW_MAP (R353). -/
def execS2FusesAndShadowMap (fuse0Ok fuse1Ok journalOk : Bool) (s : State) : Res :=
  if ! s.inStage 2 then .next s
  else if ! (fuse0Ok || fuse1Ok) || ! journalOk then .next (s.endStart 2 2)
  else
    let s1 := (s.s2Values fuse0Ok).buildMap.takeIdentity
    .next (if s1.grid.rows = 0 then s1.endStart 2 2 else s1.stageDone 2 3)

/-! ## S3 and S4 (R292, R323, R354, R355) -/

/-- The memory-interface domains with a stack fitted, and the link-port domains with a die used (R323). -/
def State.memIfMask (s : State) : Nat :=
  (upTo 8).foldl (fun m k => if bitOf s.fuses.stacksFitted (2 * k) || bitOf s.fuses.stacksFitted (2 * k + 1) then setBit m k true else m) 0
def State.linkPortMask (s : State) : Nat :=
  (upTo 6).foldl (fun m d => if (upTo 3).any (fun i => s.dieUsed (3 * d + i)) then setBit m d true else m) 0

/-- A zone core at S3 (R354): held zones stay OFF, as do those that the retry table skips. -/
def State.zoneAtS3 (s : State) (notGood : List ZoneIx) (z : Nat) : State :=
  if s.zoneHeld z then s
  else if s.actionOf 3 z = raSkip then s.updZone z (fun p => { p with hold := hoDomain })
  else if notGood.any (fun y => y.val == z) || s.leftOut 3 z then (s.domainFault z).itemFailsNow 3 z rcNotGood
  else (s.powerGood z).retryPass 3 z

/-- S3_DOMAINS_ON (R354). -/
def execS3DomainsOn (notGood : List ZoneIx) (s : State) : Res :=
  if ! s.inStage 3 then .next s
  else
    let s1 := s.updPwr (fun p => { p with bands := 0xFF, memIf := s.memIfMask, linkPorts := s.linkPortMask })
    let s2 := allZones.foldl (fun (s : State) z => s.zoneAtS3 notGood z) s1
    let s3 := (upTo 36).foldl (fun (s : State) l => s.updLink l (fun k => { k with state := if k.state = lsDark then lsHold else k.state })) s2
    .next (s3.stageDone 3 4)

/-- S4_CLOCK_ALIGNMENT (R292, R355): any failure ends the start. -/
def execS4ClockAlignment (failed : List ZoneIx) (s : State) : Res :=
  if ! s.inStage 4 then .next s
  else
    let bad := allZones.filter (fun z => failed.any (fun y => y.val == z) || s.leftOut 4 z)
    if bad.isEmpty then
      let s1 := s.updClk (fun c => { c with
        refState := if c.refState = 0 then 1 else c.refState, shimmerOn := true, freq := 1200, zones := c.zones.map (fun k => { k with lock := true }) })
      let s2 := allZones.foldl (fun (s : State) z => s.retryPass 4 z) s1
      .next (s2.retarget.stageDone 4 5)
    else .next ((bad.foldl (fun (s : State) z => s.itemFailsNow 4 z rcNotGood) s).endStart 4 2)

/-! ## S5 (R143, R299, R300, R356, R357) -/

/-- One switch of the ramp, of at most 400 MHz. -/
def State.rampStep (s : State) : State :=
  let f := min s.clk.target (s.clk.freq + 400)
  if f ≤ s.clk.freq then s
  else
    let s1 := (s.updPwr (fun p => { p with vlogMv := s.vfMv f })).updClk (fun c => { c with pending := f, pendingTally := s.tally.now, next := none })
    s1.applySwitch.updClk (fun c => { c with guard := false, upWait := none })

/-- The common frequency rises to its target (R299, R356): at most six switches lead from 1,200 MHz to the highest bin. -/
def State.ramp (s : State) : State := (upTo 6).foldl (fun (s : State) _ => s.rampStep) s

/-- SRAM-row entries of the bank that an entry names, applied or pending, each once (R143). -/
def State.bankRows (s : State) (w : U32) : Nat :=
  ((sortU32 (s.allEntries.map (fun v => BitVec.ofNat 32 (v.toNat / 2 ^ 28 * 2 ^ 28 + smLoc v)))).filter (fun v =>
    smKind v == 2 && decide (smLoc v / 2 ^ 9 = smLoc w / 2 ^ 9))).length

/-- The row entry of the tile that an SRAM-row or mesh-wire entry names. -/
def rowEntryFor (w : U32) : U32 := match entryRow w with | some r => smEntry 1 1 (r.1 * 16 + r.2) | none => w

/-- The entry that a failing test of S5 makes: a bank that would need a ninth spare row takes its whole row (R143, R356). -/
def State.s5Entry (s : State) (w : U32) : U32 :=
  let v := smEntry (smKind w) 1 (smLoc w)
  if smKind v = 2 ∧ 8 ≤ s.bankRows v then rowEntryFor v else v

/-- The defects that a pass of S5 finds (R275, R277): the zones that they name are fault-held. -/
def State.s5Enter (s : State) (ws : List U32) : State :=
  (ws.filter smValid).foldl (fun (s : State) w => s.enterDefect (s.s5Entry w) 3 0xFF 0) s

/-- Rows of tiles of ON zones with a bank that needs a ninth spare row, and that no entry of the map shadows yet (R143, R356). -/
def State.unrepairable (s : State) : List U32 :=
  (s.grid.entries.filter (fun w => smKind w == 2 && decide (8 < s.bankRows w) && (entryZones w).any s.zoneOn
    && ! s.grid.entries.any (fun v => covers v w))).map rowEntryFor

/-- The return pass (R357): S2 again, then the banks of every zone core that is on under the new map. -/
def State.returnPass (s : State) : State :=
  let s1 := (s.updBoot (fun b => { b with passes := 1 })).startHolds.buildMap
  if s1.grid.rows = 0 then s1
  else
    let s2 : State := { s1 with tiles := [] }
    allZones.foldl (fun (s : State) z => if s.zoneOn z then s.powerGood z else s) s2

/-- S5_TILE_TEST (R356, R357). -/
def execS5TileTest (defects returnDefects : List U32) (s : State) : Res :=
  if ! s.inStage 5 then .next s
  else
    let found := s.ramp.unrepairable ++ defects
    let s1 := s.ramp.s5Enter found
    let again := (found.filter smValid).any (fun w => smKind (s.s5Entry w) == 1 || smKind (s.s5Entry w) == 2)
    let s2 := if again then s1.returnPass else s1
    if s2.grid.rows = 0 then .next (s2.endStart 2 2)
    else
      let s3 := if again then s2.s5Enter returnDefects else s2
      .next ((s3.parkHeld (allZones.filter (fun z => s3.check.faultHeld.testBit z))).stageDone 5 6)

/-! ## S6 and S8 (R212, R319, R358, R374, R376) -/

/-- The speed that the retry table directs (R358, R364). -/
def speedOf (action : Nat) : Nat := if action = raLevel1 then 10 else if action = raLevel2 then 8 else 12

/-- The edge regulators that a stack needs are in service (R319). -/
def State.stackRails (s : State) (i : Nat) : Bool :=
  let up := fun d => s.regState d == rsInService
  (if i < 8 then up 50 && up 52 else up 51 && up 53) && up 54

/-- Row blocks that the map remaps in a stack (R212, R216). -/
def Grid.blocksUsed (g : Grid) (i : Nat) : Nat := (g.entries.filter (fun w => smKind w == 6 && fieldN (smLoc w) 20 4 == i)).length

/-- A stack that stays out of present[] loses its contents (R212). -/
def State.stackOut (s : State) (m : StackIx) (state : Nat) : State :=
  let s1 := s.updStack m (fun k => { StackSt.reset with state := state, temp := k.temp })
  let mine := fun a => a / 2 ^ 37 == m.val
  { s1 with mem := { s1.mem with data := s1.mem.data.filter (fun c => ! mine c.1), poison := s1.mem.poison.filter (fun l => ! mine (64 * l)) } }

/-- A stack that trains: present, with its speed; recorded training that fails is replaced by a full training (R358). -/
def State.stackIn (s : State) (m : StackIx) (r : TrainResult) : State :=
  let i := m.val
  let sp := speedOf (s.actionOf 6 i)
  let recorded := s.boot.kind != 1 && s.life.stackTraining.testBit i && s.actionOf 7 i != raFull
  let s1 := (s.updStack m (fun k => { StackSt.reset with state := 1, speed := sp, temp := k.temp, spareBlocks := s.grid.blocksUsed i })).retryPass 6 i
  let s2 := if recorded && r == .verifyFailedThenGood then s1.itemFails 7 i rcVerify else s1
  let s3 := if recorded && r == .good then s2 else s2.retryRemove 7 i
  { s3 with
    mem := { s3.mem with present := s3.mem.present ||| (1#16 <<< i) }
    life := { s3.life with stackTraining := setBit s3.life.stackTraining i true } }

/-- A stack at S6. A fitted stack of which no result is given trains well. -/
def State.stackAtS6 (s : State) (results : List (StackIx × TrainResult)) (m : StackIx) : State :=
  let i := m.val
  let r := match results.find? (fun q => q.1 == m) with | some q => q.2 | none => .good
  if ! bitOf s.fuses.stacksFitted i then s.stackOut m 0
  else if s.actionOf 6 i = raSkip then s.stackOut m 3
  else if ! s.stackRails i then s.stackOut m 2
  else if r == .failed || s.leftOut 6 i then (s.stackOut m 2).itemFailsNow 6 i rcTrain
  else s.stackIn m r

/-- S6_STACK_TRAINING (R358). -/
def execS6StackTraining (results : List (StackIx × TrainResult)) (s : State) : Res :=
  if ! s.inStage 6 then .next s
  else
    let s1 := { s with mem := { s.mem with present := 0 } }
    let s2 := (List.finRange 16).foldl (fun (s : State) m => s.stackAtS6 results m) s1
    .next (s2.retarget.stageDone 6 7)

/-- A link whose die has trained: dark, in hold, or locked and ready for the identity exchange. -/
def LinkSt.trained (k : LinkSt) : Option LinkTrain → LinkSt
  | some (.locked ns) => { k with state := lsTraining, latencyNs := ns, laser := true }
  | some .hold => { k with state := lsHold, laser := true }
  | _ => { k with state := lsDark, laser := false }

/-- The links of a die take new states, with their events. -/
def State.dieLinks (s : State) (k : Nat) (f : Nat → LinkSt → LinkSt) : State :=
  [2 * k, 2 * k + 1].foldl (fun (s : State) l => s.linkTo l (f l (s.linkSt l))) s

/-- A link die at S8. -/
def State.dieAtS8 (s : State) (failed : List LinkDieIx) (links : List (LinkIx × LinkTrain)) (k : Nat) : State :=
  let down := fun (_ : Nat) (q : LinkSt) => { q with state := lsDownUntilStart, laser := false }
  if ! s.dieUsed k then s
  else if s.regState (if k < 9 then 48 else 49) ≠ rsInService then s.dieLinks k down
  else if failed.any (fun d => d.val == k) || s.leftOut 0x0A k || decide (2 ≤ (s.grid.wavelengths k).length) then
    (s.dieLinks k down).itemFailsNow 0x0A k rcTrain
  else
    let s1 := (s.dieLinks k (fun l q => q.trained ((links.find? (fun p => p.1.val == l)).map Prod.snd))).retryPass 0x0A k
    { s1 with
      link := { s1.link with dies := setBit s1.link.dies k true }
      life := { s1.life with linkTraining := setBit s1.life.linkTraining k true } }

/-- S8_LINK_BRINGUP (R349, R350, R376): beside S5 to S7, and in a part in management only. -/
def execS8LinkBringup (failedDies : List LinkDieIx) (links : List (LinkIx × LinkTrain)) (s : State) : Res :=
  let b := s.boot
  if ! b.powered || b.s8Done || ! ((decide (5 ≤ b.stage) && decide (b.stage ≤ 8)) || (b.stage == 10 && b.outcome == 2)) then .next s
  else
    let s1 := (upTo 18).foldl (fun (s : State) k => s.dieAtS8 failedDies links k) (s.updPwr (fun p => { p with linkPorts := s.linkPortMask }))
    .next ((s1.updBoot (fun b => { b with s8Done := true, stage := if b.stage = 8 then 9 else b.stage })).stageOutcome 8 s.sinceT0)

/-! ## S9 (R350, R366) -/

/-- The clean-start counts (R366). -/
def State.countClean (s : State) : State :=
  let clean := s.boot.outcome == 0 && ! s.boot.newRetry && ! s.boot.newDefect
  { s with life := { s.life with
      cleanStarts := if clean then min (s.life.cleanStarts + 1) (2 ^ 32 - 1) else 0
      retry := if clean then s.life.retry.map (fun r => { r with cleanSeen := min 255 (r.cleanSeen + 1) }) else s.life.retry } }

/-- S9_USABLE (R350, R366): S7 and S8 have ended. -/
def execS9Usable (elapsedMs : Nat) (s : State) : Res :=
  if s.inStage 9 && s.boot.s8Done then
    let s1 := (s.updBoot (fun b => { b with outcome := if b.reduced then 1 else 0, stage := 10 })).countClean
    .next (s1.stageOutcome 9 elapsedMs)
  else .next s

/-! ## Failures of items and of the start (R350, R359) -/

/-- An item belongs to a stage in progress and names a unit that exists. -/
def State.itemOpen (s : State) (kind unit : Nat) : Bool :=
  let b := s.boot
  let units := match kind with | 1 => 56 | 2 => 2 | 3 => 48 | 4 => 48 | 6 => 16 | 8 => 48 | 9 => 2 | 10 => 18 | _ => 0
  b.powered && decide (unit < units)
    && (if kind = 10 then decide (5 ≤ b.stage) && decide (b.stage ≤ 8) && ! b.s8Done else b.stage == itemStage kind)
    && ! s.leftOut kind unit

/-- ITEM_BUDGET_EXPIRY (R350): the item fails with cause 0x01; its stage leaves it out. A zone clock ends the start (R355). -/
def execItemBudgetExpiry (item : ItemId) (s : State) : Res :=
  let k := item.kind.val
  if ! s.itemOpen k item.unit then .next s
  else
    let s1 := (s.itemFails k item.unit rcBudget).updBoot (fun b => { b with left := b.left ++ [(k, item.unit)] })
    .next (if k = 4 then s1.endStart 4 2 else if k = 8 then s1.faultHold item.unit else s1)

/-- The zone item of the stage in progress, if it has one (DEDUCED, log entry 33). -/
def hotItem (stage : Nat) : Option Nat := match stage with | 3 => some 3 | 4 => some 4 | 7 => some 8 | _ => none

/-- FAILED_HOT (R338, R359). -/
def execFailedHot (z : ZoneIx) (s : State) : Res :=
  let b := s.boot
  if ! b.powered || decide (b.stage < 3) || decide (9 < b.stage) then .next s
  else
    let now := s.tally.now
    let s1 := match hotItem b.stage with | some k => s.itemFailsNow k z.val rcHot | none => s
    let s2 : State := { s1 with
      tiles := []
      pwr := { s1.pwr with
        zones := s1.pwr.zones.map (fun p => { p with state := zsOff, parkCause := 0, current := 0, parkAfter := none, toOff := false })
        queue := [], tripped := true, trips := now :: s1.pwr.trips
        tripWait := decide (2 ≤ (s1.pwr.trips.filter (fun t => decide (now - t ≤ 2 ^ 36))).length) } }
    .next (s2.endStart b.stage 4)

/-! ## Restarts (R338, R368) and the loss of power (R478) -/

/-- TRIP_COOL_EXPIRY (R338): TRIP_COOL_S have passed. -/
def execTripCoolExpiry (s : State) : Res := .next (if s.boot.powered && s.pwr.tripped && ! s.pwr.tripWait then s.restart_ 3 else s)

/-- TRIP_RESTART (R338): a device that waits after three trips restarts. -/
def State.writeTripRestart : Writer := fun s => (if s.pwr.tripWait then s.restart_ 3 else s, 0)
def execTripRestart (car : Carrier) (s : State) : Res := mgmtWrite car clsConfig State.writeTripRestart s

/-- ENDED slots become EMPTY (R368). -/
def State.clearEnded (s : State) : State := allSlots.foldl (fun (s : State) j => if (s.job j).state = jsEnded then s.setJobState j jsEmpty else s) s

/-- WARM_RESTART (R368). -/
def State.writeWarmRestart : Writer := fun s => if s.betweenJobs then (s.clearEnded.restart_ 2, 0) else (s, 0x0A03)
def execWarmRestart (car : Carrier) (s : State) : Res := mgmtWrite car clsConfig State.writeWarmRestart s

/-- BROWNOUT (R478): the rails go off, and what was not committed is lost. -/
def execBrownout (s : State) : Res := .next s.powerDown

/-- LIFE_RECORD_COMMIT (R345). -/
def execLifeRecordCommit (s : State) : Res :=
  let r := s.takeDue .lifeCommit
  .next (if r.2 then r.1.commitCounts else r.1)

end Sys2Proof.Machine
end

