-- ==== Sys2Proof/Machine/Clocks.lean ====
section
/-! DEFINITION. The commands of the clock system and of the tally (chapter 11). -/

namespace Sys2Proof.Machine

/-- REF_LOSS (R290). -/
def execRefLoss (s : State) : Res :=
  .next (if s.clk.refState = 1 then (s.updClk (fun c => { c with refState := 2 })).bump (ck 0x3010 3) 1 else s)

/-- REF_RETURN (R290). -/
def execRefReturn (s : State) : Res := .next (if s.clk.refState = 2 then s.updClk (fun c => { c with refState := 1 }) else s)

/-- CROSSING_SLIP (R293). -/
def execCrossingSlip (t : TileIx) (port : Fin 4) (s : State) : Res := onGrid t (fun s => s.slip t.val port.val) s

/-- DROOP_ASSERT (R294). -/
def execDroopAssert (z : ZoneIx) (elapsed : Nat) (s : State) : Res := .next (s.droop z.val elapsed)

/-- SHUNT_RECHARGED (R321). -/
def execShuntRecharged (z : ZoneIx) (s : State) : Res := .next (s.updZoneClk z.val (fun k => { k with recharging := false }))

/-- STRETCH_END (R294). -/
def execStretchEnd (z : ZoneIx) (s : State) : Res := .next (s.stretchEnds z.val)

/-- STRETCH_RESTART (R294). -/
def execStretchRestart (z : ZoneIx) (s : State) : Res := .next (s.restart z.val)

/-- STRETCH_NOTICE (R295). -/
def execStretchNotice (z origin : ZoneIx) (seq : BitVec 4) (len elapsed : Nat) (s : State) : Res :=
  .next (s.copyStretch z.val origin.val seq.toNat len elapsed)

/-- STRETCH_EXTENSION (R295). -/
def execStretchExtension (z origin : ZoneIx) (seq : BitVec 4) (len : Nat) (s : State) : Res :=
  .next (s.extendStretch z.val origin.val seq.toNat len)

/-- FREQ_TARGET_CHANGE (R298, R333): the timing-margin monitors of a zone show margin up to a step, or none (0). -/
def execFreqTargetChange (z : ZoneIx) (marginMhz : Nat) (s : State) : Res :=
  let s1 := s.updZoneClk z.val (fun k => { k with margin := marginMhz })
  .next (s.noteFeatures (if marginMhz < 1200 then s1.marginLost z.val else s1).retarget)

/-- FREQ_SWITCH_ANNOUNCE (R299): none during a management reset (R371). -/
def execFreqSwitchAnnounce (s : State) : Res := .next (if s.boot.mgmt then s.announceDown else s)

/-- STEP_UP_DELAY_EXPIRY (R299, R300): the VLOG target is raised for the new frequency. -/
def execStepUpDelayExpiry (s : State) : Res :=
  let c := s.clk
  if c.target ≤ c.freq ∨ c.pending ≠ 0 ∨ c.upWait.isSome = true then .next s
  else
    let f := min c.target (c.freq + 400)
    .next { s.updClk (fun c => { c with upWait := some f }) with pwr := { s.pwr with vlogMv := s.vfMv f } }

/-- VLOG_TARGET_REACHED (R300): the step up is announced. -/
def execVlogTargetReached (s : State) : Res :=
  match s.clk.upWait with
  | none => .next s
  | some f => .next (if s.boot.mgmt then (s.updClk (fun c => { c with upWait := none })).announce f (s.tally.now + 2) else s)

/-- STEP_UP_VOLTAGE_TIMEOUT (R300). -/
def execStepUpVoltageTimeout (s : State) : Res :=
  match s.clk.upWait with
  | none => .next s
  | some _ => .next { s.updClk (fun c => { c with upWait := none }) with pwr := { s.pwr with vlogMv := s.vfMv s.clk.freq } }

/-- FREQ_SWITCH_APPLY (R300, R311). -/
def execFreqSwitchApply (s : State) : Res :=
  let r := s.takeDue .freqSwitch
  .next (if r.2 && r.1.clk.pending != 0 then r.1.applySwitch else r.1)

/-- GUARD_WINDOW_CLOSE (R300). -/
def execGuardWindowClose (s : State) : Res := .next (s.updClk (fun c => { c with guard := false }))

/-- VLOG_LOWER (R300). -/
def execVlogLower (s : State) : Res :=
  let r := s.takeDue .vlogLower
  .next (if r.2 then
    { r.1.updClk (fun c => { c with lowerAt := none }) with pwr := { s.pwr with vlogMv := s.vfMv (max s.clk.freq (s.clk.upWait.getD 0)) } }
  else r.1)

/-- SHIMMER_ENABLE (R304). -/
def State.writeShimmer (v : Nat) : Writer :=
  rwj (fun s => if 1 < v then (s, 0x0107) else (s.updClk (fun c => { c with shimmerOn := v == 1 }), 0))
def execShimmerEnable (car : Carrier) (value : Byte) (s : State) : Res := mgmtWrite car clsConfig (State.writeShimmer value.toNat) s

/-- SHIMMER_OFFSET (R304, R314). -/
def State.writeShimmerOffset (v : Nat) : Writer :=
  rwj (fun s => if 389 < v then (s, 0x0107) else (s.updClk (fun c => { c with shimmerOffset := v }), 0))
def execShimmerOffset (car : Carrier) (value : U16) (s : State) : Res := mgmtWrite car clsConfig (State.writeShimmerOffset value.toNat) s

/-! ## The tally -/

/-- An edge of the line (R305 to R310). It begins the count on the source in ABSENT; a line that comes while the links give the tally takes
over as a loss and a return; in HOLDOVER the count stays on the reference until a mark. -/
def State.lineEdge (s : State) : State :=
  let t := s.tally
  if t.selected = 2 then s
  else if t.state = tsAbsent then (s.tallyTo (t.now + 1)).updTally (fun t => { t with state := tsFree, inUse := 1, edges := 1 })
  else if t.state = tsHoldover then s
  else if t.inUse = 2 then (if t.selected = 0 then s.sourceLost else s)
  else s.sourceEdge.updTally (fun t => { t with edges := t.edges + 1 })

/-- TALLY_GLITCH (R305). -/
def execTallyGlitch (s : State) : Res := .next (s.updTally (fun t => { t with glitches := t.glitches + 1 }))

/-- TALLY_PULSE (R305): a pulse of at least 8 ns is an edge. What a mark adds is TALLY_MARK's (log entry 26). -/
def execTallyPulse (highNs : Nat) (s : State) : Res :=
  .next (if highNs < 8 then s.updTally (fun t => { t with glitches := t.glitches + 1 }) else s.lineEdge)

/-- TALLY_MARK (R306, R308, R310): the line's mark is compared with the expected count. -/
def execTallyMark (s : State) : Res :=
  .next (if s.tally.selected = 2 then s
    else (if s.tally.inUse = 2 ∧ s.tally.selected = 0 then s.sourceLost else s).takeMark none 1)

/-- TALLY_LOSS (R305, R307): the line is lost. -/
def execTallyLoss (s : State) : Res := .next (if s.tally.inUse = 1 then s.sourceLost else s)

/-- TALLY_SLEW_STEP (R310): the 1,024th count of a slew. -/
def execTallySlewStep (s : State) : Res :=
  .next (if s.tally.state = tsSlewing ∧ s.tally.slewPhase = 1023 then s.sourceEdge.updTally (fun t => { t with edges := t.edges + 1 }) else s)

/-- TALLY_REFERENCE_COUNT (R308, R309, R393): a count on the reference in ABSENT and HOLDOVER, and for a link source. -/
def execTallyReferenceCount (s : State) : Res :=
  let t := s.tally
  .next (if ! s.boot.powered then s
    else if t.state = tsAbsent then s.tallyTo (t.now + 1)
    else if t.state = tsHoldover then (s.tallyTo (t.now + 1)).updTally (fun t => { t with holdoverTk := t.holdoverTk + 1 })
    else if t.inUse = 2 then s.sourceEdge else s)

/-- TALLY_EPOCH_NEXT (R306, R314). -/
def State.writeEpoch (v : Nat) : Writer := fun s =>
  if 2 ^ 48 ≤ v then refuse (ck 0x3030 7) 0x0301 s else (s.updTally (fun t => { t with epochNext := some v }), 0)
def execTallyEpochNext (car : Carrier) (value : U64) (s : State) : Res :=
  mgmtWriteIn ⟨true, false⟩ car clsConfig (State.writeEpoch value.toNat) s

/-- TALLY_RESYNC (R312). -/
def State.writeResync : Writer := fun s =>
  let t := s.tally
  if allSlots.any (fun j => (s.job j).state == jsLoading || (s.job j).running) then refuse (ck 0x3030 7) 0x0303 s
  else if t.state ≠ tsLocked ∧ t.state ≠ tsSlewing ∧ t.state ≠ tsDisagree then refuse (ck 0x3030 7) 0x0304 s
  else if t.state = tsLocked then (s, 0)
  else
    let d := if t.state = tsSlewing then t.slewLeft else t.offset
    ((s.tallyTo ((t.now : Int) + d).toNat).updTally (fun t => { t with state := tsLocked, slewLeft := 0 }), 0)
def execTallyResync (car : Carrier) (s : State) : Res := mgmtWrite car clsConfig State.writeResync s

/-- TALLY_ORIGIN (R313). -/
def State.writeOrigin (v : Nat) : Writer := fun s =>
  (s.updTally (fun t => { t with origin := v, origins := t.origins ++ [(v, t.now)] }), 0)
def execTallyOrigin (car : Carrier) (value : U64) (s : State) : Res :=
  mgmtWriteIn ⟨true, false⟩ car clsConfig (State.writeOrigin value.toNat) s

end Sys2Proof.Machine
end

