-- ==== Sys2Proof/Machine/Ecmet.lean ====
section
/-! DEFINITION. The instructions of the Ecmet cores (chapter 4). -/

namespace Sys2Proof.Machine

/-- ADD: s[D] = s[A] + s[B] (R116). -/
def execAdd (i : CoreAt) (d a b : Reg) (s : State) : Res :=
  onTile i.tile (fun _ => aluOp i.core d a b 1 (fun x y => x + y)) s

/-- SUB: s[D] = s[A] − s[B] (R116). -/
def execSub (i : CoreAt) (d a b : Reg) (s : State) : Res :=
  onTile i.tile (fun _ => aluOp i.core d a b 1 (fun x y => x - y)) s

/-- AND (R116). -/
def execAnd (i : CoreAt) (d a b : Reg) (s : State) : Res :=
  onTile i.tile (fun _ => aluOp i.core d a b 1 (fun x y => x &&& y)) s

/-- OR (R116). -/
def execOr (i : CoreAt) (d a b : Reg) (s : State) : Res :=
  onTile i.tile (fun _ => aluOp i.core d a b 1 (fun x y => x ||| y)) s

/-- XOR (R116). -/
def execXor (i : CoreAt) (d a b : Reg) (s : State) : Res :=
  onTile i.tile (fun _ => aluOp i.core d a b 1 (fun x y => x ^^^ y)) s

/-- SHL: shift left by s[B][5:0] (R117). -/
def execShl (i : CoreAt) (d a b : Reg) (s : State) : Res :=
  onTile i.tile (fun _ => aluOp i.core d a b 1 (fun x y => x <<< shAmt y)) s

/-- SHR: logical shift right by s[B][5:0] (R117). -/
def execShr (i : CoreAt) (d a b : Reg) (s : State) : Res :=
  onTile i.tile (fun _ => aluOp i.core d a b 1 (fun x y => x >>> shAmt y)) s

/-- SAR: arithmetic shift right by s[B][5:0] (R117). -/
def execSar (i : CoreAt) (d a b : Reg) (s : State) : Res :=
  onTile i.tile (fun _ => aluOp i.core d a b 1 (fun x y => x.sshiftRight (shAmt y))) s

/-- SLT: 1 when s[A] < s[B], signed (R117). -/
def execSlt (i : CoreAt) (d a b : Reg) (s : State) : Res :=
  onTile i.tile (fun _ => aluOp i.core d a b 1 (fun x y => b64 (x.slt y))) s

/-- SLTU: 1 when s[A] < s[B], unsigned (R117). -/
def execSltu (i : CoreAt) (d a b : Reg) (s : State) : Res :=
  onTile i.tile (fun _ => aluOp i.core d a b 1 (fun x y => b64 (x.ult y))) s

/-- MIN, signed (R117). -/
def execMin (i : CoreAt) (d a b : Reg) (s : State) : Res :=
  onTile i.tile (fun _ => aluOp i.core d a b 1 (fun x y => if x.slt y then x else y)) s

/-- MAX, signed (R117). -/
def execMax (i : CoreAt) (d a b : Reg) (s : State) : Res :=
  onTile i.tile (fun _ => aluOp i.core d a b 1 (fun x y => if x.slt y then y else x)) s

/-- MINU, unsigned (R117). -/
def execMinu (i : CoreAt) (d a b : Reg) (s : State) : Res :=
  onTile i.tile (fun _ => aluOp i.core d a b 1 (fun x y => if x.ult y then x else y)) s

/-- MAXU, unsigned (R117). -/
def execMaxu (i : CoreAt) (d a b : Reg) (s : State) : Res :=
  onTile i.tile (fun _ => aluOp i.core d a b 1 (fun x y => if x.ult y then y else x)) s

/-- MUL: low 64 bits of the product (R116). -/
def execMul (i : CoreAt) (d a b : Reg) (s : State) : Res :=
  onTile i.tile (fun _ => aluOp i.core d a b 3 (fun x y => x * y)) s

/-- MULH: high 64 bits of the signed product (R116). -/
def execMulh (i : CoreAt) (d a b : Reg) (s : State) : Res :=
  onTile i.tile (fun _ => aluOp i.core d a b 3 (fun x y => BitVec.ofInt 64 (x.toInt * y.toInt / 2 ^ 64))) s

/-- MULHU: high 64 bits of the unsigned product (R116). -/
def execMulhu (i : CoreAt) (d a b : Reg) (s : State) : Res :=
  onTile i.tile (fun _ => aluOp i.core d a b 3 (fun x y => BitVec.ofNat 64 (x.toNat * y.toNat / 2 ^ 64))) s

/-- DIV: truncating signed division; by zero all ones (R117). -/
def execDiv (i : CoreAt) (d a b : Reg) (s : State) : Res :=
  onTile i.tile (fun _ => divOp i.core d a b sdiv64) s

/-- DIVU; by zero all ones (R117). -/
def execDivu (i : CoreAt) (d a b : Reg) (s : State) : Res :=
  onTile i.tile (fun _ => divOp i.core d a b udiv64) s

/-- REM; by zero the dividend (R117). -/
def execRem (i : CoreAt) (d a b : Reg) (s : State) : Res :=
  onTile i.tile (fun _ => divOp i.core d a b srem64) s

/-- REMU; by zero the dividend (R117). -/
def execRemu (i : CoreAt) (d a b : Reg) (s : State) : Res :=
  onTile i.tile (fun _ => divOp i.core d a b urem64) s

/-- MIX64 of R62 applied to s[A] (R116, R117). -/
def execMix64 (i : CoreAt) (d a b : Reg) (s : State) : Res :=
  onTile i.tile (fun _ => unOp i.core d a b 4 mix64) s

/-- POPC (R116). -/
def execPopc (i : CoreAt) (d a b : Reg) (s : State) : Res :=
  onTile i.tile (fun _ => unOp i.core d a b 1 popc64) s

/-- CLZ (R116). -/
def execClz (i : CoreAt) (d a b : Reg) (s : State) : Res :=
  onTile i.tile (fun _ => unOp i.core d a b 1 clz64) s

/-- JR (R113, R117). -/
def execJr (i : CoreAt) (d a b : Reg) (s : State) : Res :=
  onTile i.tile (fun _ => jrOp i.core d a b) s

/-- ADDI: sign-extended immediate (R116). -/
def execAddi (i : CoreAt) (d a : Reg) (imm : U16) (s : State) : Res :=
  onTile i.tile (fun _ => immOp i.core 0x02 d a (fun x => x + sx16 imm)) s

/-- ANDI: zero-extended immediate (R116). -/
def execAndi (i : CoreAt) (d a : Reg) (imm : U16) (s : State) : Res :=
  onTile i.tile (fun _ => immOp i.core 0x03 d a (fun x => x &&& zx16 imm)) s

/-- ORI: zero-extended immediate (R116). -/
def execOri (i : CoreAt) (d a : Reg) (imm : U16) (s : State) : Res :=
  onTile i.tile (fun _ => immOp i.core 0x04 d a (fun x => x ||| zx16 imm)) s

/-- XORI: zero-extended immediate (R116). -/
def execXori (i : CoreAt) (d a : Reg) (imm : U16) (s : State) : Res :=
  onTile i.tile (fun _ => immOp i.core 0x05 d a (fun x => x ^^^ zx16 imm)) s

/-- SHIFTI, mode 00: left (R116). -/
def execShiftiShl (i : CoreAt) (d a : Reg) (amt : BitVec 6) (z : BitVec 8) (s : State) : Res :=
  onTile i.tile (fun _ => shiftiOp i.core d a z (fun x => x <<< amt.toNat)) s

/-- SHIFTI, mode 01: right, logical (R116). -/
def execShiftiShr (i : CoreAt) (d a : Reg) (amt : BitVec 6) (z : BitVec 8) (s : State) : Res :=
  onTile i.tile (fun _ => shiftiOp i.core d a z (fun x => x >>> amt.toNat)) s

/-- SHIFTI, mode 10: right, arithmetic (R116). -/
def execShiftiSar (i : CoreAt) (d a : Reg) (amt : BitVec 6) (z : BitVec 8) (s : State) : Res :=
  onTile i.tile (fun _ => shiftiOp i.core d a z (fun x => x.sshiftRight amt.toNat)) s

/-- LIH (R116). -/
def execLih (i : CoreAt) (d a : Reg) (imm : U16) (s : State) : Res :=
  onTile i.tile (fun _ => lihOp i.core d a imm) s

/-- SLTI: signed compare with the sign-extended immediate (R116). -/
def execSlti (i : CoreAt) (d a : Reg) (imm : U16) (s : State) : Res :=
  onTile i.tile (fun _ => immOp i.core 0x08 d a (fun x => b64 (x.slt (sx16 imm)))) s

/-- LD64: a load of 8 B (R109, R114). -/
def execLd64 (i : CoreAt) (d a : Reg) (imm : U16) (s : State) : Res :=
  onTile i.tile (fun _ => loadOp i.core 0x09 d a imm 8 false) s

/-- LD32: a load of 4 B (R109, R114). -/
def execLd32 (i : CoreAt) (d a : Reg) (imm : U16) (s : State) : Res :=
  onTile i.tile (fun _ => loadOp i.core 0x0A d a imm 4 true) s

/-- LD32U: a load of 4 B (R109, R114). -/
def execLd32u (i : CoreAt) (d a : Reg) (imm : U16) (s : State) : Res :=
  onTile i.tile (fun _ => loadOp i.core 0x0B d a imm 4 false) s

/-- LD16: a load of 2 B (R109, R114). -/
def execLd16 (i : CoreAt) (d a : Reg) (imm : U16) (s : State) : Res :=
  onTile i.tile (fun _ => loadOp i.core 0x0C d a imm 2 true) s

/-- LD16U: a load of 2 B (R109, R114). -/
def execLd16u (i : CoreAt) (d a : Reg) (imm : U16) (s : State) : Res :=
  onTile i.tile (fun _ => loadOp i.core 0x0D d a imm 2 false) s

/-- LD8: a load of 1 B (R109, R114). -/
def execLd8 (i : CoreAt) (d a : Reg) (imm : U16) (s : State) : Res :=
  onTile i.tile (fun _ => loadOp i.core 0x0E d a imm 1 true) s

/-- LD8U: a load of 1 B (R109, R114). -/
def execLd8u (i : CoreAt) (d a : Reg) (imm : U16) (s : State) : Res :=
  onTile i.tile (fun _ => loadOp i.core 0x0F d a imm 1 false) s

/-- ST64: a store of 8 B (R109, R114). -/
def execSt64 (i : CoreAt) (d a : Reg) (imm : U16) (s : State) : Res :=
  onTile i.tile (fun _ => storeOp i.core 0x10 d a imm 8) s

/-- ST32: a store of 4 B (R109, R114). -/
def execSt32 (i : CoreAt) (d a : Reg) (imm : U16) (s : State) : Res :=
  onTile i.tile (fun _ => storeOp i.core 0x11 d a imm 4) s

/-- ST16: a store of 2 B (R109, R114). -/
def execSt16 (i : CoreAt) (d a : Reg) (imm : U16) (s : State) : Res :=
  onTile i.tile (fun _ => storeOp i.core 0x12 d a imm 2) s

/-- ST8: a store of 1 B (R109, R114). -/
def execSt8 (i : CoreAt) (d a : Reg) (imm : U16) (s : State) : Res :=
  onTile i.tile (fun _ => storeOp i.core 0x13 d a imm 1) s

/-- VLD: a 64 B line to a vector register (R109, R114). -/
def execVld (i : CoreAt) (d : BitVec 5) (a : Reg) (imm : U16) (s : State) : Res :=
  onTile i.tile (fun _ => vldOp i.core d a imm) s

/-- VST: a vector register to a 64 B line (R109, R114). -/
def execVst (i : CoreAt) (d : BitVec 5) (a : Reg) (imm : U16) (s : State) : Res :=
  onTile i.tile (fun _ => vstOp i.core d a imm) s

/-- BEQ (R113, R117). -/
def execBeq (i : CoreAt) (a b : Reg) (off : U16) (s : State) : Res :=
  onTile i.tile (fun _ => branchOp i.core 0x18 a b off (fun x y => x == y)) s

/-- BNE (R113, R117). -/
def execBne (i : CoreAt) (a b : Reg) (off : U16) (s : State) : Res :=
  onTile i.tile (fun _ => branchOp i.core 0x19 a b off (fun x y => x != y)) s

/-- BLT (R113, R117). -/
def execBlt (i : CoreAt) (a b : Reg) (off : U16) (s : State) : Res :=
  onTile i.tile (fun _ => branchOp i.core 0x1A a b off (fun x y => x.slt y)) s

/-- BGE (R113, R117). -/
def execBge (i : CoreAt) (a b : Reg) (off : U16) (s : State) : Res :=
  onTile i.tile (fun _ => branchOp i.core 0x1B a b off (fun x y => ! x.slt y)) s

/-- BLTU (R113, R117). -/
def execBltu (i : CoreAt) (a b : Reg) (off : U16) (s : State) : Res :=
  onTile i.tile (fun _ => branchOp i.core 0x1C a b off (fun x y => x.ult y)) s

/-- BGEU (R113, R117). -/
def execBgeu (i : CoreAt) (a b : Reg) (off : U16) (s : State) : Res :=
  onTile i.tile (fun _ => branchOp i.core 0x1D a b off (fun x y => ! x.ult y)) s

/-- J (R113). -/
def execJ (i : CoreAt) (off : BitVec 26) (s : State) : Res :=
  onTile i.tile (fun _ => jumpOp i.core false off) s

/-- JAL: the link goes to s31 (R113). -/
def execJal (i : CoreAt) (off : BitVec 26) (s : State) : Res :=
  onTile i.tile (fun _ => jumpOp i.core true off) s

/-- VADD on lanes of TYPE (R116, R118, R119). -/
def execVadd (i : CoreAt) (vd va vb : VReg) (ty : BitVec 3) (s : State) : Res :=
  onTile i.tile (fun _ => vecLane i.core .add [va, vb] vd va vb ty 2 4) s

/-- VSUB on lanes of TYPE (R116, R118, R119). -/
def execVsub (i : CoreAt) (vd va vb : VReg) (ty : BitVec 3) (s : State) : Res :=
  onTile i.tile (fun _ => vecLane i.core .sub [va, vb] vd va vb ty 2 4) s

/-- VMUL on lanes of TYPE (R116, R118, R119). -/
def execVmul (i : CoreAt) (vd va vb : VReg) (ty : BitVec 3) (s : State) : Res :=
  onTile i.tile (fun _ => vecLane i.core .mul [va, vb] vd va vb ty 3 4) s

/-- VFMA on lanes of TYPE (R116, R118, R119). -/
def execVfma (i : CoreAt) (vd va vb : VReg) (ty : BitVec 3) (s : State) : Res :=
  onTile i.tile (fun _ => vecLane i.core .fma [va, vb, vd] vd va vb ty 3 4) s

/-- VMIN on lanes of TYPE (R116, R118, R119). -/
def execVmin (i : CoreAt) (vd va vb : VReg) (ty : BitVec 3) (s : State) : Res :=
  onTile i.tile (fun _ => vecLane i.core .min [va, vb] vd va vb ty 2 4) s

/-- VMAX on lanes of TYPE (R116, R118, R119). -/
def execVmax (i : CoreAt) (vd va vb : VReg) (ty : BitVec 3) (s : State) : Res :=
  onTile i.tile (fun _ => vecLane i.core .max [va, vb] vd va vb ty 2 4) s

/-- VABS on lanes of TYPE (R116, R118, R119). -/
def execVabs (i : CoreAt) (vd va vb : VReg) (ty : BitVec 3) (s : State) : Res :=
  onTile i.tile (fun _ => vecLane i.core .abs [va] vd va vb ty 2 4) s

/-- VNEG on lanes of TYPE (R116, R118, R119). -/
def execVneg (i : CoreAt) (vd va vb : VReg) (ty : BitVec 3) (s : State) : Res :=
  onTile i.tile (fun _ => vecLane i.core .neg [va] vd va vb ty 2 4) s

/-- VADDS on lanes of TYPE (R116, R118, R119). -/
def execVadds (i : CoreAt) (vd va vb : VReg) (ty : BitVec 3) (s : State) : Res :=
  onTile i.tile (fun _ => vecLane i.core .adds [va, vb] vd va vb ty 2 4) s

/-- VSUBS on lanes of TYPE (R116, R118, R119). -/
def execVsubs (i : CoreAt) (vd va vb : VReg) (ty : BitVec 3) (s : State) : Res :=
  onTile i.tile (fun _ => vecLane i.core .subs [va, vb] vd va vb ty 2 4) s

/-- VCMPLT on lanes of TYPE (R116, R118, R119). -/
def execVcmplt (i : CoreAt) (vd va vb : VReg) (ty : BitVec 3) (s : State) : Res :=
  onTile i.tile (fun _ => vecLane i.core .cmplt [va, vb] vd va vb ty 2 2) s

/-- VCMPEQ on lanes of TYPE (R116, R118, R119). -/
def execVcmpeq (i : CoreAt) (vd va vb : VReg) (ty : BitVec 3) (s : State) : Res :=
  onTile i.tile (fun _ => vecLane i.core .cmpeq [va, vb] vd va vb ty 2 2) s

/-- VAND (R116). -/
def execVand (i : CoreAt) (vd va vb : VReg) (ty : BitVec 3) (s : State) : Res :=
  onTile i.tile (fun _ => vecBit i.core [va, vb] vd va vb ty (fun x y _ => x &&& y)) s

/-- VOR (R116). -/
def execVor (i : CoreAt) (vd va vb : VReg) (ty : BitVec 3) (s : State) : Res :=
  onTile i.tile (fun _ => vecBit i.core [va, vb] vd va vb ty (fun x y _ => x ||| y)) s

/-- VXOR (R116). -/
def execVxor (i : CoreAt) (vd va vb : VReg) (ty : BitVec 3) (s : State) : Res :=
  onTile i.tile (fun _ => vecBit i.core [va, vb] vd va vb ty (fun x y _ => x ^^^ y)) s

/-- VSEL: bits of VA where VD holds 1, else of VB (R116). -/
def execVsel (i : CoreAt) (vd va vb : VReg) (ty : BitVec 3) (s : State) : Res :=
  onTile i.tile (fun _ => vecBit i.core [va, vb, vd] vd va vb ty (fun x y m => (x &&& m) ||| (y &&& ~~~m))) s

/-- VPERM (R116). -/
def execVperm (i : CoreAt) (vd va vb : VReg) (ty : BitVec 3) (s : State) : Res :=
  onTile i.tile (fun _ => vpermOp i.core vd va vb ty) s

/-- VCVT (R121). -/
def execVcvt (i : CoreAt) (vd va vb : VReg) (ty : BitVec 3) (s : State) : Res :=
  onTile i.tile (fun _ => vcvtOp i.core vd va vb ty) s

/-- VSPLAT (R116). -/
def execVsplat (i : CoreAt) (vd : VReg) (sa : Reg) (ty : BitVec 3) (s : State) : Res :=
  onTile i.tile (fun _ => vsplatOp i.core vd sa ty) s

/-- VEXT (R118). -/
def execVext (i : CoreAt) (sd : Reg) (va : VReg) (sa : Reg) (ty : BitVec 3) (s : State) : Res :=
  onTile i.tile (fun _ => vextOp i.core sd va sa ty) s

/-- VINS (R118). -/
def execVins (i : CoreAt) (vd : VReg) (sa sd : Reg) (ty : BitVec 3) (s : State) : Res :=
  onTile i.tile (fun _ => vinsOp i.core vd sa sd ty) s

/-- VREDADD (R120). -/
def execVredadd (i : CoreAt) (sd : Reg) (va : VReg) (ty : BitVec 3) (s : State) : Res :=
  onTile i.tile (fun _ => vredOp i.core .add sd va ty) s

/-- VREDMAX (R120). -/
def execVredmax (i : CoreAt) (sd : Reg) (va : VReg) (ty : BitVec 3) (s : State) : Res :=
  onTile i.tile (fun _ => vredOp i.core .max sd va ty) s

/-- VREDMIN (R120). -/
def execVredmin (i : CoreAt) (sd : Reg) (va : VReg) (ty : BitVec 3) (s : State) : Res :=
  onTile i.tile (fun _ => vredOp i.core .min sd va ty) s

/-- VENC16 (R122). -/
def execVenc16 (i : CoreAt) (vd va : VReg) (sa sd : Reg) (fmt : BitVec 3) (s : State) : Res :=
  onTile i.tile (fun _ => vencOp i.core false vd va sa sd fmt) s

/-- VENC32 (R122). -/
def execVenc32 (i : CoreAt) (vd va : VReg) (sa sd : Reg) (fmt : BitVec 3) (s : State) : Res :=
  onTile i.tile (fun _ => vencOp i.core true vd va sa sd fmt) s

/-- VDEC (R122). -/
def execVdec (i : CoreAt) (vd va : VReg) (sa : Reg) (fmt : BitVec 3) (s : State) : Res :=
  onTile i.tile (fun _ => vdecOp i.core vd va sa fmt) s

/-- VSCK (R122). -/
def execVsck (i : CoreAt) (sd : Reg) (va : VReg) (sa : Reg) (fmt : BitVec 3) (s : State) : Res :=
  onTile i.tile (fun _ => vsckOp i.core sd va sa fmt) s

/-- FN with function 0, EXP2 (R123, R124). -/
def execFnExp2 (i : CoreAt) (vd va vb : VReg) (ty : BitVec 3) (z : BitVec 8) (s : State) : Res :=
  onTile i.tile (fun _ => fnOp i.core 0 vd va vb ty z) s

/-- FN with function 1, LOG2 (R123, R124). -/
def execFnLog2 (i : CoreAt) (vd va vb : VReg) (ty : BitVec 3) (z : BitVec 8) (s : State) : Res :=
  onTile i.tile (fun _ => fnOp i.core 1 vd va vb ty z) s

/-- FN with function 2, RCP (R123, R124). -/
def execFnRcp (i : CoreAt) (vd va vb : VReg) (ty : BitVec 3) (z : BitVec 8) (s : State) : Res :=
  onTile i.tile (fun _ => fnOp i.core 2 vd va vb ty z) s

/-- FN with function 3, RSQRT (R123, R124). -/
def execFnRsqrt (i : CoreAt) (vd va vb : VReg) (ty : BitVec 3) (z : BitVec 8) (s : State) : Res :=
  onTile i.tile (fun _ => fnOp i.core 3 vd va vb ty z) s

/-- FN with function 4, TANH (R123, R124). -/
def execFnTanh (i : CoreAt) (vd va vb : VReg) (ty : BitVec 3) (z : BitVec 8) (s : State) : Res :=
  onTile i.tile (fun _ => fnOp i.core 4 vd va vb ty z) s

/-- FN with function 5, SIGM (R123, R124). -/
def execFnSigm (i : CoreAt) (vd va vb : VReg) (ty : BitVec 3) (z : BitVec 8) (s : State) : Res :=
  onTile i.tile (fun _ => fnOp i.core 5 vd va vb ty z) s

/-- FN with function 6, ERF (R123, R124). -/
def execFnErf (i : CoreAt) (vd va vb : VReg) (ty : BitVec 3) (z : BitVec 8) (s : State) : Res :=
  onTile i.tile (fun _ => fnOp i.core 6 vd va vb ty z) s

/-- FN with function 7, SINP (R123, R124). -/
def execFnSinp (i : CoreAt) (vd va vb : VReg) (ty : BitVec 3) (z : BitVec 8) (s : State) : Res :=
  onTile i.tile (fun _ => fnOp i.core 7 vd va vb ty z) s

/-- CSRR (R136). -/
def execCsrr (i : CoreAt) (d : Reg) (num : BitVec 12) (s : State) : Res :=
  onTile i.tile (fun e => csrrOp e i.core d num) s

/-- CSRW (R136). -/
def execCsrw (i : CoreAt) (a : Reg) (num : BitVec 12) (s : State) : Res :=
  onTile i.tile (fun e => csrwOp e i.core a num) s

/-- PL.WAIT (R127). -/
def execPlWait (i : CoreAt) (a : Reg) (z : BitVec 12) (s : State) : Res :=
  onTile i.tile (fun _ => plWaitOp i.core a z) s

/-- WIN.OPEN (R128). -/
def execWinOpen (i : CoreAt) (d a : Reg) (w : Fin 8) (z : BitVec 9) (s : State) : Res :=
  onTile i.tile (fun _ => winOpenOp i.core d a w z) s

/-- WIN.CLOSE (R128). -/
def execWinClose (i : CoreAt) (w : Fin 8) (z : BitVec 9) (s : State) : Res :=
  onTile i.tile (fun _ => winCloseOp i.core w z) s

/-- RW.WAIT (R128). -/
def execRwWait (i : CoreAt) (d a : Reg) (w : Fin 8) (z : BitVec 9) (waited : Nat) (s : State) : Res :=
  onTile i.tile (fun _ => rwWaitOp i.core d a w z waited) s

/-- SV.SEND (R129). -/
def execSvSend (i : CoreAt) (d a : Reg) (z : BitVec 12) (waited : Nat) (s : State) : Res :=
  onTile i.tile (fun e => svSendOp e i.core d a z waited) s

/-- SV.RECV (R129). -/
def execSvRecv (i : CoreAt) (d a : Reg) (z : BitVec 12) (waited : Nat) (s : State) : Res :=
  onTile i.tile (fun _ => svRecvOp i.core d a z waited) s

/-- TALLY.RD (R130): the tally as it stands when the request reaches the ring. -/
def execTallyRd (i : CoreAt) (d : Reg) (z : BitVec 12) (waited : Nat) (s : State) : Res :=
  onTile i.tile (fun _ => tallyRdOp i.core d z waited (BitVec.ofNat 64 s.tally.now)) s

/-- SENS.RD (R130, R322); a reading may draw a free sample. -/
def execSensRd (i : CoreAt) (d a : Reg) (z : BitVec 12) (waited : Nat) (s : State) : Res :=
  onTile i.tile (fun _ => sensRdOp i.core d a z waited (sensorReading s)) { s with draws := s.draws + 1 }

/-- LNK.RD (R130, R394). -/
def execLnkRd (i : CoreAt) (d a : Reg) (z : BitVec 12) (answered : Bool) (waited : Nat) (s : State) : Res :=
  onTile i.tile (fun _ => lnkRdOp i.core d a z answered waited (linkStatus s)) s

/-- SYNC (R131). -/
def execSync (i : CoreAt) (mask : BitVec 4) (z : BitVec 8) (s : State) : Res :=
  onTile i.tile (fun _ => syncOp i.core mask z) s

/-- STEP.END (R132). -/
def execStepEnd (i : CoreAt) (a : Reg) (z : BitVec 12) (s : State) : Res :=
  onTile i.tile (fun _ => stepEndOp i.core a z) s

/-- The watchdog of a wait expires (R135). -/
def execWatchdogExpiry (i : CoreAt) (s : State) : Res :=
  onTile i.tile (fun _ => watchdogOp i.core) s

/-- A reserved word (R111, R137). -/
def execReservedInstruction (i : CoreAt) (word : U32) (s : State) : Res :=
  onTile i.tile (fun _ => reservedOp i.core word) s

end Sys2Proof.Machine
end

