-- ==== Sys2Proof/Machine/Firmware.lean ====
section
/-! DEFINITION. The Ecmet firmware: S7, the fetch of the tiles, and the update in service (R360 to R363). -/

namespace Sys2Proof.Machine

/-- FW_UPDATE_STATE codes (R372). -/
def fuVerifying : Nat := 1
def fuBroadcasting : Nat := 2
def fuRepairing : Nat := 3
def fuWaiting : Nat := 4
def fuActivated : Nat := 5
def fuFailed : Nat := 6
def fuLaggards : Nat := 7

/-- A change of FW_UPDATE_STATE, with its event (R412). -/
def State.setUpd (s : State) (st : Nat) : State := (s.updBoot (fun b => { b with updState := st })).raise 0x03 0 (leOfNat 1 st)

/-- The section is written to a half of every present stack's firmware region (R360, R362). -/
def State.writeHalf (s : State) (h : Fin 2) (sec : List Byte) : State := { s with mem := { s.mem with fwStore := s.mem.fwStore.set h sec } }

/-- Tiles of a zone set that have not reported. -/
def State.silentTiles (s : State) (mask : Nat) : List Nat := (s.zoneTiles mask).filter (fun t => ! s.boot.reported.contains t)

/-- Zones whose tiles S7 waits for: ON and not held (R360). -/
def State.fetchZones (s : State) : Nat := zonesMask (allZones.filter (fun z => s.zoneOn z && ! s.check.faultHeld.testBit z))

/-- S7 ends when every tile of every ON zone has reported or is held (R360). -/
def State.endS7 (s : State) : State :=
  if s.inStage 7 && s.boot.image.isSome && (s.silentTiles s.fetchZones).isEmpty then
    let s1 := (maskZones s.fetchZones).foldl (fun (s : State) z => s.retryPass 8 z) s
    s1.stageDone 7 (if s1.boot.s8Done then 9 else 8)
  else s

/-- The Ecmet image of a slot. -/
def State.ecmetSlotBytes (s : State) (i : Nat) : List Byte := s.life.ecmetImages[i % 2]'(Nat.mod_lt _ (by decide))

/-- S7_ECMET_FIRMWARE (R360): the image in force is verified and placed in the stores; without a stack it is broadcast. -/
def execS7EcmetFirmware (s : State) : Res :=
  if ! s.inStage 7 || s.boot.image.isSome then .next s
  else
    let r := s.trySlots 9 imgEcmet s.ecmetSlotBytes (s.slotOrder 9 s.life.ecmetSlot)
    match r.2 with
    | none => .next (r.1.endStart 7 2)
    | some slot =>
      let f := fwImage (r.1.ecmetSlotBytes slot)
      let s1 := (r.1.writeHalf r.1.mem.fwHalf f.sec).updBoot (fun b => { b with
        image := some f, reported := [], chunks := [], rounds := 0, nextChunk := if s.mem.present = 0 then 0 else 65 })
      .next ({ s1 with life := { s1.life with ecmetSlot := slot } }).endS7

/-- A tile loads the image and reports (R360). -/
def State.tileReports (s : State) (t : Nat) (f : FwImage) : State :=
  (s.updTile t (fun k => k.loadFw f.sec)).updBoot (fun b => { b with reported := if b.reported.contains t then b.reported else b.reported ++ [t] })

/-- The fetches of a tile have failed: its zone is on record and fault-held (R360). -/
def State.fetchFails (s : State) (t : Nat) : State :=
  let z := s.grid.tileZone t
  if s.check.faultHeld.testBit z then s
  else
    let s1 := (s.itemFailsNow 8 z rcVerify).faultHold z
    s1.parkHeld (if s1.zoneIdle z then [z] else [])

/-- TILE_FIRMWARE_FETCH (R281, R327, R360): up to three fetches, each good when its digest is that of the image. -/
def execTileFirmwareFetch (t : TileIx) (digestGood : List Bool) (s : State) : Res :=
  if ! s.grid.hasTile t.val then .fault .noSuchTile
  else match s.boot.image with
    | none => .next s
    | some f =>
      if ! s.zoneOn (s.grid.tileZone t.val) then .next s
      else if f.tileDigest = f.secDigest ∧ (digestGood.take 3).any id = true then .next (s.tileReports t.val f).endS7
      else .next (s.noteFeatures (s.fetchFails t.val)).endS7

/-! ## The update in service and the broadcast (R362, R363) -/

/-- FW_UPDATE_CONTROL (R362, R372). -/
def State.writeFwUpdate (v : Nat) : Writer := fun s =>
  let b := s.boot
  if v ≠ 1 then (s, 0x0107)
  else if fuVerifying ≤ b.updState ∧ b.updState ≤ fuWaiting then (s, 0x0A05)
  else
    let img := s.memBytes b.stageAddr.toNat (256 + 65536)
    let r := (s.setUpd fuVerifying).verifyImage imgEcmet img
    if ! r.2 then (r.1.setUpd fuFailed, 0x0A04)
    else
      let f := fwImage img
      let s1 := (r.1.writeHalf (1 - r.1.mem.fwHalf) f.sec).updBoot (fun b => { b with
        staged := some f, nextChunk := 0, chunks := [], reported := [], laggards := [] })
      (s1.setUpd fuBroadcasting, 0)
def execFwUpdateControl (car : Carrier) (v : Byte) (s : State) : Res := mgmtWrite car clsFirmware (State.writeFwUpdate v.toNat) s

/-- The image that the broadcast carries: the staged one, or in an S7 without stacks the one in force. -/
def State.bcastImage (s : State) : Option FwImage :=
  if s.boot.updState = fuBroadcasting ∨ s.boot.updState = fuRepairing then s.boot.staged
  else if s.inStage 7 && decide (s.mem.present = 0) then s.boot.image else none

/-- All 64 chunks. -/
def allChunks : Nat := 2 ^ 64 - 1
def State.chunksOf (s : State) (t : Nat) : Nat := SMap.get 0 s.boot.chunks t

/-- Tiles that an update waits for: of every zone that is neither OFF nor in FAULT (R363). -/
def State.updateTiles (s : State) : List Nat := s.zoneTiles (zonesMask (allZones.filter (fun z => s.zoneState z != zsOff && s.zoneState z != zsFault)))

/-- A tile with every chunk and the tile digest of the image reports. -/
def State.reportIfWhole (s : State) (t : Nat) : State :=
  match s.bcastImage with
  | some f => if s.chunksOf t = allChunks ∧ f.tileDigest = f.secDigest then
      (if s.inStage 7 then s.tileReports t f else s.updBoot (fun b => { b with reported := if b.reported.contains t then b.reported else b.reported ++ [t] }))
    else s
  | none => s

/-- After the final packet: repairing, or waiting for activation once every tile has reported (R362, R363). -/
def State.afterFinal (s : State) : State :=
  let st := if s.updateTiles.all (fun t => s.boot.reported.contains t) then fuWaiting else fuRepairing
  if s.boot.updState = st then s else s.setUpd st

/-- The final packet of an S7 without stacks: tiles with missed chunks ask again, at most three times, then their zones are held (R360). -/
def State.afterRound (s : State) : State :=
  let missing := s.silentTiles s.fetchZones
  if missing.isEmpty then s.endS7
  else if s.boot.rounds < 3 then s.updBoot (fun b => { b with rounds := b.rounds + 1, nextChunk := 0 })
  else (missing.foldl State.fetchFails s).endS7

/-- FW_CHUNK_BROADCAST (R362): one packet every 10 µs, the final one with the tile digest. -/
def execFwChunkBroadcast (s : State) : Res :=
  match s.bcastImage with
  | none => .next s
  | some f =>
    let n := s.boot.nextChunk
    let go := s.updBoot (fun b => { b with nextChunk := n + 1 })
    if n < 64 then .next (go.send (.chunk f.version n (chunkDigest f.sec n).toNat))
    else if n = 64 then
      let s1 := go.send (.chunk f.version 0xFFFF f.tileDigest)
      let s2 := s1.allTiles.foldl State.reportIfWhole s1
      .next (if s2.inStage 7 then s2.afterRound else s2.afterFinal)
    else .next s

def State.stageChunk (s : State) (t c : Nat) : State :=
  s.updBoot (fun b => { b with chunks := SMap.put 0 b.chunks t (SMap.get 0 b.chunks t ||| 2 ^ c) })

/-- FW_CHUNK_RECEIVE (R362): a chunk that has left reaches an agent with a free buffer, and its digest is good; otherwise it is missed. -/
def execFwChunkReceive (t : TileIx) (chunk : Fin 64) (bufferFree digestGood : Bool) (s : State) : Res :=
  if ! s.grid.hasTile t.val then .fault .noSuchTile
  else .next (if s.bcastImage.isSome && bufferFree && digestGood && decide (chunk.val < s.boot.nextChunk) && decide (s.boot.nextChunk ≤ 64)
    then s.stageChunk t.val chunk.val else s)

/-- FW_CHUNK_REFETCH (R362): after the final packet a missed chunk comes from the second half of the nearest stack's store. -/
def execFwChunkRefetch (t : TileIx) (chunk : Fin 64) (s : State) : Res :=
  if ! s.grid.hasTile t.val then .fault .noSuchTile
  else if s.boot.updState = fuRepairing ∧ (s.chunksOf t.val).testBit chunk.val = false then
    .next ((((s.stageChunk t.val chunk.val).bump (ck 0x0122 5) 1).reportIfWhole t.val).afterFinal)
  else .next s

/-- FW_ACTIVATION (R363): every tile has reported and no job holds a slot. -/
def execFwActivation (s : State) : Res :=
  match s.boot.staged with
  | none => .next s
  | some f =>
    if s.boot.updState = fuWaiting ∧ s.betweenJobs = true ∧ s.updateTiles.all (fun t => s.boot.reported.contains t) = true then
      let slot := 1 - s.life.ecmetSlot
      let s1 := s.forTiles (s.zoneTiles (zonesMask (allZones.filter s.zoneOn))) (fun _ t => t.loadFw f.sec)
      let s2 : State := { s1 with
        life := { s1.life with
          ecmetSlot := slot, ecmetImages := s1.life.ecmetImages.set (slot % 2) f.bytes (Nat.mod_lt _ (by decide)) }
        mem := { s1.mem with fwHalf := 1 - s1.mem.fwHalf }
        boot := { s1.boot with image := some f, staged := none, chunks := [] } }
      .next (s2.setUpd fuActivated)
    else .next s

/-- FW_LAGGARD_TIMEOUT (R363): 1 s after the final packet. -/
def execFwLaggardTimeout (s : State) : Res :=
  if s.boot.updState = fuRepairing then
    let l := (s.updateTiles.filter (fun t => ! s.boot.reported.contains t)).take 16
    .next ((s.updBoot (fun b => { b with laggards := l, staged := none, chunks := [] })).setUpd fuLaggards)
  else .next s

end Sys2Proof.Machine
end

