-- ==== Sys2Proof/Machine/Objects.lean ====
section
/-! DEFINITION. The objects of the dictionary (R435 to R452): the table of every object, its lookup, the write classes (R456) and the
directory (R445). -/

namespace Sys2Proof.Machine

/-- A row of the table: index of unit 0, units, first sub-index, sub-indices, type and access codes, kept, applied at a plan fence, MAX. -/
structure ObjRow where
  index : Nat
  units : Nat
  sub : Nat
  subs : Nat
  type : Nat
  access : Nat
  kept : Bool
  fence : Bool
  max : Nat
  deriving DecidableEq, Repr

/-- Type codes that the rules name (R435). -/
def tyBool : Nat := 0x0A
def tyStr : Nat := 0x0B
def tyBlob : Nat := 0x0C

/-- Size of a fixed-size type (R435). -/
def typeSize (ty : Nat) : Nat :=
  match ty with
  | 1 => 1 | 2 => 2 | 3 => 4 | 4 => 8 | 5 => 1 | 6 => 2 | 7 => 4 | 8 => 8 | 9 => 4 | 10 => 1 | 13 => 8 | 14 => 2 | _ => 0

/-- STR and BLOB. -/
def varType (ty : Nat) : Bool := ty == tyStr || ty == tyBlob

/-- Identity, communication and configuration (R140, R434, R443, R444, R493). -/
def objsLo0 : List ObjRow := [
  ⟨0x0100, 1, 0x01, 1, 11, 1, false, false, 0xFFFF⟩,
  ⟨0x0100, 1, 0x02, 1, 11, 1, false, false, 0xFFFF⟩,
  ⟨0x0100, 1, 0x03, 1, 11, 1, false, false, 0xFFFF⟩,
  ⟨0x0100, 1, 0x04, 1, 11, 1, false, false, 16⟩,
  ⟨0x0100, 1, 0x05, 1, 4, 1, false, false, 8⟩,
  ⟨0x0100, 1, 0x06, 1, 2, 1, false, false, 2⟩,
  ⟨0x0100, 1, 0x07, 1, 2, 5, true, false, 2⟩,
  ⟨0x0100, 1, 0x08, 1, 2, 1, false, false, 2⟩,
  ⟨0x0100, 1, 0x09, 1, 11, 4, true, false, 64⟩,
  ⟨0x0110, 1, 0x01, 1, 3, 1, false, false, 4⟩,
  ⟨0x0110, 1, 0x02, 1, 1, 1, false, false, 1⟩,
  ⟨0x0110, 1, 0x03, 1, 4, 1, false, false, 8⟩,
  ⟨0x0120, 1, 0x01, 1, 3, 1, false, false, 4⟩,
  ⟨0x0120, 1, 0x02, 1, 4, 1, false, false, 8⟩,
  ⟨0x0120, 1, 0x03, 1, 4, 1, false, false, 8⟩,
  ⟨0x0122, 1, 0x01, 1, 4, 3, false, false, 8⟩,
  ⟨0x0122, 1, 0x02, 1, 1, 2, false, false, 1⟩,
  ⟨0x0122, 1, 0x03, 1, 1, 1, false, false, 1⟩,
  ⟨0x0122, 1, 0x04, 1, 12, 1, false, false, 32⟩,
  ⟨0x0122, 1, 0x05, 1, 4, 1, false, false, 8⟩,
  ⟨0x0130, 1, 0x01, 1, 2, 1, false, false, 2⟩,
  ⟨0x0130, 1, 0x02, 1, 12, 1, false, false, 65535⟩,
  ⟨0x1000, 1, 0x01, 1, 2, 1, false, false, 2⟩,
  ⟨0x1000, 1, 0x02, 1, 2, 1, false, false, 2⟩,
  ⟨0x1000, 1, 0x03, 1, 1, 1, false, false, 1⟩,
  ⟨0x1010, 1, 0x01, 1, 3, 1, false, false, 4⟩,
  ⟨0x1010, 1, 0x02, 1, 10, 1, false, false, 1⟩,
  ⟨0x1010, 1, 0x03, 1, 3, 1, false, false, 4⟩,
  ⟨0x1020, 1, 0x01, 1, 4, 3, true, false, 8⟩,
  ⟨0x1020, 1, 0x02, 1, 1, 3, true, false, 1⟩]

/-- Identity, communication and configuration, continued. -/
def objsLo1 : List ObjRow := [
  ⟨0x1020, 1, 0x03, 1, 3, 3, true, false, 4⟩,
  ⟨0x1020, 1, 0x04, 1, 1, 3, true, false, 1⟩,
  ⟨0x1020, 1, 0x05, 1, 3, 3, true, false, 4⟩,
  ⟨0x1020, 1, 0x06, 1, 12, 3, true, false, 16⟩,
  ⟨0x1020, 1, 0x07, 1, 2, 3, true, false, 2⟩,
  ⟨0x1020, 1, 0x08, 1, 1, 1, false, false, 1⟩,
  ⟨0x1030, 1, 0x01, 1, 1, 1, false, false, 1⟩,
  ⟨0x1040, 1, 0x01, 1, 4, 1, false, false, 8⟩,
  ⟨0x1040, 1, 0x02, 1, 4, 1, false, false, 8⟩,
  ⟨0x1040, 1, 0x03, 1, 4, 1, false, false, 8⟩,
  ⟨0x1040, 1, 0x04, 1, 4, 1, false, false, 8⟩,
  ⟨0x1040, 1, 0x05, 1, 4, 1, false, false, 8⟩,
  ⟨0x1040, 1, 0x06, 1, 4, 1, false, false, 8⟩,
  ⟨0x1040, 1, 0x07, 1, 4, 1, false, false, 8⟩,
  ⟨0x1040, 1, 0x08, 1, 4, 1, false, false, 8⟩,
  ⟨0x1040, 1, 0x09, 1, 4, 1, false, false, 8⟩,
  ⟨0x1040, 1, 0x0A, 1, 4, 1, false, false, 8⟩,
  ⟨0x1040, 1, 0x0B, 1, 4, 1, false, false, 8⟩,
  ⟨0x1040, 1, 0x0C, 1, 4, 1, false, false, 8⟩,
  ⟨0x1040, 1, 0x0D, 1, 4, 1, false, false, 8⟩,
  ⟨0x1040, 1, 0x0E, 1, 4, 1, false, false, 8⟩,
  ⟨0x1040, 1, 0x0F, 1, 4, 1, false, false, 8⟩,
  ⟨0x1040, 1, 0x10, 1, 4, 1, false, false, 8⟩,
  ⟨0x1041, 1, 0x03, 1, 4, 1, false, false, 8⟩,
  ⟨0x1041, 1, 0x04, 1, 4, 1, false, false, 8⟩,
  ⟨0x1041, 1, 0x06, 1, 4, 1, false, false, 8⟩,
  ⟨0x1041, 1, 0x07, 1, 4, 1, false, false, 8⟩,
  ⟨0x1041, 1, 0x08, 1, 4, 1, false, false, 8⟩,
  ⟨0x1041, 1, 0x09, 1, 4, 1, false, false, 8⟩,
  ⟨0x1041, 1, 0x0A, 1, 4, 1, false, false, 8⟩]

/-- Identity, communication and configuration, continued. -/
def objsLo2 : List ObjRow := [
  ⟨0x1041, 1, 0x0C, 1, 4, 1, false, false, 8⟩,
  ⟨0x1041, 1, 0x0D, 1, 4, 1, false, false, 8⟩,
  ⟨0x1041, 1, 0x0F, 1, 4, 1, false, false, 8⟩,
  ⟨0x1041, 1, 0x11, 1, 4, 1, false, false, 8⟩,
  ⟨0x1041, 1, 0x12, 1, 4, 1, false, false, 8⟩,
  ⟨0x2000, 1, 0x01, 1, 3, 1, false, false, 4⟩,
  ⟨0x2000, 1, 0x02, 1, 1, 1, false, false, 1⟩,
  ⟨0x2000, 1, 0x03, 1, 2, 1, false, false, 2⟩,
  ⟨0x2000, 1, 0x04, 1, 3, 1, false, false, 4⟩,
  ⟨0x2000, 1, 0x05, 1, 3, 1, false, false, 4⟩,
  ⟨0x2000, 1, 0x06, 1, 2, 1, false, false, 2⟩,
  ⟨0x2000, 1, 0x07, 1, 10, 1, false, false, 1⟩,
  ⟨0x2000, 1, 0x08, 1, 4, 1, false, false, 8⟩,
  ⟨0x2000, 1, 0x09, 1, 1, 1, false, false, 1⟩,
  ⟨0x2000, 1, 0x0A, 1, 3, 1, false, false, 4⟩,
  ⟨0x2000, 1, 0x0B, 1, 1, 5, true, false, 1⟩,
  ⟨0x2000, 1, 0x0C, 1, 2, 1, false, false, 2⟩,
  ⟨0x2000, 1, 0x0D, 1, 1, 1, false, false, 1⟩,
  ⟨0x2100, 1, 0x01, 1, 2, 1, false, false, 2⟩,
  ⟨0x2100, 1, 0x02, 1, 2, 1, false, false, 2⟩,
  ⟨0x2100, 1, 0x03, 1, 1, 1, false, false, 1⟩,
  ⟨0x2100, 1, 0x04, 1, 1, 1, false, false, 1⟩,
  ⟨0x2100, 1, 0x05, 1, 1, 1, false, false, 1⟩,
  ⟨0x2110, 1, 0x01, 1, 4, 1, false, false, 8⟩,
  ⟨0x2110, 1, 0x02, 1, 2, 1, false, false, 2⟩,
  ⟨0x2110, 1, 0x03, 1, 2, 1, true, false, 2⟩,
  ⟨0x2110, 1, 0x04, 1, 2, 1, false, false, 2⟩,
  ⟨0x2110, 1, 0x05, 1, 3, 1, true, false, 4⟩,
  ⟨0x2111, 1, 0x00, 1, 12, 1, false, false, 65535⟩,
  ⟨0x2120, 1, 0x01, 8, 3, 1, false, false, 4⟩]

/-- Identity, communication and configuration, continued. -/
def objsLo3 : List ObjRow := [
  ⟨0x2130, 1, 0x00, 1, 12, 1, false, false, 65535⟩]

/-- Clocks, power and heat (R314, R315, R346, R347). -/
def objsClk0 : List ObjRow := [
  ⟨0x3000, 1, 0x01, 1, 2, 1, false, false, 2⟩,
  ⟨0x3000, 1, 0x02, 1, 2, 1, false, false, 2⟩,
  ⟨0x3000, 1, 0x03, 1, 2, 3, true, false, 2⟩,
  ⟨0x3000, 1, 0x04, 1, 2, 1, false, false, 2⟩,
  ⟨0x3000, 1, 0x05, 1, 2, 1, false, false, 2⟩,
  ⟨0x3000, 1, 0x06, 1, 2, 1, false, false, 2⟩,
  ⟨0x3000, 1, 0x07, 1, 13, 1, false, false, 8⟩,
  ⟨0x3000, 1, 0x08, 1, 4, 1, false, false, 8⟩,
  ⟨0x3010, 1, 0x01, 1, 1, 1, false, false, 1⟩,
  ⟨0x3010, 1, 0x02, 1, 2, 1, false, false, 2⟩,
  ⟨0x3010, 1, 0x03, 1, 3, 1, false, false, 4⟩,
  ⟨0x3020, 1, 0x01, 1, 10, 5, false, false, 1⟩,
  ⟨0x3020, 1, 0x02, 1, 2, 5, false, false, 2⟩,
  ⟨0x3030, 1, 0x01, 1, 4, 1, false, false, 8⟩,
  ⟨0x3030, 1, 0x02, 1, 4, 1, false, false, 8⟩,
  ⟨0x3030, 1, 0x03, 1, 4, 1, false, false, 8⟩,
  ⟨0x3030, 1, 0x04, 1, 4, 1, false, false, 8⟩,
  ⟨0x3030, 1, 0x05, 1, 4, 1, false, false, 8⟩,
  ⟨0x3030, 1, 0x06, 1, 4, 1, false, false, 8⟩,
  ⟨0x3030, 1, 0x07, 1, 4, 1, false, false, 8⟩,
  ⟨0x3100, 1, 0x01, 1, 13, 1, false, false, 8⟩,
  ⟨0x3100, 1, 0x02, 1, 1, 1, false, false, 1⟩,
  ⟨0x3100, 1, 0x03, 1, 1, 3, true, false, 1⟩,
  ⟨0x3100, 1, 0x04, 1, 1, 1, false, false, 1⟩,
  ⟨0x3100, 1, 0x05, 1, 4, 2, false, false, 8⟩,
  ⟨0x3100, 1, 0x06, 1, 8, 1, false, false, 8⟩,
  ⟨0x3100, 1, 0x07, 1, 8, 1, false, false, 8⟩,
  ⟨0x3100, 1, 0x08, 1, 1, 2, false, false, 1⟩,
  ⟨0x3100, 1, 0x09, 1, 4, 1, false, false, 8⟩,
  ⟨0x3100, 1, 0x0A, 1, 3, 1, false, false, 4⟩]

/-- Clocks, power and heat, continued. -/
def objsClk1 : List ObjRow := [
  ⟨0x3100, 1, 0x0B, 1, 3, 1, false, false, 4⟩,
  ⟨0x3110, 1, 0x01, 1, 4, 3, true, false, 8⟩,
  ⟨0x3110, 1, 0x02, 1, 4, 1, false, false, 8⟩,
  ⟨0x4000, 1, 0x01, 1, 2, 1, false, false, 2⟩,
  ⟨0x4000, 1, 0x02, 1, 2, 3, true, false, 2⟩,
  ⟨0x4000, 1, 0x03, 1, 2, 1, false, false, 2⟩,
  ⟨0x4000, 1, 0x04, 1, 2, 1, false, false, 2⟩,
  ⟨0x4000, 1, 0x05, 1, 2, 1, false, false, 2⟩,
  ⟨0x4000, 1, 0x06, 1, 2, 1, false, false, 2⟩,
  ⟨0x4000, 1, 0x07, 1, 10, 1, false, false, 1⟩,
  ⟨0x4000, 1, 0x08, 1, 4, 1, false, false, 8⟩,
  ⟨0x4000, 1, 0x09, 1, 4, 1, false, false, 8⟩,
  ⟨0x4000, 1, 0x0A, 1, 2, 1, false, false, 2⟩,
  ⟨0x4010, 1, 0x01, 56, 1, 1, false, false, 1⟩,
  ⟨0x4011, 1, 0x01, 56, 1, 1, false, false, 1⟩,
  ⟨0x4012, 1, 0x01, 8, 1, 1, false, false, 1⟩,
  ⟨0x4030, 1, 0x01, 1, 6, 1, false, false, 2⟩,
  ⟨0x4030, 1, 0x02, 1, 2, 3, true, false, 2⟩,
  ⟨0x4030, 1, 0x03, 1, 1, 2, false, false, 1⟩,
  ⟨0x4040, 1, 0x01, 1, 3, 5, false, false, 4⟩,
  ⟨0x4040, 1, 0x02, 1, 4, 2, false, false, 8⟩,
  ⟨0x4040, 1, 0x03, 1, 4, 2, false, false, 8⟩,
  ⟨0x4040, 1, 0x04, 1, 4, 2, false, false, 8⟩,
  ⟨0x4040, 1, 0x05, 1, 4, 1, false, false, 8⟩,
  ⟨0x4040, 1, 0x06, 1, 4, 1, false, false, 8⟩,
  ⟨0x4040, 1, 0x07, 1, 4, 1, false, false, 8⟩,
  ⟨0x4050, 1, 0x01, 1, 3, 5, false, false, 4⟩,
  ⟨0x4050, 1, 0x02, 1, 3, 5, false, false, 4⟩,
  ⟨0x4050, 1, 0x03, 1, 2, 5, false, false, 2⟩,
  ⟨0x4050, 1, 0x04, 1, 2, 5, false, false, 2⟩]

/-- Clocks, power and heat, continued. -/
def objsClk2 : List ObjRow := [
  ⟨0x4050, 1, 0x05, 1, 4, 1, false, false, 8⟩,
  ⟨0x4050, 1, 0x06, 1, 4, 1, false, false, 8⟩,
  ⟨0x4060, 8, 0x01, 1, 4, 1, false, false, 8⟩,
  ⟨0x4060, 8, 0x02, 1, 4, 1, false, false, 8⟩,
  ⟨0x4070, 1, 0x01, 1, 4, 1, false, false, 8⟩,
  ⟨0x4070, 1, 0x02, 1, 4, 1, false, false, 8⟩,
  ⟨0x4070, 1, 0x03, 1, 4, 1, false, false, 8⟩,
  ⟨0x4070, 1, 0x04, 1, 4, 1, false, false, 8⟩,
  ⟨0x4070, 1, 0x05, 1, 4, 1, false, false, 8⟩,
  ⟨0x4070, 1, 0x06, 1, 4, 1, false, false, 8⟩,
  ⟨0x4070, 1, 0x07, 1, 4, 1, false, false, 8⟩,
  ⟨0x4070, 1, 0x08, 1, 4, 1, false, false, 8⟩]

/-- Memory stacks and links (R216, R404, R405). -/
def objsMem0 : List ObjRow := [
  ⟨0x5000, 1, 0x01, 1, 2, 1, false, false, 2⟩,
  ⟨0x5000, 1, 0x02, 1, 1, 1, false, false, 1⟩,
  ⟨0x5000, 1, 0x03, 1, 1, 5, true, false, 1⟩,
  ⟨0x5000, 1, 0x04, 1, 4, 1, false, false, 8⟩,
  ⟨0x5100, 16, 0x01, 1, 1, 1, false, false, 1⟩,
  ⟨0x5100, 16, 0x02, 1, 1, 1, false, false, 1⟩,
  ⟨0x5100, 16, 0x03, 1, 6, 1, false, false, 2⟩,
  ⟨0x5100, 16, 0x04, 1, 2, 1, false, false, 2⟩,
  ⟨0x5100, 16, 0x05, 1, 2, 1, false, false, 2⟩,
  ⟨0x5100, 16, 0x06, 2, 4, 1, false, false, 8⟩,
  ⟨0x5100, 16, 0x08, 1, 2, 1, false, false, 2⟩,
  ⟨0x6000, 1, 0x01, 1, 2, 1, false, false, 2⟩,
  ⟨0x6000, 1, 0x02, 1, 2, 1, false, false, 2⟩,
  ⟨0x6000, 1, 0x03, 1, 3, 1, false, false, 4⟩,
  ⟨0x6000, 1, 0x04, 1, 4, 1, false, false, 8⟩,
  ⟨0x6000, 1, 0x05, 1, 4, 1, false, false, 8⟩,
  ⟨0x6000, 1, 0x06, 1, 1, 5, true, false, 1⟩,
  ⟨0x6010, 1, 0x01, 1, 2, 5, true, false, 2⟩,
  ⟨0x6010, 1, 0x02, 1, 2, 1, false, false, 2⟩,
  ⟨0x6010, 1, 0x03, 1, 1, 1, false, false, 1⟩,
  ⟨0x6010, 1, 0x04, 1, 2, 1, false, false, 2⟩,
  ⟨0x6020, 1, 0x00, 1, 12, 5, false, false, 4096⟩,
  ⟨0x6030, 1, 0x01, 1, 4, 1, false, false, 8⟩,
  ⟨0x6030, 1, 0x02, 1, 4, 1, false, false, 8⟩,
  ⟨0x6030, 1, 0x03, 1, 4, 1, false, false, 8⟩,
  ⟨0x6030, 1, 0x04, 1, 4, 1, false, false, 8⟩,
  ⟨0x6030, 1, 0x05, 1, 4, 1, false, false, 8⟩,
  ⟨0x6030, 1, 0x06, 1, 4, 1, false, false, 8⟩,
  ⟨0x6100, 36, 0x01, 1, 4, 1, false, false, 8⟩,
  ⟨0x6100, 36, 0x02, 1, 4, 1, false, false, 8⟩]

/-- Memory stacks and links, continued. -/
def objsMem1 : List ObjRow := [
  ⟨0x6100, 36, 0x03, 1, 3, 1, false, false, 4⟩,
  ⟨0x6100, 36, 0x10, 1, 4, 1, false, false, 8⟩,
  ⟨0x6100, 36, 0x11, 1, 4, 1, false, false, 8⟩,
  ⟨0x6100, 36, 0x12, 1, 4, 1, false, false, 8⟩,
  ⟨0x6100, 36, 0x13, 1, 4, 1, false, false, 8⟩,
  ⟨0x6100, 36, 0x14, 1, 4, 1, false, false, 8⟩,
  ⟨0x6300, 8, 0x01, 1, 3, 3, false, false, 4⟩,
  ⟨0x6300, 8, 0x02, 1, 12, 3, false, false, 128⟩,
  ⟨0x6300, 8, 0x03, 1, 4, 1, false, false, 8⟩]

/-- Jobs, update schedules, integrity and counters (R71, R106, R140, R166, R193, R216, R238, R239, R260, R261, R287). -/
def objsJob0 : List ObjRow := [
  ⟨0x7020, 1, 0x01, 1, 4, 1, false, false, 8⟩,
  ⟨0x7020, 1, 0x02, 1, 4, 1, false, false, 8⟩,
  ⟨0x7020, 1, 0x03, 1, 4, 1, false, false, 8⟩,
  ⟨0x7020, 1, 0x04, 1, 4, 1, false, false, 8⟩,
  ⟨0x7020, 1, 0x05, 1, 4, 1, false, false, 8⟩,
  ⟨0x7100, 8, 0x01, 1, 1, 2, false, false, 1⟩,
  ⟨0x7100, 8, 0x02, 1, 1, 1, false, false, 1⟩,
  ⟨0x7100, 8, 0x03, 1, 14, 1, false, false, 2⟩,
  ⟨0x7100, 8, 0x04, 1, 4, 3, false, false, 8⟩,
  ⟨0x7100, 8, 0x05, 1, 4, 3, false, false, 8⟩,
  ⟨0x7100, 8, 0x06, 1, 3, 3, false, false, 4⟩,
  ⟨0x7100, 8, 0x07, 1, 4, 3, false, false, 8⟩,
  ⟨0x7100, 8, 0x08, 1, 3, 3, false, false, 4⟩,
  ⟨0x7100, 8, 0x09, 1, 10, 3, false, false, 1⟩,
  ⟨0x7100, 8, 0x0A, 1, 4, 3, false, false, 8⟩,
  ⟨0x7100, 8, 0x0B, 1, 1, 2, false, true, 1⟩,
  ⟨0x7100, 8, 0x0C, 1, 4, 1, false, false, 8⟩,
  ⟨0x7100, 8, 0x0D, 1, 3, 1, false, false, 4⟩,
  ⟨0x7100, 8, 0x0E, 1, 4, 1, false, false, 8⟩,
  ⟨0x7100, 8, 0x0F, 1, 4, 1, false, false, 8⟩,
  ⟨0x7100, 8, 0x10, 1, 3, 1, false, false, 4⟩,
  ⟨0x7100, 8, 0x11, 1, 4, 1, false, false, 8⟩,
  ⟨0x7100, 8, 0x12, 1, 4, 1, false, false, 8⟩,
  ⟨0x7100, 8, 0x13, 1, 4, 1, false, false, 8⟩,
  ⟨0x7100, 8, 0x14, 8, 4, 1, false, false, 8⟩,
  ⟨0x7100, 8, 0x1C, 1, 13, 1, false, false, 8⟩,
  ⟨0x7100, 8, 0x1D, 1, 13, 1, false, false, 8⟩,
  ⟨0x7100, 8, 0x1E, 1, 12, 1, false, false, 32⟩,
  ⟨0x8000, 8, 0x01, 1, 4, 3, false, false, 8⟩,
  ⟨0x8000, 8, 0x02, 1, 2, 3, false, false, 2⟩]

/-- Jobs, update schedules, integrity and counters, continued. -/
def objsJob1 : List ObjRow := [
  ⟨0x8000, 8, 0x03, 1, 4, 1, false, false, 8⟩,
  ⟨0x8000, 8, 0x04, 1, 4, 1, false, false, 8⟩,
  ⟨0x8200, 128, 0x00, 256, 9, 3, false, true, 4⟩,
  ⟨0x8300, 128, 0x00, 256, 10, 3, false, true, 1⟩,
  ⟨0x9100, 1, 0x01, 1, 4, 1, false, false, 8⟩,
  ⟨0x9100, 1, 0x02, 1, 4, 1, false, false, 8⟩,
  ⟨0x9100, 1, 0x03, 1, 4, 1, false, false, 8⟩,
  ⟨0x9100, 1, 0x04, 1, 4, 1, false, false, 8⟩,
  ⟨0x9100, 1, 0x05, 1, 4, 1, false, false, 8⟩,
  ⟨0x9100, 1, 0x06, 1, 4, 1, false, false, 8⟩,
  ⟨0x9100, 1, 0x07, 1, 4, 1, false, false, 8⟩,
  ⟨0x9100, 1, 0x08, 1, 4, 1, false, false, 8⟩,
  ⟨0x9100, 1, 0x09, 1, 4, 1, false, false, 8⟩,
  ⟨0x9100, 1, 0x0A, 1, 4, 1, false, false, 8⟩,
  ⟨0x9110, 1, 0x01, 1, 4, 1, false, false, 8⟩,
  ⟨0x9110, 1, 0x02, 1, 4, 1, false, false, 8⟩,
  ⟨0x9110, 1, 0x03, 1, 4, 1, false, false, 8⟩,
  ⟨0x9110, 1, 0x04, 1, 4, 1, false, false, 8⟩,
  ⟨0x9120, 1, 0x01, 1, 4, 1, false, false, 8⟩,
  ⟨0x9120, 1, 0x02, 1, 4, 1, false, false, 8⟩,
  ⟨0x9120, 1, 0x03, 1, 4, 1, false, false, 8⟩,
  ⟨0x9120, 1, 0x04, 1, 4, 1, false, false, 8⟩,
  ⟨0x9130, 1, 0x01, 1, 4, 1, false, false, 8⟩,
  ⟨0x9130, 1, 0x02, 1, 4, 1, false, false, 8⟩,
  ⟨0x9130, 1, 0x03, 1, 4, 1, false, false, 8⟩,
  ⟨0x9130, 1, 0x04, 1, 4, 1, false, false, 8⟩,
  ⟨0x9130, 1, 0x05, 1, 4, 1, false, false, 8⟩,
  ⟨0x9130, 1, 0x06, 1, 4, 1, false, false, 8⟩,
  ⟨0x9140, 1, 0x01, 1, 4, 1, false, false, 8⟩,
  ⟨0x9140, 1, 0x02, 1, 4, 1, false, false, 8⟩]

/-- Jobs, update schedules, integrity and counters, continued. -/
def objsJob2 : List ObjRow := [
  ⟨0x9140, 1, 0x03, 1, 4, 1, false, false, 8⟩,
  ⟨0x9140, 1, 0x04, 1, 4, 1, false, false, 8⟩,
  ⟨0x9140, 1, 0x05, 1, 4, 1, false, false, 8⟩,
  ⟨0x9140, 1, 0x06, 1, 4, 1, false, false, 8⟩,
  ⟨0x9140, 1, 0x07, 1, 4, 1, false, false, 8⟩,
  ⟨0x9140, 1, 0x08, 1, 4, 1, false, false, 8⟩,
  ⟨0x9140, 1, 0x09, 1, 4, 1, false, false, 8⟩,
  ⟨0x9140, 1, 0x0A, 1, 4, 1, false, false, 8⟩,
  ⟨0x9140, 1, 0x0B, 1, 4, 1, false, false, 8⟩,
  ⟨0x9140, 1, 0x0C, 1, 4, 1, false, false, 8⟩,
  ⟨0x9140, 1, 0x0D, 1, 4, 1, false, false, 8⟩,
  ⟨0x9150, 1, 0x01, 1, 4, 1, false, false, 8⟩,
  ⟨0x9150, 1, 0x02, 1, 4, 1, false, false, 8⟩,
  ⟨0x9150, 1, 0x03, 1, 4, 1, false, false, 8⟩,
  ⟨0x9150, 1, 0x04, 1, 4, 1, false, false, 8⟩,
  ⟨0x9150, 1, 0x05, 1, 4, 1, false, false, 8⟩,
  ⟨0x9150, 1, 0x06, 1, 4, 1, false, false, 8⟩,
  ⟨0x9150, 1, 0x07, 1, 4, 1, false, false, 8⟩,
  ⟨0x9150, 1, 0x08, 1, 4, 1, false, false, 8⟩,
  ⟨0x9160, 1, 0x01, 1, 4, 1, false, false, 8⟩,
  ⟨0x9160, 1, 0x02, 1, 4, 1, false, false, 8⟩,
  ⟨0x9160, 1, 0x03, 1, 4, 1, false, false, 8⟩,
  ⟨0x9160, 1, 0x04, 1, 4, 1, false, false, 8⟩,
  ⟨0x9160, 1, 0x05, 1, 4, 1, false, false, 8⟩,
  ⟨0x9170, 1, 0x01, 1, 4, 1, false, false, 8⟩,
  ⟨0x9170, 1, 0x02, 1, 4, 1, false, false, 8⟩,
  ⟨0x9170, 1, 0x03, 1, 4, 1, false, false, 8⟩,
  ⟨0x9170, 1, 0x04, 1, 4, 1, false, false, 8⟩,
  ⟨0x9170, 1, 0x05, 1, 4, 1, false, false, 8⟩,
  ⟨0x9170, 1, 0x06, 1, 4, 1, false, false, 8⟩]

/-- Jobs, update schedules, integrity and counters, continued. -/
def objsJob3 : List ObjRow := [
  ⟨0x9170, 1, 0x07, 1, 4, 1, false, false, 8⟩,
  ⟨0x9170, 1, 0x08, 1, 4, 1, false, false, 8⟩,
  ⟨0x9170, 1, 0x09, 1, 4, 1, false, false, 8⟩,
  ⟨0x9170, 1, 0x0A, 1, 4, 1, false, false, 8⟩,
  ⟨0x9170, 1, 0x0B, 1, 4, 1, false, false, 8⟩,
  ⟨0x9180, 1, 0x01, 1, 3, 5, false, false, 4⟩,
  ⟨0x9180, 1, 0x02, 1, 1, 5, false, false, 1⟩,
  ⟨0x9180, 1, 0x03, 1, 1, 5, false, false, 1⟩,
  ⟨0x9180, 1, 0x04, 1, 4, 1, false, false, 8⟩,
  ⟨0x9180, 1, 0x05, 1, 12, 1, false, false, 65535⟩,
  ⟨0x9190, 1, 0x01, 1, 4, 2, false, false, 8⟩,
  ⟨0x9190, 1, 0x02, 1, 4, 1, false, false, 8⟩,
  ⟨0x9190, 1, 0x03, 1, 4, 1, false, false, 8⟩]

/-- The life record (R287, R345, R372). -/
def objsLife0 : List ObjRow := [
  ⟨0xA100, 1, 0x01, 1, 2, 1, true, false, 2⟩,
  ⟨0xA100, 1, 0x02, 1, 3, 1, true, false, 4⟩,
  ⟨0xA100, 1, 0x03, 1, 4, 1, true, false, 8⟩,
  ⟨0xA100, 1, 0x04, 1, 4, 1, false, false, 8⟩,
  ⟨0xA101, 1, 0x00, 1, 12, 1, true, false, 16384⟩,
  ⟨0xA110, 1, 0x01, 1, 4, 1, true, false, 8⟩,
  ⟨0xA110, 1, 0x02, 1, 3, 1, true, false, 4⟩,
  ⟨0xA110, 1, 0x03, 1, 4, 1, true, false, 8⟩,
  ⟨0xA110, 1, 0x04, 1, 3, 1, true, false, 4⟩,
  ⟨0xA110, 1, 0x05, 1, 3, 1, true, false, 4⟩,
  ⟨0xA110, 1, 0x06, 1, 3, 1, true, false, 4⟩,
  ⟨0xA111, 1, 0x01, 16, 3, 1, true, false, 4⟩,
  ⟨0xA112, 1, 0x01, 18, 3, 1, true, false, 4⟩,
  ⟨0xA120, 1, 0x01, 1, 1, 1, false, false, 1⟩,
  ⟨0xA120, 1, 0x02, 1, 1, 1, false, false, 1⟩,
  ⟨0xA120, 1, 0x03, 1, 1, 1, false, false, 1⟩,
  ⟨0xA120, 1, 0x04, 1, 14, 1, false, false, 2⟩,
  ⟨0xA120, 1, 0x05, 1, 3, 1, false, false, 4⟩,
  ⟨0xA120, 1, 0x06, 1, 3, 1, true, false, 4⟩,
  ⟨0xA120, 1, 0x07, 1, 3, 1, true, false, 4⟩,
  ⟨0xA120, 1, 0x08, 1, 1, 2, false, false, 1⟩,
  ⟨0xA120, 1, 0x09, 1, 4, 1, false, false, 8⟩,
  ⟨0xA120, 1, 0x0A, 1, 4, 1, false, false, 8⟩,
  ⟨0xA120, 1, 0x0B, 1, 3, 1, true, false, 4⟩,
  ⟨0xA120, 1, 0x0C, 1, 4, 1, false, false, 8⟩,
  ⟨0xA121, 1, 0x00, 1, 12, 1, true, false, 4096⟩,
  ⟨0xA122, 1, 0x00, 1, 12, 1, true, false, 4096⟩]

/-- Protection and debug (R474). -/
def objsProt0 : List ObjRow := [
  ⟨0xB000, 1, 0x01, 1, 12, 1, false, false, 256⟩,
  ⟨0xB000, 1, 0x02, 1, 2, 1, false, false, 2⟩,
  ⟨0xB000, 1, 0x03, 1, 1, 1, false, false, 1⟩,
  ⟨0xB000, 1, 0x04, 1, 1, 1, false, false, 1⟩,
  ⟨0xB000, 1, 0x05, 1, 1, 1, false, false, 1⟩,
  ⟨0xB000, 1, 0x06, 1, 3, 1, false, false, 4⟩,
  ⟨0xB000, 1, 0x07, 1, 1, 1, false, false, 1⟩,
  ⟨0xB010, 1, 0x01, 1, 1, 2, false, false, 1⟩,
  ⟨0xB010, 1, 0x02, 1, 1, 1, false, false, 1⟩,
  ⟨0xB010, 1, 0x03, 1, 14, 1, false, false, 2⟩,
  ⟨0xB010, 1, 0x04, 1, 12, 2, false, false, 65535⟩,
  ⟨0xB020, 1, 0x01, 1, 12, 1, false, false, 32⟩,
  ⟨0xB020, 1, 0x02, 1, 12, 1, true, false, 8192⟩,
  ⟨0xB020, 1, 0x03, 1, 12, 2, false, false, 32⟩,
  ⟨0xB020, 1, 0x04, 1, 12, 1, false, false, 624⟩,
  ⟨0xB030, 1, 0x01, 1, 12, 1, false, false, 16⟩,
  ⟨0xB030, 1, 0x02, 1, 12, 2, false, false, 128⟩,
  ⟨0xB040, 1, 0x01, 1, 4, 1, false, false, 8⟩,
  ⟨0xB040, 1, 0x02, 1, 4, 1, false, false, 8⟩,
  ⟨0xB040, 1, 0x03, 1, 4, 1, false, false, 8⟩,
  ⟨0xC000, 1, 0x01, 1, 1, 2, false, false, 1⟩,
  ⟨0xC000, 1, 0x02, 1, 12, 1, false, false, 32⟩,
  ⟨0xC000, 1, 0x03, 1, 12, 2, false, false, 72⟩,
  ⟨0xC000, 1, 0x04, 1, 1, 1, false, false, 1⟩,
  ⟨0xC000, 1, 0x05, 1, 1, 2, false, false, 1⟩,
  ⟨0xC010, 1, 0x00, 1, 12, 2, false, false, 4064⟩,
  ⟨0xC010, 1, 0x01, 1, 12, 1, false, false, 65535⟩,
  ⟨0xC020, 1, 0x01, 1, 1, 1, false, false, 1⟩,
  ⟨0xC020, 1, 0x02, 1, 4, 1, false, false, 8⟩,
  ⟨0xC020, 1, 0x03, 1, 4, 1, false, false, 8⟩]

/-- Protection and debug, continued. -/
def objsProt1 : List ObjRow := [
  ⟨0xC020, 1, 0x04, 1, 1, 1, false, false, 1⟩,
  ⟨0xC030, 1, 0x01, 1, 1, 3, false, false, 1⟩]

/-- Per-zone and per-tile arrays. -/
def objsArr0 : List ObjRow := [
  ⟨0xD000, 48, 0x01, 1, 4, 1, false, false, 8⟩,
  ⟨0xD000, 48, 0x02, 1, 4, 1, false, false, 8⟩,
  ⟨0xD000, 48, 0x03, 1, 4, 1, true, false, 8⟩,
  ⟨0xD000, 48, 0x04, 1, 1, 1, false, false, 1⟩,
  ⟨0xD000, 48, 0x05, 1, 1, 1, false, false, 1⟩,
  ⟨0xD0FF, 1, 0x00, 1, 12, 1, false, false, 1440⟩,
  ⟨0xD100, 1440, 0x01, 1, 2, 1, false, false, 2⟩,
  ⟨0xD100, 1440, 0x02, 4, 4, 1, false, false, 8⟩,
  ⟨0xD100, 1440, 0x06, 1, 4, 1, false, false, 8⟩,
  ⟨0xD100, 1440, 0x07, 1, 4, 1, false, false, 8⟩,
  ⟨0xD100, 1440, 0x08, 1, 4, 1, false, false, 8⟩,
  ⟨0xD100, 1440, 0x09, 1, 4, 1, false, false, 8⟩,
  ⟨0xD100, 1440, 0x0A, 1, 1, 1, false, false, 1⟩,
  ⟨0xD100, 1440, 0x0B, 1, 2, 1, false, false, 2⟩,
  ⟨0xD100, 1440, 0x10, 16, 3, 1, false, false, 4⟩,
  ⟨0xE000, 1440, 0x01, 10, 4, 1, false, false, 8⟩,
  ⟨0xE000, 1440, 0x11, 4, 4, 1, false, false, 8⟩,
  ⟨0xE000, 1440, 0x21, 4, 4, 1, false, false, 8⟩,
  ⟨0xE000, 1440, 0x31, 6, 4, 1, false, false, 8⟩,
  ⟨0xE000, 1440, 0x41, 13, 4, 1, false, false, 8⟩,
  ⟨0xE000, 1440, 0x61, 5, 4, 1, false, false, 8⟩,
  ⟨0xE000, 1440, 0x71, 3, 4, 1, false, false, 8⟩]

/-- Every object, rising by index and sub-index (R445). -/
def objTable : List ObjRow :=
  objsLo0 ++ objsLo1 ++ objsLo2 ++ objsLo3 ++ objsClk0 ++ objsClk1 ++ objsClk2 ++ objsMem0
    ++ objsMem1 ++ objsJob0 ++ objsJob1 ++ objsJob2 ++ objsJob3 ++ objsLife0 ++ objsProt0 ++ objsProt1 ++ objsArr0

/-- The row covers an index; for a tile array only while the grid has the tile (R449, R450). -/
def ObjRow.covers (r : ObjRow) (tiles i : Nat) : Bool :=
  decide (r.index ≤ i) && decide (i < r.index + (if r.units = 1440 then tiles else r.units))

/-- The row of an object with its unit, or the status of one that does not exist (R442). -/
def findObj (tiles i sub : Nat) : Nat × Option (ObjRow × Nat) :=
  match objTable.filter (fun r => r.covers tiles i) with
  | [] => (0x0101, none)
  | rs =>
    match rs.find? (fun r => decide (r.sub ≤ sub) && decide (sub < r.sub + r.subs)) with
    | some r => (0, some (r, i - r.index))
    | none => (0x0102, none)

def State.findObj (s : State) (i sub : Nat) : Nat × Option (ObjRow × Nat) :=
  Sys2Proof.Machine.findObj (48 * s.grid.logicalRows) i sub

/-- The class of a write (R437, R456): an object that does not exist is classed by its index. -/
def classOf (i sub : Nat) (known : Bool) : Nat :=
  let named := fun (subs : List Nat) => ! known || subs.contains sub
  if (0x7100 ≤ i ∧ i < 0x7108) ∨ (0x8000 ≤ i ∧ i < 0x9000) ∨ (0x6300 ≤ i ∧ i < 0x6308) ∨ i = 0x9180 then clsJobs
  else if i = 0x0122 then (if named [1, 2] then clsFirmware else clsConfig)
  else if i = 0xB010 then (if named [1, 4] then clsFirmware else clsConfig)
  else if i = 0xB020 then (if named [3] then clsProtect else clsConfig)
  else if i = 0xB030 then (if named [2] then clsProtect else clsConfig)
  else if i = 0xC000 then (if named [1, 3, 5] then clsProtect else clsConfig)
  else if i = 0xC010 then (if named [0] then clsDebug else clsConfig)
  else if i = 0xC020 then (if named [3] then clsDebug else clsConfig)
  else if i = 0xC030 then (if named [1] then clsDebug else clsConfig)
  else clsConfig

/-- The directory entry of a sub-index of a row (R445). -/
def ObjRow.entry (r : ObjRow) (sub : Nat) : List Byte :=
  leOfNat 2 r.index ++ [BitVec.ofNat 8 sub, BitVec.ofNat 8 r.type, BitVec.ofNat 8 r.access,
    BitVec.ofNat 8 ((if r.kept then 1 else 0) + (if r.fence then 2 else 0) + (if 1 < r.units then 4 else 0))] ++ leOfNat 2 r.max

/-- OBJECT_DIRECTORY (R445): the group objects, an array over their sub-indices as well, stand once. -/
def objDirectory : List Byte :=
  objTable.flatMap (fun r => if r.subs = 256 then r.entry r.sub else (upTo r.subs).flatMap (fun k => r.entry (r.sub + k)))

end Sys2Proof.Machine
end

