-- ==== Sys2Proof/Machine/Protect.lean ====
section
/-! DEFINITION. Management updates and recovery, attestation, the maintenance commands, and the unlock of debug (R453 to R467). -/

namespace Sys2Proof.Machine

def State.updProt (s : State) (f : ProtSt → ProtSt) : State := { s with prot := f s.prot }

/-! ## Key slots (R453, R459, R465) -/

/-- Roles of a key slot (R453). -/
def roleImage : Nat := 0
def roleMaint : Nat := 1
def roleDebug : Nat := 2

/-- The hash that a key slot holds. -/
def State.slotHash (s : State) (slot : Nat) : List Byte := s.fuses.keyHash[slot % 4]'(Nat.mod_lt _ (by decide))

/-- A slot is neither revoked nor empty and holds a role: check 2 of R459. -/
def State.slotUsable (s : State) (slot role : Nat) : Bool :=
  decide (slot < 4) && ! bitOf s.fuses.keyRevoked slot && ! (s.slotHash slot).all (fun x => x == 0) && bitOf s.fuses.keyRoles (4 * slot + role)

/-- Check 3 of R459 on the public key of a slot (log entry 37). -/
def State.slotKeyOk (s : State) (slot : Nat) : Bool := sha512 (Config.slotKey (s.slotHash slot)) == s.slotHash slot

/-! ## Updates of the management image (R460, R461) -/

/-- An image in device memory, as long as its header says. -/
def State.stagedImage (s : State) : List Byte :=
  let a := s.boot.stageAddr.toNat
  let hd := s.memBytes a 256
  hd ++ s.memBytes (a + 256) (min (imgField hd 16 8) 8388608)

/-- MGMT_UPDATE_CONTROL: verify an image and write it to the slot not in force, in recovery to slot 0 (R460, R461; the answer to a write whose
image fails: log entry 35). -/
def State.writeMgmtUpdate (v : Nat) : Writer := fun s =>
  if v ≠ 1 then (s, 0x0107)
  else if s.prot.mgmtUpdState = 1 ∨ s.prot.mgmtUpdState = 2 then (s, 0x0A05)
  else
    let img := if s.recovery then s.prot.recovery else s.stagedImage
    let r := s.verifyImage imgMgmt img
    if ! r.2 then (r.1.updProt (fun p => { p with mgmtUpdState := 4 }), 0)
    else
      let slot : Fin 2 := if s.recovery then 0 else if s.boot.mgmtSlot = 0 then 1 else 0
      (({ r.1 with life := { r.1.life with mgmtImages := r.1.life.mgmtImages.set slot img, lastBoot := slot.val } } : State).updProt
        (fun p => { p with mgmtUpdState := 3 }), 0)

/-- MGMT_UPDATE_CONTROL (R460, R461). -/
def execMgmtUpdateControl (car : Carrier) (v : Byte) (s : State) : Res :=
  mgmtWriteIn ⟨false, true⟩ car clsFirmware (State.writeMgmtUpdate v.toNat) s

/-- Largest RECOVERY_IMAGE (R474). -/
def recoveryMax : Nat := 8388608 + 256

/-- Bytes written at an offset of a value: the value grows, and a gap reads 0x00 (R436). -/
def overlay (old : List Byte) (offset : Nat) (bs : List Byte) : List Byte :=
  (old ++ List.replicate (offset - old.length) 0).take offset ++ bs ++ old.drop (offset + bs.length)

/-- RECOVERY_IMAGE, of the recovery set only (R461, R474). -/
def State.writeRecovery (offset : Nat) (data : List Byte) : Writer := fun s =>
  if ! s.recovery then (s, 0x0101)
  else if recoveryMax < offset + data.length then (s, 0x0104)
  else (s.updProt (fun p => { p with recovery := overlay p.recovery offset data }), 0)

/-- RECOVERY_IMAGE (R461). -/
def execRecoveryImage (car : Carrier) (offset : Nat) (data : List Byte) (s : State) : Res :=
  mgmtWriteIn ⟨false, true⟩ car clsFirmware (State.writeRecovery offset data) s

/-! ## Attestation over Pennos (R463) -/

/-- ATTEST_NONCE. -/
def State.writeAttestNonce (nonce : List Byte) : Writer := fun s =>
  if 32 < nonce.length then (s, 0x0104)
  else if nonce.length ≠ 32 then (s, 0x0107)
  else (s.updProt (fun p => { p with attestNonce := nonce }), 0)

/-- ATTEST_NONCE (R463). -/
def execAttestNonce (car : Carrier) (nonce : List Byte) (s : State) : Res := mgmtWrite car clsProtect (State.writeAttestNonce nonce) s

def pad64 (bs : List Byte) : List Byte := (bs ++ List.replicate 64 0).take 64

/-- The report as it is formed (R463). -/
def State.attestReport (s : State) : List Byte :=
  let nonce := (s.prot.attestNonce ++ List.replicate 32 0).take 32
  let body := nonce ++ leOfNat 8 s.fuses.serial ++ leOfNat 8 s.tally.now
    ++ [1, 2, 3, 4, 5, 6, 7, 8].flatMap (fun k => pad64 (s.measurement k))
  body ++ s.identitySign body

/-- ATTEST_REPORT (R463). -/
def execAttestReport (s : State) : Res := mgmtRead (fun s => (s, 0, s.attestReport)) s

/-! ## Maintenance commands (R464, R465) -/

/-- What a maintenance command does once it is accepted: the state and the status. -/
abbrev MaintOp := List Byte → Bool → State → State × Nat

/-- The programming of fuses ends well, or leaves some bits (R454, log entry 43): `good` and `partly` as the field then reads. -/
def State.blow (s : State) (blown : Bool) (good : State → State) (partly : Nat → State → State) : State × Nat :=
  if blown then (good s, 0) else ({ partly (Config.fusePartial s.draws) s with draws := s.draws + 1 }, 0x0B09)

/-- End every unlock (R467). -/
def State.lockDebug (s : State) : State :=
  let s1 := s.updProt (fun p => { p with dbgGranted := 0, challenge := none })
  { s1 with pwr := { s1.pwr with debugDom := s1.prot.dbgLevel != 0 } }

/-- MOP 0x01: the entry leaves the list, and the map at the next start. -/
def maintDefect : MaintOp := fun args _ s =>
  let n := leAt args 0 2
  if s.life.defects.length ≤ n ∨ zerosAt args 2 30 = false then (s, 0x0B08)
  else ({ s with life := { s.life with defects := s.life.defects.eraseIdx n } }, 0)

/-- MOP 0x02: overflow holds of a mask, of which one at least is set (log entry 39). The zones stay held until the next start. -/
def maintOverflow : MaintOp := fun args _ s =>
  let m := leAt args 0 6
  if s.life.overflowHeld &&& m = 0 ∨ zerosAt args 6 26 = false then (s, 0x0B08)
  else ({ s with life := { s.life with overflowHeld := s.life.overflowHeld ^^^ (s.life.overflowHeld &&& m) } }, 0)

/-- MOP 0x03: the entry of a stage, kind and unit. The actions of the start in progress stay as S2 fixed them. -/
def maintRetry : MaintOp := fun args _ s =>
  let named := fun (r : Retry) => r.stage == leAt args 0 1 && r.item == leAt args 1 1 && r.unit == leAt args 2 2
  if s.life.retry.any named = false ∨ zerosAt args 4 28 = false then (s, 0x0B08)
  else ({ s with life := { s.life with retry := s.life.retry.filter (fun r => ! named r) } }, 0)

/-- MOP 0x04: a frozen object. -/
def maintThaw : MaintOp := fun args _ s =>
  let k := ck (leAt args 0 2) (leAt args 2 1)
  if s.life.frozen.contains k = false ∨ zerosAt args 3 29 = false then (s, 0x0B08)
  else ({ s with life := { s.life with frozen := s.life.frozen.filter (fun f => f != k) } }, 0)

/-- MOP 0x05: the rollback counter. -/
def maintRollback : MaintOp := fun args blown s =>
  let v := leAt args 0 1
  let cur := s.fuses.rollback
  if v < cur ∨ 64 < v ∨ zerosAt args 1 31 = false then (s, 0x0B08)
  else if v = cur then (s, 0)
  else s.blow blown (fun s => { s with fuses := { s.fuses with rollback := v } })
    (fun p s => { s with fuses := { s.fuses with rollback := cur + p % (v - cur) } })

/-- MOP 0x06: another slot, which leaves a slot with the image role that is neither revoked nor empty. -/
def maintRevoke (signer : Nat) : MaintOp := fun args blown s =>
  let k := leAt args 0 1
  let left := [0, 1, 2, 3].any (fun q => q != k && s.slotUsable q roleImage)
  if 4 ≤ k ∨ k = signer ∨ left = false ∨ zerosAt args 1 31 = false then (s, 0x0B08)
  else if bitOf s.fuses.keyRevoked k = true then (s, 0)
  else s.blow blown (fun s => { s with fuses := { s.fuses with keyRevoked := s.fuses.keyRevoked ||| BitVec.ofNat 4 (2 ^ k) } }) (fun _ s => s)

/-- DEBUG_LOCK reads a value from now on (R457). -/
def State.setLock (s : State) (v : Nat) : State :=
  let s1 := { s with fuses := { s.fuses with debugLock := v } }
  s1.updProt (fun p => { p with dbgLevel := s1.openLevel })

/-- MOP 0x07: a level above the present one; its bits are blown beside those that are (log entry 38). -/
def maintLock : MaintOp := fun args blown s =>
  let v := leAt args 0 1
  let cur := s.fuses.debugLock
  if v ≤ cur ∨ 3 < v ∨ zerosAt args 1 31 = false then (s, 0x0B08)
  else s.blow blown (fun s => (s.setLock (cur ||| v)).lockDebug)
    (fun p s => s.setLock (if cur = 0 ∧ v = 3 then p % 3 else cur))

/-- A refusal of R465: its code, and the count. -/
def State.maintRefused (s : State) (code : Nat) : State × Nat :=
  ((s.updProt (fun p => { p with lastReject := code })).bump (ck 0xB040 3) 1, code)

/-- MAINT_NONCE takes a new value (R465). -/
def State.newMaintNonce (s : State) : State :=
  let r := s.random 16
  r.2.updProt (fun p => { p with maintNonce := r.1 })

/-- The operation of a command, by its MOP. -/
def maintOp (mop signer : Nat) : Option MaintOp :=
  match mop with
  | 1 => some maintDefect
  | 2 => some maintOverflow
  | 3 => some maintRetry
  | 4 => some maintThaw
  | 5 => some maintRollback
  | 6 => some (maintRevoke signer)
  | 7 => some maintLock
  | _ => none

/-- MAINT_COMMAND: the slot and its key, SERIAL and NONCE, the signature, and last the operation (R464, R465). -/
def State.writeMaint (cmd : List Byte) (blown : Bool) : Writer := fun s =>
  let slot := imgField cmd 1 1
  if 128 < cmd.length then (s, 0x0104)
  else if cmd.length ≠ 128 then (s, 0x0107)
  else if ! s.slotUsable slot roleMaint then s.maintRefused 0x0B02
  else if ! s.slotKeyOk slot then s.maintRefused 0x0B03
  else if imgField cmd 8 8 ≠ s.fuses.serial ∨ (cmd.drop 16).take 16 ≠ s.prot.maintNonce then s.maintRefused 0x0B07
  else
    let s1 := s.newMaintNonce
    if Config.ed25519Verify (Config.slotKey (s.slotHash slot)) (cmd.take 64) (cmd.drop 64) = false then s1.maintRefused 0x0B05
    else
      match maintOp (imgField cmd 0 1) slot with
      | none => s1.maintRefused 0x0B08
      | some f =>
        if zerosAt cmd 2 6 = false then s1.maintRefused 0x0B08
        else
          let r := f ((cmd.drop 32).take 32) blown s1
          if r.2 = 0x0B08 then s1.maintRefused 0x0B08 else r

/-- A maintenance command as a row of its own: a command of another operation is not this one. -/
def maintRow (mop : Nat) (car : Carrier) (cmd : List Byte) (blown : Bool) (s : State) : Res :=
  if imgField cmd 0 1 = mop then mgmtWrite car clsProtect (State.writeMaint cmd blown) s else .next s

/-- MAINT_REMOVE_DEFECT (R464). -/
def execMaintRemoveDefect (car : Carrier) (cmd : List Byte) (s : State) : Res := maintRow 1 car cmd true s
/-- MAINT_CLEAR_OVERFLOW (R464). -/
def execMaintClearOverflow (car : Carrier) (cmd : List Byte) (s : State) : Res := maintRow 2 car cmd true s
/-- MAINT_REMOVE_RETRY (R464). -/
def execMaintRemoveRetry (car : Carrier) (cmd : List Byte) (s : State) : Res := maintRow 3 car cmd true s
/-- MAINT_THAW (R464). -/
def execMaintThaw (car : Carrier) (cmd : List Byte) (s : State) : Res := maintRow 4 car cmd true s
/-- MAINT_ADVANCE_ROLLBACK (R464, R454). -/
def execMaintAdvanceRollback (car : Carrier) (cmd : List Byte) (blown : Bool) (s : State) : Res := maintRow 5 car cmd blown s
/-- MAINT_REVOKE_KEY (R464, R454). -/
def execMaintRevokeKey (car : Carrier) (cmd : List Byte) (blown : Bool) (s : State) : Res := maintRow 6 car cmd blown s
/-- MAINT_RAISE_DEBUG_LOCK (R464, R454, R457). -/
def execMaintRaiseDebugLock (car : Carrier) (cmd : List Byte) (blown : Bool) (s : State) : Res := maintRow 7 car cmd blown s

/-! ## The unlock of debug (R457, R467) -/

/-- DBG_REQUEST: 0x01 observe, 0x02 full. -/
def State.writeDbgRequest (v : Nat) : Writer := fun s =>
  if v = 1 ∨ v = 2 then (s.updProt (fun p => { p with dbgWanted := v }), 0) else (s, 0x0107)

/-- DBG_REQUEST (R467). -/
def execDbgRequest (car : Carrier) (v : Byte) (s : State) : Res := mgmtWrite car clsProtect (State.writeDbgRequest v.toNat) s

/-- A read of DBG_CHALLENGE issues a challenge: a nonce, SERIAL, the level and zeros. -/
def State.readChallenge (s : State) : State × Nat × List Byte :=
  if 8 ≤ s.prot.dbgFails then (s, 0x0C02, [])
  else
    let r := s.random 16
    let c := r.1 ++ leOfNat 8 s.fuses.serial ++ leOfNat 1 s.prot.dbgWanted ++ List.replicate 7 0
    (r.2.updProt (fun p => { p with challenge := some c, challengeAt := s.tally.now }), 0, c)

/-- DBG_CHALLENGE (R467). -/
def execDbgChallenge (s : State) : Res := mgmtRead State.readChallenge s

/-- 60 s (R467). -/
def unlockTk : Nat := 937500000

/-- The highest level that an unlock grants (R457). -/
def State.unlockCap (s : State) : Nat := match s.fuses.debugLock with | 1 => 2 | 2 => 1 | _ => 0

/-- DBG_RESPONSE: a valid one in time grants the level if R457 allows it; each challenge serves one (R467; the status of a response that
grants nothing: log entry 44). -/
def State.writeDbgResponse (resp : List Byte) (inTime : Bool) : Writer := fun s =>
  if 72 < resp.length then (s, 0x0104)
  else if resp.length ≠ 72 then (s, 0x0107)
  else
    let slot := imgField resp 0 1
    let s1 := s.updProt (fun p => { p with challenge := none })
    let c := s.prot.challenge.getD []
    let want := imgField c 24 1
    let valid := s.prot.challenge.isSome && inTime && s.slotUsable slot roleDebug && s.slotKeyOk slot && zerosAt resp 1 7
      && Config.ed25519Verify (Config.slotKey (s.slotHash slot)) c (resp.drop 8)
    if ! valid then
      ((s1.updProt (fun p => { p with dbgFails := p.dbgFails + 1 })).bump (ck 0xB040 2) 1, Config.unlockFailStatus % 65536)
    else if want = 0 ∨ s.unlockCap < want then (s1, Config.unlockFailStatus % 65536)
    else ({ s1.updProt (fun p => { p with dbgGranted := want }) with pwr := { s1.pwr with debugDom := true } }, 0)

/-- DBG_RESPONSE (R467): the command says whether it comes within 60 s. -/
def execDbgResponse (car : Carrier) (resp : List Byte) (inTime : Bool) (s : State) : Res :=
  mgmtWrite car clsProtect (State.writeDbgResponse resp inTime) s

/-- DBG_LOCK_NOW: any value ends the grant (R467). -/
def State.writeDbgLock : Writer := fun s => (s.lockDebug, 0)

/-- DBG_LOCK_NOW (R467). -/
def execDbgLockNow (car : Carrier) (s : State) : Res := mgmtWrite car clsProtect State.writeDbgLock s

end Sys2Proof.Machine
end

