-- ==== Sys2Proof/Machine/ReadOps.lean ====
section
/-! DEFINITION. The value of every object of the dictionary: of a fixed-size object as a number, of a STR or BLOB as bytes (R442 to R452 and
the object tables of every chapter). -/

namespace Sys2Proof.Machine

/-- An integer as a two's complement number of 64 bits. -/
def twosN (v : Int) : Nat := (v % (2 ^ 64 : Nat)).toNat

def boolN (b : Bool) : Nat := if b then 1 else 0

/-- Bits of a list of conditions, the first in bit 0. -/
def bitsOf (n : Nat) (f : Nat → Bool) : Nat := ((upTo n).filter f).foldl (fun m k => m + 2 ^ k) 0

/-! ## Units -/

def tkPerS : Nat := 15625000
def tkPerHour : Nat := 56250000000

/-- LINK_DIES_IN_SERVICE: fitted, and disabled neither by fuses or the retry table nor by the shadow map; from S8 (R37, R446). -/
def State.linkDiesIn (s : State) : Nat :=
  if s.boot.s8Done then bitsOf 18 (fun k => s.dieUsed k && decide ((s.grid.wavelengths k).length < 2)) else 0

/-- The zone is held for a test outside a job (R281). -/
def State.zoneTested (s : State) (z : Nat) : Bool := s.check.tests.any (fun q => q.unit == z && q.kind != 6 && q.running && q.job.isNone)

/-- FEATURES (R447). -/
def State.features (s : State) : Nat :=
  if ! s.usable then 0
  else boolN s.fuses.updateEngines + 2 + 4 * boolN (s.grid.rows != 0) + 8 * boolN (s.mem.present != 0) + 16 * boolN (s.linkDiesIn != 0)

/-- The stage in progress; the stage at which a start ended (R372). -/
def State.startStage (s : State) : Nat :=
  let b := s.boot
  if b.stage < 10 then b.stage
  else if b.outcome ≤ 1 then 9
  else ((upTo 10).filter (fun k => k != 8 && b.stageMs.getD k 0xFFFF != 0xFFFF)).foldl max 0

/-- CALENDAR_NOW (R313). -/
def State.calendarNow (s : State) : Nat :=
  if s.tally.origin = 0 ∨ s.tally.state = tsAbsent ∨ s.tally.state = tsFree then 0 else s.tally.origin + 64 * s.tally.now

/-- The clock status word of a zone (R315). A zone held for a test names that as its cause (DEDUCED, log entry 48). -/
def State.zoneClockWord (s : State) (z : Nat) : Nat :=
  let k := s.zoneClk z
  let c := s.zoneCeiling z
  let copy := match k.stretch with | some st => st.own.isNone | none => false
  c.1 % 65536 * 2 ^ 48 + (if s.zoneTested z then 4 else c.2) * 2 ^ 44 + min k.slips 255 * 2 ^ 32 + boolN k.lock * 2 ^ 31
    + boolN k.stretch.isSome * 2 ^ 30 + boolN copy * 2 ^ 29 + boolN s.clk.guard * 2 ^ 28 + min k.stretches (2 ^ 24 - 1)

/-- The power status word of a zone (R325). -/
def State.zonePowerWord (s : State) (z : Nat) : Nat :=
  let p := s.zonePwr z
  p.state * 2 ^ 60 + p.hold * 2 ^ 56 + p.parkCause * 2 ^ 52 + twosN p.temp % 65536 * 2 ^ 32 + p.current % 65536 * 2 ^ 16 + min p.seqWait 65535

/-- The life word of a zone (R345). -/
def State.zoneLifeWord (s : State) (z : Nat) : Nat :=
  let c := s.life.counts
  (c.zoneTk[zoneIx z] / tkPerHour) % 2 ^ 32 * 2 ^ 32 + (c.wearTk[zoneIx z] / tkPerHour) % 2 ^ 32

/-- Logical rows of a zone (R24, R449): zone z of a field takes its rows 0 to 7 or 8 to 15. -/
def State.zoneRows (s : State) (z : Nat) : Nat :=
  let lo := 8 * (z % 6 / 3)
  ((s.grid.usedRows (z / 6)).filter (fun r => decide (lo ≤ r) && decide (r < lo + 8))).length

/-! ## Fixed-size values, chapter by chapter; a counter is the default -/

def State.valIdent (s : State) (i sub : Nat) : Nat :=
  match i, sub with
  | 0x0100, 5 => s.fuses.serial
  | 0x0100, 6 => s.fuses.stepping
  | 0x0100, 7 => s.keptNat (ck 0x0100 7) (s.fuses.serial % 4096)
  | 0x0100, 8 => s.boot.deviceId
  | 0x0110, 1 => s.boot.mgmtVersion
  | 0x0110, 2 => s.boot.mgmtSlot
  | 0x0110, 3 => s.bootRomId
  | 0x0120, 1 => (match s.ecmetIn with | some f => f.version | none => 0)
  | 0x0120, 2 => (match s.ecmetIn with | some f => f.fnDigest | none => 0)
  | 0x0120, 3 => s.ecmetImage
  | 0x0122, 1 => s.boot.stageAddr.toNat
  | 0x0122, 3 => s.boot.updState
  | 0x0130, 1 => 0x0100
  | 0x1000, 1 => 0x0103
  | 0x1000, 2 => 0x0100
  | 0x1000, 3 => (s.host.sessions.filter (fun q => q.car != 3)).length
  | 0x1010, 1 => if s.host.linkUp then s.host.rate % 256 * 2 ^ 24 + s.host.width % 256 * 2 ^ 16 else 0
  | 0x1010, 2 => boolN (s.host.linkUp && decide (s.host.rate ≤ 8))
  | 0x1010, 3 => s.fuses.pcieIds
  | 0x1020, 1 => s.keptNat (ck 0x1020 1) (Config.ethMac s.fuses.serial % 2 ^ 48)
  | 0x1020, 4 => s.keptNat (ck 0x1020 4) 24
  | 0x1020, 8 => boolN s.host.ethUp
  | 0x1020, _ => s.keptNat (ck 0x1020 sub) 0
  | 0x1030, 1 => 0x60 + s.host.straps % 8
  | _, _ => s.counter (ck i sub)

def State.valConfig (s : State) (i sub : Nat) : Nat :=
  match i, sub with
  | 0x2000, 1 => s.features
  | 0x2000, 2 => boolN s.fuses.updateEngines
  | 0x2000, 3 => s.fuses.stacksFitted.toNat
  | 0x2000, 4 => s.fuses.linkDiesFitted.toNat
  | 0x2000, 5 => s.linkDiesIn
  | 0x2000, 6 => if s.boot.s8Done then s.portsAvailable else 0
  | 0x2000, 7 => boolN (s.grid.rows != 0)
  | 0x2000, 8 => if s.usable then s.zonesAvailable else 0
  | 0x2000, 9 => 8
  | 0x2000, 0x0A => s.boot.featGen
  | 0x2000, 0x0B => s.keptNat (ck 0x2000 0x0B) 2
  | 0x2000, 0x0C => s.host.straps % 128
  | 0x2000, 0x0D => s.host.strapSplits
  | 0x2100, 1 => s.fuses.grade
  | 0x2100, 2 => 96 * s.grid.rows
  | 0x2100, 3 => if s.grid.rows = 0 then 0 else 48
  | 0x2100, 4 => s.grid.logicalRows
  | 0x2100, 5 => s.grid.perField
  | 0x2110, 1 => s.grid.digest.toNat
  | 0x2110, 2 => (s.grid.entries.filter (fun w => smSource w == 0)).length
  | 0x2110, 3 => (s.grid.entries.filter (fun w => smSource w == 1)).length
  | 0x2110, 4 => 1024
  | 0x2110, 5 => s.life.rejects
  | 0x2120, _ => (s.grid.shadowed.toList.getD (sub - 1) 0).toNat * 65536 + (s.grid.used.toList.getD (sub - 1) 0).toNat
  | _, _ => s.counter (ck i sub)

def State.valClock (s : State) (i sub : Nat) : Nat :=
  match i, sub with
  | 0x3000, 1 => s.clk.freq
  | 0x3000, 2 => s.fuses.binMax
  | 0x3000, 3 => s.clk.request
  | 0x3000, 4 => s.clk.target
  | 0x3000, 5 => s.clk.limiter
  | 0x3000, 6 => s.clk.pending
  | 0x3000, 7 => s.clk.pendingTally
  | 0x3010, 1 => s.clk.refState
  | 0x3010, 2 => s.clk.refSpread
  | 0x3020, 1 => boolN s.clk.shimmerOn
  | 0x3020, 2 => s.clk.shimmerOffset
  | 0x3100, 1 => s.tally.now
  | 0x3100, 2 => s.tally.state
  | 0x3100, 3 => s.tally.selected
  | 0x3100, 4 => s.tally.inUse
  | 0x3100, 6 => twosN s.tally.offset
  | 0x3100, 7 => twosN s.tally.slewLeft
  | 0x3100, 9 => s.tally.holdoverTk
  | 0x3100, 0x0A => s.tally.losses
  | 0x3100, 0x0B => s.tally.glitches
  | 0x3110, 1 => s.tally.origin
  | 0x3110, 2 => s.calendarNow
  | _, _ => s.counter (ck i sub)

def State.valPower (s : State) (i u sub : Nat) : Nat :=
  match i, sub with
  | 0x4000, 1 => s.fuses.powerLimit
  | 0x4000, 2 => s.pwr.limitSet
  | 0x4000, 3 => if s.pwr.token.member then s.pwr.token.held else 0
  | 0x4000, 4 => s.limitInForce
  | 0x4000, 5 => s.pwr.pkgPower
  | 0x4000, 6 => s.pwr.pkgPeak
  | 0x4000, 7 => boolN s.pwr.unmet
  | 0x4000, 8 => s.pwr.deviceUj / 1000
  | 0x4000, 9 => s.pwr.unattrUj / 1000
  | 0x4000, 0x0A => s.pwr.vin12
  | 0x4010, _ => s.regState (sub - 1)
  | 0x4011, _ => s.pwr.regCause[regIx (sub - 1)]
  | 0x4012, _ => s.workingDies (sub - 1)
  | 0x4030, 1 => twosN s.pwr.dieTempMax
  | 0x4030, 2 => s.pwr.tripCoolS
  | 0x4040, 1 => s.pwr.idleParkMs
  | 0x4040, 5 => zonesMask (zonesIn s (fun st => st == zsParked))
  | 0x4040, 6 => zonesMask (zonesIn s (fun st => st == zsOff || st == zsFault))
  | 0x4040, 7 => zonesMask (allZones.filter s.regHeld)
  | 0x4050, 1 => s.pwr.token.pool
  | 0x4050, 2 => s.pwr.token.period
  | 0x4050, 3 => s.pwr.token.step
  | 0x4050, 4 => s.pwr.token.floor
  | 0x4060, 1 => (s.job (slotIx u)).energyUj / 1000
  | 0x4060, _ => (s.job (slotIx u)).energyFinal
  | _, _ => s.counter (ck i sub)

def State.valMemLink (s : State) (i u sub : Nat) : Nat :=
  match i, sub with
  | 0x5000, 1 => s.mem.present.toNat
  | 0x5000, 2 => s.presentList.length
  | 0x5000, 3 => s.life.granule
  | 0x5000, 4 => s.memCapacity
  | 0x5100, 1 => (s.stackSt u).state
  | 0x5100, 2 => (s.stackSt u).speed
  | 0x5100, 3 => twosN (s.stackSt u).temp
  | 0x5100, 4 => (s.stackCeiling u).getD 0
  | 0x5100, 5 => (s.stackSt u).refreshNs
  | 0x5100, 6 => (s.mem.engines.toList.getD (2 * u) EngSt.reset).fault
  | 0x5100, 7 => (s.mem.engines.toList.getD (2 * u + 1) EngSt.reset).fault
  | 0x5100, _ => (s.stackSt u).spareBlocks
  | 0x6000, 1 => 0x0201
  | 0x6000, 2 => 0x0100
  | 0x6000, 3 => 0x7F
  | 0x6000, 4 => bitsOf 36 (fun l => bitOf s.fuses.linkDiesFitted (l / 2))
  | 0x6000, 5 => bitsOf 36 (fun l => (s.linkSt l).state == lsUp)
  | 0x6000, _ => s.link.grouping
  | 0x6010, 1 => s.link.masterSet
  | 0x6010, 2 => s.link.master
  | 0x6010, 3 => s.link.state
  | 0x6010, _ => s.cascade.length
  | 0x6100, 1 => (linkStatus s u).toNat
  | 0x6100, 2 => (s.linkSt u).fault
  | 0x6100, 3 => (s.linkSt u).latencyNs
  | 0x6100, 0x10 => (s.linkSt u).crcFails
  | 0x6100, 0x11 => (s.linkSt u).replays
  | 0x6100, 0x12 => (s.linkSt u).fecSymbols
  | 0x6100, 0x13 => (s.linkSt u).downs
  | 0x6100, _ => (s.linkSt u).flitsSent
  | 0x6300, 1 => (s.job (slotIx u)).groupId
  | 0x6300, _ => (s.job (slotIx u)).waitTk
  | _, _ => s.counter (ck i sub)

def State.valJob (s : State) (i u sub : Nat) : Nat :=
  let b := s.job (slotIx u)
  match i, sub with
  | 0x7100, 2 => b.state
  | 0x7100, 3 => b.status
  | 0x7100, 4 => b.planAddr.toNat
  | 0x7100, 5 => b.evAddr.toNat
  | 0x7100, 6 => b.evLen
  | 0x7100, 7 => b.dgAddr.toNat
  | 0x7100, 8 => b.dgLen
  | 0x7100, 9 => boolN b.everyStep
  | 0x7100, 0x0A => b.target.toNat
  | 0x7100, 0x0C => b.steps
  | 0x7100, 0x0D => b.planFences
  | 0x7100, 0x0E => b.jobCy
  | 0x7100, 0x0F => b.extraCy
  | 0x7100, 0x10 => b.rerunSteps
  | 0x7100, 0x11 => b.rerunCy
  | 0x7100, 0x12 => b.keyEff
  | 0x7100, 0x13 => b.source
  | 0x7100, 0x1C => b.startTally
  | 0x7100, 0x1D => b.endTally
  | 0x7100, _ => (b.layer.toList.getD (sub - 0x14) 0).toNat
  | 0x8000, 1 => b.schedAddr.toNat
  | 0x8000, 2 => b.schedGroups
  | 0x8000, 3 => b.updBeads
  | 0x8000, _ => b.updFrozen
  | 0x8200, _ => SMap.get 0 (s.job (slotIx (u / 16))).etas (u % 16 * 256 + sub)
  | 0x8300, _ => SMap.get 0 (s.job (slotIx (u / 16))).frozen (u % 16 * 256 + sub)
  | _, _ => s.counter (ck i sub)

def State.valLife (s : State) (i sub : Nat) : Nat :=
  let c := s.life.counts
  match i, sub with
  | 0x9180, 1 => s.check.period
  | 0x9180, 2 => s.check.wcmpJob
  | 0x9180, 3 => s.check.wcmpSlot
  | 0x9180, 4 => s.check.wcmpLast
  | 0x9190, 2 => bitsOf 48 (fun z => s.check.tests.any (fun q => q.unit == z && q.kind != 6))
  | 0x9190, 3 => s.check.last
  | 0xA100, 1 => s.life.defects.length
  | 0xA100, 2 => s.life.overflows
  | 0xA100, 3 => s.life.overflowHeld
  | 0xA100, 4 => s.check.faultHeld
  | 0xA110, 1 => c.poweredTk / tkPerS
  | 0xA110, 2 => c.thermalCycles
  | 0xA110, 3 => c.energyUj / 10 ^ 9
  | 0xA110, 4 => c.trips
  | 0xA110, 5 => c.regFailures
  | 0xA110, 6 => c.powerFaults
  | 0xA111, _ => c.stackTk.toList.getD (sub - 1) 0 / tkPerHour
  | 0xA112, _ => c.laserTk.toList.getD (sub - 1) 0 / tkPerHour
  | 0xA120, 1 => s.startStage
  | 0xA120, 2 => s.boot.kind
  | 0xA120, 3 => s.boot.outcome
  | 0xA120, 4 => s.boot.status
  | 0xA120, 5 => if s.boot.stage < 10 then s.sinceT0 else s.boot.elapsedMs
  | 0xA120, 6 => s.life.startNo
  | 0xA120, 7 => s.life.cleanStarts
  | 0xA120, 0x0B => s.life.mgmtResets
  | _, _ => s.counter (ck i sub)

def State.valProt (s : State) (i sub : Nat) : Nat :=
  match i, sub with
  | 0xB000, 2 => s.fuses.keyRoles.toNat
  | 0xB000, 3 => s.fuses.keyRevoked.toNat
  | 0xB000, 4 => s.fuses.rollback
  | 0xB000, 5 => s.fuses.debugLock
  | 0xB000, 6 => s.policyWord
  | 0xB000, 7 => s.prot.fuseCopy
  | 0xB010, 2 => s.prot.mgmtUpdState
  | 0xB010, 3 => s.prot.lastReject
  | 0xC000, 4 => s.level
  | 0xC020, 1 => bitsOf 8 (fun j => s.prot.haltAt[slotIx j].isSome)
  | 0xC020, 2 => s.prot.dbgHalt.toNat
  | 0xC020, 3 => s.prot.dbgHit.toNat
  | 0xC020, 4 => s.prot.modified.toNat
  | 0xC030, 1 => s.prot.traceCtrl
  | _, _ => s.counter (ck i sub)

/-- Objects of a zone (R449). -/
def State.valZone (s : State) (z sub : Nat) : Nat :=
  match sub with
  | 1 => s.zoneClockWord z
  | 2 => s.zonePowerWord z
  | 3 => s.zoneLifeWord z
  | 4 => (match s.zoneOwner z with | some j => j.val | none => if s.zoneTested z then 0xFE else 0xFF)
  | _ => s.zoneRows z

/-- Record objects of a tile, as its service agent answers them (R433, R450). -/
def State.valTile (s : State) (t sub : Nat) : Nat :=
  let tile := s.tile t
  match sub with
  | 1 => s.grid.phys t
  | 2 => tile.cores[0].etrap
  | 3 => tile.cores[1].etrap
  | 4 => tile.cores[2].etrap
  | 5 => tile.cores[3].etrap
  | 6 => tile.frame.ftrap
  | 7 => tile.spDetect
  | 8 => tile.router.fault
  | 9 => tile.integ
  | 0x0A => if tile.job.isSome then tile.tsk.task else 0xFF
  | 0x0B => bitsOf 16 (fun b => (tile.residOf b).resident)
  | _ => if (tile.residOf (sub - 0x10)).resident then (tile.residOf (sub - 0x10)).tag.toNat else 0

/-- Per-tile counters (R451). -/
def State.valTileCtr (s : State) (t sub : Nat) : Nat :=
  let i := if sub / 16 = 7 then 0x9170 else 0x9100 + 16 * (sub / 16)
  SMap.get 0 s.tctr (ck i (sub % 16) * 2048 + t)

/-- The value of a fixed-size object: index of unit 0, unit, sub-index. -/
def State.objNat (s : State) (i u sub : Nat) : Nat :=
  match i / 4096 with
  | 0 | 1 => s.valIdent i sub
  | 2 => s.valConfig i sub
  | 3 => s.valClock i sub
  | 4 => s.valPower i u sub
  | 5 | 6 => s.valMemLink i u sub
  | 7 | 8 => s.valJob i u sub
  | 9 | 0xA => s.valLife i sub
  | 0xB | 0xC => s.valProt i sub
  | 0xD => if i = 0xD000 then s.valZone u sub else s.valTile u sub
  | _ => s.valTileCtr u sub

/-! ## STR and BLOB values -/

/-- Tiles as x then y (R229, R363). -/
def tileBytes (ts : List Nat) : List Byte := ts.flatMap (fun t => [BitVec.ofNat 8 (t % 48), BitVec.ofNat 8 (t / 48)])

def u16Bytes (vs : List Nat) : List Byte := vs.flatMap (leOfNat 2)

/-- An entry of FIELD_DEFECT_LIST (R277). -/
def Defect.bytes (d : Defect) : List Byte :=
  leOfNat 4 d.entry.toNat ++ leOfNat 8 d.tally ++ [BitVec.ofNat 8 d.origin, BitVec.ofNat 8 d.slot, BitVec.ofNat 8 d.cause, 0]

/-- An entry of RETRY_TABLE (R365). -/
def Retry.bytes (r : Retry) : List Byte :=
  [BitVec.ofNat 8 r.stage, BitVec.ofNat 8 r.item] ++ leOfNat 2 r.unit
    ++ [BitVec.ofNat 8 r.action, BitVec.ofNat 8 r.cleanSeen, BitVec.ofNat 8 r.cleanReq, BitVec.ofNat 8 r.cause] ++ leOfNat 8 r.tally

/-- An entry of START_LOG (R367). -/
def StartLog.bytes (l : StartLog) : List Byte :=
  leOfNat 4 l.startNo ++ [BitVec.ofNat 8 l.kind, BitVec.ofNat 8 l.outcome, BitVec.ofNat 8 l.failed, BitVec.ofNat 8 l.passes]
    ++ leOfNat 8 l.t0 ++ (upTo 10).flatMap (fun k => leOfNat 2 (l.stageMs.getD k 0xFFFF)) ++ leOfNat 2 l.grade ++ leOfNat 2 l.stackMask
    ++ leOfNat 3 l.linkDies ++ leOfNat 6 l.zonesOn ++ List.replicate 15 0

/-- ROUTE_TABLE: byte d is the port for device d, or 0xFF (R404). -/
def State.routeByte (s : State) (d : Nat) : Byte :=
  match SMap.get 0 s.link.routes d with
  | 0 => (match s.route d with | some p => BitVec.ofNat 8 p | none => 0xFF)
  | n + 1 => BitVec.ofNat 8 n

/-- A byte of TILE_FLAGS (R452). -/
def State.tileFlags (s : State) (t : Nat) : Byte :=
  let tile := s.tile t
  let trap := tile.cores.toList.any (fun k => k.etrap != 0) || tile.frame.ftrap != 0
  BitVec.ofNat 8 (boolN trap + 2 * boolN (tile.spDetect != 0) + 4 * boolN (tile.router.fault != 0) + 8 * boolN (tile.integ != 0)
    + 16 * boolN (tile.resid.toList.any (fun r => r.resident)))

/-- A kept STR or BLOB value, or its default. -/
def State.keptBytes (s : State) (key : Nat) (dflt : List Byte) : List Byte :=
  match s.life.kept.find? (fun v => v.1 == key) with | some v => v.2 | none => dflt

/-- The value of a STR or BLOB object. A WO object has none that is read. -/
def State.objBytes (s : State) (i u sub : Nat) : List Byte :=
  match i, sub with
  | 0x0100, 1 => ascii "Vaist"
  | 0x0100, 2 => ascii "Nimixo"
  | 0x0100, 3 => ascii "Xivis"
  | 0x0100, 4 => s.fuses.ordering.take 16
  | 0x0100, 9 => s.keptBytes (ck 0x0100 9) []
  | 0x0122, 4 => tileBytes (s.boot.laggards.take 16)
  | 0x0130, 2 => objDirectory
  | 0x1020, 6 => s.keptBytes (ck 0x1020 6) (List.replicate 16 0)
  | 0x2111, 0 => s.grid.enc
  | 0x2130, 0 => s.grid.distTable s.mem.present.toNat s.linkDiesIn s.link.grouping
  | 0x6020, 0 => (upTo 4096).map s.routeByte
  | 0x6300, 2 => u16Bytes (s.job (slotIx u)).members
  | 0x7100, 0x1E => tileBytes ((s.job (slotIx u)).laggards.take 16)
  | 0x9180, 5 => u16Bytes s.check.wcmpOdd
  | 0xA101, 0 => s.life.defects.flatMap Defect.bytes
  | 0xA121, 0 => s.life.log.flatMap StartLog.bytes
  | 0xA122, 0 => s.life.retry.flatMap Retry.bytes
  | 0xB000, 1 => s.keyHashes
  | 0xB020, 1 => s.identityPub
  | 0xB020, 2 => s.life.certChain
  | 0xB020, 4 => s.attestReport
  | 0xB030, 1 => s.prot.maintNonce
  | 0xC010, 1 => s.prot.dbgReply
  | 0xD0FF, 0 => s.allTiles.map s.tileFlags
  | _, _ => []

/-! ## Reads -/

/-- Reading a link fault record clears it (R395, R404). -/
def State.clearLinkFault (s : State) (l : Nat) : State := s.updLink l (fun k => { k with fault := 0 })

/-- The value that a read of an object returns, with its effect: LINK_FAULT clears, DBG_CHALLENGE issues a challenge. -/
def State.readObj (s : State) (r : ObjRow) (u sub : Nat) : State × Nat × List Byte :=
  if r.index = 0xC000 ∧ sub = 2 then s.readChallenge
  else if varType r.type then (s, 0, s.objBytes r.index u sub)
  else
    let v := s.objNat r.index u sub
    (if r.index = 0x6100 ∧ sub = 2 then s.clearLinkFault u else s, 0, leOfNat (typeSize r.type) (v % 256 ^ typeSize r.type))

/-- LINK_FAULT_READ (R395, R404): reading the record clears it. -/
def execLinkFaultRead (l : LinkIx) (s : State) : Res :=
  mgmtRead (fun s => (s.clearLinkFault l.val, 0, leOfNat 8 (s.linkSt l.val).fault)) s

end Sys2Proof.Machine
end

