-- ==== Sys2Proof/Machine/WriteOps.lean ====
section
/-! DEFINITION. Writes of the dictionary: the value checks and effects of every object that is written (R435 to R439 and the owning rules),
and reads and writes of an object under all their checks (R370, R371, R431, R436 to R442, R461). -/

namespace Sys2Proof.Machine

/-! ## Kept values -/

/-- Keep a value in the life record (R440). -/
def State.keep (s : State) (key : Nat) (bs : List Byte) : State := { s with life := { s.life with kept := SMap.ins key bs s.life.kept } }

/-- A kept number under a range check. -/
def keepNat (ok : Bool) (key size v : Nat) : Writer := fun s => if ok then (s.keep key (leOfNat size v), 0) else (s, 0x0107)

/-- An address, mode or VLAN object of the Ethernet port: it applies 1 s later (R422). -/
def ethWrite (ok : Bool) (key : Nat) (bs : List Byte) : Writer := fun s =>
  if ok then ((s.keep key bs).updHost (fun h => { h with ethDue := true }), 0) else (s, 0x0107)

/-! ## Clocks and power -/

/-- FREQ_REQUEST (R298, R314). -/
def State.writeFreqRequest (v : Nat) : Writer := fun s =>
  if v < 1200 ∨ s.fuses.binMax < v ∨ v % 100 ≠ 0 then refuse (ck 0x3030 7) 0x0301 s
  else ((s.updClk (fun c => { c with request := v })).retarget, 0)

/-- TALLY_SOURCE (R307): a source in use that the selection leaves out is lost. -/
def State.writeTallySource (v : Nat) : Writer := fun s =>
  if 2 < v then (s, 0x0107)
  else
    let s1 := s.updTally (fun t => { t with selected := v })
    (if v ≠ 0 ∧ s.tally.inUse ≠ 0 ∧ s.tally.inUse ≠ v then s1.sourceLost else s1, 0)

/-- A value of the power system within a range (R346). -/
def State.writePower (lo hi v : Nat) (f : PwrSt → PwrSt) : Writer := fun s =>
  if v < lo ∨ hi < v then refuse (ck 0x4070 8) 0x0401 s else (s.updPwr f, 0)

def State.writeLimitSet (v : Nat) : Writer := fun s => State.writePower 1000 s.fuses.powerLimit v (fun p => { p with limitSet := v }) s
def State.writeTripCool (v : Nat) : Writer := State.writePower 10 600 v (fun p => { p with tripCoolS := v })
def State.writeIdlePark (v : Nat) : Writer := fun s => (s.updPwr (fun p => { p with idleParkMs := v }), 0)
def State.writeTokenPeriod (v : Nat) : Writer := State.writePower (2 ^ 16) (2 ^ 28) v (fun p => { p with token := { p.token with period := v } })
def State.writeTokenStep (v : Nat) : Writer := State.writePower 10 500 v (fun p => { p with token := { p.token with step := v } })
def State.writeTokenFloor (v : Nat) : Writer := fun s =>
  State.writePower 1000 s.fuses.powerLimit v (fun p => { p with token := { p.token with floor := v } }) s

/-! ## Memory, links and jobs -/

/-- MEM_GRANULE: in force at the next job start (R198). -/
def State.writeGranule (v : Nat) : Writer := fun s => if 2 < v then (s, 0x0107) else ({ s with life := { s.life with granule := v } }, 0)

/-- PORT_GROUPING (R384). -/
def State.writeGrouping (v : Nat) : Writer := fun s =>
  if v = 6 ∨ v = 12 then ({ s with link := { s.link with grouping := v, groupingNext := v } }, 0) else (s, 0x0107)

/-- MASTER_SET (R396). -/
def State.writeMasterSet (v : Nat) : Writer := fun s =>
  if v = 0xFFFF ∨ v < 4096 then ({ s with link := { s.link with masterSet := v } }, 0) else (s, 0x0107)

/-- ROUTE_TABLE (R404): 4,096 ports, or 0xFF. -/
def State.writeRoutes (bs : List Byte) : Writer := fun s =>
  if bs.length ≠ 4096 ∨ bs.any (fun b => decide (12 ≤ b.toNat) && b != 0xFF) = true then (s, 0x0107)
  else ({ s with link := { s.link with routes := (List.zip (upTo 4096) bs).map (fun p => (p.1, p.2.toNat + 1)) } }, 0)

/-- A field of a slot that is written in some states only (R238, R260, R404). -/
def State.writeSlot (j : SlotIx) (ok : Job → Bool) (f : Job → Job) : Writer := fun s =>
  if ok (s.job j) then (s.updJob j f, 0) else (s, 0x0107)

/-- EMPTY or ENDED; EMPTY, LOADED or ENDED. -/
def Job.idle (b : Job) : Bool := b.state == jsEmpty || b.state == jsEnded
def Job.open_ (b : Job) : Bool := b.idle || b.state == jsLoaded

/-- GROUP_MEMBERS (R397, R404): identities below 4,096, at most 64. -/
def State.writeMembers (j : SlotIx) (bs : List Byte) : Writer := fun s =>
  let ids := wordsOf 2 bs (bs.length / 2)
  if bs.length % 2 = 1 ∨ ids.any (fun d => decide (4096 ≤ d)) = true then (s, 0x0107)
  else State.writeSlot j Job.open_ (fun b => { b with members := ids }) s

/-- JOB_CONTROL (R238). -/
def State.writeJobControl (j : SlotIx) (v : Nat) : Writer :=
  match v with
  | 1 => State.loadJob j
  | 2 => State.startJob j false
  | 3 => State.stopJob j
  | 4 => State.killJob j
  | 5 => featWriter (State.clearJob j [] [] [])
  | 6 => State.startJob j true
  | _ => fun s => (s, 0x0107)

/-- Objects of a job slot (R238). -/
def State.writeJobObj (j : SlotIx) (sub v : Nat) : Writer :=
  match sub with
  | 1 => State.writeJobControl j v
  | 4 => State.writeSlot j Job.idle (fun b => { b with planAddr := BitVec.ofNat 64 v })
  | 5 => State.writeSlot j Job.open_ (fun b => { b with evAddr := BitVec.ofNat 64 v })
  | 6 => State.writeSlot j (fun b => b.open_ && v % 32 == 0) (fun b => { b with evLen := v })
  | 7 => State.writeSlot j Job.open_ (fun b => { b with dgAddr := BitVec.ofNat 64 v })
  | 8 => State.writeSlot j (fun b => b.open_ && v % 80 == 0) (fun b => { b with dgLen := v })
  | 9 => State.writeSlot j (fun _ => true) (fun b => { b with everyStep := v == 1 })
  | 0x0A => State.writeSlot j (fun _ => true) (fun b => { b with target := BitVec.ofNat 64 v })
  | _ => State.writeSnapshot j v

/-- SELFTEST_REQUEST (R279, R281, R286). -/
def State.writeSelftest (v : Nat) : Writer :=
  let kind := fieldN v 48 4
  let mask := v % 2 ^ 48
  if 2 ^ 52 ≤ v ∨ kind = 0 ∨ 6 < kind ∨ (kind = 6 ∧ 65536 ≤ mask) then fun s => (s, 0x0107)
  else State.requestTests kind mask (if kind = 6 then 16 else 48)

/-- WCMP_PERIOD, WCMP_JOB and WCMP_SLOT (R283). -/
def State.writeWcmp (sub v : Nat) : Writer := fun s =>
  let put := fun (f : CheckSt → CheckSt) => ({ s with check := f s.check }, 0)
  if sub = 1 then put (fun c => { c with period := v })
  else if 7 < v then (s, 0x0107)
  else if sub = 2 then put (fun c => { c with wcmpJob := v })
  else put (fun c => { c with wcmpSlot := v })

/-- TRACE_CTRL (R473). -/
def State.writeTraceCtrl (v : Nat) : Writer := fun s => if 1 < v then (s, 0x0107) else (s.updProt (fun p => { p with traceCtrl := v }), 0)

/-- A write of a fixed-size object that exists, whose right allows it and whose LEN and BOOL value fit. -/
def State.writeValue (i u sub v : Nat) : Writer :=
  match i, sub with
  | 0x0100, _ => keepNat (decide (v < 4096)) (ck 0x0100 7) 2 v
  | 0x0122, 1 => fun s => if v % 64 = 0 then (s.updBoot (fun b => { b with stageAddr := BitVec.ofNat 64 v }), 0) else (s, 0x0107)
  | 0x0122, _ => State.writeFwUpdate v
  | 0x1020, 1 => ethWrite (decide (v < 2 ^ 48)) (ck 0x1020 1) (leOfNat 8 v)
  | 0x1020, 2 => ethWrite (decide (v ≤ 1)) (ck 0x1020 2) (leOfNat 1 v)
  | 0x1020, 3 => ethWrite true (ck 0x1020 3) (leOfNat 4 v)
  | 0x1020, 4 => ethWrite (decide (8 ≤ v) && decide (v ≤ 30)) (ck 0x1020 4) (leOfNat 1 v)
  | 0x1020, 5 => ethWrite true (ck 0x1020 5) (leOfNat 4 v)
  | 0x1020, _ => ethWrite (decide (v < 4096)) (ck 0x1020 7) (leOfNat 2 v)
  | 0x2000, _ => keepNat (v == 1 || v == 2 || v == 4 || v == 8) (ck 0x2000 0x0B) 1 v
  | 0x3000, _ => State.writeFreqRequest v
  | 0x3020, 1 => State.writeShimmer v
  | 0x3020, _ => State.writeShimmerOffset v
  | 0x3100, 3 => State.writeTallySource v
  | 0x3100, 5 => State.writeEpoch v
  | 0x3100, _ => State.writeResync
  | 0x3110, _ => State.writeOrigin v
  | 0x4000, _ => State.writeLimitSet v
  | 0x4030, 2 => State.writeTripCool v
  | 0x4030, _ => State.writeTripRestart
  | 0x4040, 1 => State.writeIdlePark v
  | 0x4040, 2 => State.writePark false v
  | 0x4040, 3 => featWriter (State.writePark true v)
  | 0x4040, _ => State.writeUnpark v
  | 0x4050, 1 => State.writePool v
  | 0x4050, 2 => State.writeTokenPeriod v
  | 0x4050, 3 => State.writeTokenStep v
  | 0x4050, _ => State.writeTokenFloor v
  | 0x5000, _ => State.writeGranule v
  | 0x6000, _ => featWriter (State.writeGrouping v)
  | 0x6010, _ => State.writeMasterSet v
  | 0x6300, _ => State.writeSlot (slotIx u) Job.open_ (fun b => { b with groupId := v })
  | 0x7100, _ => State.writeJobObj (slotIx u) sub v
  | 0x8000, 1 => State.writeSlot (slotIx u) Job.open_ (fun b => { b with schedAddr := BitVec.ofNat 64 v })
  | 0x8000, _ => State.writeSlot (slotIx u) (fun b => b.open_ && decide (v ≤ 4096)) (fun b => { b with schedGroups := v })
  | 0x8200, _ => State.writeEta (slotIx (u / 16)) (u % 16 * 256 + sub) v
  | 0x8300, _ => State.writeFrozen (slotIx (u / 16)) (u % 16 * 256 + sub) v
  | 0x9180, _ => State.writeWcmp sub v
  | 0x9190, _ => State.writeSelftest v
  | 0xA120, _ => State.writeWarmRestart
  | 0xB010, _ => State.writeMgmtUpdate v
  | 0xC000, 1 => State.writeDbgRequest v
  | 0xC000, _ => State.writeDbgLock
  | _, _ => State.writeTraceCtrl v

/-! ## DBG_COMMAND (R472) -/

/-- The state that a debug command leaves. -/
def resState (s : State) (r : Res) : State := match r with | .next t => t | _ => s

/-- How far ahead a cycle of a step lies, in whole ms at the frequency in force; the steps between are taken as long as the running one. -/
def State.aheadMs (s : State) (j : SlotIx) (steps cyc : Nat) : Nat :=
  ((steps - (s.job j).steps) * (s.job j).len + cyc - s.rootCycle j) / (s.clk.freq * 1000)

/-- A command by its DCMD; the data that follow the 32 bytes are those of a write. Reserved values are answered 0x0C05. -/
def State.debugCommand (s : State) (c : List Byte) : State :=
  let bad := s.dbgCommand 0 (fun s => s.dbgReplies 0x0C05 [])
  let short := s.dbgCommand 2 (fun s => s.dbgReplies 0x0C05 [])
  let f := fun off n => imgField c off n
  let a := f 8 8
  let b := f 16 8
  let cc := f 24 8
  let data := c.drop 32
  if 8 ≤ f 1 1 ∨ f 3 1 ≠ 0 then bad
  else
    let j := slotIx (f 1 1)
    let all := f 2 1 == 1
    let job := fun (g : SlotIx → Bool → Res) => if 1 < f 2 1 then bad else resState s (g j all)
    let core := fun (g : CoreAt → Res) =>
      if h : f 4 2 < 1440 then (if h2 : f 6 1 < 4 then resState s (g ⟨⟨f 4 2, h⟩, ⟨f 6 1, h2⟩⟩) else bad) else bad
    let tile := fun (g : TileIx → Res) => if h : f 4 2 < 1440 then resState s (g ⟨f 4 2, h⟩) else bad
    let cls : Fin 4 := ⟨a % 4, Nat.mod_lt _ (by decide)⟩
    let num : BitVec 12 := BitVec.ofNat 12 (a / 16)
    match f 0 1 with
    | 0x01 => job (fun j all => execHaltAt j all a (b % 2 ^ 32) (s.aheadMs j a (b % 2 ^ 32)) s)
    | 0x02 => job (fun j all => execHaltNow j all s)
    | 0x03 => job (fun j all => execResume j all s)
    | 0x04 => job (fun j all => execStepCy j all a s)
    | 0x05 => core (fun i => execStepInsn j i s)
    | 0x06 => core (fun i => if h : f 7 1 < 4 then execBpSet i ⟨f 7 1, h⟩ (BitVec.ofNat 16 a) (a.testBit 16) s else .next bad)
    | 0x07 => tile (fun t =>
        if h : f 7 1 < 2 then execWpSet t ⟨f 7 1, h⟩ a b (BitVec.ofNat 2 cc) (BitVec.ofNat 5 (cc / 4)) (cc.testBit 7) s else .next bad)
    | 0x08 => core (fun i => execReadCore j i cls num s)
    | 0x09 => core (fun i => execWriteCore j i cls num (BitVec.ofNat 512 (natOfLE ((c.drop 16).take 16 ++ data))) s)
    | 0x0A => tile (fun t => execReadSp j t a b s)
    | 0x0B => if data.length < b then short else tile (fun t => execWriteSp j t a (data.take b) s)
    | 0x0C => resState s (execReadMem a b s)
    | 0x0D => if data.length < b then short else resState s (execWriteMem j a (data.take b) s)
    | 0x0E => tile (fun t =>
        if 2 ≤ a ∨ 32 ≤ b then .next bad
        else execReadFrame j t ⟨a % 2, Nat.mod_lt _ (by decide)⟩ ⟨b % 32, Nat.mod_lt _ (by decide)⟩ s)
    | 0x0F => resState s (execClearPoints s)
    | _ => bad

/-- DBG_COMMAND: 32 B, with data up to 4,032 B. -/
def State.writeDebug (c : List Byte) : Writer := fun s => if c.length < 32 then (s, 0x0107) else (s.debugCommand c, 0)

/-- 60 s have not passed since the challenge was read (R467). -/
def State.inTime (s : State) : Bool := decide (s.tally.now - s.prot.challengeAt ≤ unlockTk)

/-- A write of a STR or BLOB object that exists and whose right allows it; the value is no longer than its maximum. -/
def State.writeBlob (i u : Nat) (bs : List Byte) : Writer :=
  match i with
  | 0x0100 => fun s => if utf8Ok bs then (s.keep (ck 0x0100 9) bs, 0) else (s, 0x0107)
  | 0x1020 => ethWrite (bs.length == 16) (ck 0x1020 6) bs
  | 0x6020 => State.writeRoutes bs
  | 0x6300 => State.writeMembers (slotIx u) bs
  | 0xB020 => State.writeAttestNonce bs
  | 0xB030 => State.writeMaint bs true
  | 0xC000 => fun s => State.writeDbgResponse bs s.inTime s
  | _ => State.writeDebug bs

/-! ## A write and a read under all their checks -/

/-- Objects whose writes are applied before S9 (R370). -/
def earlyWrite (i sub : Nat) : Bool := (i == 0x3100 && sub == 5) || (i == 0x3110 && sub == 1)

/-- Writes of the recovery set (R461). -/
def recoveryWrite (i sub : Nat) (range : Bool) : Bool := i == 0xB010 && (sub == 1 || (sub == 4 && range))

/-- A WRITE, or with an offset a WRITE_RANGE, behind the policy: existence, access right, LEN and value (R436, R437). -/
def State.writeObj (i sub : Nat) (offset : Option Nat) (bs : List Byte) : Writer := fun s =>
  match s.findObj i sub with
  | (st, none) => (s, st)
  | (_, some (r, u)) =>
    if r.access = 1 then (s, 0x0103)
    else if r.access = 5 ∧ s.betweenJobs = false then (s, 0x0106)
    else if s.life.frozen.contains (ck i sub) = true then (s, 0x0412)
    else if varType r.type then
      if i = 0xB010 then (match offset with | some o => State.writeRecovery o bs s | none => (s, 0x0101))
      else
        let old := if r.access = 2 then [] else s.objBytes r.index u sub
        let v := match offset with | some o => overlay old o bs | none => bs
        if r.max < v.length then (s, 0x0104) else State.writeBlob r.index u v s
    else if offset.isSome ∨ bs.length ≠ typeSize r.type then (s, 0x0104)
    else if r.type = tyBool ∧ 1 < natOfLE bs then (s, 0x0107)
    else State.writeValue r.index u sub (natOfLE bs) s

/-- A write on a carrier: the state after it and its status. -/
def State.writeOp (s : State) (car : Carrier) (served : Bool) (i sub : Nat) (offset : Option Nat) (bs : List Byte) : State × Nat :=
  s.guarded car (classOf i sub (s.findObj i sub).2.isSome) served ⟨earlyWrite i sub, recoveryWrite i sub offset.isSome⟩
    (State.writeObj i sub offset bs)

/-- Objects read before S9 (R370). -/
def earlyRead (i sub : Nat) : Bool :=
  decide (i < 0x1000) || i == 0xA120 || i == 0xA121 || i == 0xA122 || i == 0x4010 || i == 0x4011 || (decide (0x5100 ≤ i) && decide (i < 0x5110) && sub == 1)
    || (i == 0x4030 && sub == 1) || (i == 0x3100 && (sub == 1 || sub == 2))

/-- Reads of the recovery set (R461). -/
def recoveryRead (i sub : Nat) : Bool := i == 0x0100 || i == 0xA120 || (i == 0xA121 && sub == 0) || i == 0xB000 || i == 0xB010

/-- A READ, or with an offset a READ_RANGE, of an object (R436, R437): `room` is the largest value that fits the frame. -/
def State.readAt (s : State) (i sub len : Nat) (offset : Option Nat) (room : Nat) : State × Nat × List Byte :=
  match s.findObj i sub with
  | (st, none) => (s, st, [])
  | (_, some (r, u)) =>
    if r.access = 2 then (s, 0x0103, [])
    else if varType r.type then
      if offset.isNone && len != 0 then (s, 0x0104, [])
      else
        let v := s.readObj r u sub
        if v.2.1 ≠ 0 then v
        else (v.1, 0, match offset with | some o => (v.2.2.drop o).take len | none => v.2.2.take room)
    else if offset.isSome ∨ len ≠ typeSize r.type then (s, 0x0104, [])
    else s.readObj r u sub

/-- A read on a carrier under R370, R371 and R461. -/
def State.readOp (s : State) (served : Bool) (i sub len : Nat) (offset : Option Nat) (room : Nat) : State × Nat × List Byte :=
  if s.recovery && ! recoveryRead i sub then (s, 0x0101, [])
  else if ! s.recovery && ! s.boot.mgmt then (s.bump (ck 0xA120 0x0A) 1, 0x0A02, [])
  else if ! s.recovery && ! served && ! earlyRead i sub then (s.bump (ck 0xA120 0x0C) 1, 0x0A01, [])
  else
    let r := s.readAt i sub len offset room
    (r.1.countRefusal r.2.1, r.2.1, r.2.2)

/-- A COMMIT (R438): the policy, the right, the freeze. -/
def State.commitOp (s : State) (car : Carrier) (served : Bool) (i sub : Nat) : State × Nat :=
  s.guarded car (classOf i sub (s.findObj i sub).2.isSome) served ⟨false, false⟩ (fun s =>
    match s.findObj i sub with
    | (st, none) => (s, st)
    | (_, some (r, _)) =>
      if r.access ≠ 4 then (s, 0x0103)
      else ({ s with life := { s.life with frozen := insNat (ck i sub) s.life.frozen } }, 0))

end Sys2Proof.Machine
end

