-- ==== Sys2Proof/Machine/Events.lean ====
section
/-! DEFINITION. Events: their routes, the event queues and their backlog, MSI-X, NOTIFY frames and SMBus alerts (R410 to R413, R423,
R427). -/

namespace Sys2Proof.Machine

/-! ## Frames (R424) -/

def fkHello : Nat := 1
def fkHelloAck : Nat := 2
def fkRequest : Nat := 3
def fkResponse : Nat := 4
def fkNotify : Nat := 5
def fkClose : Nat := 6

/-- A frame of version 1.`minor`; on SMBus it carries no CRC trailer. -/
def pennosFrame (crc : Bool) (minor kind sess seq status : Nat) (body : List Byte) : List Byte :=
  let f := [0x71, 0x5E, BitVec.ofNat 8 (16 + minor), BitVec.ofNat 8 kind] ++ leOfNat 2 sess ++ leOfNat 4 seq ++ leOfNat 2 body.length
    ++ leOfNat 2 status ++ [0, 0] ++ body
  if crc then f ++ leOfNat 4 (crc32 f).toNat else f

/-! ## Sessions -/

/-- The number of the debug port's session: its frames carry session 0 (log entry 49). -/
def dbgSess : Nat := 65536

def State.session (s : State) (id : Nat) : Option Session := s.host.sessions.find? (fun q => q.id == id)
def State.updSession (s : State) (id : Nat) (f : Session → Session) : State :=
  s.updHost (fun h => { h with sessions := h.sessions.map (fun q => if q.id = id then f q else q) })

/-- A session number as frames carry it. -/
def sessField (id : Nat) : Nat := if id = dbgSess then 0 else id

/-! ## Entries (R411) -/

/-- The host interface is up (R406, R418). -/
def State.hostUp (s : State) : Bool := s.boot.powered && s.pwr.hostIo && s.host.linkUp && ! s.host.perst

/-- The device writes entries and messages: from S9, with Bus Master Enable set, in D0 (R369, R413). -/
def State.posts (s : State) : Bool := s.usable && ! s.recovery && s.hostUp && s.host.busMaster && ! s.host.d3hot

def State.eq_ (s : State) (q : Fin 16) : Eq_ := s.host.eqs[q]
def State.updEq (s : State) (q : Fin 16) (f : Eq_ → Eq_) : State := s.updHost (fun h => { h with eqs := h.eqs.set q (f h.eqs[q]) })

/-- Entries of a ring (R410). -/
def Eq_.ring (e : Eq_) : Nat := 64 * 2 ^ e.size

/-- The next entry may be written (R411). -/
def Eq_.room (e : Eq_) : Bool := e.enable && (e.tail + 1) % e.ring != e.head

/-- Write an entry with the phase of the pass (R411). -/
def State.writeEntry (s : State) (q : Fin 16) (e : Event) : State :=
  let k := s.eq_ q
  let bytes := match entryBytes e.kind e.unit e.tally e.data with
    | a :: _ :: r => a :: (if k.phase then 0x80 else 0) :: r
    | l => l
  let t := (k.tail + 1) % k.ring
  (s.send (.hostWrite (k.base.toNat + 32 * k.tail) bytes)).updEq q (fun k => { k with
    tail := t, phase := if t = 0 then ! k.phase else k.phase, unsignalled := k.unsignalled + 1 })

/-- The device can write to a queue now. -/
def State.eqOpen (s : State) (q : Fin 16) : Bool := s.posts && decide (q.val < 14) && (s.eq_ q).room

/-- An event for a queue: written at once, or it waits in the backlog, or it is dropped. -/
def State.queueEvent (s : State) (q : Fin 16) (e : Event) : State :=
  if s.eqOpen q && (s.eq_ q).dropped == 0 && ! s.host.backlog.any (fun b => b.1 == q.val) then s.writeEntry q e
  else if s.host.backlog.length < 256 then s.updHost (fun h => { h with backlog := h.backlog ++ [(q.val, e)] })
  else (s.bump (ck 0x1040 6) 1).updEq q (fun k => { k with dropped := k.dropped + 1 })

/-- One waiting entry of a queue with room: first the count of dropped ones, then the oldest of the backlog. -/
def State.drainOne (s : State) (q : Fin 16) : State :=
  if ! s.eqOpen q then s
  else if (s.eq_ q).dropped ≠ 0 then
    (s.writeEntry q ⟨0x0F, q.val, leOfNat 8 (s.eq_ q).dropped, s.tally.now⟩).updEq q (fun k => { k with dropped := 0 })
  else
    match s.host.backlog.find? (fun b => b.1 == q.val) with
    | none => s
    | some b => (s.updHost (fun h => { h with backlog := h.backlog.erase b })).writeEntry q b.2

/-- Every waiting entry that has room leaves. -/
def State.drainAll (s : State) : State :=
  (List.finRange 16).foldl (fun (s : State) q => (upTo (s.host.backlog.length + 1)).foldl (fun (s : State) _ => s.drainOne q) s) s

/-! ## Routes (R409, R412) -/

/-- The route of a kind: a queue, 0xE SMBus alert only, 0xF not delivered. -/
def State.evRouteOf (s : State) (kind : Nat) : Nat := fieldN s.host.evRoute.toNat (4 * (kind % 16)) 4

/-- Append a record of an event to the trace (R473). -/
def State.traceEvent (s : State) (e : Event) : State :=
  let t := s.host.trace ++ [entryBytes e.kind e.unit e.tally e.data]
  s.updHost (fun h => { h with trace := t.drop (t.length - traceSize), traceCount := h.traceCount + 1 })

/-- NOTIFY to every session that has subscribed to the kind (R427). -/
def State.notify (s : State) (e : Event) : State :=
  (s.host.sessions.filter (fun q => q.mask.testBit e.kind)).foldl (fun (s : State) q =>
    (s.send (.frame q.car q.origin (pennosFrame true q.version fkNotify (sessField q.id) (q.notifySeq + 1) 0
      (entryBytes e.kind e.unit e.tally e.data)))).updSession q.id (fun q => { q with notifySeq := (q.notifySeq + 1) % 2 ^ 32 })) s

/-- Route an event (R409, R411, R423, R427). -/
def State.routeEvent (s : State) (e : Event) : State :=
  let n := s.evRouteOf e.kind
  let s1 := (s.traceEvent e).notify e
  let s2 := if n = 14 ∨ e.kind = 6 then s1.updHost (fun h => { h with alerts := h.alerts ++ [e] }) else s1
  if n < 14 then s2.queueEvent ⟨n % 16, Nat.mod_lt _ (by decide)⟩ e else s2

/-- EVENT_RAISE (R411, R412): the oldest waiting event that the command names, or a fresh one. Kind 0x00 and kinds 0x0B up are never sent. -/
def execEventRaise (kind : Byte) (unit : U16) (data : List Byte) (s : State) : Res :=
  let e : Event := ⟨kind.toNat, unit.toNat, data, s.tally.now⟩
  .next (
    if ! s.boot.powered || s.recovery || kind.toNat == 0 || decide (11 ≤ kind.toNat) then s
    else match s.events.find? (fun x => x.kind == e.kind && x.unit == e.unit && x.data == e.data) with
      | some x => ({ s with events := s.events.erase x } : State).routeEvent x
      | none => s.routeEvent e)

/-- EVENT_ENTRY_WRITE (R411). -/
def execEventEntryWrite (q : Fin 16) (s : State) : Res := .next (s.drainOne q)

/-! ## MSI-X (R413) -/

/-- Mask bit of a vector: bit 0 of its entry's vector control. -/
def State.msixMasked (s : State) (v : Nat) : Bool := bitOf (s.host.msix.read (16 * v + 12)) 0

/-- A message of a vector, or its pending bit while it is masked. -/
def State.message (s : State) (v : Nat) : State :=
  if s.msixMasked v then s.updHost (fun h => { h with msixPending := setBit h.msixPending v true }) else s.send (.msix v)

/-- MSIX_SIGNAL (R413): the count has been reached, or the timer has run since the first entry not yet signalled. -/
def execMsixSignal (q : Fin 16) (timer : Bool) (s : State) : Res :=
  let k := s.eq_ q
  let due := if timer then k.time != 0 && k.unsignalled != 0 else decide (max 1 k.count ≤ k.unsignalled)
  .next (if s.posts && k.enable && due then (s.message k.vector).updEq q (fun k => { k with unsignalled := 0 }) else s)

end Sys2Proof.Machine
end

