-- ==== Sys2Proof/Machine/FrameInsns.lean ====
section
/-! DEFINITION. The frame instructions and the automatic REST (chapter 3). -/

namespace Sys2Proof.Machine

/-- FRAME.LOADW (R79). -/
def execFrameLoadw (i : CoreAt) (sa sb : Reg) (opt : BitVec 12) (s : State) : Res :=
  onTile i.tile (fun _ => frameInsn i.core 0 sa sb opt) s

/-- FRAME.MUL (R81). -/
def execFrameMul (i : CoreAt) (sa sb : Reg) (opt : BitVec 12) (s : State) : Res :=
  onTile i.tile (fun _ => frameInsn i.core 1 sa sb opt) s

/-- FRAME.DRAIN (R83). -/
def execFrameDrain (i : CoreAt) (sa sb : Reg) (opt : BitVec 12) (s : State) : Res :=
  onTile i.tile (fun _ => frameInsn i.core 2 sa sb opt) s

/-- FRAME.LOADA (R85). -/
def execFrameLoada (i : CoreAt) (sa sb : Reg) (opt : BitVec 12) (s : State) : Res :=
  onTile i.tile (fun _ => frameInsn i.core 4 sa sb opt) s

/-- FRAME.WAKE (R95). -/
def execFrameWake (i : CoreAt) (sa sb : Reg) (opt : BitVec 12) (s : State) : Res :=
  onTile i.tile (fun _ => frameInsn i.core 5 sa sb opt) s

/-- FRAME.REST (R95). -/
def execFrameRest (i : CoreAt) (sa sb : Reg) (opt : BitVec 12) (s : State) : Res :=
  onTile i.tile (fun _ => frameInsn i.core 6 sa sb opt) s

/-- FRAME.WAIT (R94). -/
def execFrameWait (i : CoreAt) (sa sb : Reg) (opt : BitVec 12) (s : State) : Res :=
  onTile i.tile (fun _ => frameInsn i.core 7 sa sb opt) s

/-- FRAME.DRAIN with OFMT 110: a partial block (R84). -/
def execFrameDrainPartial (i : CoreAt) (sa sb : Reg) (opt : BitVec 9) (s : State) : Res :=
  onTile i.tile (fun _ => frameInsn i.core 2 sa sb (6#3 ++ opt)) s

/-- FRAME.EW with EOP 0, ADD (R86). -/
def execFrameEwAdd (i : CoreAt) (sa sb : Reg) (opt : BitVec 8) (s : State) : Res :=
  onTile i.tile (fun _ => frameInsn i.core 3 sa sb (0#4 ++ opt)) s

/-- FRAME.EW with EOP 1, SUB (R86). -/
def execFrameEwSub (i : CoreAt) (sa sb : Reg) (opt : BitVec 8) (s : State) : Res :=
  onTile i.tile (fun _ => frameInsn i.core 3 sa sb (1#4 ++ opt)) s

/-- FRAME.EW with EOP 2, MUL (R86). -/
def execFrameEwMul (i : CoreAt) (sa sb : Reg) (opt : BitVec 8) (s : State) : Res :=
  onTile i.tile (fun _ => frameInsn i.core 3 sa sb (2#4 ++ opt)) s

/-- FRAME.EW with EOP 3, MAX (R86). -/
def execFrameEwMax (i : CoreAt) (sa sb : Reg) (opt : BitVec 8) (s : State) : Res :=
  onTile i.tile (fun _ => frameInsn i.core 3 sa sb (3#4 ++ opt)) s

/-- FRAME.EW with EOP 4, MIN (R86). -/
def execFrameEwMin (i : CoreAt) (sa sb : Reg) (opt : BitVec 8) (s : State) : Res :=
  onTile i.tile (fun _ => frameInsn i.core 3 sa sb (4#4 ++ opt)) s

/-- FRAME.EW with EOP 5, RESCALE (R86). -/
def execFrameEwRescale (i : CoreAt) (sa sb : Reg) (opt : BitVec 8) (s : State) : Res :=
  onTile i.tile (fun _ => frameInsn i.core 3 sa sb (5#4 ++ opt)) s

/-- FRAME.EW with EOP 6, ENC (R86). -/
def execFrameEwEnc (i : CoreAt) (sa sb : Reg) (opt : BitVec 8) (s : State) : Res :=
  onTile i.tile (fun _ => frameInsn i.core 3 sa sb (6#4 ++ opt)) s

/-- FRAME.EW with EOP 7, DEC (R86). -/
def execFrameEwDec (i : CoreAt) (sa sb : Reg) (opt : BitVec 8) (s : State) : Res :=
  onTile i.tile (fun _ => frameInsn i.core 3 sa sb (7#4 ++ opt)) s

/-- After 64 cycles with the compute slot free the frame starts a REST by itself (R95): the tile's frame is carried to the cycle in which
that happens, when its compute slot is free and it is fully on. -/
def execFrameAutoRest (t : TileIx) (s : State) : Res :=
  onTile t (fun _ => frameAutoRest) s

end Sys2Proof.Machine
end

