-- ==== Sys2Proof/Machine/Pennos.lean ====
section
/-! DEFINITION. The Pennos protocol: frames, sessions, the shared queue of requests and their service (R369 to R371, R424 to R432). -/

namespace Sys2Proof.Machine

/-! ## Frames (R424) -/

/-- A received frame. -/
structure PFrame where
  ver : Nat
  kind : Nat
  sess : Nat
  seq : Nat
  body : List Byte
  deriving DecidableEq, Repr

/-- Largest frame of a carrier: Ethernet, mailbox, SMBus, debug (R424, R466). -/
def carMax (car : Nat) : Nat := match car with | 0 => 1400 | 2 => 255 | _ => 4096

/-- A frame with the right MAGIC, LENGTH and CRC and a KIND that a client sends. -/
def parseFrame (car : Nat) (bs : List Byte) : Option PFrame :=
  let crc := car != 2
  let n := bs.length - (if crc then 4 else 0)
  let kind := imgField bs 3 1
  if carMax car < bs.length ∨ n < 16 ∨ imgField bs 0 2 ≠ 0x5E71 ∨ imgField bs 10 2 + 16 ≠ n ∨ (kind ≠ fkHello ∧ kind ≠ fkRequest ∧ kind ≠ fkClose)
      ∨ (crc = true ∧ (crc32 (bs.take n)).toNat ≠ imgField bs n 4) then none
  else some ⟨imgField bs 2 1, kind, imgField bs 4 2, imgField bs 6 4, (bs.take n).drop 16⟩

/-- The minor version in which a frame of a version byte is answered. -/
def minorOf (ver : Nat) : Nat := if 16 ≤ ver ∧ ver < 20 then ver - 16 else 0

/-! ## Answers -/

def State.mbxSt (s : State) (n : Nat) : Mbx := s.host.mbx[n % 16]'(Nat.mod_lt _ (by decide))
def State.setMbx (s : State) (n : Nat) (m : Mbx) : State :=
  s.updHost (fun h => { h with mbx := h.mbx.set (n % 16) m (Nat.mod_lt _ (by decide)) })

/-- Send an answer where its request came from: a mailbox fills the slot and raises the event; SMBus holds it for a Block Read. An answer
to a slot freed by a reset, or to a Block Write that a later one has replaced, is discarded (R414, R418, R423). -/
def State.respond (s : State) (car origin status : Nat) (frame : List Byte) : State :=
  if car = 1 then
    if 16 ≤ origin then s
    else
      let m := s.mbxSt origin
      if m.state = 1 ∨ m.state = 2 then
        let s1 := s.setMbx origin { m with state := 3, resp := frame }
        if s1.recovery then s1 else s1.raise 0x01 origin (leOfNat 2 status)
      else s.send (.frame 1 origin frame)
  else if car = 2 then (if origin = 0 then s.updHost (fun h => { h with smResp := some frame, smBusy := false }) else s)
  else s.send (.frame car origin frame)

/-- A frame of a carrier as an answer. -/
def State.answerFrame (s : State) (car origin minor kind sess seq status : Nat) (body : List Byte) : State :=
  s.respond car origin status (pennosFrame (car != 2) minor kind sess seq status body)

/-- A busy answer: in version 1.3 with a retry-after of 10 ms (R425, R428). -/
def busyBody (minor : Nat) : List Byte := if minor = 3 then leOfNat 2 10 else []

/-- A frame refused with a status, counted (R432). -/
def State.refuseFrame (s : State) (car origin : Nat) (p : PFrame) (status : Nat) : State :=
  (s.countRefusal status).answerFrame car origin (minorOf p.ver) (if p.kind = fkHello then fkHelloAck else fkResponse) p.sess p.seq status []

/-- A frame that is invalid: over UDP it is discarded and counted, elsewhere it is answered (R424). -/
def State.badFrame (s : State) (car origin : Nat) : State :=
  if car = 0 then s.bump (ck 0x1040 1) 1 else (s.countRefusal 0x0108).answerFrame car origin 0 fkResponse 0 0 0x0108 []

/-- An answer 0x0A02 of R370 or R371. -/
def State.busyEarly (s : State) (car origin : Nat) (p : PFrame) : State :=
  (s.bump (ck 0xA120 0x0A) 1).answerFrame car origin (minorOf p.ver) (if p.kind = fkHello then fkHelloAck else fkResponse) p.sess p.seq 0x0A02
    (busyBody (minorOf p.ver))

/-! ## Sessions (R425, R426) -/

/-- Minor versions implemented: the boot ROM has 1.0 and 1.1 only (R461). -/
def State.minors (s : State) : List Nat := if s.recovery then [0, 1] else [0, 1, 2, 3]

/-- Operations of a request by minor version. -/
def opsMax (minor : Nat) : Nat := if minor = 3 then 32 else 8

/-- The body of HELLO_ACK. -/
def helloAck (minors : List Nat) (ver sess maxFrame ops : Nat) : List Byte :=
  leOfNat 2 ver ++ leOfNat 2 sess ++ leOfNat 2 maxFrame ++ [BitVec.ofNat 8 ops, 4] ++ leOfNat 2 60 ++ leOfNat 2 minors.length
    ++ minors.flatMap (fun m => leOfNat 2 (0x100 + m))

/-- Sessions that count against the limit and in SESSIONS_OPEN: those of Ethernet and mailboxes. -/
def State.openCount (s : State) : Nat := (s.host.sessions.filter (fun q => q.car != 3)).length

/-- The next free session number, 1 to 65,535. -/
def State.freeSession (s : State) : Nat :=
  let c := (upTo 17).map (fun k => (s.host.nextSession - 1 + k) % 65535 + 1)
  (c.find? (fun n => (s.session n).isNone)).getD 1

/-- A session of a mailbox is bound to the function, one of Ethernet to its source. -/
def sessOrigin (car origin : Nat) : Nat := if car = 1 then 0 else origin

/-- HELLO (R425). -/
def State.helloFrom (s : State) (car origin seq : Nat) (versions : List Nat) (maxFrame : Nat) : State :=
  let ms := s.minors
  let size := min maxFrame (carMax car)
  let ack := fun (s : State) (status id : Nat) (body : List Byte) => (s.countRefusal status).answerFrame car origin 0 fkHelloAck id seq status body
  match (ms.filter (fun m => versions.contains (0x100 + m))).getLast? with
  | none => ack s 0x0109 0 (helloAck ms 0 0 size 8)
  | some m =>
    if car = 3 ∨ 16 ≤ s.openCount then ack s 0x010F 0 (helloAck ms 0 0 size 8)
    else
      let id := s.freeSession
      let q : Session := { id := id, car := car, origin := sessOrigin car origin, version := m, maxFrame := size, high := none, kept := [], mask := 0, notifySeq := 0 }
      ack (s.updHost (fun h => { h with sessions := h.sessions ++ [q], nextSession := id % 65535 + 1 })) 0 id (helloAck ms (0x100 + m) id size (opsMax m))

/-- Close a session. -/
def State.dropSession (s : State) (id : Nat) : State := s.updHost (fun h => { h with sessions := h.sessions.filter (fun q => q.id != id) })

/-- The session that a frame names, from where it is bound to. -/
def State.sessionOf (s : State) (car origin sess : Nat) : Option Session :=
  match s.session (if car = 3 then dbgSess else sess) with
  | some q => if q.car = car ∧ q.origin = sessOrigin car (if car = 3 then 0 else origin) ∧ (car = 3 → sess = 0) then some q else none
  | none => none

/-! ## Operations (R427) -/

/-- One operation of a request body. -/
structure Op where
  op : Nat
  sub : Nat
  index : Nat
  len : Nat
  zero : Nat
  offset : Nat
  value : List Byte
  deriving DecidableEq, Repr

def pad4 (n : Nat) : Nat := (n + 3) / 4 * 4

/-- The operations of a body; none when it does not hold whole operations. -/
def parseOps : Nat → List Byte → Option (List Op)
  | 0, bs => if bs.isEmpty then some [] else none
  | fuel + 1, bs =>
    if bs.isEmpty then some []
    else if bs.length < 8 then none
    else
      let o := imgField bs 0 1
      let len := imgField bs 4 2
      let off := if o = 3 ∨ o = 4 then 4 else 0
      let val := if o = 1 ∨ o = 3 ∨ o = 6 then 0 else if o = 5 then 8 else len
      let n := 8 + off + pad4 val
      if bs.length < n then none
      else
        match parseOps fuel (bs.drop n) with
        | none => none
        | some r => some (⟨o, imgField bs 1 1, imgField bs 2 2, len, imgField bs 6 2, imgField bs 8 off, (bs.drop (8 + off)).take val⟩ :: r)

def carOf (car : Nat) : Carrier := match car with | 0 => .ethernet | 1 => .mailbox | 2 => .smbus | _ => .debug

/-- What serves an operation: its carrier, session, minor version, whether its request is served as in service, and the largest value that fits the
frame. -/
structure OpEnv where
  car : Nat
  sess : Nat
  minor : Nat
  served : Bool
  room : Nat
  deriving DecidableEq, Repr

/-- An operation that gives no value. -/
def noValue (r : State × Nat) : State × Nat × List Byte := (r.1, r.2, [])

/-- A refusal of an operation by the protocol, counted (R432). -/
def State.refuseOp (s : State) (st : Nat) : State × Nat × List Byte := (s.countRefusal st, st, [])

/-- SUBSCRIBE (R427); before S9 it is answered as any other write (R370). -/
def State.subscribeOp (s : State) (e : OpEnv) (o : Op) : State × Nat × List Byte :=
  if ! e.served then (s.bump (ck 0xA120 9) 1, 0x0A01, [])
  else if o.len ≠ 8 then s.refuseOp 0x0104
  else if o.index ≠ 0 ∨ o.sub ≠ 0 then s.refuseOp 0x0107
  else (s.updSession e.sess (fun q => { q with mask := natOfLE o.value }), 0, [])

/-- Apply one operation: the state, its status and the value of a read (R425, R427). -/
def State.runOp (s : State) (e : OpEnv) (o : Op) : State × Nat × List Byte :=
  let need := match o.op with | 1 | 2 => 0 | 3 | 4 => 1 | 5 => 2 | 6 => 3 | _ => 4
  if e.minor < need then s.refuseOp 0x0111
  else if o.zero ≠ 0 then s.refuseOp 0x0107
  else match o.op with
    | 1 => s.readOp e.served o.index o.sub o.len none e.room
    | 2 => noValue (s.writeOp (carOf e.car) e.served o.index o.sub none o.value)
    | 3 => s.readOp e.served o.index o.sub o.len (some o.offset) e.room
    | 4 => noValue (s.writeOp (carOf e.car) e.served o.index o.sub (some o.offset) o.value)
    | 5 => s.subscribeOp e o
    | _ => if o.len ≠ 0 then s.refuseOp 0x0104 else noValue (s.commitOp (carOf e.car) e.served o.index o.sub)

/-- The part of a response body for one operation. -/
def opAnswer (status : Nat) (value : List Byte) : List Byte :=
  leOfNat 2 status ++ leOfNat 2 value.length ++ (value ++ List.replicate 3 0).take (pad4 value.length)

/-- Apply operations in order; each stands alone (R427). -/
def State.runOps (e : OpEnv) : List Op → State → State × List Byte
  | [], s => (s, [])
  | o :: os, s =>
    let r := s.runOp e o
    let q := State.runOps e os r.1
    (q.1, opAnswer r.2.1 r.2.2 ++ q.2)

/-! ## Service of the queue (R370, R428, R429) -/

/-- Bytes of a frame beside its body. -/
def frameOver (car : Nat) : Nat := if car = 2 then 16 else 20

/-- The largest value that an answer of one operation carries. -/
def valueRoom (car maxFrame : Nat) : Nat := (maxFrame - frameOver car - 4) / 4 * 4

def Request.env (r : Request) (s : State) : OpEnv :=
  ⟨r.car, r.sess, r.ver, ! r.early && s.usable, valueRoom r.car r.maxFrame⟩

/-- A response is kept with its SEQ, the newest 32 (R426), and leaves. -/
def State.respondTo (s : State) (r : Request) (status : Nat) (body : List Byte) : State :=
  let f := pennosFrame (r.car != 2) r.ver fkResponse (sessField r.sess) r.seq status body
  (s.updSession r.sess (fun q => { q with kept := ((r.seq, f) :: q.kept).take 32 })).respond r.car r.origin status f

/-- Serve a request that has left the queue: 0x0108 for a body without whole operations, 0x010C and 0x010D apply nothing (R428). -/
def State.serve (s : State) (r : Request) : State :=
  match parseOps r.body.length r.body with
  | none => (s.countRefusal 0x0108).respondTo r 0x0108 []
  | some ops =>
    if opsMax r.ver < ops.length then (s.countRefusal 0x010C).respondTo r 0x010C []
    else
      let q := State.runOps (r.env s) ops s
      if r.maxFrame < frameOver r.car + q.2.length then (s.countRefusal 0x010D).respondTo r 0x010D []
      else q.1.respondTo r 0 q.2

/-- Serve the request at the front of the queue. -/
def State.serveFront (s : State) : State :=
  match s.host.queue with
  | [] => s
  | r :: q => (s.updHost (fun h => { h with queue := q })).serve r

/-- The request at the front is answered 0x010E in every operation, which counts once (R429). -/
def State.timeoutFront (s : State) : State :=
  match s.host.queue with
  | [] => s
  | r :: q =>
    let n := ((parseOps r.body.length r.body).getD []).length
    ((s.updHost (fun h => { h with queue := q })).countRefusal 0x010E).respondTo r 0 ((List.replicate n (opAnswer 0x010E [])).flatMap id)

/-- Requests of a session that are queued. -/
def State.outstanding (s : State) (car sess : Nat) : Nat := (s.host.queue.filter (fun r => r.car == car && r.sess == sess)).length

/-- A REQUEST frame under R370, R426 and R428: it joins the queue or is answered at once. -/
def State.takeRequest (s : State) (car origin : Nat) (p : PFrame) (frame : List Byte) : State :=
  let early := ! s.usable
  if early && decide (64 ≤ s.host.queue.length) then s.busyEarly car origin p
  else
    match s.sessionOf car origin p.sess with
    | none => s.refuseFrame car origin p 0x010A
    | some q =>
      if p.ver ≠ 16 + q.version then s.refuseFrame car origin p 0x0112
      else
        match q.kept.find? (fun k => k.1 == p.seq) with
        | some k => s.respond car origin (imgField k.2 12 2) k.2
        | none =>
          if s.host.queue.any (fun r => r.sess == q.id && r.seq == p.seq) then s
          else
            let d := match q.high with | some a => (p.seq + 2 ^ 32 - a) % 2 ^ 32 | none => 1
            if d = 0 ∨ 2 ^ 31 ≤ d then s.refuseFrame car origin p 0x010B
            else if ! early && (decide (64 ≤ s.host.queue.length) || decide (4 ≤ s.outstanding car q.id)) then
              (s.bump (ck 0x1040 0x0F) 1).answerFrame car origin q.version fkResponse p.sess p.seq 0x0A02 (busyBody q.version)
            else
              let r : Request := { car := car, origin := origin, sess := q.id, ver := q.version, maxFrame := q.maxFrame, seq := p.seq, body := p.body, frame := frame, early := early }
              (s.updSession q.id (fun q => { q with high := some p.seq })).updHost (fun h => { h with queue := h.queue ++ [r] })

/-- The body of HELLO: a count of 1 to 8, the versions, the largest frame. -/
def helloBody (b : List Byte) : Option (List Nat × Nat) :=
  let n := imgField b 0 2
  if 1 ≤ n ∧ n ≤ 8 ∧ b.length = 4 + 2 * n then some (wordsOf 2 (b.drop 2) n, imgField b (2 + 2 * n) 2) else none

/-- CLOSE of a session from where it is bound to (R426). -/
def State.closeFrom (s : State) (car origin : Nat) (p : PFrame) : State :=
  match s.sessionOf car origin p.sess with
  | none => s.refuseFrame car origin p 0x010A
  | some q =>
    if p.ver ≠ 16 + q.version then s.refuseFrame car origin p 0x0112
    else (s.dropSession q.id).answerFrame car origin q.version fkResponse p.sess p.seq 0 []

/-- A frame of Ethernet, a mailbox or the debug port reaches the device. -/
def State.deliverFrame (s : State) (car origin : Nat) (frame : List Byte) : State :=
  match parseFrame car frame with
  | none => s.badFrame car origin
  | some p =>
    if ! s.recovery && ! s.boot.mgmt then s.busyEarly car origin p
    else if p.kind = fkHello then
      (match helloBody p.body with
        | none => s.badFrame car origin
        | some b => if p.ver ≠ 16 then s.refuseFrame car origin p 0x0112 else s.helloFrom car origin p.seq b.1 b.2)
    else if p.kind = fkClose then s.closeFrom car origin p
    else s.takeRequest car origin p frame

/-- The frame joins the queue as SMBus frames do: version 1.0, session 0 (R423). -/
def State.deliverSmbus (s : State) (frame : List Byte) : State :=
  match parseFrame 2 frame with
  | none => s.badFrame 2 0
  | some p =>
    if ! s.recovery && ! s.boot.mgmt then s.busyEarly 2 0 p
    else if ! s.usable && decide (64 ≤ s.host.queue.length) then s.busyEarly 2 0 p
    else if p.kind ≠ fkRequest then s.badFrame 2 0
    else if p.ver ≠ 16 then s.refuseFrame 2 0 p 0x0112
    else if p.sess ≠ 0 then s.refuseFrame 2 0 p 0x010A
    else if 64 ≤ s.host.queue.length then (s.bump (ck 0x1040 0x0F) 1).answerFrame 2 0 0 fkResponse 0 p.seq 0x0A02 []
    else
      let r : Request := { car := 2, origin := 0, sess := 0, ver := 0, maxFrame := 255, seq := p.seq, body := p.body, frame := frame, early := ! s.usable }
      s.updHost (fun h => { h with queue := h.queue ++ [r], smBusy := true })

/-- A frame of any carrier. -/
def State.arriveFrame (s : State) (car origin : Nat) (frame : List Byte) : State :=
  if car = 2 then s.deliverSmbus frame else s.deliverFrame car origin frame

/-- A request that finds the queue empty is served at once. -/
def State.arriveServed (s : State) (car origin : Nat) (frame : List Byte) : State :=
  let s1 := s.arriveFrame car origin frame
  if s.host.queue.isEmpty then s1.serveFront else s1

/-- PENNOS_REQUEST (R427, R428): the request at the front, when the command names it, is served; any other frame arrives. -/
def execPennosRequest (car : Carrier) (origin : Nat) (frame : List Byte) (s : State) : Res :=
  let c := carNum car
  .next (
    if ! s.carrierOn car then s
    else match s.host.queue with
      | r :: _ => if r.car = c ∧ r.origin = origin ∧ r.frame = frame then s.serveFront else s.arriveFrame c origin frame
      | [] => s.arriveServed c origin frame)

/-- HELLO (R425). SMBus has none (R423). -/
def execHello (car : Carrier) (origin : Nat) (versions : List U16) (maxFrame : U16) (s : State) : Res :=
  let c := carNum car
  .next (
    if ! s.carrierOn car then s
    else if c = 2 ∨ versions.isEmpty ∨ 8 < versions.length then s.badFrame c origin
    else if ! s.recovery && ! s.boot.mgmt then s.busyEarly c origin ⟨16, fkHello, 0, 0, []⟩
    else s.helloFrom c origin 0 (versions.map BitVec.toNat) maxFrame.toNat)

/-- CLOSE (R426), in the session's version. -/
def execClose (car : Carrier) (origin session : Nat) (s : State) : Res :=
  let c := carNum car
  let ver := match s.sessionOf c origin session with | some q => 16 + q.version | none => 16
  .next (
    if ! s.carrierOn car then s
    else if c = 2 then s.badFrame c origin
    else if ! s.recovery && ! s.boot.mgmt then s.busyEarly c origin ⟨ver, fkClose, session, 0, []⟩
    else s.closeFrom c origin ⟨ver, fkClose, session, 0, []⟩)

/-- SESSION_IDLE_TIMEOUT (R426). -/
def execSessionIdleTimeout (session : Nat) (s : State) : Res := .next (if session = dbgSess then s else s.dropSession session)

/-- DICT_REQUEST_TIMEOUT (R429): the oldest request has waited 250 ms. -/
def execDictRequestTimeout (s : State) : Res := .next (if s.boot.powered then s.timeoutFront else s)

/-- The rest of the queue is answered 0x0A02 (R371). -/
def State.busyRest : Nat → State → State
  | 0, s => s
  | n + 1, s =>
    match s.host.queue with
    | [] => s
    | r :: q =>
      State.busyRest n (((s.updHost (fun h => { h with queue := q })).bump (ck 0xA120 0x0A) 1).respondTo r 0x0A02 (busyBody r.ver))

/-- MGMT_WATCHDOG_EXPIRY (R371, R429): the request in progress is answered 0x010E, the others 0x0A02. -/
def execMgmtWatchdogExpiry (s : State) : Res :=
  .next (
    if ! s.boot.powered || ! s.boot.mgmt then s
    else
      let s1 := s.timeoutFront
      let s2 := State.busyRest s1.host.queue.length s1
      { s2 with boot := { s2.boot with mgmt := false }, life := { s2.life with mgmtResets := (s2.life.mgmtResets + 1) % 2 ^ 32 } })

/-- DEBUG_SESSION_OPEN (R466): the session of version 1.3 opens anew when DBG_EN falls. -/
def State.openDebug (s : State) : State :=
  let q : Session := { id := dbgSess, car := 3, origin := 0, version := 3, maxFrame := 4096, high := none, kept := [], mask := 0, notifySeq := 0 }
  (s.dropSession dbgSess).updHost (fun h => { h with sessions := h.sessions ++ [q] })

def execDebugSessionOpen (s : State) : Res := .next (if s.carrierOn .debug then s.openDebug else s)

/-! ## Operations as commands -/

/-- One operation of a session: 0 is SMBus, which has version 1.0. An operation of a session that is not open is answered 0x010A. -/
def opRow (session : Nat) (o : Op) (s : State) : Res :=
  let env := if session = 0 then some (2, 0, 255) else (s.session session).map (fun q => (q.car, q.version, q.maxFrame))
  .next (match env with
    | none => if s.listening then (s.countRefusal 0x010A).send (.answer 4 0x010A []) else s
    | some e =>
      if ! s.carrierOn (carOf e.1) then s
      else
        let r := s.runOp ⟨e.1, session, e.2.1, s.usable, valueRoom e.1 e.2.2⟩ o
        r.1.answer (carOf e.1) r.2.1 r.2.2)

/-- PENNOS_READ (R427). -/
def execPennosRead (session : Nat) (index : U16) (sub : Byte) (len : U16) (s : State) : Res :=
  opRow session ⟨1, sub.toNat, index.toNat, len.toNat, 0, 0, []⟩ s

/-- PENNOS_WRITE (R437). -/
def execPennosWrite (session : Nat) (index : U16) (sub : Byte) (value : List Byte) (s : State) : Res :=
  opRow session ⟨2, sub.toNat, index.toNat, value.length, 0, 0, value⟩ s

/-- READ_RANGE (R436). -/
def execReadRange (session : Nat) (index : U16) (sub : Byte) (offset : U32) (len : U16) (s : State) : Res :=
  opRow session ⟨3, sub.toNat, index.toNat, len.toNat, 0, offset.toNat, []⟩ s

/-- WRITE_RANGE (R436). -/
def execWriteRange (session : Nat) (index : U16) (sub : Byte) (offset : U32) (value : List Byte) (s : State) : Res :=
  opRow session ⟨4, sub.toNat, index.toNat, value.length, 0, offset.toNat, value⟩ s

/-- SUBSCRIBE (R427). -/
def execSubscribe (session : Nat) (mask : U64) (s : State) : Res := opRow session ⟨5, 0, 0, 8, 0, 0, leOfNat 8 mask.toNat⟩ s

/-- COMMIT (R438). -/
def execCommit (session : Nat) (index : U16) (sub : Byte) (s : State) : Res := opRow session ⟨6, sub.toNat, index.toNat, 0, 0, 0, []⟩ s

end Sys2Proof.Machine
end

