-- ==== Sys2Proof/Machine/Host.lean ====
section
/-! DEFINITION. The PCI Express host port: configuration, BAR0 with its event queues and mailboxes, the window of BAR2, the trace of BAR4, the
resets (R369, R406 to R419, R461, R473). -/

namespace Sys2Proof.Machine

/-! ## The link and its completions -/

def cplOk : Nat := 0
def cplUR : Nat := 1
def cplCA : Nat := 2
def cplRetry : Nat := 3

/-- AER errors recorded (R419). -/
def aerAdvisory : Nat := 1
def aerUR : Nat := 2
def aerCA : Nat := 3
def aerPoison : Nat := 4
def aerFatal : Nat := 5

def State.aerErr (s : State) (k : Nat) : State := s.updHost (fun h => { h with aer := insNat k h.aer })

/-- A TLP reaches the device (R369, R406, R418). -/
def State.linkOn (s : State) : Bool := s.boot.powered && s.host.linkUp && ! s.host.perst

/-- Configuration requests are completed, not retried (R369). -/
def State.configOn (s : State) : Bool := s.linkOn && s.listening

/-- BAR accesses are decoded (R369, R418). -/
def State.barsOn (s : State) : Bool := s.hostUp && s.listening && ! s.host.d3hot

/-- A memory read by the host: what no BAR decodes is an Unsupported Request. -/
def State.unsupportedRead (s : State) : State := (s.aerErr aerUR).send (.completion cplUR false [])

def barRead (f : State → State) (s : State) : Res :=
  .next (if ! s.linkOn then s else if s.barsOn then f s else s.unsupportedRead)

/-- A memory write by the host; it is posted, so that nothing is completed. -/
def barWrite (f : State → State) (s : State) : Res :=
  .next (if ! s.linkOn then s else if s.barsOn then f s else s.aerErr aerUR)

/-! ## Resets (R418, R419) -/

/-- What every reset of the host interface does: a request of a mailbox that waits loses its place to answer. -/
def State.hostReset (s : State) : State :=
  (s.bump (ck 0x1040 6) s.host.backlog.length).updHost (fun h => { h with
    mbx := h.mbx.map (fun m => { m with state := 0 }), queue := h.queue.map (fun r => if r.car = 1 then { r with origin := 16 } else r)
    sessions := h.sessions.filter (fun q => q.car != 1), backlog := [], eqs := HostSt.reset.eqs, w2Base := 0, evRoute := HostSt.reset.evRoute
    msix := msixReset, msixPending := 0, busMaster := false, d3hot := false, config := [], doeWait := [] })

/-- FUNCTION_LEVEL_RESET (R418): the host asks for it by a configuration write. -/
def execFunctionLevelReset (s : State) : Res := .next (if s.configOn then s.hostReset else s)

/-- HOT_RESET (R418). -/
def execHotReset (s : State) : Res := .next (if s.linkOn then s.hostReset else s)

/-- The link goes down (R418). -/
def State.linkDown (s : State) : State := s.hostReset.updHost (fun h => { h with linkUp := false })

/-- PCIE_LINK_DOWN (R418). -/
def execPcieLinkDown (s : State) : Res := .next (if s.host.linkUp then s.linkDown else s)

/-- PERST_ASSERT (R418, R484): the link is held in reset. -/
def execPerstAssert (s : State) : Res :=
  .next (if s.host.perst then s else s.linkDown.updHost (fun h => { h with perst := true }))

/-- PERST_RELEASE (R418): the link may train. -/
def execPerstRelease (s : State) : Res := .next (s.updHost (fun h => { h with perst := false }))

/-- Rates in GT/s and widths at which the link settles (R406). -/
def linkSettles (rate width : Nat) : Bool := [64, 32, 16, 8, 5, 2].contains rate && [4, 8, 16].contains width

/-- PCIE_LINK_UP (R369, R406): from the start of S1. -/
def execPcieLinkUp (rateGt width : Nat) (s : State) : Res :=
  .next (if s.boot.powered && decide (1 ≤ s.boot.stage) && ! s.host.perst && linkSettles rateGt width then
    s.updHost (fun h => { h with linkUp := true, rate := rateGt, width := width }) else s)

/-- D3HOT_ENTRY (R418). -/
def execD3hotEntry (s : State) : Res := .next (if s.configOn then s.updHost (fun h => { h with d3hot := true }) else s)

/-- D0_ENTRY (R418): registers are kept and the backlog drains. -/
def execD0Entry (s : State) : Res :=
  .next (if s.configOn && s.host.d3hot then (s.updHost (fun h => { h with d3hot := false })).drainAll else s)

/-- Bus Master Enable takes a value; when it is set the backlog drains (R413, R418). -/
def State.setBusMaster (s : State) (b : Bool) : State :=
  let s1 := s.updHost (fun h => { h with busMaster := b })
  if b then s1.drainAll else s1

/-- BUS_MASTER_DISABLE (R413, R418). -/
def execBusMasterDisable (s : State) : Res := .next (if s.configOn then s.setBusMaster false else s)

/-- AER_FATAL_ERROR (R419): as a link down. -/
def execAerFatalError (s : State) : Res := .next (if s.linkOn then (s.aerErr aerFatal).linkDown else s)

/-! ## Configuration space (R369, R406) -/

/-- A dword of the configuration space. Offset 0 holds the IDs of R434 and offset 8 the class code above a revision; the rest of the layout
is not the spec's (log entry 42). -/
def State.configRead (s : State) (offset : Nat) : Nat :=
  let o := offset / 4 * 4
  if o = 0 then s.fuses.pcieIds % 2 ^ 32
  else
    let v := Config.configDword o (natOfLE (s.host.config.readBytes o 4)) % 2 ^ 32
    if o = 8 then 0x120000 * 256 + v % 256 else v

/-- PCIE_CONFIG_REQUEST (R369, R406). -/
def execPcieConfigRequest (write : Bool) (offset : Nat) (value : U32) (s : State) : Res :=
  .next (
    if ! s.linkOn then s
    else if ! s.listening then s.send (.completion cplRetry false [])
    else if write then
      let s1 := s.updHost (fun h => { h with config := h.config.writeBytes (offset / 4 * 4) (leOfNat 4 value.toNat) })
      let s2 := if offset / 4 = 1 then s1.setBusMaster (bitOf value 2) else s1
      s2.send (.completion cplOk false [])
    else s.send (.completion cplOk false (leOfNat 4 (s.configRead offset))))

/-! ## BAR0: the device registers (R408, R409) -/

/-- A write that R408, R409 or R410 discards. -/
def State.discardBar0 (s : State) : State := s.bump (ck 0x1040 0x10) 1

/-- W2_BASE keeps bits [47:30]. -/
def State.writeW2Base (s : State) (v : U64) : State := s.updHost (fun h => { h with w2Base := BitVec.ofNat 64 (fieldN v.toNat 30 18 * 2 ^ 30) })

/-- MBX_STATE. -/
def State.mbxStates (s : State) : Nat := (upTo 16).foldl (fun m n => m + (s.mbxSt n).state % 4 * 2 ^ (2 * n)) 0

/-- A doorbell (R369, R414, R461): before S9 it is ignored, and in recovery only slot 0 is served. -/
def State.doorbell (s : State) (v : U64) : State :=
  let n := v.toNat % 16
  if ! s.usable || (s.recovery && n != 0) then s
  else if (s.mbxSt n).state ≠ 0 then s.bump (ck 0x1040 7) 1
  else s.setMbx n { s.mbxSt n with state := 1 }

/-- Slots whose responses are ready are freed (R409, R414). -/
def State.releaseSlots (s : State) (v : U64) : State :=
  (upTo 16).foldl (fun (s : State) n => if bitOf v n && (s.mbxSt n).state == 3 then s.setMbx n { s.mbxSt n with state := 0 } else s) s

/-! ## BAR0: the event queues (R410) -/

/-- Every waiting entry of a queue that has room leaves (R411). -/
def State.drainQueue (s : State) (q : Fin 16) : State :=
  (upTo (s.host.backlog.length + 1)).foldl (fun (s : State) _ => s.drainOne q) s

/-- EQ_CTRL as it reads. -/
def Eq_.ctrl (k : Eq_) : Nat :=
  (if k.enable then 2 ^ 63 else 0) + k.size % 16 * 2 ^ 48 + k.vector % 64 * 2 ^ 40 + k.count % 2 ^ 16 * 2 ^ 16 + k.time % 2 ^ 16

/-- A write of EQ_CTRL with a reserved SIZE, or a bit that is written 0. -/
def eqCtrlBad (v : Nat) : Bool := decide (10 < fieldN v 48 4) || fieldN v 52 11 != 0 || fieldN v 46 2 != 0 || fieldN v 32 8 != 0

/-- A write of EQ_CTRL: discarded, or taken; with ENABLE set it resets EQ_TAIL. -/
def State.writeEqCtrl (s : State) (q : Fin 16) (value : U64) : State :=
  let v := value.toNat
  let k := s.eq_ q
  if 14 ≤ q.val ∨ eqCtrlBad v = true ∨ (k.enable = true ∧ v.testBit 63 = true ∧ fieldN v 48 4 ≠ k.size) then s.discardBar0
  else
    let on := v.testBit 63
    (s.updEq q (fun k => { k with
      enable := on, size := fieldN v 48 4, vector := fieldN v 40 6, count := fieldN v 16 16, time := fieldN v 0 16
      tail := if on then 0 else k.tail, phase := if on then true else k.phase })).drainQueue q

/-- A write of EQ_HEAD. -/
def State.writeEqHead (s : State) (q : Fin 16) (value : U64) : State :=
  let v := value.toNat
  if 14 ≤ q.val ∨ (s.eq_ q).ring ≤ v % 65536 ∨ v / 65536 ≠ 0 then s.discardBar0
  else (s.updEq q (fun k => { k with head := v })).drainQueue q

/-- A write of EQ_BASE: a multiple of 4 KiB, not changed while the queue is enabled. -/
def State.writeEqBase (s : State) (q : Fin 16) (value : U64) : State :=
  let b : U64 := BitVec.ofNat 64 (value.toNat / 4096 * 4096)
  if 14 ≤ q.val ∨ ((s.eq_ q).enable = true ∧ b ≠ (s.eq_ q).base) then s.discardBar0
  else s.updEq q (fun k => { k with base := b })

/-- A register of a queue as it reads: those of the reserved queues read 0. -/
def State.eqRead (s : State) (q reg : Nat) : Nat :=
  if 14 ≤ q then 0
  else
    let k := s.eq_ ⟨q % 16, Nat.mod_lt _ (by decide)⟩
    match reg with
    | 0 => k.base.toNat
    | 1 => k.ctrl
    | 2 => k.tail % 65536 + (if k.phase then 65536 else 0)
    | _ => k.head

/-- W2_BASE (R409, R416). -/
def execW2Base (value : U64) (s : State) : Res := barWrite (fun s => s.writeW2Base value) s
/-- MBX_DOORBELL (R409, R414). -/
def execMbxDoorbell (value : U64) (s : State) : Res := barWrite (fun s => s.doorbell value) s
/-- MBX_RELEASE (R409, R414). -/
def execMbxRelease (value : U64) (s : State) : Res := barWrite (fun s => s.releaseSlots value) s
/-- EQ_CTRL (R410). -/
def execEqCtrl (q : Fin 16) (value : U64) (s : State) : Res := barWrite (fun s => s.writeEqCtrl q value) s
/-- EQ_HEAD (R410, R411). -/
def execEqHead (q : Fin 16) (value : U64) (s : State) : Res := barWrite (fun s => s.writeEqHead q value) s

/-- The frame in a request buffer: as long as its header says (R424). -/
def mbxFrame (req : List Byte) : List Byte := (req ++ List.replicate (4096 - req.length) 0).take (20 + imgField req 10 2)

/-- MAILBOX_DISPATCH (R414, R415): every BAR2 write before the doorbell is in its engine, so the queued request is delivered. -/
def execMailboxDispatch (n : Fin 16) (s : State) : Res :=
  let m := s.mbxSt n.val
  .next (if m.state = 1 then (s.setMbx n.val { m with state := 2 }).arriveServed 1 n.val (mbxFrame m.req) else s)

/-! ## BAR0: the other offsets (R408, R413) -/

/-- Messages that waited behind a mask that is now off are sent (R413). -/
def State.msixUnmask (s : State) : State :=
  (upTo 64).foldl (fun (s : State) v =>
    if s.host.msixPending.testBit v && ! s.msixMasked v then (s.updHost (fun h => { h with msixPending := setBit h.msixPending v false })).send (.msix v)
    else s) s

/-- Bytes of a buffer with others laid over them. -/
def overBytes (old : List Byte) (o : Nat) (bs : List Byte) : List Byte :=
  (old ++ List.replicate (o - old.length) 0).take o ++ bs ++ old.drop (o + bs.length)

/-- A write of an aligned u64 register, or a discard. -/
def State.writeBar0Reg (s : State) (o : Nat) (value : U64) : State :=
  if o = 0x0008 then s.writeW2Base value
  else if o = 0x0010 then s.doorbell value
  else if o = 0x0020 then s.releaseSlots value
  else if o = 0x0028 then s.updHost (fun h => { h with evRoute := value })
  else if 0x1000 ≤ o ∧ o < 0x1200 then
    let q : Fin 16 := ⟨(o - 0x1000) / 32 % 16, Nat.mod_lt _ (by decide)⟩
    (match o % 32 with
      | 0 => s.writeEqBase q value
      | 8 => s.writeEqCtrl q value
      | 24 => s.writeEqHead q value
      | _ => s.discardBar0)
  else s.discardBar0

/-- A write to BAR0: the MSI-X table and the request buffers take bytes, the registers aligned words of 8 B, all else is discarded. -/
def State.writeBar0 (s : State) (o width : Nat) (value : U64) : State :=
  let bs := leOfNat (min width 8) value.toNat
  if 0x10000 ≤ o ∧ o + width ≤ 0x10400 then (s.updHost (fun h => { h with msix := h.msix.writeBytes (o - 0x10000) bs })).msixUnmask
  else if 0x100000 ≤ o ∧ o + width ≤ 0x110000 then
    let n := (o - 0x100000) / 4096
    let m := s.mbxSt n
    s.setMbx n { m with req := (overBytes m.req (o % 4096) bs).take 4096 }
  else if width = 8 ∧ o % 8 = 0 then s.writeBar0Reg o value
  else s.discardBar0

/-- BAR0_REGISTER_WRITE (R408 to R410, R413). -/
def execBar0RegisterWrite (offset width : Nat) (value : U64) (s : State) : Res := barWrite (fun s => s.writeBar0 offset width value) s

/-- An aligned word of BAR0 as it reads (R408, R409). -/
def State.bar0Word (s : State) (offset : Nat) : Nat :=
  let o := offset / 8 * 8
  let pad := fun (b : List Byte) (k : Nat) => natOfLE ((b.drop k).take 8)
  if o = 0 then s.startStage % 256 * 2 ^ 56 + s.boot.outcome % 256 * 2 ^ 48 + s.clk.freq % 65536 * 2 ^ 32
  else if o = 0x0008 then s.host.w2Base.toNat
  else if o = 0x0018 then s.mbxStates
  else if o = 0x0028 then s.host.evRoute.toNat
  else if o = 0x0030 then s.host.backlog.length
  else if 0x1000 ≤ o ∧ o < 0x1200 then s.eqRead ((o - 0x1000) / 32) (o % 32 / 8)
  else if 0x10000 ≤ o ∧ o < 0x10400 then natOfLE (s.host.msix.readBytes (o - 0x10000) 8)
  else if o = 0x10800 then s.host.msixPending
  else if 0x100000 ≤ o ∧ o < 0x110000 then pad (s.mbxSt ((o - 0x100000) / 4096)).req (o % 4096)
  else if 0x200000 ≤ o ∧ o < 0x210000 then pad (s.mbxSt ((o - 0x200000) / 4096)).resp (o % 4096)
  else 0

/-! ## BAR2: the window into device memory (R215, R416) -/

def bar2Bytes : Nat := 64 * 2 ^ 30

/-- The bytes of a TLP by the lines they touch. -/
def lineParts : Nat → Nat → List Byte → List (Nat × List Byte)
  | 0, _, _ => []
  | n + 1, addr, bs => if bs.isEmpty then [] else (addr, bs.take (64 - addr % 64)) :: lineParts n (addr + (64 - addr % 64)) (bs.drop (64 - addr % 64))

/-- Lines that a range touches, by address. -/
def linesOf (addr n : Nat) : List Nat := (upTo ((addr + n + 63) / 64 - addr / 64)).map (fun i => 64 * (addr / 64 + i))

/-- The engine that owns an address answers. -/
def State.lineAnswers (s : State) (addr : Nat) : Bool := match s.locate addr with | some p => s.stackUsable p.1 | none => false

/-- Lines of a range that an engine reads as poisoned are counted (R208). -/
def State.countPoison (s : State) (ls : List Nat) : State := s.bump (ck 0x9150 3) (ls.filter (fun a => s.memPoisoned a 1)).length

/-- One line of a write reaches its engine: a part of a line is merged with what is read; a stack that does not answer times out (R215). -/
def State.writePart (s : State) (p : Nat × List Byte) (poison : Bool) : State :=
  if ! s.lineAnswers p.1 then s.bump (ck 0x9150 8) 1
  else (if p.2.length < 64 then s.countPoison [p.1] else s).memWrite p.1 p.2 poison

/-- An access leaves the window or reaches beyond the memory. -/
def State.bar2Beyond (s : State) (offset n : Nat) : Bool :=
  s.recovery || decide (bar2Bytes < offset + n) || decide (s.memCapacity < s.host.w2Base.toNat + offset + n)

/-- BAR2_READ (R416). -/
def execBar2Read (offset len : Nat) (s : State) : Res :=
  barRead (fun s =>
    let a := s.host.w2Base.toNat + offset
    let ls := linesOf a len
    if s.bar2Beyond offset len then s.unsupportedRead
    else
      let mute := (ls.filter (fun l => ! s.lineAnswers l)).length
      let s1 := s.countPoison (ls.filter s.lineAnswers)
      if mute ≠ 0 then (((s1.bump (ck 0x9150 8) mute).bump (ck 0x1040 9) 1).aerErr aerCA).send (.completion cplCA false [])
      else if s.memPoisoned a len then (s1.bump (ck 0x1040 8) 1).send (.completion cplOk true (s.memBytes a len))
      else s1.send (.completion cplOk false (s.memBytes a len))) s

/-- The write policy refuses BAR2 writes (R456). -/
def State.bar2Refused (s : State) : Bool :=
  match fieldN (s.fuses.writePolicy[1]).toNat 5 2 with
  | 0 => false
  | 1 => s.anyRunning
  | _ => true

/-- BAR2_WRITE (R416, R456). -/
def execBar2Write (offset : Nat) (data : List Byte) (poisoned : Bool) (s : State) : Res :=
  barWrite (fun s =>
    if s.bar2Refused then (s.bump (ck 0x1040 0x0A) 1).aerErr aerAdvisory
    else if s.bar2Beyond offset data.length then s.aerErr aerUR
    else
      let parts := lineParts (data.length / 64 + 2) (s.host.w2Base.toNat + offset) data
      let s1 := parts.foldl (fun (s : State) p => s.writePart p poisoned) s
      if poisoned then s1.aerErr aerPoison else s1) s

/-! ## BAR4: the trace (R417, R473) -/

def bar4Bytes : Nat := 16777216

/-- Record of a slot of the ring: the newest whose number falls on it. -/
def State.traceSlot (s : State) (r : Nat) : List Byte :=
  let c := s.host.traceCount
  if c ≤ r then List.replicate 32 0
  else
    let n := c - 1 - (c - 1 - r) % traceSize
    s.host.trace.getD (n + s.host.trace.length - c) []

/-- A byte of BAR4. -/
def State.traceByte (s : State) (o : Nat) : Byte :=
  if o < 8 then (leOfNat 8 s.host.traceCount).getD o 0
  else if o < 64 then 0
  else (s.traceSlot ((o - 64) / 32)).getD ((o - 64) % 32) 0

/-- BAR4_READ (R417, R473). -/
def execBar4Read (offset len : Nat) (s : State) : Res :=
  barRead (fun s =>
    if s.recovery || decide (bar4Bytes < offset + len) then s.unsupportedRead
    else s.send (.completion cplOk false ((upTo len).map (fun i => s.traceByte (offset + i))))) s

/-- BAR4_WRITE (R417): discarded and counted. -/
def execBar4Write (offset : Nat) (data : List Byte) (s : State) : Res :=
  barWrite (fun s => if s.recovery || decide (bar4Bytes < offset + data.length) then s.aerErr aerUR else s.bump (ck 0x1040 0x0B) 1) s

end Sys2Proof.Machine
end

