-- ==== Sys2Proof/Machine/Jtag.lean ====
section
/-! DEFINITION. The JTAG port: its instruction register and its data registers (R466, R484). -/

namespace Sys2Proof.Machine

def irBypass : Nat := 0xFF
def irIdcode : Nat := 0x01
def irSample : Nat := 0x02
def irExtest : Nat := 0x03
def irClamp : Nat := 0x04
def irHighz : Nat := 0x05
def irDbgframe : Nat := 0x10

/-- An instruction is selected, and bits are shifted out. -/
def State.jtag (s : State) (ir value : Nat) : State := ({ s with prot := { s.prot with ir := ir } } : State).send (.jtag ir value)

/-- The JTAG logic has its supply. -/
def jtagRow (f : State → State) (s : State) : Res := .next (if s.boot.powered then f s else s)

/-- An instruction that needs the observe level; without it BYPASS is selected (DEDUCED, log entry 51). -/
def observed (f : State → State) (s : State) : State := if 1 ≤ s.level then f s else s.jtag irBypass 0

/-- IDCODE of IEEE 1149.1: version from STEPPING, part and manufacturer from fuses, bit 0 set. -/
def State.idcode (s : State) : Nat := s.fuses.stepping % 16 * 2 ^ 28 + s.fuses.jtagIds % 2 ^ 27 * 2 + 1

/-- BYPASS (R466): one bit, which captures 0. -/
def execBypass (s : State) : Res := jtagRow (fun s => s.jtag irBypass 0) s

/-- IDCODE (R466). -/
def execIdcode (s : State) : Res := jtagRow (fun s => s.jtag irIdcode s.idcode) s

/-- SAMPLE/PRELOAD (R466): the pins are captured, and the boundary cells take what is shifted in. -/
def execSamplePreload (value : Nat) (s : State) : Res :=
  jtagRow (fun s =>
    let s1 := s.jtag irSample (Config.pinSample s.draws)
    { s1 with draws := s1.draws + 1, prot := { s1.prot with boundary := value } }) s

/-- EXTEST (R466): the boundary cells drive the pins. -/
def execExtest (s : State) : Res := jtagRow (observed (fun s => s.jtag irExtest s.prot.boundary)) s

/-- CLAMP (R466): the boundary cells drive the pins, and the bypass bit is shifted. -/
def execClamp (s : State) : Res := jtagRow (observed (fun s => s.jtag irClamp 0)) s

/-- HIGHZ (R466): the pins are released, and the bypass bit is shifted. -/
def execHighz (s : State) : Res := jtagRow (observed (fun s => s.jtag irHighz 0)) s

/-- DBGFRAME (R466): the data register carries a Pennos frame as the debug port does, in its session. -/
def execDbgframe (frame : List Byte) (s : State) : Res :=
  jtagRow (observed (fun s =>
    let s1 := s.jtag irDbgframe 0
    if ! s1.carrierOn .debug then s1
    else (if (s1.session dbgSess).isSome then s1 else s1.openDebug).arriveServed 3 1 frame)) s

/-- TRST_ASSERT (R484): the JTAG logic is reset, which selects IDCODE. -/
def execTrstAssert (s : State) : Res := jtagRow (fun s => { s with prot := { s.prot with ir := irIdcode } }) s

end Sys2Proof.Machine
end

