-- ==== Sys2Proof/Machine/Mesh.lean ====
section
/-! DEFINITION. The commands of the mesh and of the service agents (chapter 6). -/

namespace Sys2Proof.Machine

/-- SLOT.PASS (R171). -/
def execSlotPass (t : TileIx) (entry : Fin 1024) (entryBad corrupt : Bool) (s : State) : Res := onGrid t (State.runSlot 0 t.val entry.val entryBad corrupt) s

/-- SLOT.ADD160 (R175). -/
def execSlotAdd160 (t : TileIx) (entry : Fin 1024) (entryBad corrupt : Bool) (s : State) : Res := onGrid t (State.runSlot 1 t.val entry.val entryBad corrupt) s

/-- SLOT.ADD160, final (R176). -/
def execSlotAdd160Final (t : TileIx) (entry : Fin 1024) (entryBad corrupt : Bool) (s : State) : Res := onGrid t (State.runSlot 2 t.val entry.val entryBad corrupt) s

/-- SLOT.MAX32 (R177). -/
def execSlotMax32 (t : TileIx) (entry : Fin 1024) (entryBad corrupt : Bool) (s : State) : Res := onGrid t (State.runSlot 3 t.val entry.val entryBad corrupt) s

/-- SLOT.SUM64 (R177). -/
def execSlotSum64 (t : TileIx) (entry : Fin 1024) (entryBad corrupt : Bool) (s : State) : Res := onGrid t (State.runSlot 4 t.val entry.val entryBad corrupt) s

/-- A plan flit that no entry takes (R174). -/
def execUnscheduledArrival (t : TileIx) (port : Fin 4) (cy : Nat) (s : State) : Res := onTile t (fun _ => unscheduled port.val cy) s

/-- A service line hops (R183). -/
def execServiceLineHop (t : TileIx) (out : MeshPort) (response corrupt : Bool) (s : State) : Res :=
  onGrid t (fun s => s.hopLine t.val out.val (if response then 1 else 0) corrupt) s

/-- A hop credit arrives (R183, R188). -/
def execHopCreditReturn (t : TileIx) (out : MeshPort) (response : Bool) (s : State) : Res :=
  onGrid t (fun s => s.updTile t.val (fun t => t.updHop out.val (if response then 1 else 0) (fun o =>
    if o.returning = 0 then o else { o with credits := o.credits + 1, returning := o.returning - 1 }))) s

/-- A MSG reaches the agent of its tile (R184). -/
def execMsgArrival (t : TileIx) (s : State) : Res := onTile t msgArrive s

/-- An RWRITE reaches the agent of its tile (R161). -/
def execRwriteArrival (t : TileIx) (s : State) : Res := onTile t rwArrive s

/-- An accepted line lands (R161, R180). -/
def execRemoteLineLanding (t : TileIx) (deferredCy : Nat) (s : State) : Res :=
  onTile t (fun e => landNext e deferredCy (s.senderInJob t.val)) s

/-- A COMPL reaches the agent of its tile (R184). -/
def execComplArrival (t : TileIx) (s : State) : Res := onTile t (fun _ => complArrive) s

/-- 1,563 tk without a completion (R186). -/
def execServiceRequestTimeout (i : CoreAt) (tag : Fin 4) (s : State) : Res := onTile i.tile (fun e => svTimeout e i.core tag.val) s

end Sys2Proof.Machine
end

