-- ==== Sys2Proof/Machine/Packets.lean ====
section
/-! DEFINITION. DICT packets: what a tile's service agent and a copy engine do with one, and the reply (R215, R433, R450, R451). -/

namespace Sys2Proof.Machine

/-- A reply on its way to the management processor. -/
def State.dictAnswer (s : State) (req status : Nat) (data : List Byte) : State :=
  { s with host := { s.host with dictReplies := s.host.dictReplies ++ [(req, status, data)] } }

/-- An object of tile `t` that its agent holds: a row of the arrays of R450 and R451 at the tile's index. -/
def State.agentObj (s : State) (t i sub : Nat) : Nat × Option ObjRow :=
  if i = 0xD100 + t ∨ i = 0xE000 + t then (match s.findObj i sub with | (st, o) => (st, o.map Prod.fst)) else (0x0101, none)

/-- A packet to an agent: only tiles of the grid have one. -/
def agentPacket (t : TileIx) (f : State → State) (s : State) : Res := if s.grid.hasTile t.val then .next (f s) else .fault .noSuchTile

/-- DICT_OBJECT_READ (R433, R450, R451): the agent answers the value, in every zone state. -/
def execDictObjectRead (t : TileIx) (req index : U16) (sub : Byte) (s : State) : Res :=
  agentPacket t (fun s =>
    match s.agentObj t.val index.toNat sub.toNat with
    | (_, some r) =>
      s.dictAnswer req.toNat 0 (leOfNat (typeSize r.type) (s.objNat r.index t.val sub.toNat % 256 ^ typeSize r.type))
    | (st, none) => s.dictAnswer req.toNat st []) s

/-- DICT_OBJECT_WRITE (R433, R450, R451): every object of an agent is read only. -/
def execDictObjectWrite (t : TileIx) (req index : U16) (sub : Byte) (_value : U64) (s : State) : Res :=
  agentPacket t (fun s =>
    match s.agentObj t.val index.toNat sub.toNat with
    | (_, some _) => s.dictAnswer req.toNat 0x0103 []
    | (st, none) => s.dictAnswer req.toNat st []) s

/-- A memory packet at the engine it names (R215, R433): bytes of its own stack, 1 to 4,032 of them; a stack that does not answer leaves the
request waiting. The request number plus 1 stands with it. -/
def State.engineMemory (s : State) (e : EngineIx) (req addr count : Nat) (m : MemRequest) (now : State → State) : State :=
  if count = 0 ∨ 4032 < count ∨ 2 ^ 48 ≤ addr then s.dictAnswer req 0x0107 []
  else
    match s.locate addr, s.locate (addr + count - 1) with
    | some a, some b =>
      if a.1 ≠ e.val / 2 ∨ b.1 ≠ e.val / 2 then s.dictAnswer req 0x0576 []
      else if s.stackUsable (e.val / 2) then now s
      else { s with mem := { s.mem with service := s.mem.service ++ [(e.val, m, req + 1)] } }
    | _, _ => s.dictAnswer req 0x0576 []

/-- DICT_MEMORY_READ (R433). -/
def execDictMemoryRead (e : EngineIx) (req : U16) (addr : U64) (count : U16) (s : State) : Res :=
  .next (s.engineMemory e req.toNat addr.toNat count.toNat (.read addr.toNat count.toNat) (fun s =>
    (s.countPoisonRead addr.toNat count.toNat).dictAnswer req.toNat 0 (s.memBytes addr.toNat count.toNat)))

/-- DICT_MEMORY_WRITE (R433). -/
def execDictMemoryWrite (e : EngineIx) (req : U16) (addr : U64) (data : List Byte) (s : State) : Res :=
  .next (s.engineMemory e req.toNat addr.toNat data.length (.write addr.toNat data false) (fun s =>
    (s.memWrite addr.toNat data false).dictAnswer req.toNat 0 []))

/-- DICT_REPLY (R433): the reply of a request number reaches the management processor. -/
def execDictReply (req : U16) (s : State) : Res :=
  .next (match s.host.dictReplies.find? (fun r => r.1 == req.toNat) with
    | some r => ({ s with host := { s.host with dictReplies := s.host.dictReplies.erase r } } : State).send (.answer 4 r.2.1 r.2.2)
    | none => s)

end Sys2Proof.Machine
end

