-- ==== Sys2Proof/Machine/Ports.lean ====
section
/-! DEFINITION. The Ethernet and SMBus ports (R369, R422, R423, R434, R461). -/

namespace Sys2Proof.Machine

/-! ## Ethernet (R422) -/

/-- Frames from the PHY are taken: the link is up, and the port answers (R369, R461). -/
def State.ethOn (s : State) : Bool := s.host.ethUp && s.carrierOn .ethernet

/-- A frame that is discarded is counted. -/
def State.ethDiscard (s : State) : State := s.bump (ck 0x1040 0x0C) 1

/-- The link-local IPv6 address of the MAC address, by the common rule (PRESUMED, log entry 50). -/
def State.linkLocal6 (s : State) : List Byte :=
  let m := beOfNat 6 (s.host.ethMac)
  [0xFE, 0x80, 0, 0, 0, 0, 0, 0, m.getD 0 0 ^^^ 2, m.getD 1 0, m.getD 2 0, 0xFF, 0xFE, m.getD 3 0, m.getD 4 0, m.getD 5 0]

/-- ETH_PENNOS_DATAGRAM (R422, R424, R428): a datagram on port 47813; a request that finds the queue empty is served. -/
def execEthPennosDatagram (origin : Nat) (frame : List Byte) (s : State) : Res :=
  .next (if s.ethOn then s.arriveServed 0 origin frame else s)

/-- ARP_REQUEST (R422): answered for the address in force. -/
def execArpRequest (target : U32) (s : State) : Res :=
  .next (if ! s.ethOn then s
    else if target.toNat = s.host.ethAddr4 then s.send (.eth 0 (beOfNat 6 (s.host.ethMac) ++ beOfNat 4 s.host.ethAddr4))
    else s.ethDiscard)

/-- NDP_MESSAGE (R422): answered for the addresses in force. -/
def execNdpMessage (target : List Byte) (s : State) : Res :=
  .next (if ! s.ethOn then s
    else if target = s.linkLocal6 ∨ target = s.host.ethAddr6 then s.send (.eth 1 (beOfNat 6 (s.host.ethMac) ++ target))
    else s.ethDiscard)

/-- ICMP_ECHO (R422): the payload returns. -/
def execIcmpEcho (v6 : Bool) (payload : List Byte) (s : State) : Res :=
  .next (if s.ethOn then s.send (.eth (if v6 then 3 else 2) payload) else s)

/-- ETH_OTHER_FRAME (R422). -/
def execEthOtherFrame (s : State) : Res := .next (if s.ethOn then s.ethDiscard else s)

/-- ETH_ADDRESS_APPLY (R422): 1 s after a write of an address object, its value applies and every Ethernet session closes. -/
def execEthAddressApply (s : State) : Res :=
  .next (if s.boot.powered && s.host.ethDue then
    s.takeAddresses.updHost (fun h => { h with sessions := h.sessions.filter (fun q => q.car != 0) }) else s)

/-- SGMII_LINK_CHANGE (R422, R434). -/
def execSgmiiLinkChange (up : Bool) (s : State) : Res := .next (if s.boot.powered then s.updHost (fun h => { h with ethUp := up }) else s)

/-! ## SMBus (R423) -/

/-- The 7-bit address. -/
def State.smAddr (s : State) : Nat := 0x60 + s.host.straps % 8

/-- A transaction with a good PEC at the device's address; a wrong PEC only counts (R369, R423). -/
def smbusRow (pecGood : Bool) (f : State → State) (s : State) : Res :=
  .next (if ! s.carrierOn .smbus then s else if pecGood then f s else s.bump (ck 0x1040 0x0D) 1)

/-- SMBUS_BLOCK_WRITE (R423): one request frame of 1 to 255 B; it discards a response not yet read, and the answers of those before it. -/
def execSmbusBlockWrite (pecGood : Bool) (frame : List Byte) (s : State) : Res :=
  smbusRow pecGood (fun s =>
    if frame.isEmpty ∨ 255 < frame.length then s
    else (s.updHost (fun h => { h with
      smResp := none, smBusy := false, queue := h.queue.map (fun r => if r.car = 2 then { r with origin := 1 } else r) })).arriveServed 2 0 frame) s

/-- The frame of an event that waits for SMBus: an entry with its phase bit 0 (R411, R423). -/
def alertFrame (e : Event) : List Byte := pennosFrame false 0 fkNotify 0 0 0 (entryBytes e.kind e.unit e.tally e.data)

/-- SMBUS_BLOCK_READ (R423): after the Alert Response Address the event, else the response, else a block of length 0. -/
def execSmbusBlockRead (pecGood : Bool) (s : State) : Res :=
  smbusRow pecGood (fun s =>
    match s.host.alertNext, s.host.alerts with
    | true, e :: l => (s.updHost (fun h => { h with alertNext := false, alerts := l })).send (.smbus (alertFrame e))
    | _, _ =>
      match s.host.smResp with
      | some f => (s.updHost (fun h => { h with smResp := none })).send (.smbus f)
      | none => s.send (.smbus [])) s

/-- SMBUS_READ_BYTE (R423): 0 idle, 1 in progress, 2 response ready. -/
def execSmbusReadByte (pecGood : Bool) (s : State) : Res :=
  smbusRow pecGood (fun s => s.send (.smbus [if s.host.smResp.isSome then 2 else if s.host.smBusy then 1 else 0])) s

/-- SMBUS_ALERT_RESPONSE (R423): answered while an event waits; the next Block Read returns it. -/
def execSmbusAlertResponse (pecGood : Bool) (s : State) : Res :=
  smbusRow pecGood (fun s =>
    if s.host.alerts.isEmpty then s
    else (s.updHost (fun h => { h with alertNext := true })).send (.smbus [BitVec.ofNat 8 (2 * s.smAddr)])) s

end Sys2Proof.Machine
end

