-- ==== Sys2Proof/Machine/UpdateInsns.lean ====
section
/-! DEFINITION. The instructions of the update engine (chapter 9). -/

namespace Sys2Proof.Machine

/-- UPD.GROUP (R242). -/
def execUpdGroup (i : CoreAt) (sa sb : Reg) (opt : BitVec 12) (s : State) : Res :=
  onTile i.tile (fun e => updGroupOp e i.core sa sb opt) s

/-- UPD.RUN (R242). -/
def execUpdRun (i : CoreAt) (sa sb : Reg) (opt : BitVec 12) (s : State) : Res :=
  onTile i.tile (fun e => updRunOp e i.core sa sb opt) s

/-- UPD.WAIT (R242). -/
def execUpdWait (i : CoreAt) (sa sb : Reg) (opt : BitVec 12) (s : State) : Res :=
  onTile i.tile (fun e => updWaitOp e i.core sa sb opt) s

end Sys2Proof.Machine
end

