-- ==== Sys2Proof/Machine/Dispatch.lean ====
section
/-! DEFINITION. The dispatch of the commands to their meanings. -/

namespace Sys2Proof.Machine

def exec (i : Instr) (s : State) : Host.Outcome State Fault Refusal :=
  match i with
  | .coldStart => Sys2Proof.Machine.execColdStart s
  | .s0Rails failedDies strap1 strap2 strap3 => Sys2Proof.Machine.execS0Rails failedDies strap1 strap2 strap3 s
  | .s1Boot => Sys2Proof.Machine.execS1Boot s
  | .s2FusesAndShadowMap fuse0Ok fuse1Ok journalOk => Sys2Proof.Machine.execS2FusesAndShadowMap fuse0Ok fuse1Ok journalOk s
  | .s3DomainsOn notGood => Sys2Proof.Machine.execS3DomainsOn notGood s
  | .s4ClockAlignment failed => Sys2Proof.Machine.execS4ClockAlignment failed s
  | .s5TileTest defects returnDefects => Sys2Proof.Machine.execS5TileTest defects returnDefects s
  | .s6StackTraining results => Sys2Proof.Machine.execS6StackTraining results s
  | .s7EcmetFirmware => Sys2Proof.Machine.execS7EcmetFirmware s
  | .s8LinkBringup failedDies links => Sys2Proof.Machine.execS8LinkBringup failedDies links s
  | .s9Usable elapsedMs => Sys2Proof.Machine.execS9Usable elapsedMs s
  | .itemBudgetExpiry item => Sys2Proof.Machine.execItemBudgetExpiry item s
  | .failedHot z => Sys2Proof.Machine.execFailedHot z s
  | .warmRestart car => Sys2Proof.Machine.execWarmRestart car s
  | .tileFirmwareFetch t digestGood => Sys2Proof.Machine.execTileFirmwareFetch t digestGood s
  | .fwUpdateControl car v => Sys2Proof.Machine.execFwUpdateControl car v s
  | .fwChunkBroadcast => Sys2Proof.Machine.execFwChunkBroadcast s
  | .fwChunkReceive t chunk bufferFree digestGood => Sys2Proof.Machine.execFwChunkReceive t chunk bufferFree digestGood s
  | .fwChunkRefetch t chunk => Sys2Proof.Machine.execFwChunkRefetch t chunk s
  | .fwActivation => Sys2Proof.Machine.execFwActivation s
  | .fwLaggardTimeout => Sys2Proof.Machine.execFwLaggardTimeout s
  | .mgmtWatchdogExpiry => Sys2Proof.Machine.execMgmtWatchdogExpiry s
  | .brownout => Sys2Proof.Machine.execBrownout s
  | .lifeRecordCommit => Sys2Proof.Machine.execLifeRecordCommit s
  | .add at1 d a b => Sys2Proof.Machine.execAdd at1 d a b s
  | .sub at1 d a b => Sys2Proof.Machine.execSub at1 d a b s
  | .and at1 d a b => Sys2Proof.Machine.execAnd at1 d a b s
  | .or at1 d a b => Sys2Proof.Machine.execOr at1 d a b s
  | .xor at1 d a b => Sys2Proof.Machine.execXor at1 d a b s
  | .shl at1 d a b => Sys2Proof.Machine.execShl at1 d a b s
  | .shr at1 d a b => Sys2Proof.Machine.execShr at1 d a b s
  | .sar at1 d a b => Sys2Proof.Machine.execSar at1 d a b s
  | .slt at1 d a b => Sys2Proof.Machine.execSlt at1 d a b s
  | .sltu at1 d a b => Sys2Proof.Machine.execSltu at1 d a b s
  | .min at1 d a b => Sys2Proof.Machine.execMin at1 d a b s
  | .max at1 d a b => Sys2Proof.Machine.execMax at1 d a b s
  | .minu at1 d a b => Sys2Proof.Machine.execMinu at1 d a b s
  | .maxu at1 d a b => Sys2Proof.Machine.execMaxu at1 d a b s
  | .mul at1 d a b => Sys2Proof.Machine.execMul at1 d a b s
  | .mulh at1 d a b => Sys2Proof.Machine.execMulh at1 d a b s
  | .mulhu at1 d a b => Sys2Proof.Machine.execMulhu at1 d a b s
  | .div at1 d a b => Sys2Proof.Machine.execDiv at1 d a b s
  | .divu at1 d a b => Sys2Proof.Machine.execDivu at1 d a b s
  | .rem at1 d a b => Sys2Proof.Machine.execRem at1 d a b s
  | .remu at1 d a b => Sys2Proof.Machine.execRemu at1 d a b s
  | .mix64 at1 d a b => Sys2Proof.Machine.execMix64 at1 d a b s
  | .popc at1 d a b => Sys2Proof.Machine.execPopc at1 d a b s
  | .clz at1 d a b => Sys2Proof.Machine.execClz at1 d a b s
  | .jr at1 d a b => Sys2Proof.Machine.execJr at1 d a b s
  | .addi at1 d a imm => Sys2Proof.Machine.execAddi at1 d a imm s
  | .andi at1 d a imm => Sys2Proof.Machine.execAndi at1 d a imm s
  | .ori at1 d a imm => Sys2Proof.Machine.execOri at1 d a imm s
  | .xori at1 d a imm => Sys2Proof.Machine.execXori at1 d a imm s
  | .shiftiShl at1 d a amt z => Sys2Proof.Machine.execShiftiShl at1 d a amt z s
  | .shiftiShr at1 d a amt z => Sys2Proof.Machine.execShiftiShr at1 d a amt z s
  | .shiftiSar at1 d a amt z => Sys2Proof.Machine.execShiftiSar at1 d a amt z s
  | .lih at1 d a imm => Sys2Proof.Machine.execLih at1 d a imm s
  | .slti at1 d a imm => Sys2Proof.Machine.execSlti at1 d a imm s
  | .ld64 at1 d a imm => Sys2Proof.Machine.execLd64 at1 d a imm s
  | .ld32 at1 d a imm => Sys2Proof.Machine.execLd32 at1 d a imm s
  | .ld32u at1 d a imm => Sys2Proof.Machine.execLd32u at1 d a imm s
  | .ld16 at1 d a imm => Sys2Proof.Machine.execLd16 at1 d a imm s
  | .ld16u at1 d a imm => Sys2Proof.Machine.execLd16u at1 d a imm s
  | .ld8 at1 d a imm => Sys2Proof.Machine.execLd8 at1 d a imm s
  | .ld8u at1 d a imm => Sys2Proof.Machine.execLd8u at1 d a imm s
  | .st64 at1 d a imm => Sys2Proof.Machine.execSt64 at1 d a imm s
  | .st32 at1 d a imm => Sys2Proof.Machine.execSt32 at1 d a imm s
  | .st16 at1 d a imm => Sys2Proof.Machine.execSt16 at1 d a imm s
  | .st8 at1 d a imm => Sys2Proof.Machine.execSt8 at1 d a imm s
  | .vld at1 d a imm => Sys2Proof.Machine.execVld at1 d a imm s
  | .vst at1 d a imm => Sys2Proof.Machine.execVst at1 d a imm s
  | .beq at1 a b off => Sys2Proof.Machine.execBeq at1 a b off s
  | .bne at1 a b off => Sys2Proof.Machine.execBne at1 a b off s
  | .blt at1 a b off => Sys2Proof.Machine.execBlt at1 a b off s
  | .bge at1 a b off => Sys2Proof.Machine.execBge at1 a b off s
  | .bltu at1 a b off => Sys2Proof.Machine.execBltu at1 a b off s
  | .bgeu at1 a b off => Sys2Proof.Machine.execBgeu at1 a b off s
  | .j at1 off => Sys2Proof.Machine.execJ at1 off s
  | .jal at1 off => Sys2Proof.Machine.execJal at1 off s
  | .vadd at1 vd va vb ty => Sys2Proof.Machine.execVadd at1 vd va vb ty s
  | .vsub at1 vd va vb ty => Sys2Proof.Machine.execVsub at1 vd va vb ty s
  | .vmul at1 vd va vb ty => Sys2Proof.Machine.execVmul at1 vd va vb ty s
  | .vfma at1 vd va vb ty => Sys2Proof.Machine.execVfma at1 vd va vb ty s
  | .vmin at1 vd va vb ty => Sys2Proof.Machine.execVmin at1 vd va vb ty s
  | .vmax at1 vd va vb ty => Sys2Proof.Machine.execVmax at1 vd va vb ty s
  | .vabs at1 vd va vb ty => Sys2Proof.Machine.execVabs at1 vd va vb ty s
  | .vneg at1 vd va vb ty => Sys2Proof.Machine.execVneg at1 vd va vb ty s
  | .vadds at1 vd va vb ty => Sys2Proof.Machine.execVadds at1 vd va vb ty s
  | .vsubs at1 vd va vb ty => Sys2Proof.Machine.execVsubs at1 vd va vb ty s
  | .vand at1 vd va vb ty => Sys2Proof.Machine.execVand at1 vd va vb ty s
  | .vor at1 vd va vb ty => Sys2Proof.Machine.execVor at1 vd va vb ty s
  | .vxor at1 vd va vb ty => Sys2Proof.Machine.execVxor at1 vd va vb ty s
  | .vsel at1 vd va vb ty => Sys2Proof.Machine.execVsel at1 vd va vb ty s
  | .vcmplt at1 vd va vb ty => Sys2Proof.Machine.execVcmplt at1 vd va vb ty s
  | .vcmpeq at1 vd va vb ty => Sys2Proof.Machine.execVcmpeq at1 vd va vb ty s
  | .vperm at1 vd va vb ty => Sys2Proof.Machine.execVperm at1 vd va vb ty s
  | .vcvt at1 vd va vb ty => Sys2Proof.Machine.execVcvt at1 vd va vb ty s
  | .vsplat at1 vd sa ty => Sys2Proof.Machine.execVsplat at1 vd sa ty s
  | .vext at1 sd va sa ty => Sys2Proof.Machine.execVext at1 sd va sa ty s
  | .vins at1 vd sa sd ty => Sys2Proof.Machine.execVins at1 vd sa sd ty s
  | .vredadd at1 sd va ty => Sys2Proof.Machine.execVredadd at1 sd va ty s
  | .vredmax at1 sd va ty => Sys2Proof.Machine.execVredmax at1 sd va ty s
  | .vredmin at1 sd va ty => Sys2Proof.Machine.execVredmin at1 sd va ty s
  | .venc16 at1 vd va sa sd fmt => Sys2Proof.Machine.execVenc16 at1 vd va sa sd fmt s
  | .venc32 at1 vd va sa sd fmt => Sys2Proof.Machine.execVenc32 at1 vd va sa sd fmt s
  | .vdec at1 vd va sa fmt => Sys2Proof.Machine.execVdec at1 vd va sa fmt s
  | .vsck at1 sd va sa fmt => Sys2Proof.Machine.execVsck at1 sd va sa fmt s
  | .fnExp2 at1 vd va vb ty z => Sys2Proof.Machine.execFnExp2 at1 vd va vb ty z s
  | .fnLog2 at1 vd va vb ty z => Sys2Proof.Machine.execFnLog2 at1 vd va vb ty z s
  | .fnRcp at1 vd va vb ty z => Sys2Proof.Machine.execFnRcp at1 vd va vb ty z s
  | .fnRsqrt at1 vd va vb ty z => Sys2Proof.Machine.execFnRsqrt at1 vd va vb ty z s
  | .fnTanh at1 vd va vb ty z => Sys2Proof.Machine.execFnTanh at1 vd va vb ty z s
  | .fnSigm at1 vd va vb ty z => Sys2Proof.Machine.execFnSigm at1 vd va vb ty z s
  | .fnErf at1 vd va vb ty z => Sys2Proof.Machine.execFnErf at1 vd va vb ty z s
  | .fnSinp at1 vd va vb ty z => Sys2Proof.Machine.execFnSinp at1 vd va vb ty z s
  | .csrr at1 d num => Sys2Proof.Machine.execCsrr at1 d num s
  | .csrw at1 a num => Sys2Proof.Machine.execCsrw at1 a num s
  | .plWait at1 a z => Sys2Proof.Machine.execPlWait at1 a z s
  | .winOpen at1 d a w z => Sys2Proof.Machine.execWinOpen at1 d a w z s
  | .winClose at1 w z => Sys2Proof.Machine.execWinClose at1 w z s
  | .rwWait at1 d a w z waited => Sys2Proof.Machine.execRwWait at1 d a w z waited s
  | .svSend at1 d a z waited => Sys2Proof.Machine.execSvSend at1 d a z waited s
  | .svRecv at1 d a z waited => Sys2Proof.Machine.execSvRecv at1 d a z waited s
  | .tallyRd at1 d z waited => Sys2Proof.Machine.execTallyRd at1 d z waited s
  | .sensRd at1 d a z waited => Sys2Proof.Machine.execSensRd at1 d a z waited s
  | .lnkRd at1 d a z answered waited => Sys2Proof.Machine.execLnkRd at1 d a z answered waited s
  | .sync at1 mask z => Sys2Proof.Machine.execSync at1 mask z s
  | .stepEnd at1 a z => Sys2Proof.Machine.execStepEnd at1 a z s
  | .watchdogExpiry at1 => Sys2Proof.Machine.execWatchdogExpiry at1 s
  | .frameLoadw at1 sa sb opt => Sys2Proof.Machine.execFrameLoadw at1 sa sb opt s
  | .frameMul at1 sa sb opt => Sys2Proof.Machine.execFrameMul at1 sa sb opt s
  | .frameDrain at1 sa sb opt => Sys2Proof.Machine.execFrameDrain at1 sa sb opt s
  | .frameDrainPartial at1 sa sb opt => Sys2Proof.Machine.execFrameDrainPartial at1 sa sb opt s
  | .frameLoada at1 sa sb opt => Sys2Proof.Machine.execFrameLoada at1 sa sb opt s
  | .frameEwAdd at1 sa sb opt => Sys2Proof.Machine.execFrameEwAdd at1 sa sb opt s
  | .frameEwSub at1 sa sb opt => Sys2Proof.Machine.execFrameEwSub at1 sa sb opt s
  | .frameEwMul at1 sa sb opt => Sys2Proof.Machine.execFrameEwMul at1 sa sb opt s
  | .frameEwMax at1 sa sb opt => Sys2Proof.Machine.execFrameEwMax at1 sa sb opt s
  | .frameEwMin at1 sa sb opt => Sys2Proof.Machine.execFrameEwMin at1 sa sb opt s
  | .frameEwRescale at1 sa sb opt => Sys2Proof.Machine.execFrameEwRescale at1 sa sb opt s
  | .frameEwEnc at1 sa sb opt => Sys2Proof.Machine.execFrameEwEnc at1 sa sb opt s
  | .frameEwDec at1 sa sb opt => Sys2Proof.Machine.execFrameEwDec at1 sa sb opt s
  | .frameWake at1 sa sb opt => Sys2Proof.Machine.execFrameWake at1 sa sb opt s
  | .frameRest at1 sa sb opt => Sys2Proof.Machine.execFrameRest at1 sa sb opt s
  | .frameWait at1 sa sb opt => Sys2Proof.Machine.execFrameWait at1 sa sb opt s
  | .frameAutoRest t => Sys2Proof.Machine.execFrameAutoRest t s
  | .updGroup at1 sa sb opt => Sys2Proof.Machine.execUpdGroup at1 sa sb opt s
  | .updRun at1 sa sb opt => Sys2Proof.Machine.execUpdRun at1 sa sb opt s
  | .updWait at1 sa sb opt => Sys2Proof.Machine.execUpdWait at1 sa sb opt s
  | .slotPass t entry entryBad corrupt => Sys2Proof.Machine.execSlotPass t entry entryBad corrupt s
  | .slotAdd160 t entry entryBad corrupt => Sys2Proof.Machine.execSlotAdd160 t entry entryBad corrupt s
  | .slotAdd160Final t entry entryBad corrupt => Sys2Proof.Machine.execSlotAdd160Final t entry entryBad corrupt s
  | .slotMax32 t entry entryBad corrupt => Sys2Proof.Machine.execSlotMax32 t entry entryBad corrupt s
  | .slotSum64 t entry entryBad corrupt => Sys2Proof.Machine.execSlotSum64 t entry entryBad corrupt s
  | .unscheduledArrival t port cy => Sys2Proof.Machine.execUnscheduledArrival t port cy s
  | .serviceLineHop t out response corrupt => Sys2Proof.Machine.execServiceLineHop t out response corrupt s
  | .hopCreditReturn t out response => Sys2Proof.Machine.execHopCreditReturn t out response s
  | .msgArrival t => Sys2Proof.Machine.execMsgArrival t s
  | .rwriteArrival t => Sys2Proof.Machine.execRwriteArrival t s
  | .remoteLineLanding t deferredCy => Sys2Proof.Machine.execRemoteLineLanding t deferredCy s
  | .complArrival t => Sys2Proof.Machine.execComplArrival t s
  | .serviceRequestTimeout at1 tag => Sys2Proof.Machine.execServiceRequestTimeout at1 tag s
  | .copyRead e desc corrupt => Sys2Proof.Machine.execCopyRead e desc corrupt s
  | .copyReadReq e desc corrupt => Sys2Proof.Machine.execCopyReadReq e desc corrupt s
  | .copyWrite e desc => Sys2Proof.Machine.execCopyWrite e desc s
  | .copyMove e desc err0 err1 => Sys2Proof.Machine.execCopyMove e desc err0 err1 s
  | .copyFill e desc => Sys2Proof.Machine.execCopyFill e desc s
  | .readRequestArrival e desc => Sys2Proof.Machine.execReadRequestArrival e desc s
  | .lineFetch e desc err0 err1 => Sys2Proof.Machine.execLineFetch e desc err0 err1 s
  | .lineStaged e desc => Sys2Proof.Machine.execLineStaged e desc s
  | .patrolScrub m line err0 err1 => Sys2Proof.Machine.execPatrolScrub m line err0 err1 s
  | .stackTempRead m tempC => Sys2Proof.Machine.execStackTempRead m tempC s
  | .refreshShorten m => Sys2Proof.Machine.execRefreshShorten m s
  | .engineFenceTimeout e => Sys2Proof.Machine.execEngineFenceTimeout e s
  | .engineServiceRequest e req => Sys2Proof.Machine.execEngineServiceRequest e req s
  | .engineServiceTimeout e => Sys2Proof.Machine.execEngineServiceTimeout e s
  | .jobLoad j car => Sys2Proof.Machine.execJobLoad j car s
  | .loadChecksComplete j => Sys2Proof.Machine.execLoadChecksComplete j s
  | .jobStart j car => Sys2Proof.Machine.execJobStart j car s
  | .jobReplayStart j car => Sys2Proof.Machine.execJobReplayStart j car s
  | .jobCycle0Release j => Sys2Proof.Machine.execJobCycle0Release j s
  | .jobStop j car => Sys2Proof.Machine.execJobStop j car s
  | .jobKill j car => Sys2Proof.Machine.execJobKill j car s
  | .jobClear j car failedTiles failedWires failedLanes => Sys2Proof.Machine.execJobClear j car failedTiles failedWires failedLanes s
  | .unitFenceArrival j u lateCy => Sys2Proof.Machine.execUnitFenceArrival j u lateCy s
  | .fenceRootDecision j => Sys2Proof.Machine.execFenceRootDecision j s
  | .fenceRelease j => Sys2Proof.Machine.execFenceRelease j s
  | .stepTimeout j => Sys2Proof.Machine.execStepTimeout j s
  | .fenceEventWrite j car index sub value => Sys2Proof.Machine.execFenceEventWrite j car index sub value s
  | .digestSnapshot j car value => Sys2Proof.Machine.execDigestSnapshot j car value s
  | .groupEta j car g value => Sys2Proof.Machine.execGroupEta j car g value s
  | .groupFrozen j car g value => Sys2Proof.Machine.execGroupFrozen j car g value s
  | .selftestFrameLogic car zones => Sys2Proof.Machine.execSelftestFrameLogic car zones s
  | .selftestCoreLogic car zones => Sys2Proof.Machine.execSelftestCoreLogic car zones s
  | .selftestRouterMesh car zones => Sys2Proof.Machine.execSelftestRouterMesh car zones s
  | .selftestScratchpadMarch car zones => Sys2Proof.Machine.execSelftestScratchpadMarch car zones s
  | .selftestSensorCalibration car zones => Sys2Proof.Machine.execSelftestSensorCalibration car zones s
  | .selftestModuleLanes car modules => Sys2Proof.Machine.execSelftestModuleLanes car modules s
  | .quietSlotTest j z kind => Sys2Proof.Machine.execQuietSlotTest j z kind s
  | .selftestComplete unit kind failedTiles => Sys2Proof.Machine.execSelftestComplete unit kind failedTiles s
  | .wcmpRound => Sys2Proof.Machine.execWcmpRound s
  | .wcmpAnswer device phase value => Sys2Proof.Machine.execWcmpAnswer device phase value s
  | .wcmpPhaseTimeout => Sys2Proof.Machine.execWcmpPhaseTimeout s
  | .wcmpOutvote => Sys2Proof.Machine.execWcmpOutvote s
  | .refLoss => Sys2Proof.Machine.execRefLoss s
  | .refReturn => Sys2Proof.Machine.execRefReturn s
  | .crossingSlip t port => Sys2Proof.Machine.execCrossingSlip t port s
  | .droopAssert z elapsed => Sys2Proof.Machine.execDroopAssert z elapsed s
  | .shuntRecharged z => Sys2Proof.Machine.execShuntRecharged z s
  | .stretchEnd z => Sys2Proof.Machine.execStretchEnd z s
  | .stretchRestart z => Sys2Proof.Machine.execStretchRestart z s
  | .stretchNotice z origin seq len elapsed => Sys2Proof.Machine.execStretchNotice z origin seq len elapsed s
  | .stretchExtension z origin seq len => Sys2Proof.Machine.execStretchExtension z origin seq len s
  | .freqTargetChange z marginMhz => Sys2Proof.Machine.execFreqTargetChange z marginMhz s
  | .freqSwitchAnnounce => Sys2Proof.Machine.execFreqSwitchAnnounce s
  | .vlogTargetReached => Sys2Proof.Machine.execVlogTargetReached s
  | .stepUpVoltageTimeout => Sys2Proof.Machine.execStepUpVoltageTimeout s
  | .freqSwitchApply => Sys2Proof.Machine.execFreqSwitchApply s
  | .guardWindowClose => Sys2Proof.Machine.execGuardWindowClose s
  | .vlogLower => Sys2Proof.Machine.execVlogLower s
  | .shimmerEnable car value => Sys2Proof.Machine.execShimmerEnable car value s
  | .shimmerOffset car value => Sys2Proof.Machine.execShimmerOffset car value s
  | .tallyPulse highNs => Sys2Proof.Machine.execTallyPulse highNs s
  | .tallyGlitch => Sys2Proof.Machine.execTallyGlitch s
  | .tallyMark => Sys2Proof.Machine.execTallyMark s
  | .tallyLoss => Sys2Proof.Machine.execTallyLoss s
  | .tallySlewStep => Sys2Proof.Machine.execTallySlewStep s
  | .tallyEpochNext car value => Sys2Proof.Machine.execTallyEpochNext car value s
  | .tallyResync car => Sys2Proof.Machine.execTallyResync car s
  | .tallyOrigin car value => Sys2Proof.Machine.execTallyOrigin car value s
  | .regDieFault d cause => Sys2Proof.Machine.execRegDieFault d cause s
  | .edgeRegFault d cause => Sys2Proof.Machine.execEdgeRegFault d cause s
  | .vlogRegulationTick g needMv => Sys2Proof.Machine.execVlogRegulationTick g needMv s
  | .sensorFailMark kind index => Sys2Proof.Machine.execSensorFailMark kind index s
  | .currentLedgerTick g measuredQa weights => Sys2Proof.Machine.execCurrentLedgerTick g measuredQa weights s
  | .zoneSwitchOnRequest z => Sys2Proof.Machine.execZoneSwitchOnRequest z s
  | .zoneRampStart z waitUs => Sys2Proof.Machine.execZoneRampStart z waitUs s
  | .slowRampStart z => Sys2Proof.Machine.execSlowRampStart z s
  | .zonePowerGood z => Sys2Proof.Machine.execZonePowerGood z s
  | .powerGoodTimeout z => Sys2Proof.Machine.execPowerGoodTimeout z s
  | .ratingExcess g => Sys2Proof.Machine.execRatingExcess g s
  | .zonePark z => Sys2Proof.Machine.execZonePark z s
  | .zoneIdlePark z => Sys2Proof.Machine.execZoneIdlePark z s
  | .tempSample temps => Sys2Proof.Machine.execTempSample temps s
  | .overtempHoldRelease z => Sys2Proof.Machine.execOvertempHoldRelease z s
  | .parkRequest car mask => Sys2Proof.Machine.execParkRequest car mask s
  | .powerOffRequest car mask => Sys2Proof.Machine.execPowerOffRequest car mask s
  | .unparkRequest car mask => Sys2Proof.Machine.execUnparkRequest car mask s
  | .powerLimitCheck averageW => Sys2Proof.Machine.execPowerLimitCheck averageW s
  | .thermalTrip sensor => Sys2Proof.Machine.execThermalTrip sensor s
  | .tripCoolExpiry => Sys2Proof.Machine.execTripCoolExpiry s
  | .tripRestart car => Sys2Proof.Machine.execTripRestart car s
  | .energyPeriod dieMicroJ => Sys2Proof.Machine.execEnergyPeriod dieMicroJ s
  | .tokenPoolW car value => Sys2Proof.Machine.execTokenPoolW car value s
  | .tokenPeriod reports => Sys2Proof.Machine.execTokenPeriod reports s
  | .tokenDebit seq w => Sys2Proof.Machine.execTokenDebit seq w s
  | .tokenCredit seq w => Sys2Proof.Machine.execTokenCredit seq w s
  | .tokenAck device seq holding => Sys2Proof.Machine.execTokenAck device seq holding s
  | .tokenAckTimeout => Sys2Proof.Machine.execTokenAckTimeout s
  | .tokenMasterSilence => Sys2Proof.Machine.execTokenMasterSilence s
  | .laserLoss k lambda => Sys2Proof.Machine.execLaserLoss k lambda s
  | .rxSignalLoss l => Sys2Proof.Machine.execRxSignalLoss l s
  | .fecLockLoss l => Sys2Proof.Machine.execFecLockLoss l s
  | .linkDown l => Sys2Proof.Machine.execLinkDown l s
  | .linkRetrain l ok latencyNs => Sys2Proof.Machine.execLinkRetrain l ok latencyNs s
  | .identityFlit l f => Sys2Proof.Machine.execIdentityFlit l f s
  | .dataFlitReceive l bytes symbols => Sys2Proof.Machine.execDataFlitReceive l bytes symbols s
  | .nakReceive l fseq => Sys2Proof.Machine.execNakReceive l fseq s
  | .replayTimer l => Sys2Proof.Machine.execReplayTimer l s
  | .retryLimit l => Sys2Proof.Machine.execRetryLimit l s
  | .auditFlit l sent credited => Sys2Proof.Machine.execAuditFlit l sent credited s
  | .planTransferSend right row => Sys2Proof.Machine.execPlanTransferSend right row s
  | .transferLanding p reduction => Sys2Proof.Machine.execTransferLanding p reduction s
  | .linkCalibrationIdle l => Sys2Proof.Machine.execLinkCalibrationIdle l s
  | .tallyFlitSend l => Sys2Proof.Machine.execTallyFlitSend l s
  | .tallyFlitReceive l tally hops => Sys2Proof.Machine.execTallyFlitReceive l tally hops s
  | .linkTallyLoss => Sys2Proof.Machine.execLinkTallyLoss s
  | .masterElectionAnnounce l identity => Sys2Proof.Machine.execMasterElectionAnnounce l identity s
  | .electionSettle => Sys2Proof.Machine.execElectionSettle s
  | .masterHeartbeat => Sys2Proof.Machine.execMasterHeartbeat s
  | .heartbeatLoss => Sys2Proof.Machine.execHeartbeatLoss s
  | .groupReady j device members key => Sys2Proof.Machine.execGroupReady j device members key s
  | .groupStartTally j tally => Sys2Proof.Machine.execGroupStartTally j tally s
  | .groupReadyTimeout j => Sys2Proof.Machine.execGroupReadyTimeout j s
  | .groupFenceReport j r => Sys2Proof.Machine.execGroupFenceReport j r s
  | .groupDecision j d => Sys2Proof.Machine.execGroupDecision j d s
  | .groupReportTimeout j => Sys2Proof.Machine.execGroupReportTimeout j s
  | .pcieConfigRequest write offset value => Sys2Proof.Machine.execPcieConfigRequest write offset value s
  | .functionLevelReset => Sys2Proof.Machine.execFunctionLevelReset s
  | .hotReset => Sys2Proof.Machine.execHotReset s
  | .pcieLinkDown => Sys2Proof.Machine.execPcieLinkDown s
  | .perstAssert => Sys2Proof.Machine.execPerstAssert s
  | .d3hotEntry => Sys2Proof.Machine.execD3hotEntry s
  | .d0Entry => Sys2Proof.Machine.execD0Entry s
  | .busMasterDisable => Sys2Proof.Machine.execBusMasterDisable s
  | .aerFatalError => Sys2Proof.Machine.execAerFatalError s
  | .w2Base value => Sys2Proof.Machine.execW2Base value s
  | .mbxDoorbell value => Sys2Proof.Machine.execMbxDoorbell value s
  | .mailboxDispatch n => Sys2Proof.Machine.execMailboxDispatch n s
  | .mbxRelease value => Sys2Proof.Machine.execMbxRelease value s
  | .eqCtrl q value => Sys2Proof.Machine.execEqCtrl q value s
  | .eqHead q value => Sys2Proof.Machine.execEqHead q value s
  | .bar0RegisterWrite offset width value => Sys2Proof.Machine.execBar0RegisterWrite offset width value s
  | .bar2Read offset len => Sys2Proof.Machine.execBar2Read offset len s
  | .bar2Write offset data poisoned => Sys2Proof.Machine.execBar2Write offset data poisoned s
  | .bar4Read offset len => Sys2Proof.Machine.execBar4Read offset len s
  | .bar4Write offset data => Sys2Proof.Machine.execBar4Write offset data s
  | .eventRaise kind unit data => Sys2Proof.Machine.execEventRaise kind unit data s
  | .eventEntryWrite q => Sys2Proof.Machine.execEventEntryWrite q s
  | .msixSignal q timer => Sys2Proof.Machine.execMsixSignal q timer s
  | .getVersion => Sys2Proof.Machine.execGetVersion s
  | .getCapabilities => Sys2Proof.Machine.execGetCapabilities s
  | .negotiateAlgorithms asym hash => Sys2Proof.Machine.execNegotiateAlgorithms asym hash s
  | .getDigests => Sys2Proof.Machine.execGetDigests s
  | .getCertificate slot offset len => Sys2Proof.Machine.execGetCertificate slot offset len s
  | .challenge slot nonce => Sys2Proof.Machine.execChallenge slot nonce s
  | .getMeasurements index sign nonce => Sys2Proof.Machine.execGetMeasurements index sign nonce s
  | .ethPennosDatagram origin frame => Sys2Proof.Machine.execEthPennosDatagram origin frame s
  | .arpRequest target => Sys2Proof.Machine.execArpRequest target s
  | .ndpMessage target => Sys2Proof.Machine.execNdpMessage target s
  | .icmpEcho v6 payload => Sys2Proof.Machine.execIcmpEcho v6 payload s
  | .ethOtherFrame => Sys2Proof.Machine.execEthOtherFrame s
  | .ethAddressApply => Sys2Proof.Machine.execEthAddressApply s
  | .smbusBlockWrite pecGood frame => Sys2Proof.Machine.execSmbusBlockWrite pecGood frame s
  | .smbusBlockRead pecGood => Sys2Proof.Machine.execSmbusBlockRead pecGood s
  | .smbusReadByte pecGood => Sys2Proof.Machine.execSmbusReadByte pecGood s
  | .smbusAlertResponse pecGood => Sys2Proof.Machine.execSmbusAlertResponse pecGood s
  | .hello car origin versions maxFrame => Sys2Proof.Machine.execHello car origin versions maxFrame s
  | .close car origin session => Sys2Proof.Machine.execClose car origin session s
  | .pennosRequest car origin frame => Sys2Proof.Machine.execPennosRequest car origin frame s
  | .pennosRead session index sub len => Sys2Proof.Machine.execPennosRead session index sub len s
  | .pennosWrite session index sub value => Sys2Proof.Machine.execPennosWrite session index sub value s
  | .readRange session index sub offset len => Sys2Proof.Machine.execReadRange session index sub offset len s
  | .writeRange session index sub offset value => Sys2Proof.Machine.execWriteRange session index sub offset value s
  | .subscribe session mask => Sys2Proof.Machine.execSubscribe session mask s
  | .commit session index sub => Sys2Proof.Machine.execCommit session index sub s
  | .sessionIdleTimeout session => Sys2Proof.Machine.execSessionIdleTimeout session s
  | .dictRequestTimeout => Sys2Proof.Machine.execDictRequestTimeout s
  | .dictObjectRead t req index sub => Sys2Proof.Machine.execDictObjectRead t req index sub s
  | .dictObjectWrite t req index sub value => Sys2Proof.Machine.execDictObjectWrite t req index sub value s
  | .dictMemoryRead e req addr count => Sys2Proof.Machine.execDictMemoryRead e req addr count s
  | .dictMemoryWrite e req addr data => Sys2Proof.Machine.execDictMemoryWrite e req addr data s
  | .dictReply req => Sys2Proof.Machine.execDictReply req s
  | .linkFaultRead l => Sys2Proof.Machine.execLinkFaultRead l s
  | .attestNonce car nonce => Sys2Proof.Machine.execAttestNonce car nonce s
  | .attestReport => Sys2Proof.Machine.execAttestReport s
  | .mgmtUpdateControl car v => Sys2Proof.Machine.execMgmtUpdateControl car v s
  | .recoveryImage car offset data => Sys2Proof.Machine.execRecoveryImage car offset data s
  | .maintRemoveDefect car cmd => Sys2Proof.Machine.execMaintRemoveDefect car cmd s
  | .maintClearOverflow car cmd => Sys2Proof.Machine.execMaintClearOverflow car cmd s
  | .maintRemoveRetry car cmd => Sys2Proof.Machine.execMaintRemoveRetry car cmd s
  | .maintThaw car cmd => Sys2Proof.Machine.execMaintThaw car cmd s
  | .maintAdvanceRollback car cmd blown => Sys2Proof.Machine.execMaintAdvanceRollback car cmd blown s
  | .maintRevokeKey car cmd blown => Sys2Proof.Machine.execMaintRevokeKey car cmd blown s
  | .maintRaiseDebugLock car cmd blown => Sys2Proof.Machine.execMaintRaiseDebugLock car cmd blown s
  | .dbgRequest car v => Sys2Proof.Machine.execDbgRequest car v s
  | .dbgChallenge => Sys2Proof.Machine.execDbgChallenge s
  | .dbgResponse car resp inTime => Sys2Proof.Machine.execDbgResponse car resp inTime s
  | .dbgLockNow car => Sys2Proof.Machine.execDbgLockNow car s
  | .debugSessionOpen => Sys2Proof.Machine.execDebugSessionOpen s
  | .haltAt j all steps cycle aheadMs => Sys2Proof.Machine.execHaltAt j all steps cycle aheadMs s
  | .haltNow j all => Sys2Proof.Machine.execHaltNow j all s
  | .jobHalt j => Sys2Proof.Machine.execJobHalt j s
  | .resume j all => Sys2Proof.Machine.execResume j all s
  | .stepCy j all n => Sys2Proof.Machine.execStepCy j all n s
  | .stepInsn j at1 => Sys2Proof.Machine.execStepInsn j at1 s
  | .bpSet at1 n pc enable => Sys2Proof.Machine.execBpSet at1 n pc enable s
  | .wpSet t n p len kind agents enable => Sys2Proof.Machine.execWpSet t n p len kind agents enable s
  | .readCore j at1 cls num => Sys2Proof.Machine.execReadCore j at1 cls num s
  | .writeCore j at1 cls num value => Sys2Proof.Machine.execWriteCore j at1 cls num value s
  | .readSp j t p len => Sys2Proof.Machine.execReadSp j t p len s
  | .writeSp j t p data => Sys2Proof.Machine.execWriteSp j t p data s
  | .readMem addr len => Sys2Proof.Machine.execReadMem addr len s
  | .writeMem j addr data => Sys2Proof.Machine.execWriteMem j addr data s
  | .readFrame j t bank row => Sys2Proof.Machine.execReadFrame j t bank row s
  | .clearPoints => Sys2Proof.Machine.execClearPoints s
  | .bypass => Sys2Proof.Machine.execBypass s
  | .idcode => Sys2Proof.Machine.execIdcode s
  | .samplePreload value => Sys2Proof.Machine.execSamplePreload value s
  | .extest => Sys2Proof.Machine.execExtest s
  | .clamp => Sys2Proof.Machine.execClamp s
  | .highz => Sys2Proof.Machine.execHighz s
  | .dbgframe frame => Sys2Proof.Machine.execDbgframe frame s
  | .trstAssert => Sys2Proof.Machine.execTrstAssert s
  | .tallyReferenceCount => Sys2Proof.Machine.execTallyReferenceCount s
  | .stepUpDelayExpiry => Sys2Proof.Machine.execStepUpDelayExpiry s
  | .parkingComplete z => Sys2Proof.Machine.execParkingComplete z s
  | .pcieLinkUp rateGt width => Sys2Proof.Machine.execPcieLinkUp rateGt width s
  | .perstRelease => Sys2Proof.Machine.execPerstRelease s
  | .sgmiiLinkChange up => Sys2Proof.Machine.execSgmiiLinkChange up s
  | .doeDiscovery index => Sys2Proof.Machine.execDoeDiscovery index s
  | .laserLightArrival k => Sys2Proof.Machine.execLaserLightArrival k s
  | .reservedInstruction at1 word => Sys2Proof.Machine.execReservedInstruction at1 word s

end Sys2Proof.Machine
end

