-- ==== Sys2Proof/WellFormed.lean ====
section
/-! DEFINITION. Which commands can arrive at all: the operands that carry more than the rule of a row gives (a list of the wrong length, a unit
named twice, a register address across a word) are refused here. A core command needs no check: its fields are as wide as its encoding. -/

namespace Sys2Proof

/-- No member of a list is named twice. -/
def distinct {α : Type} [DecidableEq α] : List α → Bool
  | [] => true
  | a :: l => ! l.contains a && distinct l

/-- A service request moves at least one byte (R215, R433). -/
def MemRequest.wf : MemRequest → Bool
  | .read _ len => decide (1 ≤ len)
  | .write _ data _ => decide (1 ≤ data.length)

/-- Identities are below 4,096, links below 36, and a grouping is 6 or 12 (R377, R384, R404). -/
def Identity.wf (f : Identity) : Bool := decide (f.device < 4096) && decide (f.link < 36) && (f.grouping == 6 || f.grouping == 12)

/-- The operands of a command can occur. -/
def Instr.wf : Instr → Bool
  | .s0Rails dies _ _ _ => distinct dies
  | .s3DomainsOn notGood => distinct notGood
  | .s4ClockAlignment failed => distinct failed
  | .s6StackTraining results => distinct (results.map Prod.fst)
  | .s8LinkBringup dies links => distinct dies && distinct (links.map Prod.fst)
  | .tileFirmwareFetch _ good => decide (1 ≤ good.length) && decide (good.length ≤ 3)
  | .patrolScrub _ line _ _ => decide (64 * line < 103079215104)
  | .engineServiceRequest _ req => req.wf
  | .wcmpAnswer device _ _ => decide (device < 4096)
  | .currentLedgerTick _ _ ws => ws.length == 7
  | .tempSample temps => temps.length == 384
  | .energyPeriod es => es.length == 56
  | .identityFlit _ f => f.wf
  | .dataFlitReceive _ bytes _ => bytes.length == 256
  | .auditFlit _ a b => a.length == 4 && b.length == 4
  | .masterElectionAnnounce _ identity => decide (identity < 4096)
  | .groupReady _ device members _ => decide (device < 4096) && decide (members.length ≤ 64)
  | .pcieConfigRequest _ off _ => decide (off < 4096)
  | .bar0RegisterWrite off width _ => decide (1 ≤ width) && decide (width ≤ 8) && off % width == 0
  | .bar2Read _ len => decide (1 ≤ len)
  | .bar2Write _ data _ => decide (1 ≤ data.length)
  | .bar4Read _ len => decide (1 ≤ len)
  | .bar4Write _ data => decide (1 ≤ data.length)
  | .eventRaise _ _ data => decide (data.length ≤ 16)
  | .challenge _ nonce => nonce.length == 32
  | .getMeasurements _ sign nonce => ! sign || nonce.length == 32
  | .ndpMessage target => target.length == 16
  | .smbusBlockWrite _ frame => decide (frame.length ≤ 255)
  | .coldStart | .s1Boot | .s2FusesAndShadowMap .. | .s5TileTest .. | .s7EcmetFirmware | .s9Usable .. | .itemBudgetExpiry ..
    | .failedHot .. | .warmRestart .. | .fwUpdateControl .. | .fwChunkBroadcast | .fwChunkReceive .. | .fwChunkRefetch .. | .fwActivation
    | .fwLaggardTimeout | .mgmtWatchdogExpiry | .brownout | .lifeRecordCommit | .add .. | .sub .. | .and .. | .or .. | .xor .. | .shl ..
    | .shr .. | .sar .. | .slt .. | .sltu .. | .min .. | .max .. | .minu .. | .maxu .. | .mul .. | .mulh .. | .mulhu .. | .div ..
    | .divu .. | .rem .. | .remu .. | .mix64 .. | .popc .. | .clz .. | .jr .. | .addi .. | .andi .. | .ori .. | .xori .. | .shiftiShl ..
    | .shiftiShr .. | .shiftiSar .. | .lih .. | .slti .. | .ld64 .. | .ld32 .. | .ld32u .. | .ld16 .. | .ld16u .. | .ld8 .. | .ld8u ..
    | .st64 .. | .st32 .. | .st16 .. | .st8 .. | .vld .. | .vst .. | .beq .. | .bne .. | .blt .. | .bge .. | .bltu .. | .bgeu .. | .j ..
    | .jal .. | .vadd .. | .vsub .. | .vmul .. | .vfma .. | .vmin .. | .vmax .. | .vabs .. | .vneg .. | .vadds .. | .vsubs .. | .vand ..
    | .vor .. | .vxor .. | .vsel .. | .vcmplt .. | .vcmpeq .. | .vperm .. | .vcvt .. | .vsplat .. | .vext .. | .vins .. | .vredadd ..
    | .vredmax .. | .vredmin .. | .venc16 .. | .venc32 .. | .vdec .. | .vsck .. | .fnExp2 .. | .fnLog2 .. | .fnRcp .. | .fnRsqrt ..
    | .fnTanh .. | .fnSigm .. | .fnErf .. | .fnSinp .. | .csrr .. | .csrw .. | .plWait .. | .winOpen .. | .winClose .. | .rwWait ..
    | .svSend .. | .svRecv .. | .tallyRd .. | .sensRd .. | .lnkRd .. | .sync .. | .stepEnd .. | .watchdogExpiry .. | .frameLoadw ..
    | .frameMul .. | .frameDrain .. | .frameDrainPartial .. | .frameLoada .. | .frameEwAdd .. | .frameEwSub .. | .frameEwMul ..
    | .frameEwMax .. | .frameEwMin .. | .frameEwRescale .. | .frameEwEnc .. | .frameEwDec .. | .frameWake .. | .frameRest ..
    | .frameWait .. | .frameAutoRest .. | .updGroup .. | .updRun .. | .updWait .. | .slotPass .. | .slotAdd160 .. | .slotAdd160Final ..
    | .slotMax32 .. | .slotSum64 .. | .unscheduledArrival .. | .serviceLineHop .. | .hopCreditReturn .. | .msgArrival ..
    | .rwriteArrival .. | .remoteLineLanding .. | .complArrival .. | .serviceRequestTimeout .. | .copyRead .. | .copyReadReq ..
    | .copyWrite .. | .copyMove .. | .copyFill .. | .readRequestArrival .. | .lineFetch .. | .lineStaged .. | .stackTempRead ..
    | .refreshShorten .. | .engineFenceTimeout .. | .engineServiceTimeout .. | .jobLoad .. | .loadChecksComplete .. | .jobStart ..
    | .jobReplayStart .. | .jobCycle0Release .. | .jobStop .. | .jobKill .. | .jobClear .. | .unitFenceArrival .. | .fenceRootDecision ..
    | .fenceRelease .. | .stepTimeout .. | .fenceEventWrite .. | .digestSnapshot .. | .groupEta .. | .groupFrozen ..
    | .selftestFrameLogic .. | .selftestCoreLogic .. | .selftestRouterMesh .. | .selftestScratchpadMarch .. | .selftestSensorCalibration ..
    | .selftestModuleLanes .. | .quietSlotTest .. | .selftestComplete .. | .wcmpRound | .wcmpPhaseTimeout | .wcmpOutvote | .refLoss
    | .refReturn | .crossingSlip .. | .droopAssert .. | .shuntRecharged .. | .stretchEnd .. | .stretchRestart .. | .stretchNotice ..
    | .stretchExtension .. | .freqTargetChange .. | .freqSwitchAnnounce | .vlogTargetReached | .stepUpVoltageTimeout | .freqSwitchApply
    | .guardWindowClose | .vlogLower | .shimmerEnable .. | .shimmerOffset .. | .tallyPulse .. | .tallyGlitch | .tallyMark | .tallyLoss
    | .tallySlewStep | .tallyEpochNext .. | .tallyResync .. | .tallyOrigin .. | .regDieFault .. | .edgeRegFault .. | .vlogRegulationTick ..
    | .sensorFailMark .. | .zoneSwitchOnRequest .. | .zoneRampStart .. | .slowRampStart .. | .zonePowerGood .. | .powerGoodTimeout ..
    | .ratingExcess .. | .zonePark .. | .zoneIdlePark .. | .overtempHoldRelease .. | .parkRequest .. | .powerOffRequest ..
    | .unparkRequest .. | .powerLimitCheck .. | .thermalTrip .. | .tripCoolExpiry | .tripRestart .. | .tokenPoolW .. | .tokenPeriod ..
    | .tokenDebit .. | .tokenCredit .. | .tokenAck .. | .tokenAckTimeout | .tokenMasterSilence | .laserLoss .. | .rxSignalLoss ..
    | .fecLockLoss .. | .linkDown .. | .linkRetrain .. | .nakReceive .. | .replayTimer .. | .retryLimit .. | .planTransferSend ..
    | .transferLanding .. | .linkCalibrationIdle .. | .tallyFlitSend .. | .tallyFlitReceive .. | .linkTallyLoss | .electionSettle
    | .masterHeartbeat | .heartbeatLoss | .groupStartTally .. | .groupReadyTimeout .. | .groupFenceReport .. | .groupDecision ..
    | .groupReportTimeout .. | .functionLevelReset | .hotReset | .pcieLinkDown | .perstAssert | .d3hotEntry | .d0Entry | .busMasterDisable
    | .aerFatalError | .w2Base .. | .mbxDoorbell .. | .mailboxDispatch .. | .mbxRelease .. | .eqCtrl .. | .eqHead .. | .eventEntryWrite ..
    | .msixSignal .. | .getVersion | .getCapabilities | .negotiateAlgorithms .. | .getDigests | .getCertificate .. | .ethPennosDatagram ..
    | .arpRequest .. | .icmpEcho .. | .ethOtherFrame | .ethAddressApply | .smbusBlockRead .. | .smbusReadByte .. | .smbusAlertResponse ..
    | .hello .. | .close .. | .pennosRequest .. | .pennosRead .. | .pennosWrite .. | .readRange .. | .writeRange .. | .subscribe ..
    | .commit .. | .sessionIdleTimeout .. | .dictRequestTimeout | .dictObjectRead .. | .dictObjectWrite .. | .dictMemoryRead ..
    | .dictMemoryWrite .. | .dictReply .. | .linkFaultRead .. | .attestNonce .. | .attestReport | .mgmtUpdateControl .. | .recoveryImage ..
    | .maintRemoveDefect .. | .maintClearOverflow .. | .maintRemoveRetry .. | .maintThaw .. | .maintAdvanceRollback .. | .maintRevokeKey ..
    | .maintRaiseDebugLock .. | .dbgRequest .. | .dbgChallenge | .dbgResponse .. | .dbgLockNow .. | .debugSessionOpen | .haltAt ..
    | .haltNow .. | .jobHalt .. | .resume .. | .stepCy .. | .stepInsn .. | .bpSet .. | .wpSet .. | .readCore .. | .writeCore ..
    | .readSp .. | .writeSp .. | .readMem .. | .writeMem .. | .readFrame .. | .clearPoints | .bypass | .idcode | .samplePreload ..
    | .extest | .clamp | .highz | .dbgframe .. | .trstAssert | .tallyReferenceCount | .stepUpDelayExpiry | .parkingComplete ..
    | .pcieLinkUp .. | .perstRelease | .sgmiiLinkChange .. | .doeDiscovery .. | .laserLightArrival .. | .reservedInstruction .. => true

end Sys2Proof
end

