-- ==== Sys2Proof/Safety.lean ====
section
/-! DEFINITION. The terms in which claims are stated: when a state is canonical, when a unit may act, and what an instruction or a command
may change. -/

namespace Sys2Proof.Machine

/-- The canonical form of the sparse parts of the state that the claims read: device memory and the tiles. -/
def State.Inv (s : State) : Prop := s.mem.data.wf = true ∧ SMap.wf Tile.reset s.tiles = true

/-! ## Cores -/

/-- A core of a tile by its place. -/
def State.coreAt (s : State) (i : CoreAt) : CoreSt := (s.tile i.tile.val).core i.core

/-- The issue cycle of an instruction with these sources, destinations and interval row. -/
def State.issueAt (s : State) (i : CoreAt) (srcs dsts : List Nat) (row : Option Nat) : Nat := issueCycle (s.coreAt i) srcs dsts row

/-- A core can issue an instruction with these sources and destinations and nothing else happens in its tile: the tile is in the grid, the
core runs and holds an instruction, no halt or stop bars the cycle, the frame has nothing in flight, no byte has bad parity and no breakpoint
is set. -/
structure CoreReady (s : State) (i : CoreAt) (srcs dsts : List Nat) (row : Option Nat) : Prop where
  grid : s.grid.hasTile i.tile.val = true
  running : (s.coreAt i).run = .running
  may : mayIssue (s.tile i.tile.val) (s.issueAt i srcs dsts row) = true
  pc : (s.coreAt i).pc ≤ 65535
  idle : (s.tile i.tile.val).frame.ops = []
  parity : (s.tile i.tile.val).spBad = []
  noBreak : ∀ n : Fin 4, ((s.coreAt i).bps[n]).enable = false

/-- The tile with its frame brought up to the cycle, which is all that the time of an issue changes in it. -/
def Tile.atCycle (t : Tile) (t0 : Nat) : Tile := t.updFrame (fun f => { f with clk := max f.clk t0 })

/-- Only core `i` has changed, and the frame's clock. -/
def onlyCore (s u : State) (i : CoreAt) : Prop :=
  { u with tiles := s.tiles } = s ∧ (∀ T, T ≠ i.tile.val → u.tile T = s.tile T)
    ∧ ∃ n, u.tile i.tile.val = ((s.tile i.tile.val).updFrame (fun f => { f with clk := n })).setCore i.core (u.coreAt i)

/-- What every instruction of fixed timing leaves in its core: the next PC, the state of issue, and what it does not name. -/
structure Retired (k k' : CoreSt) (t0 : Nat) : Prop where
  pc : k'.pc = k.pc + 1
  run : k'.run = k.run
  next : k'.now = t0 + 1
  etrap : k'.etrap = k.etrap
  vextra : k'.vextra = k.vextra

/-- The scalar registers but for `d`, which holds `v`; s0 stays 0. -/
def writesS (k k' : CoreSt) (d : Reg) (v : U64) : Prop :=
  k'.getS d = (if d = 0 then 0 else v) ∧ ∀ r, r ≠ d → k'.getS r = k.getS r

/-- The vector registers but for `d`, which holds `v`. -/
def writesV (k k' : CoreSt) (d : VReg) (v : V512) : Prop := k'.v[d] = v ∧ ∀ r : VReg, r ≠ d → k'.v[r] = k.v[r]

/-- No scalar register, no vector register changes. -/
def keepsS (k k' : CoreSt) : Prop := ∀ r, k'.getS r = k.getS r
def keepsV (k k' : CoreSt) : Prop := k'.v = k.v

/-- VFLAGS and CPEAK do not change. -/
def keepsFlags (k k' : CoreSt) : Prop := k'.vflags = k.vflags ∧ k'.cpeak = k.cpeak

/-- An instruction of fixed timing has issued at `t0` and its only result is `v` in scalar register `d`, ready after `lat` cycles. -/
def ScalarResult (s u : State) (i : CoreAt) (t0 : Nat) (d : Reg) (lat : Nat) (v : U64) : Prop :=
  onlyCore s u i ∧ Retired (s.coreAt i) (u.coreAt i) t0 ∧ writesS (s.coreAt i) (u.coreAt i) d v ∧ keepsV (s.coreAt i) (u.coreAt i)
    ∧ keepsFlags (s.coreAt i) (u.coreAt i) ∧ (d ≠ 0 → SMap.get 0 (u.coreAt i).ready (rS d) = t0 + lat)

/-- Its only result is `v` in vector register `d`; the exceptions `fl` are added to VFLAGS. -/
def VectorResult (s u : State) (i : CoreAt) (t0 : Nat) (d : VReg) (lat : Nat) (v : V512) (fl : BitVec 5) : Prop :=
  onlyCore s u i ∧ Retired (s.coreAt i) (u.coreAt i) t0 ∧ writesV (s.coreAt i) (u.coreAt i) d v ∧ keepsS (s.coreAt i) (u.coreAt i)
    ∧ (u.coreAt i).vflags = (s.coreAt i).vflags ||| fl ∧ (u.coreAt i).cpeak = (s.coreAt i).cpeak
    ∧ SMap.get 0 (u.coreAt i).ready (rV d) = t0 + lat

/-- It leaves no register but the PC, which is `pc`, and its next instruction issues at `next`. -/
def NoResult (s u : State) (i : CoreAt) (pc next : Nat) : Prop :=
  onlyCore s u i ∧ (u.coreAt i).pc = pc ∧ (u.coreAt i).now = next ∧ (u.coreAt i).run = (s.coreAt i).run ∧ keepsS (s.coreAt i) (u.coreAt i)
    ∧ keepsV (s.coreAt i) (u.coreAt i) ∧ keepsFlags (s.coreAt i) (u.coreAt i)

/-- A register instruction with sources A and B and destination D: in every ready state it completes with `f` of the two registers. -/
def RegInsn (mk : CoreAt → Reg → Reg → Reg → Instr) (lat : Nat) (row : Option Nat) (f : U64 → U64 → U64) : Prop :=
  ∀ s i d a b, s.Inv → CoreReady s i [rS a, rS b] [rS d] row →
    ∃ u, exec (mk i d a b) s = .next u
      ∧ ScalarResult s u i (s.issueAt i [rS a, rS b] [rS d] row) d lat (f ((s.coreAt i).getS a) ((s.coreAt i).getS b))

/-- A register instruction with source A, whose field B is s0. -/
def UnaryInsn (mk : CoreAt → Reg → Reg → Reg → Instr) (lat : Nat) (f : U64 → U64) : Prop :=
  ∀ s i d a, s.Inv → CoreReady s i [rS a] [rS d] none →
    ∃ u, exec (mk i d a 0) s = .next u ∧ ScalarResult s u i (s.issueAt i [rS a] [rS d] none) d lat (f ((s.coreAt i).getS a))

/-- An immediate instruction with source A. -/
def ImmInsn (mk : CoreAt → Reg → Reg → U16 → Instr) (f : U64 → U16 → U64) : Prop :=
  ∀ s i d a imm, s.Inv → CoreReady s i [rS a] [rS d] none →
    ∃ u, exec (mk i d a imm) s = .next u ∧ ScalarResult s u i (s.issueAt i [rS a] [rS d] none) d 1 (f ((s.coreAt i).getS a) imm)

/-- SHIFTI with its written-0 bits 0. -/
def ShiftInsn (mk : CoreAt → Reg → Reg → BitVec 6 → BitVec 8 → Instr) (f : U64 → Nat → U64) : Prop :=
  ∀ s i d a amt, s.Inv → CoreReady s i [rS a] [rS d] none →
    ∃ u, exec (mk i d a amt 0) s = .next u ∧ ScalarResult s u i (s.issueAt i [rS a] [rS d] none) d 1 (f ((s.coreAt i).getS a) amt.toNat)

/-! ## Data accesses of a core (R109, R148) -/

/-- The offset of a data access. -/
def State.offAt (s : State) (i : CoreAt) (a : Reg) (imm : U16) : Nat := dataOff (s.coreAt i) a imm

/-- The physical address of an offset. -/
def State.physAt (s : State) (i : CoreAt) (o : Nat) : Nat := (s.tile i.tile.val).tsk.base + o

/-- A data access of `n` bytes at offset `o` is in bound, aligned and in a bank that the core may use for data, the window's base is a multiple of 64
(R147), and no watchpoint is set. -/
structure DataOk (s : State) (i : CoreAt) (o n : Nat) : Prop where
  base : (s.tile i.tile.val).tsk.base % 64 = 0
  bound : o + n ≤ (s.tile i.tile.val).tsk.bound
  aligned : o % n = 0
  cls : (s.tile i.tile.val).bankClass (bankOf (s.physAt i o)) = clsEcmet
  owner : (s.tile i.tile.val).bankOwner (bankOf (s.physAt i o)) = i.core.val
  data : (s.tile i.tile.val).bankCode (bankOf (s.physAt i o)) = false
  noWatch : ∀ n : Fin 2, ((s.tile i.tile.val).wps[n]).enable = false

/-- A scalar load of `n` bytes: the little-endian number at the address, extended by `f`. -/
def LoadInsn (mk : CoreAt → Reg → Reg → U16 → Instr) (n : Nat) (f : Nat → U64) : Prop :=
  ∀ s i d a imm, s.Inv → CoreReady s i [rS a] [rS d] none → DataOk s i (s.offAt i a imm) n →
    ∃ u, exec (mk i d a imm) s = .next u
      ∧ ScalarResult s u i (s.issueAt i [rS a] [rS d] none) d 4
          (f (natOfLE ((s.tile i.tile.val).sp.readBytes (s.physAt i (s.offAt i a imm)) n)))

/-- Core `i` has stored `bs` at `p`, and nothing else has changed but the mirror accumulator of a tile in mirror mode: every byte of the
scratchpad outside the stored bytes reads as before. -/
def Stored (s u : State) (i : CoreAt) (t0 p : Nat) (bs : List Byte) : Prop :=
  { u with tiles := s.tiles } = s ∧ (∀ T, T ≠ i.tile.val → u.tile T = s.tile T)
    ∧ (∃ n sp acc, u.tile i.tile.val
        = ({ (s.tile i.tile.val).updFrame (fun f => { f with clk := n }) with sp := sp, mirrorAcc := acc } : Tile).setCore i.core (u.coreAt i))
    ∧ ((s.tile i.tile.val).mirror = false → (u.tile i.tile.val).mirrorAcc = (s.tile i.tile.val).mirrorAcc)
    ∧ (u.tile i.tile.val).sp.wf = true
    ∧ (∀ j (h : j < bs.length), (u.tile i.tile.val).sp.read (p + j) = bs[j])
    ∧ (∀ q, q < p ∨ p + bs.length ≤ q → (u.tile i.tile.val).sp.read q = (s.tile i.tile.val).sp.read q)
    ∧ Retired (s.coreAt i) (u.coreAt i) t0 ∧ keepsS (s.coreAt i) (u.coreAt i) ∧ keepsV (s.coreAt i) (u.coreAt i)
    ∧ keepsFlags (s.coreAt i) (u.coreAt i)

/-- A scalar store of the low `n` bytes of s[D], the lowest at the lowest address. -/
def StoreInsn (mk : CoreAt → Reg → Reg → U16 → Instr) (n : Nat) : Prop :=
  ∀ s i d a imm, s.Inv → (s.tile i.tile.val).sp.wf = true → CoreReady s i [rS a, rS d] [] none → DataOk s i (s.offAt i a imm) n →
    ∃ u, exec (mk i d a imm) s = .next u
      ∧ Stored s u i (s.issueAt i [rS a, rS d] [] none) (s.physAt i (s.offAt i a imm)) (leOfNat n ((s.coreAt i).getS d).toNat)

/-! ## Branches (R113) -/

/-- The target of a branch or jump. -/
def State.targetAt (s : State) (i : CoreAt) (off : Int) : Int := ((s.coreAt i).pc : Int) + off

/-- A conditional branch: taken when `cond` holds of s[A] and s[B], with a target that exists. -/
def BranchInsn (mk : CoreAt → Reg → Reg → U16 → Instr) (cond : U64 → U64 → Prop) : Prop :=
  ∀ s i a b off, s.Inv → CoreReady s i [rS a, rS b] [] none →
    (¬ cond ((s.coreAt i).getS a) ((s.coreAt i).getS b) →
      ∃ u, exec (mk i a b off) s = .next u
        ∧ NoResult s u i ((s.coreAt i).pc + 1) (s.issueAt i [rS a, rS b] [] none + 1))
    ∧ (cond ((s.coreAt i).getS a) ((s.coreAt i).getS b) → 0 ≤ s.targetAt i off.toInt → s.targetAt i off.toInt ≤ 65535 →
      ∃ u, exec (mk i a b off) s = .next u
        ∧ NoResult s u i (s.targetAt i off.toInt).toNat (s.issueAt i [rS a, rS b] [] none + 2))

/-! ## Vector instructions (R116, R118 to R122) -/

/-- The latency of a lane-wise instruction: one for integer lanes, one for float lanes. -/
def laneLat (ty : BitVec 3) (latI latF : Nat) : Nat := if isFloat ty then latF else latI

/-- One lane of an instruction's result: the operation on the same lane of VA, VB and the old VD. -/
def laneResult (op : VOp) (l : LaneTy) (k : CoreSt) (va vb vd : VReg) (n : Nat) : LaneRes :=
  laneOp op l (laneOf l.w k.v[va] n) (laneOf l.w k.v[vb] n) (laneOf l.w k.v[vd] n)

/-- A lane-wise instruction: with a type that is not reserved, every lane of VD holds the operation of its lanes, and VFLAGS gains a flag exactly
when some lane raises it. -/
def LaneInsn (mk : CoreAt → VReg → VReg → VReg → BitVec 3 → Instr) (op : VOp) (reads : VReg → VReg → VReg → List VReg) (latI latF : Nat) : Prop :=
  ∀ s i vd va vb ty l, s.Inv → laneTy ty = some l → CoreReady s i ((reads vd va vb).map rV) [rV vd] none →
    ∃ u v fl, exec (mk i vd va vb ty) s = .next u
      ∧ VectorResult s u i (s.issueAt i ((reads vd va vb).map rV) [rV vd] none) vd (laneLat ty latI latF) v fl
      ∧ (∀ n, n < l.lanes → laneOf l.w v n = (laneResult op l (s.coreAt i) va vb vd n).1 % 2 ^ l.w)
      ∧ ∀ b, fl.getLsbD b = true ↔ ∃ n, n < l.lanes ∧ (laneResult op l (s.coreAt i) va vb vd n).2.getLsbD b = true

/-- A bitwise instruction of latency 1. -/
def BitInsn (mk : CoreAt → VReg → VReg → VReg → BitVec 3 → Instr) (reads : VReg → VReg → VReg → List VReg) (f : V512 → V512 → V512 → V512) : Prop :=
  ∀ s i vd va vb ty, s.Inv → laneTy ty ≠ none → CoreReady s i ((reads vd va vb).map rV) [rV vd] none →
    ∃ u, exec (mk i vd va vb ty) s = .next u
      ∧ VectorResult s u i (s.issueAt i ((reads vd va vb).map rV) [rV vd] none) vd 1
          (f (s.coreAt i).v[va] (s.coreAt i).v[vb] (s.coreAt i).v[vd]) 0

/-- A reduction to a scalar register, whose exceptions are added to VFLAGS. -/
def ReduceInsn (mk : CoreAt → Reg → VReg → BitVec 3 → Instr) (op : RedOp) : Prop :=
  ∀ s i sd va ty l, s.Inv → laneTy ty = some l → CoreReady s i [rV va] [rS sd] none →
    ∃ u, exec (mk i sd va ty) s = .next u ∧ onlyCore s u i
      ∧ Retired (s.coreAt i) (u.coreAt i) (s.issueAt i [rV va] [rS sd] none)
      ∧ writesS (s.coreAt i) (u.coreAt i) sd (reduce op l (s.coreAt i).v[va]).1 ∧ keepsV (s.coreAt i) (u.coreAt i)
      ∧ (u.coreAt i).vflags = (s.coreAt i).vflags ||| (reduce op l (s.coreAt i).v[va]).2

/-- A function of the function tables, of a float type, on every lane. -/
def FnInsn (mk : CoreAt → VReg → VReg → VReg → BitVec 3 → BitVec 8 → Instr) (fn : Nat) : Prop :=
  ∀ s i vd va ty f, s.Inv → laneTy ty = some (.flt f) → CoreReady s i [rV va] [rV vd] none →
    ∃ u, exec (mk i vd va 0 ty 0) s = .next u
      ∧ VectorResult s u i (s.issueAt i [rV va] [rV vd] none) vd 10
          (vecFn (s.coreAt i).fnLoaded (s.tile i.tile.val).fnTab fn f (s.coreAt i).v[va]).1
          (vecFn (s.coreAt i).fnLoaded (s.tile i.tile.val).fnTab fn f (s.coreAt i).v[va]).2

/-- VENC16 and VENC32 of a legal format: the bead of R63 goes to VD, its sidecar to s[SD], CPEAK follows, and the counters of R71 count. -/
def EncodeInsn (mk : CoreAt → VReg → VReg → Reg → Reg → BitVec 3 → Instr) (wide : Bool) : Prop :=
  ∀ s i vd va sa sd fmt f, s.Inv → beadFmtOf fmt.toNat = some f → (wide = true → va.val % 2 = 0) →
    CoreReady s i (if wide then [rV va, rV (vNext va), rS sa] else [rV va, rS sa]) [rV vd, rS sd] (some rowBead) →
    ∃ u, exec (mk i vd va sa sd fmt) s = .next u ∧
      let k := s.coreAt i
      let r := vencBead f (if wide then f32 else f16) (if wide then lanesOf 32 k.v[va] ++ lanesOf 32 k.v[vNext va] else lanesOf 16 k.v[va])
        (lo32v (k.getS sa)) k.cpeak
      (u.coreAt i).pc = k.pc + 1 ∧ writesV k (u.coreAt i) vd r.1 ∧ writesS k (u.coreAt i) sd (BitVec.ofNat 64 r.2.1)
        ∧ (u.coreAt i).cpeak = r.2.2.1 ∧ (u.coreAt i).vflags = k.vflags

/-! ## Control registers, windows, waits (R99, R114, R127 to R136, R243) -/

/-- Only tile `T` and the counters have changed. -/
def onlyTile (s u : State) (T : Nat) : Prop :=
  { u with tiles := s.tiles, ctr := s.ctr, tctr := s.tctr } = s ∧ ∀ U, U ≠ T → u.tile U = s.tile U

/-- The other cores and the scratchpad of the tile are as before. -/
def restOfTile (s u : State) (i : CoreAt) : Prop :=
  onlyTile s u i.tile.val ∧ (∀ c, c ≠ i.core → (u.tile i.tile.val).core c = (s.tile i.tile.val).core c)
    ∧ (u.tile i.tile.val).sp = (s.tile i.tile.val).sp

/-- The core has gone on to its next instruction at cycle `nx`. -/
def goesOn (s u : State) (i : CoreAt) (nx : Nat) : Prop :=
  (u.coreAt i).pc = (s.coreAt i).pc + 1 ∧ (u.coreAt i).now = nx ∧ (u.coreAt i).run = .running ∧ keepsV (s.coreAt i) (u.coreAt i)
    ∧ keepsFlags (s.coreAt i) (u.coreAt i)

/-- What a control register reads as on core `i` in cycle `t0`. An exchange register shows a write from two cycles after it on. -/
def controlReads (s : State) (i : CoreAt) (t0 n : Nat) (v : U64) : Prop :=
  let t := s.tile i.tile.val
  let k := s.coreAt i
  (n = 0x000 ∧ v = BitVec.ofNat 64 (i.tile.val % 48 * 2 ^ 10 + i.tile.val / 48 * 2 ^ 5 + i.core.val))
    ∨ (n = 0x001 ∧ v = BitVec.ofNat 64 t0) ∨ (n = 0x002 ∧ v = BitVec.ofNat 64 t.stepCount) ∨ (n = 0x003 ∧ v = BitVec.ofNat 64 t.rerun)
    ∨ (n = 0x004 ∧ v = BitVec.ofNat 64 t.tsk.task) ∨ (n = 0x008 ∧ v = BitVec.ofNat 64 k.etrap) ∨ (n = 0x009 ∧ v = k.vflags.setWidth 64)
    ∨ (n = 0x00A ∧ v = BitVec.ofNat 64 k.cpeak) ∨ (n = 0x00B ∧ v = BitVec.ofNat 64 k.vextra) ∨ (n = 0x00C ∧ v = BitVec.ofNat 64 k.wdog)
    ∨ (∃ x : Fin 8, n = 0x010 + x.val ∧ (t.xr[x]).at_ + 2 ≤ t0 ∧ v = (t.xr[x]).new)
    ∨ (i.core = 0 ∧ ((n = 0x0C1 ∧ v = BitVec.ofNat 64 t.frame.peak) ∨ (n = 0x0C2 ∧ v = BitVec.ofNat 64 t.frame.ftrap)
        ∨ (n = 0x0C3 ∧ v = t.frame.ewOut) ∨ (n = 0x0C4 ∧ v = t.frame.ewScales) ∨ (n = 0x0C5 ∧ v = t.frame.ewCo.setWidth 64)))
    ∨ (i.core = 3 ∧ s.fuses.updateEngines = true ∧ ((n = 0x0D0 ∧ v = t.upd.uoBase) ∨ (n = 0x0D1 ∧ v = t.upd.uscales)
        ∨ (n = 0x0D2 ∧ v = BitVec.ofNat 64 t.upd.ubead) ∨ (n = 0x0D3 ∧ v = BitVec.ofNat 64 t.upd.upeak)))

/-- A peak register takes its low 31 bits, at most infinity (R66, R99). -/
def peakOfWrite (v : U64) : Nat := min (v.toNat % 2 ^ 31) 0x7F800000

/-- A write of `v` to control register `n` that core `i` may do, and what it leaves. -/
def controlWrites (s u : State) (i : CoreAt) (t0 n : Nat) (v : U64) : Prop :=
  let t := s.tile i.tile.val
  let t' := u.tile i.tile.val
  (n = 0x009 → v.toNat < 32 → (u.coreAt i).vflags.toNat = v.toNat)
    ∧ (n = 0x00A → v.toNat < 2 ^ 32 → (u.coreAt i).cpeak = peakOfWrite v)
    ∧ (∀ x : Fin 8, n = 0x010 + x.val → x.val / 2 = i.core.val → (t'.xr[x]).new = v ∧ (t'.xr[x]).at_ = t0)
    ∧ (i.core = 0 → n = 0x0C1 → v.toNat < 2 ^ 32 → t'.frame.peak = peakOfWrite v)
    ∧ (i.core = 0 → n = 0x0C3 → t'.frame.ewOut = v) ∧ (i.core = 0 → n = 0x0C4 → t'.frame.ewScales = v)
    ∧ (i.core = 0 → n = 0x0C5 → v.toNat < 2 ^ 32 → t'.frame.ewCo.toNat = v.toNat)
    ∧ (i.core = 3 → s.fuses.updateEngines = true → (n = 0x0D0 → t'.upd.uoBase = v) ∧ (n = 0x0D1 → t'.upd.uscales = v)
        ∧ (n = 0x0D2 → v.toNat < 2 ^ 32 → t'.upd.ubead = v.toNat) ∧ (n = 0x0D3 → v.toNat < 2 ^ 32 → t'.upd.upeak = peakOfWrite v))
    ∧ ((¬ ∃ x : Fin 8, n = 0x010 + x.val) → t'.xr = t.xr)

/-- The write is one that the register and the core allow. -/
def controlWriteOk (s : State) (i : CoreAt) (n : Nat) (v : U64) : Prop :=
  (n = 0x009 ∧ v.toNat < 32) ∨ (n = 0x00A ∧ v.toNat < 2 ^ 32) ∨ (∃ x : Fin 8, n = 0x010 + x.val ∧ x.val / 2 = i.core.val)
    ∨ (i.core = 0 ∧ (n = 0x0C3 ∨ n = 0x0C4 ∨ ((n = 0x0C1 ∨ n = 0x0C5) ∧ v.toNat < 2 ^ 32)))
    ∨ (i.core = 3 ∧ s.fuses.updateEngines = true ∧ (n = 0x0D0 ∨ n = 0x0D1 ∨ ((n = 0x0D2 ∨ n = 0x0D3) ∧ v.toNat < 2 ^ 32)))

/-- A V-marked instruction of minimum `m` has ended with `waited` further cycles and left `v` in `d`: the waited cycles are added to VEXTRA, and the
watchdog is 0. -/
def waitedResult (s u : State) (i : CoreAt) (t0 m waited : Nat) (d : Reg) (v : U64) : Prop :=
  onlyTile s u i.tile.val ∧ goesOn s u i (t0 + m + waited) ∧ writesS (s.coreAt i) (u.coreAt i) d v
    ∧ (u.coreAt i).vextra = (s.coreAt i).vextra + waited ∧ (u.coreAt i).wdog = 0

/-- The core holds in a V-marked instruction: its PC, its registers and the memory are as before. -/
def holds (s u : State) (i : CoreAt) (kind t0 : Nat) : Prop :=
  restOfTile s u i ∧ (u.coreAt i).run = .waiting kind t0 ∧ (u.coreAt i).pc = (s.coreAt i).pc ∧ keepsS (s.coreAt i) (u.coreAt i)
    ∧ keepsV (s.coreAt i) (u.coreAt i)

/-- A core has trapped with the cause and the MAJOR in cycle `cy`: the record names the cycle, the PC, the MAJOR and the cause; the core issues
nothing more, the tile stops, and neither registers nor scratchpad have changed (R137 to R139). -/
def trapped (s u : State) (i : CoreAt) (cause major cy : Nat) : Prop :=
  onlyTile s u i.tile.val
    ∧ (u.coreAt i).etrap = cy % 2 ^ 32 * 2 ^ 32 + (s.coreAt i).pc % 65536 * 2 ^ 16 + major * 2 ^ 10 + cause
    ∧ (u.coreAt i).run = .stopped ∧ (u.coreAt i).pc = (s.coreAt i).pc ∧ keepsS (s.coreAt i) (u.coreAt i) ∧ keepsV (s.coreAt i) (u.coreAt i)
    ∧ (u.tile i.tile.val).sp = (s.tile i.tile.val).sp ∧ (u.tile i.tile.val).trapped = true ∧ (u.tile i.tile.val).stopAt ≠ none

/-! ## The counting frame (R72 to R102) -/

/-- The operands of a frame instruction of core `i`. -/
def State.frameIn (s : State) (i : CoreAt) (fop : Nat) (opt : BitVec 12) (sa sb : Reg) : FrameIn :=
  ⟨fop, opt, sa, sb, (s.coreAt i).getS sa, (s.coreAt i).getS sb⟩

/-- The issue cycle of a frame instruction that nothing holds. -/
def State.frameAt (s : State) (i : CoreAt) (sa sb : Reg) : Nat := s.issueAt i [rS sa, rS sb] [] none

/-- Core c0 can issue this frame instruction and nothing holds it: the core is ready, no condition of R102 holds, the step is young enough for its
cycle counts, and for an instruction that uses the dot-product units the frame is fully on in the issue cycle. -/
structure FrameReady (s : State) (i : CoreAt) (fop : Nat) (opt : BitVec 12) (sa sb : Reg) : Prop where
  core : CoreReady s i [rS sa, rS sb] [] none
  c0 : i.core = 0
  cause : frameCause (s.tile i.tile.val) (s.frameIn i fop opt sa sb) = 0
  on : fop = 1 ∨ fop = 3 → fullyOn (actAt (s.frameAt i sa sb) (s.tile i.tile.val).frame) = true
  swap : fop = 1 → optF opt 6 1 = 1 → ∀ k, (s.tile i.tile.val).frame.loadwAt = some k → k + 31 ≤ s.frameAt i sa sb

/-- The frame of a tile. -/
def State.frameOf (s : State) (i : CoreAt) : FrameSt := (s.tile i.tile.val).frame

/-- A frame instruction has entered its slots and channels for `occ` cycles, as the only one in flight; the core goes on in the next cycle, and
neither registers nor scratchpad have changed. -/
def FrameEnters (s u : State) (i : CoreAt) (t0 fop occ : Nat) (slots : BitVec 3) (chans : BitVec 2) : Prop :=
  restOfTile s u i ∧ goesOn s u i (t0 + 1) ∧ keepsS (s.coreAt i) (u.coreAt i)
    ∧ (∃ o, (u.frameOf i).ops = [o] ∧ o.fop = fop ∧ o.t0 = t0 ∧ o.occEnd = t0 + occ ∧ o.slots = slots ∧ o.chans = chans)
    ∧ (u.frameOf i).ewOut = (s.frameOf i).ewOut ∧ (u.frameOf i).ewScales = (s.frameOf i).ewScales ∧ (u.frameOf i).ewCo = (s.frameOf i).ewCo
    ∧ (u.frameOf i).ftrap = (s.frameOf i).ftrap ∧ (u.frameOf i).resFail = (s.frameOf i).resFail

/-- The frame's weight registers and accumulator banks are as before. -/
def keepsArrays (s u : State) (i : CoreAt) : Prop :=
  (u.frameOf i).w = (s.frameOf i).w ∧ (u.frameOf i).active = (s.frameOf i).active ∧ (u.frameOf i).banks = (s.frameOf i).banks
    ∧ (u.frameOf i).shadowFull = (s.frameOf i).shadowFull ∧ (u.frameOf i).loadwAt = (s.frameOf i).loadwAt

/-- FRAME.EW with this EOP enters all slots for 32 or 64 cycles, with its scales from EW_SCALES and EW_CO. -/
def EwInsn (mk : CoreAt → Reg → Reg → BitVec 8 → Instr) (eop : BitVec 4) : Prop :=
  ∀ s i sa sb (opt : BitVec 8), s.Inv → FrameReady s i 3 (eop ++ opt) sa sb →
    ∃ u, exec (mk i sa sb opt) s = .next u
      ∧ FrameEnters s u i (s.frameAt i sa sb) 3 (32 * ewL (s.frameIn i 3 (eop ++ opt) sa sb)) 7 3 ∧ keepsArrays s u i
      ∧ (∃ o, (u.frameOf i).ops = [o] ∧ o.args.eop = eop.toNat ∧ o.args.ca = lo32v (s.frameOf i).ewScales
          ∧ o.args.cb = hi32v (s.frameOf i).ewScales ∧ o.args.co = (s.frameOf i).ewCo)
      ∧ (u.frameOf i).peak = (s.frameOf i).peak

/-! ## The update engine, the slot table and the service agent (R170 to R191, R240 to R259) -/

/-- Every byte of a region is in bound, its offset is a multiple of 64, and its banks are of the class. -/
def regionOk (s : State) (i : CoreAt) (cls o n : Nat) : Prop :=
  (s.tile i.tile.val).inBound o n = true ∧ o % 64 = 0 ∧ (s.tile i.tile.val).classOk cls o n = true

/-- Core c3 of a part with update engines can issue, and the engine has nothing in flight. -/
def UpdReady (s : State) (i : CoreAt) (srcs : List Nat) : Prop :=
  CoreReady s i srcs [] none ∧ i.core = 3 ∧ s.fuses.updateEngines = true ∧ (s.tile i.tile.val).upd.ops = []

/-- The engine's four registers are as before (R243). -/
def keepsUpdRegs (s u : State) (i : CoreAt) : Prop :=
  (u.tile i.tile.val).upd.uoBase = (s.tile i.tile.val).upd.uoBase ∧ (u.tile i.tile.val).upd.uscales = (s.tile i.tile.val).upd.uscales
    ∧ (u.tile i.tile.val).upd.upeak = (s.tile i.tile.val).upd.upeak

/-- Flit `k` of entry `e` of the running range is the next one, the tile is not halted, and the entry reads well (R170). -/
structure SlotReady (s : State) (t : TileIx) (op entry : Nat) (e : SlotEnt) (k : Nat) : Prop where
  grid : s.grid.hasTile t.val = true
  run : (s.tile t.val).halted = false ∧ haltBars (s.tile t.val).haltCy (e.outCy k) = false
  range : (s.tile t.val).router.first ≤ entry ∧ entry < (s.tile t.val).router.first + (s.tile t.val).router.count
  ent : slotEnt (SMap.get 0 (s.tile t.val).router.slots entry) = e
  op : e.op = op
  flit : SMap.get 0 (s.tile t.val).router.next entry = k ∧ k ≤ e.count

/-- A good flit is present on a neighbour input in the cycle in which the entry takes it (R171). -/
def slotFlit (s : State) (t : TileIx) (e : SlotEnt) (k port : Nat) (v : V512) : Prop :=
  port ≠ 4 ∧ ∃ f, flitAt (s.tile t.val) port (e.outCy k - e.delay) = some f ∧ f.data = v ∧ f.poison = false ∧ f.hopBad = false

/-- The place where the flit lands when the output is local: an allowed line of a mesh bank, with nothing of the update engine in flight and no
watchpoint set. -/
structure SlotLocal (s : State) (t : TileIx) (e : SlotEnt) (k p : Nat) : Prop where
  out : e.out = 4
  place : p = (s.tile t.val).tsk.base + 64 * (e.loff + k)
  line : p % 64 = 0
  bound : (s.tile t.val).inBound (64 * (e.loff + k)) 64 = true
  cls : (s.tile t.val).bankClass (bankOf p) = clsMesh
  idle : (s.tile t.val).upd.ops = []
  noWatch : ∀ n : Fin 2, ((s.tile t.val).wps[n]).enable = false
  wf : (s.tile t.val).sp.wf = true

/-- The line `v` has landed at `p`, the entry has gone on to its next flit, and nothing else of the device has changed but the tile's router,
its mirror accumulator and counters. -/
def SlotLanded (s u : State) (t : TileIx) (entry k p : Nat) (v : V512) : Prop :=
  onlyTile s u t.val ∧ (u.tile t.val).cores = (s.tile t.val).cores ∧ (u.tile t.val).frame = (s.tile t.val).frame
    ∧ (u.tile t.val).sp.readBytes p 64 = leOfNat 64 v.toNat ∧ (∀ q, q < p ∨ p + 64 ≤ q → (u.tile t.val).sp.read q = (s.tile t.val).sp.read q)
    ∧ SMap.get 0 (u.tile t.val).router.next entry = k + 1

/-- A combining entry of this OP with a local output: with both flits present, the line that lands is `f` of them. -/
def CombineSlot (mk : TileIx → Fin 1024 → Bool → Bool → Instr) (op : Nat) (ok : V512 → V512 → V512 → Prop) : Prop :=
  ∀ s (t : TileIx) (entry : Fin 1024) e k va vb p corrupt, s.Inv →
    SlotReady s t op entry.val e k → slotFlit s t e k e.ina va → slotFlit s t e k e.inb vb → SlotLocal s t e k p →
    ∃ u v, exec (mk t entry false corrupt) s = .next u ∧ ok va vb v ∧ SlotLanded s u t entry.val k p v

/-- The service agent of a tile. -/
def State.svOf (s : State) (t : TileIx) (c : CoreIx) : SvCore := (s.tile t.val).sv c

/-- Only the router of tile `t` has changed, and the counters. -/
def onlyRouter (s u : State) (t : TileIx) : Prop :=
  onlyTile s u t.val ∧ ∃ r, u.tile t.val = { s.tile t.val with router := r }

/-- Completion lines are queued at the tile's response input (R185). -/
def answersWith (s u : State) (t : TileIx) (l : List SvLine) : Prop :=
  SMap.get ([] : List SvLine) (u.tile t.val).router.ins 9 = SMap.get [] (s.tile t.val).router.ins 9 ++ l

/-! ## Copy engines and device memory (R197 to R215) -/

/-- Only device memory, its engines and stacks have changed, and the counters. -/
def onlyMem (s u : State) : Prop := { u with mem := s.mem, ctr := s.ctr } = s

/-- Line `v` has been written to the stack address `p`, poisoned or not, and every other byte and every other line's metadata are as before. -/
def LineWritten (s u : State) (p : Nat × Nat) (v : V512) (poison : Bool) : Prop :=
  let key := stackKey p.1 (lineAddr p.2)
  u.mem.data.readBytes key 64 = leOfNat 64 v.toNat ∧ (∀ q, q < key ∨ key + 64 ≤ q → u.mem.data.read q = s.mem.data.read q)
    ∧ (key / 64 ∈ u.mem.poison ↔ poison = true) ∧ ∀ l, l ≠ key / 64 → (l ∈ u.mem.poison ↔ l ∈ s.mem.poison)

/-- The bytes and the metadata of device memory are as before. -/
def keepsBytes (s u : State) : Prop := u.mem.data = s.mem.data ∧ u.mem.poison = s.mem.poison

/-- Line `k` of a descriptor with this operation is due in the running step, and the descriptor is `d`. -/
def EngReady (s : State) (e : EngineIx) (di op : Nat) (d : Desc) (k : Nat) : Prop :=
  s.copyDue e di op = true ∧ tableDesc (s.eng e).table di = d ∧ SMap.get 0 (s.eng e).moved di = k

/-- The other engines are as before. -/
def onlyEngine (s u : State) (e : EngineIx) : Prop := ∀ x, x ≠ e → u.eng x = s.eng x

/-- The next line of a READ or READ_REQ that waits in the staging buffer leaves: it is placed on the edge router's input after the latency of
R196, and the buffer entry is free. -/
def Departs (mk : EngineIx → Fin 8192 → Bool → Instr) (op : Nat) : Prop :=
  ∀ s e (di : Fin 8192) d k l, s.Inv → EngReady s e di.val op d k → d.bead = 0 → (s.eng e).root di.val = di.val → (s.eng e).sharers di.val = [di.val] →
    (op = opReadReq → ∃ r, (s.eng e).req di.val = some r ∧ r.dead = false) →
    (s.eng e).staged di.val k = some l → l.fetching = false → l.unc = none →
    let t := 48 * s.edgeRow (engTop e.val) + engColumn e.val d.col
    (s.tile t).job ≠ none →
    ∃ u, exec (mk e di false) s = .next u ∧ { u with mem := s.mem, tiles := s.tiles } = s ∧ keepsBytes s u ∧ onlyEngine s u e
      ∧ (∀ x, x ≠ t → u.tile x = s.tile x) ∧ (u.tile t).sp = (s.tile t).sp
      ∧ (u.tile t).router.flits = (s.tile t).router.flits ++ [⟨edgePort (engTop e.val), d.cy k + s.engLatency e d.col, l.data, l.poison, false⟩]
      ∧ SMap.get 0 (u.eng e).moved di.val = k + 1 ∧ (u.eng e).nDeparted = (s.eng e).nDeparted + 1 ∧ (u.eng e).staged di.val k = none

/-! ## Management writes, jobs and fences (R221 to R238, R369 to R371, R431, R456) -/

/-- Normal service: a start has ended with the management processor up, outside recovery (R370, R371). -/
structure InService (s : State) : Prop where
  powered : s.boot.powered = true
  stage : s.boot.stage = 10
  normal : s.boot.outcome ≠ 3
  mgmt : s.boot.mgmt = true

/-- Normal service, and the carrier's write policy lets the class through. -/
def Served (s : State) (car : Carrier) (cls : Nat) : Prop := InService s ∧ s.policyAllows car cls = true

/-- The device has answered one management request on a carrier with a status and nothing else. -/
def answers (s u : State) (car : Carrier) (status : Nat) : Prop := u.out = s.out ++ [.answer (carNum car) status []]

/-- One counter has risen by `n`, at most to its limit, and the others are as before. -/
def counted (s u : State) (k n : Nat) : Prop :=
  u.counter k = satAdd (s.counter k) n ∧ ∀ x, x ≠ k → u.counter x = s.counter x

/-- Only the job in slot `j` may have changed of the jobs. -/
def onlyJob (s u : State) (j : SlotIx) : Prop := ∀ k, k ≠ j → u.job k = s.job k

/-- The event of a change of JOB_STATE (R221, R412). -/
def jobEvent (s : State) (j : SlotIx) (st status : Nat) : Event := ⟨2, j.val, leOfNat 1 st ++ [0] ++ leOfNat 2 status, s.tally.now⟩

/-- A management write of a class obeys the gates of its carrier: the write policy (R431, R456), a management reset in progress (R371) and, unless it is one of
those served early, a start in progress (R370). Without power nothing answers. -/
def GatedWrite (cls : Nat) (early : Bool) (mk : Carrier → Instr) : Prop :=
  ∀ s car,
    (InService s → s.policyAllows car cls = false →
      ∃ u, exec (mk car) s = .next u ∧ { u with ctr := s.ctr, out := s.out } = s ∧ counted s u (ck 0x1040 4) 1 ∧ answers s u car 0x0105)
    ∧ (s.boot.powered = true → 2 ≤ s.boot.stage → s.boot.outcome ≠ 3 → s.boot.mgmt = false →
      ∃ u, exec (mk car) s = .next u ∧ { u with ctr := s.ctr, out := s.out } = s ∧ counted s u (ck 0xA120 0x0A) 1 ∧ answers s u car 0x0A02)
    ∧ (early = false → s.boot.powered = true → 2 ≤ s.boot.stage → s.boot.stage < 10 → s.boot.outcome ≠ 3 → s.boot.mgmt = true →
      ∃ u, exec (mk car) s = .next u ∧ { u with ctr := s.ctr, out := s.out } = s ∧ counted s u (ck 0xA120 9) 1 ∧ answers s u car 0x0A01)
    ∧ (s.boot.powered = false → exec (mk car) s = .next s)

/-- The root has every report, the audits have left, and the ledger breaks are recorded: what the decision of R228 reads. -/
def State.atDecision (s : State) (j : SlotIx) (p : Plan) : State :=
  let s1 := (s.gatherReports j p).sendAudits p
  s1.recordBreaks (s.job j).len (s1.breaks p)

/-- Every unit of the job of slot `j` has arrived and nothing holds the fence; the job is in no group. -/
structure AllIn (s : State) (j : SlotIx) (p : Plan) : Prop where
  plan : (s.job j).plan = some p
  phase : (s.job j).phase = .step
  running : (s.job j).running = true
  free : (s.job j).halted = false
  noHalt : s.haltInStep j = false
  arrived : (s.job j).allArrived = true
  alone : (s.job j).groupId = 0

/-- No ledger is broken at the decision. -/
def ledgersHold (s : State) (j : SlotIx) (p : Plan) : Prop :=
  ((s.gatherReports j p).sendAudits p).breaks p = ([], []) ∧ ((s.atDecision j p).job j).linkStops = []

/-! ## Clocks and the tally (R290 to R313) -/

/-- Only the clock system has changed. -/
def onlyClk (s u : State) : Prop := { u with clk := s.clk } = s

/-- A count of the tally from `o` to `n`: the count, and each event that falls due on the way (R311). -/
def counts (s u : State) (n : Nat) : Prop :=
  u.tally.now = n % 2 ^ 64 ∧ (∀ d, s.tally.due.contains d = true → u.tally.due.contains d = true)
    ∧ (s.clk.pending ≠ 0 → s.clk.pendingTally ≤ n → u.tally.due.contains .freqSwitch = true)
    ∧ (s.check.period ≠ 0 → s.tally.now / s.check.period < n / s.check.period → u.tally.due.contains .wcmp = true)
    ∧ (s.tally.now / 1024 < n / 1024 → u.tally.due.contains .energy = true)
    ∧ (s.tally.now / 2 ^ 30 < n / 2 ^ 30 → u.tally.due.contains .lifeCommit = true)

/-! ## Starts, resets and the firmware (R345, R348 to R372) -/

/-- The start in progress stands at a stage. -/
structure AtStage (s : State) (k : Nat) : Prop where
  powered : s.boot.powered = true
  stage : s.boot.stage = k

/-- The retry table directs nothing in this start, and no budget has expired. -/
def plainStart (s : State) : Prop := s.boot.actions = [] ∧ s.boot.left = []

/-- What no command of a start changes: the fuses and the queue. -/
def keepsFuses (s u : State) : Prop := u.fuses = s.fuses ∧ u.pending = s.pending

/-- What a start that keeps the power leaves and clears (R338, R348, R368): device memory, the fuses and the rest of the life record stay; the slots, the
tiles and the counters are as after reset, and the start stands at S2 with its kind. -/
structure Restarted (s u : State) (kind : Nat) : Prop where
  stage : u.boot.stage = 2
  powered : u.boot.powered = true
  kindIs : u.boot.kind = kind
  bytes : u.mem.data = s.mem.data
  fuses : u.fuses = s.fuses
  jobs : u.jobs = Vector.replicate 8 Job.reset
  tiles : u.tiles = []
  counters : u.ctr = []
  number : u.life.startNo = (s.life.startNo + 1) % 2 ^ 32
  defects : u.life.defects = s.life.defects
  nonce : u.draws = s.draws + 1
  queue : u.pending = s.pending

/-! ## Power, heat and tokens (R316 to R346) -/

/-- Only the power system has changed. -/
def onlyPwr (s u : State) : Prop := { u with pwr := s.pwr } = s

/-- The other zones are as before. -/
def onlyZone (s u : State) (z : ZoneIx) : Prop := ∀ y : ZoneIx, y ≠ z → u.zonePwr y.val = s.zonePwr y.val

/-- A zone that no job and no test holds, and that nothing keeps from being switched on. -/
structure FreeZone (s : State) (z : ZoneIx) : Prop where
  idle : s.zoneIdle z.val = true
  tests : s.check.tests = []
  held : s.zoneHeld z.val = false

/-- The member holds its tokens by `n` after half a move, and has answered the master with its holding (R343). -/
def movedTokens (s u : State) (seq n : Nat) : Prop :=
  { u with pwr := s.pwr, out := s.out } = s ∧ u.pwr.token.held = n ∧ u.out = s.out ++ [.peer s.link.master pkAck [s.boot.deviceId, seq, n]]

/-- No zone belongs to a job. -/
def State.noZoneOwned (s : State) : Prop := ∀ z, z < 48 → s.zoneOwner z = none

/-! ## Links and the cascade (R373 to R400) -/

/-- The two links of a die. -/
def ofDie (k : LinkDieIx) (l : LinkIx) : Prop := l.val = 2 * k.val ∨ l.val = 2 * k.val + 1

/-- A link that is up has gone down to be retrained: its loss is counted, and nothing is held for replay on it (R375, R385). -/
def LinkLost (s u : State) (l : LinkIx) : Prop :=
  (u.linkSt l.val).state = lsRetraining ∧ (u.linkSt l.val).downs = satAdd (s.linkSt l.val).downs 1 ∧ (u.linkSt l.val).retry = []

/-- The flits that a link sends again from a sequence number on: those not acknowledged by it (R382). -/
def replayed (s : State) (l : LinkIx) (fseq : Nat) : List Out :=
  ((s.linkSt l.val).retry.filter (fun r => ! ackPast fseq r.1)).map (fun r => .flit l.val r.1 r.2)

/-- No job is in a group. -/
def State.noGroups (s : State) : Prop := ∀ j, (s.job j).groupId = 0

/-- This device is a member of the group of slot `j`, whose job runs a plan. -/
structure InGroup (s : State) (j : SlotIx) (p : Plan) : Prop where
  plan : (s.job j).plan = some p
  running : (s.job j).running = true
  group : (s.job j).groupId ≠ 0
  own : s.boot.deviceId ∈ (s.job j).members

/-! ## The host port (R406 to R421) -/

/-- Only the host and management ports have changed. -/
def onlyHost (s u : State) : Prop := { u with host := s.host } = s

/-- The only effect is one thing sent out. -/
def sent (s u : State) (o : Out) : Prop := { u with out := s.out } = s ∧ u.out = s.out ++ [o]

/-- What every reset of the host interface leaves (R418): the registers of BAR0 and the event queues as after reset, every vector masked, the mailboxes
free, the backlog empty, the mailbox sessions closed, the sessions of the other carriers and the rest of the machine as before. -/
structure HostWasReset (s u : State) : Prop where
  rest : { u with host := s.host, ctr := s.ctr } = s
  master : u.host.busMaster = false
  d0 : u.host.d3hot = false
  base : u.host.w2Base = 0
  routes : u.host.evRoute = 0xFFFFFFFFFFFFFFFF
  queues : u.host.eqs = Vector.replicate 16 Eq_.reset
  backlog : u.host.backlog = []
  masked : ∀ v, v < 64 → u.msixMasked v = true
  messages : u.host.msixPending = 0
  slots : ∀ n : Fin 16, (u.host.mbx[n]).state = 0
  sessions : u.host.sessions = s.host.sessions.filter (fun q => q.car != 1)
  waiting : u.host.queue.length = s.host.queue.length
  trace : u.host.trace = s.host.trace ∧ u.host.traceCount = s.host.traceCount
  ports : u.host.ethUp = s.host.ethUp ∧ u.host.smResp = s.host.smResp ∧ u.host.alerts = s.host.alerts

/-- The other mailboxes are as before. -/
def onlyMbx (s u : State) (n : Fin 16) : Prop := ∀ m : Fin 16, m ≠ n → u.host.mbx[m] = s.host.mbx[m]

/-- The other event queues are as before. -/
def onlyEq (s u : State) (q : Fin 16) : Prop := ∀ p : Fin 16, p ≠ q → u.host.eqs[p] = s.host.eqs[p]

/-- A write to BAR0 that is discarded and counted (R408 to R410). -/
def discarded (s u : State) : Prop := { u with ctr := s.ctr } = s ∧ counted s u (ck 0x1040 0x10) 1

/-- Nothing waits for an event queue. -/
def noBacklog (s : State) : Prop := s.host.backlog = [] ∧ ∀ q : Fin 16, (s.host.eqs[q]).dropped = 0

/-- The processor answers the DOE mailbox. -/
structure DoeServed (s : State) : Prop where
  reachable : s.doeOn = true
  runs : s.boot.mgmt = true

/-- SPDM has come as far as the algorithms (R420). -/
def spdmAgreed (s : State) : Prop := s.host.spdmVersion = true ∧ s.host.spdmCaps = true ∧ s.host.spdmAlgs = true

/-- The device has answered one DOE request with an SPDM message, and only the state of SPDM has changed beside. -/
def spdmSent (s u : State) (msg : List Byte) : Prop :=
  { u with out := s.out, host := s.host, draws := s.draws } = s ∧ u.out = s.out ++ [.doe (doeObject 1 msg)]
    ∧ u.host.mbx = s.host.mbx ∧ u.host.eqs = s.host.eqs ∧ u.host.sessions = s.host.sessions

/-! ## Ports and the Pennos protocol (R422 to R442) -/

/-- The processor serves frames in normal service, and none waits. -/
structure ServesFrames (s : State) : Prop where
  service : InService s
  empty : s.host.queue = []

/-- A REQUEST frame that session `q` may send next: its version, and a SEQ above the highest accepted one (R426). -/
structure NextRequest (p : PFrame) (q : Session) : Prop where
  kind : p.kind = 3
  version : p.ver = 16 + q.version
  fresh : q.kept.find? (fun k => k.1 == p.seq) = none
  higher : ∀ a, q.high = some a → 0 < (p.seq + 2 ^ 32 - a) % 2 ^ 32 ∧ (p.seq + 2 ^ 32 - a) % 2 ^ 32 < 2 ^ 31

/-- The environment of a session's operations. -/
def sessEnv (car : Nat) (q : Session) : OpEnv := ⟨car, q.id, q.version, true, valueRoom car q.maxFrame⟩

/-- The state in which the operations of a request run: the session has accepted its SEQ, and the request has left the queue. -/
def State.accepted (s : State) (q : Session) (seq : Nat) : State := s.updSession q.id (fun q => { q with high := some seq })

/-- Ethernet frames are taken, and the state has a session `q` that a frame names. -/
structure EthSession (s : State) (origin sess : Nat) (q : Session) : Prop where
  ethOn : s.ethOn = true
  session : s.sessionOf 0 origin sess = some q

/-- A command of one operation was answered on a carrier with a status and a value, and nothing else has changed but counters. -/
def opAnswered (s u : State) (car status : Nat) (v : List Byte) : Prop :=
  { u with out := s.out, ctr := s.ctr } = s ∧ u.out = s.out ++ [.answer car status v]

/-- The state in which the operations of an SMBus request run. -/
def State.smServing (s : State) : State := { s with host := { s.host with smResp := none, smBusy := true } }

/-- The environment of an SMBus request: version 1.0, session 0. -/
def smEnv : OpEnv := ⟨2, 0, 0, true, valueRoom 2 255⟩

/-! ## Protection and debug (R453 to R473, R484) -/

/-- The checks of a maintenance command before its operation, in the order of R465: the key slot, its key, SERIAL and NONCE, the signature; 0 when all hold. -/
def State.maintCheck (s : State) (cmd : List Byte) : Nat :=
  if s.slotUsable (imgField cmd 1 1) roleMaint = false then 0x0B02
  else if s.slotKeyOk (imgField cmd 1 1) = false then 0x0B03
  else if imgField cmd 8 8 ≠ s.fuses.serial ∨ (cmd.drop 16).take 16 ≠ s.prot.maintNonce then 0x0B07
  else if Config.ed25519Verify (Config.slotKey (s.slotHash (imgField cmd 1 1))) (cmd.take 64) (cmd.drop 64) = false then 0x0B05
  else 0

/-- The arguments of a maintenance command. -/
def maintArgs (cmd : List Byte) : List Byte := (cmd.drop 32).take 32

/-- A whole command of operation `mop` whose reserved bytes are 0. -/
structure MaintForm (cmd : List Byte) (mop : Nat) : Prop where
  length : cmd.length = 128
  op : imgField cmd 0 1 = mop
  reserved : zerosAt cmd 2 6 = true

/-- What a maintenance command leaves beside its operation (R465): the status of its checks as the answer, the code of a refusal on record, and a new nonce
once SERIAL and NONCE have held. Jobs, tiles and device memory are as before. -/
structure MaintAnswered (s u : State) (car : Carrier) (cmd : List Byte) : Prop where
  rest : { u with life := s.life, fuses := s.fuses, prot := s.prot, pwr := s.pwr, draws := s.draws, ctr := s.ctr, out := s.out } = s
  answer : answers s u car (s.maintCheck cmd)
  code : u.prot.lastReject = if s.maintCheck cmd = 0 then s.prot.lastReject else s.maintCheck cmd
  nonce : u.prot.maintNonce = if s.maintCheck cmd = 0 ∨ s.maintCheck cmd = 0x0B05 then (s.random 16).1 else s.prot.maintNonce
  refused : s.maintCheck cmd ≠ 0 → u.life = s.life ∧ u.fuses = s.fuses

/-- A response that unlocks (R467): to the challenge in force, within its time, signed by a debug key. -/
def State.unlockValid (s : State) (resp : List Byte) (inTime : Bool) : Bool :=
  s.prot.challenge.isSome && inTime && s.slotUsable (imgField resp 0 1) roleDebug && s.slotKeyOk (imgField resp 0 1) && zerosAt resp 1 7
    && Config.ed25519Verify (Config.slotKey (s.slotHash (imgField resp 0 1))) (s.prot.challenge.getD []) (resp.drop 8)

/-- The level that the challenge in force asks for. -/
def State.wantedLevel (s : State) : Nat := imgField (s.prot.challenge.getD []) 24 1

/-- The debug unit serves a command of level `need`. -/
structure DbgServed (s : State) (need : Nat) : Prop where
  powered : s.boot.powered = true
  level : need ≤ s.level

/-- A debug command has been answered, and nothing else has changed. -/
def dbgOnly (s u : State) (status : Nat) (data : List Byte) : Prop :=
  u = { s with prot := { s.prot with dbgReply := leOfNat 2 status ++ data } }

/-- Below its level a debug command is answered 0x0C01 and does nothing; without power nothing answers. -/
def GatedDebug (need : Nat) (i : Instr) : Prop :=
  (∀ s : State, s.boot.powered = true → s.level < need → ∃ u, exec i s = .next u ∧ dbgOnly s u 0x0C01 [])
    ∧ ∀ s : State, s.boot.powered = false → exec i s = .next s

/-- The job of a slot runs and is not halted. -/
def runsFree (s : State) (j : SlotIx) : Prop := (s.job j).running = true ∧ (s.job j).halted = false

/-- The job of a slot runs and is halted. -/
def runsHalted (s : State) (j : SlotIx) : Prop := (s.job j).running = true ∧ (s.job j).halted = true

/-- A halt of the job of slot `j` has been armed: the other slots' halts, the jobs, device memory and the counters are as before. -/
structure HaltArmed (s u : State) (j : SlotIx) (h : HaltReq) : Prop where
  rest : { u with prot := s.prot, tiles := s.tiles, host := s.host, jobs := s.jobs } = s
  armed : u.prot.halts[j] = some h
  others : ∀ k : SlotIx, k ≠ j → u.prot.halts[k] = s.prot.halts[k]
  reply : u.prot.dbgReply = [0, 0]
  traced : u.host.traceCount = s.host.traceCount + 1

/-- The tile exists, and is halted or has no running job. -/
structure StillTile (s : State) (t : TileIx) : Prop where
  inv : s.Inv
  exists_ : s.grid.hasTile t.val = true
  still : s.dbgStill t.val = true

/-- A debug write to a tile: only the tile, the trace and the debug unit have changed; a halted slot is marked as modified. -/
structure DbgWrote (s u : State) (t : TileIx) (j : SlotIx) : Prop where
  rest : { u with tiles := s.tiles, prot := s.prot, host := s.host } = s
  others : ∀ T, T ≠ t.val → u.tile T = s.tile T
  mark : u.prot.modified = if (s.job j).halted then s.prot.modified ||| (1#8 <<< j.val) else s.prot.modified
  reply : u.prot.dbgReply = [0, 0]
  traced : u.host.traceCount = s.host.traceCount + 1

/-- The JTAG port has selected an instruction and shifted out a value. -/
def jtagDid (s u : State) (ir value : Nat) : Prop :=
  { u with out := s.out, prot := s.prot } = s ∧ u.prot = { s.prot with ir := ir } ∧ u.out = s.out ++ [.jtag ir value]

/-! ## The whole machine -/

/-- The scratchpads of all tiles are in the canonical form. -/
def State.SpInv (s : State) : Prop := ∀ T, (s.tile T).sp.wf = true

/-- The fuses that commands may blow hold legal values (R454, R457, R460): the rollback counter is at most 64, DEBUG_LOCK one of the four levels. -/
def Fuses.legal (f : Fuses) : Prop := f.rollback ≤ 64 ∧ f.debugLock ≤ 3

/-- A fuse that is blown stays blown (R454): the rollback counter does not fall, no bit of DEBUG_LOCK or of the revoked keys goes back, and every other
field is as provisioned. -/
structure FusesGrow (f g : Fuses) : Prop where
  rollback : f.rollback ≤ g.rollback
  lock : f.debugLock ||| g.debugLock = g.debugLock
  revoked : f.keyRevoked ||| g.keyRevoked = g.keyRevoked
  fixed : { g with rollback := f.rollback, debugLock := f.debugLock, keyRevoked := f.keyRevoked } = f

end Sys2Proof.Machine
end

