-- ==== Sys2Proof/Certificates/Slice0/Obligations.lean ====
section
/-! DEFINITION. The statements about the device, family by family. Each says what a command leaves and what it leaves alone, over all states that meet
hypotheses on the state and the operands; the terms are those of Sys2Proof/Safety.lean. -/

open Sys2Proof Sys2Proof.Machine

/-- The block takes its commands first in, first out: a step is the command at the front of the queue on the state with the queue's rest, and on an
empty queue the block idles (log entry 1). -/
def Obligations.StepTakesTheFrontCommand : Prop :=
  (∀ (c : Instr) (cs : List Instr) (s : State), s.pending = c :: cs → step s = exec c { s with pending := cs })
    ∧ ∀ s : State, s.pending = [] → step s = .next s

/-- R116, R117: the register instructions of the Ecmet. Shift amounts are the low six bits; division by zero gives all ones, its remainder the dividend;
signed division truncates. R116: the immediate instructions; arithmetic immediates are sign-extended, logical ones zero-extended, and LIH shifts its
destination. It reads the model's conventions of log entry 56. -/
def Obligations.IntegerInstructions : Prop :=
  (RegInsn .add 1 none (fun x y => BitVec.ofNat 64 (x.toNat + y.toNat))
    ∧ RegInsn .sub 1 none (fun x y => BitVec.ofNat 64 (x.toNat + 2 ^ 64 - y.toNat))
    ∧ RegInsn .and 1 none (fun x y => x &&& y) ∧ RegInsn .or 1 none (fun x y => x ||| y) ∧ RegInsn .xor 1 none (fun x y => x ^^^ y)
    ∧ RegInsn .shl 1 none (fun x y => BitVec.ofNat 64 (x.toNat * 2 ^ (y.toNat % 64)))
    ∧ RegInsn .shr 1 none (fun x y => BitVec.ofNat 64 (x.toNat / 2 ^ (y.toNat % 64)))
    ∧ RegInsn .sar 1 none (fun x y => BitVec.ofInt 64 (x.toInt / 2 ^ (y.toNat % 64)))
    ∧ RegInsn .slt 1 none (fun x y => if x.toInt < y.toInt then 1 else 0)
    ∧ RegInsn .sltu 1 none (fun x y => if x.toNat < y.toNat then 1 else 0)
    ∧ RegInsn .min 1 none (fun x y => BitVec.ofInt 64 (min x.toInt y.toInt))
    ∧ RegInsn .max 1 none (fun x y => BitVec.ofInt 64 (max x.toInt y.toInt))
    ∧ RegInsn .minu 1 none (fun x y => BitVec.ofNat 64 (min x.toNat y.toNat))
    ∧ RegInsn .maxu 1 none (fun x y => BitVec.ofNat 64 (max x.toNat y.toNat))
    ∧ RegInsn .mul 3 none (fun x y => BitVec.ofNat 64 (x.toNat * y.toNat))
    ∧ RegInsn .mulh 3 none (fun x y => BitVec.ofInt 64 (x.toInt * y.toInt / 2 ^ 64))
    ∧ RegInsn .mulhu 3 none (fun x y => BitVec.ofNat 64 (x.toNat * y.toNat / 2 ^ 64))
    ∧ RegInsn .div 34 (some rowDiv) (fun x y => if y = 0 then BitVec.allOnes 64 else BitVec.ofInt 64 (x.toInt.tdiv y.toInt))
    ∧ RegInsn .divu 34 (some rowDiv) (fun x y => if y = 0 then BitVec.allOnes 64 else BitVec.ofNat 64 (x.toNat / y.toNat))
    ∧ RegInsn .rem 34 (some rowDiv) (fun x y => if y = 0 then x else BitVec.ofInt 64 (x.toInt.tmod y.toInt))
    ∧ RegInsn .remu 34 (some rowDiv) (fun x y => if y = 0 then x else BitVec.ofNat 64 (x.toNat % y.toNat))
    ∧ UnaryInsn .mix64 4 mix64
    ∧ UnaryInsn .popc 1 (fun x => BitVec.ofNat 64 ((List.range 64).countP (fun k => x.getLsbD k)))
    ∧ UnaryInsn .clz 1 (fun x => BitVec.ofNat 64 (if x = 0 then 64 else 63 - x.toNat.log2)))
  ∧ (ImmInsn .addi (fun x imm => BitVec.ofInt 64 (x.toInt + imm.toInt))
    ∧ ImmInsn .andi (fun x imm => x &&& BitVec.ofNat 64 imm.toNat)
    ∧ ImmInsn .ori (fun x imm => x ||| BitVec.ofNat 64 imm.toNat)
    ∧ ImmInsn .xori (fun x imm => x ^^^ BitVec.ofNat 64 imm.toNat)
    ∧ ImmInsn .slti (fun x imm => if x.toInt < imm.toInt then 1 else 0)
    ∧ ShiftInsn .shiftiShl (fun x n => BitVec.ofNat 64 (x.toNat * 2 ^ n))
    ∧ ShiftInsn .shiftiShr (fun x n => BitVec.ofNat 64 (x.toNat / 2 ^ n))
    ∧ ShiftInsn .shiftiSar (fun x n => BitVec.ofInt 64 (x.toInt / 2 ^ n))
    ∧ ∀ s i d imm, s.Inv → CoreReady s i [rS d] [rS d] none →
        ∃ u, exec (.lih i d 0 imm) s = .next u
          ∧ ScalarResult s u i (s.issueAt i [rS d] [rS d] none) d 1 (BitVec.ofNat 64 (((s.coreAt i).getS d).toNat * 2 ^ 16 + imm.toNat)))

/-- R109, R114: the loads, little-endian, sign- or zero-extended; VLD takes a line of 64 B. R109, R114: the stores write the low bytes of s[D], and VST
the 64 bytes of a vector register; nothing else of the scratchpad changes. It reads the model's conventions of log entries 12, 56 and 58. -/
def Obligations.LoadAndStoreInstructions : Prop :=
  (LoadInsn .ld64 8 (BitVec.ofNat 64)
    ∧ LoadInsn .ld32 4 (fun x => BitVec.signExtend 64 (BitVec.ofNat 32 x)) ∧ LoadInsn .ld32u 4 (BitVec.ofNat 64)
    ∧ LoadInsn .ld16 2 (fun x => BitVec.signExtend 64 (BitVec.ofNat 16 x)) ∧ LoadInsn .ld16u 2 (BitVec.ofNat 64)
    ∧ LoadInsn .ld8 1 (fun x => BitVec.signExtend 64 (BitVec.ofNat 8 x)) ∧ LoadInsn .ld8u 1 (BitVec.ofNat 64)
    ∧ ∀ s i (d : VReg) a imm, s.Inv → CoreReady s i [rS a] [rV d] none → DataOk s i (s.offAt i a imm) 64 →
        ∃ u, exec (.vld i (BitVec.ofNat 5 d.val) a imm) s = .next u
          ∧ VectorResult s u i (s.issueAt i [rS a] [rV d] none) d 4
              (BitVec.ofNat 512 (natOfLE ((s.tile i.tile.val).sp.readBytes (s.physAt i (s.offAt i a imm)) 64))) 0)
  ∧ (StoreInsn .st64 8 ∧ StoreInsn .st32 4 ∧ StoreInsn .st16 2 ∧ StoreInsn .st8 1
    ∧ ∀ s i (d : VReg) a imm, s.Inv → (s.tile i.tile.val).sp.wf = true → CoreReady s i [rS a, rV d] [] none → DataOk s i (s.offAt i a imm) 64 →
        ∃ u, exec (.vst i (BitVec.ofNat 5 d.val) a imm) s = .next u
          ∧ Stored s u i (s.issueAt i [rS a, rV d] [] none) (s.physAt i (s.offAt i a imm)) (leOfNat 64 ((s.coreAt i).v[d]).toNat))

/-- R113, R117: branches and jumps; a taken one issues its target two cycles later; JAL leaves the address of the next instruction in s31, and JR takes
the register. It reads the model's conventions of log entry 56. -/
def Obligations.BranchAndJumpInstructions : Prop :=
  BranchInsn .beq (fun x y => x = y) ∧ BranchInsn .bne (fun x y => x ≠ y)
    ∧ BranchInsn .blt (fun x y => x.toInt < y.toInt) ∧ BranchInsn .bge (fun x y => y.toInt ≤ x.toInt)
    ∧ BranchInsn .bltu (fun x y => x.toNat < y.toNat) ∧ BranchInsn .bgeu (fun x y => y.toNat ≤ x.toNat)
    ∧ (∀ s i (off : BitVec 26), s.Inv → CoreReady s i [] [] none → 0 ≤ s.targetAt i off.toInt → s.targetAt i off.toInt ≤ 65535 →
        ∃ u, exec (.j i off) s = .next u ∧ NoResult s u i (s.targetAt i off.toInt).toNat (s.issueAt i [] [] none + 2))
    ∧ (∀ s i (off : BitVec 26), s.Inv → CoreReady s i [] [31] none → 0 ≤ s.targetAt i off.toInt → s.targetAt i off.toInt ≤ 65535 →
        ∃ u, exec (.jal i off) s = .next u ∧ onlyCore s u i ∧ (u.coreAt i).pc = (s.targetAt i off.toInt).toNat
          ∧ (u.coreAt i).now = s.issueAt i [] [31] none + 2
          ∧ writesS (s.coreAt i) (u.coreAt i) 31 (BitVec.ofNat 64 ((s.coreAt i).pc + 1)) ∧ keepsV (s.coreAt i) (u.coreAt i)
          ∧ keepsFlags (s.coreAt i) (u.coreAt i))
    ∧ ∀ s i a, s.Inv → CoreReady s i [rS a] [] none → ((s.coreAt i).getS a).toNat ≤ 65535 →
        ∃ u, exec (.jr i 0 a 0) s = .next u ∧ NoResult s u i ((s.coreAt i).getS a).toNat (s.issueAt i [rS a] [] none + 2)

/-- R116, R118, R119: the lane-wise vector instructions. R116, R118: integer lanes wrap, but VADDS and VSUBS saturate; comparisons and extremes are
signed, and a comparison gives a lane of ones. The lanes are numbers below 2^w, and their signed values are those of two's complement. It reads the
model's conventions of log entries 5 and 56. -/
def Obligations.VectorLaneInstructions : Prop :=
  (LaneInsn .vadd .add (fun _ a b => [a, b]) 2 4 ∧ LaneInsn .vsub .sub (fun _ a b => [a, b]) 2 4
    ∧ LaneInsn .vmul .mul (fun _ a b => [a, b]) 3 4 ∧ LaneInsn .vfma .fma (fun d a b => [a, b, d]) 3 4
    ∧ LaneInsn .vmin .min (fun _ a b => [a, b]) 2 4 ∧ LaneInsn .vmax .max (fun _ a b => [a, b]) 2 4
    ∧ LaneInsn .vabs .abs (fun _ a _ => [a]) 2 4 ∧ LaneInsn .vneg .neg (fun _ a _ => [a]) 2 4
    ∧ LaneInsn .vadds .adds (fun _ a b => [a, b]) 2 4 ∧ LaneInsn .vsubs .subs (fun _ a b => [a, b]) 2 4
    ∧ LaneInsn .vcmplt .cmplt (fun _ a b => [a, b]) 2 2 ∧ LaneInsn .vcmpeq .cmpeq (fun _ a b => [a, b]) 2 2
    ∧ BitInsn .vand (fun _ a b => [a, b]) (fun x y _ => x &&& y) ∧ BitInsn .vor (fun _ a b => [a, b]) (fun x y _ => x ||| y)
    ∧ BitInsn .vxor (fun _ a b => [a, b]) (fun x y _ => x ^^^ y)
    ∧ BitInsn .vsel (fun d a b => [a, b, d]) (fun x y m => (x &&& m) ||| (y &&& ~~~m)))
  ∧ (∀ w, w = 8 ∨ w = 16 ∨ w = 32 → ∀ a b d, a < 2 ^ w → b < 2 ^ w → d < 2 ^ w →
    let x := (BitVec.ofNat w a).toInt
    let y := (BitVec.ofNat w b).toInt
    laneOp .add (.int w) a b d = ((a + b) % 2 ^ w, 0)
      ∧ laneOp .sub (.int w) a b d = ((a + 2 ^ w - b) % 2 ^ w, 0)
      ∧ laneOp .mul (.int w) a b d = (a * b % 2 ^ w, 0)
      ∧ laneOp .fma (.int w) a b d = ((a * b + d) % 2 ^ w, 0)
      ∧ laneOp .min (.int w) a b d = (if x ≤ y then a else b, 0)
      ∧ laneOp .max (.int w) a b d = (if x ≤ y then b else a, 0)
      ∧ laneOp .neg (.int w) a b d = ((2 ^ w - a) % 2 ^ w, 0)
      ∧ laneOp .abs (.int w) a b d = (if x < 0 then 2 ^ w - a else a, 0)
      ∧ laneOp .cmplt (.int w) a b d = (if x < y then 2 ^ w - 1 else 0, 0)
      ∧ laneOp .cmpeq (.int w) a b d = (if a = b then 2 ^ w - 1 else 0, 0)
      ∧ (let r := (BitVec.ofNat w (laneOp .adds (.int w) a b d).1).toInt
         r = max (-2 ^ (w - 1)) (min (2 ^ (w - 1) - 1) (x + y)))
      ∧ (let r := (BitVec.ofNat w (laneOp .subs (.int w) a b d).1).toInt
         r = max (-2 ^ (w - 1)) (min (2 ^ (w - 1) - 1) (x - y))))

/-- R116, R118, R120, R121: permutation, splat, extract, insert, the reductions and the conversion. It reads the model's conventions of log entries 8
and 56. -/
def Obligations.VectorMovesAndReductions : Prop :=
  (∀ s i vd va vb ty l, s.Inv → laneTy ty = some l → CoreReady s i [rV va, rV vb] [rV vd] none →
      ∃ u v, exec (.vperm i vd va vb ty) s = .next u ∧ VectorResult s u i (s.issueAt i [rV va, rV vb] [rV vd] none) vd 3 v 0
        ∧ ∀ n, n < l.lanes → laneOf l.w v n = laneOf l.w (s.coreAt i).v[va] (laneOf l.w (s.coreAt i).v[vb] n % l.lanes))
    ∧ (∀ s i vd sa ty l, s.Inv → laneTy ty = some l → CoreReady s i [rS sa] [rV vd] none →
      ∃ u v, exec (.vsplat i vd sa ty) s = .next u ∧ VectorResult s u i (s.issueAt i [rS sa] [rV vd] none) vd 1 v 0
        ∧ ∀ n, n < l.lanes → laneOf l.w v n = ((s.coreAt i).getS sa).toNat % 2 ^ l.w)
    ∧ (∀ s i sd va sa ty l, s.Inv → laneTy ty = some l → CoreReady s i [rS sa, rV va] [rS sd] none →
      let x := laneOf l.w (s.coreAt i).v[va] (((s.coreAt i).getS sa).toNat % l.lanes)
      ∃ u, exec (.vext i sd va sa ty) s = .next u
        ∧ ScalarResult s u i (s.issueAt i [rS sa, rV va] [rS sd] none) sd 2
            (if isFloat ty then BitVec.ofNat 64 x else BitVec.signExtend 64 (BitVec.ofNat l.w x)))
    ∧ (∀ s i vd sa sd ty l, s.Inv → laneTy ty = some l → CoreReady s i [rS sa, rS sd, rV vd] [rV vd] none →
      ∃ u v, exec (.vins i vd sa sd ty) s = .next u ∧ VectorResult s u i (s.issueAt i [rS sa, rS sd, rV vd] [rV vd] none) vd 2 v 0
        ∧ ∀ n, n < l.lanes → laneOf l.w v n
            = if n = ((s.coreAt i).getS sa).toNat % l.lanes then ((s.coreAt i).getS sd).toNat % 2 ^ l.w else laneOf l.w (s.coreAt i).v[vd] n)
    ∧ ReduceInsn .vredadd .add ∧ ReduceInsn .vredmax .max ∧ ReduceInsn .vredmin .min
    ∧ (∀ s i (vd va : VReg) ty (dt : BitVec 3) a b, s.Inv → laneTy ty = some a → laneTy dt = some b → a.lanes = b.lanes →
      CoreReady s i [rV va] [rV vd] none →
      ∃ u, exec (.vcvt i vd va ⟨dt.toNat, Nat.lt_trans dt.isLt (by decide)⟩ ty) s = .next u
        ∧ VectorResult s u i (s.issueAt i [rV va] [rV vd] none) vd 4 (vecCvt a b (s.coreAt i).v[va] (s.coreAt i).v[vNext va]).1
            (vecCvt a b (s.coreAt i).v[va] (s.coreAt i).v[vNext va]).2.2)
    ∧ (∀ s i (vd va : VReg) ty (dt : BitVec 3) a b, s.Inv → laneTy ty = some a → laneTy dt = some b → b.lanes = 2 * a.lanes → va.val % 2 = 0 →
      CoreReady s i [rV va, rV (vNext va)] [rV vd] none →
      ∃ u, exec (.vcvt i vd va ⟨dt.toNat, Nat.lt_trans dt.isLt (by decide)⟩ ty) s = .next u
        ∧ VectorResult s u i (s.issueAt i [rV va, rV (vNext va)] [rV vd] none) vd 4
            (vecCvt a b (s.coreAt i).v[va] (s.coreAt i).v[vNext va]).1 (vecCvt a b (s.coreAt i).v[va] (s.coreAt i).v[vNext va]).2.2)
    ∧ ∀ s i (vd va : VReg) ty (dt : BitVec 3) a b, s.Inv → laneTy ty = some a → laneTy dt = some b → a.lanes = 2 * b.lanes → vd.val % 2 = 0 →
      CoreReady s i [rV va] [rV vd, rV (vNext vd)] none →
      ∃ u, exec (.vcvt i vd va ⟨dt.toNat, Nat.lt_trans dt.isLt (by decide)⟩ ty) s = .next u ∧ onlyCore s u i
        ∧ Retired (s.coreAt i) (u.coreAt i) (s.issueAt i [rV va] [rV vd, rV (vNext vd)] none)
        ∧ (u.coreAt i).v[vd] = (vecCvt a b (s.coreAt i).v[va] (s.coreAt i).v[vNext va]).1
        ∧ (u.coreAt i).v[vNext vd] = (vecCvt a b (s.coreAt i).v[va] (s.coreAt i).v[vNext va]).2.1
        ∧ (∀ r : VReg, r ≠ vd → r ≠ vNext vd → (u.coreAt i).v[r] = (s.coreAt i).v[r]) ∧ keepsS (s.coreAt i) (u.coreAt i)
        ∧ (u.coreAt i).vflags = (s.coreAt i).vflags ||| (vecCvt a b (s.coreAt i).v[va] (s.coreAt i).v[vNext va]).2.2

/-- R122 to R124: the bead instructions and the functions of the function tables. It reads the model's conventions of log entry 56. -/
def Obligations.BeadAndFunctionInstructions : Prop :=
  EncodeInsn .venc16 false ∧ EncodeInsn .venc32 true
    ∧ (∀ s i (vd va : VReg) sa fmt f, s.Inv → beadFmtOf fmt.toNat = some f → vd.val % 2 = 0 →
      CoreReady s i [rV va, rS sa] [rV vd, rV (vNext vd)] (some rowBead) →
      let k := s.coreAt i
      let vals := (vdecBead f k.v[va] (lo32 (k.getS sa) % 65536) (hi32v (k.getS sa))).map Prod.fst
      ∃ u, exec (.vdec i vd va sa fmt) s = .next u ∧ (u.coreAt i).pc = k.pc + 1
        ∧ (u.coreAt i).v[vd] = ofLanes 32 (vals.take 16) ∧ (u.coreAt i).v[vNext vd] = ofLanes 32 (vals.drop 16)
        ∧ (∀ r : VReg, r ≠ vd → r ≠ vNext vd → (u.coreAt i).v[r] = k.v[r]) ∧ keepsS k (u.coreAt i) ∧ keepsFlags k (u.coreAt i))
    ∧ (∀ s i sd va sa fmt f, s.Inv → beadFmtOf fmt.toNat = some f → CoreReady s i [rV va, rS sa] [rS sd] (some rowBead) →
      ∃ u, exec (.vsck i sd va sa fmt) s = .next u
        ∧ ScalarResult s u i (s.issueAt i [rV va, rS sa] [rS sd] (some rowBead)) sd 4
            (BitVec.ofNat 64 (storageCheck (regBead f (s.coreAt i).v[va]) (BitVec.ofNat 8 ((s.coreAt i).getS sa).toNat)).toNat))
    ∧ FnInsn .fnExp2 0 ∧ FnInsn .fnLog2 1 ∧ FnInsn .fnRcp 2 ∧ FnInsn .fnRsqrt 3 ∧ FnInsn .fnTanh 4 ∧ FnInsn .fnSigm 5 ∧ FnInsn .fnErf 6
    ∧ FnInsn .fnSinp 7

/-- R99, R107, R114, R136, R243: CSRR reads and CSRW writes every control register of its core, and nothing else changes. It reads the model's
conventions of log entries 56 and 84. -/
def Obligations.ControlRegisters : Prop :=
  (∀ s i d (n : BitVec 12) v, s.Inv → CoreReady s i [] [rS d] none → (s.tile i.tile.val).upd.ops = [] →
      controlReads s i (s.issueAt i [] [rS d] none) n.toNat v →
      ∃ u, exec (.csrr i d n) s = .next u ∧ restOfTile s u i ∧ goesOn s u i (s.issueAt i [] [rS d] none + 1) ∧ writesS (s.coreAt i) (u.coreAt i) d v)
    ∧ ∀ s i a (n : BitVec 12), s.Inv → CoreReady s i [rS a] [] none → (s.tile i.tile.val).upd.ops = [] →
      controlWriteOk s i n.toNat ((s.coreAt i).getS a) →
      ∃ u, exec (.csrw i a n) s = .next u ∧ restOfTile s u i ∧ (u.coreAt i).pc = (s.coreAt i).pc + 1
        ∧ (u.coreAt i).now = s.issueAt i [rS a] [] none + 1 ∧ keepsS (s.coreAt i) (u.coreAt i) ∧ keepsV (s.coreAt i) (u.coreAt i)
        ∧ controlWrites s u i (s.issueAt i [rS a] [] none) n.toNat ((s.coreAt i).getS a)

/-- R127, R128: PL.WAIT waits for a position of the step; WIN.OPEN opens a window with a count of 0 and WIN.CLOSE closes it; RW.WAIT gives the arrival
count once it has been reached, or at once on a closed window, and holds otherwise. It reads the model's conventions of log entry 56. -/
def Obligations.PositionsAndWindows : Prop :=
  (∀ s i a, s.Inv → CoreReady s i [rS a] [] none →
      ∃ u, exec (.plWait i a 0) s = .next u
        ∧ NoResult s u i ((s.coreAt i).pc + 1) (max (s.issueAt i [rS a] [] none + 1) (((s.coreAt i).getS a).toNat % 2 ^ 32)))
    ∧ (∀ s i d a w, s.Inv → CoreReady s i [rS a, rS d] [] none →
      let off := ((s.coreAt i).getS a).toNat
      let len := ((s.coreAt i).getS d).toNat
      off + len ≤ (s.tile i.tile.val).tsk.bound → off % 64 = 0 → len % 64 = 0 → (len ≠ 0 → (s.tile i.tile.val).classOk clsMesh off len = true) →
      ∃ u, exec (.winOpen i d a w 0) s = .next u ∧ restOfTile s u i ∧ goesOn s u i (s.issueAt i [rS a, rS d] [] none + 1)
        ∧ keepsS (s.coreAt i) (u.coreAt i)
        ∧ (u.tile i.tile.val).wins[w] = { (s.tile i.tile.val).wins[w] with isOpen := true, off := off, len := len, count := 0, ext := 0 }
        ∧ ∀ x : Fin 8, x ≠ w → (u.tile i.tile.val).wins[x] = (s.tile i.tile.val).wins[x])
    ∧ (∀ s i w, s.Inv → CoreReady s i [] [] none →
      ∃ u, exec (.winClose i w 0) s = .next u ∧ restOfTile s u i ∧ goesOn s u i (s.issueAt i [] [] none + 1) ∧ keepsS (s.coreAt i) (u.coreAt i)
        ∧ (u.tile i.tile.val).wins[w] = { (s.tile i.tile.val).wins[w] with isOpen := false }
        ∧ ∀ x : Fin 8, x ≠ w → (u.tile i.tile.val).wins[x] = (s.tile i.tile.val).wins[x])
    ∧ ∀ s i d a w waited, s.Inv → CoreReady s i [rS a] [rS d] none →
      let x := (s.tile i.tile.val).wins[w]
      let t0 := s.issueAt i [rS a] [rS d] none
      let want := ((s.coreAt i).getS a).toNat % 2 ^ 32
      (x.isOpen = false → ∃ u, exec (.rwWait i d a w 0 waited) s = .next u ∧ waitedResult s u i t0 1 0 d (BitVec.ofNat 64 x.count))
        ∧ (x.isOpen = true → want ≤ x.count →
            ∃ u, exec (.rwWait i d a w 0 waited) s = .next u ∧ waitedResult s u i t0 1 waited d (BitVec.ofNat 64 x.count))
        ∧ (x.isOpen = true → x.count < want → ∃ u, exec (.rwWait i d a w 0 waited) s = .next u ∧ holds s u i wkRw t0)

/-- R129, R182, R184: SV.SEND takes the first free entry as its tag, queues its lines at the router and leaves 0; it holds while no entry is free, four
requests are outstanding or the router has no room. SV.RECV lands the oldest line at s[A] and leaves 0; without a line it ends with 1 at its limit,
and holds otherwise. R130: TALLY.RD gives the tally after 8 to 24 cycles, SENS.RD a reading after 16 to 4,096, LNK.RD the status word of a link, or
all ones where no answer came. It reads the model's conventions of log entries 7, 14 and 63. -/
def Obligations.ServiceMessages : Prop :=
  ((∀ s i d a waited tag rest, s.Inv → CoreReady s i [rS a] [rS d] none → DataOk s i ((s.coreAt i).getS a).toNat 64 →
      let v := (s.tile i.tile.val).line (s.physAt i ((s.coreAt i).getS a).toNat)
      let q := (s.tile i.tile.val).sv i.core
      sendable (s.env i.tile.val) (hdrOf v) = true → hType (hdrOf v) = 1 →
      ((freeEntries q = tag :: rest ∧ q.reqs.length < 4 ∧ (SMap.get ([] : List SvLine) (s.tile i.tile.val).router.ins 8).length < 4 →
          ∃ u, exec (.svSend i d a 0 waited) s = .next u ∧ waitedResult s u i (s.issueAt i [rS a] [rS d] none) 2 waited d 0
            ∧ (u.tile i.tile.val).sp = (s.tile i.tile.val).sp
            ∧ ((u.tile i.tile.val).sv i.core).reqs = q.reqs ++ [⟨tag, q.nextSeq⟩]
            ∧ ((u.tile i.tile.val).sv i.core).nextSeq = (q.nextSeq + 1) % 1024
            ∧ (SMap.get ([] : List SvLine) (u.tile i.tile.val).router.ins 8).length
                = (SMap.get ([] : List SvLine) (s.tile i.tile.val).router.ins 8).length + 1)
        ∧ (freeEntries q = [] → ∃ u, exec (.svSend i d a 0 waited) s = .next u ∧ holds s u i wkSend (s.issueAt i [rS a] [rS d] none))))
    ∧ ∀ s i d a waited, s.Inv → (s.tile i.tile.val).sp.wf = true → CoreReady s i [rS a, rS d] [rS d] none → DataOk s i ((s.coreAt i).getS a).toNat 64 →
      let q := (s.tile i.tile.val).sv i.core
      let t0 := s.issueAt i [rS a, rS d] [rS d] none
      let limit := ((s.coreAt i).getS d).toNat % 2 ^ 32
      (∀ e rest, q.queue = e :: rest →
          ∃ u, exec (.svRecv i d a 0 waited) s = .next u ∧ waitedResult s u i t0 2 waited d 0
            ∧ (u.tile i.tile.val).sp.readBytes (s.physAt i ((s.coreAt i).getS a).toNat) 64 = leOfNat 64 e.2.toNat
            ∧ ((u.tile i.tile.val).sv i.core).queue = rest)
        ∧ (q.queue = [] → limit ≠ 0 → limit ≤ waited → ∃ u, exec (.svRecv i d a 0 waited) s = .next u ∧ waitedResult s u i t0 2 waited d 1)
        ∧ (q.queue = [] → (limit = 0 ∨ waited < limit) → ∃ u, exec (.svRecv i d a 0 waited) s = .next u ∧ holds s u i wkRecv t0))
  ∧ ((∀ s i d waited, s.Inv → CoreReady s i [] [rS d] none →
      ∃ u, exec (.tallyRd i d 0 waited) s = .next u
        ∧ waitedResult s u i (s.issueAt i [] [rS d] none) 8 (min waited 16) d (BitVec.ofNat 64 s.tally.now))
    ∧ (∀ s i d a waited, s.Inv → CoreReady s i [rS a] [rS d] none →
      ∃ u, exec (.sensRd i d a 0 waited) s = .next u ∧ u.draws = s.draws + 1
        ∧ waitedResult { s with draws := s.draws + 1 } u i (s.issueAt i [rS a] [rS d] none) 16 (min waited 4080) d
            (sensorReading s ((s.coreAt i).getS a)))
    ∧ ∀ s i d a answered waited, s.Inv → CoreReady s i [rS a] [rS d] none →
      ∃ u, exec (.lnkRd i d a 0 answered waited) s = .next u
        ∧ waitedResult s u i (s.issueAt i [rS a] [rS d] none) 64 waited d
            (if answered then linkStatus s (((s.coreAt i).getS a).toNat % 64) else BitVec.allOnes 64))

/-- R131, R132: SYNC holds until every core of its mask holds with the same mask, and then they all go on in the next cycle; STEP.END ends its core,
names the next task on c0, and the tile arrives in the cycle after its last core. It reads the model's conventions of log entries 56 and 59. -/
def Obligations.SyncAndStepEnd : Prop :=
  (∀ s i (mask : BitVec 4), s.Inv → CoreReady s i [] [] none → mask.getLsbD i.core.val = true →
      (∃ c : CoreIx, c ≠ i.core ∧ mask.getLsbD c.val = true ∧ ∀ n, ((s.tile i.tile.val).core c).run ≠ .sync mask n) →
      ∃ u, exec (.sync i mask 0) s = .next u ∧ restOfTile s u i ∧ (u.coreAt i).run = .sync mask (s.issueAt i [] [] none)
        ∧ (u.coreAt i).pc = (s.coreAt i).pc ∧ keepsS (s.coreAt i) (u.coreAt i) ∧ keepsV (s.coreAt i) (u.coreAt i))
    ∧ (∀ s i (mask : BitVec 4), s.Inv → CoreReady s i [] [] none → mask.getLsbD i.core.val = true →
      (∀ c : CoreIx, c ≠ i.core → mask.getLsbD c.val = true → ∃ n, n ≤ s.issueAt i [] [] none ∧ ((s.tile i.tile.val).core c).run = .sync mask n) →
      ∃ u, exec (.sync i mask 0) s = .next u ∧ onlyTile s u i.tile.val
        ∧ (∀ c : CoreIx, mask.getLsbD c.val = true →
            ((u.tile i.tile.val).core c).run = .running ∧ ((u.tile i.tile.val).core c).now = s.issueAt i [] [] none + 1
              ∧ ((u.tile i.tile.val).core c).pc = ((s.tile i.tile.val).core c).pc + 1)
        ∧ ∀ c : CoreIx, mask.getLsbD c.val = false → (u.tile i.tile.val).core c = (s.tile i.tile.val).core c)
    ∧ (∀ s i a, s.Inv → CoreReady s i [rS a] [] none → i.core = 0 → ((s.coreAt i).getS a).toNat < 512 → (s.tile i.tile.val).arrivedAt = none →
      (∀ c : CoreIx, c ≠ 0 → ∃ n, n ≤ s.issueAt i [rS a] [] none ∧ ((s.tile i.tile.val).core c).run = .ended n) →
      ∃ u, exec (.stepEnd i a 0) s = .next u ∧ restOfTile s u i
        ∧ (u.tile i.tile.val).next = some (((s.coreAt i).getS a).toNat % 256, decide (256 ≤ ((s.coreAt i).getS a).toNat))
        ∧ (u.coreAt i).run = .ended (s.issueAt i [rS a] [] none)
        ∧ (u.tile i.tile.val).arrivedAt = some (s.issueAt i [rS a] [] none + 1))
    ∧ ∀ s i, s.Inv → CoreReady s i [rS 0] [] none → i.core = 1 ∨ i.core = 2 → ((s.tile i.tile.val).core 0).run = .running →
      ∃ u, exec (.stepEnd i 0 0) s = .next u ∧ restOfTile s u i ∧ (u.coreAt i).run = .ended (s.issueAt i [rS 0] [] none)
        ∧ (u.tile i.tile.val).next = (s.tile i.tile.val).next ∧ (u.tile i.tile.val).arrivedAt = (s.tile i.tile.val).arrivedAt

/-- R137, R138: a data access traps with the lowest cause that holds, and a bound violation stands in place of a class or owner violation; a reserved
word traps with cause 4 under its MAJOR. Nothing else changes. It reads the model's conventions of log entries 56 and 62. -/
def Obligations.CoreTraps : Prop :=
  (∀ s i d a imm, s.Inv → CoreReady s i [rS a] [rS d] none →
      let t := s.tile i.tile.val
      let o := s.offAt i a imm
      let b := bankOf (s.physAt i o)
      let t0 := s.issueAt i [rS a] [rS d] none
      (t.tsk.bound < o + 8 → ∃ u, exec (.ld64 i d a imm) s = .next u ∧ trapped s u i 2 0x09 t0)
        ∧ (o + 8 ≤ t.tsk.bound → o % 8 ≠ 0 → t.bankClass b = clsEcmet → ∃ u, exec (.ld64 i d a imm) s = .next u ∧ trapped s u i 3 0x09 t0)
        ∧ (o + 8 ≤ t.tsk.bound → o % 8 = 0 → t.bankClass b ≠ clsEcmet → ∃ u, exec (.ld64 i d a imm) s = .next u ∧ trapped s u i 1 0x09 t0)
        ∧ (o + 8 ≤ t.tsk.bound → o % 8 = 0 → t.bankClass b = clsEcmet → (t.bankOwner b ≠ i.core.val ∨ t.bankCode b = true) →
            ∃ u, exec (.ld64 i d a imm) s = .next u ∧ trapped s u i 6 0x09 t0))
    ∧ (∀ s i (w : U32), s.Inv → CoreReady s i [] [] none → reservedWord w = true → fieldN w.toNat 26 6 ≠ 0x3A →
      ∃ u, exec (.reservedInstruction i w) s = .next u ∧ trapped s u i 4 (fieldN w.toNat 26 6) (s.issueAt i [] [] none))
    ∧ ∀ s i kind t0, s.Inv → s.grid.hasTile i.tile.val = true → (s.coreAt i).run = .waiting kind t0 → (s.tile i.tile.val).halted = false →
      ∃ u, exec (.watchdogExpiry i) s = .next u ∧ onlyTile s u i.tile.val ∧ (u.coreAt i).run = .stopped
        ∧ (u.coreAt i).etrap = t0 % 2 ^ 32 * 2 ^ 32 + (s.coreAt i).pc % 65536 * 2 ^ 16 + wkMajor kind * 2 ^ 10 + 9
        ∧ (u.coreAt i).pc = (s.coreAt i).pc ∧ keepsS (s.coreAt i) (u.coreAt i) ∧ (u.tile i.tile.val).detected = true
        ∧ (u.tile i.tile.val).trapped = (s.tile i.tile.val).trapped

/-- R48, R49, R52, R68 to R70: the shift of a bead pair is fa + fb + oa + ob + 52, lies between 0 and 82 and keeps a contribution within 2^117; a
contribution adds d·2^s mod 2^160 and a merge adds the partials; a residue that agreed before agrees after, so a check fails only where a residue
has been disturbed. -/
def Obligations.FrameArithmetic : Prop :=
  ((∀ (fa fb : BeadFmt) (a b : Bead), a.elems.length = 32 * fa.bytes → b.elems.length = 32 * fb.bytes →
      (dotShift fa a fb b : Int) = a.fine + b.fine + fa.off + fb.off + 52 ∧ dotShift fa a fb b ≤ 82
        ∧ (dotElems (a.operand fa) (b.operand fb)).natAbs * 2 ^ dotShift fa a fb b ≤ 2 ^ 117)
    ∧ (∀ start (x : Acc) (d : Int) (s rho : Nat) poison, x.checkGood = true → x.pat < 2 ^ 160 → (rho : Int) = d % 255 → d.natAbs * 2 ^ s < 2 ^ 159 →
      let y := Acc.contribute start x d s rho poison
      y.checkGood = true ∧ y.pat < 2 ^ 160 ∧ (y.pat : Int) = ((if start then 0 else (x.pat : Int)) + d * 2 ^ s) % 2 ^ 160
        ∧ y.poison = (poison || (! start && x.poison)))
    ∧ ∀ x y : Acc, x.checkGood = true → y.checkGood = true → x.pat < 2 ^ 160 → y.pat < 2 ^ 160 →
      (x.merge y).checkGood = true ∧ (x.merge y).pat = (x.pat + y.pat) % 2 ^ 160 ∧ (x.merge y).poison = (x.poison || y.poison))

/-- R79 to R82, R85, R88, R89: LOADW fills the inactive weight register, MUL starts or continues a chain in its accumulator bank and may swap the weight
registers, LOADA opens or closes a chain; each takes its slots and channels. It reads the model's conventions of log entries 56 and 60. -/
def Obligations.FrameLoadsAndMultiplies : Prop :=
  (∀ s i sa sb opt, s.Inv → FrameReady s i 0 opt sa sb →
      ∃ u, exec (.frameLoadw i sa sb opt) s = .next u ∧ FrameEnters s u i (s.frameAt i sa sb) 0 32 2 2
        ∧ ((u.frameOf i).w[bankIx (1 - (s.frameOf i).active.val)]).fmt = fmtD (optF opt 10 2)
        ∧ ((u.frameOf i).w[bankIx (1 - (s.frameOf i).active.val)]).cb = lo32v ((s.coreAt i).getS sb)
        ∧ (u.frameOf i).w[(s.frameOf i).active] = (s.frameOf i).w[(s.frameOf i).active] ∧ (u.frameOf i).active = (s.frameOf i).active
        ∧ (u.frameOf i).banks = (s.frameOf i).banks ∧ (u.frameOf i).loadwAt = some (s.frameAt i sa sb) ∧ (u.frameOf i).peak = (s.frameOf i).peak)
    ∧ (∀ s i sa sb opt, s.Inv → FrameReady s i 1 opt sa sb →
      let b := bankIx (optF opt 7 1)
      let wreg := if optF opt 6 1 = 1 then bankIx (1 - (s.frameOf i).active.val) else (s.frameOf i).active
      ∃ u, exec (.frameMul i sa sb opt) s = .next u ∧ FrameEnters s u i (s.frameAt i sa sb) 1 32 1 1
        ∧ (u.frameOf i).active = wreg ∧ (u.frameOf i).w = (s.frameOf i).w
        ∧ ((u.frameOf i).banks[b]).st = (if optF opt 9 1 = 1 then .closed else .opened)
        ∧ (optF opt 8 1 = 1 → ((u.frameOf i).banks[b]).ca = lo32v ((s.coreAt i).getS sb)
            ∧ ((u.frameOf i).banks[b]).cb = ((s.frameOf i).w[wreg]).cb ∧ ((u.frameOf i).banks[b]).q = none)
        ∧ (optF opt 8 1 = 0 → ((u.frameOf i).banks[b]).ca = ((s.frameOf i).banks[b]).ca ∧ ((u.frameOf i).banks[b]).cb = ((s.frameOf i).banks[b]).cb)
        ∧ ((u.frameOf i).banks[b]).rows = ((s.frameOf i).banks[b]).rows
        ∧ (∀ x, x ≠ b → (u.frameOf i).banks[x] = (s.frameOf i).banks[x]) ∧ (u.frameOf i).peak = (s.frameOf i).peak)
    ∧ ∀ s i sa sb opt, s.Inv → FrameReady s i 4 opt sa sb →
      let b := bankIx (optF opt 11 1)
      ∃ u, exec (.frameLoada i sa sb opt) s = .next u ∧ FrameEnters s u i (s.frameAt i sa sb) 4 259 7 3
        ∧ ((u.frameOf i).banks[b]).st = (if optF opt 10 1 = 1 then .opened else .closed) ∧ ((u.frameOf i).banks[b]).q = none
        ∧ (∀ x, x ≠ b → (u.frameOf i).banks[x] = (s.frameOf i).banks[x])
        ∧ (u.frameOf i).w = (s.frameOf i).w ∧ (u.frameOf i).active = (s.frameOf i).active ∧ (u.frameOf i).peak = (s.frameOf i).peak

/-- R82 to R84, R88, R89: a DRAIN leaves its bank drained, fixes the conversion factor with the first one, and clears the peak when bit 7 asks for it; a
partial DRAIN leaves the chain as it is and takes every slot. R86, R88, R89: every element-wise instruction takes all slots and both channels for 32
cycles, or 64 where it moves more than two half lines a bead. It reads the model's conventions of log entries 56 and 60. -/
def Obligations.FrameDrains : Prop :=
  ((∀ s i sa sb opt, s.Inv → FrameReady s i 2 opt sa sb → optF opt 9 3 ≠ 6 →
      let b := bankIx (optF opt 8 1)
      ∃ u, exec (.frameDrain i sa sb opt) s = .next u
        ∧ FrameEnters s u i (s.frameAt i sa sb) 2 (if optF opt 9 3 = 5 then 64 else 32) 4 2
        ∧ ((u.frameOf i).banks[b]).st = .drained ∧ ((u.frameOf i).banks[b]).rows = ((s.frameOf i).banks[b]).rows
        ∧ (((s.frameOf i).banks[b]).q = none → ((u.frameOf i).banks[b]).q
            = some (if scaleValid ((s.frameOf i).banks[b]).ca ∧ scaleValid ((s.frameOf i).banks[b]).cb ∧ scaleValid (lo32v ((s.coreAt i).getS sb)) then
                some (factorOf ((s.frameOf i).banks[b]).ca ((s.frameOf i).banks[b]).cb (lo32v ((s.coreAt i).getS sb))) else none))
        ∧ (((s.frameOf i).banks[b]).q ≠ none → ((u.frameOf i).banks[b]).q = ((s.frameOf i).banks[b]).q)
        ∧ (∀ x, x ≠ b → (u.frameOf i).banks[x] = (s.frameOf i).banks[x]) ∧ (u.frameOf i).w = (s.frameOf i).w
        ∧ (u.frameOf i).active = (s.frameOf i).active ∧ (u.frameOf i).peak = (if optF opt 7 1 = 1 then 0 else (s.frameOf i).peak))
    ∧ ∀ s i sa sb (opt : BitVec 9), s.Inv → FrameReady s i 2 (6#3 ++ opt) sa sb →
      ∃ u, exec (.frameDrainPartial i sa sb opt) s = .next u ∧ FrameEnters s u i (s.frameAt i sa sb) 5 259 7 3 ∧ keepsArrays s u i
        ∧ (u.frameOf i).peak = (s.frameOf i).peak)
  ∧ (EwInsn .frameEwAdd 0 ∧ EwInsn .frameEwSub 1 ∧ EwInsn .frameEwMul 2 ∧ EwInsn .frameEwMax 3 ∧ EwInsn .frameEwMin 4 ∧ EwInsn .frameEwRescale 5
    ∧ EwInsn .frameEwEnc 6 ∧ EwInsn .frameEwDec 7)

/-- R94 to R96: WAKE turns a frame at rest into one that ramps up, REST turns a fully powered frame into one that ramps down, both a group every four
cycles; WAIT with nothing in flight only goes on; a frame whose compute slot has been free for 64 cycles rests by itself. It reads the model's
conventions of log entries 11 and 64. -/
def Obligations.FrameActivity : Prop :=
  (∀ s i, s.Inv → FrameReady s i 5 0 0 0 → (s.frameOf i).ramp = .steady → (s.frameOf i).rampFrom = 0 →
      ∃ u, exec (.frameWake i 0 0 0) s = .next u ∧ restOfTile s u i ∧ goesOn s u i (s.frameAt i 0 0 + 1) ∧ keepsS (s.coreAt i) (u.coreAt i)
        ∧ keepsArrays s u i ∧ (∀ n, n < 8 → ∀ c, s.frameAt i 0 0 + 4 * n ≤ c → c < s.frameAt i 0 0 + 4 * n + 4 → groupsOn (u.frameOf i) c = n)
        ∧ ∀ c, s.frameAt i 0 0 + 32 ≤ c → groupsOn (u.frameOf i) c = 8)
    ∧ (∀ s i, s.Inv → FrameReady s i 6 0 0 0 → fullyOn (actAt (s.frameAt i 0 0) (s.frameOf i)) = true →
      ∃ u, exec (.frameRest i 0 0 0) s = .next u ∧ restOfTile s u i ∧ goesOn s u i (s.frameAt i 0 0 + 1) ∧ keepsS (s.coreAt i) (u.coreAt i)
        ∧ keepsArrays s u i ∧ (∀ n, n < 8 → ∀ c, s.frameAt i 0 0 + 4 * n ≤ c → c < s.frameAt i 0 0 + 4 * n + 4 → groupsOn (u.frameOf i) c = 8 - n)
        ∧ ∀ c, s.frameAt i 0 0 + 32 ≤ c → groupsOn (u.frameOf i) c = 0)
    ∧ (∀ s i, s.Inv → FrameReady s i 7 0 0 0 →
      ∃ u, exec (.frameWait i 0 0 0) s = .next u ∧ NoResult s u i ((s.coreAt i).pc + 1) (s.frameAt i 0 0 + 1))
    ∧ ∀ s (t : TileIx), s.Inv → s.grid.hasTile t.val = true → (s.tile t.val).job ≠ none → (s.tile t.val).halted = false →
      ((s.tile t.val).core 0).run ≠ .running → (s.tile t.val).frame.ramp = .steady → (s.tile t.val).frame.rampFrom = 8 → 0 ≤ computeFree (s.tile t.val).frame →
      (s.tile t.val).frame.rampAt ≤ (computeFree (s.tile t.val).frame).toNat + 63 →
      ∃ u, exec (.frameAutoRest t) s = .next u ∧ onlyTile s u t.val ∧ (u.tile t.val).cores = (s.tile t.val).cores ∧ (u.tile t.val).sp = (s.tile t.val).sp
        ∧ (u.tile t.val).frame.ramp = .down ∧ (u.tile t.val).frame.rampAt = (computeFree (s.tile t.val).frame).toNat + 63

/-- R242 to R247, R250 to R255, R258: UPD.GROUP starts the read of its record, UPD.RUN starts a run on the group in force and advances UBEAD, a run
without a valid group traps, and UPD.WAIT holds the core to the end of the occupancy. It reads the model's conventions of log entry 56. -/
def Obligations.UpdateEngine : Prop :=
  (∀ s i sa sb, s.Inv → UpdReady s i [rS sa, rS sb] →
      let a := ((s.coreAt i).getS sa).toNat
      let p := (s.tile i.tile.val).tsk.base + a % 2 ^ 32
      let t1 := max (s.issueAt i [rS sa, rS sb] [] none) (s.tile i.tile.val).upd.occEnd
      let lines := pointLines ((s.tile i.tile.val).sp.read (p + 5)).toNat ((s.tile i.tile.val).sp.read (p + 3)).toNat
      a < 2 ^ 44 → regionOk s i clsCopy (a % 2 ^ 32) (64 * (1 + lines)) →
      ∃ u, exec (.updGroup i sa sb 0) s = .next u ∧ restOfTile s u i ∧ goesOn s u i (t1 + 1) ∧ keepsS (s.coreAt i) (u.coreAt i)
        ∧ (u.tile i.tile.val).upd.readEnd = t1 + 24 ∧ keepsUpdRegs s u i ∧ (u.tile i.tile.val).upd.ubead = (s.tile i.tile.val).upd.ubead
        ∧ ∃ o, (u.tile i.tile.val).upd.ops = [o] ∧ o.fop = 6 ∧ o.t0 = t1 ∧ o.args.e1 = p ∧ o.args.want = a / 2 ^ 32 % 2 ^ 12
            ∧ o.args.step = (s.coreAt i).getS sb)
    ∧ (∀ s i sa sb opt g, s.Inv → UpdReady s i [rS sa, rS sb] →
      let t := s.tile i.tile.val
      let n := optF opt 0 8 + 1
      let t1 := max (max (s.issueAt i [rS sa, rS sb] [] none) t.upd.occEnd) t.upd.readEnd
      mayIssue t t1 = true → optF opt 10 2 ≠ 3 → optF opt 8 2 ≠ 3 →
      (∀ r, r ∈ runRegions t ((s.coreAt i).getS sa) ((s.coreAt i).getS sb) (optF opt 10 2) (optF opt 8 2) n → regionOk s i clsCopy r.1 r.2) →
      (t.upd.grp = some g → g.valid = true → g.frozen = false →
          ∃ u, exec (.updRun i sa sb opt) s = .next u ∧ restOfTile s u i ∧ goesOn s u i (t1 + 1) ∧ keepsS (s.coreAt i) (u.coreAt i)
            ∧ (u.tile i.tile.val).upd.occEnd = t1 + n ∧ (u.tile i.tile.val).upd.ubead = (t.upd.ubead + n) % 2 ^ 32 ∧ keepsUpdRegs s u i
            ∧ (u.tile i.tile.val).upd.grp = some g
            ∧ ∃ o, (u.tile i.tile.val).upd.ops = [o] ∧ o.fop = 7 ∧ o.t0 = t1 ∧ o.args.run = some (captureRun t g n))
        ∧ (t.upd.grp = none → ∃ u, exec (.updRun i sa sb opt) s = .next u ∧ trapped s u i 4 0x3B t1))
    ∧ ∀ s i, s.Inv → UpdReady s i [] →
      ∃ u, exec (.updWait i 0 0 0) s = .next u ∧ restOfTile s u i
        ∧ goesOn s u i (max (s.issueAt i [] [] none + 1) (s.tile i.tile.val).upd.occEnd) ∧ keepsS (s.coreAt i) (u.coreAt i)
        ∧ keepsUpdRegs s u i ∧ (u.tile i.tile.val).upd.grp = (s.tile i.tile.val).upd.grp

/-- R170, R171, R175 to R177: an entry takes its flits in their cycles and lands its line: the flit of PASS, the 160-bit sums of ADD160, the 32-bit
maxima of MAX32, the 64-bit sums of SUM64; the last two operations are commutative and associative. R174, R191: a plan flit that no entry takes is
discarded and recorded, and the tile stops. -/
def Obligations.SlotTable : Prop :=
  ((∀ s (t : TileIx) (entry : Fin 1024) e k v p corrupt, s.Inv →
      SlotReady s t 0 entry.val e k → slotFlit s t e k e.ina v → SlotLocal s t e k p →
      ∃ u, exec (.slotPass t entry false corrupt) s = .next u ∧ SlotLanded s u t entry.val k p v)
    ∧ CombineSlot .slotMax32 3 (fun a b v => ∀ n, n < 16 → laneOf 32 v n = max (laneOf 32 a n) (laneOf 32 b n))
    ∧ CombineSlot .slotSum64 4 (fun a b v => ∀ n, n < 8 → laneOf 64 v n = (laneOf 64 a n + laneOf 64 b n) % 2 ^ 64)
    ∧ (∀ a b c, lanes2 32 max a b = lanes2 32 max b a ∧ lanes2 32 max (lanes2 32 max a b) c = lanes2 32 max a (lanes2 32 max b c))
    ∧ (∀ a b c, lanes2 64 (· + ·) a b = lanes2 64 (· + ·) b a
        ∧ lanes2 64 (· + ·) (lanes2 64 (· + ·) a b) c = lanes2 64 (· + ·) a (lanes2 64 (· + ·) b c))
    ∧ (∀ s (t : TileIx) (entry : Fin 1024) e k va vb p corrupt, s.Inv →
        SlotReady s t 1 entry.val e k → slotFlit s t e k e.ina va → slotFlit s t e k e.inb vb → SlotLocal s t e k p →
        let x := add160Line (s.tile t.val).residue k (SMap.get 0 (s.tile t.val).router.mask entry.val) va vb
        ∃ u, exec (.slotAdd160 t entry false corrupt) s = .next u ∧ SlotLanded s u t entry.val k p x.1 ∧ (k % 513 = 0 → x.1 = va))
    ∧ ∀ s (t : TileIx) (entry : Fin 1024) e k va vb p corrupt, s.Inv →
        SlotReady s t 2 entry.val e k → slotFlit s t e k e.ina va → slotFlit s t e k e.inb vb → SlotLocal s t e k p →
        let x := add160Line (s.tile t.val).residue k (SMap.get 0 (s.tile t.val).router.mask entry.val) va vb
        (s.tile t.val).residue = false ∨ x.2.2 = 0 →
        ∃ u, exec (.slotAdd160Final t entry false corrupt) s = .next u ∧ SlotLanded s u t entry.val k p x.1)
  ∧ (∀ s (t : TileIx) (port : Fin 4) cy, s.Inv → s.grid.hasTile t.val = true → (s.tile t.val).job ≠ none → takesInput (s.tile t.val) port.val cy = false →
    (s.tile t.val).router.fault = 0 →
    ∃ u, exec (.unscheduledArrival t port cy) s = .next u ∧ onlyTile s u t.val ∧ (u.tile t.val).sp = (s.tile t.val).sp
      ∧ (u.tile t.val).router.fault = cy % 2 ^ 32 * 2 ^ 32 + port.val * 2 ^ 19 + 3 ∧ (u.tile t.val).detected = true ∧ (u.tile t.val).stopAt ≠ none
      ∧ flitAt (u.tile t.val) port.val cy = none)

/-- R161, R182 to R187: a line that its tile is to receive leaves the router when it has a credit; a MSG enters the queue of its core and is answered; a
remote write is checked against its window and lands line by line; a completion frees its request's entry; a timeout ends it. It reads the model's
conventions of log entries 20 and 63. -/
def Obligations.ServiceAgent : Prop :=
  (∀ s (t : TileIx) (response : Bool) i l rest, s.Inv → s.grid.hasTile t.val = true →
      let ch := if response then 1 else 0
      let o := (s.tile t.val).hopOut 4 ch
      (response = false → s.hopReady t.val 4 1 = false) → 0 < o.credits → s.hopInput t.val 4 ch = some i →
      SMap.get ([] : List SvLine) (s.tile t.val).router.ins (i * 2 + ch) = l :: rest → s.grid.portTo (t.val % 48) (t.val / 48) i = .local →
      s.grid.portTo (t.val % 48) (t.val / 48) 4 = .local →
      ∃ u, exec (.serviceLineHop t 4 response false) s = .next u ∧ onlyRouter s u t
        ∧ (response = false → (u.tile t.val).router.rxReq = (s.tile t.val).router.rxReq ++ [l] ∧ (u.tile t.val).router.rxRsp = (s.tile t.val).router.rxRsp)
        ∧ (response = true → (u.tile t.val).router.rxRsp = (s.tile t.val).router.rxRsp ++ [l] ∧ (u.tile t.val).router.rxReq = (s.tile t.val).router.rxReq)
        ∧ ((u.tile t.val).hopOut 4 ch).credits = o.credits - 1 ∧ ((u.tile t.val).hopOut 4 ch).lock = (if l.last then none else some i))
    ∧ (∀ s (t : TileIx) (out : MeshPort) (response : Bool), s.Inv → s.grid.hasTile t.val = true →
      let ch := if response then 1 else 0
      let o := (s.tile t.val).hopOut out.val ch
      o.returning ≠ 0 →
      ∃ u, exec (.hopCreditReturn t out response) s = .next u ∧ onlyRouter s u t
        ∧ ((u.tile t.val).hopOut out.val ch).credits = o.credits + 1 ∧ ((u.tile t.val).hopOut out.val ch).returning = o.returning - 1)
    ∧ (∀ s (t : TileIx) l rest e fr, s.Inv → s.grid.hasTile t.val = true → (s.tile t.val).router.rxReq = l :: rest → (s.tile t.val).router.rw = none →
      hType (hdrOf l.data) = 1 → (s.tile t.val).job ≠ none → freeEntries (s.svOf t (hDcore (hdrOf l.data))) = e :: fr →
      ∃ u, exec (.msgArrival t) s = .next u ∧ onlyRouter s u t ∧ (u.tile t.val).router.rxReq = rest
        ∧ (u.svOf t (hDcore (hdrOf l.data))).queue = (s.svOf t (hDcore (hdrOf l.data))).queue ++ [(e, l.data)]
        ∧ answersWith s u t [complLine (s.env t.val) l.data stDone 0])
    ∧ (∀ s (t : TileIx) l, s.Inv → s.grid.hasTile t.val = true → (s.tile t.val).router.rxReq = [l] → (s.tile t.val).router.rw = none →
      hType (hdrOf l.data) = 2 →
      let w := (s.tile t.val).wins[(payByte l.data 8 % 8)]'(Nat.mod_lt _ (by decide))
      ∃ u, exec (.rwriteArrival t) s = .next u ∧ onlyRouter s u t ∧ (u.tile t.val).router.rxReq = []
        ∧ (u.tile t.val).router.rw = some ⟨l.data, payByte l.data 8 % 8, (s.tile t.val).tsk.base + w.off + fieldN l.data.toNat 96 32, rwLines l.data, 0,
            decide (windowCheck (s.tile t.val) l.data = 0), windowCheck (s.tile t.val) l.data⟩)
    ∧ (∀ s (t : TileIx) l deferred, s.Inv → (s.tile t.val).sp.wf = true → s.grid.hasTile t.val = true → (s.tile t.val).router.land = [l] → l.last = true →
      l.poison = false → (s.tile t.val).router.landBad = false → (s.tile t.val).bankClass (bankOf l.addr) = clsMesh → l.addr % 64 = 0 → l.win < 8 →
      (∀ n : Fin 2, ((s.tile t.val).wps[n]).enable = false) →
      ∃ u, exec (.remoteLineLanding t deferred) s = .next u ∧ onlyTile s u t.val ∧ (u.tile t.val).cores = (s.tile t.val).cores
        ∧ (u.tile t.val).sp.readBytes l.addr 64 = leOfNat 64 l.data.toNat
        ∧ (∀ q, q < l.addr ∨ l.addr + 64 ≤ q → (u.tile t.val).sp.read q = (s.tile t.val).sp.read q)
        ∧ (∀ w : Fin 8, w.val = l.win → ((u.tile t.val).wins[w]).count = (((s.tile t.val).wins[w]).count + 1) % 2 ^ 64)
        ∧ (∀ w : Fin 8, w.val ≠ l.win → (u.tile t.val).wins[w] = (s.tile t.val).wins[w])
        ∧ (u.tile t.val).router.land = [] ∧ answersWith s u t [complLine (s.env t.val) l.header stDone l.n])
    ∧ (∀ s (t : TileIx) l rest, s.Inv → s.grid.hasTile t.val = true → (s.tile t.val).router.rxRsp = l :: rest → (s.tile t.val).job ≠ none →
      let c := hDcore (hdrOf l.data)
      let key : SvReq := ⟨hTag (hdrOf l.data), hSeq (hdrOf l.data)⟩
      key ∈ (s.svOf t c).reqs →
      ∃ u, exec (.complArrival t) s = .next u ∧ onlyRouter s u t ∧ (u.tile t.val).router.rxRsp = rest
        ∧ (u.svOf t c).reqs = (s.svOf t c).reqs.filter (fun r => r ≠ key) ∧ (u.svOf t c).queue = (s.svOf t c).queue ++ [(key.tag, l.data)])
    ∧ ∀ s (i : CoreAt) (tag : Fin 4) q, s.Inv → s.grid.hasTile i.tile.val = true → (s.tile i.tile.val).job ≠ none →
      (s.svOf i.tile i.core).reqs.find? (fun r => r.tag == tag.val) = some q → q.seq < 1024 →
      ∃ u line, exec (.serviceRequestTimeout i tag) s = .next u ∧ onlyRouter s u i.tile
        ∧ (u.svOf i.tile i.core).reqs = (s.svOf i.tile i.core).reqs.filter (fun r => r ≠ q)
        ∧ (u.svOf i.tile i.core).ended = (s.svOf i.tile i.core).ended ++ [q]
        ∧ (u.svOf i.tile i.core).queue = (s.svOf i.tile i.core).queue ++ [(tag.val, line)] ∧ fieldN line.toNat 64 16 = stTimeout

/-- R201 to R204, R207, R208: the lines of READ, READ_REQ, WRITE, MOVE and FILL each do their part in their cycles; a request flit gives its bases, a
fetched line enters the staging buffer and is staged. R208, R213, R215: scrub counts what it corrects; a stack's row follows its temperature, with
its refresh interval and its frequency ceiling, and an event at the last row; an engine serves a request on device memory, keeps it while the stack
does not answer, and answers 0x0575 after 1 ms. It reads the model's conventions of log entries 16, 69 and 70. -/
def Obligations.EnginesAndStacks : Prop :=
  (Departs .copyRead opRead ∧ Departs .copyReadReq opReadReq
    ∧ (∀ s e (di : Fin 8192) d k f p, s.Inv → EngReady s e di.val opWrite d k → d.bead = 0 → (s.eng e).flitAt d.col (d.cy k) = some f → f.hopBad = false →
        s.locate (d.addr + 64 * k) = some p →
        ∃ u, exec (.copyWrite e di) s = .next u ∧ onlyMem s u ∧ LineWritten s u p f.data f.poison ∧ onlyEngine s u e
          ∧ SMap.get 0 (u.eng e).moved di.val = k + 1 ∧ (u.eng e).nArrived = (s.eng e).nArrived + 1 ∧ (u.eng e).nCommitted = (s.eng e).nCommitted + 1)
    ∧ (∀ s e (di : Fin 8192) d k a b, s.Inv → EngReady s e di.val opMove d k → s.locate (d.addr + 64 * k) = some a → s.locate (d.addr2 + 64 * k) = some b →
        ∃ u, exec (.copyMove e di 0 0) s = .next u ∧ onlyMem s u ∧ LineWritten s u b (s.stackLine a.1 a.2) (s.linePoison a.1 a.2) ∧ onlyEngine s u e
          ∧ SMap.get 0 (u.eng e).moved di.val = k + 1)
    ∧ (∀ s e (di : Fin 8192) d k p, s.Inv → EngReady s e di.val opFill d k → s.locate (d.addr + 64 * k) = some p →
        ∃ u v, exec (.copyFill e di) s = .next u ∧ onlyMem s u ∧ LineWritten s u p v false ∧ (∀ n, n < 8 → laneOf 64 v n = d.fill % 2 ^ 64) ∧ onlyEngine s u e
          ∧ SMap.get 0 (u.eng e).moved di.val = k + 1)
    ∧ (∀ s e (di : Fin 8192) d f, s.Inv → (s.engStep e).isSome = true → (s.eng e).due di.val opReadReq = true → (s.eng e).reqs = [] →
        tableDesc (s.eng e).table di.val = d → (s.eng e).flitAt d.col d.reqCy = some f → f.hopBad = false → f.poison = false →
        let base := fieldN f.data.toNat (64 * d.word) 64
        let side := if d.bead = 0 then 0 else fieldN f.data.toNat (64 * (d.word + 1)) 64
        ((s.rangeOk e d base side = true →
            ∃ u, exec (.readRequestArrival e di) s = .next u ∧ onlyMem s u ∧ keepsBytes s u ∧ (u.eng e).reqs = [⟨di.val, base, side, false, none⟩])
          ∧ (s.rangeOk e d base side = false → (s.eng e).fault = 0 →
            ∃ u, exec (.readRequestArrival e di) s = .next u ∧ keepsBytes s u ∧ (u.eng e).reqs = [⟨di.val, 0, 0, true, none⟩]
              ∧ (u.eng e).fault = d.reqCy % 2 ^ 32 * 2 ^ 32 + di.val * 2 ^ 19 + d.col * 2 ^ 17 + 1)))
    ∧ (∀ s e (di : Fin 8192) d k p j, s.Inv → s.engineOwner e.val = some j → (s.job j).phase = .step → (s.job j).halted = false → (s.eng e).stopped = false →
        tableDesc (s.eng e).table di.val = d → (s.eng e).nextFetch di.val (s.nextRange e j) = some (k, false) →
        (s.eng e).req di.val = none → s.locate (d.lineAt d.addr d.addr2 k) = some p →
        ∃ u, exec (.lineFetch e di 0 0) s = .next u ∧ onlyMem s u ∧ keepsBytes s u ∧ onlyEngine s u e
          ∧ (u.eng e).stage = (s.eng e).stage ++ [⟨di.val, k, s.stackLine p.1 p.2, s.linePoison p.1 p.2, none, true, false⟩]
          ∧ (u.eng e).nFetched = (s.eng e).nFetched + 1 ∧ SMap.get 0 (u.eng e).fetched di.val = k + 1)
    ∧ ∀ s e (di : Fin 8192) pre l post, s.Inv → (s.eng e).stage = pre ++ l :: post → (∀ x, x ∈ pre → x.desc ≠ di.val ∨ x.fetching = false) →
        l.desc = di.val → l.fetching = true →
        ∃ u, exec (.lineStaged e di) s = .next u ∧ onlyMem s u ∧ keepsBytes s u ∧ onlyEngine s u e
          ∧ u.eng e = { s.eng e with stage := pre ++ { l with fetching := false } :: post })
  ∧ ((∀ s m line, s.Inv → s.stackUsable m.val = true → 64 * line < stackBytes → s.linePoison m.val (64 * line) = false →
      ∃ u, exec (.patrolScrub m line 1 0) s = .next u ∧ { u with ctr := s.ctr } = s ∧ u.counter (ck 0x9150 1) = satAdd (s.counter (ck 0x9150 1)) 1
        ∧ ∀ x, x ≠ ck 0x9150 1 → u.counter x = s.counter x)
    ∧ (∀ s (m : StackIx) t, s.Inv → s.stackUsable m.val = true → (s.stackSt m.val).tempRow = 0 →
      ∃ u, exec (.stackTempRead m t) s = .next u ∧ { u with mem := s.mem, events := s.events } = s ∧ keepsBytes s u ∧ u.mem.engines = s.mem.engines
        ∧ (u.stackSt m.val).temp = t
        ∧ (u.stackSt m.val).tempRow = (if 105 ≤ t then 3 else if 95 ≤ t then 2 else if 85 ≤ t then 1 else 0)
        ∧ (u.stackSt m.val).tempCeiling = (if 105 ≤ t then 1200 else if 95 ≤ t then 3000 else 0)
        ∧ (85 ≤ t ∧ t < 95 → (u.stackSt m.val).refreshNs = 1950)
        ∧ (95 ≤ t → s.clk.freq ≤ (u.stackSt m.val).tempCeiling → (u.stackSt m.val).refreshNs = 975)
        ∧ (u.events = s.events ↔ t < 105))
    ∧ (∀ s (m : StackIx), s.Inv → (s.stackSt m.val).shortenDue = true →
      ∃ u, exec (.refreshShorten m) s = .next u ∧ { u with mem := s.mem } = s ∧ keepsBytes s u
        ∧ (u.stackSt m.val).refreshNs = rowRefresh (s.stackSt m.val).tempRow ∧ (u.stackSt m.val).shortenDue = false)
    ∧ (∀ s (e : EngineIx), s.Inv → s.stackUsable (e.val / 2) = true →
      (∀ addr len, ∃ u, exec (.engineServiceRequest e (.read addr len)) s = .next u ∧ { u with out := s.out, ctr := s.ctr } = s
          ∧ u.out = s.out ++ [.service e.val 0 (s.memPoisoned addr len) (s.memBytes addr len)])
        ∧ ∀ addr data p poison, data.length = 64 → addr % 64 = 0 → s.locate addr = some p → lineAddr p.2 = p.2 →
          ∃ u, exec (.engineServiceRequest e (.write addr data poison)) s = .next u ∧ { u with out := s.out, mem := s.mem } = s
            ∧ LineWritten s u p (bytesLine data) poison ∧ u.out = s.out ++ [.service e.val 0 false []])
    ∧ (∀ s (e : EngineIx) req, s.Inv → s.stackUsable (e.val / 2) = false →
      ∃ u, exec (.engineServiceRequest e req) s = .next u ∧ u = { s with mem := { s.mem with service := s.mem.service ++ [(e.val, req, 0)] } })
    ∧ ∀ s (e : EngineIx) q, s.Inv → s.mem.service.find? (fun q => q.1 == e.val) = some q → q.2.2 = 0 →
      ∃ u, exec (.engineServiceTimeout e) s = .next u ∧ { u with mem := s.mem, out := s.out, ctr := s.ctr } = s ∧ keepsBytes s u
        ∧ u.mem.service = s.mem.service.erase q ∧ u.out = s.out ++ [.service e.val 0x0575 false []]
        ∧ u.counter (ck 0x9150 8) = satAdd (s.counter (ck 0x9150 8)) 1)

/-- R221, R238: LOAD takes an EMPTY slot to LOADING and is refused elsewhere; the checks end with LOADED and the plan held, or with EMPTY and the status
of the first check that fails. Every change of JOB_STATE raises its event. R219, R231, R238: START and REPLAY_START take a LOADED job to RUNNING
with its counts 0; cycle 0 of its first step comes when its engines hold the lines of that step, and START_TALLY takes the tally of that moment. It
reads the model's conventions of log entries 15, 17, 18 and 67. -/
def Obligations.JobLoadingAndStarting : Prop :=
  ((∀ s j car, Served s car 1 → (s.job j).state = 0 →
      ∃ u, exec (.jobLoad j car) s = .next u ∧ { u with jobs := s.jobs, events := s.events, out := s.out } = s ∧ onlyJob s u j
        ∧ u.job j = { s.job j with state := 1, status := 0, energyUj := 0, energyFinal := 0 }
        ∧ u.events = s.events ++ [jobEvent s j 1 0] ∧ answers s u car 0)
    ∧ (∀ s j car, Served s car 1 → (s.job j).state ≠ 0 →
      ∃ u, exec (.jobLoad j car) s = .next u ∧ { u with ctr := s.ctr, out := s.out } = s ∧ counted s u (ck 0x7020 1) 1 ∧ answers s u car 0x0701)
    ∧ (∀ s j, (s.job j).state = 1 → parsePlan s (s.job j).planAddr.toNat = none →
      ∃ u, exec (.loadChecksComplete j) s = .next u ∧ { u with jobs := s.jobs, events := s.events, ctr := s.ctr } = s ∧ onlyJob s u j
        ∧ u.job j = { s.job j with state := 0, status := 0x0702 } ∧ u.events = s.events ++ [jobEvent s j 0 0x0702] ∧ counted s u (ck 0x7020 1) 1)
    ∧ (∀ s j p, (s.job j).state = 1 → parsePlan s (s.job j).planAddr.toNat = some p → s.loadStatus p ≠ 0 → s.loadStatus p ≠ 0x0741 →
      ∃ u, exec (.loadChecksComplete j) s = .next u ∧ { u with jobs := s.jobs, events := s.events, ctr := s.ctr } = s ∧ onlyJob s u j
        ∧ u.job j = { s.job j with state := 0, status := s.loadStatus p } ∧ counted s u (ck 0x7020 1) 1)
    ∧ ∀ s j p, (s.job j).state = 1 → parsePlan s (s.job j).planAddr.toNat = some p → s.loadStatus p = 0 →
      (∀ z, z ∈ p.zoneSet → (s.zonePwr z).state = zsOn) →
      ∃ u, exec (.loadChecksComplete j) s = .next u ∧ { u with tiles := s.tiles, mem := s.mem, jobs := s.jobs, events := s.events } = s ∧ keepsBytes s u
        ∧ onlyJob s u j ∧ (u.job j).state = 2 ∧ (u.job j).status = 0 ∧ (u.job j).plan = some p ∧ (u.job j).keyEff = s.planKey p
        ∧ (u.job j).source = p.sourceDigest ∧ u.events = s.events ++ [jobEvent s j 2 0])
  ∧ ((∀ s j car p replay, s.Inv → Served s car 1 → (s.job j).plan = some p → (s.job j).state = 2 → s.schedOk (s.job j) p = true → (s.job j).groupId = 0 →
      ∃ u, exec (if replay then .jobReplayStart j car else .jobStart j car) s = .next u ∧ onlyJob s u j
        ∧ (u.job j).state = 3 ∧ (u.job j).phase = .starting ∧ (u.job j).plan = some p ∧ (u.job j).replay = replay ∧ (u.job j).steps = 0
        ∧ (u.job j).planFences = 0 ∧ (u.job j).jobCy = 0 ∧ (u.job j).extraCy = 0 ∧ (u.job j).layer = Vector.replicate 8 0
        ∧ (u.job j).task = p.firstTask ∧ (u.job j).len = p.len p.firstTask
        ∧ (∀ t, (∀ r, r ∈ p.tiles → r.t ≠ t) → u.tile t = s.tile t)
        ∧ u.events = s.events ++ [jobEvent s j 3 (s.job j).status] ∧ answers s u car 0)
    ∧ (∀ s j car, Served s car 1 → (s.job j).state ≠ 2 →
      ∃ u, exec (.jobStart j car) s = .next u ∧ { u with ctr := s.ctr, out := s.out } = s ∧ answers s u car 0x0107)
    ∧ ∀ s j p, s.Inv → (s.job j).plan = some p → (s.job j).running = true → (s.job j).phase = .starting → (s.job j).groupId = 0 →
      s.stagedForStart p = true →
      ∃ u, exec (.jobCycle0Release j) s = .next u ∧ (u.job j).phase = .step ∧ (u.job j).startTally = s.tally.now
        ∧ (u.job j).state = (s.job j).state ∧ (u.job j).steps = (s.job j).steps ∧ (∀ t, (∀ r, r ∈ p.tiles → r.t ≠ t) → u.tile t = s.tile t)
        ∧ ∀ r, r ∈ p.tiles → ∀ c : CoreIx, ((u.tile r.t).core c).now = 0)

/-- R228, R229, R238: STOP asks a RUNNING job to stop at its next fence with 0x0708; KILL ends a job at once with 0x0709; CLEAR empties the slot of an
ENDED job; each is refused with 0x0107 in a state that does not take it. It reads the model's conventions of log entries 18 and 67. -/
def Obligations.JobEnding : Prop :=
  (∀ s j car, Served s car 1 → (s.job j).state = 3 →
      ∃ u, exec (.jobStop j car) s = .next u ∧ { u with jobs := s.jobs, events := s.events, out := s.out } = s ∧ onlyJob s u j
        ∧ u.job j = { s.job j with state := 4, stopReq := some ((s.job j).stopReq.getD 0x0708) }
        ∧ u.events = s.events ++ [jobEvent s j 4 (s.job j).status] ∧ answers s u car 0)
    ∧ (∀ s j car, Served s car 1 → (s.job j).state ≠ 3 →
      ∃ u, exec (.jobStop j car) s = .next u ∧ { u with ctr := s.ctr, out := s.out } = s ∧ answers s u car 0x0107)
    ∧ (∀ s j car, Served s car 1 → (s.job j).holds = true →
      ∃ u, exec (.jobKill j car) s = .next u ∧ (u.job j).state = 5 ∧ (u.job j).status = 0x0709 ∧ (u.job j).endTally = s.tally.now
        ∧ (u.job j).steps = (s.job j).steps ∧ u.events.contains (jobEvent s j 5 0x0709) = true ∧ answers s u car 0)
    ∧ (∀ s j car, Served s car 1 → (s.job j).holds = false →
      ∃ u, exec (.jobKill j car) s = .next u ∧ { u with ctr := s.ctr, out := s.out } = s ∧ answers s u car 0x0107)
    ∧ (∀ s j car ts ws ls, Served s car 1 → (s.job j).state = 5 →
      ∃ u, exec (.jobClear j car ts ws ls) s = .next u ∧ (u.job j).state = 0 ∧ (u.job j).plan = none ∧ (u.job j).status = (s.job j).status
        ∧ answers s u car 0)
    ∧ ∀ s j car ts ws ls, Served s car 1 → (s.job j).running = true →
      ∃ u, exec (.jobClear j car ts ws ls) s = .next u ∧ { u with ctr := s.ctr, out := s.out } = s ∧ answers s u car 0x0107

/-- R225 to R228: a tile that has ended the step arrives at the fence of its job, with the latest arrival kept; the root decides with the rules of R228
in their order: a ledger break, a detection, a trap, disagreeing cores, the end of the plan, or the next task with the step counted. It reads the
model's conventions of log entry 66. -/
def Obligations.StepFences : Prop :=
  (∀ s j p (t : TileIx) late, (s.job j).plan = some p → (s.job j).phase = .step → (s.job j).running = true → (s.job j).halted = false →
      tileArrived (s.tile t.val) = true → p.units.any (fun v => unitKey v == t.val) = true → (s.job j).arrived.any (fun v => unitKey v == t.val) = false →
      ∃ u, exec (.unitFenceArrival j (.tile t) late) s = .next u ∧ { u with jobs := s.jobs } = s ∧ onlyJob s u j
        ∧ (u.job j).arrived = (s.job j).arrived ++ [.tile t]
        ∧ (u.job j).late = max (s.job j).late (max late (match (s.tile t.val).arrivedAt with | some a => a - (s.job j).len | none => 0)))
    ∧ ∀ s j p, AllIn s j p →
      let v := s.atDecision j p
      (ledgersHold s j p → v.anyDetection j p = false → v.anyTrap j p = false →
        ((v.agreedNext p = none → ∃ u, exec (.fenceRootDecision j) s = .next u ∧ (u.job j).state = 5 ∧ (u.job j).status = 0x0712)
          ∧ ∀ n plan, v.agreedNext p = some (n, plan) → (v.job j).carried = false → (v.job j).stopReq = none → (v.job j).groupStop = none →
            ∃ u, exec (.fenceRootDecision j) s = .next u ∧ (u.job j).steps = satAdd (s.job j).steps 1
              ∧ (u.job j).planFences = (s.job j).planFences + (if plan then 1 else 0)
              ∧ (u.job j).jobCy = satAdd (s.job j).jobCy ((s.job j).len + nominalFence p.fenceD plan)
              ∧ (u.job j).extraCy = satAdd (s.job j).extraCy (s.job j).late
              ∧ (n = 255 → (u.job j).state = 5 ∧ (u.job j).status = 0x0700)
              ∧ (n ≠ 255 → (u.job j).phase = .decided n false plan ∧ (u.job j).state = (s.job j).state)))
      ∧ (ledgersHold s j p → v.anyDetection j p = true → (s.job j).reruns < 2 →
        ∃ u, exec (.fenceRootDecision j) s = .next u ∧ (u.job j).phase = .decided (s.job j).task true (v.fenceIsPlan p)
          ∧ (u.job j).steps = (s.job j).steps ∧ (u.job j).state = (s.job j).state)
      ∧ (ledgersHold s j p → v.anyDetection j p = false → v.anyTrap j p = true →
        ∃ u, exec (.fenceRootDecision j) s = .next u ∧ (u.job j).state = 5 ∧ (u.job j).status = 0x0710)
      ∧ (((s.gatherReports j p).sendAudits p).breaks p ≠ ([], []) →
        ∃ u, exec (.fenceRootDecision j) s = .next u ∧ (u.job j).state = 5 ∧ (u.job j).status = 0x0960)

/-- R211, R227, R229, R272: the release starts the next step, or the same step again after a detection, with every core at cycle 0; a unit that has not
arrived by twice the length ends the job with 0x0713, an engine that does not arrive within 1 ms with 0x0575. It reads the model's conventions of
log entries 65 and 66. -/
def Obligations.ReleaseAndTimeouts : Prop :=
  (∀ s j p n plan, s.Inv → (s.job j).plan = some p → (s.job j).phase = .decided n false plan → (s.job j).running = true → (s.job j).halted = false →
      s.haltAtFence j = false →
      ∃ u, exec (.fenceRelease j) s = .next u ∧ (u.job j).phase = .step ∧ (u.job j).task = n ∧ (u.job j).len = p.len n ∧ (u.job j).reruns = 0
        ∧ (u.job j).arrived = [] ∧ (u.job j).late = 0 ∧ (u.job j).steps = (s.job j).steps
        ∧ ∀ r, r ∈ p.tiles → ∀ c : CoreIx, ((u.tile r.t).core c).now = 0)
    ∧ (∀ s j p n plan, s.Inv → (s.job j).plan = some p → (s.job j).phase = .decided n true plan → (s.job j).running = true → (s.job j).halted = false →
      s.haltAtFence j = false →
      ∃ u, exec (.fenceRelease j) s = .next u ∧ (u.job j).phase = .step ∧ (u.job j).task = (s.job j).task ∧ (u.job j).reruns = (s.job j).reruns + 1
        ∧ (u.job j).rerunSteps = (s.job j).rerunSteps + (if (s.job j).reruns = 0 then 1 else 0)
        ∧ (u.job j).rerunCy = satAdd (s.job j).rerunCy ((s.job j).len + (s.job j).late + nominalFence p.fenceD plan)
        ∧ (u.job j).arrived = [] ∧ (u.job j).steps = (s.job j).steps ∧ counted s u (ck 0x9170 4) 1
        ∧ ∀ t, t ∈ p.tileSet → ∀ c : CoreIx, ((u.tile t).core c).now = 0)
    ∧ (∀ s j p, (s.job j).plan = some p → (s.job j).phase = .step → (s.job j).running = true → (s.job j).halted = false → (s.job j).allArrived = false →
      ∃ u, exec (.stepTimeout j) s = .next u ∧ (u.job j).state = 5 ∧ (u.job j).status = 0x0713 ∧ (u.job j).laggards.length ≤ 16
        ∧ (u.job j).endTally = s.tally.now)
    ∧ ∀ s (e : EngineIx) j p, s.engineOwner e.val = some j → (s.job j).plan = some p → (s.job j).phase = .step → (s.job j).running = true →
      (s.job j).halted = false → (∀ t, t ∈ p.tileSet → (s.job j).arrived.any (fun v => unitKey v == t) = true) →
      (s.job j).arrived.any (fun v => unitKey v == 2048 + e.val) = false →
      ∃ u, exec (.engineFenceTimeout e) s = .next u ∧ (u.job j).state = 5 ∧ (u.job j).status = 0x0575 ∧ u.boot.newRetry = true

/-- R231, R235, R260: a write to a fence event is accepted with 0x0001 and waits, under the job's next sequence number, for the plan fence that its
target names; a target that has passed is refused with 0x0720, a full event log with 0x0722, a write in a replay with 0x0721. It reads the model's
conventions of log entry 67. -/
def Obligations.FenceEvents : Prop :=
  (∀ s j car (b : Job), Served s car 1 → s.job j = b → ¬ (b.replay = true ∧ b.running = true) →
      ¬ (b.target.toNat / 2 ^ 63 = 1 ∧ b.target.toNat % 2 ^ 63 ≤ b.planFences) → 32 * (b.evUsed + b.pending.length + 1) ≤ b.evLen →
      let took := fun (c : Instr) (index sub value size : Nat) =>
        ∃ u, exec c s = .next u ∧ { u with jobs := s.jobs, out := s.out } = s ∧ onlyJob s u j ∧ answers s u car 1
          ∧ u.job j = { b with seq := b.seq + 1, pending := b.pending ++ [⟨b.seq + 1, index, sub, value, size, b.target.toNat⟩] }
      (∀ v : Byte, took (.digestSnapshot j car v) (0x7100 + j.val) 0x0B v.toNat 1
          ∧ took (.fenceEventWrite j car (BitVec.ofNat 16 (0x7100 + j.val)) 0x0B (v.setWidth 64)) (0x7100 + j.val) 0x0B v.toNat 1)
        ∧ ∀ g : Fin 4096, s.fuses.updateEngines = true → g.val < b.schedGroups →
          (∀ v : U32, v.toNat < 0x7F800000 → took (.groupEta j car g v) (0x8200 + 16 * j.val + g.val / 256) (g.val % 256) v.toNat 4)
            ∧ ∀ v : Byte, v.toNat ≤ 1 → took (.groupFrozen j car g v) (0x8300 + 16 * j.val + g.val / 256) (g.val % 256) v.toNat 1)
    ∧ ∀ s j car (v : Byte) (b : Job), Served s car 1 → s.job j = b →
      let turned := fun (st : Nat) => ∃ u, exec (.digestSnapshot j car v) s = .next u ∧ { u with out := s.out } = s ∧ answers s u car st
      (b.replay = true → b.running = true → turned 0x0721)
        ∧ (b.replay = false → b.target.toNat / 2 ^ 63 = 1 → b.target.toNat % 2 ^ 63 ≤ b.planFences → turned 0x0720)
        ∧ (b.replay = false → b.target.toNat < 2 ^ 63 → b.evLen < 32 * (b.evUsed + b.pending.length + 1) → turned 0x0722)

/-- R280, R281: a self-test request of each kind makes one waiting entry for every zone of its mask, at most one of a kind for a unit; the end of a test
records its result and removes it; a test waits for a quiet slot of its job. R283 to R285: at each count that WCMP_PERIOD divides the master of a
group opens a round; the last answer, or the timeout, ends a phase; when the copies agree the round ends with the count of them, and a device that
is outvoted stops the compared job. It reads the model's conventions of log entries 25 and 87. -/
def Obligations.TestsAndComparison : Prop :=
  ((∀ s car z, Served s car 0 → s.check.tests = [] → (s.zoneOwner z).isSome = true → z < 48 →
      let one := fun (c : Instr) (kind : Nat) =>
        ∃ u, exec c s = .next u ∧ { u with check := s.check, out := s.out } = s ∧ u.check = { s.check with tests := [⟨z, kind, false, false, none⟩] }
          ∧ answers s u car 0
      one (.selftestFrameLogic car (BitVec.ofNat 48 (2 ^ z))) 1 ∧ one (.selftestCoreLogic car (BitVec.ofNat 48 (2 ^ z))) 2
        ∧ one (.selftestRouterMesh car (BitVec.ofNat 48 (2 ^ z))) 3 ∧ one (.selftestScratchpadMarch car (BitVec.ofNat 48 (2 ^ z))) 4
        ∧ one (.selftestSensorCalibration car (BitVec.ofNat 48 (2 ^ z))) 5)
    ∧ (∀ s car m, Served s car 0 → s.check.tests = [] → (s.engineOwner (2 * m)).isNone = true → (s.engineOwner (2 * m + 1)).isNone = true → m < 16 →
      ∃ u, exec (.selftestModuleLanes car (BitVec.ofNat 16 (2 ^ m))) s = .next u ∧ { u with check := s.check, out := s.out } = s
        ∧ u.check = { s.check with tests := [⟨m, 6, true, false, none⟩] } ∧ answers s u car 0)
    ∧ (∀ s j (z : ZoneIx) (kind : Fin 16), (s.job j).quietFor z.val kind.val = true → s.zoneOwner z.val = some j →
      ∃ u, exec (.quietSlotTest j z kind) s = .next u ∧ { u with check := s.check } = s
        ∧ (∀ q, q ∈ s.check.tests → q.unit = z.val → q.kind = kind.val → q.running = false →
            ({ q with running := true, job := some j.val } : TestReq) ∈ u.check.tests)
        ∧ ∀ q, q ∈ s.check.tests → ¬ (q.unit = z.val ∧ q.kind = kind.val ∧ q.running = false) → q ∈ u.check.tests)
    ∧ ∀ s (m : ZoneIx) q fails, s.usable = false → s.check.tests.find? (fun q => q.unit == m.val && q.kind == 6 && q.running) = some q →
      ∃ u, exec (.selftestComplete m 6 fails) s = .next u ∧ { u with check := s.check, ctr := s.ctr } = s ∧ u.check.tests = s.check.tests.erase q
        ∧ u.check.last = 6 * 2 ^ 60 + (if fails = [] then 1 else 2) * 2 ^ 56 + m.val
        ∧ u.counter (ck 0x9170 7) = satAdd (s.counter (ck 0x9170 7)) 1
        ∧ (fails ≠ [] → u.counter (ck 0x9170 8) = satAdd (s.counter (ck 0x9170 8)) 1))
  ∧ ((∀ s, s.tally.due.contains .wcmp = true → s.check.period ≠ 0 → s.link.state = csMaster → (s.job (slotIx s.check.wcmpJob)).groupId ≠ 0 →
      ∃ u r, exec .wcmpRound s = .next u ∧ { u with check := s.check, tally := s.tally, ctr := s.ctr, out := s.out } = s
        ∧ u.check.round = some r ∧ r.phase = 1 ∧ r.asked = (s.job (slotIx s.check.wcmpJob)).members ∧ counted s u (ck 0x9170 9) 1)
    ∧ (∀ s r device (phase : Fin 3) value, s.check.round = some r → r.phase = phase.val → r.asked.contains device = true →
      r.answers.any (fun a => a.1 == device) = false → ({ r with answers := r.answers ++ [(device, value)] } : WcmpRound).full = false →
      ∃ u, exec (.wcmpAnswer device phase value) s = .next u ∧ { u with check := s.check } = s
        ∧ u.check = { s.check with round := some { r with answers := r.answers ++ [(device, value)] } })
    ∧ (∀ s r v, s.check.round = some r → r.phase = 2 → 2 ≤ r.answers.length → (∀ a, a ∈ r.answers → a.2 = v) →
      ∃ u, exec .wcmpPhaseTimeout s = .next u ∧ u.check.round = none ∧ u.check.wcmpOdd = []
        ∧ u.check.wcmpLast = r.fence % 2 ^ 32 * 2 ^ 32 + r.answers.length % 256 * 2 ^ 24 + r.answers.length % 256 * 2 ^ 16 + 2 ^ 8
        ∧ u.jobs = s.jobs ∧ u.out = s.out)
    ∧ ∀ s, (s.job (slotIx s.check.wcmpJob)).state = 3 →
      ∃ u, exec .wcmpOutvote s = .next u ∧ { u with jobs := s.jobs, events := s.events } = s ∧ onlyJob s u (slotIx s.check.wcmpJob)
        ∧ (u.job (slotIx s.check.wcmpJob)).state = 4
        ∧ (u.job (slotIx s.check.wcmpJob)).stopReq = some ((s.job (slotIx s.check.wcmpJob)).stopReq.getD 0x0715))

/-- R290, R293: the reference is lost and returns; a crossing that slips counts, poisons what it delivers until the next fence, and is a detection of
the receiving tile of a job. R294, R295, R321: a detector that asserts begins a stretch of 16 cycles and a notice to the neighbours, and lengthens
one in progress to 16 cycles after the latest assertion, 64 at most; a notice is copied and sent on once; at its end the length is counted. It reads
the model's conventions of log entry 71. -/
def Obligations.ReferenceAndStretches : Prop :=
  ((∀ s, s.clk.refState = 1 → ∃ u, exec .refLoss s = .next u ∧ { u with clk := s.clk, ctr := s.ctr } = s ∧ u.clk = { s.clk with refState := 2 }
      ∧ counted s u (ck 0x3010 3) 1)
    ∧ (∀ s, s.clk.refState = 2 → ∃ u, exec .refReturn s = .next u ∧ onlyClk s u ∧ u.clk = { s.clk with refState := 1 })
    ∧ (∀ s (t : TileIx) (port : Fin 4) x y, s.Inv → s.grid.hasTile t.val = true → s.grid.portTo (t.val % 48) (t.val / 48) port.val = .router x y →
      s.grid.tileZone t.val ≠ s.grid.zone x y → s.crossingSlipped t.val port.val = false →
      ∃ u, exec (.crossingSlip t port) s = .next u ∧ { u with clk := s.clk, tiles := s.tiles, ctr := s.ctr } = s
        ∧ u.clk.slipped = s.clk.slipped ++ [8 * t.val + port.val] ∧ u.crossingSlipped t.val port.val = true ∧ counted s u (ck 0x3030 6) 1
        ∧ (∀ T, T ≠ t.val → u.tile T = s.tile T) ∧ (u.tile t.val).sp = (s.tile t.val).sp
        ∧ ((s.tile t.val).job.isSome = true → (u.tile t.val).detected = true))
    ∧ ∀ s (t : TileIx) (port : Fin 4), s.grid.hasTile t.val = false → exec (.crossingSlip t port) s = .fault .noSuchTile)
  ∧ ((∀ s (z : ZoneIx) elapsed, s.bandOn z.val = true → (s.zoneClk z.val).stretch = none →
      ∃ u, exec (.droopAssert z elapsed) s = .next u ∧ { u with clk := s.clk, ctr := s.ctr, out := s.out } = s
        ∧ (u.zoneClk z.val).stretch = some ⟨some (0, 16), []⟩ ∧ (u.zoneClk z.val).recharging = true
        ∧ (∀ y : ZoneIx, y ≠ z → u.zoneClk y.val = s.zoneClk y.val) ∧ u.counter (ck 0x3030 1) = satAdd (s.counter (ck 0x3030 1)) 1
        ∧ u.out = s.out ++ [.notice z.val z.val (((s.zoneClk z.val).seq + 1) % 16) 16])
    ∧ (∀ s (z : ZoneIx) elapsed st a n, s.bandOn z.val = true → (s.zoneClk z.val).stretch = some st → st.own = some (a, n) →
      elapsed - a + 16 ≤ 64 → n < elapsed - a + 16 →
      ∃ u, exec (.droopAssert z elapsed) s = .next u ∧ { u with clk := s.clk, out := s.out } = s
        ∧ (u.zoneClk z.val).stretch = some { st with own := some (a, elapsed - a + 16) }
        ∧ u.out = s.out ++ [.notice z.val z.val (s.zoneClk z.val).seq (elapsed - a + 16)])
    ∧ (∀ s (z : ZoneIx), ∃ u, exec (.shuntRecharged z) s = .next u ∧ onlyClk s u ∧ u.zoneClk z.val = { s.zoneClk z.val with recharging := false }
        ∧ ∀ y : ZoneIx, y ≠ z → u.zoneClk y.val = s.zoneClk y.val)
    ∧ (∀ s (z : ZoneIx) st, (s.zoneClk z.val).stretch = some st → 0 < st.total →
      ∃ u, exec (.stretchEnd z) s = .next u ∧ { u with clk := s.clk, ctr := s.ctr } = s ∧ u.zoneClk z.val = { s.zoneClk z.val with stretch := none }
        ∧ counted s u (ck 0x3030 3) st.total)
    ∧ (∀ s (z : ZoneIx) a, (s.zoneClk z.val).stretch = some ⟨some (a, 64), []⟩ →
      ∃ u, exec (.stretchRestart z) s = .next u ∧ { u with clk := s.clk, ctr := s.ctr, out := s.out } = s
        ∧ (u.zoneClk z.val).stretch = some ⟨some (0, 16), []⟩ ∧ u.counter (ck 0x3030 4) = satAdd (s.counter (ck 0x3030 4)) 1)
    ∧ (∀ s (z origin : ZoneIx) (seq : BitVec 4) len elapsed, s.bandOn z.val = true → z ≠ origin → (s.zoneClk z.val).stretch = none →
      (s.zoneClk z.val).seen.any (fun c => c.origin == origin.val && c.seq == seq.toNat) = false →
      ∃ u, exec (.stretchNotice z origin seq len elapsed) s = .next u ∧ { u with clk := s.clk, ctr := s.ctr, out := s.out } = s
        ∧ (u.zoneClk z.val).stretch = some ⟨none, [⟨origin.val, seq.toNat, 0, len⟩]⟩ ∧ counted s u (ck 0x3030 2) 1
        ∧ u.out = s.out ++ [.notice z.val origin.val seq.toNat len])
    ∧ (∀ s (z origin : ZoneIx) (seq : BitVec 4) len elapsed, (s.zoneClk z.val).seen.any (fun c => c.origin == origin.val && c.seq == seq.toNat) = true →
      exec (.stretchNotice z origin seq len elapsed) s = .next s)
    ∧ ∀ s (z origin : ZoneIx) (seq : BitVec 4) len c own, s.bandOn z.val = true → (s.zoneClk z.val).stretch = some ⟨own, [c]⟩ → c.origin = origin.val →
      c.seq = seq.toNat → c.len < len →
      ∃ u, exec (.stretchExtension z origin seq len) s = .next u ∧ { u with clk := s.clk, out := s.out } = s
        ∧ (u.zoneClk z.val).stretch = some ⟨own, [{ c with len := len }]⟩ ∧ u.out = s.out ++ [.notice z.val origin.val seq.toNat len])

/-- R298 to R301: the target is the lowest limit; a switch of at most 400 MHz is announced 2 tk or more ahead and takes effect when its tally comes,
with its counter and its event; VLOG rises before a step up and falls after a step down; a step up whose voltage does not come is given up. R304,
R306, R312 to R314: the objects of the clock and of the tally that management writes: the shimmer, the epoch expected next, the resynchronisation
and the origin, each with the values and the states that refuse it. It reads the model's conventions of log entry 71. -/
def Obligations.FrequencyAndClockObjects : Prop :=
  ((∀ s (z : ZoneIx) mhz, 1200 ≤ mhz →
      ∃ u, exec (.freqTargetChange z mhz) s = .next u ∧ (u.zoneClk z.val).margin = mhz ∧ u.clk.freq = s.clk.freq
        ∧ (u.clk.target = u.freqTarget.1 ∧ u.clk.limiter = u.freqTarget.2) ∧ u.tiles = s.tiles ∧ u.jobs = s.jobs ∧ u.out = s.out)
    ∧ (∀ s a, s.boot.mgmt = true → s.clk.fallAt = some a → s.clk.target < s.clk.freq → s.clk.pending = 0 → s.clk.fenceSeen = true →
      ∃ u, exec .freqSwitchAnnounce s = .next u ∧ onlyClk s u ∧ u.clk.pending = max s.clk.target (s.clk.freq - 400)
        ∧ u.clk.pendingTally = s.tally.now + 2 ∧ u.clk.freq = s.clk.freq)
    ∧ (∀ s, s.clk.freq < s.clk.target → s.clk.pending = 0 → s.clk.upWait = none →
      ∃ u, exec .stepUpDelayExpiry s = .next u ∧ { u with clk := s.clk, pwr := s.pwr } = s
        ∧ u.clk = { s.clk with upWait := some (min s.clk.target (s.clk.freq + 400)) }
        ∧ u.pwr = { s.pwr with vlogMv := s.vfMv (min s.clk.target (s.clk.freq + 400)) })
    ∧ (∀ s f, s.boot.mgmt = true → s.clk.upWait = some f → s.clk.pending = 0 →
      ∃ u, exec .vlogTargetReached s = .next u ∧ onlyClk s u ∧ u.clk.upWait = none ∧ u.clk.pending = f ∧ u.clk.pendingTally = s.tally.now + 2)
    ∧ (∀ s f, s.clk.upWait = some f →
      ∃ u, exec .stepUpVoltageTimeout s = .next u ∧ { u with clk := s.clk, pwr := s.pwr } = s ∧ u.clk = { s.clk with upWait := none }
        ∧ u.pwr = { s.pwr with vlogMv := s.vfMv s.clk.freq })
    ∧ (∀ s, s.tally.due.contains .freqSwitch = true → s.clk.pending ≠ 0 → s.clk.next = none → (∀ m : Fin 16, (s.stackSt m.val).shortenDue = false) →
      ∃ u, exec .freqSwitchApply s = .next u ∧ { u with clk := s.clk, tally := s.tally, ctr := s.ctr, events := s.events } = s
        ∧ u.clk.freq = s.clk.pending ∧ u.clk.pending = 0 ∧ (s.clk.freq < s.clk.pending → u.clk.guard = true)
        ∧ (s.clk.pending ≤ s.clk.freq → u.clk.lowerAt = some (s.tally.now + 2))
        ∧ u.counter (ck 0x3000 8) = satAdd (s.counter (ck 0x3000 8)) 1
        ∧ u.events = s.events ++ [⟨5, 0, leOfNat 2 s.clk.pending ++ leOfNat 2 s.clk.limiter, s.tally.now⟩])
    ∧ (∀ s, ∃ u, exec .guardWindowClose s = .next u ∧ onlyClk s u ∧ u.clk = { s.clk with guard := false })
    ∧ ∀ s, s.tally.due.contains .vlogLower = true →
      ∃ u, exec .vlogLower s = .next u ∧ { u with clk := s.clk, tally := s.tally, pwr := s.pwr } = s ∧ u.clk = { s.clk with lowerAt := none }
        ∧ u.tally.due.contains .vlogLower = false ∧ u.pwr = { s.pwr with vlogMv := s.vfMv (max s.clk.freq (s.clk.upWait.getD 0)) })
  ∧ ((∀ s car (v : Byte), Served s car 0 → s.betweenJobs = true → v.toNat ≤ 1 →
      ∃ u, exec (.shimmerEnable car v) s = .next u ∧ { u with clk := s.clk, out := s.out } = s
        ∧ u.clk = { s.clk with shimmerOn := decide (v.toNat = 1) } ∧ answers s u car 0)
    ∧ (∀ s car (v : U16), Served s car 0 → s.betweenJobs = true → v.toNat ≤ 389 →
      ∃ u, exec (.shimmerOffset car v) s = .next u ∧ { u with clk := s.clk, out := s.out } = s ∧ u.clk = { s.clk with shimmerOffset := v.toNat }
        ∧ answers s u car 0)
    ∧ (∀ s car (v : U16), Served s car 0 → s.betweenJobs = false →
      ∃ u, exec (.shimmerOffset car v) s = .next u ∧ { u with ctr := s.ctr, out := s.out } = s ∧ answers s u car 0x0106)
    ∧ (∀ s car (v : U64), Served s car 0 → v.toNat < 2 ^ 48 →
      ∃ u, exec (.tallyEpochNext car v) s = .next u ∧ { u with tally := s.tally, out := s.out } = s ∧ u.tally = { s.tally with epochNext := some v.toNat }
        ∧ answers s u car 0)
    ∧ (∀ s car (v : U64), Served s car 0 → 2 ^ 48 ≤ v.toNat →
      ∃ u, exec (.tallyEpochNext car v) s = .next u ∧ { u with ctr := s.ctr, out := s.out } = s ∧ counted s u (ck 0x3030 7) 1 ∧ answers s u car 0x0301)
    ∧ (∀ s car, Served s car 0 → s.betweenJobs = true → s.tally.state = tsDisagree → 0 ≤ (s.tally.now : Int) + s.tally.offset →
      ∃ u, exec (.tallyResync car) s = .next u ∧ ((u.tally.now : Int) = ((s.tally.now : Int) + s.tally.offset) % (2 ^ 64 : Nat)) ∧ u.tally.state = tsLocked
        ∧ u.tally.slewLeft = 0 ∧ u.jobs = s.jobs ∧ u.tiles = s.tiles ∧ answers s u car 0)
    ∧ (∀ s car, Served s car 0 → s.anyRunning = true →
      ∃ u, exec (.tallyResync car) s = .next u ∧ { u with ctr := s.ctr, out := s.out } = s ∧ counted s u (ck 0x3030 7) 1 ∧ answers s u car 0x0303)
    ∧ ∀ s car (v : U64), Served s car 0 →
      ∃ u, exec (.tallyOrigin car v) s = .next u ∧ { u with tally := s.tally, out := s.out } = s
        ∧ u.tally = { s.tally with origin := v.toNat, origins := s.tally.origins ++ [(v.toNat, s.tally.now)] } ∧ answers s u car 0)

/-- R305 to R311: an edge of the line or a count of the reference adds 1 to the tally and brings due what falls on the new count; a glitch is only
counted; a source that is lost leaves holdover; a mark locks the tally to the count that is expected; a slew takes or leaves one count in 1,024. It
reads the model's conventions of log entries 26 and 71. -/
def Obligations.TallyCount : Prop :=
  (∀ s highNs, 8 ≤ highNs → s.tally.selected ≠ 2 → s.tally.state = tsLocked → s.tally.inUse = 1 →
      ∃ u, exec (.tallyPulse highNs) s = .next u ∧ { u with tally := s.tally, life := s.life, link := s.link } = s ∧ counts s u (s.tally.now + 1)
        ∧ u.tally.state = tsLocked ∧ u.tally.edges = s.tally.edges + 1)
    ∧ (∀ s highNs, highNs < 8 →
      ∃ u, exec (.tallyPulse highNs) s = .next u ∧ { u with tally := s.tally } = s ∧ u.tally = { s.tally with glitches := s.tally.glitches + 1 })
    ∧ (∀ s, ∃ u, exec .tallyGlitch s = .next u ∧ { u with tally := s.tally } = s ∧ u.tally = { s.tally with glitches := s.tally.glitches + 1 })
    ∧ (∀ s, s.tally.inUse = 1 → s.tally.state ≠ tsAbsent → s.tally.state ≠ tsHoldover →
      ∃ u, exec .tallyLoss s = .next u ∧ { u with tally := s.tally } = s ∧ u.tally.state = tsHoldover ∧ u.tally.inUse = 0 ∧ u.tally.now = s.tally.now
        ∧ u.tally.losses = s.tally.losses + 1)
    ∧ (∀ s, s.tally.state = tsSlewing → s.tally.slewPhase = 1023 → 0 < s.tally.slewLeft →
      ∃ u, exec .tallySlewStep s = .next u ∧ { u with tally := s.tally, life := s.life, link := s.link } = s ∧ counts s u (s.tally.now + 2)
        ∧ u.tally.slewLeft = s.tally.slewLeft - 1 ∧ u.tally.slewPhase = 0)
    ∧ (∀ s, s.tally.state = tsSlewing → s.tally.slewPhase = 1023 → s.tally.slewLeft < 0 →
      ∃ u, exec .tallySlewStep s = .next u ∧ { u with tally := s.tally } = s ∧ u.tally.now = s.tally.now
        ∧ u.tally.slewLeft = s.tally.slewLeft + 1 ∧ u.tally.slewPhase = 0)
    ∧ (∀ s, s.boot.powered = true → s.tally.state = tsHoldover →
      ∃ u, exec .tallyReferenceCount s = .next u ∧ { u with tally := s.tally, life := s.life, link := s.link } = s ∧ counts s u (s.tally.now + 1)
        ∧ u.tally.holdoverTk = s.tally.holdoverTk + 1)
    ∧ (∀ s e, s.tally.selected = 1 → s.tally.marked = false → s.tally.epochNext = some e → s.anyRunning = false →
      ∃ u, exec .tallyMark s = .next u ∧ u.tally.now = e * 65536 % 2 ^ 64 ∧ u.tally.state = tsLocked ∧ u.tally.offset = 0 ∧ u.tally.epochNext = none
        ∧ u.jobs = s.jobs ∧ u.tiles = s.tiles ∧ u.out = s.out)
    ∧ ∀ s e, s.tally.selected = 1 → s.tally.marked = true → s.tally.epochNext = some e →
      let d : Int := ((e * 65536 : Nat) : Int) - s.tally.now
      ∃ u, exec .tallyMark s = .next u ∧ { u with tally := s.tally } = s ∧ u.tally.now = s.tally.now ∧ u.tally.offset = d
        ∧ u.tally.state = (if d = 0 then tsLocked else if d.natAbs ≤ 2 ^ 20 then tsSlewing else tsDisagree)

/-- R348, R351 to R353: VIN12 begins a cold start at S0 with the next start number; S0 brings the regulators into service, S1 boots the management
processor from the first slot that verifies, or ends in recovery; S2 builds the map of the fuses and of the field defects, or ends the start. It
reads the model's conventions of log entries 6, 30 and 73. -/
def Obligations.StartStages0To2 : Prop :=
  (∀ s, s.boot.powered = false → s.pwr.powerFault = false →
      ∃ u, exec .coldStart s = .next u ∧ keepsFuses s u ∧ AtStage u 0 ∧ u.boot.kind = 1 ∧ u.life.startNo = (s.life.startNo + 1) % 2 ^ 32
        ∧ u.life.defects = s.life.defects ∧ u.tiles = [] ∧ u.jobs = Vector.replicate 8 Job.reset ∧ u.tally.now = 0 ∧ u.clk.request = s.clk.request)
    ∧ (∀ s a b c, AtStage s 0 → plainStart s →
      ∃ u, exec (.s0Rails [] a b c) s = .next u ∧ keepsFuses s u ∧ AtStage u 1 ∧ u.pwr.rails = true ∧ u.pwr.powerGood = true
        ∧ (∀ d : Fin 56, u.pwr.reg[d] = rsInService) ∧ u.host.straps = ((a &&& b) ||| (a &&& c) ||| (b &&& c)).toNat)
    ∧ (∀ s, AtStage s 1 →
      ∃ u, exec .s1Boot s = .next u ∧ keepsFuses s u
        ∧ (∀ slot, s.bootSlots.2 = some slot →
          AtStage u 2 ∧ u.boot.mgmt = true ∧ u.boot.mgmtSlot = slot ∧ u.life.lastBoot = slot ∧ u.pwr.hostIo = true ∧ u.tiles = s.tiles ∧ u.mem = s.mem)
        ∧ (s.bootSlots.2 = none → AtStage u 10 ∧ u.boot.outcome = 3 ∧ u.boot.mgmt = s.boot.mgmt))
    ∧ (∀ s f0 f1, AtStage s 2 → (f0 || f1) = true → (buildGrid s.fuses.grade (s.allEntries.filter smValid)).rows ≠ 0 →
      ∃ u, exec (.s2FusesAndShadowMap f0 f1 true) s = .next u ∧ keepsFuses s u ∧ AtStage u 3
        ∧ u.grid = buildGrid s.fuses.grade (s.allEntries.filter smValid) ∧ u.prot.fusesRead = true ∧ u.check.faultHeld = 0 ∧ u.tiles = s.tiles)
    ∧ ∀ s f0 f1 j, AtStage s 2 → ((f0 || f1) = false ∨ j = false) →
      ∃ u, exec (.s2FusesAndShadowMap f0 f1 j) s = .next u ∧ keepsFuses s u ∧ AtStage u 10 ∧ u.boot.outcome = 2

/-- R349, R350, R354 to R359, R366: the stages S3 to S9 end in their order when their items pass; a failed zone clock ends the start in management only;
only fitted stacks become present; at S9 the start is full when nothing was reduced, and a zone that gets hot before ends it with outcome 4. It
reads the model's conventions of log entries 10 and 73. -/
def Obligations.StartStages3To9 : Prop :=
  (∀ s, AtStage s 3 → ∃ u, exec (.s3DomainsOn []) s = .next u ∧ keepsFuses s u ∧ AtStage u 4 ∧ u.pwr.bands = 0xFF ∧ u.pwr.memIf = s.memIfMask)
    ∧ (∀ s, AtStage s 4 → plainStart s →
      ∃ u, exec (.s4ClockAlignment []) s = .next u ∧ keepsFuses s u ∧ AtStage u 5 ∧ u.clk.freq = 1200 ∧ ∀ z : Fin 48, (u.clk.zones[z]).lock = true)
    ∧ (∀ s (z : ZoneIx), AtStage s 4 → ∃ u, exec (.s4ClockAlignment [z]) s = .next u ∧ keepsFuses s u ∧ AtStage u 10 ∧ u.boot.outcome = 2)
    ∧ (∀ s rd, AtStage s 5 → s.ramp.unrepairable = [] → s.ramp.grid.rows ≠ 0 →
      ∃ u, exec (.s5TileTest [] rd) s = .next u ∧ keepsFuses s u ∧ AtStage u 6 ∧ u.grid = s.grid ∧ u.life.defects = s.life.defects
        ∧ u.clk.freq = s.ramp.clk.freq)
    ∧ (∀ s rs, AtStage s 6 → ∃ u, exec (.s6StackTraining rs) s = .next u ∧ keepsFuses s u ∧ AtStage u 7
        ∧ ∀ i : Fin 16, bitOf u.mem.present i.val = true → bitOf s.fuses.stacksFitted i.val = true)
    ∧ (∀ s fd ls, s.boot.powered = true → s.boot.s8Done = false → 5 ≤ s.boot.stage → s.boot.stage ≤ 8 →
      ∃ u, exec (.s8LinkBringup fd ls) s = .next u ∧ keepsFuses s u ∧ u.boot.s8Done = true
        ∧ u.boot.stage = (if s.boot.stage = 8 then 9 else s.boot.stage))
    ∧ (∀ s ms, AtStage s 9 → s.boot.s8Done = true →
      ∃ u, exec (.s9Usable ms) s = .next u ∧ keepsFuses s u ∧ AtStage u 10 ∧ u.boot.outcome = (if s.boot.reduced then 1 else 0) ∧ u.usable = true
        ∧ u.tiles = s.tiles ∧ u.mem = s.mem ∧ u.jobs = s.jobs)
    ∧ (∀ s (item : ItemId), s.itemOpen item.kind.val item.unit = true → item.kind.val ≠ 4 → item.kind.val ≠ 8 →
      ∃ u, exec (.itemBudgetExpiry item) s = .next u ∧ keepsFuses s u ∧ u.boot.left = s.boot.left ++ [(item.kind.val, item.unit)]
        ∧ u.boot.failedItems = min 255 (s.boot.failedItems + 1) ∧ u.boot.stage = s.boot.stage ∧ u.tiles = s.tiles ∧ u.mem = s.mem)
    ∧ ∀ s (z : ZoneIx), s.boot.powered = true → 3 ≤ s.boot.stage → s.boot.stage ≤ 9 →
      ∃ u, exec (.failedHot z) s = .next u ∧ keepsFuses s u ∧ AtStage u 10 ∧ u.boot.outcome = 4 ∧ u.pwr.tripped = true
        ∧ (∀ y : Fin 48, (u.pwr.zones[y]).state = zsOff) ∧ u.tiles = []

/-- R338, R345, R368, R478: a warm restart between jobs, the end of the cool-down of a trip and a write to TRIP_RESTART shut the compute die down and
start again at S2; the loss of VIN12 loses all but the fuses and the life record with the counts last committed. It reads the model's conventions of
log entries 33 and 74. -/
def Obligations.RestartsAndPowerLoss : Prop :=
  (∀ s car, Served s car 0 → s.betweenJobs = true →
      ∃ u, exec (.warmRestart car) s = .next u ∧ Restarted s u 2 ∧ u.tally.now = s.tally.now ∧ answers s u car 0)
    ∧ (∀ s car, Served s car 0 → s.betweenJobs = false →
      ∃ u, exec (.warmRestart car) s = .next u ∧ { u with ctr := s.ctr, out := s.out } = s ∧ answers s u car 0x0A03)
    ∧ (∀ s, s.boot.powered = true → s.pwr.tripped = true → s.pwr.tripWait = false →
      ∃ u, exec .tripCoolExpiry s = .next u ∧ Restarted s u 3 ∧ u.pwr.tripped = false)
    ∧ (∀ s car, Served s car 0 → s.pwr.tripWait = true →
      ∃ u, exec (.tripRestart car) s = .next u ∧ Restarted s u 3 ∧ answers s u car 0)
    ∧ (∀ s, s.tally.due.contains .lifeCommit = true →
      ∃ u, exec .lifeRecordCommit s = .next u ∧ { u with life := s.life, tally := s.tally } = s ∧ u.life = { s.life with committed := s.life.counts }
        ∧ u.tally.due.contains .lifeCommit = false ∧ u.tally.now = s.tally.now)
    ∧ ∀ s, ∃ u, exec .brownout s = .next u ∧ keepsFuses s u ∧ u.boot.powered = false ∧ u.life = { s.life with counts := s.life.committed }
        ∧ u.tiles = [] ∧ u.mem = MemSys.reset ∧ u.jobs = Vector.replicate 8 Job.reset ∧ u.out = s.out

/-- R360 to R363: S7 takes the image of the first slot that verifies, and a tile whose fetch is good runs it; an update verifies the staged image,
broadcasts its 64 chunks and the digest, and is activated between jobs once every tile has it; a laggard ends it. It reads the model's conventions
of log entries 6 and 10. -/
def Obligations.EcmetFirmware : Prop :=
  (∀ s, AtStage s 7 → s.boot.image = none →
      ∃ u, exec .s7EcmetFirmware s = .next u ∧ keepsFuses s u
        ∧ (∀ slot, (s.trySlots 9 imgEcmet s.ecmetSlotBytes (s.slotOrder 9 s.life.ecmetSlot)).2 = some slot →
          u.boot.image = some (fwImage (s.ecmetSlotBytes slot)) ∧ u.life.ecmetSlot = slot)
        ∧ ((s.trySlots 9 imgEcmet s.ecmetSlotBytes (s.slotOrder 9 s.life.ecmetSlot)).2 = none → AtStage u 10 ∧ u.boot.outcome = 2))
    ∧ (∀ s (t : TileIx) f good, s.Inv → s.grid.hasTile t.val = true → s.boot.image = some f → s.zoneOn (s.grid.tileZone t.val) = true →
      f.tileDigest = f.secDigest → (good.take 3).any id = true → s.boot.stage = 10 →
      ∃ u, exec (.tileFirmwareFetch t good) s = .next u ∧ { u with tiles := s.tiles, boot := s.boot } = s ∧ u.tile t.val = (s.tile t.val).loadFw f.sec
        ∧ (∀ T, T ≠ t.val → u.tile T = s.tile T) ∧ u.boot.reported.contains t.val = true)
    ∧ (∀ s car, Served s car 2 → s.boot.updState = 0 →
      ∃ u, exec (.fwUpdateControl car 1) s = .next u ∧ keepsFuses s u ∧ u.boot.image = s.boot.image ∧ u.tiles = s.tiles ∧ u.jobs = s.jobs
        ∧ (s.imageFault imgEcmet (s.memBytes s.boot.stageAddr.toNat (256 + 65536)) = 0 →
          u.boot.updState = fuBroadcasting ∧ u.boot.nextChunk = 0 ∧ u.boot.reported = []
            ∧ u.boot.staged = some (fwImage (s.memBytes s.boot.stageAddr.toNat (256 + 65536))) ∧ answers s u car 0)
        ∧ (s.imageFault imgEcmet (s.memBytes s.boot.stageAddr.toNat (256 + 65536)) ≠ 0 →
          u.boot.updState = fuFailed ∧ u.boot.staged = s.boot.staged ∧ answers s u car 0x0A04
            ∧ u.prot.lastReject = s.imageFault imgEcmet (s.memBytes s.boot.stageAddr.toNat (256 + 65536))))
    ∧ (∀ s f, s.boot.updState = fuBroadcasting → s.boot.staged = some f → s.boot.nextChunk < 64 →
      ∃ u, exec .fwChunkBroadcast s = .next u ∧ { u with boot := s.boot, out := s.out } = s ∧ u.boot = { s.boot with nextChunk := s.boot.nextChunk + 1 }
        ∧ u.out = s.out ++ [.chunk f.version s.boot.nextChunk (chunkDigest f.sec s.boot.nextChunk).toNat])
    ∧ (∀ s (t : TileIx) (c : Fin 64) f, s.grid.hasTile t.val = true → s.boot.updState = fuBroadcasting → s.boot.staged = some f →
      c.val < s.boot.nextChunk → s.boot.nextChunk ≤ 64 →
      ∃ u, exec (.fwChunkReceive t c true true) s = .next u ∧ { u with boot := s.boot } = s ∧ (u.chunksOf t.val).testBit c.val = true
        ∧ ∀ T, T ≠ t.val → u.chunksOf T = s.chunksOf T)
    ∧ (∀ s (t : TileIx) (c : Fin 64), s.grid.hasTile t.val = true → s.boot.updState = fuRepairing → (s.chunksOf t.val).testBit c.val = false →
      s.boot.stage = 10 →
      ∃ u, exec (.fwChunkRefetch t c) s = .next u ∧ { u with boot := s.boot, ctr := s.ctr, events := s.events } = s
        ∧ (u.chunksOf t.val).testBit c.val = true ∧ counted s u (ck 0x0122 5) 1)
    ∧ (∀ s f, s.boot.staged = some f → s.boot.updState = fuWaiting → s.betweenJobs = true →
      s.updateTiles.all (fun t => s.boot.reported.contains t) = true →
      ∃ u, exec .fwActivation s = .next u ∧ keepsFuses s u ∧ u.boot.image = some f ∧ u.boot.staged = none ∧ u.boot.updState = fuActivated
        ∧ u.life.ecmetSlot = 1 - s.life.ecmetSlot ∧ u.mem.data = s.mem.data ∧ u.jobs = s.jobs)
    ∧ ∀ s, s.boot.updState = fuRepairing →
      ∃ u, exec .fwLaggardTimeout s = .next u ∧ { u with boot := s.boot, events := s.events } = s ∧ u.boot.updState = fuLaggards ∧ u.boot.staged = none
        ∧ u.boot.laggards = (s.updateTiles.filter (fun t => ! s.boot.reported.contains t)).take 16 ∧ u.boot.image = s.boot.image

/-- R318 to R320, R322: a regulator die that fails leaves service, is counted and is on record; with five working dies left its group only counts the
loss; a group regulates to at most 900 mV, and 1,000 ticks in a row above it call for the ceiling; a sensor that fails is marked. It reads the
model's conventions of log entry 10. -/
def Obligations.RegulatorsAndSensors : Prop :=
  (∀ s (d : Fin 48) (cause : Fin 6), s.regState d.val = rsInService → cause ≠ 0 → s.workingDies (d.val / 6) = 6 → s.usable = false →
      ∃ u, exec (.regDieFault d cause) s = .next u ∧ { u with pwr := s.pwr, life := s.life, boot := s.boot, ctr := s.ctr } = s
        ∧ u.regState d.val = rsFailed ∧ (∀ e : Fin 56, e.val ≠ d.val → u.pwr.reg[e] = s.pwr.reg[e]) ∧ counted s u (ck 0x4070 1) 1
        ∧ u.life.counts.regFailures = s.life.counts.regFailures + 1 ∧ u.life.faults = s.life.faults ++ [⟨1, d.val, cause.val, s.tally.now⟩])
    ∧ (∀ s (d : Fin 48) (cause : Fin 6), s.regState d.val ≠ rsInService → s.usable = false → exec (.regDieFault d cause) s = .next s)
    ∧ (∀ s (cause : Fin 6), s.regState 50 = rsInService → cause ≠ 0 → (∀ j, (s.job j).holds = false) →
      ∃ u, exec (.edgeRegFault 2 cause) s = .next u ∧ u.regState 50 = rsFailed ∧ (∀ m : Fin 8, u.stackUsable m.val = false) ∧ u.mem.data = s.mem.data
        ∧ u.life.counts.regFailures = s.life.counts.regFailures + 1)
    ∧ (∀ s (cause : Fin 6), s.regState 49 = rsInService → cause ≠ 0 →
      ∃ u, exec (.edgeRegFault 1 cause) s = .next u ∧ u.pwr.powerFault = true ∧ u.boot.powered = false ∧ u.tiles = [] ∧ u.fuses = s.fuses)
    ∧ (∀ s (g : GroupIx) mv, mv ≤ 900 → s.pwr.overMv.testBit g.val = false →
      ∃ u, exec (.vlogRegulationTick g mv) s = .next u ∧ onlyPwr s u ∧ u.pwr.setMv[g] = mv ∧ u.pwr.overTicks[g] = 0
        ∧ ∀ h : GroupIx, h ≠ g → u.pwr.setMv[h] = s.pwr.setMv[h])
    ∧ (∀ s (g : GroupIx) mv, 900 < mv → s.pwr.overTicks[g] = 999 → s.pwr.overMv.testBit g.val = false →
      ∃ u, exec (.vlogRegulationTick g mv) s = .next u ∧ u.pwr.setMv[g] = 900
        ∧ ∀ i : Fin 6, (u.zoneClk (6 * g.val + i.val)).headroom = some (max 1200 (s.clk.freq - 100)))
    ∧ (∀ s (kind : Fin 3) i, s.usable = false → (kind = 1 ∨ kind = 2) → i < (if kind = 1 then 768 else 384) →
      s.pwr.failed.contains (kind.val * 4096 + i) = false →
      ({ s with pwr := { s.pwr with failed := s.pwr.failed ++ [kind.val * 4096 + i] } } : State).sensorsBad (i / (if kind = 1 then 16 else 8)) kind.val = false →
      ∃ u, exec (.sensorFailMark kind i) s = .next u ∧ onlyPwr s u ∧ u.pwr.failed = s.pwr.failed ++ [kind.val * 4096 + i])
    ∧ ∀ s (g : GroupIx), ∃ u, exec (.ratingExcess g) s = .next u ∧ u.pwr.excess.testBit g.val = true ∧ u.tiles = s.tiles ∧ u.jobs = s.jobs
        ∧ ∀ i : Fin 6, (u.zoneClk (6 * g.val + i.val)).headroom = some (max 1200 (s.clk.freq - 100))

/-- R324, R326 to R328: a request to switch a zone on waits in its group; the oldest ramps when the headroom is 44 A, or slowly after 1 ms; power-good
brings the zone to ON with its banks scrubbed, and a power-good that does not come leaves it in FAULT until the next start. It reads the model's
conventions of log entry 10. -/
def Obligations.SwitchingOn : Prop :=
  (∀ s (z : ZoneIx), s.boot.mgmt = true → s.zoneHeld z.val = false → (s.zoneState z.val = zsOff ∨ s.zoneState z.val = zsParked) →
      ∃ u, exec (.zoneSwitchOnRequest z) s = .next u ∧ { u with pwr := s.pwr, ctr := s.ctr } = s ∧ u.zoneState z.val = zsWaiting
        ∧ u.pwr.queue = s.pwr.queue ++ [z.val] ∧ onlyZone s u z)
    ∧ (∀ s (z : ZoneIx), s.zoneHeld z.val = true → exec (.zoneSwitchOnRequest z) s = .next s)
    ∧ (∀ s (z : ZoneIx) us, s.nextInGroup (z.val / 6) = some z.val → s.ramping (z.val / 6) = false → s.bandOn z.val = true → 176 ≤ s.headroom (z.val / 6) →
      ∃ u, exec (.zoneRampStart z us) s = .next u ∧ onlyPwr s u ∧ onlyZone s u z ∧ z.val ∉ u.pwr.queue
        ∧ u.zoneState z.val = (if (s.zonePwr z.val).unpark then zsUnparking else zsRamping) ∧ (u.zonePwr z.val).seqWait = min us 65535)
    ∧ (∀ s (z : ZoneIx) us, s.headroom (z.val / 6) < 176 → s.actionOf 3 z.val ≠ raLevel1 → exec (.zoneRampStart z us) s = .next s)
    ∧ (∀ s (z : ZoneIx), s.nextInGroup (z.val / 6) = some z.val → s.ramping (z.val / 6) = false → s.bandOn z.val = true →
      ∃ u, exec (.slowRampStart z) s = .next u ∧ { u with pwr := s.pwr, ctr := s.ctr } = s ∧ onlyZone s u z ∧ (u.zonePwr z.val).slow = true
        ∧ counted s u (ck 0x4070 3) 1)
    ∧ (∀ s (z : ZoneIx), s.Inv → s.zoneState z.val = zsRamping → (s.zonePwr z.val).parkAfter = none →
      ∃ u, exec (.zonePowerGood z) s = .next u ∧ u.zoneState z.val = zsOn ∧ onlyZone s u z ∧ (∀ t, t ∉ s.zoneTiles (2 ^ z.val) → u.tile t = s.tile t)
        ∧ ∀ f, s.boot.image = some f → ∀ t, t ∈ s.zoneTiles (2 ^ z.val) → ∀ c : CoreIx, ((u.tile t).core c).fnLoaded = true)
    ∧ (∀ s (z : ZoneIx), s.Inv → s.zoneState z.val = zsRamping →
      ∃ u, exec (.powerGoodTimeout z) s = .next u ∧ u.zoneState z.val = zsFault ∧ onlyZone s u z ∧ counted s u (ck 0x4070 4) 1
        ∧ (∀ t, t ∉ s.zoneTiles (2 ^ z.val) → u.tile t = s.tile t) ∧ ∀ t, t ∈ s.zoneTiles (2 ^ z.val) → u.tile t = Tile.reset)
    ∧ ∀ s (g : GroupIx) m ws, m ≤ s.rating g.val →
      ∃ u, exec (.currentLedgerTick g m ws) s = .next u ∧ onlyPwr s u ∧ u.pwr.excess.testBit g.val = false
        ∧ (u.pwr.measured[g]) = (m :: s.pwr.measured[g]).take 10 ∧ ∀ h : GroupIx, h ≠ g → u.pwr.measured[h] = s.pwr.measured[h]

/-- R328 to R331: a free zone that is on begins to park, for idleness or on request; when its gate is open it is PARKED with its resident banks, or OFF;
a zone without a job is unparked on request; a mask with a bit above the zones is refused with 0x0401. It reads the model's conventions of log entry
27. -/
def Obligations.Parking : Prop :=
  (∀ s (z : ZoneIx), s.regHeld z.val = false → s.boot.mgmt = true → FreeZone s z → s.zoneState z.val = zsOn →
      ∃ u, exec (.zonePark z) s = .next u ∧ onlyPwr s u ∧ onlyZone s u z ∧ u.zoneState z.val = zsParking
        ∧ (u.zonePwr z.val).parkCause = s.parkReason z.val)
    ∧ (∀ s (z : ZoneIx), s.boot.mgmt = true → FreeZone s z → s.zoneState z.val = zsOn → s.pwr.idleParkMs ≠ 0 →
      ∃ u, exec (.zoneIdlePark z) s = .next u ∧ onlyPwr s u ∧ onlyZone s u z ∧ u.zoneState z.val = zsParking ∧ (u.zonePwr z.val).parkCause = pcIdle)
    ∧ (∀ s (z : ZoneIx), s.Inv → s.zoneState z.val = zsParking → s.check.tests = [] →
      ∃ u, exec (.parkingComplete z) s = .next u ∧ onlyZone s u z
        ∧ u.zoneState z.val = (if (s.zonePwr z.val).toOff then zsOff else zsParked)
        ∧ (∀ t, t ∉ s.zoneTiles (2 ^ z.val) → u.tile t = s.tile t)
        ∧ ∀ t, t ∈ s.zoneTiles (2 ^ z.val) → u.tile t = (if (s.zonePwr z.val).toOff then (s.tile t).powerOff else (s.tile t).park))
    ∧ (∀ s car (z : ZoneIx), Served s car 0 → FreeZone s z → s.zoneState z.val = zsOn →
      (∃ u, exec (.parkRequest car (BitVec.ofNat 64 (2 ^ z.val))) s = .next u ∧ onlyZone s u z ∧ u.zoneState z.val = zsParking
          ∧ (u.zonePwr z.val).parkCause = pcRequest ∧ (u.zonePwr z.val).toOff = false ∧ answers s u car 0)
        ∧ ∃ u, exec (.powerOffRequest car (BitVec.ofNat 64 (2 ^ z.val))) s = .next u ∧ onlyZone s u z ∧ u.zoneState z.val = zsParking
          ∧ (u.zonePwr z.val).toOff = true ∧ answers s u car 0)
    ∧ (∀ s car (z : ZoneIx), Served s car 0 → FreeZone s z → s.zoneState z.val = zsParked →
      ∃ u, exec (.unparkRequest car (BitVec.ofNat 64 (2 ^ z.val))) s = .next u ∧ onlyZone s u z ∧ u.zoneState z.val = zsWaiting
        ∧ (u.zonePwr z.val).unpark = true ∧ u.pwr.queue = s.pwr.queue ++ [z.val] ∧ answers s u car 0)
    ∧ ∀ s car (m : U64), Served s car 0 → 2 ^ 48 ≤ m.toNat →
      ∀ c, (c = .parkRequest car m ∨ c = .unparkRequest car m) →
        ∃ u, exec c s = .next u ∧ { u with ctr := s.ctr, out := s.out } = s ∧ counted s u (ck 0x4070 8) 1 ∧ answers s u car 0x0401

/-- R332 to R337, R339: one sample of the sensors is what SENS.RD reads; a hold for heat ends below 95 °C; an average above the limit lowers the ceiling
by 100 MHz from the frequency in force; a trip at 115 °C ends every job with 0x0420 and switches every zone off; the energy of a period is counted.
It reads the model's conventions of log entry 27. -/
def Obligations.HeatAndPowerLimit : Prop :=
  (∀ s ts i (h : i < ts.length), ts.length = 384 → s.pwr.sensors = [] → s.noZoneOwned →
      ∃ u, exec (.tempSample ts) s = .next u ∧ SMap.get 0 u.pwr.sensors (0x2000 + i) = tempWord ts[i] ∧ u.tiles = s.tiles ∧ u.clk.freq = s.clk.freq)
    ∧ (∀ s (z : ZoneIx), s.usable = false → (s.zonePwr z.val).hold = hoHot → (s.zonePwr z.val).temp < 1520 →
      ∃ u, exec (.overtempHoldRelease z) s = .next u ∧ onlyPwr s u ∧ onlyZone s u z ∧ u.zonePwr z.val = { s.zonePwr z.val with hold := 0 })
    ∧ (∀ s (z : ZoneIx), 1520 ≤ (s.zonePwr z.val).temp → exec (.overtempHoldRelease z) s = .next s)
    ∧ (∀ s avg, s.limitInForce < avg → s.clk.freq ≠ 1200 →
      ∃ u, exec (.powerLimitCheck avg) s = .next u ∧ u.pwr.powerCeiling = some (max 1200 (s.clk.freq - 100)) ∧ u.pwr.pkgPower = avg
        ∧ u.pwr.pkgPeak = max s.pwr.pkgPeak avg ∧ u.clk.target ≤ max 1200 (s.clk.freq - 100) ∧ u.tiles = s.tiles ∧ u.jobs = s.jobs)
    ∧ (∀ s avg, avg ≤ s.limitInForce → 93 * s.limitInForce ≤ 100 * avg →
      ∃ u, exec (.powerLimitCheck avg) s = .next u ∧ u.pwr.powerCeiling = s.pwr.powerCeiling ∧ u.pwr.unmet = false ∧ u.pwr.pkgPower = avg)
    ∧ (∀ s sensor, s.pwr.tripped = false → s.pwr.rails = true →
      ∃ u, exec (.thermalTrip sensor) s = .next u ∧ u.pwr.tripped = true ∧ (∀ y : Fin 48, (u.pwr.zones[y]).state = zsOff) ∧ u.tiles = []
        ∧ u.pwr.vlogMv = 0 ∧ u.life.counts.trips = s.life.counts.trips + 1 ∧ u.life.committed = u.life.counts
        ∧ ∀ j, (s.job j).running = true → (u.job j).state = 5 ∧ (u.job j).status = 0x0420)
    ∧ ∀ s es, s.tally.due.contains .energy = true →
      let total := (upTo 56).foldl (fun n d => n + es.getD d 0) 0
      ∃ u, exec (.energyPeriod es) s = .next u ∧ u.pwr.deviceUj = s.pwr.deviceUj + total ∧ u.life.counts.energyUj = s.life.counts.energyUj + total
        ∧ u.tally.due.contains .energy = false ∧ u.tiles = s.tiles ∧ u.mem = s.mem ∧ u.out = s.out

/-- R341 to R344: the master divides the pool equally and keeps the rest; a period moves tokens from the member that waits most to the one that waits
least, debit first; a member applies each half once and answers with its holding; the master records the halves; silence and unanswered halves are
taken back. It reads the model's conventions of log entries 22 and 28. -/
def Obligations.PowerTokens : Prop :=
  (∀ s car (v : U32), Served s car 0 → s.betweenJobs = true → s.holdsPool = true → v ≠ 0 →
      let n := s.cascade.length
      ∃ u, exec (.tokenPoolW car v) s = .next u ∧ { u with pwr := s.pwr, out := s.out } = s ∧ u.pwr.token.pool = v.toNat
        ∧ u.pwr.token.held = v.toNat / n ∧ u.pwr.token.reserve = v.toNat - n * (v.toNat / n) ∧ u.pwr.token.member = true
        ∧ u.pwr.token.record = s.cascade.map (fun d => (d, v.toNat / n)) ∧ answers s u car 0)
    ∧ (∀ s a b ha hb wa wb, s.tally.due.contains .token = true → s.holdsPool = true → s.pwr.token.pool ≠ 0 → s.pwr.token.move = none →
      s.pwr.token.sumOk = true → holdingOf s.pwr.token.record a = ha → holdingOf s.pwr.token.record b = hb → wb < wa →
      5 * s.pwr.token.period < 100 * (wa - wb) → a ≠ s.boot.deviceId →
      let n := min s.pwr.token.step (min (ha - s.pwr.token.floor) (s.fuses.powerLimit - hb))
      0 < n →
      ∃ u, exec (.tokenPeriod [(a, ha, wa), (b, hb, wb)]) s = .next u ∧ { u with pwr := s.pwr, tally := s.tally, out := s.out } = s
        ∧ u.pwr.token.move = some ⟨s.pwr.token.seq + 1, a, b, n, false, 0⟩ ∧ u.pwr.token.record = s.pwr.token.record
        ∧ u.out = s.out ++ [.peer a pkDebit [s.pwr.token.seq + 1, n]])
    ∧ (∀ s seq w, (2 * seq) ∉ s.pwr.token.applied → ∃ u, exec (.tokenDebit seq w) s = .next u ∧ movedTokens s u seq (s.pwr.token.held - w))
    ∧ (∀ s seq w, (2 * seq + 1) ∉ s.pwr.token.applied → ∃ u, exec (.tokenCredit seq w) s = .next u ∧ movedTokens s u seq (s.pwr.token.held + w))
    ∧ (∀ s seq w, (2 * seq) ∈ s.pwr.token.applied → ∃ u, exec (.tokenDebit seq w) s = .next u ∧ movedTokens s u seq s.pwr.token.held)
    ∧ (∀ s m, s.pwr.token.move = some m → s.holdsPool = true → m.credited = false → m.receiver ≠ s.boot.deviceId →
      let v := holdingOf s.pwr.token.record m.donor - m.watts
      (({ s.pwr.token with record := setHolding s.pwr.token.record m.donor v, move := some { m with credited := true, tries := 0 } } : TokenSt).sumOk = true →
        ∃ u, exec (.tokenAck m.donor m.seq v) s = .next u ∧ { u with pwr := s.pwr, out := s.out } = s
          ∧ u.pwr.token.record = setHolding s.pwr.token.record m.donor v ∧ u.pwr.token.move = some { m with credited := true, tries := 0 }
          ∧ u.out = s.out ++ [.peer m.receiver pkCredit [m.seq, m.watts]]))
    ∧ (∀ s m, s.pwr.token.move = some m → m.tries < 2 →
      ∃ u, exec .tokenAckTimeout s = .next u ∧ { u with pwr := s.pwr, out := s.out } = s ∧ u.pwr.token.move = some { m with tries := m.tries + 1 }
        ∧ u.out = s.out ++ [if m.credited then .peer m.receiver pkCredit [m.seq, m.watts] else .peer m.donor pkDebit [m.seq, m.watts]])
    ∧ (∀ s m, s.pwr.token.move = some m → 2 ≤ m.tries → m.credited = true →
      ∃ u, exec .tokenAckTimeout s = .next u ∧ onlyPwr s u ∧ u.pwr.token = { s.pwr.token with move := none, reserve := s.pwr.token.reserve + m.watts })
    ∧ ∀ s, s.pwr.token.member = true → s.link.state = csMember →
      ∃ u, exec .tokenMasterSilence s = .next u ∧ onlyPwr s u ∧ u.pwr.token = { s.pwr.token with held := min s.pwr.token.held s.pwr.token.fair }

/-- R374 to R377, R385, R386: the loss of a wavelength in use darkens both links of its die; a link that loses its signal, its FEC lock or its partner,
or that is not acknowledged in 64 attempts, goes to retraining; retraining has three attempts; the identity exchange brings a link up or marks it
incompatible. R379 to R383, R392: a flit in order is taken and the next one expected; one that fails its check is discarded with every later one
until the replay, after one NAK; a NAK and the timer send every held flit again; an audit that differs stops the job of the port; calibration in the
idle window changes nothing. It reads the model's conventions of log entries 10 and 54. -/
def Obligations.LinkLifecycleAndFlits : Prop :=
  ((∀ s (k : LinkDieIx) w (l : LinkIx), s.lambdaInUse k.val w.val = true → ofDie k l →
      ((s.linkSt l.val).state = lsUp ∨ (s.linkSt l.val).state = lsRetraining ∨ (s.linkSt l.val).state = lsTraining) →
      ∃ u, exec (.laserLoss k w) s = .next u ∧ (u.linkSt l.val).state = lsDark ∧ (u.linkSt l.val).laser = false)
    ∧ (∀ s (k : LinkDieIx) w, s.lambdaInUse k.val w.val = false → exec (.laserLoss k w) s = .next s)
    ∧ (∀ s (l : LinkIx) c, (c = .rxSignalLoss l ∨ c = .fecLockLoss l ∨ c = .linkDown l) →
      ((s.linkSt l.val).state = lsUp → ∃ u, exec c s = .next u ∧ LinkLost s u l) ∧ ((s.linkSt l.val).state ≠ lsUp → exec c s = .next s))
    ∧ (∀ s (l : LinkIx), (s.linkSt l.val).state = lsUp → 64 ≤ (s.linkSt l.val).replayTries →
      ∃ u, exec (.retryLimit l) s = .next u ∧ LinkLost s u l)
    ∧ (∀ s (l : LinkIx) ns, (s.linkSt l.val).state = lsRetraining →
      (∃ u, exec (.linkRetrain l true ns) s = .next u ∧ { u with link := s.link, events := s.events } = s
          ∧ u.linkSt l.val = { s.linkSt l.val with state := lsTraining, latencyNs := ns } ∧ ∀ m : LinkIx, m ≠ l → u.linkSt m.val = s.linkSt m.val)
        ∧ ((s.linkSt l.val).attempts < 2 → ∃ u, exec (.linkRetrain l false ns) s = .next u ∧ { u with link := s.link } = s
          ∧ u.linkSt l.val = { s.linkSt l.val with attempts := (s.linkSt l.val).attempts + 1 })
        ∧ (2 ≤ (s.linkSt l.val).attempts → ∃ u, exec (.linkRetrain l false ns) s = .next u ∧ { u with link := s.link, events := s.events } = s
          ∧ (u.linkSt l.val).state = lsDownUntilStart))
    ∧ (∀ s (k : LinkDieIx) (l : LinkIx), ofDie k l → (s.linkSt l.val).state = lsDark →
      ∃ u, exec (.laserLightArrival k) s = .next u ∧ { u with link := s.link, events := s.events } = s
        ∧ u.linkSt l.val = { s.linkSt l.val with state := lsRetraining, laser := true, attempts := 0 })
    ∧ (∀ s (l : LinkIx) f v, (s.linkSt l.val).state = lsTraining → linkVersions.find? (fun v => decide (f.minVer ≤ v) && decide (v ≤ f.maxVer)) = some v →
      ∃ u, exec (.identityFlit l f) s = .next u ∧ (u.linkSt l.val).state = lsUp ∧ (u.linkSt l.val).version = v / 256 * 16 + v % 16
        ∧ (u.linkSt l.val).partner = f.device ∧ (u.linkSt l.val).features = 0x7F &&& f.features.toNat &&& featuresOf v ∧ u.tiles = s.tiles ∧ u.mem = s.mem)
    ∧ ∀ s (l : LinkIx) f, (s.linkSt l.val).state = lsTraining → linkVersions.find? (fun v => decide (f.minVer ≤ v) && decide (v ≤ f.maxVer)) = none →
      ∃ u, exec (.identityFlit l f) s = .next u ∧ { u with link := s.link, events := s.events, ctr := s.ctr } = s
        ∧ u.linkSt l.val = { s.linkSt l.val with state := lsIncompatible } ∧ counted s u (ck 0x6030 4) 1)
  ∧ ((∀ s (l : LinkIx) bytes symbols, (s.linkSt l.val).state = lsUp → bytes.length = 256 → symbols ≤ 15 →
      crc32 (bytes.take 252) = BitVec.ofNat 32 (natOfLE (bytes.drop 252)) → fieldN (natOfLE (bytes.take 8)) 60 4 = 1 →
      fieldN (natOfLE (bytes.take 8)) 46 12 = (s.linkSt l.val).expect →
      ∃ u, exec (.dataFlitReceive l bytes symbols) s = .next u ∧ (u.linkSt l.val).expect = ((s.linkSt l.val).expect + 1) % 4096
        ∧ (u.linkSt l.val).discarding = false ∧ (u.linkSt l.val).state = lsUp ∧ u.mem = s.mem)
    ∧ (∀ s (l : LinkIx) bytes symbols, (s.linkSt l.val).state = lsUp → bytes.length = 256 → 15 < symbols → (s.linkSt l.val).discarding = false →
      ∃ u, exec (.dataFlitReceive l bytes symbols) s = .next u ∧ { u with link := s.link, out := s.out } = s
        ∧ (u.linkSt l.val).discarding = true ∧ (u.linkSt l.val).expect = (s.linkSt l.val).expect
        ∧ (u.linkSt l.val).crcFails = satAdd (s.linkSt l.val).crcFails 1 ∧ u.out = s.out ++ [.control l.val 2 [(s.linkSt l.val).expect]])
    ∧ (∀ s (l : LinkIx) (n : BitVec 12), (s.linkSt l.val).state = lsUp →
      ∃ u, exec (.nakReceive l n) s = .next u ∧ { u with link := s.link, out := s.out } = s ∧ u.out = s.out ++ replayed s l n.toNat
        ∧ (u.linkSt l.val).retry = (s.linkSt l.val).retry ∧ (u.linkSt l.val).replayTries = (s.linkSt l.val).replayTries + 1)
    ∧ (∀ s (l : LinkIx) r rest, (s.linkSt l.val).state = lsUp → (s.linkSt l.val).retry = r :: rest →
      ∃ u, exec (.replayTimer l) s = .next u ∧ { u with link := s.link, out := s.out } = s ∧ u.out = s.out ++ replayed s l r.1
        ∧ (u.linkSt l.val).replayTries = (s.linkSt l.val).replayTries + 1)
    ∧ (∀ s (l : LinkIx) a b j, (s.linkSt l.val).state = lsUp → (s.linkSt l.val).features.testBit 6 = true →
      (s.linkSt l.val).vls.toList.map VlSt.received ≠ a → s.portOwner (s.portOfLink l.val) = some j →
      ∃ u, exec (.auditFlit l a b) s = .next u ∧ { u with link := s.link, jobs := s.jobs, events := s.events, ctr := s.ctr } = s
        ∧ u.job j = { s.job j with linkStops := (s.job j).linkStops ++ [0x0960] } ∧ counted s u (ck 0x6030 3) 1)
    ∧ ∀ s (l : LinkIx), exec (.linkCalibrationIdle l) s = .next s)

/-- R387 to R391, R399: the switch sends a transfer when the plan has placed all its lines, and counts it for the ledger of the group; a transfer that
is whole lands on the mesh and is counted; a header that is not valid, or a row outside the grid, stops the job of the port with 0x0710. It reads
the model's conventions of log entries 19, 29 and 68. -/
def Obligations.Transfers : Prop :=
  (∀ s right row key h ls l j x, key = (if right then 64 else 0) + row → s.link.rows = [(key, h :: ls)] → s.rowLink right row = some l →
      s.portOwner (s.portOfLink l) = some j → xferOf true (lineBytes h.data) = some x → x.n ≤ ls.length →
      ∃ u, exec (.planTransferSend right row) s = .next u ∧ SMap.get [] u.link.rows key = ls.drop x.n ∧ (u.job j).carried = true
        ∧ SMap.get 0 (u.job j).sent x.dev = SMap.get 0 (s.job j).sent x.dev + 1 ∧ u.tiles = s.tiles ∧ u.mem = s.mem)
    ∧ (∀ s right row key h ls l j, key = (if right then 64 else 0) + row → s.link.rows = [(key, h :: ls)] → s.rowLink right row = some l →
      s.portOwner (s.portOfLink l) = some j → xferOf true (lineBytes h.data) = none →
      ∃ u, exec (.planTransferSend right row) s = .next u ∧ { u with link := s.link, jobs := s.jobs, events := s.events } = s ∧ u.link.rows = []
        ∧ u.job j = { s.job j with linkStops := (s.job j).linkStops ++ [0x0710] })
    ∧ (∀ s (p : PortIx) reduction f rest x n j, (s.portSt p.val).ready.filter (fun f => f.2.vl == (if reduction then vlReduction else vlPlan)) = f :: rest →
      flitsNeeded reduction f.2.payload = some (x, n) → n ≤ rest.length + 1 → x.dev = s.boot.deviceId → x.y < s.grid.logicalRows →
      s.portOwner p.val = some j →
      let src := (s.linkSt f.1).partner
      ∃ u, exec (.transferLanding p reduction) s = .next u ∧ (u.job j).carried = true ∧ SMap.get 0 (u.job j).landed src = SMap.get 0 (s.job j).landed src + 1
        ∧ u.mem = s.mem ∧ (u.job j).linkStops = (s.job j).linkStops)
    ∧ (∀ s (p : PortIx) reduction f rest j, (s.portSt p.val).ready.filter (fun f => f.2.vl == (if reduction then vlReduction else vlPlan)) = f :: rest →
      flitsNeeded reduction f.2.payload = none → s.portOwner p.val = some j →
      ∃ u, exec (.transferLanding p reduction) s = .next u ∧ u.job j = { s.job j with linkStops := (s.job j).linkStops ++ [0x0710] }
        ∧ u.tiles = s.tiles ∧ u.mem = s.mem)
    ∧ ∀ s (p : PortIx) reduction, (s.portSt p.val).ready = [] → exec (.transferLanding p reduction) s = .next s

/-- R393, R396, R397: the master sends its tally on each link and a heartbeat to all; a member takes the copy with the fewest hops and sends it on; the
lowest identity heard wins the election, and a member that misses the heartbeat elects anew. It reads the model's conventions of log entries 22 and
87. -/
def Obligations.CascadeAndElection : Prop :=
  (∀ s (l : LinkIx), s.link.state = csMaster → s.tallyLinkUp l.val = true →
      ∃ u, exec (.tallyFlitSend l) s = .next u ∧ { u with out := s.out } = s ∧ u.out = s.out ++ [.control l.val 5 [s.tally.now, 0]])
    ∧ (∀ s (l : LinkIx) (v : U64) (hops : Byte), s.link.state = csMember → s.tallyLinkUp l.val = true → s.link.tallyLink = none →
      s.tally.selected = 2 → s.tally.marked = true →
      let src := v.toNat + ((s.linkSt l.val).latencyNs + 32) / 64
      ∃ u, exec (.tallyFlitReceive l v hops) s = .next u ∧ { u with link := s.link, tally := s.tally, out := s.out } = s ∧ u.link.tallyLink = some l.val
        ∧ u.link.tallyHops = hops.toNat ∧ u.tally.now = s.tally.now ∧ u.tally.offset = (src : Int) - s.tally.now ∧ u.tally.inUse = 2
        ∧ u.out = s.out ++ ((upTo 36).filter (fun k => k != l.val && s.tallyLinkUp k)).map (fun k => .control k 5 [src, hops.toNat + 1]))
    ∧ (∀ s (l : LinkIx) (v : U64) (hops : Byte), s.link.state ≠ csMember → exec (.tallyFlitReceive l v hops) s = .next s)
    ∧ (∀ s, s.tally.inUse = 2 → s.tally.state = tsLocked →
      ∃ u, exec .linkTallyLoss s = .next u ∧ { u with link := s.link, tally := s.tally } = s ∧ u.link.tallyLink = none ∧ u.tally.state = tsHoldover
        ∧ u.tally.inUse = 0 ∧ u.tally.linkLive = false ∧ u.tally.now = s.tally.now)
    ∧ (∀ s (l : LinkIx) n, (s.linkSt l.val).state = lsUp → s.link.masterSet = 0xFFFF → n < min s.link.lowest s.boot.deviceId → s.link.state ≠ csConflict →
      ∃ u, exec (.masterElectionAnnounce l n) s = .next u ∧ { u with link := s.link, out := s.out } = s ∧ u.link.lowest = n ∧ u.link.state = csElecting
        ∧ u.out = s.out ++ ((upTo 36).filter (fun k => (s.linkSt k).state == lsUp && k != l.val)).map (fun k => .peer (s.linkSt k).partner pkElect [n]))
    ∧ (∀ s, s.link.state = csElecting → s.noGroups → s.pwr.token.pool = 0 →
      ∃ u, exec .electionSettle s = .next u ∧ { u with link := s.link } = s ∧ u.link.master = min s.link.lowest s.boot.deviceId
        ∧ u.link.state = (if min s.link.lowest s.boot.deviceId = s.boot.deviceId then csMaster else csMember))
    ∧ (∀ s, s.link.state = csMaster → ∃ u, exec .masterHeartbeat s = .next u ∧ { u with out := s.out } = s
        ∧ u.out = s.out ++ [.peer 0xFFFF pkHeartbeat [s.boot.deviceId]])
    ∧ ∀ s, s.link.state = csMember → s.noGroups →
      ∃ u, exec .heartbeatLoss s = .next u ∧ { u with link := s.link, ctr := s.ctr, out := s.out } = s ∧ u.link.state = csElecting
        ∧ counted s u (ck 0x6030 6) 1

/-- R398 to R400: the master of a group gives the start tally, 1,024 counts ahead, when every member has named the same members and key; a member takes
it; a member that is silent, or whose list or key differs, stops the group; a decision of the master is carried out by every member. It reads the
model's conventions of log entries 22 and 29. -/
def Obligations.JobGroups : Prop :=
  (∀ s j device key, (s.job j).gathering = true → (s.job j).members.contains device = true → (s.job j).ready.any (fun r => r.1 == device) = false →
      let rs := (s.job j).ready ++ [(device, (s.job j).members, key)]
      ((s.job j).members.all (fun d => rs.any (fun r => r.1 == d)) = false →
        ∃ u, exec (.groupReady j device (s.job j).members (BitVec.ofNat 64 key)) s = .next u ∧ { u with jobs := s.jobs } = s
          ∧ (key < 2 ^ 64 → u.job j = { s.job j with ready := rs }))
      ∧ ((s.job j).members.all (fun d => rs.any (fun r => r.1 == d)) = true → key < 2 ^ 64 →
        (∀ r, r ∈ rs → r.2.1 = (s.job j).members ∧ r.1 ∈ (s.job j).members ∧ r.2.2 = (s.job j).keyEff) →
        ∃ u, exec (.groupReady j device (s.job j).members (BitVec.ofNat 64 key)) s = .next u ∧ { u with jobs := s.jobs, out := s.out } = s
          ∧ (u.job j).startAt = some (s.tally.now + 1024)
          ∧ u.out = s.out ++ ((s.job j).members.filter (fun d => d != s.boot.deviceId)).map (fun d => .peer d pkStart [(s.job j).groupId, s.tally.now + 1024])))
    ∧ (∀ s j (t : U64), (s.job j).gathering = true →
      ∃ u, exec (.groupStartTally j t) s = .next u ∧ { u with jobs := s.jobs } = s ∧ onlyJob s u j ∧ u.job j = { s.job j with startAt := some t.toNat })
    ∧ (∀ s j p d, InGroup s j p → (s.job j).phase = .starting → (s.job j).startAt = none → d ∈ (s.job j).members →
      (s.job j).ready.any (fun r => r.1 == d) = false →
      ∃ u, exec (.groupReadyTimeout j) s = .next u ∧ (u.job j).state = 5 ∧ (u.job j).status = 0x0716)
    ∧ (∀ s j (r : GroupReport) d, (s.job j).groupId ≠ 0 → s.link.master = s.boot.deviceId → (s.job j).reports.any (fun q => q.device == r.device) = false →
      (s.job j).members.contains r.device = true → d ∈ (s.job j).members → ((s.job j).reports ++ [r]).any (fun q => q.device == d) = false →
      ∃ u, exec (.groupFenceReport j r) s = .next u ∧ { u with jobs := s.jobs } = s ∧ onlyJob s u j
        ∧ u.job j = { s.job j with reports := (s.job j).reports ++ [r] })
    ∧ (∀ s j p st, InGroup s j p → (s.job j).phase = .starting →
      ∃ u, exec (.groupDecision j (.stop st)) s = .next u ∧ (u.job j).state = 5 ∧ (u.job j).status = st)
    ∧ (∀ s j p st, InGroup s j p → (s.job j).phase = .step →
      ∃ u, exec (.groupDecision j (.stop st)) s = .next u ∧ { u with jobs := s.jobs } = s ∧ onlyJob s u j
        ∧ u.job j = { s.job j with groupStop := some ((s.job j).groupStop.getD st) })
    ∧ (∀ s j p, InGroup s j p → (s.job j).phase = .group →
      ∃ u, exec (.groupDecision j .rerun) s = .next u ∧ (u.job j).phase = .decided (s.job j).task true (s.fenceIsPlan p)
        ∧ (u.job j).waitTk = (s.job j).waitTk + (s.tally.now - (s.job j).waitFrom) ∧ (u.job j).steps = (s.job j).steps)
    ∧ ∀ s j p, InGroup s j p → (s.job j).phase = .group → (s.job j).reports ≠ [] →
      ∃ u, exec (.groupReportTimeout j) s = .next u ∧ (u.job j).state = 5 ∧ (u.job j).status = 0x0716

/-- R369, R406, R418, R419: configuration requests complete once S1 has ended and are retried before; function-level and hot resets, a link down, PERST#
and a fatal error reset the host interface and nothing else; D3hot and D0 keep the registers. It reads the model's conventions of log entries 42, 77
and 78. -/
def Obligations.HostLinkAndResets : Prop :=
  (∀ s off v, s.linkOn = true → s.listening = false → ∃ u, exec (.pcieConfigRequest false off v) s = .next u ∧ sent s u (.completion 3 false []))
    ∧ (∀ s v, s.configOn = true →
      ∃ u, exec (.pcieConfigRequest false 0 v) s = .next u ∧ sent s u (.completion 0 false (leOfNat 4 (s.fuses.pcieIds % 2 ^ 32))))
    ∧ (∀ s v, s.configOn = true →
      ∃ u rev, exec (.pcieConfigRequest false 8 v) s = .next u ∧ rev < 256 ∧ sent s u (.completion 0 false (leOfNat 4 (0x120000 * 256 + rev))))
    ∧ (∀ s off (v : U32), s.configOn = true →
      ∃ u es, exec (.pcieConfigRequest true off v) s = .next u ∧ { u with host := s.host, out := s.out } = s
        ∧ u.out = s.out ++ es ++ [.completion 0 false []]
        ∧ u.host.busMaster = (if off / 4 = 1 then v.getLsbD 2 else s.host.busMaster))
    ∧ (∀ s, s.configOn = true → ∃ u, exec .functionLevelReset s = .next u ∧ HostWasReset s u ∧ u.host.linkUp = s.host.linkUp)
    ∧ (∀ s, s.linkOn = true → ∃ u, exec .hotReset s = .next u ∧ HostWasReset s u ∧ u.host.linkUp = s.host.linkUp)
    ∧ (∀ s, s.host.linkUp = true → ∃ u, exec .pcieLinkDown s = .next u ∧ HostWasReset s u ∧ u.host.linkUp = false ∧ u.host.perst = s.host.perst)
    ∧ (∀ s, s.host.perst = false → ∃ u, exec .perstAssert s = .next u ∧ HostWasReset s u ∧ u.host.linkUp = false ∧ u.host.perst = true)
    ∧ (∀ s, s.linkOn = true → ∃ u, exec .aerFatalError s = .next u ∧ HostWasReset s u ∧ u.host.linkUp = false ∧ u.host.aer.contains 5 = true)
    ∧ (∀ s, ∃ u, exec .perstRelease s = .next u ∧ onlyHost s u ∧ u.host = { s.host with perst := false })
    ∧ (∀ s rate width, s.boot.powered = true → 1 ≤ s.boot.stage → s.host.perst = false → linkSettles rate width = true →
      ∃ u, exec (.pcieLinkUp rate width) s = .next u ∧ onlyHost s u ∧ u.host = { s.host with linkUp := true, rate := rate, width := width })
    ∧ (∀ s, s.configOn = true → ∃ u, exec .d3hotEntry s = .next u ∧ onlyHost s u ∧ u.host = { s.host with d3hot := true })
    ∧ (∀ s, s.configOn = true → s.host.d3hot = true →
      ∃ u, exec .d0Entry s = .next u ∧ { u with host := s.host, out := s.out } = s ∧ u.host.d3hot = false ∧ u.host.w2Base = s.host.w2Base
        ∧ u.host.evRoute = s.host.evRoute ∧ u.host.mbx = s.host.mbx ∧ u.host.msix = s.host.msix ∧ u.host.sessions = s.host.sessions)
    ∧ ∀ s, s.configOn = true → ∃ u, exec .busMasterDisable s = .next u ∧ onlyHost s u ∧ u.host = { s.host with busMaster := false }

/-- R408 to R410, R414: a doorbell queues a free slot and is counted for one that is not; a queued slot whose frame is invalid is answered 0x0108 in its
response buffer; a release frees the slots that are ready; the registers take the bits they have, and what they refuse is discarded and counted. It
reads the model's conventions of log entry 77. -/
def Obligations.HostRegisters : Prop :=
  (∀ s (v : U64), s.barsOn = true →
      ∃ u, exec (.w2Base v) s = .next u ∧ onlyHost s u ∧ u.host = { s.host with w2Base := u.host.w2Base }
        ∧ ∀ k, u.host.w2Base.getLsbD k = (v.getLsbD k && decide (30 ≤ k) && decide (k < 48)))
    ∧ (∀ s (v : U64) (n : Fin 16), s.barsOn = true → s.usable = true → s.recovery = false → v.toNat % 16 = n.val → (s.host.mbx[n]).state = 0 →
      ∃ u, exec (.mbxDoorbell v) s = .next u ∧ onlyHost s u ∧ u.host.mbx[n] = { s.host.mbx[n] with state := 1 } ∧ onlyMbx s u n
        ∧ u.host = { s.host with mbx := u.host.mbx })
    ∧ (∀ s (v : U64) (n : Fin 16), s.barsOn = true → s.usable = true → s.recovery = false → v.toNat % 16 = n.val → (s.host.mbx[n]).state ≠ 0 →
      ∃ u, exec (.mbxDoorbell v) s = .next u ∧ { u with ctr := s.ctr } = s ∧ counted s u (ck 0x1040 7) 1)
    ∧ (∀ s v, s.barsOn = true → s.usable = false → exec (.mbxDoorbell v) s = .next s)
    ∧ (∀ s (n : Fin 16), (s.host.mbx[n]).state = 1 → s.recovery = false → parseFrame 1 (mbxFrame (s.host.mbx[n]).req) = none →
      ∃ u, exec (.mailboxDispatch n) s = .next u ∧ { u with host := s.host, ctr := s.ctr, events := s.events } = s
        ∧ u.host = { s.host with mbx := u.host.mbx } ∧ counted s u (ck 0x1041 8) 1
        ∧ u.host.mbx[n] = ⟨3, (s.host.mbx[n]).req, pennosFrame true 0 4 0 0 0x0108 []⟩ ∧ onlyMbx s u n
        ∧ u.events = s.events ++ [⟨1, n.val, leOfNat 2 0x0108, s.tally.now⟩])
    ∧ (∀ s (v : U64), s.barsOn = true →
      ∃ u, exec (.mbxRelease v) s = .next u ∧ onlyHost s u ∧ u.host = { s.host with mbx := u.host.mbx }
        ∧ ∀ n : Fin 16, u.host.mbx[n]
          = if v.getLsbD n.val = true ∧ (s.host.mbx[n]).state = 3 then { s.host.mbx[n] with state := 0 } else s.host.mbx[n])
    ∧ (∀ s (q : Fin 16) (v : U64), s.barsOn = true → q.val < 14 → eqCtrlBad v.toNat = false → (s.host.eqs[q]).enable = false → noBacklog s →
      ∃ u, exec (.eqCtrl q v) s = .next u ∧ onlyHost s u ∧ onlyEq s u q
        ∧ u.host.eqs[q] = { s.host.eqs[q] with
            enable := v.getLsbD 63, size := v.toNat / 2 ^ 48 % 16, vector := v.toNat / 2 ^ 40 % 64, count := v.toNat / 2 ^ 16 % 2 ^ 16,
            time := v.toNat % 2 ^ 16, tail := if v.getLsbD 63 then 0 else (s.host.eqs[q]).tail,
            phase := if v.getLsbD 63 then true else (s.host.eqs[q]).phase })
    ∧ (∀ s (q : Fin 16) v, s.barsOn = true → 14 ≤ q.val ∨ eqCtrlBad v.toNat = true → ∃ u, exec (.eqCtrl q v) s = .next u ∧ discarded s u)
    ∧ (∀ s (q : Fin 16) (v : U64), s.barsOn = true → q.val < 14 → v.toNat < (s.host.eqs[q]).ring → v.toNat < 2 ^ 16 → noBacklog s →
      ∃ u, exec (.eqHead q v) s = .next u ∧ onlyHost s u ∧ onlyEq s u q ∧ u.host.eqs[q] = { s.host.eqs[q] with head := v.toNat })
    ∧ (∀ s (q : Fin 16) (v : U64), s.barsOn = true → 14 ≤ q.val ∨ ((s.host.eqs[q]).ring ≤ v.toNat ∧ v.toNat < 2 ^ 16) →
      ∃ u, exec (.eqHead q v) s = .next u ∧ discarded s u)
    ∧ (∀ s v, s.barsOn = true → ∃ u, exec (.bar0RegisterWrite 0x28 8 v) s = .next u ∧ onlyHost s u ∧ u.host = { s.host with evRoute := v })
    ∧ (∀ s (n : Fin 16) (b : U64), s.barsOn = true → (s.host.mbx[n]).req = [] → b.toNat < 256 →
      ∃ u, exec (.bar0RegisterWrite (0x100000 + 4096 * n.val) 1 b) s = .next u ∧ onlyHost s u ∧ (u.host.mbx[n]).req = [BitVec.ofNat 8 b.toNat]
        ∧ (u.host.mbx[n]).state = (s.host.mbx[n]).state ∧ onlyMbx s u n)
    ∧ (∀ s off w v, s.barsOn = true → off < 0x1000 → w < 8 → ∃ u, exec (.bar0RegisterWrite off w v) s = .next u ∧ discarded s u)
    ∧ ∀ s off w v, s.linkOn = true → s.barsOn = false →
      ∃ u, exec (.bar0RegisterWrite off w v) s = .next u ∧ onlyHost s u ∧ u.host = { s.host with aer := insNat 2 s.host.aer }

/-- R411 to R413, R423: an event leaves the list of raised ones for the trace and its route, alerts of kind 0x06 for SMBus; an entry leaves the backlog
for the ring with its phase, and a vector is signalled at the count or the timer unless it is masked. It reads the model's conventions of log entry
76. -/
def Obligations.EventQueues : Prop :=
  (∀ s (kind : Byte) (unit : U16) data e, s.boot.powered = true → s.recovery = false → 1 ≤ kind.toNat → kind.toNat ≤ 10 →
      (∀ q ∈ s.host.sessions, q.mask.testBit kind.toNat = false) →
      s.events.find? (fun x => x.kind == kind.toNat && x.unit == unit.toNat && x.data == data) = some e → 14 ≤ s.evRouteOf kind.toNat →
      ∃ u, exec (.eventRaise kind unit data) s = .next u ∧ { u with host := s.host, events := s.events } = s ∧ u.events = s.events.erase e
        ∧ u.host.traceCount = s.host.traceCount + 1 ∧ u.host.trace.getLast? = some (entryBytes kind.toNat unit.toNat e.tally data)
        ∧ u.host.alerts = (if s.evRouteOf kind.toNat = 14 ∨ kind.toNat = 6 then s.host.alerts ++ [e] else s.host.alerts)
        ∧ u.host.backlog = s.host.backlog ∧ u.host.eqs = s.host.eqs)
    ∧ (∀ s (kind : Byte) (unit : U16) data (q : Fin 16), s.boot.powered = true → s.recovery = false → 1 ≤ kind.toNat → kind.toNat ≤ 10 →
      kind.toNat ≠ 6 → (∀ q ∈ s.host.sessions, q.mask.testBit kind.toNat = false) → s.events = [] → s.evRouteOf kind.toNat = q.val → q.val < 14 →
      s.posts = false → s.host.backlog.length < 256 →
      ∃ u, exec (.eventRaise kind unit data) s = .next u ∧ onlyHost s u ∧ u.host.backlog = s.host.backlog ++ [(q.val, ⟨kind.toNat, unit.toNat, data, s.tally.now⟩)]
        ∧ u.host.alerts = s.host.alerts ∧ u.host.eqs = s.host.eqs)
    ∧ (∀ s (q : Fin 16) e l, s.posts = true → q.val < 14 → (s.host.eqs[q]).room = true → (s.host.eqs[q]).dropped = 0 →
      s.host.backlog = (q.val, e) :: l →
      ∃ u, exec (.eventEntryWrite q) s = .next u ∧ { u with host := s.host, out := s.out } = s ∧ u.host.backlog = l ∧ onlyEq s u q
        ∧ (∃ b, u.out = s.out ++ [.hostWrite ((s.host.eqs[q]).base.toNat + 32 * (s.host.eqs[q]).tail) b]
          ∧ b.getD 1 0 = (if (s.host.eqs[q]).phase then 0x80 else 0) ∧ b.drop 2 = (entryBytes e.kind e.unit e.tally e.data).drop 2)
        ∧ (u.host.eqs[q]).tail = ((s.host.eqs[q]).tail + 1) % (s.host.eqs[q]).ring ∧ (u.host.eqs[q]).unsignalled = (s.host.eqs[q]).unsignalled + 1
        ∧ (u.host.eqs[q]).phase = (if ((s.host.eqs[q]).tail + 1) % (s.host.eqs[q]).ring = 0 then ! (s.host.eqs[q]).phase else (s.host.eqs[q]).phase))
    ∧ (∀ s (q : Fin 16), s.posts = false → exec (.eventEntryWrite q) s = .next s)
    ∧ (∀ s (q : Fin 16) timer, s.posts = true → (s.host.eqs[q]).enable = true →
      (if timer then (s.host.eqs[q]).time ≠ 0 ∧ (s.host.eqs[q]).unsignalled ≠ 0 else max 1 (s.host.eqs[q]).count ≤ (s.host.eqs[q]).unsignalled) →
      ∃ u, exec (.msixSignal q timer) s = .next u ∧ { u with host := s.host, out := s.out } = s ∧ (u.host.eqs[q]).unsignalled = 0 ∧ onlyEq s u q
        ∧ (s.msixMasked (s.host.eqs[q]).vector = false → u.out = s.out ++ [.msix (s.host.eqs[q]).vector] ∧ u.host.msixPending = s.host.msixPending)
        ∧ (s.msixMasked (s.host.eqs[q]).vector = true → u.out = s.out ∧ u.host.msixPending.testBit (s.host.eqs[q]).vector = true))
    ∧ ∀ s (q : Fin 16) timer, s.posts = false → exec (.msixSignal q timer) s = .next s

/-- R215, R416, R417, R456, R473: BAR2 reads and writes device memory at W2_BASE plus the offset, beyond it is an Unsupported Request, and the write
policy drops a write with an advisory error; BAR4 reads the trace, and its writes are discarded and counted. -/
def Obligations.HostWindows : Prop :=
  (∀ s off len, s.barsOn = true → s.bar2Beyond off len = true →
      ∃ u, exec (.bar2Read off len) s = .next u ∧ { u with host := s.host, out := s.out } = s ∧ u.out = s.out ++ [.completion 1 false []]
        ∧ u.host = { s.host with aer := insNat 2 s.host.aer })
    ∧ (∀ s off len, s.barsOn = true → s.bar2Beyond off len = false → (∀ a ∈ linesOf (s.host.w2Base.toNat + off) len, s.lineAnswers a = true) →
      (∀ a ∈ linesOf (s.host.w2Base.toNat + off) len, s.memPoisoned a 1 = false) → s.memPoisoned (s.host.w2Base.toNat + off) len = false →
      ∃ u, exec (.bar2Read off len) s = .next u ∧ { u with ctr := s.ctr, out := s.out } = s
        ∧ u.out = s.out ++ [.completion 0 false (s.memBytes (s.host.w2Base.toNat + off) len)])
    ∧ (∀ s off len a, s.barsOn = true → s.bar2Beyond off len = false → linesOf (s.host.w2Base.toNat + off) len = [a] → s.lineAnswers a = false →
      ∃ u, exec (.bar2Read off len) s = .next u ∧ { u with ctr := s.ctr, out := s.out, host := s.host } = s ∧ u.out = s.out ++ [.completion 2 false []]
        ∧ u.counter (ck 0x9150 8) = satAdd (s.counter (ck 0x9150 8)) 1 ∧ u.counter (ck 0x1040 9) = satAdd (s.counter (ck 0x1040 9)) 1
        ∧ u.host = { s.host with aer := insNat 3 s.host.aer })
    ∧ (∀ s off data p, s.barsOn = true → s.bar2Refused = true →
      ∃ u, exec (.bar2Write off data p) s = .next u ∧ { u with ctr := s.ctr, host := s.host } = s ∧ counted s u (ck 0x1040 0x0A) 1
        ∧ u.host = { s.host with aer := insNat 1 s.host.aer })
    ∧ (∀ s off data p, s.barsOn = true → s.bar2Refused = false → s.bar2Beyond off data.length = true →
      ∃ u, exec (.bar2Write off data p) s = .next u ∧ onlyHost s u ∧ u.host = { s.host with aer := insNat 2 s.host.aer })
    ∧ (∀ s off (data : List Byte), s.barsOn = true → s.bar2Refused = false → s.bar2Beyond off data.length = false → data ≠ [] →
      (s.host.w2Base.toNat + off) % 64 + data.length ≤ 64 → s.lineAnswers (s.host.w2Base.toNat + off) = true →
      ∃ u, exec (.bar2Write off data false) s = .next u ∧ { u with mem := s.mem, ctr := s.ctr } = s
        ∧ (s.mem.data.wf = true → u.memBytes (s.host.w2Base.toNat + off) data.length = data)
        ∧ (∀ b, b < s.host.w2Base.toNat + off ∨ s.host.w2Base.toNat + off + data.length ≤ b → u.memBytes b 1 = s.memBytes b 1)
        ∧ (data.length = 64 → u.memPoisoned (s.host.w2Base.toNat + off) 64 = false))
    ∧ (∀ s off len, s.barsOn = true → s.recovery = false → off + len ≤ 16777216 →
      ∃ u bs, exec (.bar4Read off len) s = .next u ∧ sent s u (.completion 0 false bs) ∧ bs.length = len
        ∧ ∀ k, k < len → bs[k]? = some (s.traceByte (off + k)))
    ∧ (∀ (s : State) n, n < s.host.traceCount → s.host.traceCount ≤ traceSize → s.host.trace.length = s.host.traceCount →
      ∀ k, k < 32 → s.traceByte (64 + 32 * n + k) = (s.host.trace.getD n []).getD k 0)
    ∧ ∀ s off data, s.barsOn = true → s.recovery = false → off + data.length ≤ 16777216 →
      ∃ u, exec (.bar4Write off data) s = .next u ∧ { u with ctr := s.ctr } = s ∧ counted s u (ck 0x1040 0x0B) 1

/-- R420, R421: the SPDM responder answers its requests in their order, refuses those before the agreement, and signs challenges and measurements with
the identity key; while the processor is in a reset a request waits. It reads the model's conventions of log entries 6, 7 and 47. -/
def Obligations.SpdmResponder : Prop :=
  (∀ s, DoeServed s →
      ∃ u, exec .getVersion s = .next u ∧ spdmSent s u [0x10, 0x04, 0, 0, 0, 1, 0x00, 0x12] ∧ u.host.spdmVersion = true ∧ u.host.spdmCaps = false
        ∧ u.host.spdmAlgs = false)
    ∧ (∀ s, DoeServed s → s.host.spdmVersion = true →
      ∃ u m, exec .getCapabilities s = .next u ∧ spdmSent s u m ∧ m.take 2 = [0x12, 0x61] ∧ natOfLE ((m.drop 8).take 4) = 0x16 ∧ u.host.spdmCaps = true)
    ∧ (∀ s, DoeServed s → s.host.spdmVersion = false → ∃ u, exec .getCapabilities s = .next u ∧ sent s u (.doe (doeObject 1 [0x12, 0x7F, 4, 0])))
    ∧ (∀ s (asym hash : U32), DoeServed s → s.host.spdmVersion = true → s.host.spdmCaps = true →
      ∃ u m, exec (.negotiateAlgorithms asym hash) s = .next u ∧ spdmSent s u m ∧ m.take 2 = [0x12, 0x63]
        ∧ u.host.spdmAlgs = (asym.getLsbD 10 && hash.getLsbD 2))
    ∧ (∀ s, DoeServed s → spdmAgreed s →
      ∃ u, exec .getDigests s = .next u ∧ spdmSent s u ([0x12, 0x01, 0, 1] ++ sha512 s.life.certChain) ∧ u.draws = s.draws)
    ∧ (∀ s, DoeServed s → ¬ spdmAgreed s → ∃ u, exec .getDigests s = .next u ∧ sent s u (.doe (doeObject 1 [0x12, 0x7F, 4, 0])))
    ∧ (∀ s (off len : U16), DoeServed s → spdmAgreed s → off.toNat ≤ s.life.certChain.length → s.life.certChain.length ≤ 4096 →
      ∃ u m, exec (.getCertificate 0 off len) s = .next u ∧ spdmSent s u m ∧ m.drop 8 = (s.life.certChain.drop off.toNat).take len.toNat
        ∧ natOfLE ((m.drop 4).take 2) = min len.toNat (s.life.certChain.length - off.toNat))
    ∧ (∀ s (slot : Byte) nonce, DoeServed s → spdmAgreed s → nonce.length = 32 → slot ≠ 0 →
      ∃ u, exec (.challenge slot nonce) s = .next u ∧ sent s u (.doe (doeObject 1 [0x12, 0x7F, 1, 0])))
    ∧ (∀ s nonce, DoeServed s → spdmAgreed s → nonce.length = 32 →
      ∃ u head text, exec (.challenge 0 nonce) s = .next u ∧ spdmSent s u (head ++ s.identitySign text)
        ∧ head = [0x12, 0x03, 0x00, 0x01] ++ sha512 s.life.certChain ++ (s.random 32).1 ++ [0, 0] ∧ u.draws = s.draws + 1)
    ∧ (∀ s (k : Byte) nonce, DoeServed s → spdmAgreed s → nonce.length = 32 → 1 ≤ k.toNat → k.toNat ≤ 8 → s.measurement k.toNat ≠ [] →
      ∃ u head text, exec (.getMeasurements k true nonce) s = .next u ∧ spdmSent s u (head ++ s.identitySign text) ∧ head.take 2 = [0x12, 0x60]
        ∧ (head.drop 8).take (s.measBlock k.toNat).length = s.measBlock k.toNat ∧ u.draws = s.draws + 1)
    ∧ (∀ s, s.doeOn = true → s.boot.mgmt = true →
      ∃ u, exec (.doeDiscovery 0) s = .next u ∧ sent s u (.doe (doeObject 0 [1, 0, 0, 1])))
    ∧ (∀ s, s.doeOn = true → s.boot.mgmt = false → ∃ u, exec .getVersion s = .next u ∧ onlyHost s u ∧ u.host = { s.host with doeWait := s.host.doeWait ++ [.version] })
    ∧ ∀ s, s.doeOn = false → exec .getVersion s = .next s

/-- R422, R423: the Ethernet port answers ARP, neighbour and echo requests and counts what it discards; the SMBus port takes one frame a Block Write and
gives its answer, or the event after the Alert Response Address, to a Block Read; a wrong PEC only counts. It reads the model's conventions of log
entries 54 and 80. -/
def Obligations.EthernetAndSmbus : Prop :=
  (∀ s origin frame, s.ethOn = true → parseFrame 0 frame = none →
      ∃ u, exec (.ethPennosDatagram origin frame) s = .next u ∧ { u with ctr := s.ctr } = s ∧ counted s u (ck 0x1040 1) 1)
    ∧ (∀ s origin frame p q ops, ServesFrames s → EthSession s origin p.sess q → parseFrame 0 frame = some p → NextRequest p q →
      parseOps p.body.length p.body = some ops → ops.length ≤ opsMax q.version →
      20 + (State.runOps (sessEnv 0 q) ops (s.accepted q p.seq)).2.length ≤ q.maxFrame →
      ∃ u, exec (.ethPennosDatagram origin frame) s = .next u
        ∧ u.out = (State.runOps (sessEnv 0 q) ops (s.accepted q p.seq)).1.out ++ [.frame 0 origin
          (pennosFrame true q.version 4 (sessField q.id) p.seq 0 (State.runOps (sessEnv 0 q) ops (s.accepted q p.seq)).2)])
    ∧ (∀ s (target : U32), s.ethOn = true →
      ∃ u, exec (.arpRequest target) s = .next u
        ∧ (target.toNat = s.host.ethAddr4 → sent s u (.eth 0 (beOfNat 6 s.host.ethMac ++ beOfNat 4 s.host.ethAddr4)))
        ∧ (target.toNat ≠ s.host.ethAddr4 → { u with ctr := s.ctr } = s ∧ counted s u (ck 0x1040 0x0C) 1))
    ∧ (∀ s target, s.ethOn = true →
      ∃ u, exec (.ndpMessage target) s = .next u
        ∧ (target = s.linkLocal6 ∨ target = s.host.ethAddr6 → sent s u (.eth 1 (beOfNat 6 s.host.ethMac ++ target)))
        ∧ (target ≠ s.linkLocal6 → target ≠ s.host.ethAddr6 → { u with ctr := s.ctr } = s ∧ counted s u (ck 0x1040 0x0C) 1))
    ∧ (∀ s v6 payload, s.ethOn = true → ∃ u, exec (.icmpEcho v6 payload) s = .next u ∧ sent s u (.eth (if v6 then 3 else 2) payload))
    ∧ (∀ s, s.ethOn = true → ∃ u, exec .ethOtherFrame s = .next u ∧ { u with ctr := s.ctr } = s ∧ counted s u (ck 0x1040 0x0C) 1)
    ∧ (∀ s, s.boot.powered = true → s.host.ethDue = true →
      ∃ u, exec .ethAddressApply s = .next u ∧ { u with host := s.host, draws := s.draws } = s ∧ u.host.ethDue = false
        ∧ u.host.sessions = s.host.sessions.filter (fun q => q.car != 0)
        ∧ (s.keptNat (ck 0x1020 2) 0 = 1 → u.host.ethAddr4 = s.keptNat (ck 0x1020 3) 0))
    ∧ (∀ s up, s.boot.powered = true → ∃ u, exec (.sgmiiLinkChange up) s = .next u ∧ onlyHost s u ∧ u.host = { s.host with ethUp := up })
    ∧ (∀ s frame, s.carrierOn .smbus = true →
      ∃ u, exec (.smbusBlockWrite false frame) s = .next u ∧ { u with ctr := s.ctr } = s ∧ counted s u (ck 0x1040 0x0D) 1)
    ∧ (∀ s frame p ops, ServesFrames s → s.carrierOn .smbus = true → frame ≠ [] → frame.length ≤ 255 → parseFrame 2 frame = some p → p.kind = 3 →
      p.ver = 16 → p.sess = 0 → parseOps p.body.length p.body = some ops → ops.length ≤ 8 →
      16 + (State.runOps smEnv ops s.smServing).2.length ≤ 255 →
      ∃ u, exec (.smbusBlockWrite true frame) s = .next u ∧ u.host.smBusy = false
        ∧ u.host.smResp = some (pennosFrame false 0 4 0 p.seq 0 (State.runOps smEnv ops s.smServing).2))
    ∧ (∀ s f, s.carrierOn .smbus = true → s.host.alertNext = false → s.host.smResp = some f →
      ∃ u, exec (.smbusBlockRead true) s = .next u ∧ { u with host := s.host, out := s.out } = s ∧ u.out = s.out ++ [.smbus f]
        ∧ u.host = { s.host with smResp := none })
    ∧ (∀ s e l, s.carrierOn .smbus = true → s.host.alertNext = true → s.host.alerts = e :: l →
      ∃ u, exec (.smbusBlockRead true) s = .next u ∧ { u with host := s.host, out := s.out } = s
        ∧ u.out = s.out ++ [.smbus (pennosFrame false 0 5 0 0 0 (entryBytes e.kind e.unit e.tally e.data))]
        ∧ u.host = { s.host with alertNext := false, alerts := l })
    ∧ (∀ s, s.carrierOn .smbus = true → s.host.alertNext = false → s.host.smResp = none →
      ∃ u, exec (.smbusBlockRead true) s = .next u ∧ sent s u (.smbus []))
    ∧ (∀ s, s.carrierOn .smbus = true →
      ∃ u b, exec (.smbusReadByte true) s = .next u ∧ sent s u (.smbus [b]) ∧ (s.host.smResp ≠ none → b = 2)
        ∧ (s.host.smResp = none → s.host.smBusy = true → b = 1) ∧ (s.host.smResp = none → s.host.smBusy = false → b = 0))
    ∧ (∀ s, s.carrierOn .smbus = true → s.host.alerts = [] → exec (.smbusAlertResponse true) s = .next s)
    ∧ ∀ s, s.carrierOn .smbus = true → s.host.alerts ≠ [] →
      ∃ u, exec (.smbusAlertResponse true) s = .next u ∧ { u with host := s.host, out := s.out } = s
        ∧ u.out = s.out ++ [.smbus [BitVec.ofNat 8 (2 * (0x60 + s.host.straps % 8))]] ∧ u.host = { s.host with alertNext := true }

/-- R371, R425, R426, R428, R429: HELLO opens a session in the highest common version, CLOSE and the idle limit end one; the request at the front of the
queue is served in its order and one that waited too long is answered 0x010E; a management reset answers what waits and counts in the life record.
It reads the model's conventions of log entry 75. -/
def Obligations.SessionsAndTheQueue : Prop :=
  (∀ s origin (vs : List U16) (mf : U16), InService s → s.carrierOn .ethernet = true → 1 ≤ vs.length → vs.length ≤ 8 → (0x0103 : U16) ∈ vs →
      s.openCount < 16 → (∀ q ∈ s.host.sessions, q.car = 3 → 65535 < q.id) →
      ∃ u id, exec (.hello .ethernet origin vs mf) s = .next u ∧ { u with host := s.host, out := s.out } = s ∧ 1 ≤ id ∧ id ≤ 65535
        ∧ (∀ q ∈ s.host.sessions, q.id ≠ id)
        ∧ u.host.sessions = s.host.sessions ++ [⟨id, 0, origin, 3, min mf.toNat 1400, none, [], 0, 0⟩]
        ∧ u.out = s.out ++ [.frame 0 origin (pennosFrame true 0 2 id 0 0 (helloAck [0, 1, 2, 3] 0x0103 id (min mf.toNat 1400) 32))])
    ∧ (∀ s origin (vs : List U16) (mf : U16), InService s → s.carrierOn .ethernet = true → 1 ≤ vs.length → vs.length ≤ 8 →
      (∀ v ∈ vs, v.toNat < 0x0100 ∨ 0x0103 < v.toNat) →
      ∃ u, exec (.hello .ethernet origin vs mf) s = .next u ∧ u.host = s.host ∧ { u with ctr := s.ctr, out := s.out } = s
        ∧ u.out = s.out ++ [.frame 0 origin (pennosFrame true 0 2 0 0 0x0109 (helloAck [0, 1, 2, 3] 0 0 (min mf.toNat 1400) 8))])
    ∧ (∀ s origin session q, InService s → s.carrierOn .ethernet = true → s.sessionOf 0 origin session = some q →
      ∃ u, exec (.close .ethernet origin session) s = .next u ∧ { u with host := s.host, out := s.out } = s
        ∧ u.host = { s.host with sessions := s.host.sessions.filter (fun k => k.id != q.id) }
        ∧ u.out = s.out ++ [.frame 0 origin (pennosFrame true q.version 4 session 0 0 [])])
    ∧ (∀ s session, session ≤ 65535 →
      ∃ u, exec (.sessionIdleTimeout session) s = .next u ∧ onlyHost s u
        ∧ u.host = { s.host with sessions := s.host.sessions.filter (fun k => k.id != session) })
    ∧ (∀ s origin frame p q ops, ServesFrames s → s.carrierOn .ethernet = true → s.sessionOf 0 origin p.sess = some q → parseFrame 0 frame = some p →
      NextRequest p q → parseOps p.body.length p.body = some ops → opsMax q.version < ops.length →
      ∃ u, exec (.pennosRequest .ethernet origin frame) s = .next u ∧ { u with host := s.host, ctr := s.ctr, out := s.out } = s ∧ u.host.queue = []
        ∧ counted s u (ck 0x1041 0x0C) 1
        ∧ u.out = s.out ++ [.frame 0 origin (pennosFrame true q.version 4 (sessField q.id) p.seq 0x010C [])])
    ∧ (∀ s origin frame r l, InService s → s.carrierOn .ethernet = true → s.host.queue = r :: l → r.car = 0 → r.origin = origin → r.frame = frame →
      parseOps r.body.length r.body = none →
      ∃ u, exec (.pennosRequest .ethernet origin frame) s = .next u ∧ { u with host := s.host, ctr := s.ctr, out := s.out } = s ∧ u.host.queue = l
        ∧ counted s u (ck 0x1041 8) 1 ∧ u.out = s.out ++ [.frame 0 origin (pennosFrame true r.ver 4 (sessField r.sess) r.seq 0x0108 [])])
    ∧ (∀ s r l ops, s.boot.powered = true → s.host.queue = r :: l → r.car = 0 → parseOps r.body.length r.body = some ops →
      ∃ u, exec .dictRequestTimeout s = .next u ∧ { u with host := s.host, ctr := s.ctr, out := s.out } = s ∧ u.host.queue = l
        ∧ counted s u (ck 0x1040 3) 1
        ∧ u.out = s.out ++ [.frame 0 r.origin (pennosFrame true r.ver 4 (sessField r.sess) r.seq 0
          ((List.replicate ops.length (opAnswer 0x010E [])).flatMap id))])
    ∧ (∀ s, s.boot.powered = true → s.host.queue = [] → exec .dictRequestTimeout s = .next s)
    ∧ (∀ s, s.boot.powered = true → s.boot.mgmt = true →
      ∃ u, exec .mgmtWatchdogExpiry s = .next u ∧ u.host.queue = [] ∧ u.boot = { s.boot with mgmt := false }
        ∧ u.life = { s.life with mgmtResets := (s.life.mgmtResets + 1) % 2 ^ 32 } ∧ u.tiles = s.tiles ∧ u.jobs = s.jobs ∧ u.mem = s.mem)

/-- R395, R427, R433 to R442, R450: the operations of the dictionary on a known object, one that does not exist, one whose right or length is wrong; the
packets of the on-die dictionary to tiles and copy engines and their replies; a read of a link's fault record clears it. It reads the model's
conventions of log entries 75 and 79. -/
def Obligations.DictionaryOperations : Prop :=
  (∀ s, InService s → ∃ u, exec (.pennosRead 0 0x0100 5 8) s = .next u ∧ opAnswered s u 2 0 (leOfNat 8 (s.fuses.serial % 2 ^ 64)))
    ∧ (∀ s (len : U16), InService s → len ≠ 8 → ∃ u, exec (.pennosRead 0 0x0100 5 len) s = .next u ∧ opAnswered s u 2 0x0104 [])
    ∧ (∀ s (i : U16) sub len, InService s → i.toNat < 0x0100 → ∃ u, exec (.pennosRead 0 i sub len) s = .next u ∧ opAnswered s u 2 0x0101 [])
    ∧ (∀ s, InService s → ∃ u, exec (.pennosRead 0 0x0122 2 1) s = .next u ∧ opAnswered s u 2 0x0103 [])
    ∧ (∀ s (v : U32), Served s .smbus 0 → s.betweenJobs = true → s.life.frozen.contains (ck 0x4040 1) = false →
      ∃ u, exec (.pennosWrite 0 0x4040 1 (leOfNat 4 v.toNat)) s = .next u ∧ { u with pwr := s.pwr, out := s.out } = s
        ∧ u.pwr = { s.pwr with idleParkMs := v.toNat } ∧ u.out = s.out ++ [.answer 2 0 []])
    ∧ (∀ s v, Served s .smbus 0 → s.betweenJobs = false →
      ∃ u, exec (.pennosWrite 0 0x4040 1 v) s = .next u ∧ opAnswered s u 2 0x0106 [] ∧ counted s u (ck 0x1041 6) 1)
    ∧ (∀ s v, Served s .smbus 0 → ∃ u, exec (.pennosWrite 0 0x0100 5 v) s = .next u ∧ opAnswered s u 2 0x0103 [])
    ∧ (∀ s session q off (len : U16), InService s → session ≠ 0 → s.session session = some q → q.car = 0 → 1 ≤ q.version →
      ∃ u, exec (.readRange session 0xB000 1 off len) s = .next u ∧ opAnswered s u 0 0 (((s.objBytes 0xB000 0 1).drop off.toNat).take len.toNat))
    ∧ (∀ s session q off v, InService s → session ≠ 0 → s.session session = some q → q.car = 0 → q.version = 0 →
      ∃ u, exec (.writeRange session 0x0100 9 off v) s = .next u ∧ opAnswered s u 0 0x0111 [])
    ∧ (∀ s session q (off : U32) v, Served s .ethernet 0 → session ≠ 0 → s.session session = some q → q.car = 0 → 1 ≤ q.version →
      s.life.frozen.contains (ck 0x0100 9) = false → (overlay (s.objBytes 0x0100 0 9) off.toNat v).length ≤ 64 →
      utf8Ok (overlay (s.objBytes 0x0100 0 9) off.toNat v) = true →
      ∃ u, exec (.writeRange session 0x0100 9 off v) s = .next u ∧ { u with life := s.life, out := s.out } = s
        ∧ u.objBytes 0x0100 0 9 = overlay (s.objBytes 0x0100 0 9) off.toNat v ∧ u.out = s.out ++ [.answer 0 0 []])
    ∧ (∀ s session q (mask : U64), InService s → session ≠ 0 → s.session session = some q → q.car = 0 → 2 ≤ q.version →
      ∃ u, exec (.subscribe session mask) s = .next u ∧ { u with host := s.host, out := s.out } = s ∧ u.out = s.out ++ [.answer 0 0 []]
        ∧ u.session session = some { q with mask := mask.toNat })
    ∧ (∀ s session q, Served s .ethernet 0 → session ≠ 0 → s.session session = some q → q.car = 0 → q.version = 3 →
      ∃ u, exec (.commit session 0x0100 9) s = .next u ∧ { u with life := s.life, out := s.out } = s ∧ u.out = s.out ++ [.answer 0 0 []]
        ∧ u.life = { s.life with frozen := insNat (ck 0x0100 9) s.life.frozen } ∧ u.life.frozen.contains (ck 0x0100 9) = true)
    ∧ (∀ s (t : TileIx) (req : U16), s.grid.hasTile t.val = true →
      ∃ u, exec (.dictObjectRead t req (BitVec.ofNat 16 (0xD100 + t.val)) 1) s = .next u ∧ onlyHost s u
        ∧ u.host = { s.host with dictReplies := s.host.dictReplies ++ [(req.toNat, 0, leOfNat 2 (s.objNat 0xD100 t.val 1 % 2 ^ 16))] })
    ∧ (∀ s (t : TileIx) (req : U16) v, s.grid.hasTile t.val = true →
      ∃ u, exec (.dictObjectWrite t req (BitVec.ofNat 16 (0xD100 + t.val)) 1 v) s = .next u ∧ onlyHost s u
        ∧ u.host = { s.host with dictReplies := s.host.dictReplies ++ [(req.toNat, 0x0103, [])] })
    ∧ (∀ s (e : EngineIx) (req : U16) (addr : U64) (count : U16) a b, 1 ≤ count.toNat → count.toNat ≤ 4032 → addr.toNat < 2 ^ 48 →
      s.locate addr.toNat = some (e.val / 2, a) → s.locate (addr.toNat + count.toNat - 1) = some (e.val / 2, b) → s.stackUsable (e.val / 2) = true →
      ∃ u, exec (.dictMemoryRead e req addr count) s = .next u ∧ { u with ctr := s.ctr, host := s.host } = s
        ∧ u.host = { s.host with dictReplies := s.host.dictReplies ++ [(req.toNat, 0, s.memBytes addr.toNat count.toNat)] })
    ∧ (∀ s (e : EngineIx) (req : U16) (addr : U64) data a b, 1 ≤ data.length → data.length ≤ 4032 → addr.toNat < 2 ^ 48 →
      s.locate addr.toNat = some (e.val / 2, a) → s.locate (addr.toNat + data.length - 1) = some (e.val / 2, b) → s.stackUsable (e.val / 2) = true →
      ∃ u, exec (.dictMemoryWrite e req addr data) s = .next u ∧ { u with mem := s.mem, host := s.host } = s
        ∧ u.host = { s.host with dictReplies := s.host.dictReplies ++ [(req.toNat, 0, [])] } ∧ u.mem = (s.memWrite addr.toNat data false).mem)
    ∧ (∀ s (req : U16) st v l, s.host.dictReplies = (req.toNat, st, v) :: l →
      ∃ u, exec (.dictReply req) s = .next u ∧ { u with host := s.host, out := s.out } = s ∧ u.out = s.out ++ [.answer 4 st v]
        ∧ u.host = { s.host with dictReplies := l })
    ∧ ∀ s (l : LinkIx), InService s →
      ∃ u, exec (.linkFaultRead l) s = .next u ∧ { u with link := s.link, out := s.out } = s
        ∧ u.out = s.out ++ [.answer 4 0 (leOfNat 8 (s.linkSt l.val).fault)] ∧ (u.linkSt l.val).fault = 0
        ∧ ∀ k : LinkIx, k ≠ l → u.linkSt k.val = s.linkSt k.val

/-- R454, R455, R460 to R465: an attestation nonce, the report, a management update and the recovery image; each maintenance command passes the checks
of R465 in their order and then does its operation, which alone may change the field of the life record or the fuse that it names. It reads the
model's conventions of log entries 6, 7, 37, 38 and 43. -/
def Obligations.ProtectionCommands : Prop :=
  (∀ s car nonce, Served s car 3 → nonce.length = 32 →
      ∃ u, exec (.attestNonce car nonce) s = .next u ∧ { u with prot := s.prot, out := s.out } = s ∧ u.prot = { s.prot with attestNonce := nonce }
        ∧ answers s u car 0)
    ∧ (∀ s car nonce, Served s car 3 → nonce.length < 32 →
      ∃ u, exec (.attestNonce car nonce) s = .next u ∧ { u with ctr := s.ctr, out := s.out } = s ∧ answers s u car 0x0107)
    ∧ (∀ s, InService s → s.prot.attestNonce.length = 32 →
      ∃ u body, exec .attestReport s = .next u ∧ sent s u (.answer 4 0 (body ++ s.identitySign body)) ∧ body.take 32 = s.prot.attestNonce
        ∧ (body.drop 32).take 8 = leOfNat 8 s.fuses.serial ∧ (body.drop 40).take 8 = leOfNat 8 s.tally.now)
    ∧ (∀ s car, Served s car 2 → s.prot.mgmtUpdState ≠ 1 → s.prot.mgmtUpdState ≠ 2 →
      ∃ u, exec (.mgmtUpdateControl car 1) s = .next u
        ∧ { u with life := s.life, prot := s.prot, ctr := s.ctr, out := s.out } = s ∧ answers s u car 0
        ∧ (s.imageFault imgMgmt s.stagedImage = 0 → u.prot.mgmtUpdState = 3
          ∧ (s.boot.mgmtSlot = 0 → u.life.mgmtImages[1] = s.stagedImage ∧ u.life.mgmtImages[0] = s.life.mgmtImages[0])
          ∧ (s.boot.mgmtSlot ≠ 0 → u.life.mgmtImages[0] = s.stagedImage ∧ u.life.mgmtImages[1] = s.life.mgmtImages[1]))
        ∧ (s.imageFault imgMgmt s.stagedImage ≠ 0 → u.life = s.life ∧ u.prot.mgmtUpdState = 4
          ∧ u.prot.lastReject = s.imageFault imgMgmt s.stagedImage))
    ∧ (∀ s car off data, Served s car 2 →
      ∃ u, exec (.recoveryImage car off data) s = .next u ∧ sent s u (.answer (carNum car) 0x0101 []))
    ∧ (∀ s off data, s.listening = true → s.recovery = true → s.policyAllows .mailbox 2 = true → off + data.length ≤ 8388608 + 256 →
      ∃ u, exec (.recoveryImage .mailbox off data) s = .next u ∧ { u with prot := s.prot, out := s.out } = s
        ∧ u.prot = { s.prot with recovery := overlay s.prot.recovery off data } ∧ answers s u .mailbox 0)
    ∧ (∀ s car cmd, Served s car 3 → MaintForm cmd 1 → leAt (maintArgs cmd) 0 2 < s.life.defects.length → zerosAt (maintArgs cmd) 2 30 = true →
      ∃ u, exec (.maintRemoveDefect car cmd) s = .next u ∧ MaintAnswered s u car cmd ∧ u.fuses = s.fuses ∧ u.pwr = s.pwr
        ∧ (s.maintCheck cmd = 0 → u.life = { s.life with defects := s.life.defects.eraseIdx (leAt (maintArgs cmd) 0 2) }))
    ∧ (∀ s car cmd, Served s car 3 → MaintForm cmd 2 → s.life.overflowHeld &&& leAt (maintArgs cmd) 0 6 ≠ 0 → zerosAt (maintArgs cmd) 6 26 = true →
      ∃ u, exec (.maintClearOverflow car cmd) s = .next u ∧ MaintAnswered s u car cmd ∧ u.fuses = s.fuses ∧ u.pwr = s.pwr
        ∧ (s.maintCheck cmd = 0 → u.life.defects = s.life.defects ∧ ∀ z, u.life.overflowHeld.testBit z
          = (s.life.overflowHeld.testBit z && ! (leAt (maintArgs cmd) 0 6).testBit z)))
    ∧ (∀ s car cmd r, Served s car 3 → MaintForm cmd 3 → r ∈ s.life.retry → r.stage = leAt (maintArgs cmd) 0 1 → r.item = leAt (maintArgs cmd) 1 1 →
      r.unit = leAt (maintArgs cmd) 2 2 → zerosAt (maintArgs cmd) 4 28 = true →
      ∃ u, exec (.maintRemoveRetry car cmd) s = .next u ∧ MaintAnswered s u car cmd ∧ u.fuses = s.fuses ∧ u.pwr = s.pwr
        ∧ (s.maintCheck cmd = 0 → u.life.defects = s.life.defects
          ∧ ∀ q, q ∈ u.life.retry ↔ q ∈ s.life.retry ∧ ¬ (q.stage = r.stage ∧ q.item = r.item ∧ q.unit = r.unit)))
    ∧ (∀ s car cmd, Served s car 3 → MaintForm cmd 4 → ck (leAt (maintArgs cmd) 0 2) (leAt (maintArgs cmd) 2 1) ∈ s.life.frozen →
      zerosAt (maintArgs cmd) 3 29 = true →
      ∃ u, exec (.maintThaw car cmd) s = .next u ∧ MaintAnswered s u car cmd ∧ u.fuses = s.fuses ∧ u.pwr = s.pwr
        ∧ (s.maintCheck cmd = 0 → u.life = { s.life with
            frozen := s.life.frozen.filter (fun f => f != ck (leAt (maintArgs cmd) 0 2) (leAt (maintArgs cmd) 2 1)) }))
    ∧ (∀ s car cmd, Served s car 3 → MaintForm cmd 5 → s.fuses.rollback < leAt (maintArgs cmd) 0 1 → leAt (maintArgs cmd) 0 1 ≤ 64 →
      zerosAt (maintArgs cmd) 1 31 = true →
      ∃ u, exec (.maintAdvanceRollback car cmd true) s = .next u ∧ MaintAnswered s u car cmd ∧ u.life = s.life ∧ u.pwr = s.pwr
        ∧ (s.maintCheck cmd = 0 → u.fuses = { s.fuses with rollback := leAt (maintArgs cmd) 0 1 }))
    ∧ (∀ s car cmd, Served s car 3 → MaintForm cmd 6 → leAt (maintArgs cmd) 0 1 < 4 → leAt (maintArgs cmd) 0 1 ≠ imgField cmd 1 1 →
      (∃ q : Fin 4, q.val ≠ leAt (maintArgs cmd) 0 1 ∧ s.slotUsable q.val roleImage = true) → zerosAt (maintArgs cmd) 1 31 = true →
      ∃ u, exec (.maintRevokeKey car cmd true) s = .next u ∧ MaintAnswered s u car cmd ∧ u.life = s.life ∧ u.pwr = s.pwr
        ∧ (s.maintCheck cmd = 0 → u.fuses = { s.fuses with keyRevoked := u.fuses.keyRevoked } ∧ ∀ k, k < 4 →
          u.fuses.keyRevoked.getLsbD k = (s.fuses.keyRevoked.getLsbD k || decide (k = leAt (maintArgs cmd) 0 1))))
    ∧ (∀ s car cmd, Served s car 3 → MaintForm cmd 7 → s.fuses.debugLock < leAt (maintArgs cmd) 0 1 → leAt (maintArgs cmd) 0 1 ≤ 3 →
      zerosAt (maintArgs cmd) 1 31 = true →
      ∃ u, exec (.maintRaiseDebugLock car cmd true) s = .next u ∧ MaintAnswered s u car cmd ∧ u.life = s.life
        ∧ (s.maintCheck cmd = 0 → u.fuses = { s.fuses with debugLock := s.fuses.debugLock ||| leAt (maintArgs cmd) 0 1 } ∧ u.level = 0))

/-- R457, R466, R467: a challenge is issued with a nonce and answered by DBG_RESPONSE once; a valid response grants the level that DEBUG_LOCK allows,
any other counts as a failure, and after eight no challenge is issued; DBG_LOCK_NOW ends the grant; the debug port opens its session. It reads the
model's conventions of log entries 6, 7, 44, 49 and 81. -/
def Obligations.DebugUnlock : Prop :=
  (∀ s car (v : Byte), Served s car 3 → v = 1 ∨ v = 2 →
      ∃ u, exec (.dbgRequest car v) s = .next u ∧ { u with prot := s.prot, out := s.out } = s ∧ u.prot = { s.prot with dbgWanted := v.toNat }
        ∧ answers s u car 0)
    ∧ (∀ s car (v : Byte), Served s car 3 → v ≠ 1 → v ≠ 2 →
      ∃ u, exec (.dbgRequest car v) s = .next u ∧ { u with ctr := s.ctr, out := s.out } = s ∧ answers s u car 0x0107)
    ∧ (∀ s, InService s → s.prot.dbgFails < 8 →
      ∃ u c, exec .dbgChallenge s = .next u ∧ { u with prot := s.prot, draws := s.draws, out := s.out } = s ∧ u.draws = s.draws + 1
        ∧ u.prot = { s.prot with challenge := some c, challengeAt := s.tally.now } ∧ u.out = s.out ++ [.answer 4 0 c]
        ∧ c = (s.random 16).1 ++ leOfNat 8 s.fuses.serial ++ leOfNat 1 s.prot.dbgWanted ++ List.replicate 7 0)
    ∧ (∀ s, InService s → 8 ≤ s.prot.dbgFails → ∃ u, exec .dbgChallenge s = .next u ∧ sent s u (.answer 4 0x0C02 []))
    ∧ (∀ s car resp inTime, Served s car 3 → resp.length = 72 →
      ∃ u, exec (.dbgResponse car resp inTime) s = .next u ∧ { u with prot := s.prot, pwr := s.pwr, ctr := s.ctr, out := s.out } = s
        ∧ u.prot.challenge = none
        ∧ (s.unlockValid resp inTime = true → s.wantedLevel ≠ 0 → s.wantedLevel ≤ s.unlockCap →
          u.prot.dbgGranted = s.wantedLevel ∧ u.pwr.debugDom = true ∧ answers s u car 0)
        ∧ (s.unlockValid resp inTime = false → u.prot.dbgGranted = s.prot.dbgGranted ∧ u.prot.dbgFails = s.prot.dbgFails + 1 ∧ u.pwr = s.pwr
          ∧ u.counter (ck 0xB040 2) = satAdd (s.counter (ck 0xB040 2)) 1)
        ∧ (s.unlockCap < s.wantedLevel → u.prot.dbgGranted = s.prot.dbgGranted))
    ∧ (∀ (s : State) resp, s.prot.challenge = none → s.unlockValid resp true = false)
    ∧ (∀ (s : State) resp, s.unlockValid resp false = false)
    ∧ (∀ s car, Served s car 3 →
      ∃ u, exec (.dbgLockNow car) s = .next u ∧ { u with prot := s.prot, pwr := s.pwr, out := s.out } = s ∧ answers s u car 0
        ∧ u.prot = { s.prot with dbgGranted := 0, challenge := none } ∧ u.pwr = { s.pwr with debugDom := s.prot.dbgLevel != 0 })
    ∧ ∀ s, s.carrierOn .debug = true →
      ∃ u, exec .debugSessionOpen s = .next u ∧ onlyHost s u
        ∧ u.host = { s.host with sessions := s.host.sessions.filter (fun q => q.id != 65536) ++ [⟨65536, 3, 0, 3, 4096, none, [], 0, 0⟩] }

/-- R468 to R472: halts are armed for a running job and land when its cycle is reached; a halted job resumes or steps; a slot that does not run is
answered 0x0C06, one in the wrong state 0x0C04; breakpoints and watchpoints are set and cleared; a still tile is read and written, and memory at any
time. It reads the model's conventions of log entries 34, 61 and 81. -/
def Obligations.DebugCommands : Prop :=
  (∀ s j steps cyc ahead, DbgServed s 1 → 1 ≤ ahead → runsFree s j →
      ∃ u, exec (.haltAt j false steps cyc ahead) s = .next u ∧ HaltArmed s u j ⟨steps, cyc, 1, false⟩ ∧ u.jobs = s.jobs)
    ∧ (∀ s j all steps cyc, DbgServed s 1 → ∃ u, exec (.haltAt j all steps cyc 0) s = .next u ∧ dbgOnly s u 0x0C03 [])
    ∧ (∀ s j, DbgServed s 1 → (s.job j).running = false → ∃ u, exec (.haltNow j false) s = .next u ∧ dbgOnly s u 0x0C06 [])
    ∧ (∀ s j, DbgServed s 1 → runsHalted s j → ∃ u, exec (.haltNow j false) s = .next u ∧ dbgOnly s u 0x0C04 [])
    ∧ (∀ s j, DbgServed s 1 → runsFree s j →
      ∃ u, exec (.haltNow j false) s = .next u ∧ u.jobs = s.jobs
        ∧ HaltArmed s u j ⟨(s.job j).steps, s.rootCycle j + (s.job j).haltDist, 2, (s.job j).phase != .step⟩)
    ∧ (∀ s (j : SlotIx) h, runsFree s j → s.prot.halts[j] = some h → h.cause < 256 → s.haltInStep j = true → s.stepPending j = false →
      ∃ u, exec (.jobHalt j) s = .next u ∧ (u.job j).halted = true ∧ u.prot.halts[j] = none ∧ u.prot.haltAt[j] = some h.cyc
        ∧ u.prot.dbgHalt.toNat = h.cyc % 2 ^ 32 * 2 ^ 32 + h.cause * 2 ^ 24 + j.val * 2 ^ 21 + min 3 (s.job j).reruns * 2 ^ 19)
    ∧ (∀ s (j : SlotIx), s.prot.halts[j] = none → exec (.jobHalt j) s = .next s)
    ∧ (∀ s j, DbgServed s 1 → runsHalted s j →
      ∃ u, exec (.resume j false) s = .next u ∧ { u with prot := s.prot, tiles := s.tiles, host := s.host, jobs := s.jobs } = s
        ∧ u.job j = { s.job j with halted := false } ∧ onlyJob s u j ∧ u.prot.haltAt[j] = none ∧ u.prot.dbgReply = [0, 0])
    ∧ (∀ s j, DbgServed s 1 → runsFree s j → ∃ u, exec (.resume j false) s = .next u ∧ dbgOnly s u 0x0C04 [])
    ∧ (∀ s j n, DbgServed s 1 → runsHalted s j → 1 ≤ n → n ≤ 2 ^ 20 →
      ∃ u, exec (.stepCy j false n) s = .next u ∧ u.job j = { s.job j with halted := false } ∧ onlyJob s u j
        ∧ HaltArmed s u j ⟨(s.job j).steps, s.haltedCy j + n, 5, (s.job j).phase != .step⟩)
    ∧ (∀ s j (i : CoreAt), DbgServed s 1 → runsHalted s j → s.grid.hasTile i.tile.val = true →
      ∃ u, exec (.stepInsn j i) s = .next u ∧ u.job j = { s.job j with halted := false } ∧ onlyJob s u j
        ∧ HaltArmed s u j ⟨(s.job j).steps, s.haltedCy j + 1, 5, (s.job j).phase != .step⟩
        ∧ u.prot.stepCore[j] = some (4 * i.tile.val + i.core.val, (s.coreAt i).now))
    ∧ (∀ s (i : CoreAt) (n : Fin 4) pc e, DbgServed s 1 → s.Inv → s.grid.hasTile i.tile.val = true →
      ∃ u, exec (.bpSet i n pc e) s = .next u ∧ { u with tiles := s.tiles, host := s.host, prot := s.prot } = s
        ∧ u.coreAt i = { s.coreAt i with bps := (s.coreAt i).bps.set n ⟨pc, e⟩ } ∧ (∀ T, T ≠ i.tile.val → u.tile T = s.tile T)
        ∧ u.prot = { s.prot with dbgReply := [0, 0] })
    ∧ (∀ s (t : TileIx) (n : Fin 2) p len kind agents e, DbgServed s 1 → s.Inv → s.grid.hasTile t.val = true → 1 ≤ len → len ≤ 2 ^ 22 → p < 2 ^ 22 →
      kind ≠ 3 →
      ∃ u, exec (.wpSet t n p len kind agents e) s = .next u ∧ { u with tiles := s.tiles, host := s.host, prot := s.prot } = s
        ∧ u.tile t.val = { s.tile t.val with wps := (s.tile t.val).wps.set n ⟨p, len, kind, agents, e⟩ }
        ∧ (∀ T, T ≠ t.val → u.tile T = s.tile T) ∧ u.prot = { s.prot with dbgReply := [0, 0] })
    ∧ (∀ s, DbgServed s 1 → s.Inv →
      ∃ u, exec .clearPoints s = .next u ∧ { u with tiles := s.tiles, prot := s.prot } = s ∧ u.prot = { s.prot with dbgReply := [0, 0] }
        ∧ ∀ T, s.grid.hasTile T = true → (∀ n : Fin 2, ((u.tile T).wps[n]).enable = false)
          ∧ ∀ (c : CoreIx) (n : Fin 4), ((((u.tile T).core c).bps)[n]).enable = false)
    ∧ (∀ s j (i : CoreAt) (r : Reg), DbgServed s 1 → StillTile s i.tile →
      ∃ u, exec (.readCore j i 1 (BitVec.ofNat 12 r.val)) s = .next u ∧ dbgOnly s u 0 (leOfNat 8 ((s.coreAt i).s[r]).toNat))
    ∧ (∀ s j (i : CoreAt), DbgServed s 1 → StillTile s i.tile → ∃ u, exec (.readCore j i 0 0) s = .next u ∧ dbgOnly s u 0 (leOfNat 8 (s.coreAt i).pc))
    ∧ (∀ s j (i : CoreAt) c n, DbgServed s 1 → s.grid.hasTile i.tile.val = true → s.dbgStill i.tile.val = false →
      ∃ u, exec (.readCore j i c n) s = .next u ∧ dbgOnly s u 0x0C04 [])
    ∧ (∀ s j (i : CoreAt) (r : Reg) (v : V512), DbgServed s 2 → StillTile s i.tile →
      ∃ u, exec (.writeCore j i 1 (BitVec.ofNat 12 r.val) v) s = .next u ∧ DbgWrote s u i.tile j
        ∧ u.coreAt i = (s.coreAt i).setS r (v.setWidth 64))
    ∧ (∀ s j (i : CoreAt) (r : VReg) (v : V512), DbgServed s 2 → StillTile s i.tile →
      ∃ u, exec (.writeCore j i 2 (BitVec.ofNat 12 r.val) v) s = .next u ∧ DbgWrote s u i.tile j
        ∧ u.coreAt i = { s.coreAt i with v := (s.coreAt i).v.set r v })
    ∧ (∀ s j (t : TileIx) p len, DbgServed s 1 → StillTile s t → len ≤ 4032 → p + len ≤ 2 ^ 22 →
      ∃ u, exec (.readSp j t p len) s = .next u ∧ dbgOnly s u 0 ((s.tile t.val).sp.readBytes p len))
    ∧ (∀ s j (t : TileIx) p data, DbgServed s 2 → StillTile s t → (s.tile t.val).sp.wf = true → data.length ≤ 4032 → p + data.length ≤ 2 ^ 22 →
      ∃ u, exec (.writeSp j t p data) s = .next u ∧ DbgWrote s u t j ∧ (u.tile t.val).sp.wf = true
        ∧ (u.tile t.val).sp.readBytes p data.length = data
        ∧ (∀ q, q < p ∨ p + data.length ≤ q → (u.tile t.val).sp.read q = (s.tile t.val).sp.read q)
        ∧ (u.tile t.val).cores = (s.tile t.val).cores)
    ∧ (∀ s addr len, DbgServed s 1 → len ≤ 4032 → addr + len ≤ s.memCapacity →
      ∃ u, exec (.readMem addr len) s = .next u ∧ dbgOnly s u 0 (s.memBytes addr len))
    ∧ (∀ s addr len, DbgServed s 1 → s.memCapacity < addr + len → ∃ u, exec (.readMem addr len) s = .next u ∧ dbgOnly s u 0x0C05 [])
    ∧ (∀ s j addr data, DbgServed s 2 → data.length ≤ 4032 → addr + data.length ≤ s.memCapacity →
      ∃ u, exec (.writeMem j addr data) s = .next u ∧ { u with mem := s.mem, prot := s.prot, host := s.host } = s
        ∧ u.mem = (s.memWrite addr data false).mem ∧ u.prot.dbgReply = [0, 0])
    ∧ ∀ s j (t : TileIx) (b : Fin 2) (r : Fin 32), DbgServed s 1 → StillTile s t →
      ∃ u data, exec (.readFrame j t b r) s = .next u ∧ dbgOnly s u 0 data
        ∧ data = (SMap.get AccRow.zero ((s.tile t.val).frame.banks[b]).rows r.val).flatMap
          (accRecord (s.tile t.val).residue (SMap.get 0 ((s.tile t.val).frame.banks[b]).cnt r.val))

/-- R466, R484: each JTAG instruction is selected and shifts out its register; those that need the observe level select BYPASS without it; TRST selects
IDCODE. It reads the model's conventions of log entries 45 and 51. -/
def Obligations.JtagInstructions : Prop :=
  (∀ s : State, s.boot.powered = true → ∃ u, exec .bypass s = .next u ∧ jtagDid s u 0xFF 0)
    ∧ (∀ s : State, s.boot.powered = true →
      ∃ u v, exec .idcode s = .next u ∧ jtagDid s u 0x01 v ∧ v % 2 = 1 ∧ v / 2 ^ 28 = s.fuses.stepping % 16)
    ∧ (∀ (s : State) value, s.boot.powered = true →
      ∃ u v, exec (.samplePreload value) s = .next u ∧ { u with out := s.out, prot := s.prot, draws := s.draws } = s
        ∧ u.prot = { s.prot with ir := 0x02, boundary := value } ∧ u.out = s.out ++ [.jtag 0x02 v])
    ∧ (∀ s : State, DbgServed s 1 → ∃ u, exec .extest s = .next u ∧ jtagDid s u 0x03 s.prot.boundary)
    ∧ (∀ s : State, DbgServed s 1 → ∃ u, exec .clamp s = .next u ∧ jtagDid s u 0x04 0)
    ∧ (∀ s : State, DbgServed s 1 → ∃ u, exec .highz s = .next u ∧ jtagDid s u 0x05 0)
    ∧ (∀ (s : State) frame, DbgServed s 1 → s.carrierOn .debug = true → s.boot.mgmt = true → parseFrame 3 frame = none →
      ∃ u, exec (.dbgframe frame) s = .next u ∧ { u with out := s.out, prot := s.prot, host := s.host, ctr := s.ctr } = s
        ∧ u.prot = { s.prot with ir := 0x10 } ∧ counted s u (ck 0x1041 8) 1
        ∧ u.out = s.out ++ [.jtag 0x10 0, .frame 3 1 (pennosFrame true 0 4 0 0 0x0108 [])]
        ∧ (u.session 65536).isSome = true)
    ∧ (∀ (s : State) frame, s.boot.powered = true → s.level = 0 →
      (∃ u, exec .extest s = .next u ∧ jtagDid s u 0xFF 0) ∧ (∃ u, exec .clamp s = .next u ∧ jtagDid s u 0xFF 0)
        ∧ (∃ u, exec .highz s = .next u ∧ jtagDid s u 0xFF 0) ∧ ∃ u, exec (.dbgframe frame) s = .next u ∧ jtagDid s u 0xFF 0)
    ∧ ∀ s : State, s.boot.powered = true → ∃ u, exec .trstAssert s = .next u ∧ u = { s with prot := { s.prot with ir := 0x01 } }

/-- R370, R371, R431, R456, R457, R472: every management write and every debug command stands behind its gates. -/
def Obligations.WritesAndDebugAreGated : Prop :=
  (GatedWrite 0 false .warmRestart ∧ GatedWrite 0 false .tripRestart ∧ GatedWrite 0 false .tallyResync
    ∧ (∀ v, GatedWrite 0 false (.shimmerEnable · v)) ∧ (∀ v, GatedWrite 0 false (.shimmerOffset · v)) ∧ (∀ v, GatedWrite 0 true (.tallyEpochNext · v))
    ∧ (∀ v, GatedWrite 0 true (.tallyOrigin · v)) ∧ (∀ m, GatedWrite 0 false (.parkRequest · m)) ∧ (∀ m, GatedWrite 0 false (.powerOffRequest · m))
    ∧ (∀ m, GatedWrite 0 false (.unparkRequest · m)) ∧ (∀ v, GatedWrite 0 false (.tokenPoolW · v))
    ∧ (∀ z, GatedWrite 0 false (.selftestFrameLogic · z)) ∧ (∀ z, GatedWrite 0 false (.selftestCoreLogic · z))
    ∧ (∀ z, GatedWrite 0 false (.selftestRouterMesh · z)) ∧ (∀ z, GatedWrite 0 false (.selftestScratchpadMarch · z))
    ∧ (∀ z, GatedWrite 0 false (.selftestSensorCalibration · z)) ∧ (∀ z, GatedWrite 0 false (.selftestModuleLanes · z)))
  ∧ (∀ j, GatedWrite 1 false (.jobLoad j) ∧ GatedWrite 1 false (.jobStart j) ∧ GatedWrite 1 false (.jobReplayStart j) ∧ GatedWrite 1 false (.jobStop j)
    ∧ GatedWrite 1 false (.jobKill j) ∧ (∀ a b c, GatedWrite 1 false (.jobClear j · a b c)) ∧ (∀ i k v, GatedWrite 1 false (.fenceEventWrite j · i k v))
    ∧ (∀ v, GatedWrite 1 false (.digestSnapshot j · v)) ∧ (∀ g v, GatedWrite 1 false (.groupEta j · g v)) ∧ (∀ g v, GatedWrite 1 false (.groupFrozen j · g v)))
  ∧ ((∀ v, GatedWrite 2 false (.fwUpdateControl · v)) ∧ (∀ v, GatedWrite 2 false (.mgmtUpdateControl · v))
    ∧ (∀ o d, GatedWrite 2 false (.recoveryImage · o d)))
  ∧ ((∀ n, GatedWrite 3 false (.attestNonce · n)) ∧ (∀ v, GatedWrite 3 false (.dbgRequest · v)) ∧ (∀ r t, GatedWrite 3 false (.dbgResponse · r t))
    ∧ GatedWrite 3 false .dbgLockNow
    ∧ (∀ c, imgField c 0 1 = 1 → GatedWrite 3 false (.maintRemoveDefect · c)) ∧ (∀ c, imgField c 0 1 = 2 → GatedWrite 3 false (.maintClearOverflow · c))
    ∧ (∀ c, imgField c 0 1 = 3 → GatedWrite 3 false (.maintRemoveRetry · c)) ∧ (∀ c, imgField c 0 1 = 4 → GatedWrite 3 false (.maintThaw · c))
    ∧ (∀ c b, imgField c 0 1 = 5 → GatedWrite 3 false (.maintAdvanceRollback · c b)) ∧ (∀ c b, imgField c 0 1 = 6 → GatedWrite 3 false (.maintRevokeKey · c b))
    ∧ (∀ c b, imgField c 0 1 = 7 → GatedWrite 3 false (.maintRaiseDebugLock · c b)))
  ∧ ((∀ j all a b c, GatedDebug 1 (.haltAt j all a b c)) ∧ (∀ j all, GatedDebug 1 (.haltNow j all)) ∧ (∀ j all, GatedDebug 1 (.resume j all))
    ∧ (∀ j all n, GatedDebug 1 (.stepCy j all n)) ∧ (∀ j i, GatedDebug 1 (.stepInsn j i)) ∧ (∀ i n pc e, GatedDebug 1 (.bpSet i n pc e))
    ∧ (∀ t n p l k a e, GatedDebug 1 (.wpSet t n p l k a e)) ∧ (∀ j i c n, GatedDebug 1 (.readCore j i c n)) ∧ (∀ j t p l, GatedDebug 1 (.readSp j t p l))
    ∧ (∀ a l, GatedDebug 1 (.readMem a l)) ∧ (∀ j t b r, GatedDebug 1 (.readFrame j t b r)) ∧ GatedDebug 1 .clearPoints
    ∧ (∀ j i c n v, GatedDebug 2 (.writeCore j i c n v)) ∧ (∀ j t p d, GatedDebug 2 (.writeSp j t p d)) ∧ (∀ j a d, GatedDebug 2 (.writeMem j a d)))

/-- No command is refused, and none faults in a device of all 30 logical rows; a fault is the command of a tile that the grid does not have (R22, R29).
It reads the model's conventions of log entry 9. -/
def Obligations.CommandsComplete : Prop :=
  (∀ c s r, exec c s ≠ .refused r) ∧ (∀ c s, 30 ≤ s.grid.logicalRows → ∃ u, exec c s = .next u)
    ∧ ∀ c s f, exec c s = .fault f → f = .noSuchTile ∧ ∃ t : TileIx, s.grid.hasTile t.val = false

/-- The machine right after reset, before VIN12 (R1, R238, R409, R414, R418, R466): no power, no job, no tile, no counter and no event; the mailboxes
free, every event not delivered, every vector masked, the JTAG port at IDCODE; and the canonical forms that the other claims read hold of it. It
reads the model's conventions of log entries 13 and 53. -/
def Obligations.ResetState : Prop :=
  State.reset.boot.powered = false ∧ (∀ j, (State.reset.job j).state = jsEmpty) ∧ State.reset.tiles = [] ∧ State.reset.ctr = [] ∧ State.reset.events = []
    ∧ State.reset.out = [] ∧ State.reset.pending = [] ∧ (∀ n : Fin 16, (State.reset.host.mbx[n]).state = 0) ∧ (∀ kind, State.reset.evRouteOf kind = 15)
    ∧ (∀ v, v < 64 → State.reset.msixMasked v = true) ∧ State.reset.prot.ir = 0x01 ∧ State.reset.host.sessions = [] ∧ State.reset.host.queue = []
    ∧ State.reset.Inv ∧ State.reset.SpInv ∧ State.reset.fuses.legal

/-- The canonical form of device memory and of the tiles, which the claims about single commands assume, is kept by every step. It reads the model's
conventions of log entry 2. -/
def Obligations.CanonicalFormIsKept : Prop :=
  ∀ s u, s.Inv → step s = .next u → u.Inv

/-- Every step keeps the canonical form of the scratchpads. It reads the model's conventions of log entry 2. -/
def Obligations.ScratchpadsStayCanonical : Prop :=
  ∀ s u, s.Inv → s.SpInv → step s = .next u → u.SpInv

/-- R453, R454, R457, R460: in every step fuses only grow and stay legal; a command leaves the queue behind it as it was. It reads the model's
conventions of log entry 43. -/
def Obligations.FusesOnlyGrow : Prop :=
  (∀ s u, s.fuses.legal → step s = .next u → FusesGrow s.fuses u.fuses ∧ u.fuses.legal) ∧ ∀ c s u, exec c s = .next u → u.pending = s.pending
end

