-- ==== Sys2Proof/Laws/SMap.lean ====
section
/-! SUPPORT. Sparse maps and byte memory: what a read after a write gives, and that every operation keeps the canonical form. -/

namespace Sys2Proof.Machine

@[simp] theorem SMap.get_nil {α : Type} (d : α) (k : Nat) : SMap.get d [] k = d := rfl

theorem SMap.get_ins_same {α : Type} (d : α) (m : SMap α) (k : Nat) (v : α) : SMap.get d (SMap.ins k v m) k = v := by
  induction m with
  | nil => simp [SMap.ins, SMap.get]
  | cons e m ih =>
    obtain ⟨a, w⟩ := e
    simp only [SMap.ins]
    split
    · simp [SMap.get]
    · split
      · simp [SMap.get]
      · rename_i h; simp [SMap.get, h, ih]

theorem SMap.get_ins_ne {α : Type} (d : α) (m : SMap α) {k j : Nat} (v : α) (h : j ≠ k) :
    SMap.get d (SMap.ins k v m) j = SMap.get d m j := by
  induction m with
  | nil => simp [SMap.ins, SMap.get, h]
  | cons e m ih =>
    obtain ⟨a, w⟩ := e
    simp only [SMap.ins]
    split
    · simp [SMap.get, h]
    · split
      · rename_i h2; subst h2; simp [SMap.get, h]
      · simp [SMap.get, ih]

theorem SMap.get_del_ne {α : Type} (d : α) (m : SMap α) {k j : Nat} (h : j ≠ k) :
    SMap.get d (SMap.del k m) j = SMap.get d m j := by
  induction m with
  | nil => rfl
  | cons e m ih =>
    obtain ⟨a, w⟩ := e
    simp only [SMap.del]
    split
    · rename_i h2; subst h2; simp [SMap.get, h]
    · simp [SMap.get, ih]

/-- A key below every listed key reads as the default. -/
theorem SMap.get_below {α : Type} [DecidableEq α] (d : α) (m : SMap α) (lo k : Nat) (hm : SMap.wfFrom d lo m = true) (h : k < lo) :
    SMap.get d m k = d := by
  induction m generalizing lo with
  | nil => rfl
  | cons e m ih =>
    obtain ⟨a, w⟩ := e
    simp only [SMap.wfFrom, Bool.and_eq_true, decide_eq_true_eq] at hm
    have : k ≠ a := by omega
    simp [SMap.get, this, ih (a + 1) hm.2 (by omega)]

theorem SMap.get_del_same {α : Type} [DecidableEq α] (d : α) (m : SMap α) (k lo : Nat) (hm : SMap.wfFrom d lo m = true) :
    SMap.get d (SMap.del k m) k = d := by
  induction m generalizing lo with
  | nil => rfl
  | cons e m ih =>
    obtain ⟨a, w⟩ := e
    simp only [SMap.wfFrom, Bool.and_eq_true, decide_eq_true_eq] at hm
    simp only [SMap.del]
    split
    · rename_i h; exact SMap.get_below d m (a + 1) k hm.2 (by omega)
    · rename_i h; simp [SMap.get, h, ih (a + 1) hm.2]

/-- A read after a write to the same key. -/
theorem SMap.get_put_same {α : Type} [DecidableEq α] (d : α) (m : SMap α) (k : Nat) (v : α) (hm : SMap.wf d m = true) :
    SMap.get d (SMap.put d m k v) k = v := by
  unfold SMap.put
  split
  · rename_i h; subst h; exact SMap.get_del_same v m k 0 hm
  · exact SMap.get_ins_same d m k v

/-- A write leaves every other key alone. -/
theorem SMap.get_put_ne {α : Type} [DecidableEq α] (d : α) (m : SMap α) {k j : Nat} (v : α) (h : j ≠ k) :
    SMap.get d (SMap.put d m k v) j = SMap.get d m j := by
  unfold SMap.put
  split
  · exact SMap.get_del_ne d m h
  · exact SMap.get_ins_ne d m v h

theorem SMap.wfFrom_ins {α : Type} [DecidableEq α] (d : α) (m : SMap α) (lo k : Nat) (v : α) (hv : v ≠ d) (hk : lo ≤ k)
    (hm : SMap.wfFrom d lo m = true) : SMap.wfFrom d lo (SMap.ins k v m) = true := by
  induction m generalizing lo with
  | nil => simp [SMap.ins, SMap.wfFrom, hv, hk]
  | cons e m ih =>
    obtain ⟨a, w⟩ := e
    simp only [SMap.wfFrom, Bool.and_eq_true, decide_eq_true_eq, Bool.not_eq_true', decide_eq_false_iff_not] at hm
    simp only [SMap.ins]
    split
    · simp [SMap.wfFrom, hv, hk, hm.1.2, hm.2]; omega
    · split
      · rename_i h2; subst h2; simp [SMap.wfFrom, hv, hk, hm.2]
      · simp only [SMap.wfFrom, Bool.and_eq_true, decide_eq_true_eq, Bool.not_eq_true', decide_eq_false_iff_not]
        exact ⟨⟨hm.1.1, hm.1.2⟩, ih (a + 1) (by omega) hm.2⟩

theorem SMap.wfFrom_mono {α : Type} [DecidableEq α] (d : α) (m : SMap α) {lo hi : Nat} (h : lo ≤ hi) (hm : SMap.wfFrom d hi m = true) :
    SMap.wfFrom d lo m = true := by
  cases m with
  | nil => rfl
  | cons e m =>
    obtain ⟨a, w⟩ := e
    simp only [SMap.wfFrom, Bool.and_eq_true, decide_eq_true_eq] at hm ⊢
    exact ⟨⟨by omega, hm.1.2⟩, hm.2⟩

theorem SMap.wfFrom_del {α : Type} [DecidableEq α] (d : α) (m : SMap α) (lo k : Nat) (hm : SMap.wfFrom d lo m = true) :
    SMap.wfFrom d lo (SMap.del k m) = true := by
  induction m generalizing lo with
  | nil => rfl
  | cons e m ih =>
    obtain ⟨a, w⟩ := e
    simp only [SMap.wfFrom, Bool.and_eq_true, decide_eq_true_eq] at hm
    simp only [SMap.del]
    split
    · exact SMap.wfFrom_mono d m (by omega) hm.2
    · simp only [SMap.wfFrom, Bool.and_eq_true, decide_eq_true_eq]
      exact ⟨hm.1, ih (a + 1) hm.2⟩

/-- Every write keeps the canonical form. -/
theorem SMap.wf_put {α : Type} [DecidableEq α] (d : α) (m : SMap α) (k : Nat) (v : α) (hm : SMap.wf d m = true) :
    SMap.wf d (SMap.put d m k v) = true := by
  unfold SMap.put
  split
  · exact SMap.wfFrom_del d m 0 k hm
  · rename_i h; exact SMap.wfFrom_ins d m 0 k v h (by omega) hm

@[simp] theorem SMap.wf_nil {α : Type} [DecidableEq α] (d : α) : SMap.wf d [] = true := rfl

/-! ## Byte memory -/

@[simp] theorem Mem.wf_nil : Mem.wf [] = true := rfl

theorem Mem.wf_write (m : Mem) (a : Nat) (b : Byte) (h : m.wf = true) : (m.write a b).wf = true := SMap.wf_put memDefault m a b h

theorem Mem.wf_writeBytes (m : Mem) (a : Nat) (bs : List Byte) (h : m.wf = true) : (m.writeBytes a bs).wf = true := by
  induction bs generalizing m a with
  | nil => exact h
  | cons b bs ih => exact ih (m.write a b) (a + 1) (Mem.wf_write m a b h)

theorem Mem.read_write_same (m : Mem) (a : Nat) (b : Byte) (h : m.wf = true) : (m.write a b).read a = b :=
  SMap.get_put_same memDefault m a b h

theorem Mem.read_write_ne (m : Mem) {a c : Nat} (b : Byte) (h : c ≠ a) : (m.write a b).read c = m.read c :=
  SMap.get_put_ne memDefault m b h

theorem Mem.read_writeBytes_out (m : Mem) (a c : Nat) (bs : List Byte) (h : c < a ∨ a + bs.length ≤ c) :
    (m.writeBytes a bs).read c = m.read c := by
  induction bs generalizing m a with
  | nil => rfl
  | cons b bs ih =>
    simp only [List.length_cons] at h
    simp only [Mem.writeBytes]
    rw [ih (m.write a b) (a + 1) (by omega), Mem.read_write_ne m b (by omega)]

theorem Mem.read_writeBytes_in (m : Mem) (a i : Nat) (bs : List Byte) (h : m.wf = true) (hi : i < bs.length) :
    (m.writeBytes a bs).read (a + i) = bs[i] := by
  induction bs generalizing m a i with
  | nil => simp at hi
  | cons b bs ih =>
    simp only [Mem.writeBytes]
    cases i with
    | zero =>
      rw [Mem.read_writeBytes_out _ _ _ _ (by omega)]
      simpa using Mem.read_write_same m a b h
    | succ j =>
      have := ih (m.write a b) (a + 1) j (Mem.wf_write m a b h) (by simpa using hi)
      rw [show a + (j + 1) = a + 1 + j by omega, this]
      simp

@[simp] theorem Mem.length_readBytes (m : Mem) (a n : Nat) : (m.readBytes a n).length = n := by
  induction n generalizing a with
  | zero => rfl
  | succ n ih => simp [Mem.readBytes, ih]

theorem Mem.readBytes_congr (m k : Mem) (a n : Nat) (h : ∀ i, i < n → m.read (a + i) = k.read (a + i)) : m.readBytes a n = k.readBytes a n := by
  induction n generalizing a with
  | zero => rfl
  | succ n ih =>
    simp only [Mem.readBytes]
    have h0 := h 0 (by omega)
    simp only [Nat.add_zero] at h0
    rw [h0, ih (a + 1) (fun i hi => by have := h (i + 1) (by omega); rwa [show a + (i + 1) = a + 1 + i by omega] at this)]

/-- Reading back the bytes just written. -/
theorem Mem.readBytes_writeBytes (m : Mem) (a : Nat) (bs : List Byte) (h : m.wf = true) : (m.writeBytes a bs).readBytes a bs.length = bs := by
  induction bs generalizing m a with
  | nil => rfl
  | cons b bs ih =>
    simp only [List.length_cons, Mem.readBytes, Mem.writeBytes]
    rw [ih (m.write a b) (a + 1) (Mem.wf_write m a b h), Mem.read_writeBytes_out _ _ _ _ (by omega), Mem.read_write_same m a b h]

end Sys2Proof.Machine
end

