-- ==== Sys2Proof/Laws/State.lean ====
section
/-! SUPPORT. What each update of the state leaves in each field: one lemma per field per update, true by unfolding, so that no later proof
unfolds a record update. -/

namespace Sys2Proof.Machine

/-! ## updHost -/

@[simp] theorem State.updHost_pending (s : State) (f : HostSt → HostSt) : (s.updHost f).pending = s.pending := rfl
@[simp] theorem State.updHost_fuses (s : State) (f : HostSt → HostSt) : (s.updHost f).fuses = s.fuses := rfl
@[simp] theorem State.updHost_life (s : State) (f : HostSt → HostSt) : (s.updHost f).life = s.life := rfl
@[simp] theorem State.updHost_boot (s : State) (f : HostSt → HostSt) : (s.updHost f).boot = s.boot := rfl
@[simp] theorem State.updHost_grid (s : State) (f : HostSt → HostSt) : (s.updHost f).grid = s.grid := rfl
@[simp] theorem State.updHost_tiles (s : State) (f : HostSt → HostSt) : (s.updHost f).tiles = s.tiles := rfl
@[simp] theorem State.updHost_mem (s : State) (f : HostSt → HostSt) : (s.updHost f).mem = s.mem := rfl
@[simp] theorem State.updHost_jobs (s : State) (f : HostSt → HostSt) : (s.updHost f).jobs = s.jobs := rfl
@[simp] theorem State.updHost_check (s : State) (f : HostSt → HostSt) : (s.updHost f).check = s.check := rfl
@[simp] theorem State.updHost_clk (s : State) (f : HostSt → HostSt) : (s.updHost f).clk = s.clk := rfl
@[simp] theorem State.updHost_tally (s : State) (f : HostSt → HostSt) : (s.updHost f).tally = s.tally := rfl
@[simp] theorem State.updHost_pwr (s : State) (f : HostSt → HostSt) : (s.updHost f).pwr = s.pwr := rfl
@[simp] theorem State.updHost_link (s : State) (f : HostSt → HostSt) : (s.updHost f).link = s.link := rfl
@[simp] theorem State.updHost_host (s : State) (f : HostSt → HostSt) : (s.updHost f).host = f s.host := rfl
@[simp] theorem State.updHost_prot (s : State) (f : HostSt → HostSt) : (s.updHost f).prot = s.prot := rfl
@[simp] theorem State.updHost_ctr (s : State) (f : HostSt → HostSt) : (s.updHost f).ctr = s.ctr := rfl
@[simp] theorem State.updHost_tctr (s : State) (f : HostSt → HostSt) : (s.updHost f).tctr = s.tctr := rfl
@[simp] theorem State.updHost_events (s : State) (f : HostSt → HostSt) : (s.updHost f).events = s.events := rfl
@[simp] theorem State.updHost_out (s : State) (f : HostSt → HostSt) : (s.updHost f).out = s.out := rfl
@[simp] theorem State.updHost_draws (s : State) (f : HostSt → HostSt) : (s.updHost f).draws = s.draws := rfl

/-! ## updBoot -/

@[simp] theorem State.updBoot_pending (s : State) (f : BootSt → BootSt) : (s.updBoot f).pending = s.pending := rfl
@[simp] theorem State.updBoot_fuses (s : State) (f : BootSt → BootSt) : (s.updBoot f).fuses = s.fuses := rfl
@[simp] theorem State.updBoot_life (s : State) (f : BootSt → BootSt) : (s.updBoot f).life = s.life := rfl
@[simp] theorem State.updBoot_boot (s : State) (f : BootSt → BootSt) : (s.updBoot f).boot = f s.boot := rfl
@[simp] theorem State.updBoot_grid (s : State) (f : BootSt → BootSt) : (s.updBoot f).grid = s.grid := rfl
@[simp] theorem State.updBoot_tiles (s : State) (f : BootSt → BootSt) : (s.updBoot f).tiles = s.tiles := rfl
@[simp] theorem State.updBoot_mem (s : State) (f : BootSt → BootSt) : (s.updBoot f).mem = s.mem := rfl
@[simp] theorem State.updBoot_jobs (s : State) (f : BootSt → BootSt) : (s.updBoot f).jobs = s.jobs := rfl
@[simp] theorem State.updBoot_check (s : State) (f : BootSt → BootSt) : (s.updBoot f).check = s.check := rfl
@[simp] theorem State.updBoot_clk (s : State) (f : BootSt → BootSt) : (s.updBoot f).clk = s.clk := rfl
@[simp] theorem State.updBoot_tally (s : State) (f : BootSt → BootSt) : (s.updBoot f).tally = s.tally := rfl
@[simp] theorem State.updBoot_pwr (s : State) (f : BootSt → BootSt) : (s.updBoot f).pwr = s.pwr := rfl
@[simp] theorem State.updBoot_link (s : State) (f : BootSt → BootSt) : (s.updBoot f).link = s.link := rfl
@[simp] theorem State.updBoot_host (s : State) (f : BootSt → BootSt) : (s.updBoot f).host = s.host := rfl
@[simp] theorem State.updBoot_prot (s : State) (f : BootSt → BootSt) : (s.updBoot f).prot = s.prot := rfl
@[simp] theorem State.updBoot_ctr (s : State) (f : BootSt → BootSt) : (s.updBoot f).ctr = s.ctr := rfl
@[simp] theorem State.updBoot_tctr (s : State) (f : BootSt → BootSt) : (s.updBoot f).tctr = s.tctr := rfl
@[simp] theorem State.updBoot_events (s : State) (f : BootSt → BootSt) : (s.updBoot f).events = s.events := rfl
@[simp] theorem State.updBoot_out (s : State) (f : BootSt → BootSt) : (s.updBoot f).out = s.out := rfl
@[simp] theorem State.updBoot_draws (s : State) (f : BootSt → BootSt) : (s.updBoot f).draws = s.draws := rfl

/-! ## updClk -/

@[simp] theorem State.updClk_pending (s : State) (f : ClkSt → ClkSt) : (s.updClk f).pending = s.pending := rfl
@[simp] theorem State.updClk_fuses (s : State) (f : ClkSt → ClkSt) : (s.updClk f).fuses = s.fuses := rfl
@[simp] theorem State.updClk_life (s : State) (f : ClkSt → ClkSt) : (s.updClk f).life = s.life := rfl
@[simp] theorem State.updClk_boot (s : State) (f : ClkSt → ClkSt) : (s.updClk f).boot = s.boot := rfl
@[simp] theorem State.updClk_grid (s : State) (f : ClkSt → ClkSt) : (s.updClk f).grid = s.grid := rfl
@[simp] theorem State.updClk_tiles (s : State) (f : ClkSt → ClkSt) : (s.updClk f).tiles = s.tiles := rfl
@[simp] theorem State.updClk_mem (s : State) (f : ClkSt → ClkSt) : (s.updClk f).mem = s.mem := rfl
@[simp] theorem State.updClk_jobs (s : State) (f : ClkSt → ClkSt) : (s.updClk f).jobs = s.jobs := rfl
@[simp] theorem State.updClk_check (s : State) (f : ClkSt → ClkSt) : (s.updClk f).check = s.check := rfl
@[simp] theorem State.updClk_clk (s : State) (f : ClkSt → ClkSt) : (s.updClk f).clk = f s.clk := rfl
@[simp] theorem State.updClk_tally (s : State) (f : ClkSt → ClkSt) : (s.updClk f).tally = s.tally := rfl
@[simp] theorem State.updClk_pwr (s : State) (f : ClkSt → ClkSt) : (s.updClk f).pwr = s.pwr := rfl
@[simp] theorem State.updClk_link (s : State) (f : ClkSt → ClkSt) : (s.updClk f).link = s.link := rfl
@[simp] theorem State.updClk_host (s : State) (f : ClkSt → ClkSt) : (s.updClk f).host = s.host := rfl
@[simp] theorem State.updClk_prot (s : State) (f : ClkSt → ClkSt) : (s.updClk f).prot = s.prot := rfl
@[simp] theorem State.updClk_ctr (s : State) (f : ClkSt → ClkSt) : (s.updClk f).ctr = s.ctr := rfl
@[simp] theorem State.updClk_tctr (s : State) (f : ClkSt → ClkSt) : (s.updClk f).tctr = s.tctr := rfl
@[simp] theorem State.updClk_events (s : State) (f : ClkSt → ClkSt) : (s.updClk f).events = s.events := rfl
@[simp] theorem State.updClk_out (s : State) (f : ClkSt → ClkSt) : (s.updClk f).out = s.out := rfl
@[simp] theorem State.updClk_draws (s : State) (f : ClkSt → ClkSt) : (s.updClk f).draws = s.draws := rfl

/-! ## updTally -/

@[simp] theorem State.updTally_pending (s : State) (f : TallySt → TallySt) : (s.updTally f).pending = s.pending := rfl
@[simp] theorem State.updTally_fuses (s : State) (f : TallySt → TallySt) : (s.updTally f).fuses = s.fuses := rfl
@[simp] theorem State.updTally_life (s : State) (f : TallySt → TallySt) : (s.updTally f).life = s.life := rfl
@[simp] theorem State.updTally_boot (s : State) (f : TallySt → TallySt) : (s.updTally f).boot = s.boot := rfl
@[simp] theorem State.updTally_grid (s : State) (f : TallySt → TallySt) : (s.updTally f).grid = s.grid := rfl
@[simp] theorem State.updTally_tiles (s : State) (f : TallySt → TallySt) : (s.updTally f).tiles = s.tiles := rfl
@[simp] theorem State.updTally_mem (s : State) (f : TallySt → TallySt) : (s.updTally f).mem = s.mem := rfl
@[simp] theorem State.updTally_jobs (s : State) (f : TallySt → TallySt) : (s.updTally f).jobs = s.jobs := rfl
@[simp] theorem State.updTally_check (s : State) (f : TallySt → TallySt) : (s.updTally f).check = s.check := rfl
@[simp] theorem State.updTally_clk (s : State) (f : TallySt → TallySt) : (s.updTally f).clk = s.clk := rfl
@[simp] theorem State.updTally_tally (s : State) (f : TallySt → TallySt) : (s.updTally f).tally = f s.tally := rfl
@[simp] theorem State.updTally_pwr (s : State) (f : TallySt → TallySt) : (s.updTally f).pwr = s.pwr := rfl
@[simp] theorem State.updTally_link (s : State) (f : TallySt → TallySt) : (s.updTally f).link = s.link := rfl
@[simp] theorem State.updTally_host (s : State) (f : TallySt → TallySt) : (s.updTally f).host = s.host := rfl
@[simp] theorem State.updTally_prot (s : State) (f : TallySt → TallySt) : (s.updTally f).prot = s.prot := rfl
@[simp] theorem State.updTally_ctr (s : State) (f : TallySt → TallySt) : (s.updTally f).ctr = s.ctr := rfl
@[simp] theorem State.updTally_tctr (s : State) (f : TallySt → TallySt) : (s.updTally f).tctr = s.tctr := rfl
@[simp] theorem State.updTally_events (s : State) (f : TallySt → TallySt) : (s.updTally f).events = s.events := rfl
@[simp] theorem State.updTally_out (s : State) (f : TallySt → TallySt) : (s.updTally f).out = s.out := rfl
@[simp] theorem State.updTally_draws (s : State) (f : TallySt → TallySt) : (s.updTally f).draws = s.draws := rfl

/-! ## updPwr -/

@[simp] theorem State.updPwr_pending (s : State) (f : PwrSt → PwrSt) : (s.updPwr f).pending = s.pending := rfl
@[simp] theorem State.updPwr_fuses (s : State) (f : PwrSt → PwrSt) : (s.updPwr f).fuses = s.fuses := rfl
@[simp] theorem State.updPwr_life (s : State) (f : PwrSt → PwrSt) : (s.updPwr f).life = s.life := rfl
@[simp] theorem State.updPwr_boot (s : State) (f : PwrSt → PwrSt) : (s.updPwr f).boot = s.boot := rfl
@[simp] theorem State.updPwr_grid (s : State) (f : PwrSt → PwrSt) : (s.updPwr f).grid = s.grid := rfl
@[simp] theorem State.updPwr_tiles (s : State) (f : PwrSt → PwrSt) : (s.updPwr f).tiles = s.tiles := rfl
@[simp] theorem State.updPwr_mem (s : State) (f : PwrSt → PwrSt) : (s.updPwr f).mem = s.mem := rfl
@[simp] theorem State.updPwr_jobs (s : State) (f : PwrSt → PwrSt) : (s.updPwr f).jobs = s.jobs := rfl
@[simp] theorem State.updPwr_check (s : State) (f : PwrSt → PwrSt) : (s.updPwr f).check = s.check := rfl
@[simp] theorem State.updPwr_clk (s : State) (f : PwrSt → PwrSt) : (s.updPwr f).clk = s.clk := rfl
@[simp] theorem State.updPwr_tally (s : State) (f : PwrSt → PwrSt) : (s.updPwr f).tally = s.tally := rfl
@[simp] theorem State.updPwr_pwr (s : State) (f : PwrSt → PwrSt) : (s.updPwr f).pwr = f s.pwr := rfl
@[simp] theorem State.updPwr_link (s : State) (f : PwrSt → PwrSt) : (s.updPwr f).link = s.link := rfl
@[simp] theorem State.updPwr_host (s : State) (f : PwrSt → PwrSt) : (s.updPwr f).host = s.host := rfl
@[simp] theorem State.updPwr_prot (s : State) (f : PwrSt → PwrSt) : (s.updPwr f).prot = s.prot := rfl
@[simp] theorem State.updPwr_ctr (s : State) (f : PwrSt → PwrSt) : (s.updPwr f).ctr = s.ctr := rfl
@[simp] theorem State.updPwr_tctr (s : State) (f : PwrSt → PwrSt) : (s.updPwr f).tctr = s.tctr := rfl
@[simp] theorem State.updPwr_events (s : State) (f : PwrSt → PwrSt) : (s.updPwr f).events = s.events := rfl
@[simp] theorem State.updPwr_out (s : State) (f : PwrSt → PwrSt) : (s.updPwr f).out = s.out := rfl
@[simp] theorem State.updPwr_draws (s : State) (f : PwrSt → PwrSt) : (s.updPwr f).draws = s.draws := rfl

/-! ## updProt -/

@[simp] theorem State.updProt_pending (s : State) (f : ProtSt → ProtSt) : (s.updProt f).pending = s.pending := rfl
@[simp] theorem State.updProt_fuses (s : State) (f : ProtSt → ProtSt) : (s.updProt f).fuses = s.fuses := rfl
@[simp] theorem State.updProt_life (s : State) (f : ProtSt → ProtSt) : (s.updProt f).life = s.life := rfl
@[simp] theorem State.updProt_boot (s : State) (f : ProtSt → ProtSt) : (s.updProt f).boot = s.boot := rfl
@[simp] theorem State.updProt_grid (s : State) (f : ProtSt → ProtSt) : (s.updProt f).grid = s.grid := rfl
@[simp] theorem State.updProt_tiles (s : State) (f : ProtSt → ProtSt) : (s.updProt f).tiles = s.tiles := rfl
@[simp] theorem State.updProt_mem (s : State) (f : ProtSt → ProtSt) : (s.updProt f).mem = s.mem := rfl
@[simp] theorem State.updProt_jobs (s : State) (f : ProtSt → ProtSt) : (s.updProt f).jobs = s.jobs := rfl
@[simp] theorem State.updProt_check (s : State) (f : ProtSt → ProtSt) : (s.updProt f).check = s.check := rfl
@[simp] theorem State.updProt_clk (s : State) (f : ProtSt → ProtSt) : (s.updProt f).clk = s.clk := rfl
@[simp] theorem State.updProt_tally (s : State) (f : ProtSt → ProtSt) : (s.updProt f).tally = s.tally := rfl
@[simp] theorem State.updProt_pwr (s : State) (f : ProtSt → ProtSt) : (s.updProt f).pwr = s.pwr := rfl
@[simp] theorem State.updProt_link (s : State) (f : ProtSt → ProtSt) : (s.updProt f).link = s.link := rfl
@[simp] theorem State.updProt_host (s : State) (f : ProtSt → ProtSt) : (s.updProt f).host = s.host := rfl
@[simp] theorem State.updProt_prot (s : State) (f : ProtSt → ProtSt) : (s.updProt f).prot = f s.prot := rfl
@[simp] theorem State.updProt_ctr (s : State) (f : ProtSt → ProtSt) : (s.updProt f).ctr = s.ctr := rfl
@[simp] theorem State.updProt_tctr (s : State) (f : ProtSt → ProtSt) : (s.updProt f).tctr = s.tctr := rfl
@[simp] theorem State.updProt_events (s : State) (f : ProtSt → ProtSt) : (s.updProt f).events = s.events := rfl
@[simp] theorem State.updProt_out (s : State) (f : ProtSt → ProtSt) : (s.updProt f).out = s.out := rfl
@[simp] theorem State.updProt_draws (s : State) (f : ProtSt → ProtSt) : (s.updProt f).draws = s.draws := rfl

/-! ## updCounts -/

@[simp] theorem State.updCounts_pending (s : State) (f : LifeCounts → LifeCounts) : (s.updCounts f).pending = s.pending := rfl
@[simp] theorem State.updCounts_fuses (s : State) (f : LifeCounts → LifeCounts) : (s.updCounts f).fuses = s.fuses := rfl
@[simp] theorem State.updCounts_life (s : State) (f : LifeCounts → LifeCounts) : (s.updCounts f).life = { s.life with counts := f s.life.counts } := rfl
@[simp] theorem State.updCounts_boot (s : State) (f : LifeCounts → LifeCounts) : (s.updCounts f).boot = s.boot := rfl
@[simp] theorem State.updCounts_grid (s : State) (f : LifeCounts → LifeCounts) : (s.updCounts f).grid = s.grid := rfl
@[simp] theorem State.updCounts_tiles (s : State) (f : LifeCounts → LifeCounts) : (s.updCounts f).tiles = s.tiles := rfl
@[simp] theorem State.updCounts_mem (s : State) (f : LifeCounts → LifeCounts) : (s.updCounts f).mem = s.mem := rfl
@[simp] theorem State.updCounts_jobs (s : State) (f : LifeCounts → LifeCounts) : (s.updCounts f).jobs = s.jobs := rfl
@[simp] theorem State.updCounts_check (s : State) (f : LifeCounts → LifeCounts) : (s.updCounts f).check = s.check := rfl
@[simp] theorem State.updCounts_clk (s : State) (f : LifeCounts → LifeCounts) : (s.updCounts f).clk = s.clk := rfl
@[simp] theorem State.updCounts_tally (s : State) (f : LifeCounts → LifeCounts) : (s.updCounts f).tally = s.tally := rfl
@[simp] theorem State.updCounts_pwr (s : State) (f : LifeCounts → LifeCounts) : (s.updCounts f).pwr = s.pwr := rfl
@[simp] theorem State.updCounts_link (s : State) (f : LifeCounts → LifeCounts) : (s.updCounts f).link = s.link := rfl
@[simp] theorem State.updCounts_host (s : State) (f : LifeCounts → LifeCounts) : (s.updCounts f).host = s.host := rfl
@[simp] theorem State.updCounts_prot (s : State) (f : LifeCounts → LifeCounts) : (s.updCounts f).prot = s.prot := rfl
@[simp] theorem State.updCounts_ctr (s : State) (f : LifeCounts → LifeCounts) : (s.updCounts f).ctr = s.ctr := rfl
@[simp] theorem State.updCounts_tctr (s : State) (f : LifeCounts → LifeCounts) : (s.updCounts f).tctr = s.tctr := rfl
@[simp] theorem State.updCounts_events (s : State) (f : LifeCounts → LifeCounts) : (s.updCounts f).events = s.events := rfl
@[simp] theorem State.updCounts_out (s : State) (f : LifeCounts → LifeCounts) : (s.updCounts f).out = s.out := rfl
@[simp] theorem State.updCounts_draws (s : State) (f : LifeCounts → LifeCounts) : (s.updCounts f).draws = s.draws := rfl

/-! ## setTile -/

@[simp] theorem State.setTile_pending (s : State) (t : Nat) (v : Tile) : (s.setTile t v).pending = s.pending := rfl
@[simp] theorem State.setTile_fuses (s : State) (t : Nat) (v : Tile) : (s.setTile t v).fuses = s.fuses := rfl
@[simp] theorem State.setTile_life (s : State) (t : Nat) (v : Tile) : (s.setTile t v).life = s.life := rfl
@[simp] theorem State.setTile_boot (s : State) (t : Nat) (v : Tile) : (s.setTile t v).boot = s.boot := rfl
@[simp] theorem State.setTile_grid (s : State) (t : Nat) (v : Tile) : (s.setTile t v).grid = s.grid := rfl
@[simp] theorem State.setTile_tiles (s : State) (t : Nat) (v : Tile) : (s.setTile t v).tiles = SMap.put Tile.reset s.tiles t v := rfl
@[simp] theorem State.setTile_mem (s : State) (t : Nat) (v : Tile) : (s.setTile t v).mem = s.mem := rfl
@[simp] theorem State.setTile_jobs (s : State) (t : Nat) (v : Tile) : (s.setTile t v).jobs = s.jobs := rfl
@[simp] theorem State.setTile_check (s : State) (t : Nat) (v : Tile) : (s.setTile t v).check = s.check := rfl
@[simp] theorem State.setTile_clk (s : State) (t : Nat) (v : Tile) : (s.setTile t v).clk = s.clk := rfl
@[simp] theorem State.setTile_tally (s : State) (t : Nat) (v : Tile) : (s.setTile t v).tally = s.tally := rfl
@[simp] theorem State.setTile_pwr (s : State) (t : Nat) (v : Tile) : (s.setTile t v).pwr = s.pwr := rfl
@[simp] theorem State.setTile_link (s : State) (t : Nat) (v : Tile) : (s.setTile t v).link = s.link := rfl
@[simp] theorem State.setTile_host (s : State) (t : Nat) (v : Tile) : (s.setTile t v).host = s.host := rfl
@[simp] theorem State.setTile_prot (s : State) (t : Nat) (v : Tile) : (s.setTile t v).prot = s.prot := rfl
@[simp] theorem State.setTile_ctr (s : State) (t : Nat) (v : Tile) : (s.setTile t v).ctr = s.ctr := rfl
@[simp] theorem State.setTile_tctr (s : State) (t : Nat) (v : Tile) : (s.setTile t v).tctr = s.tctr := rfl
@[simp] theorem State.setTile_events (s : State) (t : Nat) (v : Tile) : (s.setTile t v).events = s.events := rfl
@[simp] theorem State.setTile_out (s : State) (t : Nat) (v : Tile) : (s.setTile t v).out = s.out := rfl
@[simp] theorem State.setTile_draws (s : State) (t : Nat) (v : Tile) : (s.setTile t v).draws = s.draws := rfl

/-! ## updTile -/

@[simp] theorem State.updTile_pending (s : State) (t : Nat) (f : Tile → Tile) : (s.updTile t f).pending = s.pending := rfl
@[simp] theorem State.updTile_fuses (s : State) (t : Nat) (f : Tile → Tile) : (s.updTile t f).fuses = s.fuses := rfl
@[simp] theorem State.updTile_life (s : State) (t : Nat) (f : Tile → Tile) : (s.updTile t f).life = s.life := rfl
@[simp] theorem State.updTile_boot (s : State) (t : Nat) (f : Tile → Tile) : (s.updTile t f).boot = s.boot := rfl
@[simp] theorem State.updTile_grid (s : State) (t : Nat) (f : Tile → Tile) : (s.updTile t f).grid = s.grid := rfl
@[simp] theorem State.updTile_tiles (s : State) (t : Nat) (f : Tile → Tile) : (s.updTile t f).tiles = SMap.put Tile.reset s.tiles t (f (s.tile t)) := rfl
@[simp] theorem State.updTile_mem (s : State) (t : Nat) (f : Tile → Tile) : (s.updTile t f).mem = s.mem := rfl
@[simp] theorem State.updTile_jobs (s : State) (t : Nat) (f : Tile → Tile) : (s.updTile t f).jobs = s.jobs := rfl
@[simp] theorem State.updTile_check (s : State) (t : Nat) (f : Tile → Tile) : (s.updTile t f).check = s.check := rfl
@[simp] theorem State.updTile_clk (s : State) (t : Nat) (f : Tile → Tile) : (s.updTile t f).clk = s.clk := rfl
@[simp] theorem State.updTile_tally (s : State) (t : Nat) (f : Tile → Tile) : (s.updTile t f).tally = s.tally := rfl
@[simp] theorem State.updTile_pwr (s : State) (t : Nat) (f : Tile → Tile) : (s.updTile t f).pwr = s.pwr := rfl
@[simp] theorem State.updTile_link (s : State) (t : Nat) (f : Tile → Tile) : (s.updTile t f).link = s.link := rfl
@[simp] theorem State.updTile_host (s : State) (t : Nat) (f : Tile → Tile) : (s.updTile t f).host = s.host := rfl
@[simp] theorem State.updTile_prot (s : State) (t : Nat) (f : Tile → Tile) : (s.updTile t f).prot = s.prot := rfl
@[simp] theorem State.updTile_ctr (s : State) (t : Nat) (f : Tile → Tile) : (s.updTile t f).ctr = s.ctr := rfl
@[simp] theorem State.updTile_tctr (s : State) (t : Nat) (f : Tile → Tile) : (s.updTile t f).tctr = s.tctr := rfl
@[simp] theorem State.updTile_events (s : State) (t : Nat) (f : Tile → Tile) : (s.updTile t f).events = s.events := rfl
@[simp] theorem State.updTile_out (s : State) (t : Nat) (f : Tile → Tile) : (s.updTile t f).out = s.out := rfl
@[simp] theorem State.updTile_draws (s : State) (t : Nat) (f : Tile → Tile) : (s.updTile t f).draws = s.draws := rfl

/-! ## setJob -/

@[simp] theorem State.setJob_pending (s : State) (j : SlotIx) (v : Job) : (s.setJob j v).pending = s.pending := rfl
@[simp] theorem State.setJob_fuses (s : State) (j : SlotIx) (v : Job) : (s.setJob j v).fuses = s.fuses := rfl
@[simp] theorem State.setJob_life (s : State) (j : SlotIx) (v : Job) : (s.setJob j v).life = s.life := rfl
@[simp] theorem State.setJob_boot (s : State) (j : SlotIx) (v : Job) : (s.setJob j v).boot = s.boot := rfl
@[simp] theorem State.setJob_grid (s : State) (j : SlotIx) (v : Job) : (s.setJob j v).grid = s.grid := rfl
@[simp] theorem State.setJob_tiles (s : State) (j : SlotIx) (v : Job) : (s.setJob j v).tiles = s.tiles := rfl
@[simp] theorem State.setJob_mem (s : State) (j : SlotIx) (v : Job) : (s.setJob j v).mem = s.mem := rfl
@[simp] theorem State.setJob_jobs (s : State) (j : SlotIx) (v : Job) : (s.setJob j v).jobs = s.jobs.set j v := rfl
@[simp] theorem State.setJob_check (s : State) (j : SlotIx) (v : Job) : (s.setJob j v).check = s.check := rfl
@[simp] theorem State.setJob_clk (s : State) (j : SlotIx) (v : Job) : (s.setJob j v).clk = s.clk := rfl
@[simp] theorem State.setJob_tally (s : State) (j : SlotIx) (v : Job) : (s.setJob j v).tally = s.tally := rfl
@[simp] theorem State.setJob_pwr (s : State) (j : SlotIx) (v : Job) : (s.setJob j v).pwr = s.pwr := rfl
@[simp] theorem State.setJob_link (s : State) (j : SlotIx) (v : Job) : (s.setJob j v).link = s.link := rfl
@[simp] theorem State.setJob_host (s : State) (j : SlotIx) (v : Job) : (s.setJob j v).host = s.host := rfl
@[simp] theorem State.setJob_prot (s : State) (j : SlotIx) (v : Job) : (s.setJob j v).prot = s.prot := rfl
@[simp] theorem State.setJob_ctr (s : State) (j : SlotIx) (v : Job) : (s.setJob j v).ctr = s.ctr := rfl
@[simp] theorem State.setJob_tctr (s : State) (j : SlotIx) (v : Job) : (s.setJob j v).tctr = s.tctr := rfl
@[simp] theorem State.setJob_events (s : State) (j : SlotIx) (v : Job) : (s.setJob j v).events = s.events := rfl
@[simp] theorem State.setJob_out (s : State) (j : SlotIx) (v : Job) : (s.setJob j v).out = s.out := rfl
@[simp] theorem State.setJob_draws (s : State) (j : SlotIx) (v : Job) : (s.setJob j v).draws = s.draws := rfl

/-! ## updJob -/

@[simp] theorem State.updJob_pending (s : State) (j : SlotIx) (f : Job → Job) : (s.updJob j f).pending = s.pending := rfl
@[simp] theorem State.updJob_fuses (s : State) (j : SlotIx) (f : Job → Job) : (s.updJob j f).fuses = s.fuses := rfl
@[simp] theorem State.updJob_life (s : State) (j : SlotIx) (f : Job → Job) : (s.updJob j f).life = s.life := rfl
@[simp] theorem State.updJob_boot (s : State) (j : SlotIx) (f : Job → Job) : (s.updJob j f).boot = s.boot := rfl
@[simp] theorem State.updJob_grid (s : State) (j : SlotIx) (f : Job → Job) : (s.updJob j f).grid = s.grid := rfl
@[simp] theorem State.updJob_tiles (s : State) (j : SlotIx) (f : Job → Job) : (s.updJob j f).tiles = s.tiles := rfl
@[simp] theorem State.updJob_mem (s : State) (j : SlotIx) (f : Job → Job) : (s.updJob j f).mem = s.mem := rfl
@[simp] theorem State.updJob_jobs (s : State) (j : SlotIx) (f : Job → Job) : (s.updJob j f).jobs = s.jobs.set j (f (s.job j)) := rfl
@[simp] theorem State.updJob_check (s : State) (j : SlotIx) (f : Job → Job) : (s.updJob j f).check = s.check := rfl
@[simp] theorem State.updJob_clk (s : State) (j : SlotIx) (f : Job → Job) : (s.updJob j f).clk = s.clk := rfl
@[simp] theorem State.updJob_tally (s : State) (j : SlotIx) (f : Job → Job) : (s.updJob j f).tally = s.tally := rfl
@[simp] theorem State.updJob_pwr (s : State) (j : SlotIx) (f : Job → Job) : (s.updJob j f).pwr = s.pwr := rfl
@[simp] theorem State.updJob_link (s : State) (j : SlotIx) (f : Job → Job) : (s.updJob j f).link = s.link := rfl
@[simp] theorem State.updJob_host (s : State) (j : SlotIx) (f : Job → Job) : (s.updJob j f).host = s.host := rfl
@[simp] theorem State.updJob_prot (s : State) (j : SlotIx) (f : Job → Job) : (s.updJob j f).prot = s.prot := rfl
@[simp] theorem State.updJob_ctr (s : State) (j : SlotIx) (f : Job → Job) : (s.updJob j f).ctr = s.ctr := rfl
@[simp] theorem State.updJob_tctr (s : State) (j : SlotIx) (f : Job → Job) : (s.updJob j f).tctr = s.tctr := rfl
@[simp] theorem State.updJob_events (s : State) (j : SlotIx) (f : Job → Job) : (s.updJob j f).events = s.events := rfl
@[simp] theorem State.updJob_out (s : State) (j : SlotIx) (f : Job → Job) : (s.updJob j f).out = s.out := rfl
@[simp] theorem State.updJob_draws (s : State) (j : SlotIx) (f : Job → Job) : (s.updJob j f).draws = s.draws := rfl

/-! ## bump -/

@[simp] theorem State.bump_pending (s : State) (k n : Nat) : (s.bump k n).pending = s.pending := rfl
@[simp] theorem State.bump_fuses (s : State) (k n : Nat) : (s.bump k n).fuses = s.fuses := rfl
@[simp] theorem State.bump_life (s : State) (k n : Nat) : (s.bump k n).life = s.life := rfl
@[simp] theorem State.bump_boot (s : State) (k n : Nat) : (s.bump k n).boot = s.boot := rfl
@[simp] theorem State.bump_grid (s : State) (k n : Nat) : (s.bump k n).grid = s.grid := rfl
@[simp] theorem State.bump_tiles (s : State) (k n : Nat) : (s.bump k n).tiles = s.tiles := rfl
@[simp] theorem State.bump_mem (s : State) (k n : Nat) : (s.bump k n).mem = s.mem := rfl
@[simp] theorem State.bump_jobs (s : State) (k n : Nat) : (s.bump k n).jobs = s.jobs := rfl
@[simp] theorem State.bump_check (s : State) (k n : Nat) : (s.bump k n).check = s.check := rfl
@[simp] theorem State.bump_clk (s : State) (k n : Nat) : (s.bump k n).clk = s.clk := rfl
@[simp] theorem State.bump_tally (s : State) (k n : Nat) : (s.bump k n).tally = s.tally := rfl
@[simp] theorem State.bump_pwr (s : State) (k n : Nat) : (s.bump k n).pwr = s.pwr := rfl
@[simp] theorem State.bump_link (s : State) (k n : Nat) : (s.bump k n).link = s.link := rfl
@[simp] theorem State.bump_host (s : State) (k n : Nat) : (s.bump k n).host = s.host := rfl
@[simp] theorem State.bump_prot (s : State) (k n : Nat) : (s.bump k n).prot = s.prot := rfl
@[simp] theorem State.bump_ctr (s : State) (k n : Nat) : (s.bump k n).ctr = SMap.put 0 s.ctr k (satAdd (s.counter k) n) := rfl
@[simp] theorem State.bump_tctr (s : State) (k n : Nat) : (s.bump k n).tctr = s.tctr := rfl
@[simp] theorem State.bump_events (s : State) (k n : Nat) : (s.bump k n).events = s.events := rfl
@[simp] theorem State.bump_out (s : State) (k n : Nat) : (s.bump k n).out = s.out := rfl
@[simp] theorem State.bump_draws (s : State) (k n : Nat) : (s.bump k n).draws = s.draws := rfl

/-! ## raise -/

@[simp] theorem State.raise_pending (s : State) (k u : Nat) (d : List Byte) : (s.raise k u d).pending = s.pending := rfl
@[simp] theorem State.raise_fuses (s : State) (k u : Nat) (d : List Byte) : (s.raise k u d).fuses = s.fuses := rfl
@[simp] theorem State.raise_life (s : State) (k u : Nat) (d : List Byte) : (s.raise k u d).life = s.life := rfl
@[simp] theorem State.raise_boot (s : State) (k u : Nat) (d : List Byte) : (s.raise k u d).boot = s.boot := rfl
@[simp] theorem State.raise_grid (s : State) (k u : Nat) (d : List Byte) : (s.raise k u d).grid = s.grid := rfl
@[simp] theorem State.raise_tiles (s : State) (k u : Nat) (d : List Byte) : (s.raise k u d).tiles = s.tiles := rfl
@[simp] theorem State.raise_mem (s : State) (k u : Nat) (d : List Byte) : (s.raise k u d).mem = s.mem := rfl
@[simp] theorem State.raise_jobs (s : State) (k u : Nat) (d : List Byte) : (s.raise k u d).jobs = s.jobs := rfl
@[simp] theorem State.raise_check (s : State) (k u : Nat) (d : List Byte) : (s.raise k u d).check = s.check := rfl
@[simp] theorem State.raise_clk (s : State) (k u : Nat) (d : List Byte) : (s.raise k u d).clk = s.clk := rfl
@[simp] theorem State.raise_tally (s : State) (k u : Nat) (d : List Byte) : (s.raise k u d).tally = s.tally := rfl
@[simp] theorem State.raise_pwr (s : State) (k u : Nat) (d : List Byte) : (s.raise k u d).pwr = s.pwr := rfl
@[simp] theorem State.raise_link (s : State) (k u : Nat) (d : List Byte) : (s.raise k u d).link = s.link := rfl
@[simp] theorem State.raise_host (s : State) (k u : Nat) (d : List Byte) : (s.raise k u d).host = s.host := rfl
@[simp] theorem State.raise_prot (s : State) (k u : Nat) (d : List Byte) : (s.raise k u d).prot = s.prot := rfl
@[simp] theorem State.raise_ctr (s : State) (k u : Nat) (d : List Byte) : (s.raise k u d).ctr = s.ctr := rfl
@[simp] theorem State.raise_tctr (s : State) (k u : Nat) (d : List Byte) : (s.raise k u d).tctr = s.tctr := rfl
@[simp] theorem State.raise_events (s : State) (k u : Nat) (d : List Byte) : (s.raise k u d).events = s.events ++ [⟨k, u, d, s.tally.now⟩] := rfl
@[simp] theorem State.raise_out (s : State) (k u : Nat) (d : List Byte) : (s.raise k u d).out = s.out := rfl
@[simp] theorem State.raise_draws (s : State) (k u : Nat) (d : List Byte) : (s.raise k u d).draws = s.draws := rfl

/-! ## send -/

@[simp] theorem State.send_pending (s : State) (o : Out) : (s.send o).pending = s.pending := rfl
@[simp] theorem State.send_fuses (s : State) (o : Out) : (s.send o).fuses = s.fuses := rfl
@[simp] theorem State.send_life (s : State) (o : Out) : (s.send o).life = s.life := rfl
@[simp] theorem State.send_boot (s : State) (o : Out) : (s.send o).boot = s.boot := rfl
@[simp] theorem State.send_grid (s : State) (o : Out) : (s.send o).grid = s.grid := rfl
@[simp] theorem State.send_tiles (s : State) (o : Out) : (s.send o).tiles = s.tiles := rfl
@[simp] theorem State.send_mem (s : State) (o : Out) : (s.send o).mem = s.mem := rfl
@[simp] theorem State.send_jobs (s : State) (o : Out) : (s.send o).jobs = s.jobs := rfl
@[simp] theorem State.send_check (s : State) (o : Out) : (s.send o).check = s.check := rfl
@[simp] theorem State.send_clk (s : State) (o : Out) : (s.send o).clk = s.clk := rfl
@[simp] theorem State.send_tally (s : State) (o : Out) : (s.send o).tally = s.tally := rfl
@[simp] theorem State.send_pwr (s : State) (o : Out) : (s.send o).pwr = s.pwr := rfl
@[simp] theorem State.send_link (s : State) (o : Out) : (s.send o).link = s.link := rfl
@[simp] theorem State.send_host (s : State) (o : Out) : (s.send o).host = s.host := rfl
@[simp] theorem State.send_prot (s : State) (o : Out) : (s.send o).prot = s.prot := rfl
@[simp] theorem State.send_ctr (s : State) (o : Out) : (s.send o).ctr = s.ctr := rfl
@[simp] theorem State.send_tctr (s : State) (o : Out) : (s.send o).tctr = s.tctr := rfl
@[simp] theorem State.send_events (s : State) (o : Out) : (s.send o).events = s.events := rfl
@[simp] theorem State.send_out (s : State) (o : Out) : (s.send o).out = s.out ++ [o] := rfl
@[simp] theorem State.send_draws (s : State) (o : Out) : (s.send o).draws = s.draws := rfl

/-! ## answer -/

@[simp] theorem State.answer_pending (s : State) (c : Carrier) (st : Nat) (d : List Byte) : (s.answer c st d).pending = s.pending := rfl
@[simp] theorem State.answer_fuses (s : State) (c : Carrier) (st : Nat) (d : List Byte) : (s.answer c st d).fuses = s.fuses := rfl
@[simp] theorem State.answer_life (s : State) (c : Carrier) (st : Nat) (d : List Byte) : (s.answer c st d).life = s.life := rfl
@[simp] theorem State.answer_boot (s : State) (c : Carrier) (st : Nat) (d : List Byte) : (s.answer c st d).boot = s.boot := rfl
@[simp] theorem State.answer_grid (s : State) (c : Carrier) (st : Nat) (d : List Byte) : (s.answer c st d).grid = s.grid := rfl
@[simp] theorem State.answer_tiles (s : State) (c : Carrier) (st : Nat) (d : List Byte) : (s.answer c st d).tiles = s.tiles := rfl
@[simp] theorem State.answer_mem (s : State) (c : Carrier) (st : Nat) (d : List Byte) : (s.answer c st d).mem = s.mem := rfl
@[simp] theorem State.answer_jobs (s : State) (c : Carrier) (st : Nat) (d : List Byte) : (s.answer c st d).jobs = s.jobs := rfl
@[simp] theorem State.answer_check (s : State) (c : Carrier) (st : Nat) (d : List Byte) : (s.answer c st d).check = s.check := rfl
@[simp] theorem State.answer_clk (s : State) (c : Carrier) (st : Nat) (d : List Byte) : (s.answer c st d).clk = s.clk := rfl
@[simp] theorem State.answer_tally (s : State) (c : Carrier) (st : Nat) (d : List Byte) : (s.answer c st d).tally = s.tally := rfl
@[simp] theorem State.answer_pwr (s : State) (c : Carrier) (st : Nat) (d : List Byte) : (s.answer c st d).pwr = s.pwr := rfl
@[simp] theorem State.answer_link (s : State) (c : Carrier) (st : Nat) (d : List Byte) : (s.answer c st d).link = s.link := rfl
@[simp] theorem State.answer_host (s : State) (c : Carrier) (st : Nat) (d : List Byte) : (s.answer c st d).host = s.host := rfl
@[simp] theorem State.answer_prot (s : State) (c : Carrier) (st : Nat) (d : List Byte) : (s.answer c st d).prot = s.prot := rfl
@[simp] theorem State.answer_ctr (s : State) (c : Carrier) (st : Nat) (d : List Byte) : (s.answer c st d).ctr = s.ctr := rfl
@[simp] theorem State.answer_tctr (s : State) (c : Carrier) (st : Nat) (d : List Byte) : (s.answer c st d).tctr = s.tctr := rfl
@[simp] theorem State.answer_events (s : State) (c : Carrier) (st : Nat) (d : List Byte) : (s.answer c st d).events = s.events := rfl
@[simp] theorem State.answer_out (s : State) (c : Carrier) (st : Nat) (d : List Byte) : (s.answer c st d).out = s.out ++ [.answer (carNum c) st d] := rfl
@[simp] theorem State.answer_draws (s : State) (c : Carrier) (st : Nat) (d : List Byte) : (s.answer c st d).draws = s.draws := rfl

/-! ## lifeFault -/

@[simp] theorem State.lifeFault_pending (s : State) (k u c : Nat) : (s.lifeFault k u c).pending = s.pending := rfl
@[simp] theorem State.lifeFault_fuses (s : State) (k u c : Nat) : (s.lifeFault k u c).fuses = s.fuses := rfl
@[simp] theorem State.lifeFault_life (s : State) (k u c : Nat) : (s.lifeFault k u c).life = { s.life with faults := s.life.faults ++ [⟨k, u, c, s.tally.now⟩] } := rfl
@[simp] theorem State.lifeFault_boot (s : State) (k u c : Nat) : (s.lifeFault k u c).boot = s.boot := rfl
@[simp] theorem State.lifeFault_grid (s : State) (k u c : Nat) : (s.lifeFault k u c).grid = s.grid := rfl
@[simp] theorem State.lifeFault_tiles (s : State) (k u c : Nat) : (s.lifeFault k u c).tiles = s.tiles := rfl
@[simp] theorem State.lifeFault_mem (s : State) (k u c : Nat) : (s.lifeFault k u c).mem = s.mem := rfl
@[simp] theorem State.lifeFault_jobs (s : State) (k u c : Nat) : (s.lifeFault k u c).jobs = s.jobs := rfl
@[simp] theorem State.lifeFault_check (s : State) (k u c : Nat) : (s.lifeFault k u c).check = s.check := rfl
@[simp] theorem State.lifeFault_clk (s : State) (k u c : Nat) : (s.lifeFault k u c).clk = s.clk := rfl
@[simp] theorem State.lifeFault_tally (s : State) (k u c : Nat) : (s.lifeFault k u c).tally = s.tally := rfl
@[simp] theorem State.lifeFault_pwr (s : State) (k u c : Nat) : (s.lifeFault k u c).pwr = s.pwr := rfl
@[simp] theorem State.lifeFault_link (s : State) (k u c : Nat) : (s.lifeFault k u c).link = s.link := rfl
@[simp] theorem State.lifeFault_host (s : State) (k u c : Nat) : (s.lifeFault k u c).host = s.host := rfl
@[simp] theorem State.lifeFault_prot (s : State) (k u c : Nat) : (s.lifeFault k u c).prot = s.prot := rfl
@[simp] theorem State.lifeFault_ctr (s : State) (k u c : Nat) : (s.lifeFault k u c).ctr = s.ctr := rfl
@[simp] theorem State.lifeFault_tctr (s : State) (k u c : Nat) : (s.lifeFault k u c).tctr = s.tctr := rfl
@[simp] theorem State.lifeFault_events (s : State) (k u c : Nat) : (s.lifeFault k u c).events = s.events := rfl
@[simp] theorem State.lifeFault_out (s : State) (k u c : Nat) : (s.lifeFault k u c).out = s.out := rfl
@[simp] theorem State.lifeFault_draws (s : State) (k u c : Nat) : (s.lifeFault k u c).draws = s.draws := rfl

/-! ## keep -/

@[simp] theorem State.keep_pending (s : State) (k : Nat) (d : List Byte) : (s.keep k d).pending = s.pending := rfl
@[simp] theorem State.keep_fuses (s : State) (k : Nat) (d : List Byte) : (s.keep k d).fuses = s.fuses := rfl
@[simp] theorem State.keep_life (s : State) (k : Nat) (d : List Byte) : (s.keep k d).life = { s.life with kept := SMap.ins k d s.life.kept } := rfl
@[simp] theorem State.keep_boot (s : State) (k : Nat) (d : List Byte) : (s.keep k d).boot = s.boot := rfl
@[simp] theorem State.keep_grid (s : State) (k : Nat) (d : List Byte) : (s.keep k d).grid = s.grid := rfl
@[simp] theorem State.keep_tiles (s : State) (k : Nat) (d : List Byte) : (s.keep k d).tiles = s.tiles := rfl
@[simp] theorem State.keep_mem (s : State) (k : Nat) (d : List Byte) : (s.keep k d).mem = s.mem := rfl
@[simp] theorem State.keep_jobs (s : State) (k : Nat) (d : List Byte) : (s.keep k d).jobs = s.jobs := rfl
@[simp] theorem State.keep_check (s : State) (k : Nat) (d : List Byte) : (s.keep k d).check = s.check := rfl
@[simp] theorem State.keep_clk (s : State) (k : Nat) (d : List Byte) : (s.keep k d).clk = s.clk := rfl
@[simp] theorem State.keep_tally (s : State) (k : Nat) (d : List Byte) : (s.keep k d).tally = s.tally := rfl
@[simp] theorem State.keep_pwr (s : State) (k : Nat) (d : List Byte) : (s.keep k d).pwr = s.pwr := rfl
@[simp] theorem State.keep_link (s : State) (k : Nat) (d : List Byte) : (s.keep k d).link = s.link := rfl
@[simp] theorem State.keep_host (s : State) (k : Nat) (d : List Byte) : (s.keep k d).host = s.host := rfl
@[simp] theorem State.keep_prot (s : State) (k : Nat) (d : List Byte) : (s.keep k d).prot = s.prot := rfl
@[simp] theorem State.keep_ctr (s : State) (k : Nat) (d : List Byte) : (s.keep k d).ctr = s.ctr := rfl
@[simp] theorem State.keep_tctr (s : State) (k : Nat) (d : List Byte) : (s.keep k d).tctr = s.tctr := rfl
@[simp] theorem State.keep_events (s : State) (k : Nat) (d : List Byte) : (s.keep k d).events = s.events := rfl
@[simp] theorem State.keep_out (s : State) (k : Nat) (d : List Byte) : (s.keep k d).out = s.out := rfl
@[simp] theorem State.keep_draws (s : State) (k : Nat) (d : List Byte) : (s.keep k d).draws = s.draws := rfl

/-! ## updStack -/

@[simp] theorem State.updStack_pending (s : State) (m : StackIx) (f : StackSt → StackSt) : (s.updStack m f).pending = s.pending := rfl
@[simp] theorem State.updStack_fuses (s : State) (m : StackIx) (f : StackSt → StackSt) : (s.updStack m f).fuses = s.fuses := rfl
@[simp] theorem State.updStack_life (s : State) (m : StackIx) (f : StackSt → StackSt) : (s.updStack m f).life = s.life := rfl
@[simp] theorem State.updStack_boot (s : State) (m : StackIx) (f : StackSt → StackSt) : (s.updStack m f).boot = s.boot := rfl
@[simp] theorem State.updStack_grid (s : State) (m : StackIx) (f : StackSt → StackSt) : (s.updStack m f).grid = s.grid := rfl
@[simp] theorem State.updStack_tiles (s : State) (m : StackIx) (f : StackSt → StackSt) : (s.updStack m f).tiles = s.tiles := rfl
@[simp] theorem State.updStack_mem (s : State) (m : StackIx) (f : StackSt → StackSt) : (s.updStack m f).mem = { s.mem with stackSts := s.mem.stackSts.set m (f s.mem.stackSts[m]) } := rfl
@[simp] theorem State.updStack_jobs (s : State) (m : StackIx) (f : StackSt → StackSt) : (s.updStack m f).jobs = s.jobs := rfl
@[simp] theorem State.updStack_check (s : State) (m : StackIx) (f : StackSt → StackSt) : (s.updStack m f).check = s.check := rfl
@[simp] theorem State.updStack_clk (s : State) (m : StackIx) (f : StackSt → StackSt) : (s.updStack m f).clk = s.clk := rfl
@[simp] theorem State.updStack_tally (s : State) (m : StackIx) (f : StackSt → StackSt) : (s.updStack m f).tally = s.tally := rfl
@[simp] theorem State.updStack_pwr (s : State) (m : StackIx) (f : StackSt → StackSt) : (s.updStack m f).pwr = s.pwr := rfl
@[simp] theorem State.updStack_link (s : State) (m : StackIx) (f : StackSt → StackSt) : (s.updStack m f).link = s.link := rfl
@[simp] theorem State.updStack_host (s : State) (m : StackIx) (f : StackSt → StackSt) : (s.updStack m f).host = s.host := rfl
@[simp] theorem State.updStack_prot (s : State) (m : StackIx) (f : StackSt → StackSt) : (s.updStack m f).prot = s.prot := rfl
@[simp] theorem State.updStack_ctr (s : State) (m : StackIx) (f : StackSt → StackSt) : (s.updStack m f).ctr = s.ctr := rfl
@[simp] theorem State.updStack_tctr (s : State) (m : StackIx) (f : StackSt → StackSt) : (s.updStack m f).tctr = s.tctr := rfl
@[simp] theorem State.updStack_events (s : State) (m : StackIx) (f : StackSt → StackSt) : (s.updStack m f).events = s.events := rfl
@[simp] theorem State.updStack_out (s : State) (m : StackIx) (f : StackSt → StackSt) : (s.updStack m f).out = s.out := rfl
@[simp] theorem State.updStack_draws (s : State) (m : StackIx) (f : StackSt → StackSt) : (s.updStack m f).draws = s.draws := rfl

/-! ## setEng -/

@[simp] theorem State.setEng_pending (s : State) (e : EngineIx) (g : EngSt) : (s.setEng e g).pending = s.pending := rfl
@[simp] theorem State.setEng_fuses (s : State) (e : EngineIx) (g : EngSt) : (s.setEng e g).fuses = s.fuses := rfl
@[simp] theorem State.setEng_life (s : State) (e : EngineIx) (g : EngSt) : (s.setEng e g).life = s.life := rfl
@[simp] theorem State.setEng_boot (s : State) (e : EngineIx) (g : EngSt) : (s.setEng e g).boot = s.boot := rfl
@[simp] theorem State.setEng_grid (s : State) (e : EngineIx) (g : EngSt) : (s.setEng e g).grid = s.grid := rfl
@[simp] theorem State.setEng_tiles (s : State) (e : EngineIx) (g : EngSt) : (s.setEng e g).tiles = s.tiles := rfl
@[simp] theorem State.setEng_mem (s : State) (e : EngineIx) (g : EngSt) : (s.setEng e g).mem = { s.mem with engines := s.mem.engines.set e g } := rfl
@[simp] theorem State.setEng_jobs (s : State) (e : EngineIx) (g : EngSt) : (s.setEng e g).jobs = s.jobs := rfl
@[simp] theorem State.setEng_check (s : State) (e : EngineIx) (g : EngSt) : (s.setEng e g).check = s.check := rfl
@[simp] theorem State.setEng_clk (s : State) (e : EngineIx) (g : EngSt) : (s.setEng e g).clk = s.clk := rfl
@[simp] theorem State.setEng_tally (s : State) (e : EngineIx) (g : EngSt) : (s.setEng e g).tally = s.tally := rfl
@[simp] theorem State.setEng_pwr (s : State) (e : EngineIx) (g : EngSt) : (s.setEng e g).pwr = s.pwr := rfl
@[simp] theorem State.setEng_link (s : State) (e : EngineIx) (g : EngSt) : (s.setEng e g).link = s.link := rfl
@[simp] theorem State.setEng_host (s : State) (e : EngineIx) (g : EngSt) : (s.setEng e g).host = s.host := rfl
@[simp] theorem State.setEng_prot (s : State) (e : EngineIx) (g : EngSt) : (s.setEng e g).prot = s.prot := rfl
@[simp] theorem State.setEng_ctr (s : State) (e : EngineIx) (g : EngSt) : (s.setEng e g).ctr = s.ctr := rfl
@[simp] theorem State.setEng_tctr (s : State) (e : EngineIx) (g : EngSt) : (s.setEng e g).tctr = s.tctr := rfl
@[simp] theorem State.setEng_events (s : State) (e : EngineIx) (g : EngSt) : (s.setEng e g).events = s.events := rfl
@[simp] theorem State.setEng_out (s : State) (e : EngineIx) (g : EngSt) : (s.setEng e g).out = s.out := rfl
@[simp] theorem State.setEng_draws (s : State) (e : EngineIx) (g : EngSt) : (s.setEng e g).draws = s.draws := rfl

/-! ## updEng -/

@[simp] theorem State.updEng_pending (s : State) (e : EngineIx) (f : EngSt → EngSt) : (s.updEng e f).pending = s.pending := rfl
@[simp] theorem State.updEng_fuses (s : State) (e : EngineIx) (f : EngSt → EngSt) : (s.updEng e f).fuses = s.fuses := rfl
@[simp] theorem State.updEng_life (s : State) (e : EngineIx) (f : EngSt → EngSt) : (s.updEng e f).life = s.life := rfl
@[simp] theorem State.updEng_boot (s : State) (e : EngineIx) (f : EngSt → EngSt) : (s.updEng e f).boot = s.boot := rfl
@[simp] theorem State.updEng_grid (s : State) (e : EngineIx) (f : EngSt → EngSt) : (s.updEng e f).grid = s.grid := rfl
@[simp] theorem State.updEng_tiles (s : State) (e : EngineIx) (f : EngSt → EngSt) : (s.updEng e f).tiles = s.tiles := rfl
@[simp] theorem State.updEng_mem (s : State) (e : EngineIx) (f : EngSt → EngSt) : (s.updEng e f).mem = { s.mem with engines := s.mem.engines.set e (f (s.eng e)) } := rfl
@[simp] theorem State.updEng_jobs (s : State) (e : EngineIx) (f : EngSt → EngSt) : (s.updEng e f).jobs = s.jobs := rfl
@[simp] theorem State.updEng_check (s : State) (e : EngineIx) (f : EngSt → EngSt) : (s.updEng e f).check = s.check := rfl
@[simp] theorem State.updEng_clk (s : State) (e : EngineIx) (f : EngSt → EngSt) : (s.updEng e f).clk = s.clk := rfl
@[simp] theorem State.updEng_tally (s : State) (e : EngineIx) (f : EngSt → EngSt) : (s.updEng e f).tally = s.tally := rfl
@[simp] theorem State.updEng_pwr (s : State) (e : EngineIx) (f : EngSt → EngSt) : (s.updEng e f).pwr = s.pwr := rfl
@[simp] theorem State.updEng_link (s : State) (e : EngineIx) (f : EngSt → EngSt) : (s.updEng e f).link = s.link := rfl
@[simp] theorem State.updEng_host (s : State) (e : EngineIx) (f : EngSt → EngSt) : (s.updEng e f).host = s.host := rfl
@[simp] theorem State.updEng_prot (s : State) (e : EngineIx) (f : EngSt → EngSt) : (s.updEng e f).prot = s.prot := rfl
@[simp] theorem State.updEng_ctr (s : State) (e : EngineIx) (f : EngSt → EngSt) : (s.updEng e f).ctr = s.ctr := rfl
@[simp] theorem State.updEng_tctr (s : State) (e : EngineIx) (f : EngSt → EngSt) : (s.updEng e f).tctr = s.tctr := rfl
@[simp] theorem State.updEng_events (s : State) (e : EngineIx) (f : EngSt → EngSt) : (s.updEng e f).events = s.events := rfl
@[simp] theorem State.updEng_out (s : State) (e : EngineIx) (f : EngSt → EngSt) : (s.updEng e f).out = s.out := rfl
@[simp] theorem State.updEng_draws (s : State) (e : EngineIx) (f : EngSt → EngSt) : (s.updEng e f).draws = s.draws := rfl

/-! ## setLink -/

@[simp] theorem State.setLink_pending (s : State) (l : Nat) (k : LinkSt) : (s.setLink l k).pending = s.pending := rfl
@[simp] theorem State.setLink_fuses (s : State) (l : Nat) (k : LinkSt) : (s.setLink l k).fuses = s.fuses := rfl
@[simp] theorem State.setLink_life (s : State) (l : Nat) (k : LinkSt) : (s.setLink l k).life = s.life := rfl
@[simp] theorem State.setLink_boot (s : State) (l : Nat) (k : LinkSt) : (s.setLink l k).boot = s.boot := rfl
@[simp] theorem State.setLink_grid (s : State) (l : Nat) (k : LinkSt) : (s.setLink l k).grid = s.grid := rfl
@[simp] theorem State.setLink_tiles (s : State) (l : Nat) (k : LinkSt) : (s.setLink l k).tiles = s.tiles := rfl
@[simp] theorem State.setLink_mem (s : State) (l : Nat) (k : LinkSt) : (s.setLink l k).mem = s.mem := rfl
@[simp] theorem State.setLink_jobs (s : State) (l : Nat) (k : LinkSt) : (s.setLink l k).jobs = s.jobs := rfl
@[simp] theorem State.setLink_check (s : State) (l : Nat) (k : LinkSt) : (s.setLink l k).check = s.check := rfl
@[simp] theorem State.setLink_clk (s : State) (l : Nat) (k : LinkSt) : (s.setLink l k).clk = s.clk := rfl
@[simp] theorem State.setLink_tally (s : State) (l : Nat) (k : LinkSt) : (s.setLink l k).tally = s.tally := rfl
@[simp] theorem State.setLink_pwr (s : State) (l : Nat) (k : LinkSt) : (s.setLink l k).pwr = s.pwr := rfl
@[simp] theorem State.setLink_link (s : State) (l : Nat) (k : LinkSt) : (s.setLink l k).link = { s.link with links := s.link.links.set (linkIx l) k } := rfl
@[simp] theorem State.setLink_host (s : State) (l : Nat) (k : LinkSt) : (s.setLink l k).host = s.host := rfl
@[simp] theorem State.setLink_prot (s : State) (l : Nat) (k : LinkSt) : (s.setLink l k).prot = s.prot := rfl
@[simp] theorem State.setLink_ctr (s : State) (l : Nat) (k : LinkSt) : (s.setLink l k).ctr = s.ctr := rfl
@[simp] theorem State.setLink_tctr (s : State) (l : Nat) (k : LinkSt) : (s.setLink l k).tctr = s.tctr := rfl
@[simp] theorem State.setLink_events (s : State) (l : Nat) (k : LinkSt) : (s.setLink l k).events = s.events := rfl
@[simp] theorem State.setLink_out (s : State) (l : Nat) (k : LinkSt) : (s.setLink l k).out = s.out := rfl
@[simp] theorem State.setLink_draws (s : State) (l : Nat) (k : LinkSt) : (s.setLink l k).draws = s.draws := rfl

/-! ## updLink -/

@[simp] theorem State.updLink_pending (s : State) (l : Nat) (f : LinkSt → LinkSt) : (s.updLink l f).pending = s.pending := rfl
@[simp] theorem State.updLink_fuses (s : State) (l : Nat) (f : LinkSt → LinkSt) : (s.updLink l f).fuses = s.fuses := rfl
@[simp] theorem State.updLink_life (s : State) (l : Nat) (f : LinkSt → LinkSt) : (s.updLink l f).life = s.life := rfl
@[simp] theorem State.updLink_boot (s : State) (l : Nat) (f : LinkSt → LinkSt) : (s.updLink l f).boot = s.boot := rfl
@[simp] theorem State.updLink_grid (s : State) (l : Nat) (f : LinkSt → LinkSt) : (s.updLink l f).grid = s.grid := rfl
@[simp] theorem State.updLink_tiles (s : State) (l : Nat) (f : LinkSt → LinkSt) : (s.updLink l f).tiles = s.tiles := rfl
@[simp] theorem State.updLink_mem (s : State) (l : Nat) (f : LinkSt → LinkSt) : (s.updLink l f).mem = s.mem := rfl
@[simp] theorem State.updLink_jobs (s : State) (l : Nat) (f : LinkSt → LinkSt) : (s.updLink l f).jobs = s.jobs := rfl
@[simp] theorem State.updLink_check (s : State) (l : Nat) (f : LinkSt → LinkSt) : (s.updLink l f).check = s.check := rfl
@[simp] theorem State.updLink_clk (s : State) (l : Nat) (f : LinkSt → LinkSt) : (s.updLink l f).clk = s.clk := rfl
@[simp] theorem State.updLink_tally (s : State) (l : Nat) (f : LinkSt → LinkSt) : (s.updLink l f).tally = s.tally := rfl
@[simp] theorem State.updLink_pwr (s : State) (l : Nat) (f : LinkSt → LinkSt) : (s.updLink l f).pwr = s.pwr := rfl
@[simp] theorem State.updLink_link (s : State) (l : Nat) (f : LinkSt → LinkSt) : (s.updLink l f).link = { s.link with links := s.link.links.set (linkIx l) (f (s.linkSt l)) } := rfl
@[simp] theorem State.updLink_host (s : State) (l : Nat) (f : LinkSt → LinkSt) : (s.updLink l f).host = s.host := rfl
@[simp] theorem State.updLink_prot (s : State) (l : Nat) (f : LinkSt → LinkSt) : (s.updLink l f).prot = s.prot := rfl
@[simp] theorem State.updLink_ctr (s : State) (l : Nat) (f : LinkSt → LinkSt) : (s.updLink l f).ctr = s.ctr := rfl
@[simp] theorem State.updLink_tctr (s : State) (l : Nat) (f : LinkSt → LinkSt) : (s.updLink l f).tctr = s.tctr := rfl
@[simp] theorem State.updLink_events (s : State) (l : Nat) (f : LinkSt → LinkSt) : (s.updLink l f).events = s.events := rfl
@[simp] theorem State.updLink_out (s : State) (l : Nat) (f : LinkSt → LinkSt) : (s.updLink l f).out = s.out := rfl
@[simp] theorem State.updLink_draws (s : State) (l : Nat) (f : LinkSt → LinkSt) : (s.updLink l f).draws = s.draws := rfl

/-! ## updZone -/

@[simp] theorem State.updZone_pending (s : State) (z : Nat) (f : ZonePwr → ZonePwr) : (s.updZone z f).pending = s.pending := rfl
@[simp] theorem State.updZone_fuses (s : State) (z : Nat) (f : ZonePwr → ZonePwr) : (s.updZone z f).fuses = s.fuses := rfl
@[simp] theorem State.updZone_life (s : State) (z : Nat) (f : ZonePwr → ZonePwr) : (s.updZone z f).life = s.life := rfl
@[simp] theorem State.updZone_boot (s : State) (z : Nat) (f : ZonePwr → ZonePwr) : (s.updZone z f).boot = s.boot := rfl
@[simp] theorem State.updZone_grid (s : State) (z : Nat) (f : ZonePwr → ZonePwr) : (s.updZone z f).grid = s.grid := rfl
@[simp] theorem State.updZone_tiles (s : State) (z : Nat) (f : ZonePwr → ZonePwr) : (s.updZone z f).tiles = s.tiles := rfl
@[simp] theorem State.updZone_mem (s : State) (z : Nat) (f : ZonePwr → ZonePwr) : (s.updZone z f).mem = s.mem := rfl
@[simp] theorem State.updZone_jobs (s : State) (z : Nat) (f : ZonePwr → ZonePwr) : (s.updZone z f).jobs = s.jobs := rfl
@[simp] theorem State.updZone_check (s : State) (z : Nat) (f : ZonePwr → ZonePwr) : (s.updZone z f).check = s.check := rfl
@[simp] theorem State.updZone_clk (s : State) (z : Nat) (f : ZonePwr → ZonePwr) : (s.updZone z f).clk = s.clk := rfl
@[simp] theorem State.updZone_tally (s : State) (z : Nat) (f : ZonePwr → ZonePwr) : (s.updZone z f).tally = s.tally := rfl
@[simp] theorem State.updZone_link (s : State) (z : Nat) (f : ZonePwr → ZonePwr) : (s.updZone z f).link = s.link := rfl
@[simp] theorem State.updZone_host (s : State) (z : Nat) (f : ZonePwr → ZonePwr) : (s.updZone z f).host = s.host := rfl
@[simp] theorem State.updZone_prot (s : State) (z : Nat) (f : ZonePwr → ZonePwr) : (s.updZone z f).prot = s.prot := rfl
@[simp] theorem State.updZone_ctr (s : State) (z : Nat) (f : ZonePwr → ZonePwr) : (s.updZone z f).ctr = s.ctr := rfl
@[simp] theorem State.updZone_tctr (s : State) (z : Nat) (f : ZonePwr → ZonePwr) : (s.updZone z f).tctr = s.tctr := rfl
@[simp] theorem State.updZone_events (s : State) (z : Nat) (f : ZonePwr → ZonePwr) : (s.updZone z f).events = s.events := rfl
@[simp] theorem State.updZone_out (s : State) (z : Nat) (f : ZonePwr → ZonePwr) : (s.updZone z f).out = s.out := rfl
@[simp] theorem State.updZone_draws (s : State) (z : Nat) (f : ZonePwr → ZonePwr) : (s.updZone z f).draws = s.draws := rfl

/-! ## updZoneClk -/

@[simp] theorem State.updZoneClk_pending (s : State) (z : Nat) (f : ZoneClk → ZoneClk) : (s.updZoneClk z f).pending = s.pending := rfl
@[simp] theorem State.updZoneClk_fuses (s : State) (z : Nat) (f : ZoneClk → ZoneClk) : (s.updZoneClk z f).fuses = s.fuses := rfl
@[simp] theorem State.updZoneClk_life (s : State) (z : Nat) (f : ZoneClk → ZoneClk) : (s.updZoneClk z f).life = s.life := rfl
@[simp] theorem State.updZoneClk_boot (s : State) (z : Nat) (f : ZoneClk → ZoneClk) : (s.updZoneClk z f).boot = s.boot := rfl
@[simp] theorem State.updZoneClk_grid (s : State) (z : Nat) (f : ZoneClk → ZoneClk) : (s.updZoneClk z f).grid = s.grid := rfl
@[simp] theorem State.updZoneClk_tiles (s : State) (z : Nat) (f : ZoneClk → ZoneClk) : (s.updZoneClk z f).tiles = s.tiles := rfl
@[simp] theorem State.updZoneClk_mem (s : State) (z : Nat) (f : ZoneClk → ZoneClk) : (s.updZoneClk z f).mem = s.mem := rfl
@[simp] theorem State.updZoneClk_jobs (s : State) (z : Nat) (f : ZoneClk → ZoneClk) : (s.updZoneClk z f).jobs = s.jobs := rfl
@[simp] theorem State.updZoneClk_check (s : State) (z : Nat) (f : ZoneClk → ZoneClk) : (s.updZoneClk z f).check = s.check := rfl
@[simp] theorem State.updZoneClk_tally (s : State) (z : Nat) (f : ZoneClk → ZoneClk) : (s.updZoneClk z f).tally = s.tally := rfl
@[simp] theorem State.updZoneClk_pwr (s : State) (z : Nat) (f : ZoneClk → ZoneClk) : (s.updZoneClk z f).pwr = s.pwr := rfl
@[simp] theorem State.updZoneClk_link (s : State) (z : Nat) (f : ZoneClk → ZoneClk) : (s.updZoneClk z f).link = s.link := rfl
@[simp] theorem State.updZoneClk_host (s : State) (z : Nat) (f : ZoneClk → ZoneClk) : (s.updZoneClk z f).host = s.host := rfl
@[simp] theorem State.updZoneClk_prot (s : State) (z : Nat) (f : ZoneClk → ZoneClk) : (s.updZoneClk z f).prot = s.prot := rfl
@[simp] theorem State.updZoneClk_ctr (s : State) (z : Nat) (f : ZoneClk → ZoneClk) : (s.updZoneClk z f).ctr = s.ctr := rfl
@[simp] theorem State.updZoneClk_tctr (s : State) (z : Nat) (f : ZoneClk → ZoneClk) : (s.updZoneClk z f).tctr = s.tctr := rfl
@[simp] theorem State.updZoneClk_events (s : State) (z : Nat) (f : ZoneClk → ZoneClk) : (s.updZoneClk z f).events = s.events := rfl
@[simp] theorem State.updZoneClk_out (s : State) (z : Nat) (f : ZoneClk → ZoneClk) : (s.updZoneClk z f).out = s.out := rfl
@[simp] theorem State.updZoneClk_draws (s : State) (z : Nat) (f : ZoneClk → ZoneClk) : (s.updZoneClk z f).draws = s.draws := rfl

/-! ## updToken -/

@[simp] theorem State.updToken_pending (s : State) (f : TokenSt → TokenSt) : (s.updToken f).pending = s.pending := rfl
@[simp] theorem State.updToken_fuses (s : State) (f : TokenSt → TokenSt) : (s.updToken f).fuses = s.fuses := rfl
@[simp] theorem State.updToken_life (s : State) (f : TokenSt → TokenSt) : (s.updToken f).life = s.life := rfl
@[simp] theorem State.updToken_boot (s : State) (f : TokenSt → TokenSt) : (s.updToken f).boot = s.boot := rfl
@[simp] theorem State.updToken_grid (s : State) (f : TokenSt → TokenSt) : (s.updToken f).grid = s.grid := rfl
@[simp] theorem State.updToken_tiles (s : State) (f : TokenSt → TokenSt) : (s.updToken f).tiles = s.tiles := rfl
@[simp] theorem State.updToken_mem (s : State) (f : TokenSt → TokenSt) : (s.updToken f).mem = s.mem := rfl
@[simp] theorem State.updToken_jobs (s : State) (f : TokenSt → TokenSt) : (s.updToken f).jobs = s.jobs := rfl
@[simp] theorem State.updToken_check (s : State) (f : TokenSt → TokenSt) : (s.updToken f).check = s.check := rfl
@[simp] theorem State.updToken_clk (s : State) (f : TokenSt → TokenSt) : (s.updToken f).clk = s.clk := rfl
@[simp] theorem State.updToken_tally (s : State) (f : TokenSt → TokenSt) : (s.updToken f).tally = s.tally := rfl
@[simp] theorem State.updToken_pwr (s : State) (f : TokenSt → TokenSt) : (s.updToken f).pwr = { s.pwr with token := f s.pwr.token } := rfl
@[simp] theorem State.updToken_link (s : State) (f : TokenSt → TokenSt) : (s.updToken f).link = s.link := rfl
@[simp] theorem State.updToken_host (s : State) (f : TokenSt → TokenSt) : (s.updToken f).host = s.host := rfl
@[simp] theorem State.updToken_prot (s : State) (f : TokenSt → TokenSt) : (s.updToken f).prot = s.prot := rfl
@[simp] theorem State.updToken_ctr (s : State) (f : TokenSt → TokenSt) : (s.updToken f).ctr = s.ctr := rfl
@[simp] theorem State.updToken_tctr (s : State) (f : TokenSt → TokenSt) : (s.updToken f).tctr = s.tctr := rfl
@[simp] theorem State.updToken_events (s : State) (f : TokenSt → TokenSt) : (s.updToken f).events = s.events := rfl
@[simp] theorem State.updToken_out (s : State) (f : TokenSt → TokenSt) : (s.updToken f).out = s.out := rfl
@[simp] theorem State.updToken_draws (s : State) (f : TokenSt → TokenSt) : (s.updToken f).draws = s.draws := rfl

/-! ## updPort -/

@[simp] theorem State.updPort_pending (s : State) (p : Nat) (f : PortSt → PortSt) : (s.updPort p f).pending = s.pending := rfl
@[simp] theorem State.updPort_fuses (s : State) (p : Nat) (f : PortSt → PortSt) : (s.updPort p f).fuses = s.fuses := rfl
@[simp] theorem State.updPort_life (s : State) (p : Nat) (f : PortSt → PortSt) : (s.updPort p f).life = s.life := rfl
@[simp] theorem State.updPort_boot (s : State) (p : Nat) (f : PortSt → PortSt) : (s.updPort p f).boot = s.boot := rfl
@[simp] theorem State.updPort_grid (s : State) (p : Nat) (f : PortSt → PortSt) : (s.updPort p f).grid = s.grid := rfl
@[simp] theorem State.updPort_tiles (s : State) (p : Nat) (f : PortSt → PortSt) : (s.updPort p f).tiles = s.tiles := rfl
@[simp] theorem State.updPort_mem (s : State) (p : Nat) (f : PortSt → PortSt) : (s.updPort p f).mem = s.mem := rfl
@[simp] theorem State.updPort_jobs (s : State) (p : Nat) (f : PortSt → PortSt) : (s.updPort p f).jobs = s.jobs := rfl
@[simp] theorem State.updPort_check (s : State) (p : Nat) (f : PortSt → PortSt) : (s.updPort p f).check = s.check := rfl
@[simp] theorem State.updPort_clk (s : State) (p : Nat) (f : PortSt → PortSt) : (s.updPort p f).clk = s.clk := rfl
@[simp] theorem State.updPort_tally (s : State) (p : Nat) (f : PortSt → PortSt) : (s.updPort p f).tally = s.tally := rfl
@[simp] theorem State.updPort_pwr (s : State) (p : Nat) (f : PortSt → PortSt) : (s.updPort p f).pwr = s.pwr := rfl
@[simp] theorem State.updPort_host (s : State) (p : Nat) (f : PortSt → PortSt) : (s.updPort p f).host = s.host := rfl
@[simp] theorem State.updPort_prot (s : State) (p : Nat) (f : PortSt → PortSt) : (s.updPort p f).prot = s.prot := rfl
@[simp] theorem State.updPort_ctr (s : State) (p : Nat) (f : PortSt → PortSt) : (s.updPort p f).ctr = s.ctr := rfl
@[simp] theorem State.updPort_tctr (s : State) (p : Nat) (f : PortSt → PortSt) : (s.updPort p f).tctr = s.tctr := rfl
@[simp] theorem State.updPort_events (s : State) (p : Nat) (f : PortSt → PortSt) : (s.updPort p f).events = s.events := rfl
@[simp] theorem State.updPort_out (s : State) (p : Nat) (f : PortSt → PortSt) : (s.updPort p f).out = s.out := rfl
@[simp] theorem State.updPort_draws (s : State) (p : Nat) (f : PortSt → PortSt) : (s.updPort p f).draws = s.draws := rfl

/-! ## setMbx -/

@[simp] theorem State.setMbx_pending (s : State) (n : Nat) (m : Mbx) : (s.setMbx n m).pending = s.pending := rfl
@[simp] theorem State.setMbx_fuses (s : State) (n : Nat) (m : Mbx) : (s.setMbx n m).fuses = s.fuses := rfl
@[simp] theorem State.setMbx_life (s : State) (n : Nat) (m : Mbx) : (s.setMbx n m).life = s.life := rfl
@[simp] theorem State.setMbx_boot (s : State) (n : Nat) (m : Mbx) : (s.setMbx n m).boot = s.boot := rfl
@[simp] theorem State.setMbx_grid (s : State) (n : Nat) (m : Mbx) : (s.setMbx n m).grid = s.grid := rfl
@[simp] theorem State.setMbx_tiles (s : State) (n : Nat) (m : Mbx) : (s.setMbx n m).tiles = s.tiles := rfl
@[simp] theorem State.setMbx_mem (s : State) (n : Nat) (m : Mbx) : (s.setMbx n m).mem = s.mem := rfl
@[simp] theorem State.setMbx_jobs (s : State) (n : Nat) (m : Mbx) : (s.setMbx n m).jobs = s.jobs := rfl
@[simp] theorem State.setMbx_check (s : State) (n : Nat) (m : Mbx) : (s.setMbx n m).check = s.check := rfl
@[simp] theorem State.setMbx_clk (s : State) (n : Nat) (m : Mbx) : (s.setMbx n m).clk = s.clk := rfl
@[simp] theorem State.setMbx_tally (s : State) (n : Nat) (m : Mbx) : (s.setMbx n m).tally = s.tally := rfl
@[simp] theorem State.setMbx_pwr (s : State) (n : Nat) (m : Mbx) : (s.setMbx n m).pwr = s.pwr := rfl
@[simp] theorem State.setMbx_link (s : State) (n : Nat) (m : Mbx) : (s.setMbx n m).link = s.link := rfl
@[simp] theorem State.setMbx_prot (s : State) (n : Nat) (m : Mbx) : (s.setMbx n m).prot = s.prot := rfl
@[simp] theorem State.setMbx_ctr (s : State) (n : Nat) (m : Mbx) : (s.setMbx n m).ctr = s.ctr := rfl
@[simp] theorem State.setMbx_tctr (s : State) (n : Nat) (m : Mbx) : (s.setMbx n m).tctr = s.tctr := rfl
@[simp] theorem State.setMbx_events (s : State) (n : Nat) (m : Mbx) : (s.setMbx n m).events = s.events := rfl
@[simp] theorem State.setMbx_out (s : State) (n : Nat) (m : Mbx) : (s.setMbx n m).out = s.out := rfl
@[simp] theorem State.setMbx_draws (s : State) (n : Nat) (m : Mbx) : (s.setMbx n m).draws = s.draws := rfl

/-! ## stackWrite -/

@[simp] theorem State.stackWrite_pending (s : State) (st loc : Nat) (bs : List Byte) (p : Bool) : (s.stackWrite st loc bs p).pending = s.pending := rfl
@[simp] theorem State.stackWrite_fuses (s : State) (st loc : Nat) (bs : List Byte) (p : Bool) : (s.stackWrite st loc bs p).fuses = s.fuses := rfl
@[simp] theorem State.stackWrite_life (s : State) (st loc : Nat) (bs : List Byte) (p : Bool) : (s.stackWrite st loc bs p).life = s.life := rfl
@[simp] theorem State.stackWrite_boot (s : State) (st loc : Nat) (bs : List Byte) (p : Bool) : (s.stackWrite st loc bs p).boot = s.boot := rfl
@[simp] theorem State.stackWrite_grid (s : State) (st loc : Nat) (bs : List Byte) (p : Bool) : (s.stackWrite st loc bs p).grid = s.grid := rfl
@[simp] theorem State.stackWrite_tiles (s : State) (st loc : Nat) (bs : List Byte) (p : Bool) : (s.stackWrite st loc bs p).tiles = s.tiles := rfl
@[simp] theorem State.stackWrite_jobs (s : State) (st loc : Nat) (bs : List Byte) (p : Bool) : (s.stackWrite st loc bs p).jobs = s.jobs := rfl
@[simp] theorem State.stackWrite_check (s : State) (st loc : Nat) (bs : List Byte) (p : Bool) : (s.stackWrite st loc bs p).check = s.check := rfl
@[simp] theorem State.stackWrite_clk (s : State) (st loc : Nat) (bs : List Byte) (p : Bool) : (s.stackWrite st loc bs p).clk = s.clk := rfl
@[simp] theorem State.stackWrite_tally (s : State) (st loc : Nat) (bs : List Byte) (p : Bool) : (s.stackWrite st loc bs p).tally = s.tally := rfl
@[simp] theorem State.stackWrite_pwr (s : State) (st loc : Nat) (bs : List Byte) (p : Bool) : (s.stackWrite st loc bs p).pwr = s.pwr := rfl
@[simp] theorem State.stackWrite_link (s : State) (st loc : Nat) (bs : List Byte) (p : Bool) : (s.stackWrite st loc bs p).link = s.link := rfl
@[simp] theorem State.stackWrite_host (s : State) (st loc : Nat) (bs : List Byte) (p : Bool) : (s.stackWrite st loc bs p).host = s.host := rfl
@[simp] theorem State.stackWrite_prot (s : State) (st loc : Nat) (bs : List Byte) (p : Bool) : (s.stackWrite st loc bs p).prot = s.prot := rfl
@[simp] theorem State.stackWrite_ctr (s : State) (st loc : Nat) (bs : List Byte) (p : Bool) : (s.stackWrite st loc bs p).ctr = s.ctr := rfl
@[simp] theorem State.stackWrite_tctr (s : State) (st loc : Nat) (bs : List Byte) (p : Bool) : (s.stackWrite st loc bs p).tctr = s.tctr := rfl
@[simp] theorem State.stackWrite_events (s : State) (st loc : Nat) (bs : List Byte) (p : Bool) : (s.stackWrite st loc bs p).events = s.events := rfl
@[simp] theorem State.stackWrite_out (s : State) (st loc : Nat) (bs : List Byte) (p : Bool) : (s.stackWrite st loc bs p).out = s.out := rfl
@[simp] theorem State.stackWrite_draws (s : State) (st loc : Nat) (bs : List Byte) (p : Bool) : (s.stackWrite st loc bs p).draws = s.draws := rfl

/-! ## putLine -/

@[simp] theorem State.putLine_pending (s : State) (st loc : Nat) (v : V512) (p : Bool) : (s.putLine st loc v p).pending = s.pending := rfl
@[simp] theorem State.putLine_fuses (s : State) (st loc : Nat) (v : V512) (p : Bool) : (s.putLine st loc v p).fuses = s.fuses := rfl
@[simp] theorem State.putLine_life (s : State) (st loc : Nat) (v : V512) (p : Bool) : (s.putLine st loc v p).life = s.life := rfl
@[simp] theorem State.putLine_boot (s : State) (st loc : Nat) (v : V512) (p : Bool) : (s.putLine st loc v p).boot = s.boot := rfl
@[simp] theorem State.putLine_grid (s : State) (st loc : Nat) (v : V512) (p : Bool) : (s.putLine st loc v p).grid = s.grid := rfl
@[simp] theorem State.putLine_tiles (s : State) (st loc : Nat) (v : V512) (p : Bool) : (s.putLine st loc v p).tiles = s.tiles := rfl
@[simp] theorem State.putLine_jobs (s : State) (st loc : Nat) (v : V512) (p : Bool) : (s.putLine st loc v p).jobs = s.jobs := rfl
@[simp] theorem State.putLine_check (s : State) (st loc : Nat) (v : V512) (p : Bool) : (s.putLine st loc v p).check = s.check := rfl
@[simp] theorem State.putLine_clk (s : State) (st loc : Nat) (v : V512) (p : Bool) : (s.putLine st loc v p).clk = s.clk := rfl
@[simp] theorem State.putLine_tally (s : State) (st loc : Nat) (v : V512) (p : Bool) : (s.putLine st loc v p).tally = s.tally := rfl
@[simp] theorem State.putLine_pwr (s : State) (st loc : Nat) (v : V512) (p : Bool) : (s.putLine st loc v p).pwr = s.pwr := rfl
@[simp] theorem State.putLine_link (s : State) (st loc : Nat) (v : V512) (p : Bool) : (s.putLine st loc v p).link = s.link := rfl
@[simp] theorem State.putLine_host (s : State) (st loc : Nat) (v : V512) (p : Bool) : (s.putLine st loc v p).host = s.host := rfl
@[simp] theorem State.putLine_prot (s : State) (st loc : Nat) (v : V512) (p : Bool) : (s.putLine st loc v p).prot = s.prot := rfl
@[simp] theorem State.putLine_ctr (s : State) (st loc : Nat) (v : V512) (p : Bool) : (s.putLine st loc v p).ctr = s.ctr := rfl
@[simp] theorem State.putLine_tctr (s : State) (st loc : Nat) (v : V512) (p : Bool) : (s.putLine st loc v p).tctr = s.tctr := rfl
@[simp] theorem State.putLine_events (s : State) (st loc : Nat) (v : V512) (p : Bool) : (s.putLine st loc v p).events = s.events := rfl
@[simp] theorem State.putLine_out (s : State) (st loc : Nat) (v : V512) (p : Bool) : (s.putLine st loc v p).out = s.out := rfl
@[simp] theorem State.putLine_draws (s : State) (st loc : Nat) (v : V512) (p : Bool) : (s.putLine st loc v p).draws = s.draws := rfl

end Sys2Proof.Machine
end

