-- ==== Sys2Proof/Laws/Core.lean ====
section
/-! SUPPORT. What the issue of a core instruction does, said once: a ready core takes the body of its instruction on the tile brought up to the
issue cycle, or traps with the lowest cause. -/

namespace Sys2Proof.Machine

@[simp] theorem TOut.of_tile (t : Tile) : (TOut.of t).tile = t := rfl
@[simp] theorem TOut.of_bumps (t : Tile) : (TOut.of t).bumps = [] := rfl
@[simp] theorem TOut.of_hits (t : Tile) : (TOut.of t).hits = [] := rfl
@[simp] theorem TOut.of_andThen (t : Tile) (f : Tile → TOut) : (TOut.of t).andThen f = f t := rfl
@[simp] theorem TOut.of_upd (t : Tile) (f : Tile → Tile) : (TOut.of t).upd f = TOut.of (f t) := rfl
@[simp] theorem TOut.bump_zero (o : TOut) (k : Nat) : o.bump k 0 = o := rfl

theorem retireOps_idle (c : Nat) (f : FrameSt) (h : f.ops = []) : retireOps c f = f := by
  cases f; simp_all [retireOps]

theorem frameTo_idle (t0 : Nat) (t : Tile) (h : t.frame.ops = []) : frameTo t0 t = TOut.of (t.atCycle t0) := by
  unfold frameTo
  cases hn : t0 + 1 - t.frame.clk with
  | zero =>
    have : max t.frame.clk t0 = t.frame.clk := by omega
    simp [frameRun, Tile.atCycle, Tile.updFrame, this]
  | succ n =>
    have hd : nextDue t.frame.ops = none := by rw [h]; rfl
    simp only [frameRun, hd]
    exact congrArg (fun f => TOut.of { t with frame := f }) (retireOps_idle t0 { t.frame with clk := max t.frame.clk t0 } h)

@[simp] theorem Tile.atCycle_core (t : Tile) (n : Nat) (c : CoreIx) : (t.atCycle n).core c = t.core c := rfl
@[simp] theorem Tile.atCycle_cores (t : Tile) (n : Nat) : (t.atCycle n).cores = t.cores := rfl
@[simp] theorem Tile.atCycle_tsk (t : Tile) (n : Nat) : (t.atCycle n).tsk = t.tsk := rfl
@[simp] theorem Tile.atCycle_sp (t : Tile) (n : Nat) : (t.atCycle n).sp = t.sp := rfl
@[simp] theorem Tile.atCycle_spBad (t : Tile) (n : Nat) : (t.atCycle n).spBad = t.spBad := rfl
@[simp] theorem Tile.atCycle_wins (t : Tile) (n : Nat) : (t.atCycle n).wins = t.wins := rfl
@[simp] theorem Tile.atCycle_xr (t : Tile) (n : Nat) : (t.atCycle n).xr = t.xr := rfl
@[simp] theorem Tile.atCycle_upd (t : Tile) (n : Nat) : (t.atCycle n).upd = t.upd := rfl
@[simp] theorem Tile.atCycle_fnTab (t : Tile) (n : Nat) : (t.atCycle n).fnTab = t.fnTab := rfl
@[simp] theorem Tile.atCycle_router (t : Tile) (n : Nat) : (t.atCycle n).router = t.router := rfl
@[simp] theorem mayIssue_atCycle (t : Tile) (n k : Nat) : mayIssue (t.atCycle n) k = mayIssue t k := rfl

theorem spCheck_good (a p n cy : Nat) (t : Tile) (h : t.spBad = []) : spCheck a p n cy t = TOut.of t := by
  simp [spCheck, Tile.badIn, h]

theorem fetchCheck_good (c : CoreIx) (t0 : Nat) (t : Tile) (h : t.spBad = []) : fetchCheck c t0 t = TOut.of t := spCheck_good _ _ _ _ t h

theorem bpCheck_none (c : CoreIx) (t0 : Nat) (t : Tile) (h : ∀ n : Fin 4, ((t.core c).bps[n]).enable = false) : bpCheck c t0 t = TOut.of t := by
  have h0 := h 0; have h1 := h 1; have h2 := h 2; have h3 := h 3
  simp only [bpCheck, h0, h1, h2, h3, Bool.false_and, Bool.or_self, Bool.false_eq_true, if_false]
  rfl

/-- The core of a tile is ready: the facts of `CoreReady` about one tile. -/
structure TileReady (t : Tile) (c : CoreIx) (t0 : Nat) : Prop where
  running : (t.core c).run = .running
  may : mayIssue t t0 = true
  pc : (t.core c).pc ≤ 65535
  idle : t.frame.ops = []
  parity : t.spBad = []
  noBreak : ∀ n : Fin 4, ((t.core c).bps[n]).enable = false

theorem CoreReady.tile {s : State} {i : CoreAt} {srcs dsts : List Nat} {row : Option Nat} (h : CoreReady s i srcs dsts row) :
    TileReady (s.tile i.tile.val) i.core (issueCycle ((s.tile i.tile.val).core i.core) srcs dsts row) :=
  ⟨h.running, h.may, h.pc, h.idle, h.parity, h.noBreak⟩

/-- A ready core whose instruction meets no condition of R137 takes its body in the issue cycle. -/
theorem coreGo_ready {c : CoreIx} {major : Nat} {srcs dsts : List Nat} {row : Option Nat} {causes : Tile → List Nat} {body : Nat → Tile → TOut}
    {t : Tile} (h : TileReady t c (issueCycle (t.core c) srcs dsts row))
    (hc : pickCause (causes (t.atCycle (issueCycle (t.core c) srcs dsts row))) = 0) :
    coreGo c major srcs dsts row causes body t
      = body (issueCycle (t.core c) srcs dsts row) (t.atCycle (issueCycle (t.core c) srcs dsts row)) := by
  have hp : ¬ 65535 < (t.core c).pc := by have := h.pc; omega
  unfold coreGo
  simp only [h.running, h.may, and_self, if_true, frameTo_idle _ _ h.idle, TOut.of_tile, mayIssue_atCycle, Bool.not_true, Bool.false_eq_true,
    if_false, hp, TOut.of_andThen]
  rw [fetchCheck_good _ _ _ (by simpa using h.parity), TOut.of_andThen, bpCheck_none _ _ _ (by simpa using h.noBreak), TOut.of_andThen]
  simp [hc]

/-- A ready core whose instruction meets a condition traps with the cause of R138. -/
theorem coreGo_trap {c : CoreIx} {major : Nat} {srcs dsts : List Nat} {row : Option Nat} {causes : Tile → List Nat} {body : Nat → Tile → TOut}
    {t : Tile} (h : TileReady t c (issueCycle (t.core c) srcs dsts row))
    (hc : pickCause (causes (t.atCycle (issueCycle (t.core c) srcs dsts row))) ≠ 0) :
    coreGo c major srcs dsts row causes body t
      = coreTrap c (pickCause (causes (t.atCycle (issueCycle (t.core c) srcs dsts row)))) major (issueCycle (t.core c) srcs dsts row)
          (t.atCycle (issueCycle (t.core c) srcs dsts row)) := by
  have hp : ¬ 65535 < (t.core c).pc := by have := h.pc; omega
  unfold coreGo
  simp only [h.running, h.may, and_self, if_true, frameTo_idle _ _ h.idle, TOut.of_tile, mayIssue_atCycle, Bool.not_true, Bool.false_eq_true,
    if_false, hp, TOut.of_andThen]
  rw [fetchCheck_good _ _ _ (by simpa using h.parity), TOut.of_andThen, bpCheck_none _ _ _ (by simpa using h.noBreak), TOut.of_andThen]
  simp [hc]

/-- A tile operation that counts nothing and hits nothing only replaces its tile. -/
theorem putTile_plain (s : State) (T : Nat) (t : Tile) : s.putTile T (TOut.of t) = s.setTile T t := by
  unfold State.putTile
  simp only [TOut.of_tile, TOut.of_bumps, TOut.of_hits, State.bumps, List.foldl_nil, List.filter_nil, Nat.add_zero, if_true]
  cases t.job <;> rfl

theorem onTile_plain {t : TileIx} {f : TEnv → Tile → TOut} {s : State} {v : Tile} (hg : s.grid.hasTile t.val = true)
    (hf : f (s.env t.val) (s.tile t.val) = TOut.of v) : onTile t f s = .next (s.setTile t.val v) := by
  simp [onTile, hg, hf, putTile_plain]

@[simp] theorem State.tile_setTile_same (s : State) (T : Nat) (v : Tile) (h : SMap.wf Tile.reset s.tiles = true) : (s.setTile T v).tile T = v :=
  SMap.get_put_same Tile.reset s.tiles T v h

theorem State.tile_setTile_ne (s : State) {T U : Nat} (v : Tile) (h : U ≠ T) : (s.setTile T v).tile U = s.tile U :=
  SMap.get_put_ne Tile.reset s.tiles v h

@[simp] theorem Tile.core_setCore_same (t : Tile) (c : CoreIx) (k : CoreSt) : (t.setCore c k).core c = k := by
  simp [Tile.core, Tile.setCore]

theorem Tile.core_setCore_ne (t : Tile) {c d : CoreIx} (k : CoreSt) (h : d ≠ c) : (t.setCore c k).core d = t.core d := by
  simp only [Tile.core, Tile.setCore]
  exact Vector.getElem_set_ne _ _ (fun e => h (Fin.ext e.symm))

/-- An instruction that only changes its core. -/
theorem onlyCore_updCore {s : State} {i : CoreAt} (n : Nat) (f : CoreSt → CoreSt) (hI : SMap.wf Tile.reset s.tiles = true) :
    let u := s.setTile i.tile.val (((s.tile i.tile.val).atCycle n).updCore i.core f)
    onlyCore s u i ∧ u.coreAt i = f (s.coreAt i) := by
  refine ⟨⟨rfl, fun T hT => State.tile_setTile_ne s _ hT, max (s.tile i.tile.val).frame.clk n, ?_⟩, ?_⟩
  · simp only [State.coreAt, State.tile_setTile_same s _ _ hI, Tile.updCore, Tile.core_setCore_same]; rfl
  · simp only [State.coreAt, State.tile_setTile_same s _ _ hI, Tile.updCore, Tile.core_setCore_same]; rfl

/-- An instruction of fixed timing that only changes its core: what R112 and R116 leave, around the core's own change. -/
theorem coreOp_ready {s : State} {i : CoreAt} {major : Nat} {srcs dsts : List Nat} {lat : Nat} {row : Option (Nat × Nat)}
    {causes : Tile → List Nat} {f : CoreSt → CoreSt} (hI : SMap.wf Tile.reset s.tiles = true) (h : CoreReady s i srcs dsts (row.map Prod.fst))
    (hc : pickCause (causes ((s.tile i.tile.val).atCycle (s.issueAt i srcs dsts (row.map Prod.fst)))) = 0) :
    ∃ u, onTile i.tile (fun _ => coreOp i.core major srcs dsts lat row causes f) s = .next u ∧ onlyCore s u i
      ∧ u.coreAt i = retire (s.issueAt i srcs dsts (row.map Prod.fst)) (s.issueAt i srcs dsts (row.map Prod.fst) + 1) lat dsts row (f (s.coreAt i)) := by
  refine ⟨_, onTile_plain h.grid (coreGo_ready h.tile hc), ?_⟩
  exact onlyCore_updCore (s.issueAt i srcs dsts (row.map Prod.fst)) (fun k => retire _ _ lat dsts row (f k)) hI

@[simp] theorem retire_pc (t0 n l : Nat) (d : List Nat) (r : Option (Nat × Nat)) (k : CoreSt) : (retire t0 n l d r k).pc = k.pc + 1 := by
  cases r <;> rfl
@[simp] theorem retire_now (t0 n l : Nat) (d : List Nat) (r : Option (Nat × Nat)) (k : CoreSt) : (retire t0 n l d r k).now = n := by cases r <;> rfl
@[simp] theorem retire_run (t0 n l : Nat) (d : List Nat) (r : Option (Nat × Nat)) (k : CoreSt) : (retire t0 n l d r k).run = k.run := by
  cases r <;> rfl
@[simp] theorem retire_s (t0 n l : Nat) (d : List Nat) (r : Option (Nat × Nat)) (k : CoreSt) : (retire t0 n l d r k).s = k.s := by cases r <;> rfl
@[simp] theorem retire_v (t0 n l : Nat) (d : List Nat) (r : Option (Nat × Nat)) (k : CoreSt) : (retire t0 n l d r k).v = k.v := by cases r <;> rfl
@[simp] theorem retire_vflags (t0 n l : Nat) (d : List Nat) (r : Option (Nat × Nat)) (k : CoreSt) :
    (retire t0 n l d r k).vflags = k.vflags := by cases r <;> rfl
@[simp] theorem retire_cpeak (t0 n l : Nat) (d : List Nat) (r : Option (Nat × Nat)) (k : CoreSt) : (retire t0 n l d r k).cpeak = k.cpeak := by
  cases r <;> rfl
@[simp] theorem retire_etrap (t0 n l : Nat) (d : List Nat) (r : Option (Nat × Nat)) (k : CoreSt) : (retire t0 n l d r k).etrap = k.etrap := by
  cases r <;> rfl
@[simp] theorem retire_vextra (t0 n l : Nat) (d : List Nat) (r : Option (Nat × Nat)) (k : CoreSt) :
    (retire t0 n l d r k).vextra = k.vextra := by cases r <;> rfl
@[simp] theorem retire_copy (t0 n l : Nat) (d : List Nat) (r : Option (Nat × Nat)) (k : CoreSt) : (retire t0 n l d r k).copy = k.copy := by
  cases r <;> rfl
@[simp] theorem retire_wdog (t0 n l : Nat) (d : List Nat) (r : Option (Nat × Nat)) (k : CoreSt) : (retire t0 n l d r k).wdog = k.wdog := by
  cases r <;> rfl
@[simp] theorem retire_getS (t0 n l : Nat) (d : List Nat) (r : Option (Nat × Nat)) (k : CoreSt) (x : Reg) :
    (retire t0 n l d r k).getS x = k.getS x := by simp [CoreSt.getS]

theorem CoreSt.getS_setS (k : CoreSt) (d : Reg) (v : U64) : writesS k (k.setS d v) d v := by
  refine ⟨?_, fun r hr => ?_⟩
  · by_cases h : d = 0 <;> simp [CoreSt.getS, CoreSt.setS, h]
  · by_cases h : d = 0
    · simp [CoreSt.setS, h]
    · simp only [CoreSt.setS, h, if_false, CoreSt.getS]
      split
      · rfl
      · exact Vector.getElem_set_ne _ _ (fun e => hr (Fin.ext e.symm))

@[simp] theorem CoreSt.setS_v (k : CoreSt) (d : Reg) (x : U64) : (k.setS d x).v = k.v := by unfold CoreSt.setS; split <;> rfl
@[simp] theorem CoreSt.setS_pc (k : CoreSt) (d : Reg) (x : U64) : (k.setS d x).pc = k.pc := by unfold CoreSt.setS; split <;> rfl
@[simp] theorem CoreSt.setS_run (k : CoreSt) (d : Reg) (x : U64) : (k.setS d x).run = k.run := by unfold CoreSt.setS; split <;> rfl
@[simp] theorem CoreSt.setS_now (k : CoreSt) (d : Reg) (x : U64) : (k.setS d x).now = k.now := by unfold CoreSt.setS; split <;> rfl
@[simp] theorem CoreSt.setS_vflags (k : CoreSt) (d : Reg) (x : U64) : (k.setS d x).vflags = k.vflags := by unfold CoreSt.setS; split <;> rfl
@[simp] theorem CoreSt.setS_cpeak (k : CoreSt) (d : Reg) (x : U64) : (k.setS d x).cpeak = k.cpeak := by unfold CoreSt.setS; split <;> rfl
@[simp] theorem CoreSt.setS_etrap (k : CoreSt) (d : Reg) (x : U64) : (k.setS d x).etrap = k.etrap := by unfold CoreSt.setS; split <;> rfl
@[simp] theorem CoreSt.setS_vextra (k : CoreSt) (d : Reg) (x : U64) : (k.setS d x).vextra = k.vextra := by unfold CoreSt.setS; split <;> rfl
@[simp] theorem CoreSt.setV_getS (k : CoreSt) (d : VReg) (x : V512) (r : Reg) : (k.setV d x).getS r = k.getS r := rfl

theorem CoreSt.getV_setV (k : CoreSt) (d : VReg) (x : V512) : writesV k (k.setV d x) d x := by
  refine ⟨by simp [CoreSt.setV], fun r hr => ?_⟩
  simp only [CoreSt.setV]
  exact Vector.getElem_set_ne _ _ (fun e => hr (Fin.ext e.symm))

end Sys2Proof.Machine
end

