-- ==== Sys2Proof/Laws/Exec.lean ====
section
/-! SUPPORT. What exec does with each command: the call of its meaning, said once so that no proof unfolds the dispatch. -/

namespace Sys2Proof.Machine

@[simp] theorem exec_coldStart : ∀ s, exec .coldStart s = execColdStart s := by intros; rfl
@[simp] theorem exec_s0Rails : ∀ failedDies strap1 strap2 strap3 s, exec (.s0Rails failedDies strap1 strap2 strap3) s = execS0Rails failedDies strap1 strap2 strap3 s := by intros; rfl
@[simp] theorem exec_s1Boot : ∀ s, exec .s1Boot s = execS1Boot s := by intros; rfl
@[simp] theorem exec_s2FusesAndShadowMap : ∀ fuse0Ok fuse1Ok journalOk s, exec (.s2FusesAndShadowMap fuse0Ok fuse1Ok journalOk) s = execS2FusesAndShadowMap fuse0Ok fuse1Ok journalOk s := by intros; rfl
@[simp] theorem exec_s3DomainsOn : ∀ notGood s, exec (.s3DomainsOn notGood) s = execS3DomainsOn notGood s := by intros; rfl
@[simp] theorem exec_s4ClockAlignment : ∀ failed s, exec (.s4ClockAlignment failed) s = execS4ClockAlignment failed s := by intros; rfl
@[simp] theorem exec_s5TileTest : ∀ defects returnDefects s, exec (.s5TileTest defects returnDefects) s = execS5TileTest defects returnDefects s := by intros; rfl
@[simp] theorem exec_s6StackTraining : ∀ results s, exec (.s6StackTraining results) s = execS6StackTraining results s := by intros; rfl
@[simp] theorem exec_s7EcmetFirmware : ∀ s, exec .s7EcmetFirmware s = execS7EcmetFirmware s := by intros; rfl
@[simp] theorem exec_s8LinkBringup : ∀ failedDies links s, exec (.s8LinkBringup failedDies links) s = execS8LinkBringup failedDies links s := by intros; rfl
@[simp] theorem exec_s9Usable : ∀ elapsedMs s, exec (.s9Usable elapsedMs) s = execS9Usable elapsedMs s := by intros; rfl
@[simp] theorem exec_itemBudgetExpiry : ∀ item s, exec (.itemBudgetExpiry item) s = execItemBudgetExpiry item s := by intros; rfl
@[simp] theorem exec_failedHot : ∀ z s, exec (.failedHot z) s = execFailedHot z s := by intros; rfl
@[simp] theorem exec_warmRestart : ∀ car s, exec (.warmRestart car) s = execWarmRestart car s := by intros; rfl
@[simp] theorem exec_tileFirmwareFetch : ∀ t digestGood s, exec (.tileFirmwareFetch t digestGood) s = execTileFirmwareFetch t digestGood s := by intros; rfl
@[simp] theorem exec_fwUpdateControl : ∀ car v s, exec (.fwUpdateControl car v) s = execFwUpdateControl car v s := by intros; rfl
@[simp] theorem exec_fwChunkBroadcast : ∀ s, exec .fwChunkBroadcast s = execFwChunkBroadcast s := by intros; rfl
@[simp] theorem exec_fwChunkReceive : ∀ t chunk bufferFree digestGood s, exec (.fwChunkReceive t chunk bufferFree digestGood) s = execFwChunkReceive t chunk bufferFree digestGood s := by intros; rfl
@[simp] theorem exec_fwChunkRefetch : ∀ t chunk s, exec (.fwChunkRefetch t chunk) s = execFwChunkRefetch t chunk s := by intros; rfl
@[simp] theorem exec_fwActivation : ∀ s, exec .fwActivation s = execFwActivation s := by intros; rfl
@[simp] theorem exec_fwLaggardTimeout : ∀ s, exec .fwLaggardTimeout s = execFwLaggardTimeout s := by intros; rfl
@[simp] theorem exec_mgmtWatchdogExpiry : ∀ s, exec .mgmtWatchdogExpiry s = execMgmtWatchdogExpiry s := by intros; rfl
@[simp] theorem exec_brownout : ∀ s, exec .brownout s = execBrownout s := by intros; rfl
@[simp] theorem exec_lifeRecordCommit : ∀ s, exec .lifeRecordCommit s = execLifeRecordCommit s := by intros; rfl
@[simp] theorem exec_add : ∀ at1 d a b s, exec (.add at1 d a b) s = execAdd at1 d a b s := by intros; rfl
@[simp] theorem exec_sub : ∀ at1 d a b s, exec (.sub at1 d a b) s = execSub at1 d a b s := by intros; rfl
@[simp] theorem exec_and : ∀ at1 d a b s, exec (.and at1 d a b) s = execAnd at1 d a b s := by intros; rfl
@[simp] theorem exec_or : ∀ at1 d a b s, exec (.or at1 d a b) s = execOr at1 d a b s := by intros; rfl
@[simp] theorem exec_xor : ∀ at1 d a b s, exec (.xor at1 d a b) s = execXor at1 d a b s := by intros; rfl
@[simp] theorem exec_shl : ∀ at1 d a b s, exec (.shl at1 d a b) s = execShl at1 d a b s := by intros; rfl
@[simp] theorem exec_shr : ∀ at1 d a b s, exec (.shr at1 d a b) s = execShr at1 d a b s := by intros; rfl
@[simp] theorem exec_sar : ∀ at1 d a b s, exec (.sar at1 d a b) s = execSar at1 d a b s := by intros; rfl
@[simp] theorem exec_slt : ∀ at1 d a b s, exec (.slt at1 d a b) s = execSlt at1 d a b s := by intros; rfl
@[simp] theorem exec_sltu : ∀ at1 d a b s, exec (.sltu at1 d a b) s = execSltu at1 d a b s := by intros; rfl
@[simp] theorem exec_min : ∀ at1 d a b s, exec (.min at1 d a b) s = execMin at1 d a b s := by intros; rfl
@[simp] theorem exec_max : ∀ at1 d a b s, exec (.max at1 d a b) s = execMax at1 d a b s := by intros; rfl
@[simp] theorem exec_minu : ∀ at1 d a b s, exec (.minu at1 d a b) s = execMinu at1 d a b s := by intros; rfl
@[simp] theorem exec_maxu : ∀ at1 d a b s, exec (.maxu at1 d a b) s = execMaxu at1 d a b s := by intros; rfl
@[simp] theorem exec_mul : ∀ at1 d a b s, exec (.mul at1 d a b) s = execMul at1 d a b s := by intros; rfl
@[simp] theorem exec_mulh : ∀ at1 d a b s, exec (.mulh at1 d a b) s = execMulh at1 d a b s := by intros; rfl
@[simp] theorem exec_mulhu : ∀ at1 d a b s, exec (.mulhu at1 d a b) s = execMulhu at1 d a b s := by intros; rfl
@[simp] theorem exec_div : ∀ at1 d a b s, exec (.div at1 d a b) s = execDiv at1 d a b s := by intros; rfl
@[simp] theorem exec_divu : ∀ at1 d a b s, exec (.divu at1 d a b) s = execDivu at1 d a b s := by intros; rfl
@[simp] theorem exec_rem : ∀ at1 d a b s, exec (.rem at1 d a b) s = execRem at1 d a b s := by intros; rfl
@[simp] theorem exec_remu : ∀ at1 d a b s, exec (.remu at1 d a b) s = execRemu at1 d a b s := by intros; rfl
@[simp] theorem exec_mix64 : ∀ at1 d a b s, exec (.mix64 at1 d a b) s = execMix64 at1 d a b s := by intros; rfl
@[simp] theorem exec_popc : ∀ at1 d a b s, exec (.popc at1 d a b) s = execPopc at1 d a b s := by intros; rfl
@[simp] theorem exec_clz : ∀ at1 d a b s, exec (.clz at1 d a b) s = execClz at1 d a b s := by intros; rfl
@[simp] theorem exec_jr : ∀ at1 d a b s, exec (.jr at1 d a b) s = execJr at1 d a b s := by intros; rfl
@[simp] theorem exec_addi : ∀ at1 d a imm s, exec (.addi at1 d a imm) s = execAddi at1 d a imm s := by intros; rfl
@[simp] theorem exec_andi : ∀ at1 d a imm s, exec (.andi at1 d a imm) s = execAndi at1 d a imm s := by intros; rfl
@[simp] theorem exec_ori : ∀ at1 d a imm s, exec (.ori at1 d a imm) s = execOri at1 d a imm s := by intros; rfl
@[simp] theorem exec_xori : ∀ at1 d a imm s, exec (.xori at1 d a imm) s = execXori at1 d a imm s := by intros; rfl
@[simp] theorem exec_shiftiShl : ∀ at1 d a amt z s, exec (.shiftiShl at1 d a amt z) s = execShiftiShl at1 d a amt z s := by intros; rfl
@[simp] theorem exec_shiftiShr : ∀ at1 d a amt z s, exec (.shiftiShr at1 d a amt z) s = execShiftiShr at1 d a amt z s := by intros; rfl
@[simp] theorem exec_shiftiSar : ∀ at1 d a amt z s, exec (.shiftiSar at1 d a amt z) s = execShiftiSar at1 d a amt z s := by intros; rfl
@[simp] theorem exec_lih : ∀ at1 d a imm s, exec (.lih at1 d a imm) s = execLih at1 d a imm s := by intros; rfl
@[simp] theorem exec_slti : ∀ at1 d a imm s, exec (.slti at1 d a imm) s = execSlti at1 d a imm s := by intros; rfl
@[simp] theorem exec_ld64 : ∀ at1 d a imm s, exec (.ld64 at1 d a imm) s = execLd64 at1 d a imm s := by intros; rfl
@[simp] theorem exec_ld32 : ∀ at1 d a imm s, exec (.ld32 at1 d a imm) s = execLd32 at1 d a imm s := by intros; rfl
@[simp] theorem exec_ld32u : ∀ at1 d a imm s, exec (.ld32u at1 d a imm) s = execLd32u at1 d a imm s := by intros; rfl
@[simp] theorem exec_ld16 : ∀ at1 d a imm s, exec (.ld16 at1 d a imm) s = execLd16 at1 d a imm s := by intros; rfl
@[simp] theorem exec_ld16u : ∀ at1 d a imm s, exec (.ld16u at1 d a imm) s = execLd16u at1 d a imm s := by intros; rfl
@[simp] theorem exec_ld8 : ∀ at1 d a imm s, exec (.ld8 at1 d a imm) s = execLd8 at1 d a imm s := by intros; rfl
@[simp] theorem exec_ld8u : ∀ at1 d a imm s, exec (.ld8u at1 d a imm) s = execLd8u at1 d a imm s := by intros; rfl
@[simp] theorem exec_st64 : ∀ at1 d a imm s, exec (.st64 at1 d a imm) s = execSt64 at1 d a imm s := by intros; rfl
@[simp] theorem exec_st32 : ∀ at1 d a imm s, exec (.st32 at1 d a imm) s = execSt32 at1 d a imm s := by intros; rfl
@[simp] theorem exec_st16 : ∀ at1 d a imm s, exec (.st16 at1 d a imm) s = execSt16 at1 d a imm s := by intros; rfl
@[simp] theorem exec_st8 : ∀ at1 d a imm s, exec (.st8 at1 d a imm) s = execSt8 at1 d a imm s := by intros; rfl
@[simp] theorem exec_vld : ∀ at1 d a imm s, exec (.vld at1 d a imm) s = execVld at1 d a imm s := by intros; rfl
@[simp] theorem exec_vst : ∀ at1 d a imm s, exec (.vst at1 d a imm) s = execVst at1 d a imm s := by intros; rfl
@[simp] theorem exec_beq : ∀ at1 a b off s, exec (.beq at1 a b off) s = execBeq at1 a b off s := by intros; rfl
@[simp] theorem exec_bne : ∀ at1 a b off s, exec (.bne at1 a b off) s = execBne at1 a b off s := by intros; rfl
@[simp] theorem exec_blt : ∀ at1 a b off s, exec (.blt at1 a b off) s = execBlt at1 a b off s := by intros; rfl
@[simp] theorem exec_bge : ∀ at1 a b off s, exec (.bge at1 a b off) s = execBge at1 a b off s := by intros; rfl
@[simp] theorem exec_bltu : ∀ at1 a b off s, exec (.bltu at1 a b off) s = execBltu at1 a b off s := by intros; rfl
@[simp] theorem exec_bgeu : ∀ at1 a b off s, exec (.bgeu at1 a b off) s = execBgeu at1 a b off s := by intros; rfl
@[simp] theorem exec_j : ∀ at1 off s, exec (.j at1 off) s = execJ at1 off s := by intros; rfl
@[simp] theorem exec_jal : ∀ at1 off s, exec (.jal at1 off) s = execJal at1 off s := by intros; rfl
@[simp] theorem exec_vadd : ∀ at1 vd va vb ty s, exec (.vadd at1 vd va vb ty) s = execVadd at1 vd va vb ty s := by intros; rfl
@[simp] theorem exec_vsub : ∀ at1 vd va vb ty s, exec (.vsub at1 vd va vb ty) s = execVsub at1 vd va vb ty s := by intros; rfl
@[simp] theorem exec_vmul : ∀ at1 vd va vb ty s, exec (.vmul at1 vd va vb ty) s = execVmul at1 vd va vb ty s := by intros; rfl
@[simp] theorem exec_vfma : ∀ at1 vd va vb ty s, exec (.vfma at1 vd va vb ty) s = execVfma at1 vd va vb ty s := by intros; rfl
@[simp] theorem exec_vmin : ∀ at1 vd va vb ty s, exec (.vmin at1 vd va vb ty) s = execVmin at1 vd va vb ty s := by intros; rfl
@[simp] theorem exec_vmax : ∀ at1 vd va vb ty s, exec (.vmax at1 vd va vb ty) s = execVmax at1 vd va vb ty s := by intros; rfl
@[simp] theorem exec_vabs : ∀ at1 vd va vb ty s, exec (.vabs at1 vd va vb ty) s = execVabs at1 vd va vb ty s := by intros; rfl
@[simp] theorem exec_vneg : ∀ at1 vd va vb ty s, exec (.vneg at1 vd va vb ty) s = execVneg at1 vd va vb ty s := by intros; rfl
@[simp] theorem exec_vadds : ∀ at1 vd va vb ty s, exec (.vadds at1 vd va vb ty) s = execVadds at1 vd va vb ty s := by intros; rfl
@[simp] theorem exec_vsubs : ∀ at1 vd va vb ty s, exec (.vsubs at1 vd va vb ty) s = execVsubs at1 vd va vb ty s := by intros; rfl
@[simp] theorem exec_vand : ∀ at1 vd va vb ty s, exec (.vand at1 vd va vb ty) s = execVand at1 vd va vb ty s := by intros; rfl
@[simp] theorem exec_vor : ∀ at1 vd va vb ty s, exec (.vor at1 vd va vb ty) s = execVor at1 vd va vb ty s := by intros; rfl
@[simp] theorem exec_vxor : ∀ at1 vd va vb ty s, exec (.vxor at1 vd va vb ty) s = execVxor at1 vd va vb ty s := by intros; rfl
@[simp] theorem exec_vsel : ∀ at1 vd va vb ty s, exec (.vsel at1 vd va vb ty) s = execVsel at1 vd va vb ty s := by intros; rfl
@[simp] theorem exec_vcmplt : ∀ at1 vd va vb ty s, exec (.vcmplt at1 vd va vb ty) s = execVcmplt at1 vd va vb ty s := by intros; rfl
@[simp] theorem exec_vcmpeq : ∀ at1 vd va vb ty s, exec (.vcmpeq at1 vd va vb ty) s = execVcmpeq at1 vd va vb ty s := by intros; rfl
@[simp] theorem exec_vperm : ∀ at1 vd va vb ty s, exec (.vperm at1 vd va vb ty) s = execVperm at1 vd va vb ty s := by intros; rfl
@[simp] theorem exec_vcvt : ∀ at1 vd va vb ty s, exec (.vcvt at1 vd va vb ty) s = execVcvt at1 vd va vb ty s := by intros; rfl
@[simp] theorem exec_vsplat : ∀ at1 vd sa ty s, exec (.vsplat at1 vd sa ty) s = execVsplat at1 vd sa ty s := by intros; rfl
@[simp] theorem exec_vext : ∀ at1 sd va sa ty s, exec (.vext at1 sd va sa ty) s = execVext at1 sd va sa ty s := by intros; rfl
@[simp] theorem exec_vins : ∀ at1 vd sa sd ty s, exec (.vins at1 vd sa sd ty) s = execVins at1 vd sa sd ty s := by intros; rfl
@[simp] theorem exec_vredadd : ∀ at1 sd va ty s, exec (.vredadd at1 sd va ty) s = execVredadd at1 sd va ty s := by intros; rfl
@[simp] theorem exec_vredmax : ∀ at1 sd va ty s, exec (.vredmax at1 sd va ty) s = execVredmax at1 sd va ty s := by intros; rfl
@[simp] theorem exec_vredmin : ∀ at1 sd va ty s, exec (.vredmin at1 sd va ty) s = execVredmin at1 sd va ty s := by intros; rfl
@[simp] theorem exec_venc16 : ∀ at1 vd va sa sd fmt s, exec (.venc16 at1 vd va sa sd fmt) s = execVenc16 at1 vd va sa sd fmt s := by intros; rfl
@[simp] theorem exec_venc32 : ∀ at1 vd va sa sd fmt s, exec (.venc32 at1 vd va sa sd fmt) s = execVenc32 at1 vd va sa sd fmt s := by intros; rfl
@[simp] theorem exec_vdec : ∀ at1 vd va sa fmt s, exec (.vdec at1 vd va sa fmt) s = execVdec at1 vd va sa fmt s := by intros; rfl
@[simp] theorem exec_vsck : ∀ at1 sd va sa fmt s, exec (.vsck at1 sd va sa fmt) s = execVsck at1 sd va sa fmt s := by intros; rfl
@[simp] theorem exec_fnExp2 : ∀ at1 vd va vb ty z s, exec (.fnExp2 at1 vd va vb ty z) s = execFnExp2 at1 vd va vb ty z s := by intros; rfl
@[simp] theorem exec_fnLog2 : ∀ at1 vd va vb ty z s, exec (.fnLog2 at1 vd va vb ty z) s = execFnLog2 at1 vd va vb ty z s := by intros; rfl
@[simp] theorem exec_fnRcp : ∀ at1 vd va vb ty z s, exec (.fnRcp at1 vd va vb ty z) s = execFnRcp at1 vd va vb ty z s := by intros; rfl
@[simp] theorem exec_fnRsqrt : ∀ at1 vd va vb ty z s, exec (.fnRsqrt at1 vd va vb ty z) s = execFnRsqrt at1 vd va vb ty z s := by intros; rfl
@[simp] theorem exec_fnTanh : ∀ at1 vd va vb ty z s, exec (.fnTanh at1 vd va vb ty z) s = execFnTanh at1 vd va vb ty z s := by intros; rfl
@[simp] theorem exec_fnSigm : ∀ at1 vd va vb ty z s, exec (.fnSigm at1 vd va vb ty z) s = execFnSigm at1 vd va vb ty z s := by intros; rfl
@[simp] theorem exec_fnErf : ∀ at1 vd va vb ty z s, exec (.fnErf at1 vd va vb ty z) s = execFnErf at1 vd va vb ty z s := by intros; rfl
@[simp] theorem exec_fnSinp : ∀ at1 vd va vb ty z s, exec (.fnSinp at1 vd va vb ty z) s = execFnSinp at1 vd va vb ty z s := by intros; rfl
@[simp] theorem exec_csrr : ∀ at1 d num s, exec (.csrr at1 d num) s = execCsrr at1 d num s := by intros; rfl
@[simp] theorem exec_csrw : ∀ at1 a num s, exec (.csrw at1 a num) s = execCsrw at1 a num s := by intros; rfl
@[simp] theorem exec_plWait : ∀ at1 a z s, exec (.plWait at1 a z) s = execPlWait at1 a z s := by intros; rfl
@[simp] theorem exec_winOpen : ∀ at1 d a w z s, exec (.winOpen at1 d a w z) s = execWinOpen at1 d a w z s := by intros; rfl
@[simp] theorem exec_winClose : ∀ at1 w z s, exec (.winClose at1 w z) s = execWinClose at1 w z s := by intros; rfl
@[simp] theorem exec_rwWait : ∀ at1 d a w z waited s, exec (.rwWait at1 d a w z waited) s = execRwWait at1 d a w z waited s := by intros; rfl
@[simp] theorem exec_svSend : ∀ at1 d a z waited s, exec (.svSend at1 d a z waited) s = execSvSend at1 d a z waited s := by intros; rfl
@[simp] theorem exec_svRecv : ∀ at1 d a z waited s, exec (.svRecv at1 d a z waited) s = execSvRecv at1 d a z waited s := by intros; rfl
@[simp] theorem exec_tallyRd : ∀ at1 d z waited s, exec (.tallyRd at1 d z waited) s = execTallyRd at1 d z waited s := by intros; rfl
@[simp] theorem exec_sensRd : ∀ at1 d a z waited s, exec (.sensRd at1 d a z waited) s = execSensRd at1 d a z waited s := by intros; rfl
@[simp] theorem exec_lnkRd : ∀ at1 d a z answered waited s, exec (.lnkRd at1 d a z answered waited) s = execLnkRd at1 d a z answered waited s := by intros; rfl
@[simp] theorem exec_sync : ∀ at1 mask z s, exec (.sync at1 mask z) s = execSync at1 mask z s := by intros; rfl
@[simp] theorem exec_stepEnd : ∀ at1 a z s, exec (.stepEnd at1 a z) s = execStepEnd at1 a z s := by intros; rfl
@[simp] theorem exec_watchdogExpiry : ∀ at1 s, exec (.watchdogExpiry at1) s = execWatchdogExpiry at1 s := by intros; rfl
@[simp] theorem exec_frameLoadw : ∀ at1 sa sb opt s, exec (.frameLoadw at1 sa sb opt) s = execFrameLoadw at1 sa sb opt s := by intros; rfl
@[simp] theorem exec_frameMul : ∀ at1 sa sb opt s, exec (.frameMul at1 sa sb opt) s = execFrameMul at1 sa sb opt s := by intros; rfl
@[simp] theorem exec_frameDrain : ∀ at1 sa sb opt s, exec (.frameDrain at1 sa sb opt) s = execFrameDrain at1 sa sb opt s := by intros; rfl
@[simp] theorem exec_frameDrainPartial : ∀ at1 sa sb opt s, exec (.frameDrainPartial at1 sa sb opt) s = execFrameDrainPartial at1 sa sb opt s := by intros; rfl
@[simp] theorem exec_frameLoada : ∀ at1 sa sb opt s, exec (.frameLoada at1 sa sb opt) s = execFrameLoada at1 sa sb opt s := by intros; rfl
@[simp] theorem exec_frameEwAdd : ∀ at1 sa sb opt s, exec (.frameEwAdd at1 sa sb opt) s = execFrameEwAdd at1 sa sb opt s := by intros; rfl
@[simp] theorem exec_frameEwSub : ∀ at1 sa sb opt s, exec (.frameEwSub at1 sa sb opt) s = execFrameEwSub at1 sa sb opt s := by intros; rfl
@[simp] theorem exec_frameEwMul : ∀ at1 sa sb opt s, exec (.frameEwMul at1 sa sb opt) s = execFrameEwMul at1 sa sb opt s := by intros; rfl
@[simp] theorem exec_frameEwMax : ∀ at1 sa sb opt s, exec (.frameEwMax at1 sa sb opt) s = execFrameEwMax at1 sa sb opt s := by intros; rfl
@[simp] theorem exec_frameEwMin : ∀ at1 sa sb opt s, exec (.frameEwMin at1 sa sb opt) s = execFrameEwMin at1 sa sb opt s := by intros; rfl
@[simp] theorem exec_frameEwRescale : ∀ at1 sa sb opt s, exec (.frameEwRescale at1 sa sb opt) s = execFrameEwRescale at1 sa sb opt s := by intros; rfl
@[simp] theorem exec_frameEwEnc : ∀ at1 sa sb opt s, exec (.frameEwEnc at1 sa sb opt) s = execFrameEwEnc at1 sa sb opt s := by intros; rfl
@[simp] theorem exec_frameEwDec : ∀ at1 sa sb opt s, exec (.frameEwDec at1 sa sb opt) s = execFrameEwDec at1 sa sb opt s := by intros; rfl
@[simp] theorem exec_frameWake : ∀ at1 sa sb opt s, exec (.frameWake at1 sa sb opt) s = execFrameWake at1 sa sb opt s := by intros; rfl
@[simp] theorem exec_frameRest : ∀ at1 sa sb opt s, exec (.frameRest at1 sa sb opt) s = execFrameRest at1 sa sb opt s := by intros; rfl
@[simp] theorem exec_frameWait : ∀ at1 sa sb opt s, exec (.frameWait at1 sa sb opt) s = execFrameWait at1 sa sb opt s := by intros; rfl
@[simp] theorem exec_frameAutoRest : ∀ t s, exec (.frameAutoRest t) s = execFrameAutoRest t s := by intros; rfl
@[simp] theorem exec_updGroup : ∀ at1 sa sb opt s, exec (.updGroup at1 sa sb opt) s = execUpdGroup at1 sa sb opt s := by intros; rfl
@[simp] theorem exec_updRun : ∀ at1 sa sb opt s, exec (.updRun at1 sa sb opt) s = execUpdRun at1 sa sb opt s := by intros; rfl
@[simp] theorem exec_updWait : ∀ at1 sa sb opt s, exec (.updWait at1 sa sb opt) s = execUpdWait at1 sa sb opt s := by intros; rfl
@[simp] theorem exec_slotPass : ∀ t entry entryBad corrupt s, exec (.slotPass t entry entryBad corrupt) s = execSlotPass t entry entryBad corrupt s := by intros; rfl
@[simp] theorem exec_slotAdd160 : ∀ t entry entryBad corrupt s, exec (.slotAdd160 t entry entryBad corrupt) s = execSlotAdd160 t entry entryBad corrupt s := by intros; rfl
@[simp] theorem exec_slotAdd160Final : ∀ t entry entryBad corrupt s, exec (.slotAdd160Final t entry entryBad corrupt) s = execSlotAdd160Final t entry entryBad corrupt s := by intros; rfl
@[simp] theorem exec_slotMax32 : ∀ t entry entryBad corrupt s, exec (.slotMax32 t entry entryBad corrupt) s = execSlotMax32 t entry entryBad corrupt s := by intros; rfl
@[simp] theorem exec_slotSum64 : ∀ t entry entryBad corrupt s, exec (.slotSum64 t entry entryBad corrupt) s = execSlotSum64 t entry entryBad corrupt s := by intros; rfl
@[simp] theorem exec_unscheduledArrival : ∀ t port cy s, exec (.unscheduledArrival t port cy) s = execUnscheduledArrival t port cy s := by intros; rfl
@[simp] theorem exec_serviceLineHop : ∀ t out response corrupt s, exec (.serviceLineHop t out response corrupt) s = execServiceLineHop t out response corrupt s := by intros; rfl
@[simp] theorem exec_hopCreditReturn : ∀ t out response s, exec (.hopCreditReturn t out response) s = execHopCreditReturn t out response s := by intros; rfl
@[simp] theorem exec_msgArrival : ∀ t s, exec (.msgArrival t) s = execMsgArrival t s := by intros; rfl
@[simp] theorem exec_rwriteArrival : ∀ t s, exec (.rwriteArrival t) s = execRwriteArrival t s := by intros; rfl
@[simp] theorem exec_remoteLineLanding : ∀ t deferredCy s, exec (.remoteLineLanding t deferredCy) s = execRemoteLineLanding t deferredCy s := by intros; rfl
@[simp] theorem exec_complArrival : ∀ t s, exec (.complArrival t) s = execComplArrival t s := by intros; rfl
@[simp] theorem exec_serviceRequestTimeout : ∀ at1 tag s, exec (.serviceRequestTimeout at1 tag) s = execServiceRequestTimeout at1 tag s := by intros; rfl
@[simp] theorem exec_copyRead : ∀ e desc corrupt s, exec (.copyRead e desc corrupt) s = execCopyRead e desc corrupt s := by intros; rfl
@[simp] theorem exec_copyReadReq : ∀ e desc corrupt s, exec (.copyReadReq e desc corrupt) s = execCopyReadReq e desc corrupt s := by intros; rfl
@[simp] theorem exec_copyWrite : ∀ e desc s, exec (.copyWrite e desc) s = execCopyWrite e desc s := by intros; rfl
@[simp] theorem exec_copyMove : ∀ e desc err0 err1 s, exec (.copyMove e desc err0 err1) s = execCopyMove e desc err0 err1 s := by intros; rfl
@[simp] theorem exec_copyFill : ∀ e desc s, exec (.copyFill e desc) s = execCopyFill e desc s := by intros; rfl
@[simp] theorem exec_readRequestArrival : ∀ e desc s, exec (.readRequestArrival e desc) s = execReadRequestArrival e desc s := by intros; rfl
@[simp] theorem exec_lineFetch : ∀ e desc err0 err1 s, exec (.lineFetch e desc err0 err1) s = execLineFetch e desc err0 err1 s := by intros; rfl
@[simp] theorem exec_lineStaged : ∀ e desc s, exec (.lineStaged e desc) s = execLineStaged e desc s := by intros; rfl
@[simp] theorem exec_patrolScrub : ∀ m line err0 err1 s, exec (.patrolScrub m line err0 err1) s = execPatrolScrub m line err0 err1 s := by intros; rfl
@[simp] theorem exec_stackTempRead : ∀ m tempC s, exec (.stackTempRead m tempC) s = execStackTempRead m tempC s := by intros; rfl
@[simp] theorem exec_refreshShorten : ∀ m s, exec (.refreshShorten m) s = execRefreshShorten m s := by intros; rfl
@[simp] theorem exec_engineFenceTimeout : ∀ e s, exec (.engineFenceTimeout e) s = execEngineFenceTimeout e s := by intros; rfl
@[simp] theorem exec_engineServiceRequest : ∀ e req s, exec (.engineServiceRequest e req) s = execEngineServiceRequest e req s := by intros; rfl
@[simp] theorem exec_engineServiceTimeout : ∀ e s, exec (.engineServiceTimeout e) s = execEngineServiceTimeout e s := by intros; rfl
@[simp] theorem exec_jobLoad : ∀ j car s, exec (.jobLoad j car) s = execJobLoad j car s := by intros; rfl
@[simp] theorem exec_loadChecksComplete : ∀ j s, exec (.loadChecksComplete j) s = execLoadChecksComplete j s := by intros; rfl
@[simp] theorem exec_jobStart : ∀ j car s, exec (.jobStart j car) s = execJobStart j car s := by intros; rfl
@[simp] theorem exec_jobReplayStart : ∀ j car s, exec (.jobReplayStart j car) s = execJobReplayStart j car s := by intros; rfl
@[simp] theorem exec_jobCycle0Release : ∀ j s, exec (.jobCycle0Release j) s = execJobCycle0Release j s := by intros; rfl
@[simp] theorem exec_jobStop : ∀ j car s, exec (.jobStop j car) s = execJobStop j car s := by intros; rfl
@[simp] theorem exec_jobKill : ∀ j car s, exec (.jobKill j car) s = execJobKill j car s := by intros; rfl
@[simp] theorem exec_jobClear : ∀ j car failedTiles failedWires failedLanes s, exec (.jobClear j car failedTiles failedWires failedLanes) s = execJobClear j car failedTiles failedWires failedLanes s := by intros; rfl
@[simp] theorem exec_unitFenceArrival : ∀ j u lateCy s, exec (.unitFenceArrival j u lateCy) s = execUnitFenceArrival j u lateCy s := by intros; rfl
@[simp] theorem exec_fenceRootDecision : ∀ j s, exec (.fenceRootDecision j) s = execFenceRootDecision j s := by intros; rfl
@[simp] theorem exec_fenceRelease : ∀ j s, exec (.fenceRelease j) s = execFenceRelease j s := by intros; rfl
@[simp] theorem exec_stepTimeout : ∀ j s, exec (.stepTimeout j) s = execStepTimeout j s := by intros; rfl
@[simp] theorem exec_fenceEventWrite : ∀ j car index sub value s, exec (.fenceEventWrite j car index sub value) s = execFenceEventWrite j car index sub value s := by intros; rfl
@[simp] theorem exec_digestSnapshot : ∀ j car value s, exec (.digestSnapshot j car value) s = execDigestSnapshot j car value s := by intros; rfl
@[simp] theorem exec_groupEta : ∀ j car g value s, exec (.groupEta j car g value) s = execGroupEta j car g value s := by intros; rfl
@[simp] theorem exec_groupFrozen : ∀ j car g value s, exec (.groupFrozen j car g value) s = execGroupFrozen j car g value s := by intros; rfl
@[simp] theorem exec_selftestFrameLogic : ∀ car zones s, exec (.selftestFrameLogic car zones) s = execSelftestFrameLogic car zones s := by intros; rfl
@[simp] theorem exec_selftestCoreLogic : ∀ car zones s, exec (.selftestCoreLogic car zones) s = execSelftestCoreLogic car zones s := by intros; rfl
@[simp] theorem exec_selftestRouterMesh : ∀ car zones s, exec (.selftestRouterMesh car zones) s = execSelftestRouterMesh car zones s := by intros; rfl
@[simp] theorem exec_selftestScratchpadMarch : ∀ car zones s, exec (.selftestScratchpadMarch car zones) s = execSelftestScratchpadMarch car zones s := by intros; rfl
@[simp] theorem exec_selftestSensorCalibration : ∀ car zones s, exec (.selftestSensorCalibration car zones) s = execSelftestSensorCalibration car zones s := by intros; rfl
@[simp] theorem exec_selftestModuleLanes : ∀ car modules s, exec (.selftestModuleLanes car modules) s = execSelftestModuleLanes car modules s := by intros; rfl
@[simp] theorem exec_quietSlotTest : ∀ j z kind s, exec (.quietSlotTest j z kind) s = execQuietSlotTest j z kind s := by intros; rfl
@[simp] theorem exec_selftestComplete : ∀ unit kind failedTiles s, exec (.selftestComplete unit kind failedTiles) s = execSelftestComplete unit kind failedTiles s := by intros; rfl
@[simp] theorem exec_wcmpRound : ∀ s, exec .wcmpRound s = execWcmpRound s := by intros; rfl
@[simp] theorem exec_wcmpAnswer : ∀ device phase value s, exec (.wcmpAnswer device phase value) s = execWcmpAnswer device phase value s := by intros; rfl
@[simp] theorem exec_wcmpPhaseTimeout : ∀ s, exec .wcmpPhaseTimeout s = execWcmpPhaseTimeout s := by intros; rfl
@[simp] theorem exec_wcmpOutvote : ∀ s, exec .wcmpOutvote s = execWcmpOutvote s := by intros; rfl
@[simp] theorem exec_refLoss : ∀ s, exec .refLoss s = execRefLoss s := by intros; rfl
@[simp] theorem exec_refReturn : ∀ s, exec .refReturn s = execRefReturn s := by intros; rfl
@[simp] theorem exec_crossingSlip : ∀ t port s, exec (.crossingSlip t port) s = execCrossingSlip t port s := by intros; rfl
@[simp] theorem exec_droopAssert : ∀ z elapsed s, exec (.droopAssert z elapsed) s = execDroopAssert z elapsed s := by intros; rfl
@[simp] theorem exec_shuntRecharged : ∀ z s, exec (.shuntRecharged z) s = execShuntRecharged z s := by intros; rfl
@[simp] theorem exec_stretchEnd : ∀ z s, exec (.stretchEnd z) s = execStretchEnd z s := by intros; rfl
@[simp] theorem exec_stretchRestart : ∀ z s, exec (.stretchRestart z) s = execStretchRestart z s := by intros; rfl
@[simp] theorem exec_stretchNotice : ∀ z origin seq len elapsed s, exec (.stretchNotice z origin seq len elapsed) s = execStretchNotice z origin seq len elapsed s := by intros; rfl
@[simp] theorem exec_stretchExtension : ∀ z origin seq len s, exec (.stretchExtension z origin seq len) s = execStretchExtension z origin seq len s := by intros; rfl
@[simp] theorem exec_freqTargetChange : ∀ z marginMhz s, exec (.freqTargetChange z marginMhz) s = execFreqTargetChange z marginMhz s := by intros; rfl
@[simp] theorem exec_freqSwitchAnnounce : ∀ s, exec .freqSwitchAnnounce s = execFreqSwitchAnnounce s := by intros; rfl
@[simp] theorem exec_vlogTargetReached : ∀ s, exec .vlogTargetReached s = execVlogTargetReached s := by intros; rfl
@[simp] theorem exec_stepUpVoltageTimeout : ∀ s, exec .stepUpVoltageTimeout s = execStepUpVoltageTimeout s := by intros; rfl
@[simp] theorem exec_freqSwitchApply : ∀ s, exec .freqSwitchApply s = execFreqSwitchApply s := by intros; rfl
@[simp] theorem exec_guardWindowClose : ∀ s, exec .guardWindowClose s = execGuardWindowClose s := by intros; rfl
@[simp] theorem exec_vlogLower : ∀ s, exec .vlogLower s = execVlogLower s := by intros; rfl
@[simp] theorem exec_shimmerEnable : ∀ car value s, exec (.shimmerEnable car value) s = execShimmerEnable car value s := by intros; rfl
@[simp] theorem exec_shimmerOffset : ∀ car value s, exec (.shimmerOffset car value) s = execShimmerOffset car value s := by intros; rfl
@[simp] theorem exec_tallyPulse : ∀ highNs s, exec (.tallyPulse highNs) s = execTallyPulse highNs s := by intros; rfl
@[simp] theorem exec_tallyGlitch : ∀ s, exec .tallyGlitch s = execTallyGlitch s := by intros; rfl
@[simp] theorem exec_tallyMark : ∀ s, exec .tallyMark s = execTallyMark s := by intros; rfl
@[simp] theorem exec_tallyLoss : ∀ s, exec .tallyLoss s = execTallyLoss s := by intros; rfl
@[simp] theorem exec_tallySlewStep : ∀ s, exec .tallySlewStep s = execTallySlewStep s := by intros; rfl
@[simp] theorem exec_tallyEpochNext : ∀ car value s, exec (.tallyEpochNext car value) s = execTallyEpochNext car value s := by intros; rfl
@[simp] theorem exec_tallyResync : ∀ car s, exec (.tallyResync car) s = execTallyResync car s := by intros; rfl
@[simp] theorem exec_tallyOrigin : ∀ car value s, exec (.tallyOrigin car value) s = execTallyOrigin car value s := by intros; rfl
@[simp] theorem exec_regDieFault : ∀ d cause s, exec (.regDieFault d cause) s = execRegDieFault d cause s := by intros; rfl
@[simp] theorem exec_edgeRegFault : ∀ d cause s, exec (.edgeRegFault d cause) s = execEdgeRegFault d cause s := by intros; rfl
@[simp] theorem exec_vlogRegulationTick : ∀ g needMv s, exec (.vlogRegulationTick g needMv) s = execVlogRegulationTick g needMv s := by intros; rfl
@[simp] theorem exec_sensorFailMark : ∀ kind index s, exec (.sensorFailMark kind index) s = execSensorFailMark kind index s := by intros; rfl
@[simp] theorem exec_currentLedgerTick : ∀ g measuredQa weights s, exec (.currentLedgerTick g measuredQa weights) s = execCurrentLedgerTick g measuredQa weights s := by intros; rfl
@[simp] theorem exec_zoneSwitchOnRequest : ∀ z s, exec (.zoneSwitchOnRequest z) s = execZoneSwitchOnRequest z s := by intros; rfl
@[simp] theorem exec_zoneRampStart : ∀ z waitUs s, exec (.zoneRampStart z waitUs) s = execZoneRampStart z waitUs s := by intros; rfl
@[simp] theorem exec_slowRampStart : ∀ z s, exec (.slowRampStart z) s = execSlowRampStart z s := by intros; rfl
@[simp] theorem exec_zonePowerGood : ∀ z s, exec (.zonePowerGood z) s = execZonePowerGood z s := by intros; rfl
@[simp] theorem exec_powerGoodTimeout : ∀ z s, exec (.powerGoodTimeout z) s = execPowerGoodTimeout z s := by intros; rfl
@[simp] theorem exec_ratingExcess : ∀ g s, exec (.ratingExcess g) s = execRatingExcess g s := by intros; rfl
@[simp] theorem exec_zonePark : ∀ z s, exec (.zonePark z) s = execZonePark z s := by intros; rfl
@[simp] theorem exec_zoneIdlePark : ∀ z s, exec (.zoneIdlePark z) s = execZoneIdlePark z s := by intros; rfl
@[simp] theorem exec_tempSample : ∀ temps s, exec (.tempSample temps) s = execTempSample temps s := by intros; rfl
@[simp] theorem exec_overtempHoldRelease : ∀ z s, exec (.overtempHoldRelease z) s = execOvertempHoldRelease z s := by intros; rfl
@[simp] theorem exec_parkRequest : ∀ car mask s, exec (.parkRequest car mask) s = execParkRequest car mask s := by intros; rfl
@[simp] theorem exec_powerOffRequest : ∀ car mask s, exec (.powerOffRequest car mask) s = execPowerOffRequest car mask s := by intros; rfl
@[simp] theorem exec_unparkRequest : ∀ car mask s, exec (.unparkRequest car mask) s = execUnparkRequest car mask s := by intros; rfl
@[simp] theorem exec_powerLimitCheck : ∀ averageW s, exec (.powerLimitCheck averageW) s = execPowerLimitCheck averageW s := by intros; rfl
@[simp] theorem exec_thermalTrip : ∀ sensor s, exec (.thermalTrip sensor) s = execThermalTrip sensor s := by intros; rfl
@[simp] theorem exec_tripCoolExpiry : ∀ s, exec .tripCoolExpiry s = execTripCoolExpiry s := by intros; rfl
@[simp] theorem exec_tripRestart : ∀ car s, exec (.tripRestart car) s = execTripRestart car s := by intros; rfl
@[simp] theorem exec_energyPeriod : ∀ dieMicroJ s, exec (.energyPeriod dieMicroJ) s = execEnergyPeriod dieMicroJ s := by intros; rfl
@[simp] theorem exec_tokenPoolW : ∀ car value s, exec (.tokenPoolW car value) s = execTokenPoolW car value s := by intros; rfl
@[simp] theorem exec_tokenPeriod : ∀ reports s, exec (.tokenPeriod reports) s = execTokenPeriod reports s := by intros; rfl
@[simp] theorem exec_tokenDebit : ∀ seq w s, exec (.tokenDebit seq w) s = execTokenDebit seq w s := by intros; rfl
@[simp] theorem exec_tokenCredit : ∀ seq w s, exec (.tokenCredit seq w) s = execTokenCredit seq w s := by intros; rfl
@[simp] theorem exec_tokenAck : ∀ device seq holding s, exec (.tokenAck device seq holding) s = execTokenAck device seq holding s := by intros; rfl
@[simp] theorem exec_tokenAckTimeout : ∀ s, exec .tokenAckTimeout s = execTokenAckTimeout s := by intros; rfl
@[simp] theorem exec_tokenMasterSilence : ∀ s, exec .tokenMasterSilence s = execTokenMasterSilence s := by intros; rfl
@[simp] theorem exec_laserLoss : ∀ k lambda s, exec (.laserLoss k lambda) s = execLaserLoss k lambda s := by intros; rfl
@[simp] theorem exec_rxSignalLoss : ∀ l s, exec (.rxSignalLoss l) s = execRxSignalLoss l s := by intros; rfl
@[simp] theorem exec_fecLockLoss : ∀ l s, exec (.fecLockLoss l) s = execFecLockLoss l s := by intros; rfl
@[simp] theorem exec_linkDown : ∀ l s, exec (.linkDown l) s = execLinkDown l s := by intros; rfl
@[simp] theorem exec_linkRetrain : ∀ l ok latencyNs s, exec (.linkRetrain l ok latencyNs) s = execLinkRetrain l ok latencyNs s := by intros; rfl
@[simp] theorem exec_identityFlit : ∀ l f s, exec (.identityFlit l f) s = execIdentityFlit l f s := by intros; rfl
@[simp] theorem exec_dataFlitReceive : ∀ l bytes symbols s, exec (.dataFlitReceive l bytes symbols) s = execDataFlitReceive l bytes symbols s := by intros; rfl
@[simp] theorem exec_nakReceive : ∀ l fseq s, exec (.nakReceive l fseq) s = execNakReceive l fseq s := by intros; rfl
@[simp] theorem exec_replayTimer : ∀ l s, exec (.replayTimer l) s = execReplayTimer l s := by intros; rfl
@[simp] theorem exec_retryLimit : ∀ l s, exec (.retryLimit l) s = execRetryLimit l s := by intros; rfl
@[simp] theorem exec_auditFlit : ∀ l sent credited s, exec (.auditFlit l sent credited) s = execAuditFlit l sent credited s := by intros; rfl
@[simp] theorem exec_planTransferSend : ∀ right row s, exec (.planTransferSend right row) s = execPlanTransferSend right row s := by intros; rfl
@[simp] theorem exec_transferLanding : ∀ p reduction s, exec (.transferLanding p reduction) s = execTransferLanding p reduction s := by intros; rfl
@[simp] theorem exec_linkCalibrationIdle : ∀ l s, exec (.linkCalibrationIdle l) s = execLinkCalibrationIdle l s := by intros; rfl
@[simp] theorem exec_tallyFlitSend : ∀ l s, exec (.tallyFlitSend l) s = execTallyFlitSend l s := by intros; rfl
@[simp] theorem exec_tallyFlitReceive : ∀ l tally hops s, exec (.tallyFlitReceive l tally hops) s = execTallyFlitReceive l tally hops s := by intros; rfl
@[simp] theorem exec_linkTallyLoss : ∀ s, exec .linkTallyLoss s = execLinkTallyLoss s := by intros; rfl
@[simp] theorem exec_masterElectionAnnounce : ∀ l identity s, exec (.masterElectionAnnounce l identity) s = execMasterElectionAnnounce l identity s := by intros; rfl
@[simp] theorem exec_electionSettle : ∀ s, exec .electionSettle s = execElectionSettle s := by intros; rfl
@[simp] theorem exec_masterHeartbeat : ∀ s, exec .masterHeartbeat s = execMasterHeartbeat s := by intros; rfl
@[simp] theorem exec_heartbeatLoss : ∀ s, exec .heartbeatLoss s = execHeartbeatLoss s := by intros; rfl
@[simp] theorem exec_groupReady : ∀ j device members key s, exec (.groupReady j device members key) s = execGroupReady j device members key s := by intros; rfl
@[simp] theorem exec_groupStartTally : ∀ j tally s, exec (.groupStartTally j tally) s = execGroupStartTally j tally s := by intros; rfl
@[simp] theorem exec_groupReadyTimeout : ∀ j s, exec (.groupReadyTimeout j) s = execGroupReadyTimeout j s := by intros; rfl
@[simp] theorem exec_groupFenceReport : ∀ j r s, exec (.groupFenceReport j r) s = execGroupFenceReport j r s := by intros; rfl
@[simp] theorem exec_groupDecision : ∀ j d s, exec (.groupDecision j d) s = execGroupDecision j d s := by intros; rfl
@[simp] theorem exec_groupReportTimeout : ∀ j s, exec (.groupReportTimeout j) s = execGroupReportTimeout j s := by intros; rfl
@[simp] theorem exec_pcieConfigRequest : ∀ write offset value s, exec (.pcieConfigRequest write offset value) s = execPcieConfigRequest write offset value s := by intros; rfl
@[simp] theorem exec_functionLevelReset : ∀ s, exec .functionLevelReset s = execFunctionLevelReset s := by intros; rfl
@[simp] theorem exec_hotReset : ∀ s, exec .hotReset s = execHotReset s := by intros; rfl
@[simp] theorem exec_pcieLinkDown : ∀ s, exec .pcieLinkDown s = execPcieLinkDown s := by intros; rfl
@[simp] theorem exec_perstAssert : ∀ s, exec .perstAssert s = execPerstAssert s := by intros; rfl
@[simp] theorem exec_d3hotEntry : ∀ s, exec .d3hotEntry s = execD3hotEntry s := by intros; rfl
@[simp] theorem exec_d0Entry : ∀ s, exec .d0Entry s = execD0Entry s := by intros; rfl
@[simp] theorem exec_busMasterDisable : ∀ s, exec .busMasterDisable s = execBusMasterDisable s := by intros; rfl
@[simp] theorem exec_aerFatalError : ∀ s, exec .aerFatalError s = execAerFatalError s := by intros; rfl
@[simp] theorem exec_w2Base : ∀ value s, exec (.w2Base value) s = execW2Base value s := by intros; rfl
@[simp] theorem exec_mbxDoorbell : ∀ value s, exec (.mbxDoorbell value) s = execMbxDoorbell value s := by intros; rfl
@[simp] theorem exec_mailboxDispatch : ∀ n s, exec (.mailboxDispatch n) s = execMailboxDispatch n s := by intros; rfl
@[simp] theorem exec_mbxRelease : ∀ value s, exec (.mbxRelease value) s = execMbxRelease value s := by intros; rfl
@[simp] theorem exec_eqCtrl : ∀ q value s, exec (.eqCtrl q value) s = execEqCtrl q value s := by intros; rfl
@[simp] theorem exec_eqHead : ∀ q value s, exec (.eqHead q value) s = execEqHead q value s := by intros; rfl
@[simp] theorem exec_bar0RegisterWrite : ∀ offset width value s, exec (.bar0RegisterWrite offset width value) s = execBar0RegisterWrite offset width value s := by intros; rfl
@[simp] theorem exec_bar2Read : ∀ offset len s, exec (.bar2Read offset len) s = execBar2Read offset len s := by intros; rfl
@[simp] theorem exec_bar2Write : ∀ offset data poisoned s, exec (.bar2Write offset data poisoned) s = execBar2Write offset data poisoned s := by intros; rfl
@[simp] theorem exec_bar4Read : ∀ offset len s, exec (.bar4Read offset len) s = execBar4Read offset len s := by intros; rfl
@[simp] theorem exec_bar4Write : ∀ offset data s, exec (.bar4Write offset data) s = execBar4Write offset data s := by intros; rfl
@[simp] theorem exec_eventRaise : ∀ kind unit data s, exec (.eventRaise kind unit data) s = execEventRaise kind unit data s := by intros; rfl
@[simp] theorem exec_eventEntryWrite : ∀ q s, exec (.eventEntryWrite q) s = execEventEntryWrite q s := by intros; rfl
@[simp] theorem exec_msixSignal : ∀ q timer s, exec (.msixSignal q timer) s = execMsixSignal q timer s := by intros; rfl
@[simp] theorem exec_getVersion : ∀ s, exec .getVersion s = execGetVersion s := by intros; rfl
@[simp] theorem exec_getCapabilities : ∀ s, exec .getCapabilities s = execGetCapabilities s := by intros; rfl
@[simp] theorem exec_negotiateAlgorithms : ∀ asym hash s, exec (.negotiateAlgorithms asym hash) s = execNegotiateAlgorithms asym hash s := by intros; rfl
@[simp] theorem exec_getDigests : ∀ s, exec .getDigests s = execGetDigests s := by intros; rfl
@[simp] theorem exec_getCertificate : ∀ slot offset len s, exec (.getCertificate slot offset len) s = execGetCertificate slot offset len s := by intros; rfl
@[simp] theorem exec_challenge : ∀ slot nonce s, exec (.challenge slot nonce) s = execChallenge slot nonce s := by intros; rfl
@[simp] theorem exec_getMeasurements : ∀ index sign nonce s, exec (.getMeasurements index sign nonce) s = execGetMeasurements index sign nonce s := by intros; rfl
@[simp] theorem exec_ethPennosDatagram : ∀ origin frame s, exec (.ethPennosDatagram origin frame) s = execEthPennosDatagram origin frame s := by intros; rfl
@[simp] theorem exec_arpRequest : ∀ target s, exec (.arpRequest target) s = execArpRequest target s := by intros; rfl
@[simp] theorem exec_ndpMessage : ∀ target s, exec (.ndpMessage target) s = execNdpMessage target s := by intros; rfl
@[simp] theorem exec_icmpEcho : ∀ v6 payload s, exec (.icmpEcho v6 payload) s = execIcmpEcho v6 payload s := by intros; rfl
@[simp] theorem exec_ethOtherFrame : ∀ s, exec .ethOtherFrame s = execEthOtherFrame s := by intros; rfl
@[simp] theorem exec_ethAddressApply : ∀ s, exec .ethAddressApply s = execEthAddressApply s := by intros; rfl
@[simp] theorem exec_smbusBlockWrite : ∀ pecGood frame s, exec (.smbusBlockWrite pecGood frame) s = execSmbusBlockWrite pecGood frame s := by intros; rfl
@[simp] theorem exec_smbusBlockRead : ∀ pecGood s, exec (.smbusBlockRead pecGood) s = execSmbusBlockRead pecGood s := by intros; rfl
@[simp] theorem exec_smbusReadByte : ∀ pecGood s, exec (.smbusReadByte pecGood) s = execSmbusReadByte pecGood s := by intros; rfl
@[simp] theorem exec_smbusAlertResponse : ∀ pecGood s, exec (.smbusAlertResponse pecGood) s = execSmbusAlertResponse pecGood s := by intros; rfl
@[simp] theorem exec_hello : ∀ car origin versions maxFrame s, exec (.hello car origin versions maxFrame) s = execHello car origin versions maxFrame s := by intros; rfl
@[simp] theorem exec_close : ∀ car origin session s, exec (.close car origin session) s = execClose car origin session s := by intros; rfl
@[simp] theorem exec_pennosRequest : ∀ car origin frame s, exec (.pennosRequest car origin frame) s = execPennosRequest car origin frame s := by intros; rfl
@[simp] theorem exec_pennosRead : ∀ session index sub len s, exec (.pennosRead session index sub len) s = execPennosRead session index sub len s := by intros; rfl
@[simp] theorem exec_pennosWrite : ∀ session index sub value s, exec (.pennosWrite session index sub value) s = execPennosWrite session index sub value s := by intros; rfl
@[simp] theorem exec_readRange : ∀ session index sub offset len s, exec (.readRange session index sub offset len) s = execReadRange session index sub offset len s := by intros; rfl
@[simp] theorem exec_writeRange : ∀ session index sub offset value s, exec (.writeRange session index sub offset value) s = execWriteRange session index sub offset value s := by intros; rfl
@[simp] theorem exec_subscribe : ∀ session mask s, exec (.subscribe session mask) s = execSubscribe session mask s := by intros; rfl
@[simp] theorem exec_commit : ∀ session index sub s, exec (.commit session index sub) s = execCommit session index sub s := by intros; rfl
@[simp] theorem exec_sessionIdleTimeout : ∀ session s, exec (.sessionIdleTimeout session) s = execSessionIdleTimeout session s := by intros; rfl
@[simp] theorem exec_dictRequestTimeout : ∀ s, exec .dictRequestTimeout s = execDictRequestTimeout s := by intros; rfl
@[simp] theorem exec_dictObjectRead : ∀ t req index sub s, exec (.dictObjectRead t req index sub) s = execDictObjectRead t req index sub s := by intros; rfl
@[simp] theorem exec_dictObjectWrite : ∀ t req index sub value s, exec (.dictObjectWrite t req index sub value) s = execDictObjectWrite t req index sub value s := by intros; rfl
@[simp] theorem exec_dictMemoryRead : ∀ e req addr count s, exec (.dictMemoryRead e req addr count) s = execDictMemoryRead e req addr count s := by intros; rfl
@[simp] theorem exec_dictMemoryWrite : ∀ e req addr data s, exec (.dictMemoryWrite e req addr data) s = execDictMemoryWrite e req addr data s := by intros; rfl
@[simp] theorem exec_dictReply : ∀ req s, exec (.dictReply req) s = execDictReply req s := by intros; rfl
@[simp] theorem exec_linkFaultRead : ∀ l s, exec (.linkFaultRead l) s = execLinkFaultRead l s := by intros; rfl
@[simp] theorem exec_attestNonce : ∀ car nonce s, exec (.attestNonce car nonce) s = execAttestNonce car nonce s := by intros; rfl
@[simp] theorem exec_attestReport : ∀ s, exec .attestReport s = execAttestReport s := by intros; rfl
@[simp] theorem exec_mgmtUpdateControl : ∀ car v s, exec (.mgmtUpdateControl car v) s = execMgmtUpdateControl car v s := by intros; rfl
@[simp] theorem exec_recoveryImage : ∀ car offset data s, exec (.recoveryImage car offset data) s = execRecoveryImage car offset data s := by intros; rfl
@[simp] theorem exec_maintRemoveDefect : ∀ car cmd s, exec (.maintRemoveDefect car cmd) s = execMaintRemoveDefect car cmd s := by intros; rfl
@[simp] theorem exec_maintClearOverflow : ∀ car cmd s, exec (.maintClearOverflow car cmd) s = execMaintClearOverflow car cmd s := by intros; rfl
@[simp] theorem exec_maintRemoveRetry : ∀ car cmd s, exec (.maintRemoveRetry car cmd) s = execMaintRemoveRetry car cmd s := by intros; rfl
@[simp] theorem exec_maintThaw : ∀ car cmd s, exec (.maintThaw car cmd) s = execMaintThaw car cmd s := by intros; rfl
@[simp] theorem exec_maintAdvanceRollback : ∀ car cmd blown s, exec (.maintAdvanceRollback car cmd blown) s = execMaintAdvanceRollback car cmd blown s := by intros; rfl
@[simp] theorem exec_maintRevokeKey : ∀ car cmd blown s, exec (.maintRevokeKey car cmd blown) s = execMaintRevokeKey car cmd blown s := by intros; rfl
@[simp] theorem exec_maintRaiseDebugLock : ∀ car cmd blown s, exec (.maintRaiseDebugLock car cmd blown) s = execMaintRaiseDebugLock car cmd blown s := by intros; rfl
@[simp] theorem exec_dbgRequest : ∀ car v s, exec (.dbgRequest car v) s = execDbgRequest car v s := by intros; rfl
@[simp] theorem exec_dbgChallenge : ∀ s, exec .dbgChallenge s = execDbgChallenge s := by intros; rfl
@[simp] theorem exec_dbgResponse : ∀ car resp inTime s, exec (.dbgResponse car resp inTime) s = execDbgResponse car resp inTime s := by intros; rfl
@[simp] theorem exec_dbgLockNow : ∀ car s, exec (.dbgLockNow car) s = execDbgLockNow car s := by intros; rfl
@[simp] theorem exec_debugSessionOpen : ∀ s, exec .debugSessionOpen s = execDebugSessionOpen s := by intros; rfl
@[simp] theorem exec_haltAt : ∀ j all steps cycle aheadMs s, exec (.haltAt j all steps cycle aheadMs) s = execHaltAt j all steps cycle aheadMs s := by intros; rfl
@[simp] theorem exec_haltNow : ∀ j all s, exec (.haltNow j all) s = execHaltNow j all s := by intros; rfl
@[simp] theorem exec_jobHalt : ∀ j s, exec (.jobHalt j) s = execJobHalt j s := by intros; rfl
@[simp] theorem exec_resume : ∀ j all s, exec (.resume j all) s = execResume j all s := by intros; rfl
@[simp] theorem exec_stepCy : ∀ j all n s, exec (.stepCy j all n) s = execStepCy j all n s := by intros; rfl
@[simp] theorem exec_stepInsn : ∀ j at1 s, exec (.stepInsn j at1) s = execStepInsn j at1 s := by intros; rfl
@[simp] theorem exec_bpSet : ∀ at1 n pc enable s, exec (.bpSet at1 n pc enable) s = execBpSet at1 n pc enable s := by intros; rfl
@[simp] theorem exec_wpSet : ∀ t n p len kind agents enable s, exec (.wpSet t n p len kind agents enable) s = execWpSet t n p len kind agents enable s := by intros; rfl
@[simp] theorem exec_readCore : ∀ j at1 cls num s, exec (.readCore j at1 cls num) s = execReadCore j at1 cls num s := by intros; rfl
@[simp] theorem exec_writeCore : ∀ j at1 cls num value s, exec (.writeCore j at1 cls num value) s = execWriteCore j at1 cls num value s := by intros; rfl
@[simp] theorem exec_readSp : ∀ j t p len s, exec (.readSp j t p len) s = execReadSp j t p len s := by intros; rfl
@[simp] theorem exec_writeSp : ∀ j t p data s, exec (.writeSp j t p data) s = execWriteSp j t p data s := by intros; rfl
@[simp] theorem exec_readMem : ∀ addr len s, exec (.readMem addr len) s = execReadMem addr len s := by intros; rfl
@[simp] theorem exec_writeMem : ∀ j addr data s, exec (.writeMem j addr data) s = execWriteMem j addr data s := by intros; rfl
@[simp] theorem exec_readFrame : ∀ j t bank row s, exec (.readFrame j t bank row) s = execReadFrame j t bank row s := by intros; rfl
@[simp] theorem exec_clearPoints : ∀ s, exec .clearPoints s = execClearPoints s := by intros; rfl
@[simp] theorem exec_bypass : ∀ s, exec .bypass s = execBypass s := by intros; rfl
@[simp] theorem exec_idcode : ∀ s, exec .idcode s = execIdcode s := by intros; rfl
@[simp] theorem exec_samplePreload : ∀ value s, exec (.samplePreload value) s = execSamplePreload value s := by intros; rfl
@[simp] theorem exec_extest : ∀ s, exec .extest s = execExtest s := by intros; rfl
@[simp] theorem exec_clamp : ∀ s, exec .clamp s = execClamp s := by intros; rfl
@[simp] theorem exec_highz : ∀ s, exec .highz s = execHighz s := by intros; rfl
@[simp] theorem exec_dbgframe : ∀ frame s, exec (.dbgframe frame) s = execDbgframe frame s := by intros; rfl
@[simp] theorem exec_trstAssert : ∀ s, exec .trstAssert s = execTrstAssert s := by intros; rfl
@[simp] theorem exec_tallyReferenceCount : ∀ s, exec .tallyReferenceCount s = execTallyReferenceCount s := by intros; rfl
@[simp] theorem exec_stepUpDelayExpiry : ∀ s, exec .stepUpDelayExpiry s = execStepUpDelayExpiry s := by intros; rfl
@[simp] theorem exec_parkingComplete : ∀ z s, exec (.parkingComplete z) s = execParkingComplete z s := by intros; rfl
@[simp] theorem exec_pcieLinkUp : ∀ rateGt width s, exec (.pcieLinkUp rateGt width) s = execPcieLinkUp rateGt width s := by intros; rfl
@[simp] theorem exec_perstRelease : ∀ s, exec .perstRelease s = execPerstRelease s := by intros; rfl
@[simp] theorem exec_sgmiiLinkChange : ∀ up s, exec (.sgmiiLinkChange up) s = execSgmiiLinkChange up s := by intros; rfl
@[simp] theorem exec_doeDiscovery : ∀ index s, exec (.doeDiscovery index) s = execDoeDiscovery index s := by intros; rfl
@[simp] theorem exec_laserLightArrival : ∀ k s, exec (.laserLightArrival k) s = execLaserLightArrival k s := by intros; rfl
@[simp] theorem exec_reservedInstruction : ∀ at1 word s, exec (.reservedInstruction at1 word) s = execReservedInstruction at1 word s := by intros; rfl

end Sys2Proof.Machine
end

