-- ==== Sys2Proof/Laws/Tiles.lean ====
section
/-! SUPPORT. What a command of one tile leaves: the tile that its meaning gives and nothing else but counters, and the result of an instruction that
retires with one destination. -/

namespace Sys2Proof.Machine

theorem markReady_get (k : CoreSt) (x cy : Nat) (hx : x ≠ 0) (hc : cy ≠ 0) : SMap.get 0 (markReady k [x] cy).ready x = cy := by
  simp only [markReady, List.foldl_cons, List.foldl_nil, hx, if_false, SMap.put, hc]
  exact SMap.get_ins_same 0 _ x cy

theorem retire_ready (t0 n lat x : Nat) (row : Option (Nat × Nat)) (k : CoreSt) (hx : x ≠ 0) (hl : lat ≠ 0) :
    SMap.get 0 (retire t0 n lat [x] row k).ready x = t0 + lat := by
  cases row <;> exact markReady_get _ x _ hx (by omega)

theorem Retired.of_retire (t0 lat : Nat) (dsts : List Nat) (row : Option (Nat × Nat)) (k0 k : CoreSt) (h1 : k.pc = k0.pc) (h2 : k.run = k0.run)
    (h3 : k.etrap = k0.etrap) (h4 : k.vextra = k0.vextra) : Retired k0 (retire t0 (t0 + 1) lat dsts row k) t0 :=
  ⟨by simp [h1], by simp [h2], by simp, by simp [h3], by simp [h4]⟩

theorem scalar_of {s u : State} {i : CoreAt} {d : Reg} {t0 lat : Nat} {row : Option (Nat × Nat)} {v : U64} (hl : lat ≠ 0) (ho : onlyCore s u i)
    (h : u.coreAt i = retire t0 (t0 + 1) lat [rS d] row ((s.coreAt i).setS d v)) : ScalarResult s u i t0 d lat v := by
  have hw := CoreSt.getS_setS (s.coreAt i) d v
  refine ⟨ho, ?_, ⟨?_, fun r hr => ?_⟩, ?_, ⟨?_, ?_⟩, fun hd => ?_⟩ <;> rw [h]
  · exact Retired.of_retire t0 lat _ row _ _ (by simp) (by simp) (by simp) (by simp)
  · simpa using hw.1
  · simpa using hw.2 r hr
  · simp [keepsV]
  · simp
  · simp
  · exact retire_ready _ _ _ _ _ _ (fun h0 => hd (Fin.ext h0)) hl

theorem vector_of {s u : State} {i : CoreAt} {d : VReg} {t0 lat : Nat} {row : Option (Nat × Nat)} {v : V512} {fl : BitVec 5} (hl : lat ≠ 0)
    (ho : onlyCore s u i) (h : u.coreAt i = retire t0 (t0 + 1) lat [rV d] row (orVflags fl ((s.coreAt i).setV d v))) :
    VectorResult s u i t0 d lat v fl := by
  have hw := CoreSt.getV_setV (s.coreAt i) d v
  refine ⟨ho, ?_, ⟨?_, fun r hr => ?_⟩, ?_, ?_, ?_, ?_⟩ <;> rw [h]
  · exact Retired.of_retire t0 lat _ row _ _ rfl rfl rfl rfl
  · simpa [orVflags] using hw.1
  · simpa [orVflags] using hw.2 r hr
  · intro r; simp [orVflags, CoreSt.getS, CoreSt.setV]
  · simp [orVflags, CoreSt.setV]
  · simp [orVflags, CoreSt.setV]
  · exact retire_ready _ _ _ _ _ _ (by simp [rV]) hl

theorem op_ready {c : CoreIx} {major : Nat} {srcs dsts : List Nat} {row : Option Nat} {causes : Tile → List Nat} {body : Nat → Tile → TOut}
    {t : Tile} {o : TOut} (hop : o = coreGo c major srcs dsts row causes body t) (h : TileReady t c (issueCycle (t.core c) srcs dsts row))
    (hc : pickCause (causes (t.atCycle (issueCycle (t.core c) srcs dsts row))) = 0) :
    o = body (issueCycle (t.core c) srcs dsts row) (t.atCycle (issueCycle (t.core c) srcs dsts row)) := hop.trans (coreGo_ready h hc)

@[simp] theorem State.bumpTile_tiles (s : State) (t k n : Nat) : (s.bumpTile t k n).tiles = s.tiles := by
  unfold State.bumpTile; split <;> rfl

@[simp] theorem State.bumps_tiles (s : State) (t : Nat) (l : List (Nat × Nat)) : (s.bumps t l).tiles = s.tiles := by
  unfold State.bumps
  induction l generalizing s with
  | nil => rfl
  | cons a l ih => simp [ih]

theorem putTile_tiles (s : State) (T : Nat) (o : TOut) (h : o.hits = []) : (s.putTile T o).tiles = SMap.put Tile.reset s.tiles T o.tile := by
  unfold State.putTile
  simp only [h, List.foldl_nil]
  split
  · split
    · simp
    · simp
  · simp

theorem putTile_coreAt (s : State) (i : CoreAt) (o : TOut) (h : o.hits = []) (hI : s.Inv) : (s.putTile i.tile.val o).coreAt i = o.tile.core i.core := by
  unfold State.coreAt State.tile
  rw [putTile_tiles s _ o h, SMap.get_put_same _ _ _ _ hI.2]

theorem onTile_next {t : TileIx} {f : TEnv → Tile → TOut} {s : State} {o : TOut} (hg : s.grid.hasTile t.val = true)
    (hf : f (s.env t.val) (s.tile t.val) = o) : onTile t f s = .next (s.putTile t.val o) := by
  simp [onTile, hg, hf]

theorem onTile_core {i : CoreAt} {f : TEnv → Tile → TOut} {s : State} {o : TOut} (hg : s.grid.hasTile i.tile.val = true) (hI : s.Inv)
    (hf : f (s.env i.tile.val) (s.tile i.tile.val) = o) (hh : o.hits = []) :
    ∃ u, onTile i.tile f s = .next u ∧ u.coreAt i = o.tile.core i.core :=
  ⟨_, onTile_next hg hf, putTile_coreAt s i o hh hI⟩

@[simp] theorem TOut.bump_tile (o : TOut) (a b : Nat) : (o.bump a b).tile = o.tile := by unfold TOut.bump; split <;> rfl

@[simp] theorem TOut.bump_hits (o : TOut) (a b : Nat) : (o.bump a b).hits = o.hits := by unfold TOut.bump; split <;> rfl

theorem bumps_eq (T : Nat) (l : List (Nat × Nat)) : ∀ s : State, ∃ c d, s.bumps T l = { s with ctr := c, tctr := d } := by
  induction l with
  | nil => exact fun s => ⟨s.ctr, s.tctr, rfl⟩
  | cons a l ih =>
    intro s
    obtain ⟨c, d, h⟩ := ih (s.bumpTile T a.1 a.2)
    refine ⟨c, d, (show s.bumps T (a :: l) = (s.bumpTile T a.1 a.2).bumps T l from rfl).trans (h.trans ?_)⟩
    unfold State.bumpTile State.bump
    dsimp only
    split <;> rfl

theorem filter_sum_zero (l : List (Nat × Nat)) (k : Nat) (h : ∀ b ∈ l, b.1 ≠ k) : l.filter (fun b => b.1 == k) = [] := by
  simp [List.filter_eq_nil_iff]; intro a b hab; exact h _ hab

/-- Counters that are not those of the update engine's beads (R260). -/
def PlainBumps (o : TOut) : Prop := o.hits = [] ∧ ∀ b ∈ o.bumps, b.1 ≠ ck 0x9160 1 ∧ b.1 ≠ ck 0x9160 2

theorem putTile_only {s : State} {T : Nat} {o : TOut} (hI : SMap.wf Tile.reset s.tiles = true) (h : PlainBumps o) :
    onlyTile s (s.putTile T o) T ∧ (s.putTile T o).tile T = o.tile := by
  have e : s.putTile T o = (s.setTile T o.tile).bumps T o.bumps := by
    unfold State.putTile
    simp only [h.1, List.foldl_nil, filter_sum_zero _ _ (fun b hb => (h.2 b hb).1), filter_sum_zero _ _ (fun b hb => (h.2 b hb).2), Nat.add_zero, if_true]
    split <;> rfl
  obtain ⟨c, d, hb⟩ := bumps_eq T o.bumps (s.setTile T o.tile)
  rw [e, hb]
  exact ⟨⟨rfl, fun U hU => State.tile_setTile_ne s _ hU⟩, State.tile_setTile_same s _ _ hI⟩

theorem onTile_only {t : TileIx} {f : TEnv → Tile → TOut} {s : State} {o : TOut} (hg : s.grid.hasTile t.val = true) (hI : s.Inv)
    (hf : f (s.env t.val) (s.tile t.val) = o) (h : PlainBumps o) :
    ∃ u, onTile t f s = .next u ∧ onlyTile s u t.val ∧ u.tile t.val = o.tile :=
  ⟨_, onTile_next hg hf, putTile_only hI.2 h⟩

theorem PlainBumps.of_ (t : Tile) : PlainBumps (TOut.of t) := ⟨rfl, fun b h => by simp at h⟩

theorem PlainBumps.bump_ {o : TOut} {k n : Nat} (h : PlainBumps o) (h1 : k ≠ ck 0x9160 1) (h2 : k ≠ ck 0x9160 2) : PlainBumps (o.bump k n) := by
  unfold TOut.bump; split
  · exact h
  · refine ⟨h.1, fun b hb => ?_⟩
    simp only [List.mem_append, List.mem_singleton] at hb
    rcases hb with hb | hb
    · exact h.2 b hb
    · subst hb; exact ⟨h1, h2⟩

theorem vDone_plain (c : CoreIx) (t0 m w : Nat) (dsts : List Nat) (f : CoreSt → CoreSt) (t : Tile) : PlainBumps (vDone c t0 m w dsts f t) :=
  (PlainBumps.of_ _).bump_ (by decide) (by decide)

theorem vDone_tile (c : CoreIx) (t0 m w : Nat) (dsts : List Nat) (f : CoreSt → CoreSt) (t : Tile) :
    (vDone c t0 m w dsts f t).tile = t.updCore c (fun k =>
    { (retire t0 (t0 + m + w) (m + w) dsts none (f k)) with run := .running, vextra := k.vextra + w, wdog := 0 }) := by simp [vDone]

/-- A V-marked instruction that has ended. -/

theorem waited_of {s u : State} {i : CoreAt} {t0 m w : Nat} {d : Reg} {v : U64} {t : Tile} (ho : onlyTile s u i.tile.val)
    (ht : u.tile i.tile.val = (vDone i.core t0 m w [rS d] (fun k => k.setS d v) t).tile) (hc : t.core i.core = s.coreAt i) :
    waitedResult s u i t0 m w d v := by
  have hk : u.coreAt i = { (retire t0 (t0 + m + w) (m + w) [rS d] none ((s.coreAt i).setS d v)) with run := .running, vextra := (s.coreAt i).vextra + w, wdog := 0 } := by
    unfold State.coreAt at hc ⊢
    rw [ht, vDone_tile, Tile.updCore, Tile.core_setCore_same, hc]
  have hw := CoreSt.getS_setS (s.coreAt i) d v
  refine ⟨ho, ⟨?_, ?_, ?_, ?_, ?_, ?_⟩, ⟨?_, fun r hr => ?_⟩, ?_, ?_⟩ <;> rw [hk]
  · simp
  · simp
  · simp [keepsV]
  · simp
  · simp
  · have := hw.1; simpa [CoreSt.getS] using this
  · have := hw.2 r hr; simpa [CoreSt.getS] using this

theorem holds_of {s u : State} {i : CoreAt} {kind t0 w : Nat} {t : Tile} (ho : onlyTile s u i.tile.val)
    (ht : u.tile i.tile.val = vHold i.core kind t0 w t) (hc : ∀ c, t.core c = (s.tile i.tile.val).core c) (hs : t.sp = (s.tile i.tile.val).sp) :
    holds s u i kind t0 := by
  have hk : u.coreAt i = { s.coreAt i with run := .waiting kind t0, wdog := w % 2 ^ 25 } := by
    unfold State.coreAt
    rw [ht, vHold, Tile.updCore, Tile.core_setCore_same, hc]
  refine ⟨⟨ho, fun c hne => ?_, ?_⟩, ?_, ?_, ?_, ?_⟩
  · rw [ht, vHold, Tile.updCore, Tile.core_setCore_ne _ _ hne, hc]
  · rw [ht]; exact hs
  · rw [hk]
  · rw [hk]
  · intro r; rw [hk]; rfl
  · unfold keepsV; rw [hk]

theorem vGo_ready {c : CoreIx} {kind major : Nat} {srcs dsts : List Nat} {causes : Tile → List Nat} {body : Nat → Tile → TOut}
    {t : Tile} (h : TileReady t c (issueCycle (t.core c) srcs dsts none))
    (hc : pickCause (causes (t.atCycle (issueCycle (t.core c) srcs dsts none))) = 0) :
    vGo c kind major srcs dsts causes body t = body (issueCycle (t.core c) srcs dsts none) (t.atCycle (issueCycle (t.core c) srcs dsts none)) := by
  unfold vGo
  rw [h.running]
  exact coreGo_ready h hc
/-- An operation that only updates its core and what `g` changes of the tile. -/

theorem plain_of {s : State} {i : CoreAt} {f : TEnv → Tile → TOut} {t0 : Nat} {g : Tile → Tile} {r : CoreSt → CoreSt} (hg : s.grid.hasTile i.tile.val = true)
    (hI : s.Inv) (e : f (s.env i.tile.val) (s.tile i.tile.val) = TOut.of ((g ((s.tile i.tile.val).atCycle t0)).updCore i.core r)) :
    ∃ u, onTile i.tile f s = .next u ∧ onlyTile s u i.tile.val ∧ u.tile i.tile.val = (g ((s.tile i.tile.val).atCycle t0)).updCore i.core r :=
  onTile_only hg hI e (PlainBumps.of_ _)

theorem updCore_at (t : Tile) (c : CoreIx) (r : CoreSt → CoreSt) : (t.updCore c r).core c = r (t.core c) := by simp [Tile.updCore]

theorem updCore_ne (t : Tile) (c d : CoreIx) (r : CoreSt → CoreSt) (h : d ≠ c) : (t.updCore c r).core d = t.core d := by
  simp [Tile.updCore, Tile.core_setCore_ne _ _ h]

end Sys2Proof.Machine
end

