-- ==== Sys2Proof/Laws/Data.lean ====
section
/-! SUPPORT. Loads and stores of a core: what the bytes read are, which bytes a store changes, and that the scratchpad keeps its canonical form. -/

namespace Sys2Proof.Machine

theorem wpCheck_none (ab : Nat) (wr : Bool) (p n cy : Nat) (t : Tile) (h : ∀ n : Fin 2, (t.wps[n]).enable = false) : wpCheck ab wr p n cy t = TOut.of t := by
  have h0 := h 0; have h1 := h 1
  simp only [wpCheck, h0, h1, Bool.false_and, Bool.false_eq_true, if_false]; rfl

theorem dataRead_plain (p n cy : Nat) (t : Tile) (h1 : t.spBad = []) (h : ∀ n : Fin 2, (t.wps[n]).enable = false) : dataRead p n cy t = TOut.of t := by
  simp [dataRead, spCheck_good _ _ _ _ _ h1, wpCheck_none _ _ _ _ _ _ h]

theorem dataCauses_ok {s : State} {i : CoreAt} {o n : Nat} (h : DataOk s i o n) (k : Nat) : dataCauses i.core o n ((s.tile i.tile.val).atCycle k) = [] := by
  have h1 := h.bound; have h2 := h.aligned; have h3 := h.cls; have h4 := h.owner; have h5 := h.data
  simp only [State.physAt] at h3 h4 h5
  have e1 : ((s.tile i.tile.val).atCycle k).bankClass = (s.tile i.tile.val).bankClass := rfl
  have e2 : ((s.tile i.tile.val).atCycle k).bankOwner = (s.tile i.tile.val).bankOwner := rfl
  have e3 : ((s.tile i.tile.val).atCycle k).bankCode = (s.tile i.tile.val).bankCode := rfl
  simp [dataCauses, causeIf, Tile.inBound, h1, h2, e1, e2, e3, h3, h4, h5]

theorem atCycle_wps (t : Tile) (n : Nat) : (t.atCycle n).wps = t.wps := rfl

theorem LoadInsn.of {mk : CoreAt → Reg → Reg → U16 → Instr} {mj n : Nat} {sg : Bool} {f : Nat → U64}
    (hm : ∀ i d a imm s, exec (mk i d a imm) s = onTile i.tile (fun _ => loadOp i.core mj d a imm n sg) s)
    (hf : ∀ x, (if sg then BitVec.ofInt 64 (sextNat (8 * n) x) else BitVec.ofNat 64 x) = f x) : LoadInsn mk n f := by
  intro s i d a imm hI h hd
  have hc : pickCause (dataCauses i.core (dataOff (((s.tile i.tile.val).atCycle (s.issueAt i [rS a] [rS d] none)).core i.core) a imm) n ((s.tile i.tile.val).atCycle (s.issueAt i [rS a] [rS d] none))) = 0 := by
    rw [Tile.atCycle_core]; rw [show dataOff ((s.tile i.tile.val).core i.core) a imm = s.offAt i a imm from rfl, dataCauses_ok hd]; rfl
  have hg := coreGo_ready (major := mj) (causes := fun t => dataCauses i.core (dataOff (t.core i.core) a imm) n t) (body := fun t0 t =>
      let p := t.tsk.base + dataOff (t.core i.core) a imm
      let x := natOfLE (t.data p n)
      let v : U64 := if sg then BitVec.ofInt 64 (sextNat (8 * n) x) else BitVec.ofNat 64 x
      (dataRead p n (t0 + 2) t).upd (fun t => t.updCore i.core (fun k => retire t0 (t0 + 1) 4 [rS d] none (k.setS d v)))) h.tile hc
  rw [hm]
  have hb := onTile_plain (t := i.tile) (f := fun _ => loadOp i.core mj d a imm n sg) (s := s) h.grid (by
    refine hg.trans ?_
    simp only []
    rw [dataRead_plain _ _ _ _ (by simpa using h.parity) (by simpa [atCycle_wps] using hd.noWatch), TOut.of_upd])
  refine ⟨_, hb, ?_⟩
  obtain ⟨h2, h3⟩ := onlyCore_updCore (s := s) (i := i) (s.issueAt i [rS a] [rS d] none) (fun k => retire (s.issueAt i [rS a] [rS d] none) (s.issueAt i [rS a] [rS d] none + 1) 4 [rS d] none (k.setS d (f (natOfLE ((s.tile i.tile.val).sp.readBytes (s.physAt i (s.offAt i a imm)) n))))) hI.2
  rw [hf]
  exact scalar_of (row := none) (by decide) h2 h3

theorem sext_ofNat (w x : Nat) (h0 : 0 < w) : BitVec.ofInt 64 (sextNat w x) = BitVec.signExtend 64 (BitVec.ofNat w x) := by
  unfold BitVec.signExtend
  congr 1
  unfold sextNat
  rw [BitVec.toInt_eq_toNat_cond]
  simp only [BitVec.toNat_ofNat]
  have : 2 ^ w = 2 * 2 ^ (w - 1) := by rw [← Nat.pow_succ']; congr 1; omega
  have e : (x % 2 ^ w < 2 ^ (w - 1)) ↔ (2 * (x % 2 ^ w) < 2 ^ w) := by omega
  simp only [e]

theorem retire_vec (k : CoreSt) (d : VReg) (v : V512) : k.setV d v = orVflags 0 (k.setV d v) := by
  simp [orVflags, CoreSt.setV]

theorem vOfD_val (d : VReg) : vOfD (BitVec.ofNat 5 d.val) = d := by
  have := d.isLt
  apply Fin.ext
  show (BitVec.ofNat 5 d.val).toNat % 16 = d.val
  rw [BitVec.toNat_ofNat]; omega

theorem vld_of (s : State) (i : CoreAt) (db : BitVec 5) (a : Reg) (imm : U16) (hbit : db.getLsbD 4 = false) (hI : s.Inv)
    (h : CoreReady s i [rS a] [rV (vOfD db)] none) (hd : DataOk s i (s.offAt i a imm) 64) :
    ∃ u, execVld i db a imm s = .next u ∧ VectorResult s u i (s.issueAt i [rS a] [rV (vOfD db)] none) (vOfD db) 4
              (BitVec.ofNat 512 (natOfLE ((s.tile i.tile.val).sp.readBytes (s.physAt i (s.offAt i a imm)) 64))) 0 := by
  have hc : pickCause (vecMemCauses i.core db a imm ((s.tile i.tile.val).atCycle (s.issueAt i [rS a] [rV (vOfD db)] none))) = 0 := by
    unfold vecMemCauses
    rw [Tile.atCycle_core, hbit, show dataOff ((s.tile i.tile.val).core i.core) a imm = s.offAt i a imm from rfl, dataCauses_ok hd]; rfl
  have hg := coreGo_ready (major := 0x14) (causes := vecMemCauses i.core db a imm) (body := fun t0 t =>
    let p := t.tsk.base + dataOff (t.core i.core) a imm
    let v := t.line p
    (dataRead p 64 (t0 + 2) t).upd (fun t => t.updCore i.core (fun k => retire t0 (t0 + 1) 4 [rV (vOfD db)] none (k.setV (vOfD db) v)))) h.tile hc
  have hb2 := onTile_plain (t := i.tile) (f := fun _ => vldOp i.core db a imm) (s := s) h.grid (by
    refine hg.trans ?_
    simp only []
    rw [dataRead_plain _ _ _ _ (by simpa using h.parity) (by simpa [atCycle_wps] using hd.noWatch), TOut.of_upd])
  refine ⟨_, hb2, ?_⟩
  obtain ⟨h2, h3⟩ := onlyCore_updCore (s := s) (i := i) (s.issueAt i [rS a] [rV (vOfD db)] none) (fun k => retire (s.issueAt i [rS a] [rV (vOfD db)] none) (s.issueAt i [rS a] [rV (vOfD db)] none + 1) 4 [rV (vOfD db)] none (k.setV (vOfD db) ((s.tile i.tile.val).line (s.physAt i (s.offAt i a imm))))) hI.2
  have hl : lineAddr (s.physAt i (s.offAt i a imm)) = s.physAt i (s.offAt i a imm) := by
    have hb := hd.base; have := hd.aligned; unfold lineAddr State.physAt at *; omega
  have hline : (s.tile i.tile.val).line (s.physAt i (s.offAt i a imm)) = BitVec.ofNat 512 (natOfLE ((s.tile i.tile.val).sp.readBytes (s.physAt i (s.offAt i a imm)) 64)) := by
    unfold Tile.line; rw [hl]
  rw [← hline]
  exact vector_of (row := none) (by decide) h2 (h3.trans (by rw [← retire_vec]))

theorem placed_write (p l : Nat) (bs : List Byte) (m : Mem) (hl : l = lineAddr p) (h : p % 64 + bs.length ≤ 64) :
    (placed p bs).foldl (fun m b => m.write (l + b.1) b.2) m = m.writeBytes p bs := by
  induction bs generalizing p m with
  | nil => rfl
  | cons b bs ih =>
    simp only [placed, List.foldl_cons, Mem.writeBytes, List.length_cons] at h ⊢
    have e : l + p % 64 = p := by subst hl; unfold lineAddr; omega
    rw [e]
    cases bs with
    | nil => rfl
    | cons c cs =>
      simp only [List.length_cons] at h
      apply ih
      · subst hl; unfold lineAddr; omega
      · simp only [List.length_cons]; omega

theorem dataWrite_plain (mi : Bool) (p cy : Nat) (bs : List Byte) (t : Tile) (h1 : t.spBad = []) (h : ∀ n : Fin 2, (t.wps[n]).enable = false)
    (hp : p % 64 + bs.length ≤ 64) :
    ∃ acc, dataWrite mi p cy bs t = TOut.of { t with sp := t.sp.writeBytes p bs, mirrorAcc := acc } ∧ (t.mirror = false → acc = t.mirrorAcc) := by
  refine ⟨if mi && t.mirror && ! (placed p bs).isEmpty then t.mirrorAcc + mirrorTerm t p (placed p bs) else t.mirrorAcc, ?_, by intro hm; simp [hm]⟩
  have hs : spWrite mi p bs t = { t with sp := t.sp.writeBytes p bs, mirrorAcc := if mi && t.mirror && ! (placed p bs).isEmpty then t.mirrorAcc + mirrorTerm t p (placed p bs) else t.mirrorAcc } := by
    unfold spWrite spWriteLine
    simp only [h1, List.filter_nil, Bool.false_eq_true, if_false]
    rw [placed_write p _ bs _ rfl hp]
  rw [dataWrite, TOut.of_andThen, hs, wpCheck_none _ _ _ _ _ _ (by exact h)]

theorem leOfNat_length (n v : Nat) : (leOfNat n v).length = n := by
  induction n generalizing v with
  | zero => rfl
  | succ n ih => simp [leOfNat, ih]

theorem stored_of {s : State} {i : CoreAt} {t0 p : Nat} {bs : List Byte} {acc : U64} (hI : s.Inv) (hw : (s.tile i.tile.val).sp.wf = true)
    (ha : (s.tile i.tile.val).mirror = false → acc = (s.tile i.tile.val).mirrorAcc) :
    Stored s (s.setTile i.tile.val (({ (s.tile i.tile.val).atCycle t0 with sp := (s.tile i.tile.val).sp.writeBytes p bs, mirrorAcc := acc } : Tile).updCore i.core (fun k => retire t0 (t0 + 1) 1 [] none k))) i t0 p bs := by
  have hT := State.tile_setTile_same s i.tile.val (({ (s.tile i.tile.val).atCycle t0 with sp := (s.tile i.tile.val).sp.writeBytes p bs, mirrorAcc := acc } : Tile).updCore i.core (fun k => retire t0 (t0 + 1) 1 [] none k)) hI.2
  have hk : (s.setTile i.tile.val (({ (s.tile i.tile.val).atCycle t0 with sp := (s.tile i.tile.val).sp.writeBytes p bs, mirrorAcc := acc } : Tile).updCore i.core (fun k => retire t0 (t0 + 1) 1 [] none k))).coreAt i = retire t0 (t0 + 1) 1 [] none (s.coreAt i) := by
    unfold State.coreAt; rw [hT]; simp only [Tile.updCore, Tile.core_setCore_same]; rfl
  refine ⟨rfl, fun T hTne => State.tile_setTile_ne s _ hTne, ⟨max (s.tile i.tile.val).frame.clk t0, (s.tile i.tile.val).sp.writeBytes p bs, acc, ?_⟩, ?_, ?_, ?_, ?_, ?_, ?_, ?_, ?_⟩
  · rw [hk, hT]; rfl
  · rw [hT]; exact ha
  · rw [hT]; exact Mem.wf_writeBytes _ _ _ hw
  · intro j h; rw [hT]; exact Mem.read_writeBytes_in _ _ _ _ hw h
  · intro q h; rw [hT]; exact Mem.read_writeBytes_out _ _ _ _ h
  · rw [hk]; exact Retired.of_retire t0 1 _ none _ _ rfl rfl rfl rfl
  · intro r; rw [hk]; simp
  · unfold keepsV; rw [hk]; simp
  · unfold keepsFlags; rw [hk]; simp

end Sys2Proof.Machine
end

