-- ==== Sys2Proof/Laws/Memory.lean ====
section
/-! SUPPORT. Device memory and scratchpads: every operation keeps the canonical form, a byte outside the written ones reads as before, and a
byte written reads back. -/

namespace Sys2Proof.Machine

theorem SMap.wfFrom_filter {α : Type} [DecidableEq α] (d : α) (f : Nat × α → Bool) (m : SMap α) (lo : Nat) (h : SMap.wfFrom d lo m = true) :
    SMap.wfFrom d lo (m.filter f) = true := by
  induction m generalizing lo with
  | nil => rfl
  | cons e m ih =>
    obtain ⟨a, w⟩ := e
    simp only [SMap.wfFrom, Bool.and_eq_true, decide_eq_true_eq] at h
    simp only [List.filter_cons]
    split
    · simp [SMap.wfFrom, h.1.1, ih (a + 1) h.2]
      simpa using h.1.2
    · exact SMap.wfFrom_mono d _ (by omega : lo ≤ a + 1) (ih (a + 1) h.2)

theorem SMap.wf_filter {α : Type} [DecidableEq α] (d : α) (f : Nat × α → Bool) (m : SMap α) (h : SMap.wf d m = true) : SMap.wf d (m.filter f) = true :=
  SMap.wfFrom_filter d f m 0 h

theorem Mem.wf_filter (f : Nat × Byte → Bool) (m : Mem) (h : m.wf = true) : Mem.wf (m.filter f) = true := SMap.wf_filter memDefault f m h

theorem State.stackWrite_wf (s : State) (st loc : Nat) (bs : List Byte) (p : Bool) (h : s.mem.data.wf = true) :
    (s.stackWrite st loc bs p).mem.data.wf = true := Mem.wf_writeBytes _ _ _ h

theorem State.memWriteLines_wf (n : Nat) (s : State) (addr : Nat) (bs : List Byte) (p : Bool) (h : s.mem.data.wf = true) :
    (s.memWriteLines n addr bs p).mem.data.wf = true := by
  induction n generalizing s addr bs with
  | zero => exact h
  | succ n ih =>
    simp only [State.memWriteLines]
    split
    · exact h
    · apply ih
      split
      · exact State.stackWrite_wf _ _ _ _ _ h
      · exact h

/-- A write to device memory keeps its canonical form. -/
theorem State.memWrite_wf (s : State) (addr : Nat) (bs : List Byte) (p : Bool) (h : s.mem.data.wf = true) : (s.memWrite addr bs p).mem.data.wf = true :=
  State.memWriteLines_wf _ s addr bs p h

/-- A byte of a stack outside those written reads as before. -/
theorem State.stackWrite_read_out (s : State) (st loc k : Nat) (bs : List Byte) (p : Bool)
    (h : k < stackKey st loc ∨ stackKey st loc + bs.length ≤ k) : (s.stackWrite st loc bs p).mem.data.read k = s.mem.data.read k :=
  Mem.read_writeBytes_out _ _ _ _ h

/-- The bytes written to a stack read back. -/
theorem State.stackWrite_read_in (s : State) (st loc i : Nat) (bs : List Byte) (p : Bool) (h : s.mem.data.wf = true) (hi : i < bs.length) :
    (s.stackWrite st loc bs p).mem.data.read (stackKey st loc + i) = bs[i] :=
  Mem.read_writeBytes_in _ _ _ _ h hi

/-- A write to device memory changes device memory alone. -/
theorem State.memWriteLines_only (n : Nat) (s : State) (addr : Nat) (bs : List Byte) (p : Bool) :
    { s.memWriteLines n addr bs p with mem := s.mem } = s := by
  induction n generalizing s addr bs with
  | zero => rfl
  | succ n ih =>
    simp only [State.memWriteLines]
    split
    · rfl
    · split
      · exact (congrArg (fun u : State => { u with mem := s.mem }) (ih (s.stackWrite _ _ _ _) _ _) : _)
      · exact ih s _ _

theorem State.memWrite_only (s : State) (addr : Nat) (bs : List Byte) (p : Bool) : { s.memWrite addr bs p with mem := s.mem } = s :=
  State.memWriteLines_only _ s addr bs p

/-- A stack that leaves present[] loses its bytes, and memory keeps its canonical form. -/
theorem State.stackOut_wf (s : State) (m : StackIx) (st : Nat) (h : s.mem.data.wf = true) : (s.stackOut m st).mem.data.wf = true :=
  Mem.wf_filter _ _ h

/-- Writing one line of a scratchpad keeps its canonical form. -/
theorem spWriteLine_wf (mi po : Bool) (p : Nat) (bs : List (Nat × Byte)) (t : Tile) (h : t.sp.wf = true) : (spWriteLine mi po p bs t).sp.wf = true := by
  have hf : ∀ (bs : List (Nat × Byte)) (m : Mem) (l : Nat), m.wf = true → Mem.wf (bs.foldl (fun m b => m.write (l + b.1) b.2) m) = true := by
    intro bs
    induction bs with
    | nil => intro m l h; exact h
    | cons b bs ih => intro m l h; exact ih _ l (Mem.wf_write m _ _ h)
  exact hf bs t.sp (lineAddr p) h

/-- Scrubbing and the loss of banks keep the canonical form of a scratchpad. -/
theorem keepBanks_wf (keep : Nat → Bool) (t : Tile) (h : t.sp.wf = true) : (keepBanks keep t).sp.wf = true := Mem.wf_filter _ _ h

end Sys2Proof.Machine
end

