-- ==== Sys2Proof/Laws/Writes.lean ====
section
/-! SUPPORT. A management write that is let through is its writer with the answer sent; counters and job slots after an update. -/

namespace Sys2Proof.Machine

theorem satAdd_ne {a n : Nat} (h : 0 < n) : satAdd a n ≠ 0 := by
  have h1 : 1 ≤ satAdd a n := Nat.le_min.mpr ⟨by decide, by omega⟩
  omega

theorem counted_bump (s : State) (k : Nat) {n : Nat} (h : 0 < n) : counted s (s.bump k n) k n := by
  constructor
  · simp [State.bump, State.counter, SMap.put, satAdd_ne h, SMap.get_ins_same]
  · intro x hx; simp [State.bump, State.counter, SMap.put, satAdd_ne h, SMap.get_ins_ne _ _ _ hx]

theorem Served.eq {s : State} {car : Carrier} {cls : Nat} (h : Served s car cls) (w : Writer) :
    mgmtWrite car cls w s = .next (((w s).1.countRefusal (w s).2).answer car (w s).2 []) := by
  obtain ⟨h1, h2⟩ := h
  have hu : s.usable = true := by simp [State.usable, h1.powered, h1.stage]
  have hr : s.recovery = false := by simp [State.recovery, h1.normal]
  have hc : s.carrierOn car = true := by simp [State.carrierOn, State.listening, h1.powered, h1.stage, hr]
  simp [mgmtWrite, mgmtWriteIn, hc, State.guarded, hr, h1.mgmt, hu, h2]

@[simp] theorem countRefusal_zero (s : State) : s.countRefusal 0 = s := by simp [State.countRefusal]

@[simp] theorem countRefusal_one (s : State) : s.countRefusal 1 = s := by simp [State.countRefusal]

@[simp] theorem answer_job (s : State) (car st d) (j) : (s.answer car st d).job j = s.job j := rfl

@[simp] theorem job_setJob (s : State) (j : SlotIx) (v) : (s.setJob j v).job j = v := by simp [State.setJob, State.job]

@[simp] theorem job_setJob_ne (s : State) {j k : SlotIx} (v) (h : k ≠ j) : (s.setJob j v).job k = s.job k := by
  simp [State.setJob, State.job]; exact Vector.getElem_set_ne _ _ (fun e => h (Fin.ext e.symm))

@[simp] theorem job_updJob (s : State) (j : SlotIx) (f) : (s.updJob j f).job j = f (s.job j) := by simp [State.updJob]

@[simp] theorem job_raise (s : State) (a b c j) : (s.raise a b c).job j = s.job j := rfl

@[simp] theorem job_bump (s : State) (a b j) : (s.bump a b).job j = s.job j := rfl

@[simp] theorem job_setJobState (s : State) (j : SlotIx) (st) : (s.setJobState j st).job j = { s.job j with state := st } := by simp [State.setJobState]

end Sys2Proof.Machine
end

