-- ==== Sys2Proof/Tests/Slice0.lean ====
section
/-! SUPPORT. Tests: worked examples of the spec, a refused term for each check of Instr.wf, and for each obligation a theorem that shows
concrete states and operands which meet its hypotheses. -/

set_option maxRecDepth 10000
set_option Elab.async false
set_option linter.all false

namespace Sys2Proof.Machine

/-- The grid of a part of grade 1440 with nothing shadowed. -/
def tGrid : Grid :=
  { Grid.reset with gradeFused := 1440, rows := 15, perField := 15, used := #v[0x7FFF, 0x7FFF, 0x7FFF, 0x7FFF, 0xFFFE, 0xFFFE, 0xFFFE, 0xFFFE] }

/-- A device in normal service with nothing loaded. -/
def tOn : State :=
  { State.reset with boot := { BootSt.reset with powered := true, stage := 10, outcome := 0, mgmt := true }, grid := tGrid
                     pwr := { PwrSt.reset with rails := true, powerGood := true, debugDom := true, hostIo := true } }

/-- A running core whose registers hold a few addresses and numbers. -/
def tCore : CoreSt :=
  { CoreSt.reset with
    run := .running, pc := 100, now := 7
    s := Vector.ofFn (fun r => ([0, 524288, 64, 128, 262144, 786432, 2, 0xFFFFFFFFFFFFFFFD, 65535, 1152922604118736896] : List U64).getD r.val 5)
    v := Vector.ofFn (fun r => BitVec.ofNat 512 (r.val * 0x3C0040C03F801F3E5577)) }

/-- A tile of a running job: bank 0 data of c0, bank 1 of the frame, bank 2 of the mesh, bank 3 of copy, bank 4 data of c3. -/
def tTile : Tile :=
  { Tile.reset with
    job := some 0, cores := Vector.replicate 4 tCore
    tsk := { TaskSt.reset with bound := 4194304, map := #v[64, 32, 96, 128, 88, 72, 80, 0, 0, 0, 0, 0, 0, 0, 0, 0] } }

/-- A device with tile `t` in its grid holding `v`. -/
def tWith (t : Nat) (v : Tile) : State := { tOn with tiles := [(t, v)] }

/-- The frame with its dot-product units on. -/
def tFrameOn (t : Tile) : Tile := { t with frame := { t.frame with rampFrom := 8, rampAt := 0, idleFrom := 0 } }

/-- A tile with one slot entry that combines the inputs of ports 1 and 2 into a line of its mesh bank. -/
def tSlot (op : Nat) : Tile :=
  { tTile with
    router := { tTile.router with
      first := 3, count := 1, slots := [(3, 40 * 2 ^ 44 + 4 * 2 ^ 25 + 1 * 2 ^ 22 + 2 * 2 ^ 19 + op * 2 ^ 16 + 8192)]
      flits := [38, 39, 40].flatMap (fun c => [⟨1, c, 0xFFFFFFFF00000001, false, false⟩, ⟨2, c, 0x8000000200000007, false, false⟩]) } }

/-- The header of a message from tile 5 to core 1 of tile 5. -/
def tMsg : Nat := 1 * 2 ^ 60 + 5 * 2 ^ 52 + 1 * 2 ^ 45 + 5 * 2 ^ 39

/-- A tile whose core 0 has that message at offset 64, and a service agent with these cores. -/
def tSvc (q : SvCore) : Tile :=
  { tTile with sp := [(68, 0x80), (69, 0x22), (70, 0x50), (71, 0x10)], router := { tTile.router with sv := Vector.replicate 4 q } }

/-- A tile whose router holds these lines. -/
def tRouter (f : RouterSt → RouterSt) : Tile := { tTile with router := f tTile.router }

def tLine (n : Nat) : SvLine := ⟨BitVec.ofNat 512 n, true, false, false⟩
/-- The same tile with a register file whose registers 10 and 11 hold two frame operands and whose frame is on. -/
def tFr : Tile :=
  { tFrameOn tTile with
    cores := Vector.replicate 4 { tCore with
      s := Vector.ofFn (fun r => ([0, 524288, 64, 128, 262144, 786432, 2, 0xFFFFFFFFFFFFFFFD, 65535, 1152922604118736896,
        0x0004080000040000, 0xFFFFFFFF3F800000, 0x000410000004C000, 0x3F800000, 0x00C8000000000000 + 0xC0000, 7] : List U64).getD r.val 5) } }

def tFrBank (st : ChainSt) (q : Option (Option Factor)) : Tile :=
  { tFr with frame := { tFr.frame with ewOut := 0x0004180000050000, banks := Vector.replicate 2 { ABank.reset with st := st, q := q, ca := 0x3F800000, cb := 0x3F800000 } } }

def tGrp : UpdGroup := { valid := true, group := 1, rule := 0, frozen := false, source := 0, eta := 0x3F800000, lambda := 0, clip := 0, s := 1 }

/-- A tile whose update engine has registers pointing into its copy bank. -/
def tUpd (g : Option UpdGroup) : Tile :=
  { tTile with
    upd := { UpdSt.reset with grp := g, ubead := 0xFFFFFFFF, uoBase := 0x000C4000000C8000, uscales := 0x3F8000003F800000 }
    cores := Vector.replicate 4 { tCore with
      s := Vector.ofFn (fun r => ([0, 786432, 0x1000C0000, 5, 0x000C4800000CC000, 0x000C5000000D0000] : List U64).getD r.val 5) } }
/-- A plan for the tiles of zone 0 with one tile record, one engine and one port. -/
def tPlan : Plan :=
  { sourceDigest := 9, targetShadow := 0, keyDigest := 0, zones := 1, stackMask := 1, granule := 1, grouping := 12, engines := 1, ports := 1, flags := 0
    round := 0, reduction := 0, ditherKey := 0, root := 0, fenceD := 20, firstTask := 0, lengths := [500, 600]
    tiles := [{ t := 0, tasks := [], slots := [], ranges := [], resid := [], digs := [], preload := [] }]
    engs := [{ e := 0, table := [], ranges := [] }], tensors := [], quiet := [⟨0, 1, 0, 500⟩] }

/-- The same plan without engines and ports. -/
def tPlanT : Plan := { tPlan with engines := 0, ports := 0, engs := [] }

/-- A job in this state and phase that runs a plan. -/
def tJob (p : Plan) (st : Nat) (ph : Phase) : Job := { Job.reset with state := st, plan := some p, phase := ph, len := 500, evLen := 32 }

/-- A device in normal service with this job in slot 0 and this tile 0. -/
def tRun (b : Job) (t : Tile) : State :=
  { tOn with jobs := (Vector.replicate 8 Job.reset).set 0 b, tiles := [(0, t)]
             mem := { MemSys.reset with present := 1 } }

/-- Engine 0 with one descriptor of an operation. -/
def tEng (op : Nat) (f : EngSt → EngSt) : State :=
  let s := tRun (tJob tPlan 3 .step) { tTile with job := some 0 }
  { s with mem := { s.mem with engines := s.mem.engines.set 0 (f { EngSt.reset with
      table := [(0, op * 2 ^ 60 + 100 * 2 ^ 36 + 2 * 2 ^ 24), (1, 64), (2, 6400)], count := 1, stopped := false }) } }

/-- The tile at the end of its step. -/
def tEnded (next : Option (Nat × Bool)) (k : Nat) : Tile :=
  { tTile with job := some 0, arrivedAt := some k, next := next, cores := Vector.replicate 4 { tCore with run := .ended (k - 1) } }

/-- That device with this power state of a zone. -/
def tZone (s : State) (z : ZoneIx) (p : ZonePwr) : State := { s with pwr := { s.pwr with zones := s.pwr.zones.set z.val p } }

/-- A device whose regulator dies all work. -/
def tReg (s : State) (f : PwrSt → PwrSt) : State := { s with pwr := f { tOn.pwr with reg := Vector.replicate 56 1 } }

/-- A device with a link changed. -/
def tLink (s : State) (l : LinkIx) (f : LinkSt → LinkSt) : State :=
  { s with link := { s.link with links := s.link.links.set l.val (f { LinkSt.reset with laser := true, partner := 9 }) } }

/-- A device whose slot 0 holds a job that owns port 0, with the links of that port up. -/
def tPort (b : Job) : State :=
  let s := tRun { b with plan := some { tPlanT with ports := 1 } } { tTile with job := some 0 }
  tLink (tLink (tLink s 0 (fun k => { k with state := lsUp })) 1 (fun k => { k with state := lsUp })) 2 (fun k => { k with state := lsUp })

/-- The head of a plan transfer of one line to tile 0 of a device. -/
def tXfer (dev : Nat) : List Byte := [1, 0, 0, 0, BitVec.ofNat 8 dev, 0, 0, 0, 0, 0, 1, 0] ++ List.replicate 52 0

/-- A device in normal service with the host link up, stack 0 present, and this state of the host port. -/
def tHost (f : HostSt → HostSt) : State :=
  { tOn with host := f { HostSt.reset with linkUp := true, busMaster := true, ethUp := true }, mem := { MemSys.reset with present := 1 } }

/-- That host port with a mailbox or an event queue changed. -/
def tMbx (n : Fin 16) (m : Mbx) (h : HostSt) : HostSt := { h with mbx := h.mbx.set n m }
def tEq (q : Fin 16) (e : Eq_) (h : HostSt) : HostSt := { h with eqs := h.eqs.set q e }

/-- A session of the Ethernet port with this minor version, and a device that has it. -/
def tSess (minor : Nat) : Session := ⟨7, 0, 99, minor, 1400, some 0xFFFFFFFE, [], 0, 0⟩
def tSessOn (minor : Nat) : State := tHost (fun h => { h with sessions := [⟨5, 1, 0, 3, 4096, none, [], 0, 0⟩, tSess minor] })

/-- A read of SERIAL as an operation, and as a request of that session. -/
def tRead : List Byte := [1, 5, 0x00, 0x01, 8, 0, 0, 0]
def tReq (minor : Nat) (body : List Byte) : List Byte := pennosFrame true minor 3 7 1 0 body

/-- A whole maintenance command of key slot 0 with these arguments. -/
def tMaint (op : Byte) (args : List Byte) : List Byte := ([op] ++ List.replicate 31 0 ++ args ++ List.replicate 96 0).take 128

/-- A device whose debug unit has a level granted, with a running job in slot 0 and tile 0. -/
def tDbg (level : Nat) (halted : Bool) : State :=
  let s := tRun { tJob tPlanT 3 .step with halted := halted, steps := 9 } { tTile with job := some 0, halted := halted }
  { s with prot := { s.prot with dbgGranted := level, haltAt := s.prot.haltAt.set 0 (if halted then some 77 else none) } }


theorem natOfLE_zeros (n : Nat) : natOfLE (List.replicate n 0#8) = 0 := by
  induction n with
  | zero => rfl
  | succ n ih => simp [List.replicate_succ, natOfLE, ih]

theorem leAt_zeros (n o k : Nat) : leAt (List.replicate n 0#8) o k = 0 := by
  simp [leAt, List.drop_replicate, List.take_replicate, natOfLE_zeros]

theorem zerosAt_zeros (n o k : Nat) : zerosAt (List.replicate n 0#8) o k = true := by
  simp [zerosAt, List.drop_replicate, List.take_replicate]

theorem wordsOf_zeros (w n k : Nat) : wordsOf w (List.replicate n 0#8) k = List.replicate k 0 := by
  simp only [wordsOf, leAt_zeros]
  exact List.map_const' .. |>.trans (by simp [upTo])

theorem memOfBytes_zeros (n : Nat) : memOfBytes (List.replicate n 0#8) = [] := by
  suffices h : ∀ a, Mem.writeBytes [] a (List.replicate n 0#8) = [] from h 0
  induction n with
  | zero => intro a; rfl
  | succ n ih => intro a; simp [List.replicate_succ, Mem.writeBytes, Mem.write, SMap.put, memDefault, SMap.del, ih]

theorem smapOfWords_zeros (n : Nat) : smapOfWords (List.replicate n 0) = [] := by
  have h : ∀ l : List (Nat × Nat), (∀ q ∈ l, q.2 = 0) → l.foldl (fun m p => SMap.put 0 m p.1 p.2) ([] : SMap Nat) = [] := by
    intro l
    induction l with
    | nil => intro _; rfl
    | cons q l ih =>
      intro hl
      have hq : q.2 = 0 := hl q (by simp)
      simp only [List.foldl_cons, hq]
      exact ih (fun x hx => hl x (by simp [hx]))
  refine h _ (fun q hq => ?_)
  exact List.eq_of_mem_replicate (List.of_mem_zip hq).2

/-- The record of a tile whose tables are all empty. -/
def tRec (t : Nat) : TileRec := ⟨t, [], [], [], List.replicate 16 (0, 0), [], []⟩

theorem parseTile_zeros (t : Nat) (ht : t < 48) :
    parseTile 1 t (BitVec.ofNat 8 t :: List.replicate 63 0#8) (List.replicate 25728 0#8) = some (tRec t) := by
  have h2 : leAt (BitVec.ofNat 8 t :: List.replicate 63 0#8) 2 2 = 0 := by rfl
  have h4 : leAt (BitVec.ofNat 8 t :: List.replicate 63 0#8) 4 2 = 0 := by rfl
  have h0 : leAt (BitVec.ofNat 8 t :: List.replicate 63 0#8) 0 1 = t := by
    simp [leAt, natOfLE]; omega
  have h1 : leAt (BitVec.ofNat 8 t :: List.replicate 63 0#8) 1 1 = 0 := by rfl
  have h6 : zerosAt (BitVec.ofNat 8 t :: List.replicate 63 0#8) 6 58 = true := by rfl
  have hu : (upTo 16).map (fun _ => ((0 : Nat), (0 : U32))) = List.replicate 16 (0, 0) := by rfl
  simp only [parseTile, h2, h4, h0, h1, h6, List.drop_replicate, List.take_replicate, wordsOf_zeros, leAt_zeros, zerosAt_zeros, memOfBytes_zeros,
    smapOfWords_zeros]
  simp [upTo, tRec, Nat.mod_eq_of_lt ht, Nat.div_eq_of_lt ht, useFresh] <;> rfl

/-- A grid of one logical row, with four tiles in its zone 0. -/
def tGrid1 : Grid := { Grid.reset with gradeFused := 96, rows := 1, perField := 1, used := #v[1, 1, 1, 1, 0x8000, 0x8000, 0x8000, 0x8000] }

/-- A plan image at address 0: one task of 100 cy, no use of the update engine, four empty tile records. -/
def tImage : Mem :=
  [(0, 0x31), (1, 0x4C), (2, 0x50), (3, 0x4E), (4, 1), (32, 1), (40, 1), (42, 1), (50, 8), (66, 6), (70, 1), (73, 1), (80, 8), (81, 1), (88, 8), (89, 0x94),
   (90, 1), (96, 8), (97, 0x94), (98, 1), (104, 0x10), (105, 0x94), (106, 1), (120, 0x18), (121, 0x94), (122, 1), (256, 100), (26056, 1), (51848, 2), (77640, 3)]

def tImgState (reg : Nat) : State :=
  { State.reset with
    boot := { BootSt.reset with powered := true, stage := 10, outcome := 0, mgmt := true }, grid := tGrid1
    mem := { MemSys.reset with present := 1, data := tImage }, jobs := (Vector.replicate 8 Job.reset).set 0 { Job.reset with state := 1 }
    pwr := { PwrSt.reset with reg := Vector.replicate 56 reg, zones := Vector.replicate 48 { ZonePwr.reset with state := 3 } } }

def tImgPlan : Plan :=
  { sourceDigest := 0, targetShadow := 0, keyDigest := 0, zones := 1, stackMask := 1, granule := 1, grouping := 0, engines := 0, ports := 0, flags := 8
    round := 0, reduction := 0, ditherKey := 0, root := 0, fenceD := 6, firstTask := 0, lengths := [100], tiles := [tRec 0, tRec 1, tRec 2, tRec 3]
    engs := [], tensors := [], quiet := [] }

theorem tImg_locate (r a : Nat) (h : a < stackBytes) : (tImgState r).locate a = some (0, a) := by
  have hp : (tImgState r).presentList = [0] := by
    change (tImgState 0).presentList = [0]
    decide +kernel
  have hg : granuleBytes (tImgState r).mem.granule = 65536 := by rfl
  simp only [State.locate, hp, locateIn, hg]
  have hm : a / 65536 % 1 = 0 := by omega
  simp [h, hm]
  omega

theorem tImg_bytes (r a n : Nat) (h : a + n ≤ stackBytes) : (tImgState r).memBytes a n = (List.range n).map (fun i => tImage.read (a + i)) := by
  simp only [State.memBytes, upTo]
  refine List.map_congr_left (fun i hi => ?_)
  have hi : i < n := by simpa using hi
  rw [tImg_locate r (a + i) (by omega)]
  change tImage.read (stackKey 0 (a + i)) = _
  rw [show stackKey 0 (a + i) = a + i by simp [stackKey]]

theorem tImage_read (a k : Nat) (hk : k < 4) (h : 264 + 25792 * k < a) (h2 : a < 26056 + 25792 * k) : tImage.read a = 0#8 := by
  have h3 : a < 103432 := by omega
  have hne : a ≠ 26056 ∧ a ≠ 51848 ∧ a ≠ 77640 := by
    match k, hk with
    | 0, _ => omega
    | 1, _ => omega
    | 2, _ => omega
    | 3, _ => omega
  simp only [Mem.read, tImage, SMap.get]
  rw [if_neg (by omega), if_neg (by omega), if_neg (by omega), if_neg (by omega), if_neg (by omega), if_neg (by omega), if_neg (by omega), if_neg (by omega),
    if_neg (by omega), if_neg (by omega), if_neg (by omega), if_neg (by omega), if_neg (by omega), if_neg (by omega), if_neg (by omega), if_neg (by omega),
    if_neg (by omega), if_neg (by omega), if_neg (by omega), if_neg (by omega), if_neg (by omega), if_neg (by omega), if_neg (by omega), if_neg (by omega),
    if_neg (by omega), if_neg (by omega), if_neg (by omega), if_neg hne.1, if_neg hne.2.1, if_neg hne.2.2]
  rfl

theorem tImg_body (r k : Nat) (hk : k < 4) : (tImgState r).memBytes (0 + (264 + 25792 * k + 64)) 25728 = List.replicate 25728 0#8 := by
  rw [tImg_bytes _ _ _ (by simp [stackBytes]; omega)]
  have hc : (List.range 25728).map (fun _ => 0#8) = List.replicate 25728 0#8 := by rw [List.map_const', List.length_range]
  rw [← hc]
  refine List.map_congr_left (fun i hi => ?_)
  have hi : i < 25728 := by simpa using hi
  exact tImage_read _ k hk (by omega) (by omega)

theorem tImg_head (r k : Nat) (hk : k < 4) : (tImgState r).memBytes (0 + (264 + 25792 * k)) 64 = BitVec.ofNat 8 k :: List.replicate 63 0#8 := by
  rw [tImg_bytes _ _ _ (by simp [stackBytes]; omega)]
  match k, hk with
  | 0, _ => decide +kernel
  | 1, _ => decide +kernel
  | 2, _ => decide +kernel
  | 3, _ => decide +kernel

theorem tImg_tiles (r k n : Nat) (hk : k + n = 4) :
    parseTiles (fun off n => (tImgState r).memBytes (0 + off) n) 103448 1 (List.range' k n) (264 + 25792 * k)
      = some ((List.range' k n).map tRec, 264 + 25792 * 4) := by
  induction n generalizing k with
  | zero => simp [parseTiles, show k = 4 by omega]
  | succ n ih =>
    have hk4 : k < 4 := by omega
    have hsz : tileRecFixed + 16 * (leAt (BitVec.ofNat 8 k :: List.replicate 63 0#8) 2 2 + leAt (BitVec.ofNat 8 k :: List.replicate 63 0#8) 4 2) = 25792 := by
      have h2 : leAt (BitVec.ofNat 8 k :: List.replicate 63 0#8) 2 2 = 0 := by rfl
      have h4 : leAt (BitVec.ofNat 8 k :: List.replicate 63 0#8) 4 2 = 0 := by rfl
      rw [h2, h4]; rfl
    have ih' := ih (k + 1) (by omega)
    simp only [List.range'_succ, parseTiles, tImg_head r k hk4, hsz, show 25792 - 64 = 25728 from rfl, tImg_body r k hk4, parseTile_zeros k (by omega)]
    rw [if_neg (by omega), show 264 + 25792 * k + 25792 = 264 + 25792 * (k + 1) by omega, ih']
    simp

theorem tImg_parse (r : Nat) (hr : r = 0 ∨ r = 1) : parsePlan (tImgState r) 0 = some tImgPlan := by
  have hh : (tImgState r).memBytes (0 + 0) 256 = (List.range 256).map tImage.read := by
    rw [tImg_bytes _ _ _ (by decide)]; simp
  have he : leAt ((List.range 256).map tImage.read) (72 + 8 * 6) 8 = 103448 := by decide +kernel
  have h1 : leAt ((List.range 256).map tImage.read) (72 + 8 * 1) 8 = 264 + 25792 * 0 := by decide +kernel
  have hn : leAt ((List.range 256).map tImage.read) 70 2 = 1 := by decide +kernel
  have hz : leAt ((List.range 256).map tImage.read) 32 8 = 1 := by decide +kernel
  have ht : (tImgState r).zoneTiles (1 % 2 ^ 48) = List.range' 0 4 := by
    change (tImgState 0).zoneTiles (1 % 2 ^ 48) = _
    decide +kernel
  simp only [parsePlan, hh, he, h1, hn, hz, ht, tImg_tiles r 0 4 rfl]
  rcases hr with rfl | rfl <;> decide +kernel

/-! ## Worked examples of the spec -/

/-- The two bead pairs of 02_bead_arithmetic, "Accumulator": activations and weights in B8I. -/
def tBead (es : List Int) (fo : Int) : Bead := mkBead .b8i (es ++ List.replicate (32 - es.length) 0) fo 0

theorem test_example_dot_products :
    let a := tBead [12, -7, 100, 3] (-3); let w := tBead [40, 25, -2, 127] (-5); let b := tBead [-50, 9] (-2); let v := tBead [30, -100] (-5)
    dotElems (a.operand .b8i) (w.operand .b8i) = 486 ∧ dotShift .b8i a .b8i w = 44
      ∧ dotElems (b.operand .b8i) (v.operand .b8i) = -2400 ∧ dotShift .b8i b .b8i v = 45 := by decide +kernel

theorem test_example_accumulator :
    let x := (Acc.zero.contribute true 486 44 0 false).contribute false (-2400) 45 0 false
    let y := (Acc.zero.contribute true (-2400) 45 0 false).contribute false 486 44 0 false
    x.pat % 2 ^ 64 = 0xFEF2600000000000 ∧ x.pat / 2 ^ 64 = 2 ^ 96 - 1 ∧ y.pat = x.pat := by decide +kernel

theorem test_example_output_bead :
    let q := factorOf 0x3F000000 0x3E800000 0x3D800000
    let r := encodeBead .b8i ([accX q (accPat (-4314 * 2 ^ 44)), accX q (accPat (672 * 2 ^ 44))] ++ List.replicate 30 (.dy 0 0))
    q = ⟨2 ^ 23, -22⟩ ∧ r.1.byte0 = 0x1F ∧ r.1.byte1 = 0xF0 ∧ r.1.elems.take 2 = [189, 10] ∧ r.2 = ConvCount.zero := by decide +kernel

theorem test_example_peak : roundUp32 (accX (factorOf 0x3F000000 0x3E800000 0x3D800000) (accPat (-4314 * 2 ^ 44))) = 0x4206D000
    ∧ peakOf 0x4A800000 [.dy 8000000 0] = 0x4AF42400 := by decide +kernel

theorem test_example_saturation :
    let r := encodeBead .b8i ([.dy 8000000 0, .dy 1000000 0, .dy (-4200000) 0] ++ List.replicate 29 (.dy 0 0))
    r.1.elems.take 3 = [127, 31, 128] ∧ r.1.byte0 = 0x4F ∧ r.1.byte1 = 0x8E ∧ r.2.satElems = 1 := by decide +kernel

theorem test_example_residues :
    let ea := [0xB5, 0x0C, 0x7F].map expandB8E
    let x := Acc.zero.contribute true (-160640) 36 10 false
    let y := x.contribute false 200000 36 80 false
    ea = [-168, 24, 3968] ∧ dotElems ea [1000, -3000, 20] = -160640 ∧ dotRho ea [1000, -3000, 20] = 10 ∧ res255 (-160640) = 10
      ∧ x.resid = 161 ∧ x.checkGood = true ∧ y.resid = 165 ∧ y.checkGood = true ∧ accInt y.pat = 39360 * 2 ^ 36 := by decide +kernel

theorem test_example_drain_formats :
    let x := accX ⟨2 ^ 23, -23⟩ (accPat (39360 * 2 ^ 36))
    let b := (encodeBead .b8e ([x] ++ List.replicate 31 (.dy 0 0))).1
    ieeeOut f16 x = (0x38CE, 0) ∧ b.elems.take 1 = [0x73] ∧ b.byte0 = 0x1E := by decide +kernel

/-- 01_package_and_grid, "Distances": row 5 of F0 is shadowed; then also row 9 of F4. -/
theorem test_example_distances :
    let g := buildGrid 1440 [smEntry 1 0 0x05]
    let h := buildGrid 1440 [smEntry 1 0 0x05, smEntry 1 1 0x49]
    g.distStack 3 20 0 = 45 ∧ g.distStack 3 20 9 = 26 ∧ g.distLink 3 20 0 = 51 ∧ h.distStack 3 20 9 = 27 ∧ h.distStack 3 20 0 = 44 := by decide +kernel

/-- 07_memory_stacks, "Worked example": the local address of a history block. -/
theorem test_example_address : locateIn (upTo 16) 1 0x00000C301F80 = some (0, 0x00C31F80) := by decide +kernel

/-- 12_power_and_heat, "Worked example": five working dies of group 3 are rated at 900 A. -/
theorem test_example_rating :
    (tReg tOn (fun p => { p with reg := p.reg.set 20 2 })).rating 3 = 4 * 900 ∧ (tReg tOn id).rating 3 = 4 * 900 := by decide +kernel

/-! ## No word spells a command (spec/opcode_table.json gives no row any bits) -/

theorem test_no_word_spells_a_command : decodeTableWord 32 0x12345678 = none ∧ (tOn.withFetchWord 32 0x12345678) = tOn := by decide +kernel

/-! ## Ill-formed commands are refused -/

theorem test_wf_start :
    Instr.wf (.s0Rails [3, 3] 0 0 0) = false ∧ Instr.wf (.s3DomainsOn [1, 2, 1]) = false ∧ Instr.wf (.s4ClockAlignment [47, 47]) = false
      ∧ Instr.wf (.s6StackTraining [(1, .good), (1, .failed)]) = false ∧ Instr.wf (.s8LinkBringup [2, 2] []) = false
      ∧ Instr.wf (.tileFirmwareFetch 0 []) = false ∧ Instr.wf (.tileFirmwareFetch 0 [true, true, true, true]) = false := by decide

theorem test_wf_memory :
    Instr.wf (.patrolScrub 0 1610612736 0 0) = false ∧ Instr.wf (.engineServiceRequest 0 (.read 0 0)) = false
      ∧ Instr.wf (.engineServiceRequest 0 (.write 0 [] false)) = false ∧ Instr.wf (.patrolScrub 0 1610612735 0 0) = true := by decide

theorem test_wf_power :
    Instr.wf (.wcmpAnswer 4096 0 0) = false ∧ Instr.wf (.currentLedgerTick 0 0 [1, 2, 3, 4, 5, 6]) = false ∧ Instr.wf (.tempSample []) = false
      ∧ Instr.wf (.energyPeriod [1]) = false := by decide

theorem test_wf_links :
    Instr.wf (.identityFlit 0 ⟨0x0201, 0x0100, 0, 4096, 0, 12, false⟩) = false ∧ Instr.wf (.identityFlit 0 ⟨0x0201, 0x0100, 0, 1, 36, 12, false⟩) = false
      ∧ Instr.wf (.identityFlit 0 ⟨0x0201, 0x0100, 0, 1, 0, 7, false⟩) = false ∧ Instr.wf (.dataFlitReceive 0 [0] 0) = false
      ∧ Instr.wf (.auditFlit 0 [1, 2, 3] [1, 2, 3, 4]) = false ∧ Instr.wf (.auditFlit 0 [1, 2, 3, 4] [1]) = false
      ∧ Instr.wf (.masterElectionAnnounce 0 4096) = false ∧ Instr.wf (.groupReady 0 4096 [] 0) = false
      ∧ Instr.wf (.groupReady 0 0 (List.replicate 65 0) 0) = false := by decide

theorem test_wf_ports :
    Instr.wf (.pcieConfigRequest false 4096 0) = false ∧ Instr.wf (.bar0RegisterWrite 0 0 0) = false ∧ Instr.wf (.bar0RegisterWrite 0 9 0) = false
      ∧ Instr.wf (.bar0RegisterWrite 6 4 0) = false ∧ Instr.wf (.bar2Read 0 0) = false ∧ Instr.wf (.bar2Write 0 [] false) = false
      ∧ Instr.wf (.bar4Read 0 0) = false ∧ Instr.wf (.bar4Write 0 []) = false ∧ Instr.wf (.eventRaise 1 0 (List.replicate 17 0)) = false
      ∧ Instr.wf (.challenge 0 []) = false ∧ Instr.wf (.getMeasurements 1 true []) = false ∧ Instr.wf (.getMeasurements 1 false []) = true
      ∧ Instr.wf (.ndpMessage []) = false ∧ Instr.wf (.smbusBlockWrite true (List.replicate 256 0)) = false := by decide +kernel

/-! ## The hypotheses of the obligations can be met -/

theorem test_witness_StepTakesTheFrontCommand :
    (∃ (c : Instr) (cs : List Instr) (s : State), s.pending = c :: cs) :=
  ⟨.bypass, [.idcode], { tOn with pending := [.bypass, .idcode] }, rfl⟩

theorem test_witness_IntegerInstructions :
    (∃ (s : State) (i : _) (d : _), s.Inv ∧ CoreReady s i [rS d] [rS d] none)
    ∧ (∃ (s : State) (i : _) (d : Reg) (a : Reg) (b : Reg), s.Inv ∧ CoreReady s i [rS a, rS b] [rS d] none)
    ∧ (∃ (s : State) (i : _) (d : Reg) (a : Reg) (b : Reg), s.Inv ∧ CoreReady s i [rS a, rS b] [rS d] (some rowDiv))
    ∧ (∃ (s : State) (i : _) (d : Reg) (a : Reg), s.Inv ∧ CoreReady s i [rS a] [rS d] none) :=
  ⟨⟨tWith 5 tTile, ⟨5, 0⟩, (6 : Reg), by repeat' (first | decide +kernel | apply And.intro | constructor)⟩,
   ⟨tWith 5 tTile, ⟨5, 0⟩, 31, 7, 0, by repeat' (first | decide +kernel | apply And.intro | constructor)⟩,
   ⟨tWith 5 tTile, ⟨5, 0⟩, 0, 7, 6, by repeat' (first | decide +kernel | apply And.intro | constructor)⟩,
   ⟨tWith 5 tTile, ⟨5, 0⟩, 3, 7, by repeat' (first | decide +kernel | apply And.intro | constructor)⟩⟩

theorem test_witness_LoadAndStoreInstructions :
    (∃ (s : State) (i : _) (d : VReg) (a : _) (imm : _), s.Inv ∧ CoreReady s i [rS a] [rV d] none ∧ DataOk s i (s.offAt i a imm) 64)
    ∧ (∃ (s : State) (i : _) (d : VReg) (a : _) (imm : _), s.Inv ∧ (s.tile i.tile.val).sp.wf = true ∧ CoreReady s i [rS a, rV d] [] none ∧ DataOk s i (s.offAt i a imm) 64)
    ∧ (∃ (s : State) (i : _) (d : Reg) (a : Reg) (imm : _), s.Inv ∧ CoreReady s i [rS a] [rS d] none ∧ DataOk s i (s.offAt i a imm) 8)
    ∧ (∃ (s : State) (i : _) (d : Reg) (a : Reg) (imm : _), s.Inv ∧ CoreReady s i [rS a] [rS d] none ∧ DataOk s i (s.offAt i a imm) 4)
    ∧ (∃ (s : State) (i : _) (d : Reg) (a : Reg) (imm : _), s.Inv ∧ CoreReady s i [rS a] [rS d] none ∧ DataOk s i (s.offAt i a imm) 2)
    ∧ (∃ (s : State) (i : _) (d : Reg) (a : Reg) (imm : _), s.Inv ∧ CoreReady s i [rS a] [rS d] none ∧ DataOk s i (s.offAt i a imm) 1)
    ∧ (∃ (s : State) (i : _) (d : Reg) (a : Reg) (imm : _), s.Inv ∧ (s.tile i.tile.val).sp.wf = true ∧ CoreReady s i [rS a, rS d] [] none ∧ DataOk s i (s.offAt i a imm) 8)
    ∧ (∃ (s : State) (i : _) (d : Reg) (a : Reg) (imm : _), s.Inv ∧ (s.tile i.tile.val).sp.wf = true ∧ CoreReady s i [rS a, rS d] [] none ∧ DataOk s i (s.offAt i a imm) 4)
    ∧ (∃ (s : State) (i : _) (d : Reg) (a : Reg) (imm : _), s.Inv ∧ (s.tile i.tile.val).sp.wf = true ∧ CoreReady s i [rS a, rS d] [] none ∧ DataOk s i (s.offAt i a imm) 2)
    ∧ (∃ (s : State) (i : _) (d : Reg) (a : Reg) (imm : _), s.Inv ∧ (s.tile i.tile.val).sp.wf = true ∧ CoreReady s i [rS a, rS d] [] none ∧ DataOk s i (s.offAt i a imm) 1) :=
  ⟨⟨tWith 5 tTile, ⟨5, 0⟩, (15 : VReg), (2 : Reg), (0 : U16), by repeat' (first | decide +kernel | apply And.intro | constructor)⟩,
   ⟨tWith 5 tTile, ⟨5, 0⟩, (15 : VReg), (2 : Reg), (0 : U16), by repeat' (first | decide +kernel | apply And.intro | constructor)⟩,
   ⟨tWith 5 tTile, ⟨5, 0⟩, 31, 0, 0x7FF8, by repeat' (first | decide +kernel | apply And.intro | constructor)⟩,
   ⟨tWith 5 tTile, ⟨5, 0⟩, 31, 2, 0xFFFC, by repeat' (first | decide +kernel | apply And.intro | constructor)⟩,
   ⟨tWith 5 tTile, ⟨5, 0⟩, 31, 8, 0xFFFF, by repeat' (first | decide +kernel | apply And.intro | constructor)⟩,
   ⟨tWith 5 tTile, ⟨5, 0⟩, 31, 8, 0, by repeat' (first | decide +kernel | apply And.intro | constructor)⟩,
   ⟨tWith 5 tTile, ⟨5, 0⟩, 7, 0, 0, by repeat' (first | decide +kernel | apply And.intro | constructor)⟩,
   ⟨tWith 5 tTile, ⟨5, 0⟩, 7, 2, 0xFFFC, by repeat' (first | decide +kernel | apply And.intro | constructor)⟩,
   ⟨tWith 5 tTile, ⟨5, 0⟩, 7, 8, 0xFFFF, by repeat' (first | decide +kernel | apply And.intro | constructor)⟩,
   ⟨tWith 5 tTile, ⟨5, 0⟩, 7, 8, 0, by repeat' (first | decide +kernel | apply And.intro | constructor)⟩⟩

theorem test_witness_BranchAndJumpInstructions :
    (∃ (s : State) (i : _) (off : BitVec 26), s.Inv ∧ CoreReady s i [] [] none ∧ 0 ≤ s.targetAt i off.toInt ∧ s.targetAt i off.toInt ≤ 65535)
    ∧ (∃ (s : State) (i : _) (off : BitVec 26), s.Inv ∧ CoreReady s i [] [31] none ∧ 0 ≤ s.targetAt i off.toInt ∧ s.targetAt i off.toInt ≤ 65535)
    ∧ (∃ (s : State) (i : _) (a : _), s.Inv ∧ CoreReady s i [rS a] [] none ∧ ((s.coreAt i).getS a).toNat ≤ 65535)
    ∧ (∃ (s : State) (i : _) (a : Reg) (b : Reg) (off : U16), s.Inv ∧ CoreReady s i [rS a, rS b] [] none ∧ 0 ≤ s.targetAt i off.toInt ∧ s.targetAt i off.toInt ≤ 65535) :=
  ⟨⟨tWith 5 tTile, ⟨5, 0⟩, (65435 : BitVec 26), by repeat' (first | decide +kernel | apply And.intro | constructor)⟩,
   ⟨tWith 5 tTile, ⟨5, 0⟩, (-100 : BitVec 26), by repeat' (first | decide +kernel | apply And.intro | constructor)⟩,
   ⟨tWith 5 tTile, ⟨5, 0⟩, (8 : Reg), by repeat' (first | decide +kernel | apply And.intro | constructor)⟩,
   ⟨tWith 5 tTile, ⟨5, 0⟩, 2, 3, 0xFF9C, by repeat' (first | decide +kernel | apply And.intro | constructor)⟩⟩

theorem test_witness_VectorLaneInstructions :
    (∃ (w : _) (a : _) (b : _) (d : _), (w = 8 ∨ w = 16 ∨ w = 32) ∧ a < 2 ^ w ∧ b < 2 ^ w ∧ d < 2 ^ w)
    ∧ (∃ (s : State) (i : _) (vd : VReg) (va : VReg) (vb : VReg) (ty : _) (l : _), s.Inv ∧ laneTy ty = some l ∧ CoreReady s i [rV va, rV vb] [rV vd] none)
    ∧ (∃ (s : State) (i : _) (vd : VReg) (va : VReg) (vb : VReg) (ty : _), s.Inv ∧ laneTy ty ≠ none ∧ CoreReady s i [rV va, rV vb, rV vd] [rV vd] none) :=
  ⟨⟨(8 : Nat), (200 : Nat), (100 : Nat), (255 : Nat), by repeat' (first | decide +kernel | apply And.intro | constructor)⟩,
   ⟨tWith 5 tTile, ⟨5, 0⟩, 15, 1, 15, 5, _, ⟨by repeat' (first | decide +kernel | apply And.intro), rfl, by constructor <;> decide +kernel⟩⟩,
   ⟨tWith 5 tTile, ⟨5, 0⟩, 1, 1, 2, 0, by repeat' (first | decide +kernel | apply And.intro | constructor)⟩⟩

theorem test_witness_VectorMovesAndReductions :
    (∃ (s : State) (i : _) (vd : _) (va : _) (vb : _) (ty : _) (l : _), s.Inv ∧ laneTy ty = some l ∧ CoreReady s i [rV va, rV vb] [rV vd] none)
    ∧ (∃ (s : State) (i : _) (vd : _) (sa : _) (ty : _) (l : _), s.Inv ∧ laneTy ty = some l ∧ CoreReady s i [rS sa] [rV vd] none)
    ∧ (∃ (s : State) (i : _) (sd : _) (va : _) (sa : _) (ty : _) (l : _), s.Inv ∧ laneTy ty = some l ∧ CoreReady s i [rS sa, rV va] [rS sd] none)
    ∧ (∃ (s : State) (i : _) (vd : _) (sa : _) (sd : _) (ty : _) (l : _), s.Inv ∧ laneTy ty = some l ∧ CoreReady s i [rS sa, rS sd, rV vd] [rV vd] none)
    ∧ (∃ (s : State) (i : _) (vd : VReg) (va : VReg) (ty : _) (dt : BitVec 3) (a : _) (b : _), s.Inv ∧ laneTy ty = some a ∧ laneTy dt = some b ∧ a.lanes = b.lanes ∧ CoreReady s i [rV va] [rV vd] none)
    ∧ (∃ (s : State) (i : _) (vd : VReg) (va : VReg) (ty : _) (dt : BitVec 3) (a : _) (b : _), s.Inv ∧ laneTy ty = some a ∧ laneTy dt = some b ∧ b.lanes = 2 * a.lanes ∧ va.val % 2 = 0 ∧ CoreReady s i [rV va, rV (vNext va)] [rV vd] none)
    ∧ (∃ (s : State) (i : _) (vd : VReg) (va : VReg) (ty : _) (dt : BitVec 3) (a : _) (b : _), s.Inv ∧ laneTy ty = some a ∧ laneTy dt = some b ∧ a.lanes = 2 * b.lanes ∧ vd.val % 2 = 0 ∧ CoreReady s i [rV va] [rV vd, rV (vNext vd)] none)
    ∧ (∃ (s : State) (i : _) (sd : Reg) (va : VReg) (ty : _) (l : _), s.Inv ∧ laneTy ty = some l ∧ CoreReady s i [rV va] [rS sd] none) :=
  ⟨⟨tWith 5 tTile, ⟨5, 0⟩, (0 : VReg), (1 : VReg), (2 : VReg), (1 : BitVec 3), ((laneTy 1).getD (.int 8)), by repeat' (first | decide +kernel | apply And.intro | constructor)⟩,
   ⟨tWith 5 tTile, ⟨5, 0⟩, (15 : VReg), (7 : Reg), (0 : BitVec 3), ((laneTy 0).getD (.int 8)), by repeat' (first | decide +kernel | apply And.intro | constructor)⟩,
   ⟨tWith 5 tTile, ⟨5, 0⟩, (9 : Reg), (1 : VReg), (6 : Reg), (2 : BitVec 3), ((laneTy 2).getD (.int 8)), by repeat' (first | decide +kernel | apply And.intro | constructor)⟩,
   ⟨tWith 5 tTile, ⟨5, 0⟩, (15 : VReg), (7 : Reg), (8 : Reg), (0 : BitVec 3), ((laneTy 0).getD (.int 8)), by repeat' (first | decide +kernel | apply And.intro | constructor)⟩,
   ⟨tWith 5 tTile, ⟨5, 0⟩, (15 : VReg), (1 : VReg), (2 : BitVec 3), (2 : BitVec 3), ((laneTy 2).getD (.int 8)), ((laneTy 2).getD (.int 8)), by repeat' (first | decide +kernel | apply And.intro | constructor)⟩,
   ⟨tWith 5 tTile, ⟨5, 0⟩, (15 : VReg), (2 : VReg), (2 : BitVec 3), (1 : BitVec 3), ((laneTy 2).getD (.int 8)), ((laneTy 1).getD (.int 8)), by repeat' (first | decide +kernel | apply And.intro | constructor)⟩,
   ⟨tWith 5 tTile, ⟨5, 0⟩, (14 : VReg), (1 : VReg), (1 : BitVec 3), (2 : BitVec 3), ((laneTy 1).getD (.int 8)), ((laneTy 2).getD (.int 8)), by repeat' (first | decide +kernel | apply And.intro | constructor)⟩,
   ⟨tWith 5 tTile, ⟨5, 0⟩, 9, 1, 1, ((laneTy 1).getD (.int 8)), by repeat' (first | decide +kernel | apply And.intro | constructor)⟩⟩

theorem test_witness_BeadAndFunctionInstructions :
    (∃ (s : State) (i : _) (vd : VReg) (va : VReg) (sa : _) (fmt : BitVec 3) (f : _), s.Inv ∧ beadFmtOf fmt.toNat = some f ∧ vd.val % 2 = 0 ∧ CoreReady s i [rV va, rS sa] [rV vd, rV (vNext vd)] (some rowBead))
    ∧ (∃ (s : State) (i : _) (sd : _) (va : _) (sa : _) (fmt : BitVec 3) (f : _), s.Inv ∧ beadFmtOf fmt.toNat = some f ∧ CoreReady s i [rV va, rS sa] [rS sd] (some rowBead))
    ∧ (∃ (s : State) (i : _) (vd : VReg) (va : VReg) (sa : Reg) (sd : Reg) (fmt : BitVec 3) (f : _), s.Inv ∧ beadFmtOf fmt.toNat = some f ∧ CoreReady s i [rV va, rS sa] [rV vd, rS sd] (some rowBead))
    ∧ (∃ (s : State) (i : _) (vd : VReg) (va : VReg) (sa : Reg) (sd : Reg) (fmt : BitVec 3) (f : _), s.Inv ∧ beadFmtOf fmt.toNat = some f ∧ va.val % 2 = 0 ∧ CoreReady s i [rV va, rV (vNext va), rS sa] [rV vd, rS sd] (some rowBead))
    ∧ (∃ (s : State) (i : _) (vd : VReg) (va : VReg) (ty : BitVec 3) (f : _), s.Inv ∧ laneTy ty = some (.flt f) ∧ CoreReady s i [rV va] [rV vd] none) :=
  ⟨⟨tWith 5 tTile, ⟨5, 0⟩, (14 : VReg), (1 : VReg), (9 : Reg), (0 : BitVec 3), BeadFmt.b8i, by repeat' (first | decide +kernel | apply And.intro | constructor)⟩,
   ⟨tWith 5 tTile, ⟨5, 0⟩, (9 : Reg), (1 : VReg), (9 : Reg), (0 : BitVec 3), BeadFmt.b8i, by repeat' (first | decide +kernel | apply And.intro | constructor)⟩,
   ⟨tWith 5 tTile, ⟨5, 0⟩, 1, 1, 9, 10, 0, .b8i, by repeat' (first | decide +kernel | apply And.intro | constructor)⟩,
   ⟨tWith 5 tTile, ⟨5, 0⟩, 1, 14, 9, 10, 0, .b8i, by repeat' (first | decide +kernel | apply And.intro | constructor)⟩,
   ⟨tWith 5 tTile, ⟨5, 0⟩, 1, 1, 5, (match laneTy 5 with | some (.flt f) => f | _ => f32), by repeat' (first | decide +kernel | apply And.intro | constructor)⟩⟩

theorem test_witness_ControlRegisters :
    (∃ (s : State) (i : _) (d : _) (n : BitVec 12) (v : _), s.Inv ∧ CoreReady s i [] [rS d] none ∧ (s.tile i.tile.val).upd.ops = [] ∧ controlReads s i (s.issueAt i [] [rS d] none) n.toNat v)
    ∧ (∃ (s : State) (i : _) (d : _) (n : BitVec 12) (v : _), s.Inv ∧ CoreReady s i [] [rS d] none ∧ (s.tile i.tile.val).upd.ops = [] ∧ controlReads s i (s.issueAt i [] [rS d] none) n.toNat v)
    ∧ (∃ (s : State) (i : _) (d : _) (n : BitVec 12) (v : _), s.Inv ∧ CoreReady s i [] [rS d] none ∧ (s.tile i.tile.val).upd.ops = [] ∧ controlReads s i (s.issueAt i [] [rS d] none) n.toNat v)
    ∧ (∃ (s : State) (i : _) (d : _) (n : BitVec 12) (v : _), s.Inv ∧ CoreReady s i [] [rS d] none ∧ (s.tile i.tile.val).upd.ops = [] ∧ controlReads s i (s.issueAt i [] [rS d] none) n.toNat v)
    ∧ (∃ (s : State) (i : _) (d : _) (n : BitVec 12) (v : _), s.Inv ∧ CoreReady s i [] [rS d] none ∧ (s.tile i.tile.val).upd.ops = [] ∧ controlReads s i (s.issueAt i [] [rS d] none) n.toNat v)
    ∧ (∃ (s : State) (i : _) (d : _) (n : BitVec 12) (v : _), s.Inv ∧ CoreReady s i [] [rS d] none ∧ (s.tile i.tile.val).upd.ops = [] ∧ controlReads s i (s.issueAt i [] [rS d] none) n.toNat v)
    ∧ (∃ (s : State) (i : _) (d : _) (n : BitVec 12) (v : _), s.Inv ∧ CoreReady s i [] [rS d] none ∧ (s.tile i.tile.val).upd.ops = [] ∧ controlReads s i (s.issueAt i [] [rS d] none) n.toNat v)
    ∧ (∃ (s : State) (i : _) (d : _) (n : BitVec 12) (v : _), s.Inv ∧ CoreReady s i [] [rS d] none ∧ (s.tile i.tile.val).upd.ops = [] ∧ controlReads s i (s.issueAt i [] [rS d] none) n.toNat v)
    ∧ (∃ (s : State) (i : _) (a : _) (n : BitVec 12), s.Inv ∧ CoreReady s i [rS a] [] none ∧ (s.tile i.tile.val).upd.ops = [] ∧ controlWriteOk s i n.toNat ((s.coreAt i).getS a))
    ∧ (∃ (s : State) (i : _) (a : _) (n : BitVec 12), s.Inv ∧ CoreReady s i [rS a] [] none ∧ (s.tile i.tile.val).upd.ops = [] ∧ controlWriteOk s i n.toNat ((s.coreAt i).getS a))
    ∧ (∃ (s : State) (i : _) (a : _) (n : BitVec 12), s.Inv ∧ CoreReady s i [rS a] [] none ∧ (s.tile i.tile.val).upd.ops = [] ∧ controlWriteOk s i n.toNat ((s.coreAt i).getS a))
    ∧ (∃ (s : State) (i : _) (a : _) (n : BitVec 12), s.Inv ∧ CoreReady s i [rS a] [] none ∧ (s.tile i.tile.val).upd.ops = [] ∧ controlWriteOk s i n.toNat ((s.coreAt i).getS a))
    ∧ (∃ (s : State) (i : _) (a : _) (n : BitVec 12), s.Inv ∧ CoreReady s i [rS a] [] none ∧ (s.tile i.tile.val).upd.ops = [] ∧ controlWriteOk s i n.toNat ((s.coreAt i).getS a))
    ∧ (∃ (s : State) (i : _) (a : _) (n : BitVec 12), s.Inv ∧ CoreReady s i [rS a] [] none ∧ (s.tile i.tile.val).upd.ops = [] ∧ controlWriteOk s i n.toNat ((s.coreAt i).getS a))
    ∧ (∃ (s : State) (i : _) (a : _) (n : BitVec 12), s.Inv ∧ CoreReady s i [rS a] [] none ∧ (s.tile i.tile.val).upd.ops = [] ∧ controlWriteOk s i n.toNat ((s.coreAt i).getS a))
    ∧ (∃ (s : State) (i : _) (a : _) (n : BitVec 12), s.Inv ∧ CoreReady s i [rS a] [] none ∧ (s.tile i.tile.val).upd.ops = [] ∧ controlWriteOk s i n.toNat ((s.coreAt i).getS a))
    ∧ (∃ (s : State) (i : _) (a : _) (n : BitVec 12), s.Inv ∧ CoreReady s i [rS a] [] none ∧ (s.tile i.tile.val).upd.ops = [] ∧ controlWriteOk s i n.toNat ((s.coreAt i).getS a)) :=
  ⟨⟨tWith 5 tTile, (⟨5, 0⟩ : CoreAt), (7 : Reg), (0 : BitVec 12), (BitVec.ofNat 64 (5 * 2 ^ 10) : U64), ⟨by repeat' (first | decide +kernel | apply And.intro | constructor), by repeat' (first | decide +kernel | apply And.intro | constructor), by repeat' (first | decide +kernel | apply And.intro | constructor), .inl ⟨by decide +kernel, by decide +kernel⟩⟩⟩,
   ⟨tWith 5 tTile, (⟨5, 0⟩ : CoreAt), (7 : Reg), (1 : BitVec 12), (7 : U64), ⟨by repeat' (first | decide +kernel | apply And.intro | constructor), by repeat' (first | decide +kernel | apply And.intro | constructor), by repeat' (first | decide +kernel | apply And.intro | constructor), .inr (.inl ⟨by decide +kernel, by decide +kernel⟩)⟩⟩,
   ⟨tWith 5 tTile, (⟨5, 0⟩ : CoreAt), (7 : Reg), (2 : BitVec 12), (0 : U64), ⟨by repeat' (first | decide +kernel | apply And.intro | constructor), by repeat' (first | decide +kernel | apply And.intro | constructor), by repeat' (first | decide +kernel | apply And.intro | constructor), .inr (.inr (.inl ⟨by decide +kernel, by decide +kernel⟩))⟩⟩,
   ⟨tWith 5 tTile, (⟨5, 0⟩ : CoreAt), (7 : Reg), (9 : BitVec 12), (0 : U64), ⟨by repeat' (first | decide +kernel | apply And.intro | constructor), by repeat' (first | decide +kernel | apply And.intro | constructor), by repeat' (first | decide +kernel | apply And.intro | constructor), .inr (.inr (.inr (.inr (.inr (.inr (.inl ⟨by decide +kernel, by decide +kernel⟩))))))⟩⟩,
   ⟨tWith 5 tTile, (⟨5, 0⟩ : CoreAt), (7 : Reg), (10 : BitVec 12), (0 : U64), ⟨by repeat' (first | decide +kernel | apply And.intro | constructor), by repeat' (first | decide +kernel | apply And.intro | constructor), by repeat' (first | decide +kernel | apply And.intro | constructor), .inr (.inr (.inr (.inr (.inr (.inr (.inr (.inl ⟨by decide +kernel, by decide +kernel⟩)))))))⟩⟩,
   ⟨{ tWith 5 tTile with tiles := [(5, { tTile with xr := Vector.replicate 8 ⟨1, 9, 5⟩ })] }, (⟨5, 3⟩ : CoreAt), (7 : Reg), (23 : BitVec 12), (9 : U64), ⟨by repeat' (first | decide +kernel | apply And.intro | constructor), by repeat' (first | decide +kernel | apply And.intro | constructor), by repeat' (first | decide +kernel | apply And.intro | constructor), .inr (.inr (.inr (.inr (.inr (.inr (.inr (.inr (.inr (.inr (.inl ⟨7, by decide +kernel⟩))))))))))⟩⟩,
   ⟨tWith 5 tTile, (⟨5, 0⟩ : CoreAt), (7 : Reg), (194 : BitVec 12), (0 : U64), ⟨by repeat' (first | decide +kernel | apply And.intro | constructor), by repeat' (first | decide +kernel | apply And.intro | constructor), by repeat' (first | decide +kernel | apply And.intro | constructor), .inr (.inr (.inr (.inr (.inr (.inr (.inr (.inr (.inr (.inr (.inr (.inl ⟨rfl, .inr (.inl ⟨by decide +kernel, by decide +kernel⟩)⟩)))))))))))⟩⟩,
   ⟨tWith 5 tTile, (⟨5, 3⟩ : CoreAt), (7 : Reg), (210 : BitVec 12), (0 : U64), ⟨by repeat' (first | decide +kernel | apply And.intro | constructor), by repeat' (first | decide +kernel | apply And.intro | constructor), by repeat' (first | decide +kernel | apply And.intro | constructor), .inr (.inr (.inr (.inr (.inr (.inr (.inr (.inr (.inr (.inr (.inr (.inr (⟨rfl, by decide +kernel, .inr (.inr (.inl ⟨by decide +kernel, by decide +kernel⟩))⟩))))))))))))⟩⟩,
   ⟨tWith 5 tTile, (⟨5, 0⟩ : CoreAt), (6 : Reg), (9 : BitVec 12), ⟨by repeat' (first | decide +kernel | apply And.intro | constructor), by repeat' (first | decide +kernel | apply And.intro | constructor), by repeat' (first | decide +kernel | apply And.intro | constructor), .inl ⟨by decide +kernel, by decide +kernel⟩⟩⟩,
   ⟨tWith 5 tTile, (⟨5, 0⟩ : CoreAt), (8 : Reg), (10 : BitVec 12), ⟨by repeat' (first | decide +kernel | apply And.intro | constructor), by repeat' (first | decide +kernel | apply And.intro | constructor), by repeat' (first | decide +kernel | apply And.intro | constructor), .inr (.inl ⟨by decide +kernel, by decide +kernel⟩)⟩⟩,
   ⟨tWith 5 tTile, (⟨5, 3⟩ : CoreAt), (7 : Reg), (22 : BitVec 12), ⟨by repeat' (first | decide +kernel | apply And.intro | constructor), by repeat' (first | decide +kernel | apply And.intro | constructor), by repeat' (first | decide +kernel | apply And.intro | constructor), .inr (.inr (.inl ⟨6, by decide +kernel⟩))⟩⟩,
   ⟨tWith 5 tTile, (⟨5, 0⟩ : CoreAt), (7 : Reg), (16 : BitVec 12), ⟨by repeat' (first | decide +kernel | apply And.intro | constructor), by repeat' (first | decide +kernel | apply And.intro | constructor), by repeat' (first | decide +kernel | apply And.intro | constructor), .inr (.inr (.inl ⟨0, by decide +kernel⟩))⟩⟩,
   ⟨tWith 5 tTile, (⟨5, 0⟩ : CoreAt), (8 : Reg), (193 : BitVec 12), ⟨by repeat' (first | decide +kernel | apply And.intro | constructor), by repeat' (first | decide +kernel | apply And.intro | constructor), by repeat' (first | decide +kernel | apply And.intro | constructor), .inr (.inr (.inr (.inl (by decide +kernel))))⟩⟩,
   ⟨tWith 5 tTile, (⟨5, 0⟩ : CoreAt), (7 : Reg), (195 : BitVec 12), ⟨by repeat' (first | decide +kernel | apply And.intro | constructor), by repeat' (first | decide +kernel | apply And.intro | constructor), by repeat' (first | decide +kernel | apply And.intro | constructor), .inr (.inr (.inr (.inl (by decide +kernel))))⟩⟩,
   ⟨tWith 5 tTile, (⟨5, 0⟩ : CoreAt), (8 : Reg), (197 : BitVec 12), ⟨by repeat' (first | decide +kernel | apply And.intro | constructor), by repeat' (first | decide +kernel | apply And.intro | constructor), by repeat' (first | decide +kernel | apply And.intro | constructor), .inr (.inr (.inr (.inl (by decide +kernel))))⟩⟩,
   ⟨tWith 5 tTile, (⟨5, 3⟩ : CoreAt), (7 : Reg), (208 : BitVec 12), ⟨by repeat' (first | decide +kernel | apply And.intro | constructor), by repeat' (first | decide +kernel | apply And.intro | constructor), by repeat' (first | decide +kernel | apply And.intro | constructor), .inr (.inr (.inr (.inr (by decide +kernel))))⟩⟩,
   ⟨tWith 5 tTile, (⟨5, 3⟩ : CoreAt), (8 : Reg), (211 : BitVec 12), ⟨by repeat' (first | decide +kernel | apply And.intro | constructor), by repeat' (first | decide +kernel | apply And.intro | constructor), by repeat' (first | decide +kernel | apply And.intro | constructor), .inr (.inr (.inr (.inr (by decide +kernel))))⟩⟩⟩

theorem test_witness_PositionsAndWindows :
    (∃ (s : State) (i : _) (a : _), s.Inv ∧ CoreReady s i [rS a] [] none)
    ∧ (∃ (s : State) (i : _) (d : _) (a : _), s.Inv ∧ CoreReady s i [rS a, rS d] [] none ∧ ((s.coreAt i).getS a).toNat + ((s.coreAt i).getS d).toNat ≤ (s.tile i.tile.val).tsk.bound ∧ ((s.coreAt i).getS a).toNat % 64 = 0 ∧ ((s.coreAt i).getS d).toNat % 64 = 0 ∧ (((s.coreAt i).getS d).toNat ≠ 0 → (s.tile i.tile.val).classOk clsMesh ((s.coreAt i).getS a).toNat ((s.coreAt i).getS d).toNat = true))
    ∧ (∃ (s : State) (i : _) (d : _) (a : _), s.Inv ∧ CoreReady s i [rS a, rS d] [] none ∧ ((s.coreAt i).getS a).toNat + ((s.coreAt i).getS d).toNat ≤ (s.tile i.tile.val).tsk.bound ∧ ((s.coreAt i).getS a).toNat % 64 = 0 ∧ ((s.coreAt i).getS d).toNat % 64 = 0 ∧ (((s.coreAt i).getS d).toNat ≠ 0 → (s.tile i.tile.val).classOk clsMesh ((s.coreAt i).getS a).toNat ((s.coreAt i).getS d).toNat = true))
    ∧ (∃ (s : State) (i : _), s.Inv ∧ CoreReady s i [] [] none)
    ∧ (∃ (s : State) (i : _) (d : _) (a : _), s.Inv ∧ CoreReady s i [rS a] [rS d] none)
    ∧ (∃ (s : State) (i : _) (d : _) (a : _) (w : Fin 8), s.Inv ∧ CoreReady s i [rS a] [rS d] none ∧ ((s.tile i.tile.val).wins[w]).isOpen = false)
    ∧ (∃ (s : State) (i : _) (d : _) (a : _) (w : Fin 8), s.Inv ∧ CoreReady s i [rS a] [rS d] none ∧ ((s.tile i.tile.val).wins[w]).isOpen = true ∧ ((s.coreAt i).getS a).toNat % 2 ^ 32 ≤ ((s.tile i.tile.val).wins[w]).count)
    ∧ (∃ (s : State) (i : _) (d : _) (a : _) (w : Fin 8), s.Inv ∧ CoreReady s i [rS a] [rS d] none ∧ ((s.tile i.tile.val).wins[w]).isOpen = true ∧ ((s.tile i.tile.val).wins[w]).count < ((s.coreAt i).getS a).toNat % 2 ^ 32) :=
  ⟨⟨tWith 5 tTile, (⟨5, 0⟩ : CoreAt), (2 : Reg), by repeat' (first | decide +kernel | apply And.intro | constructor)⟩,
   ⟨tWith 5 tTile, (⟨5, 0⟩ : CoreAt), (4 : Reg), (1 : Reg), by repeat' (first | decide +kernel | apply And.intro | constructor)⟩,
   ⟨tWith 5 tTile, (⟨5, 0⟩ : CoreAt), (0 : Reg), (0 : Reg), by repeat' (first | decide +kernel | apply And.intro | constructor)⟩,
   ⟨tWith 5 tTile, (⟨5, 0⟩ : CoreAt), by repeat' (first | decide +kernel | apply And.intro | constructor)⟩,
   ⟨tWith 5 tTile, (⟨5, 0⟩ : CoreAt), (7 : Reg), (2 : Reg), by repeat' (first | decide +kernel | apply And.intro | constructor)⟩,
   ⟨tWith 5 tTile, (⟨5, 0⟩ : CoreAt), (7 : Reg), (2 : Reg), (0 : Fin 8), by repeat' (first | decide +kernel | apply And.intro | constructor)⟩,
   ⟨tWith 5 { tTile with wins := Vector.replicate 8 { Win.reset with isOpen := true, count := 64 } }, (⟨5, 0⟩ : CoreAt), (7 : Reg), (2 : Reg), (7 : Fin 8), by repeat' (first | decide +kernel | apply And.intro | constructor)⟩,
   ⟨tWith 5 { tTile with wins := Vector.replicate 8 { Win.reset with isOpen := true, count := 64 } }, (⟨5, 0⟩ : CoreAt), (7 : Reg), (3 : Reg), (7 : Fin 8), by repeat' (first | decide +kernel | apply And.intro | constructor)⟩⟩

theorem test_witness_ServiceMessages :
    (∃ (s : State) (i : _) (d : _) (a : _) (tag : _) (rest : _), s.Inv ∧ CoreReady s i [rS a] [rS d] none ∧ DataOk s i ((s.coreAt i).getS a).toNat 64 ∧ sendable (s.env i.tile.val) (hdrOf ((s.tile i.tile.val).line (s.physAt i ((s.coreAt i).getS a).toNat))) = true ∧ hType (hdrOf ((s.tile i.tile.val).line (s.physAt i ((s.coreAt i).getS a).toNat))) = 1 ∧ freeEntries ((s.tile i.tile.val).sv i.core) = tag :: rest ∧ ((s.tile i.tile.val).sv i.core).reqs.length < 4 ∧ (SMap.get ([] : List SvLine) (s.tile i.tile.val).router.ins 8).length < 4)
    ∧ (∃ (s : State) (i : _) (d : _) (a : _), s.Inv ∧ CoreReady s i [rS a] [rS d] none ∧ DataOk s i ((s.coreAt i).getS a).toNat 64 ∧ sendable (s.env i.tile.val) (hdrOf ((s.tile i.tile.val).line (s.physAt i ((s.coreAt i).getS a).toNat))) = true ∧ hType (hdrOf ((s.tile i.tile.val).line (s.physAt i ((s.coreAt i).getS a).toNat))) = 1 ∧ freeEntries ((s.tile i.tile.val).sv i.core) = [])
    ∧ (∃ (s : State) (i : _) (d : _) (a : _), s.Inv ∧ (s.tile i.tile.val).sp.wf = true ∧ CoreReady s i [rS a, rS d] [rS d] none ∧ DataOk s i ((s.coreAt i).getS a).toNat 64 ∧ ((s.tile i.tile.val).sv i.core).queue = [(0, 0x123456789), (1, 6)])
    ∧ (∃ (s : State) (i : _) (d : _) (a : _) (waited : _), s.Inv ∧ (s.tile i.tile.val).sp.wf = true ∧ CoreReady s i [rS a, rS d] [rS d] none ∧ DataOk s i ((s.coreAt i).getS a).toNat 64 ∧ ((s.tile i.tile.val).sv i.core).queue = [] ∧ ((s.coreAt i).getS d).toNat % 2 ^ 32 ≠ 0 ∧ ((s.coreAt i).getS d).toNat % 2 ^ 32 ≤ waited)
    ∧ (∃ (s : State) (i : _) (d : _) (a : _) (waited : _), s.Inv ∧ (s.tile i.tile.val).sp.wf = true ∧ CoreReady s i [rS a, rS d] [rS d] none ∧ DataOk s i ((s.coreAt i).getS a).toNat 64 ∧ ((s.tile i.tile.val).sv i.core).queue = [] ∧ waited < ((s.coreAt i).getS d).toNat % 2 ^ 32)
    ∧ (∃ (s : State) (i : _) (d : _) (a : _), s.Inv ∧ (s.tile i.tile.val).sp.wf = true ∧ CoreReady s i [rS a, rS d] [rS d] none ∧ DataOk s i ((s.coreAt i).getS a).toNat 64 ∧ ((s.tile i.tile.val).sv i.core).queue = [] ∧ ((s.coreAt i).getS d).toNat % 2 ^ 32 = 0)
    ∧ (∃ (s : State) (i : _) (d : _), s.Inv ∧ CoreReady s i [] [rS d] none)
    ∧ (∃ (s : State) (i : _) (d : _) (a : _), s.Inv ∧ CoreReady s i [rS a] [rS d] none)
    ∧ (∃ (s : State) (i : _) (d : _) (a : _), s.Inv ∧ CoreReady s i [rS a] [rS d] none) :=
  ⟨⟨tWith 5 (tSvc ⟨[(0, 5)], [⟨2, 9⟩], [], 1023⟩), (⟨5, 0⟩ : CoreAt), (7 : Reg), (2 : Reg), 1, [3], by repeat' (first | decide +kernel | apply And.intro | constructor)⟩,
   ⟨tWith 5 (tSvc ⟨[(0, 5), (1, 6)], [⟨2, 9⟩, ⟨3, 10⟩], [], 1023⟩), (⟨5, 0⟩ : CoreAt), (7 : Reg), (2 : Reg), by repeat' (first | decide +kernel | apply And.intro | constructor)⟩,
   ⟨tWith 5 (tSvc ⟨[(0, 0x123456789), (1, 6)], [⟨2, 9⟩], [], 1023⟩), (⟨5, 0⟩ : CoreAt), (6 : Reg), (2 : Reg), by repeat' (first | decide +kernel | apply And.intro | constructor)⟩,
   ⟨tWith 5 (tSvc ⟨[], [⟨2, 9⟩], [], 1023⟩), (⟨5, 0⟩ : CoreAt), (6 : Reg), (2 : Reg), 2, by repeat' (first | decide +kernel | apply And.intro | constructor)⟩,
   ⟨tWith 5 (tSvc ⟨[], [⟨2, 9⟩], [], 1023⟩), (⟨5, 0⟩ : CoreAt), (6 : Reg), (2 : Reg), 1, by repeat' (first | decide +kernel | apply And.intro | constructor)⟩,
   ⟨tWith 5 (tSvc ⟨[], [⟨2, 9⟩], [], 1023⟩), (⟨5, 0⟩ : CoreAt), (0 : Reg), (2 : Reg), by repeat' (first | decide +kernel | apply And.intro | constructor)⟩,
   ⟨tWith 5 tTile, (⟨5, 0⟩ : CoreAt), (7 : Reg), by repeat' (first | decide +kernel | apply And.intro | constructor)⟩,
   ⟨tWith 5 tTile, (⟨5, 0⟩ : CoreAt), (7 : Reg), (2 : Reg), by repeat' (first | decide +kernel | apply And.intro | constructor)⟩,
   ⟨tWith 5 tTile, (⟨5, 0⟩ : CoreAt), (7 : Reg), (2 : Reg), by repeat' (first | decide +kernel | apply And.intro | constructor)⟩⟩

theorem test_witness_SyncAndStepEnd :
    (∃ (s : State) (i : _) (mask : BitVec 4), s.Inv ∧ CoreReady s i [] [] none ∧ mask.getLsbD i.core.val = true ∧ ((∃ c : CoreIx, c ≠ i.core ∧ mask.getLsbD c.val = true ∧ ∀ n, ((s.tile i.tile.val).core c).run ≠ .sync mask n)))
    ∧ (∃ (s : State) (i : _) (mask : BitVec 4), s.Inv ∧ CoreReady s i [] [] none ∧ mask.getLsbD i.core.val = true ∧ ((∀ c : CoreIx, c ≠ i.core → mask.getLsbD c.val = true → ∃ n, n ≤ s.issueAt i [] [] none ∧ ((s.tile i.tile.val).core c).run = .sync mask n)))
    ∧ (∃ (s : State) (i : _) (a : _), s.Inv ∧ CoreReady s i [rS a] [] none ∧ i.core = 0 ∧ ((s.coreAt i).getS a).toNat < 512 ∧ (s.tile i.tile.val).arrivedAt = none ∧ ((∀ c : CoreIx, c ≠ 0 → ∃ n, n ≤ s.issueAt i [rS a] [] none ∧ ((s.tile i.tile.val).core c).run = .ended n)))
    ∧ (∃ (s : State) (i : _), s.Inv ∧ CoreReady s i [rS 0] [] none ∧ (i.core = 1 ∨ i.core = 2) ∧ ((s.tile i.tile.val).core 0).run = .running) :=
  ⟨⟨tWith 5 tTile, (⟨5, 0⟩ : CoreAt), (15 : BitVec 4), ⟨by repeat' (first | decide +kernel | apply And.intro | constructor), by repeat' (first | decide +kernel | apply And.intro | constructor), by repeat' (first | decide +kernel | apply And.intro | constructor), ⟨3, by decide, by decide, fun n h => CoreRun.noConfusion ((show _ = CoreRun.running by decide +kernel).symm.trans h)⟩⟩⟩,
   ⟨tWith 5 { tTile with cores := #v[tCore, { tCore with run := .sync 15 4 }, { tCore with run := .sync 15 3 }, { tCore with run := .sync 15 7 }] }, (⟨5, 0⟩ : CoreAt), (15 : BitVec 4), ⟨by repeat' (first | decide +kernel | apply And.intro | constructor), by repeat' (first | decide +kernel | apply And.intro | constructor), by repeat' (first | decide +kernel | apply And.intro | constructor), fun c hc _ => match c with | 0 => absurd rfl hc | 1 => ⟨4, by decide +kernel⟩ | 2 => ⟨3, by decide +kernel⟩ | 3 => ⟨7, by decide +kernel⟩⟩⟩,
   ⟨tWith 5 { tTile with cores := #v[tCore, { tCore with run := .ended 4 }, { tCore with run := .ended 3 }, { tCore with run := .ended 7 }] }, (⟨5, 0⟩ : CoreAt), (2 : Reg), ⟨by repeat' (first | decide +kernel | apply And.intro | constructor), by repeat' (first | decide +kernel | apply And.intro | constructor), by repeat' (first | decide +kernel | apply And.intro | constructor), by repeat' (first | decide +kernel | apply And.intro | constructor), by repeat' (first | decide +kernel | apply And.intro | constructor), fun c hc => match c with | 0 => absurd rfl hc | 1 => ⟨4, by decide +kernel⟩ | 2 => ⟨3, by decide +kernel⟩ | 3 => ⟨7, by decide +kernel⟩⟩⟩,
   ⟨tWith 5 tTile, (⟨5, 1⟩ : CoreAt), by repeat' (first | decide +kernel | apply And.intro | constructor)⟩⟩

theorem test_witness_CoreTraps :
    (∃ (s : State) (i : _) (d : _) (a : _) (imm : _), s.Inv ∧ CoreReady s i [rS a] [rS d] none ∧ (s.tile i.tile.val).tsk.bound < s.offAt i a imm + 8)
    ∧ (∃ (s : State) (i : _) (d : _) (a : _) (imm : _), s.Inv ∧ CoreReady s i [rS a] [rS d] none ∧ s.offAt i a imm + 8 ≤ (s.tile i.tile.val).tsk.bound ∧ s.offAt i a imm % 8 ≠ 0 ∧ (s.tile i.tile.val).bankClass (bankOf (s.physAt i (s.offAt i a imm))) = clsEcmet)
    ∧ (∃ (s : State) (i : _) (d : _) (a : _) (imm : _), s.Inv ∧ CoreReady s i [rS a] [rS d] none ∧ s.offAt i a imm + 8 ≤ (s.tile i.tile.val).tsk.bound ∧ s.offAt i a imm % 8 = 0 ∧ (s.tile i.tile.val).bankClass (bankOf (s.physAt i (s.offAt i a imm))) ≠ clsEcmet)
    ∧ (∃ (s : State) (i : _) (d : _) (a : _) (imm : _), s.Inv ∧ CoreReady s i [rS a] [rS d] none ∧ s.offAt i a imm + 8 ≤ (s.tile i.tile.val).tsk.bound ∧ s.offAt i a imm % 8 = 0 ∧ (s.tile i.tile.val).bankClass (bankOf (s.physAt i (s.offAt i a imm))) = clsEcmet ∧ (s.tile i.tile.val).bankOwner (bankOf (s.physAt i (s.offAt i a imm))) ≠ i.core.val)
    ∧ (∃ (s : State) (i : _) (d : _) (a : _) (imm : _), s.Inv ∧ CoreReady s i [rS a] [rS d] none ∧ s.offAt i a imm + 8 ≤ (s.tile i.tile.val).tsk.bound ∧ s.offAt i a imm % 8 = 0 ∧ (s.tile i.tile.val).bankClass (bankOf (s.physAt i (s.offAt i a imm))) = clsEcmet ∧ (s.tile i.tile.val).bankCode (bankOf (s.physAt i (s.offAt i a imm))) = true)
    ∧ (∃ (s : State) (i : _) (w : U32), s.Inv ∧ CoreReady s i [] [] none ∧ reservedWord w = true ∧ fieldN w.toNat 26 6 ≠ 0x3A)
    ∧ (∃ (s : State) (i : _) (w : U32), s.Inv ∧ CoreReady s i [] [] none ∧ reservedWord w = true ∧ fieldN w.toNat 26 6 ≠ 0x3A)
    ∧ (∃ (s : State) (i : _) (kind : _) (t0 : _), s.Inv ∧ s.grid.hasTile i.tile.val = true ∧ (s.coreAt i).run = .waiting kind t0 ∧ (s.tile i.tile.val).halted = false) :=
  ⟨⟨tWith 5 { tTile with tsk := { tTile.tsk with bound := 65536 } }, (⟨5, 0⟩ : CoreAt), (7 : Reg), (8 : Reg), (1 : U16), by repeat' (first | decide +kernel | apply And.intro | constructor)⟩,
   ⟨tWith 5 tTile, (⟨5, 0⟩ : CoreAt), (7 : Reg), (2 : Reg), (7 : U16), by repeat' (first | decide +kernel | apply And.intro | constructor)⟩,
   ⟨tWith 5 tTile, (⟨5, 0⟩ : CoreAt), (7 : Reg), (1 : Reg), (8 : U16), by repeat' (first | decide +kernel | apply And.intro | constructor)⟩,
   ⟨tWith 5 tTile, (⟨5, 3⟩ : CoreAt), (7 : Reg), (2 : Reg), (8 : U16), by repeat' (first | decide +kernel | apply And.intro | constructor)⟩,
   ⟨tWith 5 { tTile with tsk := { tTile.tsk with map := #v[68, 32, 96, 128, 88, 72, 80, 0, 0, 0, 0, 0, 0, 0, 0, 0] } }, (⟨5, 0⟩ : CoreAt), (7 : Reg), (2 : Reg), (8 : U16), by repeat' (first | decide +kernel | apply And.intro | constructor)⟩,
   ⟨tWith 5 tTile, (⟨5, 0⟩ : CoreAt), (0xFC000000 : U32), by repeat' (first | decide +kernel | apply And.intro | constructor)⟩,
   ⟨tWith 5 tTile, (⟨5, 0⟩ : CoreAt), (0 : U32), by repeat' (first | decide +kernel | apply And.intro | constructor)⟩,
   ⟨tWith 5 { tTile with cores := Vector.replicate 4 { tCore with run := .waiting wkRecv 7 } }, (⟨5, 0⟩ : CoreAt), wkRecv, (7 : Nat), by repeat' (first | decide +kernel | apply And.intro | constructor)⟩⟩

theorem test_witness_FrameArithmetic :
    (∃ (fa : BeadFmt) (fb : BeadFmt) (a : Bead) (b : Bead), a.elems.length = 32 * fa.bytes ∧ b.elems.length = 32 * fb.bytes)
    ∧ (∃ (x : Acc) (d : Int) (s : Nat) (rho : Nat), x.checkGood = true ∧ x.pat < 2 ^ 160 ∧ (rho : Int) = d % 255 ∧ d.natAbs * 2 ^ s < 2 ^ 159)
    ∧ (∃ (x : Acc) (y : Acc), x.checkGood = true ∧ y.checkGood = true ∧ x.pat < 2 ^ 160 ∧ y.pat < 2 ^ 160) :=
  ⟨⟨(.b16i : BeadFmt), (.b16i : BeadFmt), (⟨(List.replicate 32 [0x00, 0x80]).flatten, 0x0F, 0⟩ : Bead), (⟨(List.replicate 32 [0x00, 0x80]).flatten, 0x0F, 0⟩ : Bead), by repeat' (first | decide +kernel | apply And.intro | constructor)⟩,
   ⟨(⟨2 ^ 160 - 5, false, (2 ^ 160 - 5) % 255⟩ : Acc), (-300 : Int), (100 : Nat), (210 : Nat), by repeat' (first | decide +kernel | apply And.intro | constructor)⟩,
   ⟨(⟨2 ^ 160 - 5, false, (2 ^ 160 - 5) % 255⟩ : Acc), (⟨7, true, 7⟩ : Acc), by repeat' (first | decide +kernel | apply And.intro | constructor)⟩⟩

theorem test_witness_FrameLoadsAndMultiplies :
    (∃ (s : State) (i : _) (sa : Reg) (sb : Reg) (opt : BitVec 12), s.Inv ∧ FrameReady s i 0 opt sa sb)
    ∧ (∃ (s : State) (i : _) (sa : _) (sb : _) (opt : _), s.Inv ∧ FrameReady s i 1 opt sa sb)
    ∧ (∃ (s : State) (i : _) (sa : _) (sb : _) (opt : _), s.Inv ∧ FrameReady s i 1 opt sa sb)
    ∧ (∃ (s : State) (i : _) (sa : _) (sb : _) (opt : _), s.Inv ∧ FrameReady s i 4 opt sa sb) :=
  ⟨⟨tWith 5 tFr, (⟨5, 0⟩ : CoreAt), (10 : Reg), (13 : Reg), (0x800 : BitVec 12), by repeat' (first | decide +kernel | apply And.intro | constructor)⟩,
   ⟨tWith 5 tFr, (⟨5, 0⟩ : CoreAt), (10 : Reg), (11 : Reg), (0x140 : BitVec 12), by repeat' (first | decide +kernel | apply And.intro | constructor)⟩,
   ⟨tWith 5 (tFrBank .opened none), (⟨5, 0⟩ : CoreAt), (10 : Reg), (11 : Reg), (0x280 : BitVec 12), by repeat' (first | decide +kernel | apply And.intro | constructor)⟩,
   ⟨tWith 5 tFr, (⟨5, 0⟩ : CoreAt), (4 : Reg), (0 : Reg), (0xC00 : BitVec 12), by repeat' (first | decide +kernel | apply And.intro | constructor)⟩⟩

theorem test_witness_FrameDrains :
    (∃ (s : State) (i : _) (sa : _) (sb : _) (opt : _), s.Inv ∧ FrameReady s i 2 opt sa sb ∧ optF opt 9 3 ≠ 6)
    ∧ (∃ (s : State) (i : _) (sa : _) (sb : _) (opt : _), s.Inv ∧ FrameReady s i 2 opt sa sb ∧ optF opt 9 3 ≠ 6)
    ∧ (∃ (s : State) (i : _) (sa : _) (sb : _) (opt : BitVec 9), s.Inv ∧ FrameReady s i 2 (6#3 ++ opt) sa sb)
    ∧ (∃ (s : State) (i : CoreAt) (sa : Reg) (sb : Reg) (opt : BitVec 8), s.Inv ∧ FrameReady s i 3 (0#4 ++ opt) sa sb)
    ∧ (∃ (s : State) (i : CoreAt) (sa : Reg) (sb : Reg) (opt : BitVec 8), s.Inv ∧ FrameReady s i 3 (4#4 ++ opt) sa sb)
    ∧ (∃ (s : State) (i : CoreAt) (sa : Reg) (sb : Reg) (opt : BitVec 8), s.Inv ∧ FrameReady s i 3 (5#4 ++ opt) sa sb)
    ∧ (∃ (s : State) (i : CoreAt) (sa : Reg) (sb : Reg) (opt : BitVec 8), s.Inv ∧ FrameReady s i 3 (6#4 ++ opt) sa sb)
    ∧ (∃ (s : State) (i : CoreAt) (sa : Reg) (sb : Reg) (opt : BitVec 8), s.Inv ∧ FrameReady s i 3 (7#4 ++ opt) sa sb) :=
  ⟨⟨tWith 5 (tFrBank .closed none), (⟨5, 0⟩ : CoreAt), (10 : Reg), (13 : Reg), (0x180 : BitVec 12), by repeat' (first | decide +kernel | apply And.intro | constructor)⟩,
   ⟨tWith 5 (tFrBank .drained (some none)), (⟨5, 0⟩ : CoreAt), (4 : Reg), (13 : Reg), (0xA00 : BitVec 12), by repeat' (first | decide +kernel | apply And.intro | constructor)⟩,
   ⟨tWith 5 (tFrBank .closed none), (⟨5, 0⟩ : CoreAt), (4 : Reg), (13 : Reg), (0x100 : BitVec 9), by repeat' (first | decide +kernel | apply And.intro | constructor)⟩,
   ⟨tWith 5 (tFrBank .idle none), (⟨5, 0⟩ : CoreAt), 10, 12, 0, by repeat' (first | decide +kernel | apply And.intro | constructor)⟩,
   ⟨tWith 5 (tFrBank .idle none), (⟨5, 0⟩ : CoreAt), 10, 12, 0x14, by repeat' (first | decide +kernel | apply And.intro | constructor)⟩,
   ⟨tWith 5 (tFrBank .idle none), (⟨5, 0⟩ : CoreAt), 10, 0, 0, by repeat' (first | decide +kernel | apply And.intro | constructor)⟩,
   ⟨tWith 5 (tFrBank .idle none), (⟨5, 0⟩ : CoreAt), 4, 0, 0x40, by repeat' (first | decide +kernel | apply And.intro | constructor)⟩,
   ⟨tWith 5 (tFrBank .idle none), (⟨5, 0⟩ : CoreAt), 10, 0, 0x0A, by repeat' (first | decide +kernel | apply And.intro | constructor)⟩⟩

theorem test_witness_FrameActivity :
    (∃ (s : State) (i : _), s.Inv ∧ FrameReady s i 5 0 0 0 ∧ (s.frameOf i).ramp = .steady ∧ (s.frameOf i).rampFrom = 0)
    ∧ (∃ (s : State) (i : _), s.Inv ∧ FrameReady s i 6 0 0 0 ∧ fullyOn (actAt (s.frameAt i 0 0) (s.frameOf i)) = true)
    ∧ (∃ (s : State) (i : _), s.Inv ∧ FrameReady s i 7 0 0 0)
    ∧ (∃ (s : State) (t : TileIx), s.Inv ∧ s.grid.hasTile t.val = true ∧ (s.tile t.val).job ≠ none ∧ (s.tile t.val).halted = false ∧ ((s.tile t.val).core 0).run ≠ .running ∧ (s.tile t.val).frame.ramp = .steady ∧ (s.tile t.val).frame.rampFrom = 8 ∧ 0 ≤ computeFree (s.tile t.val).frame ∧ (s.tile t.val).frame.rampAt ≤ (computeFree (s.tile t.val).frame).toNat + 63) :=
  ⟨⟨tWith 5 tTile, (⟨5, 0⟩ : CoreAt), by repeat' (first | decide +kernel | apply And.intro | constructor)⟩,
   ⟨tWith 5 tFr, (⟨5, 0⟩ : CoreAt), by repeat' (first | decide +kernel | apply And.intro | constructor)⟩,
   ⟨tWith 5 tFr, (⟨5, 0⟩ : CoreAt), by repeat' (first | decide +kernel | apply And.intro | constructor)⟩,
   ⟨tWith 5 { tFr with cores := Vector.replicate 4 { tCore with run := .ended 3 } }, (5 : TileIx), by repeat' (first | decide +kernel | apply And.intro | constructor)⟩⟩

theorem test_witness_UpdateEngine :
    (∃ (s : State) (i : _) (sa : _) (sb : _), s.Inv ∧ UpdReady s i [rS sa, rS sb] ∧ ((s.coreAt i).getS sa).toNat < 2 ^ 44 ∧ regionOk s i clsCopy (((s.coreAt i).getS sa).toNat % 2 ^ 32) (64 * (1 + pointLines ((s.tile i.tile.val).sp.read ((s.tile i.tile.val).tsk.base + ((s.coreAt i).getS sa).toNat % 2 ^ 32 + 5)).toNat ((s.tile i.tile.val).sp.read ((s.tile i.tile.val).tsk.base + ((s.coreAt i).getS sa).toNat % 2 ^ 32 + 3)).toNat)))
    ∧ (∃ (s : State) (i : _) (sa : _) (sb : _) (opt : BitVec 12) (g : _), s.Inv ∧ UpdReady s i [rS sa, rS sb] ∧ mayIssue (s.tile i.tile.val) (max (max (s.issueAt i [rS sa, rS sb] [] none) (s.tile i.tile.val).upd.occEnd) (s.tile i.tile.val).upd.readEnd) = true ∧ optF opt 10 2 ≠ 3 ∧ optF opt 8 2 ≠ 3 ∧ (∀ r, r ∈ runRegions (s.tile i.tile.val) ((s.coreAt i).getS sa) ((s.coreAt i).getS sb) (optF opt 10 2) (optF opt 8 2) (optF opt 0 8 + 1) → regionOk s i clsCopy r.1 r.2) ∧ (s.tile i.tile.val).upd.grp = some g ∧ g.valid = true ∧ g.frozen = false)
    ∧ (∃ (s : State) (i : _) (sa : _) (sb : _) (opt : BitVec 12), s.Inv ∧ UpdReady s i [rS sa, rS sb] ∧ mayIssue (s.tile i.tile.val) (max (max (s.issueAt i [rS sa, rS sb] [] none) (s.tile i.tile.val).upd.occEnd) (s.tile i.tile.val).upd.readEnd) = true ∧ optF opt 10 2 ≠ 3 ∧ optF opt 8 2 ≠ 3 ∧ (∀ r, r ∈ runRegions (s.tile i.tile.val) ((s.coreAt i).getS sa) ((s.coreAt i).getS sb) (optF opt 10 2) (optF opt 8 2) (optF opt 0 8 + 1) → regionOk s i clsCopy r.1 r.2) ∧ (s.tile i.tile.val).upd.grp = none)
    ∧ (∃ (s : State) (i : _), s.Inv ∧ UpdReady s i []) :=
  ⟨⟨tWith 5 (tUpd none), (⟨5, 3⟩ : CoreAt), (2 : Reg), (3 : Reg), by repeat' (first | decide +kernel | apply And.intro | constructor)⟩,
   ⟨tWith 5 (tUpd (some tGrp)), (⟨5, 3⟩ : CoreAt), (4 : Reg), (5 : Reg), (0x407 : BitVec 12), tGrp, by unfold regionOk; repeat' (first | decide +kernel | apply And.intro | constructor)⟩,
   ⟨tWith 5 (tUpd none), (⟨5, 3⟩ : CoreAt), (4 : Reg), (5 : Reg), (0x407 : BitVec 12), by unfold regionOk; repeat' (first | decide +kernel | apply And.intro | constructor)⟩,
   ⟨tWith 5 (tUpd (some tGrp)), (⟨5, 3⟩ : CoreAt), by repeat' (first | decide +kernel | apply And.intro | constructor)⟩⟩

theorem test_witness_SlotTable :
    (∃ (s : State) (t : TileIx) (entry : Fin 1024) (e : _) (k : _) (v : _) (p : _), s.Inv ∧ SlotReady s t 0 entry.val e k ∧ slotFlit s t e k e.ina v ∧ SlotLocal s t e k p)
    ∧ (∃ (s : State) (t : TileIx) (entry : Fin 1024) (e : _) (k : _) (va : _) (vb : _) (p : _), s.Inv ∧ SlotReady s t 1 entry.val e k ∧ slotFlit s t e k e.ina va ∧ slotFlit s t e k e.inb vb ∧ SlotLocal s t e k p)
    ∧ (∃ (s : State) (t : TileIx) (entry : Fin 1024) (e : _) (k : _) (va : _) (vb : _) (p : _), (s.Inv) ∧ (SlotReady s t 2 entry.val e k) ∧ (slotFlit s t e k e.ina va) ∧ (slotFlit s t e k e.inb vb) ∧ (SlotLocal s t e k p) ∧ ((s.tile t.val).residue = false ∨ (add160Line (s.tile t.val).residue k (SMap.get 0 (s.tile t.val).router.mask entry.val) va vb).2.2 = 0))
    ∧ (∃ (s : State) (t : TileIx) (port : Fin 4) (cy : _), s.Inv ∧ s.grid.hasTile t.val = true ∧ (s.tile t.val).job ≠ none ∧ takesInput (s.tile t.val) port.val cy = false ∧ (s.tile t.val).router.fault = 0)
    ∧ (∃ (s : State) (t : TileIx) (entry : Fin 1024) (e : SlotEnt) (k : Nat) (va : V512) (vb : V512) (p : Nat), s.Inv ∧ SlotReady s t 3 entry.val e k ∧ slotFlit s t e k e.ina va ∧ slotFlit s t e k e.inb vb ∧ SlotLocal s t e k p)
    ∧ (∃ (s : State) (t : TileIx) (entry : Fin 1024) (e : SlotEnt) (k : Nat) (va : V512) (vb : V512) (p : Nat), s.Inv ∧ SlotReady s t 4 entry.val e k ∧ slotFlit s t e k e.ina va ∧ slotFlit s t e k e.inb vb ∧ SlotLocal s t e k p) :=
  ⟨⟨tWith 5 (tSlot 0), (5 : TileIx), (3 : Fin 1024), slotEnt (40 * 2 ^ 44 + 4 * 2 ^ 25 + 1 * 2 ^ 22 + 2 * 2 ^ 19 + 0 * 2 ^ 16 + 8192), (0 : Nat), (0xFFFFFFFF00000001 : V512), (524288 : Nat), by repeat' (first | decide +kernel | apply And.intro | (refine ⟨_, rfl, ?_, ?_, ?_⟩) | constructor)⟩,
   ⟨tWith 5 (tSlot 1), (5 : TileIx), (3 : Fin 1024), slotEnt (40 * 2 ^ 44 + 4 * 2 ^ 25 + 1 * 2 ^ 22 + 2 * 2 ^ 19 + 1 * 2 ^ 16 + 8192), (0 : Nat), (0xFFFFFFFF00000001 : V512), (0x8000000200000007 : V512), (524288 : Nat), by repeat' (first | decide +kernel | apply And.intro | (refine ⟨_, rfl, ?_, ?_, ?_⟩) | constructor)⟩,
   ⟨tWith 5 (tSlot 2), (5 : TileIx), (3 : Fin 1024), slotEnt (40 * 2 ^ 44 + 4 * 2 ^ 25 + 1 * 2 ^ 22 + 2 * 2 ^ 19 + 2 * 2 ^ 16 + 8192), (0 : Nat), (0xFFFFFFFF00000001 : V512), (0x8000000200000007 : V512), (524288 : Nat), by repeat' (first | decide +kernel | apply And.intro | (refine ⟨_, rfl, ?_, ?_, ?_⟩) | constructor)⟩,
   ⟨tWith 5 (tSlot 0), (5 : TileIx), (3 : Fin 4), (41 : Nat), by repeat' (first | decide +kernel | apply And.intro | constructor)⟩,
   ⟨tWith 5 (tSlot 3), 5, 3, slotEnt (40 * 2 ^ 44 + 4 * 2 ^ 25 + 1 * 2 ^ 22 + 2 * 2 ^ 19 + 3 * 2 ^ 16 + 8192), 0, 0xFFFFFFFF00000001, 0x8000000200000007, 524288, by repeat' (first | decide +kernel | apply And.intro | (refine ⟨_, rfl, ?_, ?_, ?_⟩) | constructor)⟩,
   ⟨tWith 5 (tSlot 4), 5, 3, slotEnt (40 * 2 ^ 44 + 4 * 2 ^ 25 + 1 * 2 ^ 22 + 2 * 2 ^ 19 + 4 * 2 ^ 16 + 8192), 0, 0xFFFFFFFF00000001, 0x8000000200000007, 524288, by repeat' (first | decide +kernel | apply And.intro | (refine ⟨_, rfl, ?_, ?_, ?_⟩) | constructor)⟩⟩

theorem test_witness_ServiceAgent :
    (∃ (s : State) (t : TileIx) (response : Bool) (i : _) (l : _) (rest : _), s.Inv ∧ s.grid.hasTile t.val = true ∧ (response = false → s.hopReady t.val 4 1 = false) ∧ 0 < ((s.tile t.val).hopOut 4 0).credits ∧ s.hopInput t.val 4 0 = some i ∧ SMap.get ([] : List SvLine) (s.tile t.val).router.ins (i * 2 + 0) = l :: rest ∧ s.grid.portTo (t.val % 48) (t.val / 48) i = .local ∧ s.grid.portTo (t.val % 48) (t.val / 48) 4 = .local ∧ response = false)
    ∧ (∃ (s : State) (t : TileIx) (response : Bool) (i : _) (l : _) (rest : _), s.Inv ∧ s.grid.hasTile t.val = true ∧ (response = false → s.hopReady t.val 4 1 = false) ∧ 0 < ((s.tile t.val).hopOut 4 1).credits ∧ s.hopInput t.val 4 1 = some i ∧ SMap.get ([] : List SvLine) (s.tile t.val).router.ins (i * 2 + 1) = l :: rest ∧ s.grid.portTo (t.val % 48) (t.val / 48) i = .local ∧ s.grid.portTo (t.val % 48) (t.val / 48) 4 = .local ∧ response = true)
    ∧ (∃ (s : State) (t : TileIx) (out : MeshPort) (response : Bool), s.Inv ∧ s.grid.hasTile t.val = true ∧ ((s.tile t.val).hopOut out.val (if response then 1 else 0)).returning ≠ 0)
    ∧ (∃ (s : State) (t : TileIx) (l : _) (rest : _) (e : _) (fr : _), s.Inv ∧ s.grid.hasTile t.val = true ∧ (s.tile t.val).router.rxReq = l :: rest ∧ (s.tile t.val).router.rw = none ∧ hType (hdrOf l.data) = 1 ∧ (s.tile t.val).job ≠ none ∧ freeEntries (s.svOf t (hDcore (hdrOf l.data))) = e :: fr)
    ∧ (∃ (s : State) (t : TileIx) (l : _), s.Inv ∧ s.grid.hasTile t.val = true ∧ (s.tile t.val).router.rxReq = [l] ∧ (s.tile t.val).router.rw = none ∧ hType (hdrOf l.data) = 2)
    ∧ (∃ (s : State) (t : TileIx) (l : _), s.Inv ∧ (s.tile t.val).sp.wf = true ∧ s.grid.hasTile t.val = true ∧ (s.tile t.val).router.land = [l] ∧ l.last = true ∧ l.poison = false ∧ (s.tile t.val).router.landBad = false ∧ (s.tile t.val).bankClass (bankOf l.addr) = clsMesh ∧ l.addr % 64 = 0 ∧ l.win < 8 ∧ (∀ n : Fin 2, ((s.tile t.val).wps[n]).enable = false))
    ∧ (∃ (s : State) (t : TileIx) (l : _) (rest : _), s.Inv ∧ s.grid.hasTile t.val = true ∧ (s.tile t.val).router.rxRsp = l :: rest ∧ (s.tile t.val).job ≠ none ∧ (⟨hTag (hdrOf l.data), hSeq (hdrOf l.data)⟩ : SvReq) ∈ (s.svOf t (hDcore (hdrOf l.data))).reqs)
    ∧ (∃ (s : State) (i : CoreAt) (tag : Fin 4) (q : _), s.Inv ∧ s.grid.hasTile i.tile.val = true ∧ (s.tile i.tile.val).job ≠ none ∧ (s.svOf i.tile i.core).reqs.find? (fun r => r.tag == tag.val) = some q ∧ q.seq < 1024) :=
  ⟨⟨tWith 5 (tRouter (fun r => { r with ins := [(8, [tLine tMsg])] })), (5 : TileIx), false, (4 : Nat), tLine tMsg, ([] : List SvLine), by repeat' (first | decide +kernel | apply And.intro | constructor)⟩,
   ⟨tWith 5 (tRouter (fun r => { r with ins := [(9, [tLine tMsg])] })), (5 : TileIx), true, (4 : Nat), tLine tMsg, ([] : List SvLine), by repeat' (first | decide +kernel | apply And.intro | constructor)⟩,
   ⟨tWith 5 (tRouter (fun r => { r with outs := Vector.replicate 10 ⟨3, 1, none, 4⟩ })), (5 : TileIx), (4 : MeshPort), true, by repeat' (first | decide +kernel | apply And.intro | constructor)⟩,
   ⟨tWith 5 (tRouter (fun r => { r with rxReq := [tLine tMsg, tLine 5] })), (5 : TileIx), tLine tMsg, [tLine 5], (0 : Nat), ([1, 2, 3] : List Nat), by repeat' (first | decide +kernel | apply And.intro | constructor)⟩,
   ⟨tWith 5 (tRouter (fun r => { r with rxReq := [tLine (tMsg + 2 ^ 60 + 7 * 2 ^ 64)] })), (5 : TileIx), tLine (tMsg + 2 ^ 60 + 7 * 2 ^ 64), by repeat' (first | decide +kernel | apply And.intro | constructor)⟩,
   ⟨tWith 5 (tRouter (fun r => { r with land := [⟨7, 524352, 0x123456789, false, true, BitVec.ofNat 512 (tMsg + 2 ^ 60), 1⟩] })), (5 : TileIx), (⟨7, 524352, 0x123456789, false, true, BitVec.ofNat 512 (tMsg + 2 ^ 60), 1⟩ : Landing), by repeat' (first | decide +kernel | apply And.intro | constructor)⟩,
   ⟨tWith 5 (tRouter (fun r => { r with rxRsp := [tLine (tMsg + 2 * 2 ^ 60 + 9 * 2 ^ 10 + 2 * 2 ^ 8)], sv := Vector.replicate 4 ⟨[], [⟨2, 9⟩, ⟨3, 10⟩], [], 11⟩ })), (5 : TileIx), tLine (tMsg + 2 * 2 ^ 60 + 9 * 2 ^ 10 + 2 * 2 ^ 8), ([] : List SvLine), by repeat' (first | decide +kernel | apply And.intro | constructor)⟩,
   ⟨tWith 5 (tRouter (fun r => { r with sv := Vector.replicate 4 ⟨[], [⟨2, 9⟩, ⟨3, 10⟩], [], 11⟩ })), (⟨5, 2⟩ : CoreAt), (3 : Fin 4), (⟨3, 10⟩ : SvReq), by repeat' (first | decide +kernel | apply And.intro | constructor)⟩⟩

theorem test_witness_EnginesAndStacks :
    (∃ (s : State) (e : _) (di : Fin 8192) (d : _) (k : _) (f : _) (p : _), s.Inv ∧ EngReady s e di.val opWrite d k ∧ d.bead = 0 ∧ (s.eng e).flitAt d.col (d.cy k) = some f ∧ f.hopBad = false ∧ s.locate (d.addr + 64 * k) = some p)
    ∧ (∃ (s : State) (e : _) (di : Fin 8192) (d : _) (k : _) (a : _) (b : _), s.Inv ∧ EngReady s e di.val opMove d k ∧ s.locate (d.addr + 64 * k) = some a ∧ s.locate (d.addr2 + 64 * k) = some b)
    ∧ (∃ (s : State) (e : _) (di : Fin 8192) (d : _) (k : _) (p : _), s.Inv ∧ EngReady s e di.val opFill d k ∧ s.locate (d.addr + 64 * k) = some p)
    ∧ (∃ (s : State) (e : _) (di : Fin 8192) (d : _) (f : _), s.Inv ∧ (s.engStep e).isSome = true ∧ (s.eng e).due di.val opReadReq = true ∧ (s.eng e).reqs = [] ∧ tableDesc (s.eng e).table di.val = d ∧ (s.eng e).flitAt d.col d.reqCy = some f ∧ f.hopBad = false ∧ f.poison = false)
    ∧ (∃ (s : State) (e : _) (di : Fin 8192) (d : _) (f : _), s.Inv ∧ (s.engStep e).isSome = true ∧ (s.eng e).due di.val opReadReq = true ∧ (s.eng e).reqs = [] ∧ tableDesc (s.eng e).table di.val = d ∧ (s.eng e).flitAt d.col d.reqCy = some f ∧ f.hopBad = false ∧ f.poison = false)
    ∧ (∃ (s : State) (e : _) (di : Fin 8192) (d : _) (k : _) (p : _) (j : _), s.Inv ∧ s.engineOwner e.val = some j ∧ (s.job j).phase = .step ∧ (s.job j).halted = false ∧ (s.eng e).stopped = false ∧ tableDesc (s.eng e).table di.val = d ∧ (s.eng e).nextFetch di.val (s.nextRange e j) = some (k, false) ∧ (s.eng e).req di.val = none ∧ s.locate (d.lineAt d.addr d.addr2 k) = some p)
    ∧ (∃ (s : State) (e : _) (di : Fin 8192) (pre : List StagedLine) (l : StagedLine) (post : List StagedLine), s.Inv ∧ (s.eng e).stage = pre ++ l :: post ∧ ((∀ x, x ∈ pre → x.desc ≠ di.val ∨ x.fetching = false)) ∧ l.desc = di.val ∧ l.fetching = true)
    ∧ (∃ (s : State) (m : StackIx) (line : _), s.Inv ∧ s.stackUsable m.val = true ∧ 64 * line < stackBytes ∧ s.linePoison m.val (64 * line) = false)
    ∧ (∃ (s : State) (m : StackIx), s.Inv ∧ s.stackUsable m.val = true ∧ (s.stackSt m.val).tempRow = 0)
    ∧ (∃ (s : State) (m : StackIx), s.Inv ∧ s.stackUsable m.val = true ∧ (s.stackSt m.val).tempRow = 0)
    ∧ (∃ (s : State) (m : StackIx), s.Inv ∧ s.stackUsable m.val = true ∧ (s.stackSt m.val).tempRow = 0)
    ∧ (∃ (s : State) (m : StackIx), s.Inv ∧ s.stackUsable m.val = true ∧ (s.stackSt m.val).tempRow = 0)
    ∧ (∃ (s : State) (m : StackIx), s.Inv ∧ s.stackUsable m.val = true ∧ (s.stackSt m.val).tempRow = 0)
    ∧ (∃ (s : State) (m : StackIx), s.Inv ∧ s.stackUsable m.val = true ∧ (s.stackSt m.val).tempRow = 0)
    ∧ (∃ (s : State) (m : StackIx), s.Inv ∧ s.stackUsable m.val = true ∧ (s.stackSt m.val).tempRow = 0)
    ∧ (∃ (s : State) (m : StackIx), s.Inv ∧ (s.stackSt m.val).shortenDue = true)
    ∧ (∃ (s : State) (e : EngineIx), s.Inv ∧ s.stackUsable (e.val / 2) = true)
    ∧ (∃ (s : State) (e : EngineIx) (addr : Nat) (data : List Byte) (p : Nat × Nat), s.Inv ∧ s.stackUsable (e.val / 2) = true ∧ data.length = 64 ∧ addr % 64 = 0 ∧ s.locate addr = some p ∧ lineAddr p.2 = p.2)
    ∧ (∃ (s : State) (e : EngineIx), s.Inv ∧ s.stackUsable (e.val / 2) = false)
    ∧ (∃ (s : State) (e : EngineIx) (q : _), s.Inv ∧ s.mem.service.find? (fun q => q.1 == e.val) = some q ∧ q.2.2 = 0)
    ∧ (∃ (s : State) (e : EngineIx) (di : Fin 8192) (d : Desc) (k : Nat) (l : StagedLine), s.Inv ∧ EngReady s e di.val opRead d k ∧ d.bead = 0 ∧ (s.eng e).root di.val = di.val ∧ (s.eng e).sharers di.val = [di.val] ∧ (s.eng e).staged di.val k = some l ∧ l.fetching = false ∧ l.unc = none ∧ (s.tile (48 * s.edgeRow (engTop e.val) + engColumn e.val d.col)).job ≠ none)
    ∧ (∃ (s : State) (e : EngineIx) (di : Fin 8192) (d : Desc) (k : Nat) (l : StagedLine), s.Inv ∧ EngReady s e di.val opReadReq d k ∧ d.bead = 0 ∧ (s.eng e).root di.val = di.val ∧ (s.eng e).sharers di.val = [di.val] ∧ (∃ r, (s.eng e).req di.val = some r ∧ r.dead = false) ∧ (s.eng e).staged di.val k = some l ∧ l.fetching = false ∧ l.unc = none ∧ (s.tile (48 * s.edgeRow (engTop e.val) + engColumn e.val d.col)).job ≠ none) :=
  ⟨⟨tEng 3 (fun g => { g with port := [⟨0, 100, 0x1234, false, false⟩] }), (0 : EngineIx), (0 : Fin 8192), tableDesc [(0, 3 * 2 ^ 60 + 100 * 2 ^ 36 + 2 * 2 ^ 24), (1, 64), (2, 6400)] 0, (0 : Nat), (⟨0, 100, 0x1234, false, false⟩ : PortFlit), ((0, 64) : Nat × Nat), by repeat' (first | decide +kernel | apply And.intro | constructor)⟩,
   ⟨tEng 4 (fun g => { g with fault := 0 }), (0 : EngineIx), (0 : Fin 8192), tableDesc [(0, 4 * 2 ^ 60 + 100 * 2 ^ 36 + 2 * 2 ^ 24), (1, 64), (2, 6400)] 0, (0 : Nat), ((0, 64) : Nat × Nat), ((0, 6400) : Nat × Nat), by repeat' (first | decide +kernel | apply And.intro | constructor)⟩,
   ⟨tEng 5 (fun g => { g with fault := 0 }), (0 : EngineIx), (0 : Fin 8192), tableDesc [(0, 5 * 2 ^ 60 + 100 * 2 ^ 36 + 2 * 2 ^ 24), (1, 64), (2, 6400)] 0, (0 : Nat), ((0, 64) : Nat × Nat), by repeat' (first | decide +kernel | apply And.intro | constructor)⟩,
   ⟨{ tEng 2 (fun g => { g with table := [(0, 2 * 2 ^ 60 + 2 * 2 ^ 24)], port := [⟨0, 0, 6400, false, false⟩] }) with draws := 0 }, (0 : EngineIx), (0 : Fin 8192), tableDesc [(0, 2 * 2 ^ 60 + 2 * 2 ^ 24)] 0, (⟨0, 0, 6400, false, false⟩ : PortFlit), by repeat' (first | decide +kernel | apply And.intro | constructor)⟩,
   ⟨{ tEng 2 (fun g => { g with table := [(0, 2 * 2 ^ 60 + 2 * 2 ^ 24)], port := [⟨0, 0, 6401, false, false⟩] }) with draws := 0 }, (0 : EngineIx), (0 : Fin 8192), tableDesc [(0, 2 * 2 ^ 60 + 2 * 2 ^ 24)] 0, (⟨0, 0, 6401, false, false⟩ : PortFlit), by repeat' (first | decide +kernel | apply And.intro | constructor)⟩,
   ⟨tEng 1 (fun g => { g with fault := 0 }), (0 : EngineIx), (0 : Fin 8192), tableDesc [(0, 1 * 2 ^ 60 + 100 * 2 ^ 36 + 2 * 2 ^ 24), (1, 64), (2, 6400)] 0, (0 : Nat), ((0, 64) : Nat × Nat), (0 : SlotIx), by repeat' (first | decide +kernel | apply And.intro | constructor)⟩,
   ⟨tEng 1 (fun g => { g with stage := [⟨1, 0, 77, false, none, true, false⟩, ⟨0, 0, 77, false, none, true, false⟩, ⟨0, 1, 78, false, none, true, false⟩] }), (0 : EngineIx), (0 : Fin 8192), ([⟨1, 0, 77, false, none, true, false⟩] : List StagedLine), (⟨0, 0, 77, false, none, true, false⟩ : StagedLine), ([⟨0, 1, 78, false, none, true, false⟩] : List StagedLine), by repeat' (first | decide +kernel | apply And.intro | constructor)⟩,
   ⟨tRun Job.reset tTile, (0 : StackIx), (1610612735 : Nat), by repeat' (first | decide +kernel | apply And.intro | constructor)⟩,
   ⟨tRun Job.reset tTile, (0 : StackIx), by repeat' (first | decide +kernel | apply And.intro | constructor)⟩,
   ⟨tRun Job.reset tTile, (0 : StackIx), by repeat' (first | decide +kernel | apply And.intro | constructor)⟩,
   ⟨tRun Job.reset tTile, (0 : StackIx), by repeat' (first | decide +kernel | apply And.intro | constructor)⟩,
   ⟨tRun Job.reset tTile, (0 : StackIx), by repeat' (first | decide +kernel | apply And.intro | constructor)⟩,
   ⟨tRun Job.reset tTile, (0 : StackIx), by repeat' (first | decide +kernel | apply And.intro | constructor)⟩,
   ⟨tRun Job.reset tTile, (0 : StackIx), by repeat' (first | decide +kernel | apply And.intro | constructor)⟩,
   ⟨{ tRun Job.reset tTile with clk := { ClkSt.reset with freq := 3200 } }, (0 : StackIx), by repeat' (first | decide +kernel | apply And.intro | constructor)⟩,
   ⟨{ tRun Job.reset tTile with mem := { MemSys.reset with present := 1, stackSts := Vector.replicate 16 { StackSt.reset with shortenDue := true, tempRow := 2 } } }, (15 : StackIx), by repeat' (first | decide +kernel | apply And.intro | constructor)⟩,
   ⟨tRun Job.reset tTile, (1 : EngineIx), by repeat' (first | decide +kernel | apply And.intro | constructor)⟩,
   ⟨tRun Job.reset tTile, (1 : EngineIx), (640 : Nat), (List.replicate 64 (3 : Byte)), ((0, 640) : Nat × Nat), by repeat' (first | decide +kernel | apply And.intro | constructor)⟩,
   ⟨tRun Job.reset tTile, (2 : EngineIx), by repeat' (first | decide +kernel | apply And.intro | constructor)⟩,
   ⟨{ tRun Job.reset tTile with mem := { MemSys.reset with present := 1, service := [(3, .read 0 5, 1), (2, .read 0 5, 0)] } }, (2 : EngineIx), ((2, MemRequest.read 0 5, 0) : Nat × MemRequest × Nat), by repeat' (first | decide +kernel | apply And.intro | constructor)⟩,
   ⟨tEng 1 (fun g => { g with stage := [⟨0, 0, 77, false, none, false, false⟩], nFetched := 1 }), 0, 0, tableDesc [(0, 1 * 2 ^ 60 + 100 * 2 ^ 36 + 2 * 2 ^ 24), (1, 64), (2, 6400)] 0, 0, ⟨0, 0, 77, false, none, false, false⟩, by repeat' (first | decide +kernel | apply And.intro | constructor)⟩,
   ⟨tEng 2 (fun g => { g with stage := [⟨0, 0, 77, false, none, false, false⟩], nFetched := 1, reqs := [⟨0, 64, 0, false, none⟩] }), 0, 0, tableDesc [(0, 2 * 2 ^ 60 + 100 * 2 ^ 36 + 2 * 2 ^ 24), (1, 64), (2, 6400)] 0, 0, ⟨0, 0, 77, false, none, false, false⟩, by repeat' (first | decide +kernel | apply And.intro | constructor), by repeat' (first | decide +kernel | apply And.intro | constructor), by repeat' (first | decide +kernel | apply And.intro | constructor), by repeat' (first | decide +kernel | apply And.intro | constructor), by repeat' (first | decide +kernel | apply And.intro | constructor), ⟨⟨0, 64, 0, false, none⟩, by repeat' (first | decide +kernel | apply And.intro | constructor)⟩, by repeat' (first | decide +kernel | apply And.intro | constructor)⟩⟩

theorem test_witness_JobLoadingAndStarting :
    (∃ (s : State) (j : _) (car : _), Served s car 1 ∧ (s.job j).state = 0)
    ∧ (∃ (s : State) (j : _) (car : _), Served s car 1 ∧ (s.job j).state ≠ 0)
    ∧ (∃ (s : State) (j : _), (s.job j).state = 1 ∧ parsePlan s (s.job j).planAddr.toNat = none)
    ∧ (∃ (s : State) (j : _) (car : _) (p : _), s.Inv ∧ Served s car 1 ∧ (s.job j).plan = some p ∧ (s.job j).state = 2 ∧ s.schedOk (s.job j) p = true ∧ (s.job j).groupId = 0)
    ∧ (∃ (s : State) (j : _) (car : _), Served s car 1 ∧ (s.job j).state ≠ 2)
    ∧ (∃ (s : State) (j : _) (p : _), s.Inv ∧ (s.job j).plan = some p ∧ (s.job j).running = true ∧ (s.job j).phase = .starting ∧ (s.job j).groupId = 0 ∧ s.stagedForStart p = true)
    ∧ (∃ (s : State) (j : _) (p : _), (s.job j).state = 1 ∧ parsePlan s (s.job j).planAddr.toNat = some p ∧ s.loadStatus p ≠ 0 ∧ s.loadStatus p ≠ 0x0741)
    ∧ (∃ (s : State) (j : _) (p : _), (s.job j).state = 1 ∧ parsePlan s (s.job j).planAddr.toNat = some p ∧ s.loadStatus p = 0 ∧ ((∀ z, z ∈ p.zoneSet → (s.zonePwr z).state = zsOn))) :=
  ⟨⟨tOn, (7 : SlotIx), Carrier.mailbox, by repeat' (first | decide +kernel | apply And.intro | constructor)⟩,
   ⟨tRun (tJob tPlan 5 .none) tTile, (0 : SlotIx), Carrier.mailbox, by repeat' (first | decide +kernel | apply And.intro | constructor)⟩,
   ⟨tRun { Job.reset with state := 1 } tTile, (0 : SlotIx), by repeat' (first | decide +kernel | apply And.intro | constructor)⟩,
   ⟨tRun (tJob tPlan 2 .none) tTile, (0 : SlotIx), Carrier.mailbox, tPlan, by repeat' (first | decide +kernel | apply And.intro | constructor)⟩,
   ⟨tOn, (7 : SlotIx), Carrier.mailbox, by repeat' (first | decide +kernel | apply And.intro | constructor)⟩,
   ⟨tRun (tJob tPlanT 3 .starting) tTile, (0 : SlotIx), tPlanT, by repeat' (first | decide +kernel | apply And.intro | constructor)⟩,
   ⟨tImgState 0, (0 : SlotIx), tImgPlan, ⟨by decide +kernel, tImg_parse 0 (.inl rfl), by decide +kernel, by decide +kernel⟩⟩,
   ⟨tImgState 1, (0 : SlotIx), tImgPlan, ⟨by decide +kernel, tImg_parse 1 (.inr rfl), by decide +kernel, by decide +kernel⟩⟩⟩

theorem test_witness_JobEnding :
    (∃ (s : State) (j : _) (car : _), Served s car 1 ∧ (s.job j).state = 3)
    ∧ (∃ (s : State) (j : _) (car : _), Served s car 1 ∧ (s.job j).state ≠ 3)
    ∧ (∃ (s : State) (j : _) (car : _), Served s car 1 ∧ (s.job j).holds = true)
    ∧ (∃ (s : State) (j : _) (car : _), Served s car 1 ∧ (s.job j).holds = false)
    ∧ (∃ (s : State) (j : _) (car : _), Served s car 1 ∧ (s.job j).state = 5)
    ∧ (∃ (s : State) (j : _) (car : _), Served s car 1 ∧ (s.job j).running = true) :=
  ⟨⟨tRun (tJob tPlan 3 .step) tTile, (0 : SlotIx), Carrier.mailbox, by repeat' (first | decide +kernel | apply And.intro | constructor)⟩,
   ⟨tRun (tJob tPlan 4 .step) tTile, (0 : SlotIx), Carrier.mailbox, by repeat' (first | decide +kernel | apply And.intro | constructor)⟩,
   ⟨tRun (tJob tPlan 4 .step) tTile, (0 : SlotIx), Carrier.mailbox, by repeat' (first | decide +kernel | apply And.intro | constructor)⟩,
   ⟨tRun (tJob tPlan 5 .none) tTile, (0 : SlotIx), Carrier.mailbox, by repeat' (first | decide +kernel | apply And.intro | constructor)⟩,
   ⟨tRun (tJob tPlan 5 .none) tTile, (0 : SlotIx), Carrier.mailbox, by repeat' (first | decide +kernel | apply And.intro | constructor)⟩,
   ⟨tRun (tJob tPlan 4 .step) tTile, (0 : SlotIx), Carrier.mailbox, by repeat' (first | decide +kernel | apply And.intro | constructor)⟩⟩

theorem test_witness_StepFences :
    (∃ (s : State) (j : _) (p : _) (t : TileIx), (s.job j).plan = some p ∧ (s.job j).phase = .step ∧ (s.job j).running = true ∧ (s.job j).halted = false ∧ tileArrived (s.tile t.val) = true ∧ p.units.any (fun v => unitKey v == t.val) = true ∧ (s.job j).arrived.any (fun v => unitKey v == t.val) = false)
    ∧ (∃ (s : State) (j : _) (p : _), AllIn s j p ∧ ledgersHold s j p ∧ (s.atDecision j p).anyDetection j p = false ∧ (s.atDecision j p).anyTrap j p = false ∧ (s.atDecision j p).agreedNext p = none)
    ∧ (∃ (s : State) (j : _) (p : _), AllIn s j p ∧ ledgersHold s j p ∧ (s.atDecision j p).anyDetection j p = false ∧ (s.atDecision j p).anyTrap j p = false ∧ (s.atDecision j p).agreedNext p = some (1, true) ∧ ((s.atDecision j p).job j).carried = false ∧ ((s.atDecision j p).job j).stopReq = none ∧ ((s.atDecision j p).job j).groupStop = none)
    ∧ (∃ (s : State) (j : _) (p : _), AllIn s j p ∧ ledgersHold s j p ∧ (s.atDecision j p).anyDetection j p = false ∧ (s.atDecision j p).anyTrap j p = false ∧ (s.atDecision j p).agreedNext p = some (255, true) ∧ ((s.atDecision j p).job j).carried = false ∧ ((s.atDecision j p).job j).stopReq = none ∧ ((s.atDecision j p).job j).groupStop = none)
    ∧ (∃ (s : State) (j : _) (p : _), AllIn s j p ∧ ledgersHold s j p ∧ (s.atDecision j p).anyDetection j p = true ∧ (s.job j).reruns < 2)
    ∧ (∃ (s : State) (j : _) (p : _), AllIn s j p ∧ ledgersHold s j p ∧ (s.atDecision j p).anyDetection j p = false ∧ (s.atDecision j p).anyTrap j p = true)
    ∧ (∃ (s : State) (j : _) (p : _), AllIn s j p ∧ ((s.gatherReports j p).sendAudits p).breaks p ≠ ([], [])) :=
  ⟨⟨tRun (tJob tPlan 3 .step) (tEnded (some (1, false)) 502), (0 : SlotIx), tPlan, (0 : TileIx), by repeat' (first | decide +kernel | apply And.intro | constructor)⟩,
   ⟨tRun ({ tJob tPlanT 3 .step with arrived := [.tile 0] }) (tEnded none 502), (0 : SlotIx), tPlanT, by refine ⟨by constructor <;> decide +kernel, ?_⟩; unfold ledgersHold; repeat' (first | decide +kernel | apply And.intro)⟩,
   ⟨tRun ({ tJob tPlanT 3 .step with arrived := [.tile 0] }) (tEnded (some (1, true)) 502), (0 : SlotIx), tPlanT, by refine ⟨by constructor <;> decide +kernel, ?_⟩; unfold ledgersHold; repeat' (first | decide +kernel | apply And.intro)⟩,
   ⟨tRun ({ tJob tPlanT 3 .step with arrived := [.tile 0] }) (tEnded (some (255, true)) 502), (0 : SlotIx), tPlanT, by refine ⟨by constructor <;> decide +kernel, ?_⟩; unfold ledgersHold; repeat' (first | decide +kernel | apply And.intro)⟩,
   ⟨tRun ({ tJob tPlanT 3 .step with arrived := [.tile 0] }) ({ tEnded (some (1, true)) 502 with detected := true }), (0 : SlotIx), tPlanT, by refine ⟨by constructor <;> decide +kernel, ?_⟩; unfold ledgersHold; repeat' (first | decide +kernel | apply And.intro)⟩,
   ⟨tRun ({ tJob tPlanT 3 .step with arrived := [.tile 0] }) ({ tEnded (some (1, true)) 502 with trapped := true, stopAt := some 400 }), (0 : SlotIx), tPlanT, by refine ⟨by constructor <;> decide +kernel, ?_⟩; unfold ledgersHold; repeat' (first | decide +kernel | apply And.intro)⟩,
   ⟨tRun ({ tJob tPlanT 3 .step with arrived := [.tile 0] }) ({ tEnded (some (1, true)) 502 with router := { RouterSt.reset with badTag := true } }), (0 : SlotIx), tPlanT, by repeat' (first | decide +kernel | apply And.intro | constructor)⟩⟩

theorem test_witness_ReleaseAndTimeouts :
    (∃ (s : State) (j : _) (p : _) (n : _) (plan : _), s.Inv ∧ (s.job j).plan = some p ∧ (s.job j).phase = .decided n false plan ∧ (s.job j).running = true ∧ (s.job j).halted = false ∧ s.haltAtFence j = false)
    ∧ (∃ (s : State) (j : _) (p : _) (n : _) (plan : _), s.Inv ∧ (s.job j).plan = some p ∧ (s.job j).phase = .decided n true plan ∧ (s.job j).running = true ∧ (s.job j).halted = false ∧ s.haltAtFence j = false)
    ∧ (∃ (s : State) (j : _) (p : _), (s.job j).plan = some p ∧ (s.job j).phase = .step ∧ (s.job j).running = true ∧ (s.job j).halted = false ∧ (s.job j).allArrived = false)
    ∧ (∃ (s : State) (e : EngineIx) (j : _) (p : _), s.engineOwner e.val = some j ∧ (s.job j).plan = some p ∧ (s.job j).phase = .step ∧ (s.job j).running = true ∧ (s.job j).halted = false ∧ ((∀ t, t ∈ p.tileSet → (s.job j).arrived.any (fun v => unitKey v == t) = true)) ∧ (s.job j).arrived.any (fun v => unitKey v == 2048 + e.val) = false) :=
  ⟨⟨tRun (tJob tPlanT 3 (.decided 1 false true)) (tEnded (some (1, true)) 502), (0 : SlotIx), tPlanT, (1 : Nat), true, by repeat' (first | decide +kernel | apply And.intro | constructor)⟩,
   ⟨tRun (tJob tPlanT 4 (.decided 0 true false)) (tEnded (some (1, true)) 502), (0 : SlotIx), tPlanT, (0 : Nat), false, by repeat' (first | decide +kernel | apply And.intro | constructor)⟩,
   ⟨tRun (tJob tPlanT 4 .step) (tEnded (some (1, true)) 502), (0 : SlotIx), tPlanT, by repeat' (first | decide +kernel | apply And.intro | constructor)⟩,
   ⟨tRun { tJob tPlan 3 .step with arrived := [.tile 0] } (tEnded (some (1, true)) 502), (0 : EngineIx), (0 : SlotIx), tPlan, by repeat' (first | decide +kernel | apply And.intro | constructor)⟩⟩

theorem test_witness_FenceEvents :
    (∃ (s : State) (j : SlotIx) (car : Carrier) (b : Job) (g : Fin 4096) (w : U32) (v1 : Byte), Served s car 1 ∧ s.job j = b ∧ ¬ (b.replay = true ∧ b.running = true) ∧ ¬ (b.target.toNat / 2 ^ 63 = 1 ∧ b.target.toNat % 2 ^ 63 ≤ b.planFences) ∧ 32 * (b.evUsed + b.pending.length + 1) ≤ b.evLen ∧ s.fuses.updateEngines = true ∧ g.val < b.schedGroups ∧ w.toNat < 0x7F800000 ∧ v1.toNat ≤ 1)
    ∧ (∃ (s : State) (j : _) (car : _) (b : Job), Served s car 1 ∧ s.job j = b ∧ b.replay = true ∧ b.running = true)
    ∧ (∃ (s : State) (j : _) (car : _) (b : Job), Served s car 1 ∧ s.job j = b ∧ b.replay = false ∧ b.target.toNat / 2 ^ 63 = 1 ∧ b.target.toNat % 2 ^ 63 ≤ b.planFences)
    ∧ (∃ (s : State) (j : _) (car : _) (b : Job), Served s car 1 ∧ s.job j = b ∧ b.replay = false ∧ b.target.toNat < 2 ^ 63 ∧ b.evLen < 32 * (b.evUsed + b.pending.length + 1)) :=
  ⟨⟨tRun { tJob tPlanT 3 .step with evLen := 64, schedGroups := 1, target := 0x8000000000000001 } tTile, (0 : SlotIx), Carrier.mailbox, ({ tJob tPlanT 3 .step with evLen := 64, schedGroups := 1, target := 0x8000000000000001 } : Job), (0 : Fin 4096), (0x7F7FFFFF : U32), (1 : Byte), ⟨by repeat' (first | decide +kernel | apply And.intro | constructor), rfl, by repeat' (first | decide +kernel | apply And.intro)⟩⟩,
   ⟨tRun ({ tJob tPlanT 3 .step with replay := true } : Job) tTile, (0 : SlotIx), Carrier.mailbox, ({ tJob tPlanT 3 .step with replay := true } : Job), ⟨by repeat' (first | decide +kernel | apply And.intro | constructor), rfl, by repeat' (first | decide +kernel | apply And.intro)⟩⟩,
   ⟨tRun ({ tJob tPlanT 3 .step with target := 0x8000000000000000 } : Job) tTile, (0 : SlotIx), Carrier.mailbox, ({ tJob tPlanT 3 .step with target := 0x8000000000000000 } : Job), ⟨by repeat' (first | decide +kernel | apply And.intro | constructor), rfl, by repeat' (first | decide +kernel | apply And.intro)⟩⟩,
   ⟨tRun ({ tJob tPlanT 3 .step with evUsed := 1 } : Job) tTile, (0 : SlotIx), Carrier.mailbox, ({ tJob tPlanT 3 .step with evUsed := 1 } : Job), ⟨by repeat' (first | decide +kernel | apply And.intro | constructor), rfl, by repeat' (first | decide +kernel | apply And.intro)⟩⟩⟩

theorem test_witness_TestsAndComparison :
    (∃ (s : State) (car : _) (z : _), Served s car 0 ∧ s.check.tests = [] ∧ (s.zoneOwner z).isSome = true ∧ z < 48)
    ∧ (∃ (s : State) (car : _) (m : _), Served s car 0 ∧ s.check.tests = [] ∧ (s.engineOwner (2 * m)).isNone = true ∧ (s.engineOwner (2 * m + 1)).isNone = true ∧ m < 16)
    ∧ (∃ (s : State) (j : _) (z : ZoneIx) (kind : Fin 16), (s.job j).quietFor z.val kind.val = true ∧ s.zoneOwner z.val = some j)
    ∧ (∃ (s : State) (m : ZoneIx) (q : _), s.usable = false ∧ s.check.tests.find? (fun q => q.unit == m.val && q.kind == 6 && q.running) = some q)
    ∧ (∃ (s : State), s.tally.due.contains .wcmp = true ∧ s.check.period ≠ 0 ∧ s.link.state = csMaster ∧ (s.job (slotIx s.check.wcmpJob)).groupId ≠ 0)
    ∧ (∃ (s : State) (r : _) (device : _) (phase : Fin 3) (value : _), s.check.round = some r ∧ r.phase = phase.val ∧ r.asked.contains device = true ∧ r.answers.any (fun a => a.1 == device) = false ∧ ({ r with answers := r.answers ++ [(device, value)] } : WcmpRound).full = false)
    ∧ (∃ (s : State) (r : _) (v : _), s.check.round = some r ∧ r.phase = 2 ∧ 2 ≤ r.answers.length ∧ ((∀ a, a ∈ r.answers → a.2 = v)))
    ∧ (∃ (s : State), (s.job (slotIx s.check.wcmpJob)).state = 3) :=
  ⟨⟨tRun (tJob tPlan 3 .step) tTile, Carrier.mailbox, (0 : Nat), by repeat' (first | decide +kernel | apply And.intro | constructor)⟩,
   ⟨tOn, Carrier.mailbox, (15 : Nat), by repeat' (first | decide +kernel | apply And.intro | constructor)⟩,
   ⟨{ tRun (tJob { tPlan with quiet := [⟨0, 1, 0, 1000000⟩] } 3 .step) tTile with check := { CheckSt.reset with tests := [⟨0, 2, false, false, none⟩, ⟨0, 1, false, false, none⟩] } }, (0 : SlotIx), (0 : ZoneIx), (1 : Fin 16), by repeat' (first | decide +kernel | apply And.intro | constructor)⟩,
   ⟨{ State.reset with check := { CheckSt.reset with tests := [⟨3, 6, true, false, none⟩] } }, (3 : ZoneIx), (⟨3, 6, true, false, none⟩ : TestReq), by repeat' (first | decide +kernel | apply And.intro | constructor)⟩,
   ⟨{ tRun { tJob tPlan 3 .step with groupId := 7, members := [0, 4] } tTile with check := { CheckSt.reset with period := 5 }, link := { LinkSys.reset with state := 3 }, tally := { TallySt.reset with due := [.energy, .wcmp] } }, by repeat' (first | decide +kernel | apply And.intro | constructor)⟩,
   ⟨{ tOn with check := { CheckSt.reset with round := some (⟨2, 5, [0, 4, 6], [(0, 33)]⟩ : WcmpRound) } }, (⟨2, 5, [0, 4, 6], [(0, 33)]⟩ : WcmpRound), (4 : Nat), (2 : Fin 3), (33 : U64), by repeat' (first | decide +kernel | apply And.intro | constructor)⟩,
   ⟨{ tOn with check := { CheckSt.reset with round := some (⟨2, 5, [0, 4, 6], [(0, 33), (4, 33)]⟩ : WcmpRound) } }, (⟨2, 5, [0, 4, 6], [(0, 33), (4, 33)]⟩ : WcmpRound), (33 : U64), by repeat' (first | decide +kernel | apply And.intro | constructor)⟩,
   ⟨tRun (tJob tPlan 3 .step) tTile, by repeat' (first | decide +kernel | apply And.intro | constructor)⟩⟩

theorem test_witness_ReferenceAndStretches :
    (∃ (s : State), s.clk.refState = 1)
    ∧ (∃ (s : State), s.clk.refState = 2)
    ∧ (∃ (s : State) (t : TileIx) (port : Fin 4) (x : _) (y : _), s.Inv ∧ s.grid.hasTile t.val = true ∧ s.grid.portTo (t.val % 48) (t.val / 48) port.val = .router x y ∧ s.grid.tileZone t.val ≠ s.grid.zone x y ∧ s.crossingSlipped t.val port.val = false)
    ∧ (∃ (s : State) (t : TileIx), s.grid.hasTile t.val = false)
    ∧ (∃ (s : State) (z : ZoneIx), s.bandOn z.val = true ∧ (s.zoneClk z.val).stretch = none)
    ∧ (∃ (s : State) (z : ZoneIx) (elapsed : _) (st : _) (a : _) (n : _), s.bandOn z.val = true ∧ (s.zoneClk z.val).stretch = some st ∧ st.own = some (a, n) ∧ elapsed - a + 16 ≤ 64 ∧ n < elapsed - a + 16)
    ∧ (∃ (s : State) (z : ZoneIx) (st : _), (s.zoneClk z.val).stretch = some st ∧ 0 < st.total)
    ∧ (∃ (s : State) (z : ZoneIx) (a : _), (s.zoneClk z.val).stretch = some ⟨some (a, 64), []⟩)
    ∧ (∃ (s : State) (z : ZoneIx) (origin : ZoneIx) (seq : BitVec 4), s.bandOn z.val = true ∧ z ≠ origin ∧ (s.zoneClk z.val).stretch = none ∧ (s.zoneClk z.val).seen.any (fun c => c.origin == origin.val && c.seq == seq.toNat) = false)
    ∧ (∃ (s : State) (z : ZoneIx) (origin : ZoneIx) (seq : BitVec 4), (s.zoneClk z.val).seen.any (fun c => c.origin == origin.val && c.seq == seq.toNat) = true)
    ∧ (∃ (s : State) (z : ZoneIx) (origin : ZoneIx) (seq : BitVec 4) (len : _) (c : _) (own : _), s.bandOn z.val = true ∧ (s.zoneClk z.val).stretch = some ⟨own, [c]⟩ ∧ c.origin = origin.val ∧ c.seq = seq.toNat ∧ c.len < len) :=
  ⟨⟨{ tOn with clk := { ClkSt.reset with refState := 1 } }, by repeat' (first | decide +kernel | apply And.intro | constructor)⟩,
   ⟨{ tOn with clk := { ClkSt.reset with refState := 2 } }, by repeat' (first | decide +kernel | apply And.intro | constructor)⟩,
   ⟨{ tOn with tiles := [(3, tTile)] }, (3 : TileIx), (1 : Fin 4), (4 : Nat), (0 : Nat), by repeat' (first | decide +kernel | apply And.intro | constructor)⟩,
   ⟨State.reset, (1439 : TileIx), by repeat' (first | decide +kernel | apply And.intro | constructor)⟩,
   ⟨{ tOn with pwr := { tOn.pwr with bands := 0xFF }, clk := { ClkSt.reset with zones := Vector.replicate 48 { ZoneClk.reset with seq := 15 } } }, (47 : ZoneIx), by repeat' (first | decide +kernel | apply And.intro | constructor)⟩,
   ⟨{ tOn with pwr := { tOn.pwr with bands := 0xFF }, clk := { ClkSt.reset with zones := Vector.replicate 48 { ZoneClk.reset with seq := 15, stretch := some ⟨some (2, 16), []⟩ } } }, (47 : ZoneIx), (50 : Nat), (⟨some (2, 16), []⟩ : Stretch), (2 : Nat), (16 : Nat), by repeat' (first | decide +kernel | apply And.intro | constructor)⟩,
   ⟨{ tOn with pwr := { tOn.pwr with bands := 0xFF }, clk := { ClkSt.reset with zones := Vector.replicate 48 { ZoneClk.reset with stretch := some ⟨some (2, 16), [⟨3, 1, 4, 20⟩]⟩ } } }, (47 : ZoneIx), (⟨some (2, 16), [⟨3, 1, 4, 20⟩]⟩ : Stretch), by repeat' (first | decide +kernel | apply And.intro | constructor)⟩,
   ⟨{ tOn with pwr := { tOn.pwr with bands := 0xFF }, clk := { ClkSt.reset with zones := Vector.replicate 48 { ZoneClk.reset with stretch := some ⟨some (2, 64), []⟩ } } }, (47 : ZoneIx), (2 : Nat), by repeat' (first | decide +kernel | apply And.intro | constructor)⟩,
   ⟨{ tOn with pwr := { tOn.pwr with bands := 0xFF }, clk := { ClkSt.reset with zones := Vector.replicate 48 { ZoneClk.reset with seq := 15 } } }, (47 : ZoneIx), (0 : ZoneIx), (15 : BitVec 4), by repeat' (first | decide +kernel | apply And.intro | constructor)⟩,
   ⟨{ tOn with pwr := { tOn.pwr with bands := 0xFF }, clk := { ClkSt.reset with zones := Vector.replicate 48 { ZoneClk.reset with seen := [⟨0, 15, 0, 16⟩] } } }, (47 : ZoneIx), (0 : ZoneIx), (15 : BitVec 4), by repeat' (first | decide +kernel | apply And.intro | constructor)⟩,
   ⟨{ tOn with pwr := { tOn.pwr with bands := 0xFF }, clk := { ClkSt.reset with zones := Vector.replicate 48 { ZoneClk.reset with seen := [⟨0, 15, 3, 16⟩], stretch := some ⟨some (0, 16), [⟨0, 15, 3, 16⟩]⟩ } } }, (47 : ZoneIx), (0 : ZoneIx), (15 : BitVec 4), (17 : Nat), (⟨0, 15, 3, 16⟩ : StretchCopy), (some (0, 16) : Option (Nat × Nat)), by repeat' (first | decide +kernel | apply And.intro | constructor)⟩⟩

theorem test_witness_FrequencyAndClockObjects :
    (∃ (mhz : _), 1200 ≤ mhz)
    ∧ (∃ (s : State) (a : _), s.boot.mgmt = true ∧ s.clk.fallAt = some a ∧ s.clk.target < s.clk.freq ∧ s.clk.pending = 0 ∧ s.clk.fenceSeen = true)
    ∧ (∃ (s : State), s.clk.freq < s.clk.target ∧ s.clk.pending = 0 ∧ s.clk.upWait = none)
    ∧ (∃ (s : State) (f : _), s.boot.mgmt = true ∧ s.clk.upWait = some f ∧ s.clk.pending = 0)
    ∧ (∃ (s : State) (f : _), s.clk.upWait = some f)
    ∧ (∃ (s : State), s.tally.due.contains .freqSwitch = true ∧ s.clk.pending ≠ 0 ∧ s.clk.next = none ∧ (∀ m : Fin 16, (s.stackSt m.val).shortenDue = false))
    ∧ (∃ (s : State), s.tally.due.contains .vlogLower = true)
    ∧ (∃ (s : State) (car : _) (v : Byte), Served s car 0 ∧ s.betweenJobs = true ∧ v.toNat ≤ 1)
    ∧ (∃ (s : State) (car : _) (v : Byte), Served s car 0 ∧ s.betweenJobs = true ∧ v.toNat ≤ 1)
    ∧ (∃ (s : State) (car : _) (v : U16), Served s car 0 ∧ s.betweenJobs = true ∧ v.toNat ≤ 389)
    ∧ (∃ (s : State) (car : _) (v : U16), Served s car 0 ∧ s.betweenJobs = true ∧ v.toNat ≤ 389)
    ∧ (∃ (s : State) (car : _), Served s car 0 ∧ s.betweenJobs = false)
    ∧ (∃ (s : State) (car : _) (v : U64), Served s car 0 ∧ v.toNat < 2 ^ 48)
    ∧ (∃ (s : State) (car : _) (v : U64), Served s car 0 ∧ 2 ^ 48 ≤ v.toNat)
    ∧ (∃ (s : State) (car : _), Served s car 0 ∧ s.betweenJobs = true ∧ s.tally.state = tsDisagree ∧ 0 ≤ (s.tally.now : Int) + s.tally.offset)
    ∧ (∃ (s : State) (car : _), Served s car 0 ∧ s.anyRunning = true)
    ∧ (∃ (s : State) (car : _), Served s car 0) :=
  ⟨⟨(1200 : Nat), by repeat' (first | decide +kernel | apply And.intro | constructor)⟩,
   ⟨{ tOn with clk := { ClkSt.reset with freq := 3600, target := 2000, fallAt := some 5, fenceSeen := true } }, (5 : Nat), by repeat' (first | decide +kernel | apply And.intro | constructor)⟩,
   ⟨{ tOn with clk := { ClkSt.reset with freq := 3000, target := 3600 } }, by repeat' (first | decide +kernel | apply And.intro | constructor)⟩,
   ⟨{ tOn with clk := { ClkSt.reset with freq := 3000, target := 3600, upWait := some 3400 } }, (3400 : Nat), by repeat' (first | decide +kernel | apply And.intro | constructor)⟩,
   ⟨{ tOn with clk := { ClkSt.reset with freq := 3000, target := 3600, upWait := some 3400 } }, (3400 : Nat), by repeat' (first | decide +kernel | apply And.intro | constructor)⟩,
   ⟨{ tOn with tally := { TallySt.reset with now := 77, due := [.energy, .freqSwitch] }, clk := { ClkSt.reset with freq := 3000, pending := 3400, pendingTally := 77 } }, by repeat' (first | decide +kernel | apply And.intro | constructor)⟩,
   ⟨{ tOn with tally := { TallySt.reset with now := 77, due := [.energy, .vlogLower] }, clk := { ClkSt.reset with freq := 3000, upWait := some 3400, lowerAt := some 77 } }, by repeat' (first | decide +kernel | apply And.intro | constructor)⟩,
   ⟨tOn, Carrier.mailbox, (0 : Byte), by repeat' (first | decide +kernel | apply And.intro | constructor)⟩,
   ⟨tOn, Carrier.mailbox, (1 : Byte), by repeat' (first | decide +kernel | apply And.intro | constructor)⟩,
   ⟨tOn, Carrier.mailbox, (0 : U16), by repeat' (first | decide +kernel | apply And.intro | constructor)⟩,
   ⟨tOn, Carrier.mailbox, (389 : U16), by repeat' (first | decide +kernel | apply And.intro | constructor)⟩,
   ⟨tRun (tJob tPlanT 3 .step) tTile, Carrier.mailbox, by repeat' (first | decide +kernel | apply And.intro | constructor)⟩,
   ⟨tOn, Carrier.mailbox, (0xFFFFFFFFFFFF : U64), by repeat' (first | decide +kernel | apply And.intro | constructor)⟩,
   ⟨tOn, Carrier.mailbox, (0x1000000000000 : U64), by repeat' (first | decide +kernel | apply And.intro | constructor)⟩,
   ⟨{ tOn with tally := { TallySt.reset with now := 2 ^ 64 - 1, offset := 5, state := 5 } }, Carrier.mailbox, by repeat' (first | decide +kernel | apply And.intro | constructor)⟩,
   ⟨tRun (tJob tPlanT 3 .step) tTile, Carrier.mailbox, by repeat' (first | decide +kernel | apply And.intro | constructor)⟩,
   ⟨tOn, Carrier.mailbox, by repeat' (first | decide +kernel | apply And.intro | constructor)⟩⟩

theorem test_witness_TallyCount :
    (∃ (s : State) (highNs : _), 8 ≤ highNs ∧ s.tally.selected ≠ 2 ∧ s.tally.state = tsLocked ∧ s.tally.inUse = 1)
    ∧ (∃ (highNs : _), highNs < 8)
    ∧ (∃ (s : State), s.tally.inUse = 1 ∧ s.tally.state ≠ tsAbsent ∧ s.tally.state ≠ tsHoldover)
    ∧ (∃ (s : State), s.tally.state = tsSlewing ∧ s.tally.slewPhase = 1023 ∧ 0 < s.tally.slewLeft)
    ∧ (∃ (s : State), s.tally.state = tsSlewing ∧ s.tally.slewPhase = 1023 ∧ s.tally.slewLeft < 0)
    ∧ (∃ (s : State), s.boot.powered = true ∧ s.tally.state = tsHoldover)
    ∧ (∃ (s : State) (e : _), s.tally.selected = 1 ∧ s.tally.marked = false ∧ s.tally.epochNext = some e ∧ s.anyRunning = false)
    ∧ (∃ (s : State) (e : _), s.tally.selected = 1 ∧ s.tally.marked = true ∧ s.tally.epochNext = some e) :=
  ⟨⟨{ { tOn with clk := { ClkSt.reset with pending := 3000, pendingTally := 2 ^ 30 }, check := { CheckSt.reset with period := 7 } } with tally := { TallySt.reset with now := 2 ^ 30 - 1, state := 2, inUse := 1, selected := 1, due := [.wcmp] } }, (8 : Nat), by repeat' (first | decide +kernel | apply And.intro | constructor)⟩,
   ⟨(7 : Nat), by repeat' (first | decide +kernel | apply And.intro | constructor)⟩,
   ⟨{ tOn with tally := { TallySt.reset with now := 5, state := 2, inUse := 1 } }, by repeat' (first | decide +kernel | apply And.intro | constructor)⟩,
   ⟨{ { tOn with clk := { ClkSt.reset with pending := 3000, pendingTally := 2 ^ 30 }, check := { CheckSt.reset with period := 7 } } with tally := { TallySt.reset with now := 2 ^ 30 - 1, state := 4, inUse := 1, slewLeft := 1, slewPhase := 1023 } }, by repeat' (first | decide +kernel | apply And.intro | constructor)⟩,
   ⟨{ { tOn with clk := { ClkSt.reset with pending := 3000, pendingTally := 2 ^ 30 }, check := { CheckSt.reset with period := 7 } } with tally := { TallySt.reset with now := 2 ^ 30 - 1, state := 4, inUse := 1, slewLeft := (Int.negSucc 0), slewPhase := 1023 } }, by repeat' (first | decide +kernel | apply And.intro | constructor)⟩,
   ⟨{ { tOn with clk := { ClkSt.reset with pending := 3000, pendingTally := 2 ^ 30 }, check := { CheckSt.reset with period := 7 } } with tally := { TallySt.reset with now := 2 ^ 30 - 1, state := 3, holdoverTk := 4 } }, by repeat' (first | decide +kernel | apply And.intro | constructor)⟩,
   ⟨{ tOn with tally := { TallySt.reset with now := 5, selected := 1, epochNext := some 0xFFFFFFFFFFFF } }, (0xFFFFFFFFFFFF : Nat), by repeat' (first | decide +kernel | apply And.intro | constructor)⟩,
   ⟨{ tOn with tally := { TallySt.reset with now := 6553600, selected := 1, marked := true, epochNext := some 100, state := 2, inUse := 1 } }, (100 : Nat), by repeat' (first | decide +kernel | apply And.intro | constructor)⟩⟩

theorem test_witness_StartStages0To2 :
    (∃ (s : State), s.boot.powered = false ∧ s.pwr.powerFault = false)
    ∧ (∃ (s : State), AtStage s 0 ∧ plainStart s)
    ∧ (∃ (s : State), AtStage s 1)
    ∧ (∃ (s : State) (f0 : _) (f1 : _), AtStage s 2 ∧ (f0 || f1) = true ∧ (buildGrid s.fuses.grade (s.allEntries.filter smValid)).rows ≠ 0)
    ∧ (∃ (s : State) (f0 : _) (f1 : _) (j : _), AtStage s 2 ∧ (((f0 || f1) = false ∨ j = false))) :=
  ⟨⟨State.reset, by repeat' (first | decide +kernel | apply And.intro | constructor)⟩,
   ⟨{ State.reset with boot := { BootSt.reset with powered := true, stage := 0, outcome := 0xFF } }, by repeat' (first | decide +kernel | apply And.intro | constructor)⟩,
   ⟨{ State.reset with boot := { BootSt.reset with powered := true, stage := 1, outcome := 0xFF } }, by repeat' (first | decide +kernel | apply And.intro | constructor)⟩,
   ⟨{ State.reset with boot := { BootSt.reset with powered := true, stage := 2, outcome := 0xFF } }, false, true, by repeat' (first | decide +kernel | apply And.intro | constructor)⟩,
   ⟨{ State.reset with boot := { BootSt.reset with powered := true, stage := 2, outcome := 0xFF } }, false, false, true, by repeat' (first | decide +kernel | apply And.intro | constructor)⟩⟩

theorem test_witness_StartStages3To9 :
    (∃ (s : State), AtStage s 3)
    ∧ (∃ (s : State), AtStage s 4 ∧ plainStart s)
    ∧ (∃ (s : State), AtStage s 4)
    ∧ (∃ (s : State), AtStage s 5 ∧ s.ramp.unrepairable = [] ∧ s.ramp.grid.rows ≠ 0)
    ∧ (∃ (s : State), AtStage s 6)
    ∧ (∃ (s : State), s.boot.powered = true ∧ s.boot.s8Done = false ∧ 5 ≤ s.boot.stage ∧ s.boot.stage ≤ 8)
    ∧ (∃ (s : State), AtStage s 9 ∧ s.boot.s8Done = true)
    ∧ (∃ (s : State) (item : ItemId), s.itemOpen item.kind.val item.unit = true ∧ item.kind.val ≠ 4 ∧ item.kind.val ≠ 8)
    ∧ (∃ (s : State), s.boot.powered = true ∧ 3 ≤ s.boot.stage ∧ s.boot.stage ≤ 9) :=
  ⟨⟨{ State.reset with boot := { BootSt.reset with powered := true, stage := 3, outcome := 0xFF }, grid := buildGrid State.reset.fuses.grade [] }, by repeat' (first | decide +kernel | apply And.intro | constructor)⟩,
   ⟨{ State.reset with boot := { BootSt.reset with powered := true, stage := 4, outcome := 0xFF }, grid := buildGrid State.reset.fuses.grade [] }, by repeat' (first | decide +kernel | apply And.intro | constructor)⟩,
   ⟨{ State.reset with boot := { BootSt.reset with powered := true, stage := 4, outcome := 0xFF }, grid := buildGrid State.reset.fuses.grade [] }, by repeat' (first | decide +kernel | apply And.intro | constructor)⟩,
   ⟨{ State.reset with boot := { BootSt.reset with powered := true, stage := 5, outcome := 0xFF }, grid := buildGrid State.reset.fuses.grade [], mem := { MemSys.reset with present := 3 } }, by repeat' (first | decide +kernel | apply And.intro | constructor)⟩,
   ⟨{ State.reset with boot := { BootSt.reset with powered := true, stage := 6, outcome := 0xFF }, grid := buildGrid State.reset.fuses.grade [] }, by repeat' (first | decide +kernel | apply And.intro | constructor)⟩,
   ⟨{ State.reset with boot := { BootSt.reset with powered := true, stage := 5, outcome := 0xFF }, grid := buildGrid State.reset.fuses.grade [] }, by repeat' (first | decide +kernel | apply And.intro | constructor)⟩,
   ⟨{ State.reset with boot := { BootSt.reset with powered := true, stage := 9, outcome := 0xFF, s8Done := true, reduced := true }, grid := buildGrid State.reset.fuses.grade [] }, by repeat' (first | decide +kernel | apply And.intro | constructor)⟩,
   ⟨{ State.reset with boot := { BootSt.reset with powered := true, stage := 3, outcome := 0xFF }, grid := buildGrid State.reset.fuses.grade [] }, (⟨3, 2⟩ : ItemId), by repeat' (first | decide +kernel | apply And.intro | constructor)⟩,
   ⟨{ State.reset with boot := { BootSt.reset with powered := true, stage := 3, outcome := 0xFF }, grid := buildGrid State.reset.fuses.grade [] }, by repeat' (first | decide +kernel | apply And.intro | constructor)⟩⟩

theorem test_witness_RestartsAndPowerLoss :
    (∃ (s : State) (car : _), Served s car 0 ∧ s.betweenJobs = true)
    ∧ (∃ (s : State) (car : _), Served s car 0 ∧ s.betweenJobs = false)
    ∧ (∃ (s : State), s.boot.powered = true ∧ s.pwr.tripped = true ∧ s.pwr.tripWait = false)
    ∧ (∃ (s : State) (car : _), Served s car 0 ∧ s.pwr.tripWait = true)
    ∧ (∃ (s : State), s.tally.due.contains .lifeCommit = true) :=
  ⟨⟨tOn, Carrier.mailbox, by repeat' (first | decide +kernel | apply And.intro | constructor)⟩,
   ⟨tRun (tJob tPlanT 3 .step) tTile, Carrier.mailbox, by repeat' (first | decide +kernel | apply And.intro | constructor)⟩,
   ⟨(tReg tOn (fun p => { p with tripped := true })), by repeat' (first | decide +kernel | apply And.intro | constructor)⟩,
   ⟨(tReg tOn (fun p => { p with tripWait := true, tripped := true })), Carrier.mailbox, by repeat' (first | decide +kernel | apply And.intro | constructor)⟩,
   ⟨{ tOn with tally := { TallySt.reset with due := [.energy, .lifeCommit], now := 7 } }, by repeat' (first | decide +kernel | apply And.intro | constructor)⟩⟩

theorem test_witness_EcmetFirmware :
    (∃ (s : State), AtStage s 7 ∧ s.boot.image = none)
    ∧ (∃ (s : State) (t : TileIx) (f : _) (good : List Bool), s.Inv ∧ s.grid.hasTile t.val = true ∧ s.boot.image = some f ∧ s.zoneOn (s.grid.tileZone t.val) = true ∧ f.tileDigest = f.secDigest ∧ (good.take 3).any id = true ∧ s.boot.stage = 10)
    ∧ (∃ (s : State) (car : _), Served s car 2 ∧ s.boot.updState = 0)
    ∧ (∃ (s : State) (f : _), s.boot.updState = fuBroadcasting ∧ s.boot.staged = some f ∧ s.boot.nextChunk < 64)
    ∧ (∃ (s : State) (t : TileIx) (c : Fin 64) (f : _), s.grid.hasTile t.val = true ∧ s.boot.updState = fuBroadcasting ∧ s.boot.staged = some f ∧ c.val < s.boot.nextChunk ∧ s.boot.nextChunk ≤ 64)
    ∧ (∃ (s : State) (t : TileIx) (c : Fin 64), s.grid.hasTile t.val = true ∧ s.boot.updState = fuRepairing ∧ (s.chunksOf t.val).testBit c.val = false ∧ s.boot.stage = 10)
    ∧ (∃ (s : State) (f : _), s.boot.staged = some f ∧ s.boot.updState = fuWaiting ∧ s.betweenJobs = true ∧ s.updateTiles.all (fun t => s.boot.reported.contains t) = true)
    ∧ (∃ (s : State), s.boot.updState = fuRepairing) :=
  ⟨⟨{ State.reset with boot := { BootSt.reset with powered := true, stage := 7, outcome := 0xFF }, grid := buildGrid State.reset.fuses.grade [] }, by repeat' (first | decide +kernel | apply And.intro | constructor)⟩,
   ⟨{ (tZone (tReg tOn (fun p => { p with bands := 0xFF })) 0 { ZonePwr.reset with state := 3 }) with boot := { tOn.boot with image := some { bytes := [], version := 4, tileDigest := 8, secDigest := 8, imageDigest := 0, fnDigest := 0 } } }, (1 : TileIx), ({ bytes := [], version := 4, tileDigest := 8, secDigest := 8, imageDigest := 0, fnDigest := 0 } : FwImage), [false, false, true], by repeat' (first | decide +kernel | apply And.intro | constructor)⟩,
   ⟨tOn, Carrier.mailbox, by repeat' (first | decide +kernel | apply And.intro | constructor)⟩,
   ⟨{ tOn with boot := { tOn.boot with staged := some { bytes := [], version := 4, tileDigest := 8, secDigest := 8, imageDigest := 0, fnDigest := 0 }, updState := 2, nextChunk := 63 } }, ({ bytes := [], version := 4, tileDigest := 8, secDigest := 8, imageDigest := 0, fnDigest := 0 } : FwImage), by repeat' (first | decide +kernel | apply And.intro | constructor)⟩,
   ⟨{ (tZone (tReg tOn (fun p => { p with bands := 0xFF })) 0 { ZonePwr.reset with state := 3 }) with boot := { tOn.boot with staged := some { bytes := [], version := 4, tileDigest := 8, secDigest := 8, imageDigest := 0, fnDigest := 0 }, updState := 2, nextChunk := 64 } }, (2 : TileIx), (63 : Fin 64), ({ bytes := [], version := 4, tileDigest := 8, secDigest := 8, imageDigest := 0, fnDigest := 0 } : FwImage), by repeat' (first | decide +kernel | apply And.intro | constructor)⟩,
   ⟨{ (tZone (tReg tOn (fun p => { p with bands := 0xFF })) 0 { ZonePwr.reset with state := 3 }) with boot := { tOn.boot with staged := some { bytes := [], version := 4, tileDigest := 8, secDigest := 8, imageDigest := 0, fnDigest := 0 }, updState := 3, chunks := [(2, 5)] } }, (2 : TileIx), (1 : Fin 64), by repeat' (first | decide +kernel | apply And.intro | constructor)⟩,
   ⟨{ tOn with boot := { tOn.boot with staged := some { bytes := [], version := 4, tileDigest := 8, secDigest := 8, imageDigest := 0, fnDigest := 0 }, updState := 4 } }, ({ bytes := [], version := 4, tileDigest := 8, secDigest := 8, imageDigest := 0, fnDigest := 0 } : FwImage), by repeat' (first | decide +kernel | apply And.intro | constructor)⟩,
   ⟨{ (tZone (tReg tOn (fun p => { p with bands := 0xFF })) 0 { ZonePwr.reset with state := 3 }) with boot := { tOn.boot with staged := some { bytes := [], version := 4, tileDigest := 8, secDigest := 8, imageDigest := 0, fnDigest := 0 }, updState := 3, reported := [1, 2] } }, by repeat' (first | decide +kernel | apply And.intro | constructor)⟩⟩

theorem test_witness_RegulatorsAndSensors :
    (∃ (s : State) (d : Fin 48) (cause : Fin 6), s.regState d.val = rsInService ∧ cause ≠ 0 ∧ s.workingDies (d.val / 6) = 6 ∧ s.usable = false)
    ∧ (∃ (s : State) (d : Fin 48), s.regState d.val ≠ rsInService ∧ s.usable = false)
    ∧ (∃ (s : State) (cause : Fin 6), s.regState 50 = rsInService ∧ cause ≠ 0 ∧ (∀ j, (s.job j).holds = false))
    ∧ (∃ (s : State) (cause : Fin 6), s.regState 49 = rsInService ∧ cause ≠ 0)
    ∧ (∃ (s : State) (g : GroupIx) (mv : _), mv ≤ 900 ∧ s.pwr.overMv.testBit g.val = false)
    ∧ (∃ (s : State) (g : GroupIx) (mv : _), 900 < mv ∧ s.pwr.overTicks[g] = 999 ∧ s.pwr.overMv.testBit g.val = false)
    ∧ (∃ (s : State) (kind : Fin 3) (i : _), s.usable = false ∧ ((kind = 1 ∨ kind = 2)) ∧ i < (if kind = 1 then 768 else 384) ∧ s.pwr.failed.contains (kind.val * 4096 + i) = false ∧ ({ s with pwr := { s.pwr with failed := s.pwr.failed ++ [kind.val * 4096 + i] } } : State).sensorsBad (i / (if kind = 1 then 16 else 8)) kind.val = false) :=
  ⟨⟨(tReg ({ State.reset with boot := { BootSt.reset with powered := true, stage := 5, outcome := 0xFF }, grid := buildGrid State.reset.fuses.grade [] }) (fun p => { p with rails := true })), (47 : Fin 48), (5 : Fin 6), by repeat' (first | decide +kernel | apply And.intro | constructor)⟩,
   ⟨{ State.reset with boot := { BootSt.reset with powered := true, stage := 5, outcome := 0xFF }, grid := buildGrid State.reset.fuses.grade [] }, (47 : Fin 48), by repeat' (first | decide +kernel | apply And.intro | constructor)⟩,
   ⟨(tReg tOn (fun p => { p with rails := true })), (5 : Fin 6), by repeat' (first | decide +kernel | apply And.intro | constructor)⟩,
   ⟨(tReg tOn (fun p => { p with rails := true })), (1 : Fin 6), by repeat' (first | decide +kernel | apply And.intro | constructor)⟩,
   ⟨(tReg tOn (fun p => { p with overTicks := Vector.replicate 8 5 })), (7 : GroupIx), (900 : Nat), by repeat' (first | decide +kernel | apply And.intro | constructor)⟩,
   ⟨(tReg tOn (fun p => { p with overTicks := Vector.replicate 8 999 })), (7 : GroupIx), (901 : Nat), by repeat' (first | decide +kernel | apply And.intro | constructor)⟩,
   ⟨{ State.reset with boot := { BootSt.reset with powered := true, stage := 5, outcome := 0xFF }, grid := buildGrid State.reset.fuses.grade [] }, (1 : Fin 3), (767 : Nat), by repeat' (first | decide +kernel | apply And.intro | constructor)⟩⟩

theorem test_witness_SwitchingOn :
    (∃ (s : State) (z : ZoneIx), s.boot.mgmt = true ∧ s.zoneHeld z.val = false ∧ ((s.zoneState z.val = zsOff ∨ s.zoneState z.val = zsParked)))
    ∧ (∃ (s : State) (z : ZoneIx), s.zoneHeld z.val = true)
    ∧ (∃ (s : State) (z : ZoneIx), s.nextInGroup (z.val / 6) = some z.val ∧ s.ramping (z.val / 6) = false ∧ s.bandOn z.val = true ∧ 176 ≤ s.headroom (z.val / 6))
    ∧ (∃ (s : State) (z : ZoneIx), s.headroom (z.val / 6) < 176 ∧ s.actionOf 3 z.val ≠ raLevel1)
    ∧ (∃ (s : State) (z : ZoneIx), s.nextInGroup (z.val / 6) = some z.val ∧ s.ramping (z.val / 6) = false ∧ s.bandOn z.val = true)
    ∧ (∃ (s : State) (z : ZoneIx), s.Inv ∧ s.zoneState z.val = zsRamping ∧ (s.zonePwr z.val).parkAfter = none)
    ∧ (∃ (s : State) (z : ZoneIx), s.Inv ∧ s.zoneState z.val = zsRamping)
    ∧ (∃ (s : State) (g : GroupIx) (m : _), m ≤ s.rating g.val) :=
  ⟨⟨(tReg tOn (fun p => { p with queue := [3] })), (47 : ZoneIx), by repeat' (first | decide +kernel | apply And.intro | constructor)⟩,
   ⟨tOn, (47 : ZoneIx), by repeat' (first | decide +kernel | apply And.intro | constructor)⟩,
   ⟨(tReg tOn (fun p => { p with queue := [3, 47, 46], bands := 0x80 })), (47 : ZoneIx), by repeat' (first | decide +kernel | apply And.intro | constructor)⟩,
   ⟨tOn, (47 : ZoneIx), by repeat' (first | decide +kernel | apply And.intro | constructor)⟩,
   ⟨(tZone (tReg tOn (fun p => { p with queue := [3, 47, 46], bands := 0x80 })) 47 { ZonePwr.reset with unpark := true }), (47 : ZoneIx), by repeat' (first | decide +kernel | apply And.intro | constructor)⟩,
   ⟨{ (tZone (tReg ({ tOn with tiles := [(0, tTile), (30, tTile)] }) (fun p => { p with bands := 0xFF })) 0 { ZonePwr.reset with state := 2 }) with boot := { tOn.boot with image := some { bytes := [], version := 4, tileDigest := 8, secDigest := 8, imageDigest := 0, fnDigest := 0 } } }, (0 : ZoneIx), by repeat' (first | decide +kernel | apply And.intro | constructor)⟩,
   ⟨{ (tZone (tReg ({ tOn with tiles := [(0, tTile), (30, tTile)] }) (fun p => { p with bands := 0xFF })) 0 { ZonePwr.reset with state := 2 }) with boot := { tOn.boot with image := some { bytes := [], version := 4, tileDigest := 8, secDigest := 8, imageDigest := 0, fnDigest := 0 } } }, (0 : ZoneIx), by repeat' (first | decide +kernel | apply And.intro | constructor)⟩,
   ⟨(tReg tOn (fun p => { p with measured := Vector.replicate 8 [1,2,3,4,5,6,7,8,9,10], excess := 0 })), (7 : GroupIx), (3600 : Nat), by repeat' (first | decide +kernel | apply And.intro | constructor)⟩⟩

theorem test_witness_Parking :
    (∃ (s : State) (z : ZoneIx), s.regHeld z.val = false ∧ s.boot.mgmt = true ∧ FreeZone s z ∧ s.zoneState z.val = zsOn)
    ∧ (∃ (s : State) (z : ZoneIx), s.boot.mgmt = true ∧ FreeZone s z ∧ s.zoneState z.val = zsOn ∧ s.pwr.idleParkMs ≠ 0)
    ∧ (∃ (s : State) (z : ZoneIx), s.Inv ∧ s.zoneState z.val = zsParking ∧ s.check.tests = [])
    ∧ (∃ (s : State) (car : _) (z : ZoneIx), Served s car 0 ∧ FreeZone s z ∧ s.zoneState z.val = zsOn)
    ∧ (∃ (s : State) (car : _) (z : ZoneIx), Served s car 0 ∧ FreeZone s z ∧ s.zoneState z.val = zsParked)
    ∧ (∃ (s : State) (car : _) (m : U64) (c : Instr), Served s car 0 ∧ 2 ^ 48 ≤ m.toNat ∧ ((c = .parkRequest car m ∨ c = .unparkRequest car m))) :=
  ⟨⟨(tZone (tReg tOn (fun p => { p with bands := 0xFF })) 47 { ZonePwr.reset with state := 3 }), (47 : ZoneIx), by repeat' (first | decide +kernel | apply And.intro | constructor)⟩,
   ⟨(tZone (tReg tOn (fun p => { p with bands := 0xFF })) 47 { ZonePwr.reset with state := 3 }), (47 : ZoneIx), by repeat' (first | decide +kernel | apply And.intro | constructor)⟩,
   ⟨{ (tZone (tReg ({ tOn with tiles := [(0, tTile), (30, tTile)] }) (fun p => { p with bands := 0xFF })) 0 { ZonePwr.reset with state := 4 }) with boot := { tOn.boot with image := some { bytes := [], version := 4, tileDigest := 8, secDigest := 8, imageDigest := 0, fnDigest := 0 } } }, (0 : ZoneIx), by repeat' (first | decide +kernel | apply And.intro | constructor)⟩,
   ⟨(tZone (tReg tOn (fun p => { p with bands := 0xFF })) 47 { ZonePwr.reset with state := 3 }), Carrier.mailbox, (47 : ZoneIx), by repeat' (first | decide +kernel | apply And.intro | constructor)⟩,
   ⟨(tZone (tReg tOn (fun p => { p with bands := 0xFF })) 47 { ZonePwr.reset with state := 5 }), Carrier.mailbox, (47 : ZoneIx), by repeat' (first | decide +kernel | apply And.intro | constructor)⟩,
   ⟨tOn, Carrier.mailbox, (0x1000000000001 : U64), (Instr.unparkRequest .mailbox 0x1000000000001), by repeat' (first | decide +kernel | apply And.intro | constructor)⟩⟩

theorem test_witness_HeatAndPowerLimit :
    (∃ (s : State) (ts : List Int), ts.length = 384 ∧ s.pwr.sensors = [] ∧ s.noZoneOwned)
    ∧ (∃ (s : State) (z : ZoneIx), s.usable = false ∧ (s.zonePwr z.val).hold = hoHot ∧ (s.zonePwr z.val).temp < 1520)
    ∧ (∃ (s : State) (z : ZoneIx), 1520 ≤ (s.zonePwr z.val).temp)
    ∧ (∃ (s : State) (avg : _), s.limitInForce < avg ∧ s.clk.freq ≠ 1200)
    ∧ (∃ (s : State) (avg : _), avg ≤ s.limitInForce ∧ 93 * s.limitInForce ≤ 100 * avg)
    ∧ (∃ (s : State), s.pwr.tripped = false ∧ s.pwr.rails = true)
    ∧ (∃ (s : State), s.tally.due.contains .energy = true) :=
  ⟨⟨tOn, ((List.replicate 383 (880 : Int) ++ [1000]) : List Int), ⟨by repeat' (first | decide +kernel | apply And.intro | constructor), by repeat' (first | decide +kernel | apply And.intro | constructor), by unfold State.noZoneOwned; decide +kernel⟩⟩,
   ⟨(tZone (tReg ({ State.reset with boot := { BootSt.reset with powered := true, stage := 5, outcome := 0xFF }, grid := buildGrid State.reset.fuses.grade [] }) (fun p => { p with bands := 0xFF })) 47 { ZonePwr.reset with hold := 5, temp := 1519 }), (47 : ZoneIx), by repeat' (first | decide +kernel | apply And.intro | constructor)⟩,
   ⟨(tZone (tReg ({ State.reset with boot := { BootSt.reset with powered := true, stage := 5, outcome := 0xFF }, grid := buildGrid State.reset.fuses.grade [] }) (fun p => { p with bands := 0xFF })) 47 { ZonePwr.reset with hold := 5, temp := 1520 }), (47 : ZoneIx), by repeat' (first | decide +kernel | apply And.intro | constructor)⟩,
   ⟨{ tOn with clk := { ClkSt.reset with freq := 3000, target := 3600 } }, (7900 : Nat), by repeat' (first | decide +kernel | apply And.intro | constructor)⟩,
   ⟨tOn, (7800 : Nat), by repeat' (first | decide +kernel | apply And.intro | constructor)⟩,
   ⟨tRun (tJob tPlanT 3 .step) tTile, by repeat' (first | decide +kernel | apply And.intro | constructor)⟩,
   ⟨{ tOn with tally := { TallySt.reset with due := [.energy] } }, by repeat' (first | decide +kernel | apply And.intro | constructor)⟩⟩

theorem test_witness_PowerTokens :
    (∃ (s : State) (car : _) (v : U32), Served s car 0 ∧ s.betweenJobs = true ∧ s.holdsPool = true ∧ v ≠ 0)
    ∧ (∃ (s : State) (a : Nat) (b : Nat) (ha : Nat) (hb : Nat) (wa : Nat) (wb : Nat), s.tally.due.contains .token = true ∧ s.holdsPool = true ∧ s.pwr.token.pool ≠ 0 ∧ s.pwr.token.move = none ∧ s.pwr.token.sumOk = true ∧ holdingOf s.pwr.token.record a = ha ∧ holdingOf s.pwr.token.record b = hb ∧ wb < wa ∧ 5 * s.pwr.token.period < 100 * (wa - wb) ∧ a ≠ s.boot.deviceId ∧ 0 < min s.pwr.token.step (min (ha - s.pwr.token.floor) (s.fuses.powerLimit - hb)))
    ∧ (∃ (s : State) (seq : _), (2 * seq) ∉ s.pwr.token.applied)
    ∧ (∃ (s : State) (seq : _), (2 * seq + 1) ∉ s.pwr.token.applied)
    ∧ (∃ (s : State) (seq : _), (2 * seq) ∈ s.pwr.token.applied)
    ∧ (∃ (s : State) (m : _), s.pwr.token.move = some m ∧ s.holdsPool = true ∧ m.credited = false ∧ m.receiver ≠ s.boot.deviceId)
    ∧ (∃ (s : State) (m : _), s.pwr.token.move = some m ∧ m.tries < 2)
    ∧ (∃ (s : State) (m : _), s.pwr.token.move = some m ∧ 2 ≤ m.tries ∧ m.credited = true)
    ∧ (∃ (s : State), s.pwr.token.member = true ∧ s.link.state = csMember) :=
  ⟨⟨{ tOn with pwr := { tOn.pwr with token := { TokenSt.reset with pool := 0 } }, link := { LinkSys.reset with heard := [9, 12] } }, Carrier.mailbox, (100 : U32), by repeat' (first | decide +kernel | apply And.intro | constructor)⟩,
   ⟨{ tOn with pwr := { tOn.pwr with token := { TokenSt.reset with pool := 1000, reserve := 100, record := [(9, 300), (12, 600)], period := 1, step := 50, floor := 10, seq := 4 } }, tally := { TallySt.reset with due := [.token] }, link := { LinkSys.reset with heard := [9, 12] } }, (9 : Nat), (12 : Nat), (300 : Nat), (600 : Nat), (1000 : Nat), (2 : Nat), by repeat' (first | decide +kernel | apply And.intro | constructor)⟩,
   ⟨{ tOn with pwr := { tOn.pwr with token := { TokenSt.reset with held := 100, applied := [3] } }, link := { LinkSys.reset with heard := [9, 12] } }, (1 : Nat), by repeat' (first | decide +kernel | apply And.intro | constructor)⟩,
   ⟨{ tOn with pwr := { tOn.pwr with token := { TokenSt.reset with held := 100, applied := [2] } }, link := { LinkSys.reset with heard := [9, 12] } }, (1 : Nat), by repeat' (first | decide +kernel | apply And.intro | constructor)⟩,
   ⟨{ tOn with pwr := { tOn.pwr with token := { TokenSt.reset with held := 100, applied := [2] } }, link := { LinkSys.reset with heard := [9, 12] } }, (1 : Nat), by repeat' (first | decide +kernel | apply And.intro | constructor)⟩,
   ⟨{ tOn with pwr := { tOn.pwr with token := { TokenSt.reset with pool := 1000, reserve := 100, record := [(9, 300), (12, 600)], period := 1, step := 50, floor := 10, seq := 4, move := some (⟨5, 9, 12, 50, false, 1⟩ : TokenMove) } }, link := { LinkSys.reset with heard := [9, 12] } }, (⟨5, 9, 12, 50, false, 1⟩ : TokenMove), by repeat' (first | decide +kernel | apply And.intro | constructor)⟩,
   ⟨{ tOn with pwr := { tOn.pwr with token := { TokenSt.reset with pool := 1000, reserve := 100, record := [(9, 300), (12, 600)], period := 1, step := 50, floor := 10, seq := 4, move := some (⟨5, 9, 12, 50, false, 1⟩ : TokenMove) } }, link := { LinkSys.reset with heard := [9, 12] } }, (⟨5, 9, 12, 50, false, 1⟩ : TokenMove), by repeat' (first | decide +kernel | apply And.intro | constructor)⟩,
   ⟨{ tOn with pwr := { tOn.pwr with token := { TokenSt.reset with pool := 1000, reserve := 100, record := [(9, 300), (12, 600)], period := 1, step := 50, floor := 10, seq := 4, move := some (⟨5, 9, 12, 50, true, 2⟩ : TokenMove) } }, link := { LinkSys.reset with heard := [9, 12] } }, (⟨5, 9, 12, 50, true, 2⟩ : TokenMove), by repeat' (first | decide +kernel | apply And.intro | constructor)⟩,
   ⟨{ tOn with pwr := { tOn.pwr with token := { TokenSt.reset with member := true, held := 700, fair := 500 } }, link := { LinkSys.reset with state := csMember } }, by repeat' (first | decide +kernel | apply And.intro | constructor)⟩⟩

theorem test_witness_LinkLifecycleAndFlits :
    (∃ (s : State) (k : LinkDieIx) (w : Fin 9) (l : LinkIx), s.lambdaInUse k.val w.val = true ∧ ofDie k l ∧ (((s.linkSt l.val).state = lsUp ∨ (s.linkSt l.val).state = lsRetraining ∨ (s.linkSt l.val).state = lsTraining)))
    ∧ (∃ (s : State) (k : LinkDieIx) (w : Fin 9), s.lambdaInUse k.val w.val = false)
    ∧ (∃ (s : State) (l : LinkIx) (c : Instr), (c = .rxSignalLoss l ∨ c = .fecLockLoss l ∨ c = .linkDown l) ∧ (s.linkSt l.val).state = lsUp)
    ∧ (∃ (s : State) (l : LinkIx) (c : Instr), (c = .rxSignalLoss l ∨ c = .fecLockLoss l ∨ c = .linkDown l) ∧ (s.linkSt l.val).state ≠ lsUp)
    ∧ (∃ (s : State) (l : LinkIx), (s.linkSt l.val).state = lsUp ∧ 64 ≤ (s.linkSt l.val).replayTries)
    ∧ (∃ (s : State) (l : LinkIx), (s.linkSt l.val).state = lsRetraining ∧ (s.linkSt l.val).attempts < 2)
    ∧ (∃ (s : State) (l : LinkIx), (s.linkSt l.val).state = lsRetraining ∧ 2 ≤ (s.linkSt l.val).attempts)
    ∧ (∃ (s : State) (k : LinkDieIx) (l : LinkIx), ofDie k l ∧ (s.linkSt l.val).state = lsDark)
    ∧ (∃ (s : State) (l : LinkIx) (f : Identity) (v : _), (s.linkSt l.val).state = lsTraining ∧ linkVersions.find? (fun v => decide (f.minVer ≤ v) && decide (v ≤ f.maxVer)) = some v)
    ∧ (∃ (s : State) (l : LinkIx) (f : Identity) (v : _), (s.linkSt l.val).state = lsTraining ∧ linkVersions.find? (fun v => decide (f.minVer ≤ v) && decide (v ≤ f.maxVer)) = some v)
    ∧ (∃ (s : State) (l : LinkIx) (f : Identity), (s.linkSt l.val).state = lsTraining ∧ linkVersions.find? (fun v => decide (f.minVer ≤ v) && decide (v ≤ f.maxVer)) = none)
    ∧ (∃ (s : State) (l : LinkIx) (f : Identity), (s.linkSt l.val).state = lsTraining ∧ linkVersions.find? (fun v => decide (f.minVer ≤ v) && decide (v ≤ f.maxVer)) = none)
    ∧ (∃ (s : State) (l : LinkIx) (bytes : List Byte) (symbols : _), (s.linkSt l.val).state = lsUp ∧ bytes.length = 256 ∧ symbols ≤ 15 ∧ crc32 (bytes.take 252) = BitVec.ofNat 32 (natOfLE (bytes.drop 252)) ∧ fieldN (natOfLE (bytes.take 8)) 60 4 = 1 ∧ fieldN (natOfLE (bytes.take 8)) 46 12 = (s.linkSt l.val).expect)
    ∧ (∃ (s : State) (l : LinkIx) (bytes : List Byte) (symbols : _), (s.linkSt l.val).state = lsUp ∧ bytes.length = 256 ∧ 15 < symbols ∧ (s.linkSt l.val).discarding = false)
    ∧ (∃ (s : State) (l : LinkIx), (s.linkSt l.val).state = lsUp)
    ∧ (∃ (s : State) (l : LinkIx) (r : Nat × DataFlit) (rest : List (Nat × DataFlit)), (s.linkSt l.val).state = lsUp ∧ (s.linkSt l.val).retry = r :: rest)
    ∧ (∃ (s : State) (l : LinkIx) (a : _) (j : _), (s.linkSt l.val).state = lsUp ∧ (s.linkSt l.val).features.testBit 6 = true ∧ (s.linkSt l.val).vls.toList.map VlSt.received ≠ a ∧ s.portOwner (s.portOfLink l.val) = some j) :=
  ⟨⟨(tLink tOn 35 (fun k => { k with state := 4 })), (17 : LinkDieIx), (7 : Fin 9), (35 : LinkIx), ⟨by repeat' (first | decide +kernel | apply And.intro | constructor), Or.inr rfl, by repeat' (first | decide +kernel | apply And.intro | constructor)⟩⟩,
   ⟨tOn, (17 : LinkDieIx), (8 : Fin 9), by repeat' (first | decide +kernel | apply And.intro | constructor)⟩,
   ⟨(tLink tOn 35 (fun k => { k with state := 4, retry := [(3, ⟨0, 1, []⟩)] })), (35 : LinkIx), (Instr.linkDown 35), by repeat' (first | decide +kernel | apply And.intro | constructor)⟩,
   ⟨(tLink tOn 35 (fun k => { k with state := 5, retry := [(3, ⟨0, 1, []⟩)] })), (35 : LinkIx), (Instr.linkDown 35), by repeat' (first | decide +kernel | apply And.intro | constructor)⟩,
   ⟨(tLink tOn 35 (fun k => { k with state := 4, replayTries := 64 })), (35 : LinkIx), by repeat' (first | decide +kernel | apply And.intro | constructor)⟩,
   ⟨(tLink tOn 35 (fun k => { k with state := 5, attempts := 1 })), (35 : LinkIx), by repeat' (first | decide +kernel | apply And.intro | constructor)⟩,
   ⟨(tLink tOn 35 (fun k => { k with state := 5, attempts := 2 })), (35 : LinkIx), by repeat' (first | decide +kernel | apply And.intro | constructor)⟩,
   ⟨(tLink tOn 35 (fun k => { k with state := 1 })), (17 : LinkDieIx), (35 : LinkIx), ⟨Or.inr rfl, by repeat' (first | decide +kernel | apply And.intro | constructor)⟩⟩,
   ⟨(tLink tOn 35 (fun k => { k with state := 3 })), (35 : LinkIx), (⟨768, 512, 0xFFFFFFFF, 9, 3, 12, false⟩ : Identity), (513 : Nat), by repeat' (first | decide +kernel | apply And.intro | constructor)⟩,
   ⟨(tLink tOn 35 (fun k => { k with state := 3 })), (35 : LinkIx), (⟨256, 256, 0xFFFFFFFF, 9, 3, 12, false⟩ : Identity), (256 : Nat), by repeat' (first | decide +kernel | apply And.intro | constructor)⟩,
   ⟨(tLink tOn 35 (fun k => { k with state := 3 })), (35 : LinkIx), (⟨768, 514, 0xFFFFFFFF, 9, 3, 12, false⟩ : Identity), by repeat' (first | decide +kernel | apply And.intro | constructor)⟩,
   ⟨(tLink tOn 35 (fun k => { k with state := 3 })), (35 : LinkIx), (⟨255, 0, 0xFFFFFFFF, 9, 3, 12, false⟩ : Identity), by repeat' (first | decide +kernel | apply And.intro | constructor)⟩,
   ⟨(tLink tOn 35 (fun k => { k with state := 4, expect := 4095 })), (35 : LinkIx), (let b : List Byte := leOfNat 8 (2 ^ 60 + 4095 * 2 ^ 46) ++ List.replicate 244 0; b ++ leOfNat 4 (crc32 b).toNat), (15 : Nat), by repeat' (first | decide +kernel | apply And.intro | constructor)⟩,
   ⟨(tLink tOn 35 (fun k => { k with state := 4, expect := 4095 })), (35 : LinkIx), (List.replicate 256 0), (16 : Nat), by repeat' (first | decide +kernel | apply And.intro | constructor)⟩,
   ⟨(tLink tOn 35 (fun k => { k with state := 4, retry := [(4094, ⟨0, 1, [1]⟩), (4095, ⟨0, 2, [2]⟩), (0, ⟨0, 3, [3]⟩)] })), (35 : LinkIx), by repeat' (first | decide +kernel | apply And.intro | constructor)⟩,
   ⟨(tLink tOn 35 (fun k => { k with state := 4, retry := [(4094, ⟨0, 1, [1]⟩), (4095, ⟨0, 2, [2]⟩), (0, ⟨0, 3, [3]⟩)] })), (35 : LinkIx), ((4094, ⟨0, 1, [1]⟩) : Nat × DataFlit), ([(4095, ⟨0, 2, [2]⟩), (0, ⟨0, 3, [3]⟩)] : List (Nat × DataFlit)), by repeat' (first | decide +kernel | apply And.intro | constructor)⟩,
   ⟨(tLink (tPort (tJob tPlanT 3 .step)) 1 (fun k => { k with state := 4, features := 0x40 })), (1 : LinkIx), [1, 2, 3, 4], (0 : SlotIx), by repeat' (first | decide +kernel | apply And.intro | constructor)⟩⟩

theorem test_witness_Transfers :
    (∃ (s : State) (right : _) (row : _) (key : _) (h : _) (ls : _) (l : _) (j : _) (x : _), key = (if right then 64 else 0) + row ∧ s.link.rows = [(key, h :: ls)] ∧ s.rowLink right row = some l ∧ s.portOwner (s.portOfLink l) = some j ∧ xferOf true (lineBytes h.data) = some x ∧ x.n ≤ ls.length)
    ∧ (∃ (s : State) (right : _) (row : _) (key : _) (h : _) (ls : _) (l : _) (j : _), key = (if right then 64 else 0) + row ∧ s.link.rows = [(key, h :: ls)] ∧ s.rowLink right row = some l ∧ s.portOwner (s.portOfLink l) = some j ∧ xferOf true (lineBytes h.data) = none)
    ∧ (∃ (s : State) (p : PortIx) (reduction : _) (f : _) (rest : _) (x : _) (n : _) (j : _), (s.portSt p.val).ready.filter (fun f => f.2.vl == (if reduction then vlReduction else vlPlan)) = f :: rest ∧ flitsNeeded reduction f.2.payload = some (x, n) ∧ n ≤ rest.length + 1 ∧ x.dev = s.boot.deviceId ∧ x.y < s.grid.logicalRows ∧ s.portOwner p.val = some j)
    ∧ (∃ (s : State) (p : PortIx) (reduction : _) (f : _) (rest : _) (j : _), (s.portSt p.val).ready.filter (fun f => f.2.vl == (if reduction then vlReduction else vlPlan)) = f :: rest ∧ flitsNeeded reduction f.2.payload = none ∧ s.portOwner p.val = some j)
    ∧ (∃ (s : State) (p : PortIx), (s.portSt p.val).ready = []) :=
  ⟨⟨{ (tPort (tJob tPlanT 3 .step)) with link := { (tPort (tJob tPlanT 3 .step)).link with rows := [(2, (⟨BitVec.ofNat 512 (natOfLE (tXfer 9)), false⟩ : SwLine) :: [⟨7, false⟩, ⟨8, false⟩])] } }, false, (2 : Nat), (2 : Nat), (⟨BitVec.ofNat 512 (natOfLE (tXfer 9)), false⟩ : SwLine), ([⟨7, false⟩, ⟨8, false⟩] : List SwLine), (1 : Nat), (0 : SlotIx), (⟨1, 0, 0, 9, 0, 0, 0, 1, 0⟩ : Xfer), by repeat' (first | decide +kernel | apply And.intro | constructor)⟩,
   ⟨{ (tPort (tJob tPlanT 3 .step)) with link := { (tPort (tJob tPlanT 3 .step)).link with rows := [(2, ⟨3, false⟩ :: [⟨7, false⟩, ⟨8, false⟩])] } }, false, (2 : Nat), (2 : Nat), (⟨3, false⟩ : SwLine), ([⟨7, false⟩, ⟨8, false⟩] : List SwLine), (1 : Nat), (0 : SlotIx), by repeat' (first | decide +kernel | apply And.intro | constructor)⟩,
   ⟨{ (tPort (tJob tPlanT 3 .step)) with link := { (tPort (tJob tPlanT 3 .step)).link with ports := (tPort (tJob tPlanT 3 .step)).link.ports.set 0 { PortSt.reset with ready := [(1, ⟨0, 5, (tXfer 0 ++ List.replicate 128 0x55 ++ List.replicate 52 0)⟩)] } } }, (0 : PortIx), false, ((1, ⟨0, 5, (tXfer 0 ++ List.replicate 128 0x55 ++ List.replicate 52 0)⟩) : Nat × DataFlit), ([] : List (Nat × DataFlit)), (⟨1, 0, 0, 0, 0, 0, 0, 1, 0⟩ : Xfer), (1 : Nat), (0 : SlotIx), by repeat' (first | decide +kernel | apply And.intro | constructor)⟩,
   ⟨{ (tPort (tJob tPlanT 3 .step)) with link := { (tPort (tJob tPlanT 3 .step)).link with ports := (tPort (tJob tPlanT 3 .step)).link.ports.set 0 { PortSt.reset with ready := [(1, ⟨0, 5, []⟩)] } } }, (0 : PortIx), false, ((1, ⟨0, 5, []⟩) : Nat × DataFlit), ([] : List (Nat × DataFlit)), (0 : SlotIx), by repeat' (first | decide +kernel | apply And.intro | constructor)⟩,
   ⟨tOn, (11 : PortIx), by repeat' (first | decide +kernel | apply And.intro | constructor)⟩⟩

theorem test_witness_CascadeAndElection :
    (∃ (s : State) (l : LinkIx), s.link.state = csMaster ∧ s.tallyLinkUp l.val = true)
    ∧ (∃ (s : State) (l : LinkIx), s.link.state = csMember ∧ s.tallyLinkUp l.val = true ∧ s.link.tallyLink = none ∧ s.tally.selected = 2 ∧ s.tally.marked = true)
    ∧ (∃ (s : State), s.link.state ≠ csMember)
    ∧ (∃ (s : State), s.tally.inUse = 2 ∧ s.tally.state = tsLocked)
    ∧ (∃ (s : State) (l : LinkIx) (n : _), (s.linkSt l.val).state = lsUp ∧ s.link.masterSet = 0xFFFF ∧ n < min s.link.lowest s.boot.deviceId ∧ s.link.state ≠ csConflict)
    ∧ (∃ (s : State), s.link.state = csElecting ∧ s.noGroups ∧ s.pwr.token.pool = 0)
    ∧ (∃ (s : State), s.link.state = csMaster)
    ∧ (∃ (s : State), s.link.state = csMember ∧ s.noGroups) :=
  ⟨⟨{ (tLink tOn 35 (fun k => { k with state := 4, features := 0x7F, latencyNs := 100 })) with link := { (tLink tOn 35 (fun k => { k with state := 4, features := 0x7F, latencyNs := 100 })).link with state := csMaster } }, (35 : LinkIx), by repeat' (first | decide +kernel | apply And.intro | constructor)⟩,
   ⟨{ (tLink tOn 35 (fun k => { k with state := 4, features := 0x7F, latencyNs := 100 })) with link := { (tLink tOn 35 (fun k => { k with state := 4, features := 0x7F, latencyNs := 100 })).link with state := csMember }, tally := { TallySt.reset with selected := 2, marked := true, now := 500 } }, (35 : LinkIx), by repeat' (first | decide +kernel | apply And.intro | constructor)⟩,
   ⟨(tLink tOn 35 (fun k => { k with state := 4, features := 0x7F, latencyNs := 100 })), by repeat' (first | decide +kernel | apply And.intro | constructor)⟩,
   ⟨{ (tLink tOn 35 (fun k => { k with state := 4, features := 0x7F, latencyNs := 100 })) with link := { (tLink tOn 35 (fun k => { k with state := 4, features := 0x7F, latencyNs := 100 })).link with state := csMember, tallyLink := some 35 }, tally := { TallySt.reset with selected := 2, inUse := 2, state := 2, linkLive := true, now := 500 } }, by repeat' (first | decide +kernel | apply And.intro | constructor)⟩,
   ⟨{ { (tLink tOn 35 (fun k => { k with state := 4, features := 0x7F, latencyNs := 100 })) with link := { (tLink tOn 35 (fun k => { k with state := 4, features := 0x7F, latencyNs := 100 })).link with lowest := 12 } } with boot := { tOn.boot with deviceId := 12 } }, (35 : LinkIx), (11 : Nat), by repeat' (first | decide +kernel | apply And.intro | constructor)⟩,
   ⟨{ { (tLink tOn 35 (fun k => { k with state := 4, features := 0x7F, latencyNs := 100 })) with link := { (tLink tOn 35 (fun k => { k with state := 4, features := 0x7F, latencyNs := 100 })).link with lowest := 9, state := csElecting } } with boot := { tOn.boot with deviceId := 12 } }, ⟨by repeat' (first | decide +kernel | apply And.intro | constructor), by unfold State.noGroups; decide +kernel, by repeat' (first | decide +kernel | apply And.intro | constructor)⟩⟩,
   ⟨{ (tLink tOn 35 (fun k => { k with state := 4, features := 0x7F, latencyNs := 100 })) with link := { (tLink tOn 35 (fun k => { k with state := 4, features := 0x7F, latencyNs := 100 })).link with state := csMaster } }, by repeat' (first | decide +kernel | apply And.intro | constructor)⟩,
   ⟨{ (tLink tOn 35 (fun k => { k with state := 4, features := 0x7F, latencyNs := 100 })) with link := { (tLink tOn 35 (fun k => { k with state := 4, features := 0x7F, latencyNs := 100 })).link with state := csMember } }, ⟨by repeat' (first | decide +kernel | apply And.intro | constructor), by unfold State.noGroups; decide +kernel⟩⟩⟩

theorem test_witness_JobGroups :
    (∃ (s : State) (j : _) (device : Nat) (key : Nat), (s.job j).gathering = true ∧ (s.job j).members.contains device = true ∧ (s.job j).ready.any (fun r => r.1 == device) = false ∧ (s.job j).members.all (fun d => ((s.job j).ready ++ [(device, (s.job j).members, key)]).any (fun r => r.1 == d)) = false)
    ∧ (∃ (s : State) (j : _) (device : Nat) (key : Nat), (s.job j).gathering = true ∧ (s.job j).members.contains device = true ∧ (s.job j).ready.any (fun r => r.1 == device) = false ∧ (s.job j).members.all (fun d => ((s.job j).ready ++ [(device, (s.job j).members, key)]).any (fun r => r.1 == d)) = true ∧ key < 2 ^ 64 ∧ (∀ r, r ∈ ((s.job j).ready ++ [(device, (s.job j).members, key)]) → r.2.1 = (s.job j).members ∧ r.1 ∈ (s.job j).members ∧ r.2.2 = (s.job j).keyEff))
    ∧ (∃ (s : State) (j : _), (s.job j).gathering = true)
    ∧ (∃ (s : State) (j : _) (p : _) (d : _), InGroup s j p ∧ (s.job j).phase = .starting ∧ (s.job j).startAt = none ∧ d ∈ (s.job j).members ∧ (s.job j).ready.any (fun r => r.1 == d) = false)
    ∧ (∃ (s : State) (j : _) (r : GroupReport) (d : Nat), (s.job j).groupId ≠ 0 ∧ s.link.master = s.boot.deviceId ∧ (s.job j).reports.any (fun q => q.device == r.device) = false ∧ (s.job j).members.contains r.device = true ∧ d ∈ (s.job j).members ∧ ((s.job j).reports ++ [r]).any (fun q => q.device == d) = false)
    ∧ (∃ (s : State) (j : _) (p : _), InGroup s j p ∧ (s.job j).phase = .starting)
    ∧ (∃ (s : State) (j : _) (p : _), InGroup s j p ∧ (s.job j).phase = .step)
    ∧ (∃ (s : State) (j : _) (p : _), InGroup s j p ∧ (s.job j).phase = .group)
    ∧ (∃ (s : State) (j : _) (p : _), InGroup s j p ∧ (s.job j).phase = .group ∧ (s.job j).reports ≠ []) :=
  ⟨⟨(tRun { tJob tPlanT 3 .starting with groupId := 5, members := [0, 9], keyEff := 77 } tTile), (0 : SlotIx), (9 : Nat), (77 : Nat), by repeat' (first | decide +kernel | apply And.intro | constructor)⟩,
   ⟨(tRun { tJob tPlanT 3 .starting with groupId := 5, members := [0, 9], keyEff := 77, ready := [(0, [0, 9], 77)] } tTile), (0 : SlotIx), (9 : Nat), (77 : Nat), by repeat' (first | decide +kernel | apply And.intro | constructor)⟩,
   ⟨(tRun { tJob tPlanT 3 .starting with groupId := 5, members := [0, 9], keyEff := 77 } tTile), (0 : SlotIx), by repeat' (first | decide +kernel | apply And.intro | constructor)⟩,
   ⟨(tRun { tJob tPlanT 3 .starting with groupId := 5, members := [0, 9], keyEff := 77, ready := [(0, [0, 9], 77)] } tTile), (0 : SlotIx), tPlanT, (9 : Nat), by repeat' (first | decide +kernel | apply And.intro | constructor)⟩,
   ⟨{ (tRun { tJob tPlanT 3 .group with groupId := 5, members := [0, 9], keyEff := 77 } tTile) with link := { (tRun { tJob tPlanT 3 .group with groupId := 5, members := [0, 9], keyEff := 77 } tTile).link with master := 0 } }, (0 : SlotIx), (⟨0, 5, .proceed, [0, 0], [0, 0]⟩ : GroupReport), (9 : Nat), by repeat' (first | decide +kernel | apply And.intro | constructor)⟩,
   ⟨(tRun { tJob tPlanT 3 .starting with groupId := 5, members := [0, 9], keyEff := 77 } tTile), (0 : SlotIx), tPlanT, by repeat' (first | decide +kernel | apply And.intro | constructor)⟩,
   ⟨(tRun { tJob tPlanT 3 .step with groupId := 5, members := [0, 9], keyEff := 77, groupStop := some 4 } tTile), (0 : SlotIx), tPlanT, by repeat' (first | decide +kernel | apply And.intro | constructor)⟩,
   ⟨{ (tRun { tJob tPlanT 3 .group with groupId := 5, members := [0, 9], keyEff := 77, waitFrom := 100, waitTk := 7 } tTile) with tally := { TallySt.reset with now := 150 } }, (0 : SlotIx), tPlanT, by repeat' (first | decide +kernel | apply And.intro | constructor)⟩,
   ⟨(tRun { tJob tPlanT 3 .group with groupId := 5, members := [0, 9], keyEff := 77, reports := [⟨0, 5, .proceed, [0, 0], [0, 0]⟩] } tTile), (0 : SlotIx), tPlanT, by repeat' (first | decide +kernel | apply And.intro | constructor)⟩⟩

theorem test_witness_HostLinkAndResets :
    (∃ (s : State), s.linkOn = true ∧ s.listening = false)
    ∧ (∃ (s : State), s.configOn = true)
    ∧ (∃ (s : State), s.configOn = true)
    ∧ (∃ (s : State), s.configOn = true)
    ∧ (∃ (s : State), s.configOn = true)
    ∧ (∃ (s : State), s.linkOn = true)
    ∧ (∃ (s : State), s.host.linkUp = true)
    ∧ (∃ (s : State), s.host.perst = false)
    ∧ (∃ (s : State), s.linkOn = true)
    ∧ (∃ (s : State) (rate : _) (width : _), s.boot.powered = true ∧ 1 ≤ s.boot.stage ∧ s.host.perst = false ∧ linkSettles rate width = true)
    ∧ (∃ (s : State), s.configOn = true)
    ∧ (∃ (s : State), s.configOn = true ∧ s.host.d3hot = true)
    ∧ (∃ (s : State), s.configOn = true) :=
  ⟨⟨{ (tHost (fun h => { h with mbx := (h.mbx.set 3 ⟨1, [4], []⟩), evRoute := 5, w2Base := 64 })) with boot := { BootSt.reset with powered := true, stage := 1 } }, by repeat' (first | decide +kernel | apply And.intro | constructor)⟩,
   ⟨(tHost id), by repeat' (first | decide +kernel | apply And.intro | constructor)⟩,
   ⟨(tHost id), by repeat' (first | decide +kernel | apply And.intro | constructor)⟩,
   ⟨(tHost id), by repeat' (first | decide +kernel | apply And.intro | constructor)⟩,
   ⟨(tHost (fun h => { h with mbx := (h.mbx.set 3 ⟨1, [4], []⟩), evRoute := 5, w2Base := 0x40000000, backlog := [(1, ⟨1, 2, [], 3⟩)], d3hot := true, sessions := [⟨5, 1, 0, 3, 1400, none, [], 0, 0⟩, ⟨6, 0, 0, 3, 1400, none, [], 0, 0⟩], queue := [⟨1, 0, 5, 3, 1400, 1, [], [], false⟩] })), by repeat' (first | decide +kernel | apply And.intro | constructor)⟩,
   ⟨(tHost (fun h => { h with mbx := (h.mbx.set 3 ⟨1, [4], []⟩), evRoute := 5, w2Base := 0x40000000, backlog := [(1, ⟨1, 2, [], 3⟩)], d3hot := true, sessions := [⟨5, 1, 0, 3, 1400, none, [], 0, 0⟩, ⟨6, 0, 0, 3, 1400, none, [], 0, 0⟩], queue := [⟨1, 0, 5, 3, 1400, 1, [], [], false⟩] })), by repeat' (first | decide +kernel | apply And.intro | constructor)⟩,
   ⟨(tHost (fun h => { h with mbx := (h.mbx.set 3 ⟨1, [4], []⟩), evRoute := 5, w2Base := 0x40000000, backlog := [(1, ⟨1, 2, [], 3⟩)], d3hot := true, sessions := [⟨5, 1, 0, 3, 1400, none, [], 0, 0⟩, ⟨6, 0, 0, 3, 1400, none, [], 0, 0⟩], queue := [⟨1, 0, 5, 3, 1400, 1, [], [], false⟩] })), by repeat' (first | decide +kernel | apply And.intro | constructor)⟩,
   ⟨(tHost (fun h => { h with mbx := (h.mbx.set 3 ⟨1, [4], []⟩), evRoute := 5, w2Base := 0x40000000, backlog := [(1, ⟨1, 2, [], 3⟩)], d3hot := true, sessions := [⟨5, 1, 0, 3, 1400, none, [], 0, 0⟩, ⟨6, 0, 0, 3, 1400, none, [], 0, 0⟩], queue := [⟨1, 0, 5, 3, 1400, 1, [], [], false⟩] })), by repeat' (first | decide +kernel | apply And.intro | constructor)⟩,
   ⟨(tHost (fun h => { h with mbx := (h.mbx.set 3 ⟨1, [4], []⟩), evRoute := 5, w2Base := 0x40000000, backlog := [(1, ⟨1, 2, [], 3⟩)], d3hot := true, sessions := [⟨5, 1, 0, 3, 1400, none, [], 0, 0⟩, ⟨6, 0, 0, 3, 1400, none, [], 0, 0⟩], queue := [⟨1, 0, 5, 3, 1400, 1, [], [], false⟩] })), by repeat' (first | decide +kernel | apply And.intro | constructor)⟩,
   ⟨(tHost (fun h => { h with linkUp := false })), (2 : Nat), (4 : Nat), by repeat' (first | decide +kernel | apply And.intro | constructor)⟩,
   ⟨(tHost id), by repeat' (first | decide +kernel | apply And.intro | constructor)⟩,
   ⟨(tHost (fun h => { h with mbx := (h.mbx.set 3 ⟨1, [4], []⟩), evRoute := 5, w2Base := 0x40000000, backlog := [(1, ⟨1, 2, [], 3⟩)], d3hot := true, sessions := [⟨5, 1, 0, 3, 1400, none, [], 0, 0⟩, ⟨6, 0, 0, 3, 1400, none, [], 0, 0⟩], queue := [⟨1, 0, 5, 3, 1400, 1, [], [], false⟩] })), by repeat' (first | decide +kernel | apply And.intro | constructor)⟩,
   ⟨(tHost id), by repeat' (first | decide +kernel | apply And.intro | constructor)⟩⟩

theorem test_witness_HostRegisters :
    (∃ (s : State), s.barsOn = true)
    ∧ (∃ (s : State) (v : U64) (n : Fin 16), s.barsOn = true ∧ s.usable = true ∧ s.recovery = false ∧ v.toNat % 16 = n.val ∧ (s.host.mbx[n]).state = 0)
    ∧ (∃ (s : State) (v : U64) (n : Fin 16), s.barsOn = true ∧ s.usable = true ∧ s.recovery = false ∧ v.toNat % 16 = n.val ∧ (s.host.mbx[n]).state ≠ 0)
    ∧ (∃ (s : State), s.barsOn = true ∧ s.usable = false)
    ∧ (∃ (s : State) (n : Fin 16), (s.host.mbx[n]).state = 1 ∧ s.recovery = false ∧ parseFrame 1 (mbxFrame (s.host.mbx[n]).req) = none)
    ∧ (∃ (s : State), s.barsOn = true)
    ∧ (∃ (s : State) (q : Fin 16) (v : U64), s.barsOn = true ∧ q.val < 14 ∧ eqCtrlBad v.toNat = false ∧ (s.host.eqs[q]).enable = false ∧ noBacklog s)
    ∧ (∃ (s : State) (q : Fin 16) (v : U64), s.barsOn = true ∧ (14 ≤ q.val ∨ eqCtrlBad v.toNat = true))
    ∧ (∃ (s : State) (q : Fin 16) (v : U64), s.barsOn = true ∧ q.val < 14 ∧ v.toNat < (s.host.eqs[q]).ring ∧ v.toNat < 2 ^ 16 ∧ noBacklog s)
    ∧ (∃ (s : State) (q : Fin 16) (v : U64), s.barsOn = true ∧ (14 ≤ q.val ∨ ((s.host.eqs[q]).ring ≤ v.toNat ∧ v.toNat < 2 ^ 16)))
    ∧ (∃ (s : State), s.barsOn = true)
    ∧ (∃ (s : State) (n : Fin 16) (b : U64), s.barsOn = true ∧ (s.host.mbx[n]).req = [] ∧ b.toNat < 256)
    ∧ (∃ (s : State) (off : _) (w : _), s.barsOn = true ∧ off < 0x1000 ∧ w < 8)
    ∧ (∃ (s : State), s.linkOn = true ∧ s.barsOn = false) :=
  ⟨⟨(tHost id), by repeat' (first | decide +kernel | apply And.intro | constructor)⟩,
   ⟨(tHost id), (0xFF0F : U64), (15 : Fin 16), by repeat' (first | decide +kernel | apply And.intro | constructor)⟩,
   ⟨(tHost (tMbx 15 ⟨3, [], []⟩)), (15 : U64), (15 : Fin 16), by repeat' (first | decide +kernel | apply And.intro | constructor)⟩,
   ⟨{ (tHost (fun h => { h with mbx := (h.mbx.set 3 ⟨1, [4], []⟩), evRoute := 5, w2Base := 64 })) with boot := { BootSt.reset with powered := true, stage := 9 } }, by repeat' (first | decide +kernel | apply And.intro | constructor)⟩,
   ⟨(tHost (tMbx 15 ⟨1, [1, 2], [3]⟩)), (15 : Fin 16), by repeat' (first | decide +kernel | apply And.intro | constructor)⟩,
   ⟨(tHost (fun h => tMbx 15 ⟨3, [1, 2], [3]⟩ (tMbx 14 ⟨2, [1, 2], [3]⟩ (tMbx 1 ⟨3, [1, 2], [3]⟩ h)))), by repeat' (first | decide +kernel | apply And.intro | constructor)⟩,
   ⟨(tHost (tEq 13 { Eq_.reset with tail := 5, phase := false })), (13 : Fin 16), (0x800A3F00FFFFFFFF : U64), by repeat' (first | decide +kernel | apply And.intro | constructor)⟩,
   ⟨(tHost id), (13 : Fin 16), (0x800B000000000000 : U64), by repeat' (first | decide +kernel | apply And.intro | constructor)⟩,
   ⟨(tHost id), (13 : Fin 16), (63 : U64), by repeat' (first | decide +kernel | apply And.intro | constructor)⟩,
   ⟨(tHost id), (13 : Fin 16), (64 : U64), by repeat' (first | decide +kernel | apply And.intro | constructor)⟩,
   ⟨(tHost id), by repeat' (first | decide +kernel | apply And.intro | constructor)⟩,
   ⟨(tHost id), (15 : Fin 16), (0xFF : U64), by repeat' (first | decide +kernel | apply And.intro | constructor)⟩,
   ⟨(tHost id), (0x28 : Nat), (4 : Nat), by repeat' (first | decide +kernel | apply And.intro | constructor)⟩,
   ⟨{ (tHost (fun h => { h with mbx := (h.mbx.set 3 ⟨1, [4], []⟩), evRoute := 5, w2Base := 64 })) with boot := { BootSt.reset with powered := true, stage := 1 } }, by repeat' (first | decide +kernel | apply And.intro | constructor)⟩⟩

theorem test_witness_EventQueues :
    (∃ (s : State) (kind : Byte) (unit : U16) (data : _) (e : _), s.boot.powered = true ∧ s.recovery = false ∧ 1 ≤ kind.toNat ∧ kind.toNat ≤ 10 ∧ (∀ q ∈ s.host.sessions, q.mask.testBit kind.toNat = false) ∧ s.events.find? (fun x => x.kind == kind.toNat && x.unit == unit.toNat && x.data == data) = some e ∧ 14 ≤ s.evRouteOf kind.toNat)
    ∧ (∃ (s : State) (kind : Byte) (q : Fin 16), s.boot.powered = true ∧ s.recovery = false ∧ 1 ≤ kind.toNat ∧ kind.toNat ≤ 10 ∧ kind.toNat ≠ 6 ∧ (∀ q ∈ s.host.sessions, q.mask.testBit kind.toNat = false) ∧ s.events = [] ∧ s.evRouteOf kind.toNat = q.val ∧ q.val < 14 ∧ s.posts = false ∧ s.host.backlog.length < 256)
    ∧ (∃ (s : State) (q : Fin 16) (e : _) (l : _), s.posts = true ∧ q.val < 14 ∧ (s.host.eqs[q]).room = true ∧ (s.host.eqs[q]).dropped = 0 ∧ s.host.backlog = (q.val, e) :: l)
    ∧ (∃ (s : State), s.posts = false)
    ∧ (∃ (s : State) (q : Fin 16) (timer : Bool), s.posts = true ∧ (s.host.eqs[q]).enable = true ∧ ((if timer then (s.host.eqs[q]).time ≠ 0 ∧ (s.host.eqs[q]).unsignalled ≠ 0 else max 1 (s.host.eqs[q]).count ≤ (s.host.eqs[q]).unsignalled)))
    ∧ (∃ (s : State) (q : Fin 16) (timer : Bool), s.posts = true ∧ (s.host.eqs[q]).enable = true ∧ ((if timer then (s.host.eqs[q]).time ≠ 0 ∧ (s.host.eqs[q]).unsignalled ≠ 0 else max 1 (s.host.eqs[q]).count ≤ (s.host.eqs[q]).unsignalled)))
    ∧ (∃ (s : State), s.posts = false) :=
  ⟨⟨{ (tHost (fun h => { h with evRoute := 0xFFFFFFFFFFFFFFFF })) with events := [⟨6, 3, [1], 99⟩, ⟨5, 3, [1], 98⟩] }, (6 : Byte), (3 : U16), ([1] : List Byte), (⟨6, 3, [1], 99⟩ : Event), by repeat' (first | decide +kernel | apply And.intro | constructor)⟩,
   ⟨(tHost (fun h => { h with evRoute := 0xFFFFFDFFFFFFFFFF, busMaster := false })), (10 : Byte), (13 : Fin 16), by repeat' (first | decide +kernel | apply And.intro | constructor)⟩,
   ⟨(tHost (fun h => tEq 13 { Eq_.reset with enable := true, base := 0x1000, tail := 6, head := 4 } { h with backlog := [(13, ⟨6, 3, [1], 99⟩), (1, ⟨6, 3, [2], 99⟩)] })), (13 : Fin 16), (⟨6, 3, [1], 99⟩ : Event), ([(1, ⟨6, 3, [2], 99⟩)] : List (Nat × Event)), by repeat' (first | decide +kernel | apply And.intro | constructor)⟩,
   ⟨(tHost (fun h => { h with busMaster := false })), by repeat' (first | decide +kernel | apply And.intro | constructor)⟩,
   ⟨(tHost (fun h => tEq 13 { Eq_.reset with enable := true, base := 0x1000, tail := 5, head := 4, unsignalled := 1, time := 1 } { h with backlog := [(13, ⟨6, 3, [1], 99⟩), (1, ⟨6, 3, [2], 99⟩)] })), (13 : Fin 16), true, by repeat' (first | decide +kernel | apply And.intro | constructor)⟩,
   ⟨(tHost (fun h => tEq 13 { Eq_.reset with enable := true, base := 0x1000, tail := 5, head := 4, unsignalled := 1 } { h with backlog := [(13, ⟨6, 3, [1], 99⟩), (1, ⟨6, 3, [2], 99⟩)] })), (13 : Fin 16), false, by repeat' (first | decide +kernel | apply And.intro | constructor)⟩,
   ⟨(tHost (fun h => { h with busMaster := false })), by repeat' (first | decide +kernel | apply And.intro | constructor)⟩⟩

theorem test_witness_HostWindows :
    (∃ (s : State) (off : _) (len : _), s.barsOn = true ∧ s.bar2Beyond off len = true)
    ∧ (∃ (s : State) (off : _) (len : _), s.barsOn = true ∧ s.bar2Beyond off len = false ∧ (∀ a ∈ linesOf (s.host.w2Base.toNat + off) len, s.lineAnswers a = true) ∧ (∀ a ∈ linesOf (s.host.w2Base.toNat + off) len, s.memPoisoned a 1 = false) ∧ s.memPoisoned (s.host.w2Base.toNat + off) len = false)
    ∧ (∃ (s : State) (off : _) (len : _) (a : _), s.barsOn = true ∧ s.bar2Beyond off len = false ∧ linesOf (s.host.w2Base.toNat + off) len = [a] ∧ s.lineAnswers a = false)
    ∧ (∃ (s : State), s.barsOn = true ∧ s.bar2Refused = true)
    ∧ (∃ (s : State) (off : _) (data : List Byte), s.barsOn = true ∧ s.bar2Refused = false ∧ s.bar2Beyond off data.length = true)
    ∧ (∃ (s : State) (off : _) (data : List Byte), s.barsOn = true ∧ s.bar2Refused = false ∧ s.bar2Beyond off data.length = false ∧ data ≠ [] ∧ (s.host.w2Base.toNat + off) % 64 + data.length ≤ 64 ∧ s.lineAnswers (s.host.w2Base.toNat + off) = true)
    ∧ (∃ (s : State) (off : _) (len : _), s.barsOn = true ∧ s.recovery = false ∧ off + len ≤ 16777216)
    ∧ (∃ (s : State) (n : _) (k : _), n < s.host.traceCount ∧ s.host.traceCount ≤ traceSize ∧ s.host.trace.length = s.host.traceCount ∧ k < 32)
    ∧ (∃ (s : State) (off : _) (data : List Byte), s.barsOn = true ∧ s.recovery = false ∧ off + data.length ≤ 16777216) :=
  ⟨⟨(tHost id), (2 ^ 36 : Nat), (1 : Nat), by repeat' (first | decide +kernel | apply And.intro | constructor)⟩,
   ⟨(tHost id), (60 : Nat), (70 : Nat), by repeat' (first | decide +kernel | apply And.intro | constructor)⟩,
   ⟨{ (tHost id) with mem := { MemSys.reset with present := 1, stackSts := Vector.replicate 16 { StackSt.reset with unusable := true } } }, (64 : Nat), (64 : Nat), (64 : Nat), by repeat' (first | decide +kernel | apply And.intro | constructor)⟩,
   ⟨{ (tHost id) with fuses := { tOn.fuses with writePolicy := #v[0, 0x40, 0, 0] } }, by repeat' (first | decide +kernel | apply And.intro | constructor)⟩,
   ⟨(tHost id), (2 ^ 36 - 63 : Nat), (List.replicate 64 (7 : Byte)), by repeat' (first | decide +kernel | apply And.intro | constructor)⟩,
   ⟨(tHost id), (128 : Nat), (List.replicate 64 (7 : Byte)), by repeat' (first | decide +kernel | apply And.intro | constructor)⟩,
   ⟨(tHost id), (16777215 : Nat), (1 : Nat), by repeat' (first | decide +kernel | apply And.intro | constructor)⟩,
   ⟨(tHost (fun h => { h with traceCount := 2, trace := [List.replicate 32 1, List.replicate 32 2] })), (1 : Nat), (31 : Nat), by repeat' (first | decide +kernel | apply And.intro | constructor)⟩,
   ⟨(tHost id), (16777215 : Nat), ([7] : List Byte), by repeat' (first | decide +kernel | apply And.intro | constructor)⟩⟩

theorem test_witness_SpdmResponder :
    (∃ (s : State), DoeServed s)
    ∧ (∃ (s : State), DoeServed s ∧ s.host.spdmVersion = true)
    ∧ (∃ (s : State), DoeServed s ∧ s.host.spdmVersion = false)
    ∧ (∃ (s : State), DoeServed s ∧ s.host.spdmVersion = true ∧ s.host.spdmCaps = true)
    ∧ (∃ (s : State), DoeServed s ∧ spdmAgreed s)
    ∧ (∃ (s : State), DoeServed s ∧ (¬ spdmAgreed s))
    ∧ (∃ (s : State) (off : U16), DoeServed s ∧ spdmAgreed s ∧ off.toNat ≤ s.life.certChain.length ∧ s.life.certChain.length ≤ 4096)
    ∧ (∃ (s : State) (slot : Byte) (nonce : List Byte), DoeServed s ∧ spdmAgreed s ∧ nonce.length = 32 ∧ slot ≠ 0)
    ∧ (∃ (s : State) (nonce : List Byte), DoeServed s ∧ spdmAgreed s ∧ nonce.length = 32)
    ∧ (∃ (s : State) (k : Byte) (nonce : List Byte), DoeServed s ∧ spdmAgreed s ∧ nonce.length = 32 ∧ 1 ≤ k.toNat ∧ k.toNat ≤ 8 ∧ s.measurement k.toNat ≠ [])
    ∧ (∃ (s : State), s.doeOn = true ∧ s.boot.mgmt = true)
    ∧ (∃ (s : State), s.doeOn = true ∧ s.boot.mgmt = false)
    ∧ (∃ (s : State), s.doeOn = false) :=
  ⟨⟨(tHost id), by repeat' (first | decide +kernel | apply And.intro | constructor)⟩,
   ⟨(tHost (fun h => { h with spdmVersion := true })), by repeat' (first | decide +kernel | apply And.intro | constructor)⟩,
   ⟨(tHost id), by repeat' (first | decide +kernel | apply And.intro | constructor)⟩,
   ⟨(tHost (fun h => { h with spdmVersion := true, spdmCaps := true })), by repeat' (first | decide +kernel | apply And.intro | constructor)⟩,
   ⟨{ (tHost (fun h => { h with spdmVersion := true, spdmCaps := true, spdmAlgs := true })) with life := { State.reset.life with certChain := List.replicate 40 3 } }, by repeat' (first | decide +kernel | apply And.intro | constructor)⟩,
   ⟨(tHost (fun h => { h with spdmVersion := true })), ⟨by repeat' (first | decide +kernel | apply And.intro | constructor), fun h => absurd h.2.1 (by decide +kernel)⟩⟩,
   ⟨{ (tHost (fun h => { h with spdmVersion := true, spdmCaps := true, spdmAlgs := true })) with life := { State.reset.life with certChain := List.replicate 40 3 } }, (40 : U16), by repeat' (first | decide +kernel | apply And.intro | constructor)⟩,
   ⟨{ (tHost (fun h => { h with spdmVersion := true, spdmCaps := true, spdmAlgs := true })) with life := { State.reset.life with certChain := List.replicate 40 3 } }, (1 : Byte), (List.replicate 32 (7 : Byte)), by repeat' (first | decide +kernel | apply And.intro | constructor)⟩,
   ⟨{ (tHost (fun h => { h with spdmVersion := true, spdmCaps := true, spdmAlgs := true })) with life := { State.reset.life with certChain := List.replicate 40 3 } }, (List.replicate 32 (7 : Byte)), by repeat' (first | decide +kernel | apply And.intro | constructor)⟩,
   ⟨{ (tHost (fun h => { h with spdmVersion := true, spdmCaps := true, spdmAlgs := true })) with life := { State.reset.life with certChain := List.replicate 40 3 } }, (8 : Byte), (List.replicate 32 (7 : Byte)), by repeat' (first | decide +kernel | apply And.intro | constructor)⟩,
   ⟨(tHost id), by repeat' (first | decide +kernel | apply And.intro | constructor)⟩,
   ⟨{ (tHost id) with boot := { tOn.boot with mgmt := false } }, by repeat' (first | decide +kernel | apply And.intro | constructor)⟩,
   ⟨tOn, by repeat' (first | decide +kernel | apply And.intro | constructor)⟩⟩

theorem test_witness_EthernetAndSmbus :
    (∃ (s : State) (frame : List Byte), s.ethOn = true ∧ parseFrame 0 frame = none)
    ∧ (∃ (s : State) (origin : Nat) (frame : List Byte) (p : PFrame) (q : Session) (ops : List Op), ServesFrames s ∧ EthSession s origin p.sess q ∧ parseFrame 0 frame = some p ∧ NextRequest p q ∧ parseOps p.body.length p.body = some ops ∧ ops.length ≤ opsMax q.version ∧ 20 + (State.runOps (sessEnv 0 q) ops (s.accepted q p.seq)).2.length ≤ q.maxFrame)
    ∧ (∃ (s : State), s.ethOn = true)
    ∧ (∃ (s : State), s.ethOn = true)
    ∧ (∃ (s : State), s.ethOn = true)
    ∧ (∃ (s : State), s.ethOn = true)
    ∧ (∃ (s : State), s.boot.powered = true ∧ s.host.ethDue = true)
    ∧ (∃ (s : State), s.boot.powered = true)
    ∧ (∃ (s : State), s.carrierOn .smbus = true)
    ∧ (∃ (s : State) (frame : List Byte) (p : PFrame) (ops : List Op), ServesFrames s ∧ s.carrierOn .smbus = true ∧ frame ≠ [] ∧ frame.length ≤ 255 ∧ parseFrame 2 frame = some p ∧ p.kind = 3 ∧ p.ver = 16 ∧ p.sess = 0 ∧ parseOps p.body.length p.body = some ops ∧ ops.length ≤ 8 ∧ 16 + (State.runOps smEnv ops s.smServing).2.length ≤ 255)
    ∧ (∃ (s : State) (f : List Byte), s.carrierOn .smbus = true ∧ s.host.alertNext = false ∧ s.host.smResp = some f)
    ∧ (∃ (s : State) (e : _) (l : _), s.carrierOn .smbus = true ∧ s.host.alertNext = true ∧ s.host.alerts = e :: l)
    ∧ (∃ (s : State), s.carrierOn .smbus = true ∧ s.host.alertNext = false ∧ s.host.smResp = none)
    ∧ (∃ (s : State), s.carrierOn .smbus = true)
    ∧ (∃ (s : State), s.carrierOn .smbus = true ∧ s.host.alerts = [])
    ∧ (∃ (s : State), s.carrierOn .smbus = true ∧ s.host.alerts ≠ []) :=
  ⟨⟨(tHost id), ([] : List Byte), by repeat' (first | decide +kernel | apply And.intro | constructor)⟩,
   ⟨(tSessOn 3), 99, (tReq 3 tRead), ((parseFrame 0 (tReq 3 tRead)).getD ⟨0, 0, 0, 0, []⟩), (tSess 3), ((parseOps 8 tRead).getD []), by repeat' (first | decide +kernel | apply And.intro | constructor)⟩,
   ⟨(tHost (fun h => { h with ethAddr4 := 0xC0A80001 })), by repeat' (first | decide +kernel | apply And.intro | constructor)⟩,
   ⟨(tHost (fun h => { h with ethAddr4 := 0xC0A80001 })), by repeat' (first | decide +kernel | apply And.intro | constructor)⟩,
   ⟨(tHost id), by repeat' (first | decide +kernel | apply And.intro | constructor)⟩,
   ⟨(tHost id), by repeat' (first | decide +kernel | apply And.intro | constructor)⟩,
   ⟨(tHost (fun h => { h with ethDue := true, sessions := [tSess 3, ⟨5, 1, 0, 3, 4096, none, [], 0, 0⟩] })), by repeat' (first | decide +kernel | apply And.intro | constructor)⟩,
   ⟨(tHost id), by repeat' (first | decide +kernel | apply And.intro | constructor)⟩,
   ⟨(tHost id), by repeat' (first | decide +kernel | apply And.intro | constructor)⟩,
   ⟨(tHost id), (pennosFrame false 0 3 0 9 0 tRead), ((parseFrame 2 (pennosFrame false 0 3 0 9 0 tRead)).getD ⟨0, 0, 0, 0, []⟩), ((parseOps 8 tRead).getD []), by repeat' (first | decide +kernel | apply And.intro | constructor)⟩,
   ⟨(tHost (fun h => { h with smResp := some [1, 2] })), ([1, 2] : List Byte), by repeat' (first | decide +kernel | apply And.intro | constructor)⟩,
   ⟨(tHost (fun h => { h with alertNext := true, alerts := [⟨6, 3, [1], 99⟩, ⟨5, 3, [1], 98⟩] })), (⟨6, 3, [1], 99⟩ : Event), ([⟨5, 3, [1], 98⟩] : List Event), by repeat' (first | decide +kernel | apply And.intro | constructor)⟩,
   ⟨(tHost id), by repeat' (first | decide +kernel | apply And.intro | constructor)⟩,
   ⟨(tHost (fun h => { h with smResp := some [1, 2] })), by repeat' (first | decide +kernel | apply And.intro | constructor)⟩,
   ⟨(tHost id), by repeat' (first | decide +kernel | apply And.intro | constructor)⟩,
   ⟨(tHost (fun h => { h with alerts := [⟨6, 3, [1], 99⟩, ⟨5, 3, [1], 98⟩] })), by repeat' (first | decide +kernel | apply And.intro | constructor)⟩⟩

theorem test_witness_SessionsAndTheQueue :
    (∃ (s : State) (vs : List U16), InService s ∧ s.carrierOn .ethernet = true ∧ 1 ≤ vs.length ∧ vs.length ≤ 8 ∧ (0x0103 : U16) ∈ vs ∧ s.openCount < 16 ∧ ((∀ q ∈ s.host.sessions, q.car = 3 → 65535 < q.id)))
    ∧ (∃ (s : State) (vs : List U16), InService s ∧ s.carrierOn .ethernet = true ∧ 1 ≤ vs.length ∧ vs.length ≤ 8 ∧ ((∀ v ∈ vs, v.toNat < 0x0100 ∨ 0x0103 < v.toNat)))
    ∧ (∃ (s : State) (origin : Nat) (session : _) (q : Session), InService s ∧ s.carrierOn .ethernet = true ∧ s.sessionOf 0 origin session = some q)
    ∧ (∃ (session : _), session ≤ 65535)
    ∧ (∃ (s : State) (origin : Nat) (frame : List Byte) (p : PFrame) (q : Session) (ops : List Op), ServesFrames s ∧ s.carrierOn .ethernet = true ∧ s.sessionOf 0 origin p.sess = some q ∧ parseFrame 0 frame = some p ∧ NextRequest p q ∧ parseOps p.body.length p.body = some ops ∧ opsMax q.version < ops.length)
    ∧ (∃ (s : State) (origin : Nat) (frame : List Byte) (r : _) (l : _), InService s ∧ s.carrierOn .ethernet = true ∧ s.host.queue = r :: l ∧ r.car = 0 ∧ r.origin = origin ∧ r.frame = frame ∧ parseOps r.body.length r.body = none)
    ∧ (∃ (s : State) (r : _) (l : _) (ops : List Op), s.boot.powered = true ∧ s.host.queue = r :: l ∧ r.car = 0 ∧ parseOps r.body.length r.body = some ops)
    ∧ (∃ (s : State), s.boot.powered = true ∧ s.host.queue = [])
    ∧ (∃ (s : State), s.boot.powered = true ∧ s.boot.mgmt = true) :=
  ⟨⟨(tSessOn 3), ([0x0103, 0x0200] : List U16), by repeat' (first | decide +kernel | apply And.intro | constructor)⟩,
   ⟨(tHost id), ([0x0104, 0x0200] : List U16), ⟨by repeat' (first | decide +kernel | apply And.intro | constructor), by repeat' (first | decide +kernel | apply And.intro | constructor), by repeat' (first | decide +kernel | apply And.intro | constructor), by repeat' (first | decide +kernel | apply And.intro | constructor), by simp⟩⟩,
   ⟨(tSessOn 3), 99, (7 : Nat), (tSess 3), by repeat' (first | decide +kernel | apply And.intro | constructor)⟩,
   ⟨(7 : Nat), by repeat' (first | decide +kernel | apply And.intro | constructor)⟩,
   ⟨(tSessOn 0), 99, (tReq 0 ((List.replicate 9 tRead).flatMap id)), ((parseFrame 0 (tReq 0 ((List.replicate 9 tRead).flatMap id))).getD ⟨0, 0, 0, 0, []⟩), (tSess 0), ((parseOps 80 ((List.replicate 9 tRead).flatMap id)).getD []), by repeat' (first | decide +kernel | apply And.intro | constructor)⟩,
   ⟨{ (tSessOn 3) with host := { (tSessOn 3).host with queue := [(⟨0, 99, 7, 3, 1400, 1, [1, 2], [1, 2, 3], false⟩ : Request), (⟨0, 99, 7, 3, 1400, 1, [], [1, 2, 3], false⟩ : Request)] } }, 99, ([1, 2, 3] : List Byte), (⟨0, 99, 7, 3, 1400, 1, [1, 2], [1, 2, 3], false⟩ : Request), ([(⟨0, 99, 7, 3, 1400, 1, [], [1, 2, 3], false⟩ : Request)] : List Request), by repeat' (first | decide +kernel | apply And.intro | constructor)⟩,
   ⟨{ (tSessOn 3) with host := { (tSessOn 3).host with queue := [(⟨0, 99, 7, 3, 1400, 1, tRead, [1, 2, 3], false⟩ : Request), (⟨0, 99, 7, 3, 1400, 1, [], [1, 2, 3], false⟩ : Request)] } }, (⟨0, 99, 7, 3, 1400, 1, tRead, [1, 2, 3], false⟩ : Request), ([(⟨0, 99, 7, 3, 1400, 1, [], [1, 2, 3], false⟩ : Request)] : List Request), ((parseOps 8 tRead).getD []), by repeat' (first | decide +kernel | apply And.intro | constructor)⟩,
   ⟨(tSessOn 3), by repeat' (first | decide +kernel | apply And.intro | constructor)⟩,
   ⟨{ (tSessOn 3) with host := { (tSessOn 3).host with queue := [(⟨0, 99, 7, 3, 1400, 1, tRead, [1, 2, 3], false⟩ : Request), (⟨0, 99, 7, 3, 1400, 1, [], [1, 2, 3], false⟩ : Request)] } }, by repeat' (first | decide +kernel | apply And.intro | constructor)⟩⟩

theorem test_witness_DictionaryOperations :
    (∃ (s : State), InService s)
    ∧ (∃ (s : State) (len : U16), InService s ∧ len ≠ 8)
    ∧ (∃ (s : State) (i : U16), InService s ∧ i.toNat < 0x0100)
    ∧ (∃ (s : State), InService s)
    ∧ (∃ (s : State), Served s .smbus 0 ∧ s.betweenJobs = true ∧ s.life.frozen.contains (ck 0x4040 1) = false)
    ∧ (∃ (s : State), Served s .smbus 0 ∧ s.betweenJobs = false)
    ∧ (∃ (s : State), Served s .smbus 0)
    ∧ (∃ (s : State) (session : _) (q : Session), InService s ∧ session ≠ 0 ∧ s.session session = some q ∧ q.car = 0 ∧ 1 ≤ q.version)
    ∧ (∃ (s : State) (session : _) (q : Session), InService s ∧ session ≠ 0 ∧ s.session session = some q ∧ q.car = 0 ∧ q.version = 0)
    ∧ (∃ (s : State) (session : _) (q : Session) (off : U32) (v : List Byte), Served s .ethernet 0 ∧ session ≠ 0 ∧ s.session session = some q ∧ q.car = 0 ∧ 1 ≤ q.version ∧ s.life.frozen.contains (ck 0x0100 9) = false ∧ (overlay (s.objBytes 0x0100 0 9) off.toNat v).length ≤ 64 ∧ utf8Ok (overlay (s.objBytes 0x0100 0 9) off.toNat v) = true)
    ∧ (∃ (s : State) (session : _) (q : Session), InService s ∧ session ≠ 0 ∧ s.session session = some q ∧ q.car = 0 ∧ 2 ≤ q.version)
    ∧ (∃ (s : State) (session : _) (q : Session), Served s .ethernet 0 ∧ session ≠ 0 ∧ s.session session = some q ∧ q.car = 0 ∧ q.version = 3)
    ∧ (∃ (s : State) (t : TileIx), s.grid.hasTile t.val = true)
    ∧ (∃ (s : State) (t : TileIx), s.grid.hasTile t.val = true)
    ∧ (∃ (s : State) (e : EngineIx) (addr : U64) (count : U16) (a : _) (b : _), 1 ≤ count.toNat ∧ count.toNat ≤ 4032 ∧ addr.toNat < 2 ^ 48 ∧ s.locate addr.toNat = some (e.val / 2, a) ∧ s.locate (addr.toNat + count.toNat - 1) = some (e.val / 2, b) ∧ s.stackUsable (e.val / 2) = true)
    ∧ (∃ (s : State) (e : EngineIx) (addr : U64) (data : List Byte) (a : _) (b : _), 1 ≤ data.length ∧ data.length ≤ 4032 ∧ addr.toNat < 2 ^ 48 ∧ s.locate addr.toNat = some (e.val / 2, a) ∧ s.locate (addr.toNat + data.length - 1) = some (e.val / 2, b) ∧ s.stackUsable (e.val / 2) = true)
    ∧ (∃ (s : State) (req : U16) (st : _) (v : _) (l : _), s.host.dictReplies = (req.toNat, st, v) :: l)
    ∧ (∃ (s : State), InService s) :=
  ⟨⟨(tHost id), by repeat' (first | decide +kernel | apply And.intro | constructor)⟩,
   ⟨(tHost id), (7 : U16), by repeat' (first | decide +kernel | apply And.intro | constructor)⟩,
   ⟨(tHost id), (0xFF : U16), by repeat' (first | decide +kernel | apply And.intro | constructor)⟩,
   ⟨(tHost id), by repeat' (first | decide +kernel | apply And.intro | constructor)⟩,
   ⟨(tHost id), by repeat' (first | decide +kernel | apply And.intro | constructor)⟩,
   ⟨(tRun (tJob tPlanT 3 .step) tTile), by repeat' (first | decide +kernel | apply And.intro | constructor)⟩,
   ⟨(tHost id), by repeat' (first | decide +kernel | apply And.intro | constructor)⟩,
   ⟨(tSessOn 1), (7 : Nat), (tSess 1), by repeat' (first | decide +kernel | apply And.intro | constructor)⟩,
   ⟨(tSessOn 0), (7 : Nat), (tSess 0), by repeat' (first | decide +kernel | apply And.intro | constructor)⟩,
   ⟨(tSessOn 1), (7 : Nat), (tSess 1), (2 : U32), ([65] : List Byte), by repeat' (first | decide +kernel | apply And.intro | constructor)⟩,
   ⟨(tSessOn 2), (7 : Nat), (tSess 2), by repeat' (first | decide +kernel | apply And.intro | constructor)⟩,
   ⟨(tSessOn 3), (7 : Nat), (tSess 3), by repeat' (first | decide +kernel | apply And.intro | constructor)⟩,
   ⟨(tHost id), (1439 : TileIx), by repeat' (first | decide +kernel | apply And.intro | constructor)⟩,
   ⟨(tHost id), (1439 : TileIx), by repeat' (first | decide +kernel | apply And.intro | constructor)⟩,
   ⟨(tHost id), (0 : EngineIx), (0 : U64), (4032 : U16), (0 : Nat), (4031 : Nat), by repeat' (first | decide +kernel | apply And.intro | constructor)⟩,
   ⟨(tHost id), (1 : EngineIx), (100 : U64), ([1, 2, 0] : List Byte), (100 : Nat), (102 : Nat), by repeat' (first | decide +kernel | apply And.intro | constructor)⟩,
   ⟨(tHost (fun h => { h with dictReplies := [(9, 0, [4]), (10, 0, [5])] })), (9 : U16), (0 : Nat), ([4] : List Byte), ([(10, 0, [5])] : List (Nat × Nat × List Byte)), by repeat' (first | decide +kernel | apply And.intro | constructor)⟩,
   ⟨(tLink tOn 35 (fun k => { k with state := 4, fault := 77 })), by repeat' (first | decide +kernel | apply And.intro | constructor)⟩⟩

theorem test_witness_ProtectionCommands :
    (∃ (s : State) (car : _) (nonce : List Byte), Served s car 3 ∧ nonce.length = 32)
    ∧ (∃ (s : State) (car : _) (nonce : List Byte), Served s car 3 ∧ nonce.length < 32)
    ∧ (∃ (s : State), InService s ∧ s.prot.attestNonce.length = 32)
    ∧ (∃ (s : State) (car : _), Served s car 2 ∧ s.prot.mgmtUpdState ≠ 1 ∧ s.prot.mgmtUpdState ≠ 2)
    ∧ (∃ (s : State) (car : _), Served s car 2)
    ∧ (∃ (s : State) (off : Nat) (data : List Byte), s.listening = true ∧ s.recovery = true ∧ s.policyAllows .mailbox 2 = true ∧ off + data.length ≤ 8388608 + 256)
    ∧ (∃ (s : State) (car : _) (cmd : List Byte), Served s car 3 ∧ MaintForm cmd 1 ∧ leAt (maintArgs cmd) 0 2 < s.life.defects.length ∧ zerosAt (maintArgs cmd) 2 30 = true)
    ∧ (∃ (s : State) (car : _) (cmd : List Byte), Served s car 3 ∧ MaintForm cmd 2 ∧ s.life.overflowHeld &&& leAt (maintArgs cmd) 0 6 ≠ 0 ∧ zerosAt (maintArgs cmd) 6 26 = true)
    ∧ (∃ (s : State) (car : _) (cmd : List Byte) (r : _), Served s car 3 ∧ MaintForm cmd 3 ∧ r ∈ s.life.retry ∧ r.stage = leAt (maintArgs cmd) 0 1 ∧ r.item = leAt (maintArgs cmd) 1 1 ∧ r.unit = leAt (maintArgs cmd) 2 2 ∧ zerosAt (maintArgs cmd) 4 28 = true)
    ∧ (∃ (s : State) (car : _) (cmd : List Byte), Served s car 3 ∧ MaintForm cmd 4 ∧ ck (leAt (maintArgs cmd) 0 2) (leAt (maintArgs cmd) 2 1) ∈ s.life.frozen ∧ zerosAt (maintArgs cmd) 3 29 = true)
    ∧ (∃ (s : State) (car : _) (cmd : List Byte), Served s car 3 ∧ MaintForm cmd 5 ∧ s.fuses.rollback < leAt (maintArgs cmd) 0 1 ∧ leAt (maintArgs cmd) 0 1 ≤ 64 ∧ zerosAt (maintArgs cmd) 1 31 = true)
    ∧ (∃ (s : State) (car : _) (cmd : List Byte), Served s car 3 ∧ MaintForm cmd 6 ∧ leAt (maintArgs cmd) 0 1 < 4 ∧ leAt (maintArgs cmd) 0 1 ≠ imgField cmd 1 1 ∧ ((∃ q : Fin 4, q.val ≠ leAt (maintArgs cmd) 0 1 ∧ s.slotUsable q.val roleImage = true)) ∧ zerosAt (maintArgs cmd) 1 31 = true)
    ∧ (∃ (s : State) (car : _) (cmd : List Byte), Served s car 3 ∧ MaintForm cmd 7 ∧ s.fuses.debugLock < leAt (maintArgs cmd) 0 1 ∧ leAt (maintArgs cmd) 0 1 ≤ 3 ∧ zerosAt (maintArgs cmd) 1 31 = true) :=
  ⟨⟨tOn, Carrier.mailbox, (List.replicate 32 (7 : Byte)), by repeat' (first | decide +kernel | apply And.intro | constructor)⟩,
   ⟨tOn, Carrier.mailbox, (List.replicate 31 (7 : Byte)), by repeat' (first | decide +kernel | apply And.intro | constructor)⟩,
   ⟨{ tOn with prot := { tOn.prot with attestNonce := List.replicate 32 7 } }, by repeat' (first | decide +kernel | apply And.intro | constructor)⟩,
   ⟨tOn, Carrier.mailbox, by repeat' (first | decide +kernel | apply And.intro | constructor)⟩,
   ⟨tOn, Carrier.mailbox, by repeat' (first | decide +kernel | apply And.intro | constructor)⟩,
   ⟨{ tOn with boot := { tOn.boot with outcome := 3, mgmt := false } }, 8388863, ([1] : List Byte), by repeat' (first | decide +kernel | apply And.intro | constructor)⟩,
   ⟨{ tOn with life := { tOn.life with defects := [⟨0x10000001, 5, 0, 0, 0⟩, ⟨0x10000002, 5, 0, 0, 0⟩] } }, Carrier.mailbox, (tMaint 1 [1]), by repeat' (first | decide +kernel | apply And.intro | constructor)⟩,
   ⟨{ tOn with life := { tOn.life with overflowHeld := 5 } }, Carrier.mailbox, (tMaint 2 [4]), by repeat' (first | decide +kernel | apply And.intro | constructor)⟩,
   ⟨{ tOn with life := { tOn.life with retry := [(⟨3, 3, 7, 1, 0, 0, 0, 0⟩ : Retry)] } }, Carrier.mailbox, (tMaint 3 [3, 3, 7]), (⟨3, 3, 7, 1, 0, 0, 0, 0⟩ : Retry), by repeat' (first | decide +kernel | apply And.intro | constructor)⟩,
   ⟨{ tOn with life := { tOn.life with frozen := [ck 0x0100 9, ck 0x4040 1] } }, Carrier.mailbox, (tMaint 4 [0x40, 0x40, 1]), by repeat' (first | decide +kernel | apply And.intro | constructor)⟩,
   ⟨{ tOn with fuses := { tOn.fuses with rollback := 3 } }, Carrier.mailbox, (tMaint 5 [64]), by repeat' (first | decide +kernel | apply And.intro | constructor)⟩,
   ⟨{ tOn with fuses := { tOn.fuses with keyRoles := 0xFFFF, keyHash := #v[[1], [2], [3], [4]] } }, Carrier.mailbox, (tMaint 6 [3]), ⟨by repeat' (first | decide +kernel | apply And.intro | constructor), by repeat' (first | decide +kernel | apply And.intro | constructor), by repeat' (first | decide +kernel | apply And.intro | constructor), by repeat' (first | decide +kernel | apply And.intro | constructor), ⟨0, by decide +kernel, by decide +kernel⟩, by repeat' (first | decide +kernel | apply And.intro | constructor)⟩⟩,
   ⟨{ tOn with fuses := { tOn.fuses with debugLock := 1 } }, Carrier.mailbox, (tMaint 7 [2]), by repeat' (first | decide +kernel | apply And.intro | constructor)⟩⟩

theorem test_witness_DebugUnlock :
    (∃ (s : State) (car : _) (v : Byte), Served s car 3 ∧ (v = 1 ∨ v = 2))
    ∧ (∃ (s : State) (car : _) (v : Byte), Served s car 3 ∧ v ≠ 1 ∧ v ≠ 2)
    ∧ (∃ (s : State), InService s ∧ s.prot.dbgFails < 8)
    ∧ (∃ (s : State), InService s ∧ 8 ≤ s.prot.dbgFails)
    ∧ (∃ (s : State) (car : _) (resp : List Byte), Served s car 3 ∧ resp.length = 72)
    ∧ (∃ (s : State), s.prot.challenge = none)
    ∧ (∃ (s : State) (car : _), Served s car 3)
    ∧ (∃ (s : State), s.carrierOn .debug = true) :=
  ⟨⟨tOn, Carrier.mailbox, (2 : Byte), ⟨by repeat' (first | decide +kernel | apply And.intro | constructor), Or.inr rfl⟩⟩,
   ⟨tOn, Carrier.mailbox, (3 : Byte), by repeat' (first | decide +kernel | apply And.intro | constructor)⟩,
   ⟨{ tOn with prot := { tOn.prot with dbgFails := 7, dbgWanted := 2 } }, by repeat' (first | decide +kernel | apply And.intro | constructor)⟩,
   ⟨{ tOn with prot := { tOn.prot with dbgFails := 8 } }, by repeat' (first | decide +kernel | apply And.intro | constructor)⟩,
   ⟨{ tOn with prot := { tOn.prot with challenge := some (List.replicate 32 2), dbgFails := 2 } }, Carrier.mailbox, (List.replicate 72 (0 : Byte)), by repeat' (first | decide +kernel | apply And.intro | constructor)⟩,
   ⟨tOn, by repeat' (first | decide +kernel | apply And.intro | constructor)⟩,
   ⟨{ tOn with prot := { tOn.prot with challenge := some (List.replicate 32 2), dbgGranted := 2 } }, Carrier.mailbox, by repeat' (first | decide +kernel | apply And.intro | constructor)⟩,
   ⟨(tHost (fun h => { h with sessions := [⟨65536, 3, 0, 3, 4096, some 7, [], 0, 0⟩] })), by repeat' (first | decide +kernel | apply And.intro | constructor)⟩⟩

theorem test_witness_DebugCommands :
    (∃ (s : State) (j : _) (ahead : _), DbgServed s 1 ∧ 1 ≤ ahead ∧ runsFree s j)
    ∧ (∃ (s : State), DbgServed s 1)
    ∧ (∃ (s : State) (j : _), DbgServed s 1 ∧ (s.job j).running = false)
    ∧ (∃ (s : State) (j : _), DbgServed s 1 ∧ runsHalted s j)
    ∧ (∃ (s : State) (j : _), DbgServed s 1 ∧ runsFree s j)
    ∧ (∃ (s : State) (j : SlotIx) (h : _), runsFree s j ∧ s.prot.halts[j] = some h ∧ h.cause < 256 ∧ s.haltInStep j = true ∧ s.stepPending j = false)
    ∧ (∃ (s : State) (j : SlotIx), s.prot.halts[j] = none)
    ∧ (∃ (s : State) (j : _), DbgServed s 1 ∧ runsHalted s j)
    ∧ (∃ (s : State) (j : _), DbgServed s 1 ∧ runsFree s j)
    ∧ (∃ (s : State) (j : _) (n : _), DbgServed s 1 ∧ runsHalted s j ∧ 1 ≤ n ∧ n ≤ 2 ^ 20)
    ∧ (∃ (s : State) (j : _) (i : CoreAt), DbgServed s 1 ∧ runsHalted s j ∧ s.grid.hasTile i.tile.val = true)
    ∧ (∃ (s : State) (i : CoreAt), DbgServed s 1 ∧ s.Inv ∧ s.grid.hasTile i.tile.val = true)
    ∧ (∃ (s : State) (t : TileIx) (p : _) (len : _) (kind : BitVec 2), DbgServed s 1 ∧ s.Inv ∧ s.grid.hasTile t.val = true ∧ 1 ≤ len ∧ len ≤ 2 ^ 22 ∧ p < 2 ^ 22 ∧ kind ≠ 3)
    ∧ (∃ (s : State), DbgServed s 1 ∧ s.Inv)
    ∧ (∃ (s : State) (i : CoreAt), DbgServed s 1 ∧ StillTile s i.tile)
    ∧ (∃ (s : State) (i : CoreAt), DbgServed s 1 ∧ StillTile s i.tile)
    ∧ (∃ (s : State) (i : CoreAt), DbgServed s 1 ∧ s.grid.hasTile i.tile.val = true ∧ s.dbgStill i.tile.val = false)
    ∧ (∃ (s : State) (i : CoreAt), DbgServed s 2 ∧ StillTile s i.tile)
    ∧ (∃ (s : State) (i : CoreAt), DbgServed s 2 ∧ StillTile s i.tile)
    ∧ (∃ (s : State) (t : TileIx) (p : _) (len : _), DbgServed s 1 ∧ StillTile s t ∧ len ≤ 4032 ∧ p + len ≤ 2 ^ 22)
    ∧ (∃ (s : State) (t : TileIx) (p : _) (data : List Byte), DbgServed s 2 ∧ StillTile s t ∧ (s.tile t.val).sp.wf = true ∧ data.length ≤ 4032 ∧ p + data.length ≤ 2 ^ 22)
    ∧ (∃ (s : State) (addr : _) (len : _), DbgServed s 1 ∧ len ≤ 4032 ∧ addr + len ≤ s.memCapacity)
    ∧ (∃ (s : State) (addr : _) (len : _), DbgServed s 1 ∧ s.memCapacity < addr + len)
    ∧ (∃ (s : State) (addr : _) (data : List Byte), DbgServed s 2 ∧ data.length ≤ 4032 ∧ addr + data.length ≤ s.memCapacity)
    ∧ (∃ (s : State) (t : TileIx), DbgServed s 1 ∧ StillTile s t) :=
  ⟨⟨(tDbg 1 false), (0 : SlotIx), (1 : Nat), by repeat' (first | decide +kernel | apply And.intro | constructor)⟩,
   ⟨(tDbg 1 false), by repeat' (first | decide +kernel | apply And.intro | constructor)⟩,
   ⟨(tDbg 1 false), (7 : SlotIx), by repeat' (first | decide +kernel | apply And.intro | constructor)⟩,
   ⟨(tDbg 1 true), (0 : SlotIx), by repeat' (first | decide +kernel | apply And.intro | constructor)⟩,
   ⟨(tDbg 1 false), (0 : SlotIx), by repeat' (first | decide +kernel | apply And.intro | constructor)⟩,
   ⟨{ (tDbg 1 false) with prot := { (tDbg 1 false).prot with halts := (tDbg 1 false).prot.halts.set 0 (some ⟨9, 499, 255, false⟩) } }, (0 : SlotIx), (⟨9, 499, 255, false⟩ : HaltReq), by repeat' (first | decide +kernel | apply And.intro | constructor)⟩,
   ⟨(tDbg 1 false), (0 : SlotIx), by repeat' (first | decide +kernel | apply And.intro | constructor)⟩,
   ⟨(tDbg 1 true), (0 : SlotIx), by repeat' (first | decide +kernel | apply And.intro | constructor)⟩,
   ⟨(tDbg 1 false), (0 : SlotIx), by repeat' (first | decide +kernel | apply And.intro | constructor)⟩,
   ⟨(tDbg 1 true), (0 : SlotIx), (2 ^ 20 : Nat), by repeat' (first | decide +kernel | apply And.intro | constructor)⟩,
   ⟨(tDbg 1 true), (0 : SlotIx), (⟨0, 3⟩ : CoreAt), by repeat' (first | decide +kernel | apply And.intro | constructor)⟩,
   ⟨(tDbg 1 true), (⟨0, 3⟩ : CoreAt), by repeat' (first | decide +kernel | apply And.intro | constructor)⟩,
   ⟨(tDbg 1 true), (1439 : TileIx), (2 ^ 22 - 1 : Nat), (2 ^ 22 : Nat), (1 : BitVec 2), by repeat' (first | decide +kernel | apply And.intro | constructor)⟩,
   ⟨(tDbg 1 true), by repeat' (first | decide +kernel | apply And.intro | constructor)⟩,
   ⟨(tDbg 1 true), (⟨0, 3⟩ : CoreAt), by repeat' (first | decide +kernel | apply And.intro | constructor)⟩,
   ⟨(tDbg 1 true), (⟨1439, 0⟩ : CoreAt), by repeat' (first | decide +kernel | apply And.intro | constructor)⟩,
   ⟨(tDbg 1 false), (⟨0, 3⟩ : CoreAt), by repeat' (first | decide +kernel | apply And.intro | constructor)⟩,
   ⟨(tDbg 2 true), (⟨0, 3⟩ : CoreAt), by repeat' (first | decide +kernel | apply And.intro | constructor)⟩,
   ⟨(tDbg 2 true), (⟨0, 3⟩ : CoreAt), by repeat' (first | decide +kernel | apply And.intro | constructor)⟩,
   ⟨(tDbg 1 true), (0 : TileIx), (2 ^ 22 - 4032 : Nat), (4032 : Nat), by repeat' (first | decide +kernel | apply And.intro | constructor)⟩,
   ⟨(tDbg 2 true), (0 : TileIx), (2 ^ 22 - 3 : Nat), ([1, 0, 3] : List Byte), by repeat' (first | decide +kernel | apply And.intro | constructor)⟩,
   ⟨(tDbg 1 true), (0 : Nat), (4032 : Nat), by repeat' (first | decide +kernel | apply And.intro | constructor)⟩,
   ⟨(tDbg 1 true), (2 ^ 40 : Nat), (0 : Nat), by repeat' (first | decide +kernel | apply And.intro | constructor)⟩,
   ⟨(tDbg 2 true), (100 : Nat), ([1, 2, 0] : List Byte), by repeat' (first | decide +kernel | apply And.intro | constructor)⟩,
   ⟨(tDbg 1 true), (0 : TileIx), by repeat' (first | decide +kernel | apply And.intro | constructor)⟩⟩

theorem test_witness_JtagInstructions :
    (∃ (s : State), s.boot.powered = true)
    ∧ (∃ (s : State), s.boot.powered = true)
    ∧ (∃ (s : State), s.boot.powered = true)
    ∧ (∃ (s : State), DbgServed s 1)
    ∧ (∃ (s : State), DbgServed s 1)
    ∧ (∃ (s : State), DbgServed s 1)
    ∧ (∃ (s : State) (frame : List Byte), DbgServed s 1 ∧ s.carrierOn .debug = true ∧ s.boot.mgmt = true ∧ parseFrame 3 frame = none)
    ∧ (∃ (s : State), s.boot.powered = true ∧ s.level = 0)
    ∧ (∃ (s : State), s.boot.powered = true) :=
  ⟨⟨tOn, by repeat' (first | decide +kernel | apply And.intro | constructor)⟩,
   ⟨tOn, by repeat' (first | decide +kernel | apply And.intro | constructor)⟩,
   ⟨tOn, by repeat' (first | decide +kernel | apply And.intro | constructor)⟩,
   ⟨(tDbg 1 true), by repeat' (first | decide +kernel | apply And.intro | constructor)⟩,
   ⟨(tDbg 1 true), by repeat' (first | decide +kernel | apply And.intro | constructor)⟩,
   ⟨(tDbg 1 true), by repeat' (first | decide +kernel | apply And.intro | constructor)⟩,
   ⟨(tDbg 1 true), ([] : List Byte), by repeat' (first | decide +kernel | apply And.intro | constructor)⟩,
   ⟨tOn, by repeat' (first | decide +kernel | apply And.intro | constructor)⟩,
   ⟨tOn, by repeat' (first | decide +kernel | apply And.intro | constructor)⟩⟩

theorem test_witness_WritesAndDebugAreGated :
    (∃ (s : State) (c : Carrier), InService s ∧ s.policyAllows c 1 = false)
    ∧ (∃ (s : State), s.boot.powered = true ∧ s.boot.mgmt = false ∧ s.boot.stage = 10)
    ∧ (∃ (s : State), s.boot.powered = true ∧ s.boot.stage < 10)
    ∧ (∃ (s : State), s.boot.powered = true ∧ s.level < 1)
    ∧ (∃ (c : List Byte), imgField c 0 1 = 7) :=
  ⟨⟨{ tOn with fuses := { tOn.fuses with writePolicy := #v[0, 0, 0, 0] } }, .mailbox, by repeat' (first | decide +kernel | apply And.intro | constructor)⟩,
   ⟨{ tOn with boot := { tOn.boot with mgmt := false } }, by repeat' (first | decide +kernel | apply And.intro | constructor)⟩,
   ⟨{ State.reset with boot := { BootSt.reset with powered := true, stage := 5 } }, by repeat' (first | decide +kernel | apply And.intro | constructor)⟩,
   ⟨tOn, by repeat' (first | decide +kernel | apply And.intro | constructor)⟩,
   ⟨tMaint 7 [], by repeat' (first | decide +kernel | apply And.intro | constructor)⟩⟩

theorem test_witness_CommandsComplete :
    (∃ (c : Instr) (s : State), 30 ≤ s.grid.logicalRows ∧ s.pending = [c])
    ∧ (∃ (s : State) (f : Fault), execCrossingSlip 1439 1 s = .fault f ∧ s.grid.hasTile 1439 = false) :=
  ⟨⟨.bypass, { tOn with pending := [.bypass] }, by repeat' (first | decide +kernel | apply And.intro | constructor)⟩,
   ⟨State.reset, .noSuchTile, rfl, by decide +kernel⟩⟩

theorem test_witness_CanonicalFormIsKept :
    (∃ (s : State) (u : State), s.Inv ∧ s.SpInv ∧ s.fuses.legal ∧ step s = .next u) :=
  ⟨{ State.reset with pending := [.coldStart] }, _, ⟨by decide +kernel, by decide +kernel⟩, fun T => rfl, ⟨by decide +kernel, by decide +kernel⟩, rfl⟩

end Sys2Proof.Machine
end

section
namespace Sys2Proof.Machine

/-! ## The machine right after a reset -/

/-- After a reset every job slot is EMPTY (R238). -/
theorem State.reset_job (j : SlotIx) : State.reset.job j = Job.reset := by
  simp [State.job, State.reset]

/-- An event route after a reset: a nibble of 64 one bits (R409). -/
theorem State.reset_evRouteOf (kind : Nat) : State.reset.evRouteOf kind = 15 := by
  have nibbles : ∀ r, r < 16 → fieldN 0xFFFFFFFFFFFFFFFF (4 * r) 4 = 15 := by decide
  exact nibbles (kind % 16) (Nat.mod_lt _ (by decide))

/-- After a reset every vector is masked (R414). -/
theorem State.reset_msixMasked : ∀ v, v < 64 → State.reset.msixMasked v = true := by
  decide

theorem State.reset_inv : State.reset.Inv := ⟨rfl, rfl⟩

theorem State.reset_spInv : State.reset.SpInv := fun _ => rfl

theorem Fuses.reset_legal : State.reset.fuses.legal := by
  simp [Fuses.legal, State.reset, Fuses.reset]

/-- Settles O57: the reset state holds no tile, no counter and no event, and what it answers for a slot, a route, a vector or a mailbox is the reset
value of each. -/
theorem resetState : Obligations.ResetState := by
  unfold Obligations.ResetState
  refine ⟨rfl, fun j => ?_, rfl, rfl, rfl, rfl, rfl, fun n => ?_, State.reset_evRouteOf, State.reset_msixMasked, rfl, rfl, rfl,
    State.reset_inv, State.reset_spInv, Fuses.reset_legal⟩
  · rw [State.reset_job]
    rfl
  · simp [State.reset, HostSt.reset]

end Sys2Proof.Machine
end

section
namespace Sys2Proof.Machine

/-! # What every step keeps -/

section

-- one proof at a time: each that waits for an unfolding holds a thread
set_option Elab.async false

/-- A later state keeps what an earlier one had: the queue is the same, legal fuses stay legal and only grow, and device memory and the tiles stay in
canonical form. -/
structure Keeps (s u : State) : Prop where
  queue : u.pending = s.pending
  fuses : s.fuses.legal → FusesGrow s.fuses u.fuses ∧ u.fuses.legal
  data : s.mem.data.wf = true → u.mem.data.wf = true
  tiles : SMap.wf Tile.reset s.tiles = true → SMap.wf Tile.reset u.tiles = true

/-- The same of what a command answers; a fault leaves no state. -/
def ResKeeps (s : State) (r : Res) : Prop := ∀ u, r = .next u → Keeps s u

theorem FusesGrow.refl (f : Fuses) : FusesGrow f f := ⟨Nat.le_refl _, Nat.or_self _, BitVec.or_self, rfl⟩

theorem FusesGrow.trans {f g k : Fuses} (h : FusesGrow f g) (h' : FusesGrow g k) : FusesGrow f k where
  rollback := Nat.le_trans h.rollback h'.rollback
  lock := by rw [← h'.lock, ← Nat.or_assoc, h.lock]
  revoked := by rw [← h'.revoked, ← BitVec.or_assoc, h.revoked]
  fixed := by
    have hfg := h.fixed
    rw [← h'.fixed] at hfg
    exact hfg

variable {s u : State}

theorem Keeps.refl (s : State) : Keeps s s := ⟨rfl, fun h => ⟨.refl _, h⟩, id, id⟩

/-! ## What an update of the state's own fields keeps -/

section
variable {life : Life} {boot : BootSt} {grid : Grid} {mem : MemSys} {jobs : Vector Job 8} {check : CheckSt} {clk : ClkSt} {tally : TallySt} {pwr : PwrSt}
  {link : LinkSys} {host : HostSt} {prot : ProtSt} {ctr tctr : SMap Nat} {events : List Event} {out : List Out} {draws : Nat}

/-- An update of the bytes of device memory, and of fields that are not spoken of. -/
theorem Keeps.stored (h : Keeps s u) (data : u.mem.data.wf = true → mem.data.wf = true) :
    Keeps s ⟨u.pending, u.fuses, life, boot, grid, u.tiles, mem, jobs, check, clk, tally, pwr, link, host, prot, ctr, tctr, events, out, draws⟩ :=
  ⟨h.queue, h.fuses, data ∘ h.data, h.tiles⟩

/-- An update of fields that are not spoken of. -/
theorem Keeps.frame (h : Keeps s u) (data : mem.data = u.mem.data := by rfl) :
    Keeps s ⟨u.pending, u.fuses, life, boot, grid, u.tiles, mem, jobs, check, clk, tally, pwr, link, host, prot, ctr, tctr, events, out, draws⟩ :=
  h.stored fun hu => data ▸ hu

/-- Every tile loses its state. -/
theorem Keeps.cleared (h : Keeps s u) (data : mem.data = u.mem.data := by rfl) :
    Keeps s ⟨u.pending, u.fuses, life, boot, grid, [], mem, jobs, check, clk, tally, pwr, link, host, prot, ctr, tctr, events, out, draws⟩ :=
  ⟨h.queue, h.fuses, fun hs => data ▸ h.data hs, fun _ => SMap.wf_nil Tile.reset⟩

/-- An update of the fuses. -/
theorem Keeps.fused {fuses : Fuses} (h : Keeps s u) (grow : u.fuses.legal → FusesGrow u.fuses fuses ∧ fuses.legal)
    (data : mem.data = u.mem.data := by rfl) :
    Keeps s ⟨u.pending, fuses, life, boot, grid, u.tiles, mem, jobs, check, clk, tally, pwr, link, host, prot, ctr, tctr, events, out, draws⟩ where
  queue := h.queue
  fuses hs :=
    have ⟨before, legal⟩ := h.fuses hs
    ⟨before.trans (grow legal).1, (grow legal).2⟩
  data hs := data ▸ h.data hs
  tiles := h.tiles

end

/-! ## Branches and loops -/

theorem Keeps.ite {a b : State} {c : Prop} {dec : Decidable c} (ha : Keeps s a) (hb : Keeps s b) : Keeps s (if c then a else b) := by
  split
  · exact ha
  · exact hb

theorem Keeps.iteFst {α : Type} {a b : State × α} {c : Prop} {dec : Decidable c} (ha : Keeps s a.1) (hb : Keeps s b.1) :
    Keeps s (if c then a else b).1 := by
  split
  · exact ha
  · exact hb

theorem Keeps.iteSnd {α : Type} {a b : α × State} {c : Prop} {dec : Decidable c} (ha : Keeps s a.2) (hb : Keeps s b.2) :
    Keeps s (if c then a else b).2 := by
  split
  · exact ha
  · exact hb

/-- A choice between two writers. -/
theorem Keeps.iteWriter {a b : Writer} {c : Prop} {dec : Decidable c} (ha : Keeps s (a u).1) (hb : Keeps s (b u).1) :
    Keeps s ((if c then a else b) u).1 := by
  split
  · exact ha
  · exact hb

theorem Keeps.fst {α : Type} {x : α} (h : Keeps s u) : Keeps s (u, x).1 := h

theorem Keeps.foldl {α : Type} {f : State → α → State} {l : List α} (hf : ∀ v a, Keeps s v → Keeps s (f v a)) (h : Keeps s u) :
    Keeps s (l.foldl f u) := by
  induction l generalizing u with
  | nil => exact h
  | cons a l ih => exact ih (hf u a h)

theorem ResKeeps.next (h : Keeps s u) : ResKeeps s (.next u) := fun _ e => by cases e; exact h

theorem ResKeeps.fault {f : Fault} : ResKeeps s (.fault f) := fun _ e => nomatch e

theorem ResKeeps.ite {a b : Res} {c : Prop} {dec : Decidable c} (ha : ResKeeps s a) (hb : ResKeeps s b) : ResKeeps s (if c then a else b) := by
  split
  · exact ha
  · exact hb

/-! ## Operations over the whole device -/

theorem Keeps.setTile {t : Nat} {v : Tile} (h : Keeps s u) : Keeps s (u.setTile t v) where
  queue := h.queue
  fuses := h.fuses
  data := h.data
  tiles hs := SMap.wf_put _ _ _ _ (h.tiles hs)

theorem Keeps.updTile {t : Nat} {f : Tile → Tile} (h : Keeps s u) : Keeps s (u.updTile t f) := h.setTile

theorem Keeps.forTiles {ts : List Nat} {f : Nat → Tile → Tile} (h : Keeps s u) : Keeps s (u.forTiles ts f) := .foldl (fun _ _ h => h.updTile) h

theorem Keeps.bump {k n : Nat} (h : Keeps s u) : Keeps s (u.bump k n) := h.frame

theorem Keeps.bumpTile {t k n : Nat} (h : Keeps s u) : Keeps s (u.bumpTile t k n) := by
  unfold State.bumpTile
  exact .ite h.bump.frame h.bump

theorem Keeps.bumps {t : Nat} {l : List (Nat × Nat)} (h : Keeps s u) : Keeps s (u.bumps t l) := .foldl (fun _ _ h => h.bumpTile) h

theorem Keeps.setJob {j : SlotIx} {v : Job} (h : Keeps s u) : Keeps s (u.setJob j v) := h.frame

theorem Keeps.updJob {j : SlotIx} {f : Job → Job} (h : Keeps s u) : Keeps s (u.updJob j f) := h.setJob

theorem Keeps.raise {kind unit : Nat} {data : List Byte} (h : Keeps s u) : Keeps s (u.raise kind unit data) := h.frame

theorem Keeps.send {o : Out} (h : Keeps s u) : Keeps s (u.send o) := h.frame

theorem Keeps.answer {car : Carrier} {status : Nat} {data : List Byte} (h : Keeps s u) : Keeps s (u.answer car status data) := h.send

theorem Keeps.setJobState {j : SlotIx} {st : Nat} (h : Keeps s u) : Keeps s (u.setJobState j st) := by
  unfold State.setJobState
  exact h.updJob.raise

theorem Keeps.random {n : Nat} (h : Keeps s u) : Keeps s (u.random n).2 := h.frame

theorem Keeps.lifeFault {kind unit cause : Nat} (h : Keeps s u) : Keeps s (u.lifeFault kind unit cause) := h.frame

theorem Keeps.armTiles {j : SlotIx} (h : Keeps s u) : Keeps s (u.armTiles j) := by
  unfold State.armTiles
  split
  · exact h.forTiles
  · exact h

theorem Keeps.hit {t : Nat} {h0 : Hit} (h : Keeps s u) : Keeps s (u.hit t h0) := by
  unfold State.hit
  split
  · exact h
  · exact .ite h.frame h.frame.armTiles

theorem Keeps.putTile {t : Nat} {o : TOut} (h : Keeps s u) : Keeps s (u.putTile t o) := by
  unfold State.putTile
  refine .foldl (fun _ _ h => h.hit) ?_
  split
  · exact .ite h.setTile.bumps h.setTile.bumps.updJob
  · exact h.setTile.bumps

theorem Keeps.onTile {t : TileIx} {f : TEnv → Tile → TOut} (h : Keeps s u) : ResKeeps s (onTile t f u) := .ite (.next h.putTile) .fault

/-! ## Device memory -/

theorem Keeps.updStack {m : StackIx} {f : StackSt → StackSt} (h : Keeps s u) : Keeps s (u.updStack m f) := h.frame

theorem Keeps.stackWrite {stack loc : Nat} {bs : List Byte} {poison : Bool} (h : Keeps s u) : Keeps s (u.stackWrite stack loc bs poison) :=
  h.stored (State.stackWrite_wf _ _ _ _ _)

theorem Keeps.putLine {stack loc : Nat} {v : V512} {poison : Bool} (h : Keeps s u) : Keeps s (u.putLine stack loc v poison) := h.stackWrite

theorem Keeps.memWriteLines {n addr : Nat} {bs : List Byte} {poison : Bool} (h : Keeps s u) : Keeps s (u.memWriteLines n addr bs poison) := by
  induction n generalizing u addr bs with
  | zero => exact h
  | succ n ih =>
    unfold State.memWriteLines
    refine .ite h (ih ?_)
    split
    · exact h.stackWrite
    · exact h

theorem Keeps.memWrite {addr : Nat} {bs : List Byte} {poison : Bool} (h : Keeps s u) : Keeps s (u.memWrite addr bs poison) := h.memWriteLines

/-! ## The copy engines -/

theorem Keeps.setEng {e : EngineIx} {g : EngSt} (h : Keeps s u) : Keeps s (u.setEng e g) := h.frame

theorem Keeps.updEng {e : EngineIx} {f : EngSt → EngSt} (h : Keeps s u) : Keeps s (u.updEng e f) := h.setEng

theorem Keeps.noteEngine {e : EngineIx} {s0 : State} (h : Keeps s u) : Keeps s (State.noteEngine e s0 u) := .ite h.raise h

theorem Keeps.deliverFlit {t port cy : Nat} {v : V512} {poison hopBad : Bool} (h : Keeps s u) : Keeps s (u.deliverFlit t port cy v poison hopBad) :=
  .ite h h.updTile

theorem Keeps.engPlace {e : EngineIx} {col u0 : Nat} {v : V512} {poison corrupt : Bool} (h : Keeps s u) :
    Keeps s (u.engPlace e col u0 v poison corrupt) := by
  unfold State.engPlace
  exact h.deliverFlit

theorem Keeps.checkGroup {e : EngineIx} {d : Desc} {di k : Nat} (h : Keeps s u) : Keeps s (u.checkGroup e d di k) := by
  unfold State.checkGroup
  exact .ite h (.ite h h.updEng.bump)

theorem Keeps.departLine {e : EngineIx} {di : Nat} {corrupt : Bool} (h : Keeps s u) : Keeps s (u.departLine e di corrupt) := by
  unfold State.departLine
  refine .ite (.updEng (.engPlace (.ite h.updEng h))) ?_
  extract_lets
  split
  · exact .updEng (.engPlace (.checkGroup (.ite h.updEng h)))
  · exact .bump (.updEng (.frame (.engPlace (.checkGroup (.ite h.updEng h)))))

theorem Keeps.bumpAll {l : List (Nat × Nat)} (h : Keeps s u) : Keeps s (u.bumpAll l) := .foldl (fun _ _ h => h.bump) h

theorem Keeps.fetchLine {e : EngineIx} {di err0 err1 : Nat} (h : Keeps s u) : Keeps s (u.fetchLine e di err0 err1) := by
  unfold State.fetchLine
  split
  · exact h
  · refine .ite h ?_
    split
    · exact h
    · refine .ite h ?_
      split
      · exact h
      · exact h.updEng.bumpAll

theorem Keeps.requestArrives {e : EngineIx} {di : Nat} (h : Keeps s u) : Keeps s (u.requestArrives e di) := by
  unfold State.requestArrives
  refine .ite h ?_
  extract_lets
  split
  · exact h.updEng
  · exact .ite h.updEng (.ite h.updEng (.ite h.updEng h.updEng.bump))

theorem Keeps.commitLine {e : EngineIx} {addr : Nat} {v : V512} {poison : Bool} (h : Keeps s u) : Keeps s (u.commitLine e addr v poison) := by
  unfold State.commitLine
  refine .updEng ?_
  split
  · exact h.putLine
  · exact h

theorem Keeps.commitGroup {e : EngineIx} {d : Desc} {di k : Nat} (h : Keeps s u) : Keeps s (u.commitGroup e d di k) := by
  unfold State.commitGroup
  exact .bump (.updEng (.foldl (fun _ _ h => h.commitLine) h))

theorem Keeps.arriveLine {e : EngineIx} {di : Nat} (h : Keeps s u) : Keeps s (u.arriveLine e di) := by
  unfold State.arriveLine
  extract_lets g d k f cause data poison addr s0 s1 s2
  have h1 : Keeps s s1 := .updEng (.ite h.frame h)
  exact .ite h1.commitLine (.ite h1.updEng.commitGroup h1.updEng)

theorem Keeps.moveLine {e : EngineIx} {di err0 err1 : Nat} (h : Keeps s u) : Keeps s (u.moveLine e di err0 err1) := by
  -- unfolded as a function: unfolded at its arguments, the kernel would evaluate `State.locate`
  have unfolded := Eq.refl @State.moveLine
  conv_rhs at unfolded => delta State.moveLine
  rw [unfolded]
  beta_reduce
  extract_lets
  split
  · exact h.putLine.bumpAll.updEng
  · exact h.updEng

theorem Keeps.fillLine {e : EngineIx} {di : Nat} (h : Keeps s u) : Keeps s (u.fillLine e di) := by
  unfold State.fillLine
  refine .updEng ?_
  split
  · exact h.putLine
  · exact h

theorem Keeps.engStop {e : EngineIx} (h : Keeps s u) : Keeps s (u.engStop e) := by
  unfold State.engStop
  exact .bump (.updEng (.foldl (fun _ _ h => h.commitLine) h))

/-! ## The commands of the copy engines and of the stacks -/

theorem Keeps.execCopyRead {e : EngineIx} {desc : Fin 8192} {corrupt : Bool} (h : Keeps s u) : ResKeeps s (execCopyRead e desc corrupt u) :=
  .next (.ite h.departLine.noteEngine h)

theorem Keeps.execCopyReadReq {e : EngineIx} {desc : Fin 8192} {corrupt : Bool} (h : Keeps s u) : ResKeeps s (execCopyReadReq e desc corrupt u) :=
  .next (.ite h.departLine.noteEngine h)

theorem Keeps.execCopyWrite {e : EngineIx} {desc : Fin 8192} (h : Keeps s u) : ResKeeps s (execCopyWrite e desc u) :=
  .next (.ite h.arriveLine.noteEngine h)

theorem Keeps.execCopyMove {e : EngineIx} {desc : Fin 8192} {err0 err1 : Nat} (h : Keeps s u) : ResKeeps s (execCopyMove e desc err0 err1 u) :=
  .next (.ite h.moveLine.noteEngine h)

theorem Keeps.execCopyFill {e : EngineIx} {desc : Fin 8192} (h : Keeps s u) : ResKeeps s (execCopyFill e desc u) :=
  .next (.ite h.fillLine.noteEngine h)

theorem Keeps.execReadRequestArrival {e : EngineIx} {desc : Fin 8192} (h : Keeps s u) : ResKeeps s (execReadRequestArrival e desc u) :=
  .next h.requestArrives.noteEngine

theorem Keeps.execLineFetch {e : EngineIx} {desc : Fin 8192} {err0 err1 : Nat} (h : Keeps s u) : ResKeeps s (execLineFetch e desc err0 err1 u) :=
  .next h.fetchLine.noteEngine

theorem Keeps.execLineStaged {e : EngineIx} {desc : Fin 8192} (h : Keeps s u) : ResKeeps s (execLineStaged e desc u) := .next h.updEng

theorem Keeps.execPatrolScrub {m : StackIx} {line err0 err1 : Nat} (h : Keeps s u) : ResKeeps s (execPatrolScrub m line err0 err1 u) :=
  .ite (.next h.bumpAll) (.next h)

theorem Keeps.execStackTempRead {m : StackIx} {tempC : Int} (h : Keeps s u) : ResKeeps s (execStackTempRead m tempC u) :=
  .ite (.next h) (.next (.ite h.updStack.raise h.updStack))

theorem Keeps.shorten {m : StackIx} (h : Keeps s u) : Keeps s (u.shorten m) := h.updStack

theorem Keeps.execRefreshShorten {m : StackIx} (h : Keeps s u) : ResKeeps s (execRefreshShorten m u) := .next h.shorten

theorem Keeps.countPoisonRead {addr len : Nat} (h : Keeps s u) : Keeps s (u.countPoisonRead addr len) := h.bump

theorem Keeps.serveMem {e : EngineIx} {req : MemRequest} (h : Keeps s u) : Keeps s (u.serveMem e req) := by
  unfold State.serveMem
  split
  · exact h.countPoisonRead.send
  · exact h.memWrite.send

theorem Keeps.execEngineServiceRequest {e : EngineIx} {req : MemRequest} (h : Keeps s u) : ResKeeps s (execEngineServiceRequest e req u) :=
  .ite (.next h.serveMem) (.next h.frame)

theorem Keeps.execEngineServiceTimeout {e : EngineIx} (h : Keeps s u) : ResKeeps s (execEngineServiceTimeout e u) := by
  unfold Machine.execEngineServiceTimeout
  split
  · exact .next h
  · exact .next (.bump (.ite h.frame.send h.frame.frame))

/-! ## Zones and regulator groups -/

theorem Keeps.updZone {z : Nat} {f : ZonePwr → ZonePwr} (h : Keeps s u) : Keeps s (u.updZone z f) := h.frame

theorem Keeps.askStop {j : SlotIx} {status : Nat} (h : Keeps s u) : Keeps s (u.askStop j status) := by
  unfold State.askStop
  exact .ite h (.ite h.updJob.setJobState h.updJob)

theorem Keeps.setReg {d st cause : Nat} (h : Keeps s u) : Keeps s (u.setReg d st cause) := h.frame

theorem Keeps.faultHold {z : Nat} (h : Keeps s u) : Keeps s (u.faultHold z) := h.frame.updZone

theorem Keeps.beginPark {z cause : Nat} {toOff : Bool} (h : Keeps s u) : Keeps s (u.beginPark z cause toOff) := by
  unfold State.beginPark
  exact .ite h.updZone (.ite h.updZone (.ite h.forTiles.updZone (.ite h.updZone h)))

theorem Keeps.abortPark {z cause : Nat} (h : Keeps s u) : Keeps s (u.abortPark z cause) := by
  unfold State.abortPark
  exact .ite h.frame.updZone (.ite h.updZone h.beginPark)

theorem Keeps.parkDone {z : Nat} (h : Keeps s u) : Keeps s (u.parkDone z) := by
  unfold State.parkDone
  exact .ite h h.forTiles.updZone

theorem Keeps.requestOn {z : Nat} (h : Keeps s u) : Keeps s (u.requestOn z) := by
  unfold State.requestOn
  exact .ite h.frame.updZone.bump h

theorem Keeps.startRamp {z : Nat} {slow : Bool} {wait : Nat} (h : Keeps s u) : Keeps s (u.startRamp z slow wait) := h.frame.updZone

theorem Keeps.powerGood {z : Nat} (h : Keeps s u) : Keeps s (u.powerGood z) := by
  unfold State.powerGood
  extract_lets ts s1 s2 p s3
  have h1 : Keeps s s1 := .foldl (fun _ _ h => h.putTile) h
  have h2 : Keeps s s2 := by
    unfold s2
    split
    · exact h1.forTiles
    · exact h1
  split
  · exact h2.updZone.beginPark
  · exact h2.updZone.updZone

theorem Keeps.parkHeld {zones : List Nat} (h : Keeps s u) : Keeps s (u.parkHeld zones) := .foldl (fun _ _ h => .ite h.beginPark h) h

/-! ## Field defects -/

theorem Keeps.enterDefect {w : U32} {origin slot cause : Nat} (h : Keeps s u) : Keeps s (u.enterDefect w origin slot cause) := by
  unfold State.enterDefect
  exact .ite (.foldl (fun _ _ h => h.faultHold) h) (.ite (.foldl (fun _ _ h => h.faultHold) h.frame.bump.raise) (.foldl (fun _ _ h => h.updZone)
      h.frame))

/-! ## Management writes -/

theorem Keeps.countRefusal {st : Nat} (h : Keeps s u) : Keeps s (u.countRefusal st) :=
  .ite h.bump (.ite h.bump (.ite h.bump (.ite h.bump (.ite h.bump (.ite h.bump h)))))

theorem Keeps.guarded {car : Carrier} {cls : Nat} {served : Bool} {v0 : Serve} {w : Writer} (h : Keeps s u)
    (hw : ∀ {v}, Keeps s v → Keeps s (w v).1) : Keeps s (u.guarded car cls served v0 w).1 := by
  unfold State.guarded
  extract_lets apply
  have applied : Keeps s (apply u).1 := .iteFst h.countRefusal.fst (.fst (.countRefusal (hw h)))
  exact .iteFst (.iteFst h applied) (.iteFst h.bump.fst (.iteFst h.bump.fst applied))

theorem Keeps.rwj {w : Writer} (h : Keeps s u) (hw : ∀ {v}, Keeps s v → Keeps s (w v).1) : Keeps s (rwj w u).1 := .iteFst (hw h) h

theorem Keeps.refuse {k st : Nat} (h : Keeps s u) : Keeps s (refuse k st u).1 := h.bump.fst

theorem Keeps.mgmtWriteIn {v0 : Serve} {car : Carrier} {cls : Nat} {w : Writer} (h : Keeps s u) (hw : ∀ {v}, Keeps s v → Keeps s (w v).1) :
    ResKeeps s (mgmtWriteIn v0 car cls w u) :=
  .ite (.next h) (.next ((h.guarded hw).answer))

theorem Keeps.mgmtWrite {car : Carrier} {cls : Nat} {w : Writer} (h : Keeps s u) (hw : ∀ {v}, Keeps s v → Keeps s (w v).1) :
    ResKeeps s (mgmtWrite car cls w u) :=
  h.mgmtWriteIn hw

theorem Keeps.mgmtRead {f : State → State × Nat × List Byte} (h : Keeps s u) (hf : ∀ {v}, Keeps s v → Keeps s (f v).1) :
    ResKeeps s (mgmtRead f u) :=
  .ite (.next h) (.ite (.next h.send) (.ite (.next h.bump.send) (.ite (.next h.bump.send) (.next (.send (.countRefusal (hf h)))))))

/-! ## Ports and links -/

theorem Keeps.setLink {l : Nat} {k : LinkSt} (h : Keeps s u) : Keeps s (u.setLink l k) := h.frame

theorem Keeps.updLink {l : Nat} {f : LinkSt → LinkSt} (h : Keeps s u) : Keeps s (u.updLink l f) := h.setLink

theorem Keeps.updPort {p : Nat} {f : PortSt → PortSt} (h : Keeps s u) : Keeps s (u.updPort p f) := h.frame

theorem Keeps.linkFault {l cause slot : Nat} (h : Keeps s u) : Keeps s (u.linkFault l cause slot) := by
  unfold State.linkFault
  exact .ite h.updLink.raise h

theorem Keeps.linkEvent {l : Nat} (h : Keeps s u) : Keeps s (u.linkEvent l) := h.raise

theorem Keeps.portStop {p status : Nat} (h : Keeps s u) : Keeps s (u.portStop p status) := by
  unfold State.portStop
  split
  · exact h.updJob
  · exact h

theorem Keeps.sendOn {l : Nat} {f : DataFlit} (h : Keeps s u) : Keeps s (u.sendOn l f) := by
  unfold State.sendOn
  exact h.setLink.send

theorem Keeps.sendFlits {p : Nat} {fs : List DataFlit} (h : Keeps s u) : Keeps s (State.sendFlits p fs u).1 := by
  induction fs generalizing u with
  | nil => exact h
  | cons f fs ih =>
    unfold State.sendFlits
    split
    · exact ih h.sendOn
    · exact ih h

theorem Keeps.pump {p : Nat} (h : Keeps s u) : Keeps s (u.pump p) := by
  unfold State.pump
  exact h.sendFlits.updPort

theorem Keeps.enqueue {p vl : Nat} {payloads : List (List Byte)} (h : Keeps s u) : Keeps s (u.enqueue p vl payloads) :=
  .pump (.foldl (fun _ _ h => h.updPort) h)

theorem Keeps.meshInject {right : Bool} {row ch : Nat} {ls : List SvLine} (h : Keeps s u) : Keeps s (u.meshInject right row ch ls) := h.updTile

theorem Keeps.switchPacket {right : Bool} {row ch : Nat} {ls : List SvLine} (h : Keeps s u) : Keeps s (u.switchPacket right row ch ls) := by
  unfold State.switchPacket
  refine .ite h (.ite (.ite h.meshInject h) ?_)
  split
  · exact .ite h.meshInject h
  · exact .ite (.ite h.meshInject h) h.enqueue

theorem Keeps.switchTake {right : Bool} {row ch : Nat} {l : SvLine} (h : Keeps s u) : Keeps s (u.switchTake right row ch l) := by
  unfold State.switchTake
  exact .ite h.frame.switchPacket h.frame

theorem Keeps.enterPacket {p l : Nat} {ls : List LineSlot} (h : Keeps s u) : Keeps s (u.enterPacket p l ls) := by
  unfold State.enterPacket
  exact .ite h.bump (.ite h.enqueue h.meshInject)

theorem Keeps.arrivePacket {p l : Nat} {ls : List LineSlot} (h : Keeps s u) : Keeps s (u.arrivePacket p l ls) := by
  unfold State.arrivePacket
  refine .ite h.enterPacket ?_
  extract_lets
  split
  · exact .bump (.ite h.enqueue h)
  · exact .ite (.bump (.ite h.enqueue h)) h.enqueue.bump

theorem Keeps.returnCredit {l vl : Nat} (h : Keeps s u) : Keeps s (u.returnCredit l vl) := h.updLink.send

theorem Keeps.serviceLines {p l : Nat} {xs : List LineSlot} (h : Keeps s u) : Keeps s (State.serviceLines p l xs u) := by
  induction xs generalizing u with
  | nil => exact h
  | cons x xs ih => exact ih (.ite h.updPort.arrivePacket h.updPort)

theorem Keeps.deliver {p l : Nat} {f : DataFlit} (h : Keeps s u) : Keeps s (u.deliver p l f) := by
  unfold State.deliver
  exact .ite h.updPort.updPort (.returnCredit (.ite h.updPort.serviceLines h.updPort))

theorem Keeps.deliverAll {p n : Nat} (h : Keeps s u) : Keeps s (State.deliverAll p n u) := by
  induction n generalizing u with
  | zero => exact h
  | succ n ih =>
    unfold State.deliverAll
    extract_lets
    split
    · exact h
    · exact ih h.updPort.deliver

theorem Keeps.portReceive {p l : Nat} {f : DataFlit} (h : Keeps s u) : Keeps s (u.portReceive p l f) := by
  unfold State.portReceive
  exact .ite h.returnCredit h.updPort.deliverAll

theorem Keeps.takeHeader {l ack crvl crn : Nat} (h : Keeps s u) : Keeps s (u.takeHeader l ack crvl crn) := by
  unfold State.takeHeader
  exact h.setLink.pump

theorem Keeps.flitFails {l : Nat} (h : Keeps s u) : Keeps s (u.flitFails l) := by
  unfold State.flitFails
  exact .ite h h.setLink.send

theorem Keeps.replayFrom {l fseq : Nat} (h : Keeps s u) : Keeps s (u.replayFrom l fseq) := by
  unfold State.replayFrom
  exact .foldl (fun _ _ h => h.send) h.setLink

theorem Keeps.portDown {p : Nat} (h : Keeps s u) : Keeps s (u.portDown p) := by
  unfold State.portDown
  exact .portStop (.foldl (fun _ _ h => h.linkFault) (.bump (.bump (.updPort (.ite h.frame.enterPacket.bump h)))))

theorem Keeps.cascadeState (h : Keeps s u) : Keeps s u.cascadeState := by
  unfold State.cascadeState
  exact .ite h.frame (.ite h.frame (.ite h.frame (.ite h.frame h)))

theorem Keeps.linkGoDown {l newState : Nat} (h : Keeps s u) : Keeps s (u.linkGoDown l newState) := by
  unfold State.linkGoDown
  exact .ite h (.cascadeState (.ite h.setLink.linkEvent.bump.portDown (.ite h.setLink.linkEvent.updPort.pump h.setLink.linkEvent.bump)))

theorem Keeps.linkComesUp {l : Nat} (h : Keeps s u) : Keeps s (u.linkComesUp l) := by
  unfold State.linkComesUp
  exact h.setLink.updPort.linkEvent.pump

theorem Keeps.linkBeadFails {p l cause fails : Nat} (h : Keeps s u) : Keeps s (u.linkBeadFails p l cause fails) := by
  unfold State.linkBeadFails
  refine .ite h ?_
  extract_lets
  split
  · exact h.bump.linkFault.updJob
  · exact h.bump.linkFault

/-! ## Feature objects -/

theorem Keeps.noteFeatures {before : State} (h : Keeps s u) : Keeps s (State.noteFeatures before u) := .ite h.frame h

theorem Keeps.featWriter {w : Writer} (h : Keeps s u) (hw : ∀ {v}, Keeps s v → Keeps s (w v).1) : Keeps s (featWriter w u).1 :=
  .fst (.noteFeatures (hw h))

/-! ## The mesh -/

theorem Keeps.flitLeaves {t : Nat} {f : FlitOut} {corrupt : Bool} (h : Keeps s u) : Keeps s (u.flitLeaves t f corrupt) := by
  unfold State.flitLeaves
  extract_lets
  split
  · exact h.deliverFlit
  · exact h.updEng
  · exact h.frame
  · exact h

theorem Keeps.runSlot {op t entry : Nat} {entryBad corrupt : Bool} (h : Keeps s u) : Keeps s (State.runSlot op t entry entryBad corrupt u) := by
  unfold State.runSlot
  extract_lets
  split
  · exact h.putTile.flitLeaves
  · exact h.putTile

theorem Keeps.managerLine {ch : Nat} {l : SvLine} (h : Keeps s u) : Keeps s (u.managerLine ch l) := by
  unfold State.managerLine
  exact .ite h.frame (.ite h.frame h.frame.updTile)

theorem Keeps.hopInto {t out ch : Nat} {l : SvLine} {corrupt : Bool} (h : Keeps s u) : Keeps s (u.hopInto t out ch l corrupt).1 := by
  unfold State.hopInto
  extract_lets
  split
  · exact h.putTile.fst
  · exact h.updTile.fst
  · exact h.switchTake.fst
  · exact .fst (.ite h.managerLine h)
  · exact h

theorem Keeps.hopLine {t out ch : Nat} {corrupt : Bool} (h : Keeps s u) : Keeps s (u.hopLine t out ch corrupt) := by
  unfold State.hopLine
  refine .ite h ?_
  split
  · exact h
  · split
    · exact h
    · refine .ite (.hopInto ?_) (.updTile (.hopInto ?_))
      · split
        · exact h.updTile.updTile
        · exact h.updTile
      · split
        · exact h.updTile.updTile
        · exact h.updTile

theorem Keeps.onGrid {t : TileIx} {f : State → State} (h : Keeps s u) (hf : ∀ {v}, Keeps s v → Keeps s (f v)) : ResKeeps s (onGrid t f u) :=
  .ite (.next (hf h)) .fault

/-! ## The retry table -/

theorem Keeps.retryFail {kind unit cause : Nat} (h : Keeps s u) : Keeps s (u.retryFail kind unit cause) := by
  unfold State.retryFail
  exact h.frame

theorem Keeps.retryRemove {kind unit : Nat} (h : Keeps s u) : Keeps s (u.retryRemove kind unit) := h.frame

theorem Keeps.retryPass {kind unit : Nat} (h : Keeps s u) : Keeps s (u.retryPass kind unit) := .ite h.retryRemove h

/-! ## Jobs -/

theorem Keeps.loadJob {j : SlotIx} (h : Keeps s u) : Keeps s (State.loadJob j u).1 := .iteFst h.bump.fst h.updJob.setJobState.fst

theorem Keeps.refuseLoad {j : SlotIx} {status : Nat} (h : Keeps s u) : Keeps s (u.refuseLoad j status) := h.updJob.setJobState.bump

theorem Keeps.writeRecords {p : Plan} (h : Keeps s u) : Keeps s (u.writeRecords p) := by
  unfold State.writeRecords
  exact .foldl (fun _ _ h => h.updEng) (.foldl (fun _ _ h => h.updTile) h)

theorem Keeps.loadChecks {j : SlotIx} (h : Keeps s u) : Keeps s (u.loadChecks j) := by
  unfold State.loadChecks
  refine .ite h ?_
  split
  · exact h.refuseLoad
  · exact .ite h.refuseLoad.bump (.ite (.foldl (fun _ _ h => h.requestOn) h) h.writeRecords.updJob.setJobState)

theorem Keeps.preload {t : Nat} {q : Nat × Nat × Nat} (h : Keeps s u) : Keeps s (u.preload t q) := .foldl (fun _ _ h => h.updTile) h

theorem Keeps.startTiles {j : SlotIx} {p : Plan} (h : Keeps s u) : Keeps s (u.startTiles j p) :=
  .foldl (fun _ _ h => .foldl (fun _ _ h => h.preload) h.putTile) h

theorem Keeps.startEngines {p : Plan} (h : Keeps s u) : Keeps s (u.startEngines p) := .foldl (fun _ _ h => h.updEng) h

theorem Keeps.startJob {j : SlotIx} {replay : Bool} (h : Keeps s u) : Keeps s (State.startJob j replay u).1 := by
  unfold State.startJob
  extract_lets b mem v log
  have hv : Keeps s v := h.frame
  split
  · exact h
  · refine .iteFst h (.iteFst h (.iteFst h ?_))
    extract_lets s1 s2 s3
    have h2 : Keeps s s2 := hv.startTiles.startEngines.updJob
    exact .fst (.setJobState (.ite h2 (.ite h2.updJob h2.send)))

theorem Keeps.releaseCycle0 {j : SlotIx} {p : Plan} (h : Keeps s u) : Keeps s (u.releaseCycle0 j p) := by
  unfold State.releaseCycle0
  exact .armTiles (.updJob (.foldl (fun _ _ h => h.putTile) h))

theorem Keeps.cycle0 {j : SlotIx} (h : Keeps s u) : Keeps s (u.cycle0 j) := by
  unfold State.cycle0
  extract_lets
  split
  · exact h
  · refine .ite (.ite h.releaseCycle0 ?_) h
    split
    · exact .ite h.releaseCycle0 h.updJob
    · exact h.updJob

theorem Keeps.dropRows {p : Plan} (h : Keeps s u) : Keeps s (u.dropRows p) := by
  unfold State.dropRows
  exact h.frame

theorem Keeps.endJob {j : SlotIx} {status : Nat} {normal : Bool} (h : Keeps s u) : Keeps s (u.endJob j status normal) := by
  unfold State.endJob
  extract_lets
  split
  · exact h.updJob.setJobState
  · exact .parkHeld (.setJobState (.frame (.updJob (.bump (.ite (.dropRows (.foldl (fun _ _ h => h.engStop) (.foldl (fun _ _ h => h.putTile) h)))
        h)))))

theorem Keeps.digestLog {j : SlotIx} (h : Keeps s u) : Keeps s (u.digestLog j) := by
  unfold State.digestLog
  exact .ite h.memWrite.updJob h.bump

theorem Keeps.applyEvent {j : SlotIx} {e : FenceEv} (h : Keeps s u) : Keeps s (u.applyEvent j e) := by
  unfold State.applyEvent
  extract_lets
  split
  · exact h.memWrite.updJob
  · exact h.memWrite.updJob
  · exact h

theorem Keeps.logEvent {j : SlotIx} {fence : Nat} {e : FenceEv} (h : Keeps s u) : Keeps s (u.logEvent j fence e) := by
  unfold State.logEvent
  exact .ite h h.memWrite.updJob

theorem Keeps.applyEvents {j : SlotIx} {fence : Nat} (h : Keeps s u) : Keeps s (u.applyEvents j fence) := by
  unfold State.applyEvents
  exact .bump (.foldl (fun _ _ h => h.applyEvent.logEvent) h.updJob)

theorem Keeps.acceptEvent {j : SlotIx} {index sub value size : Nat} (h : Keeps s u) : Keeps s (State.acceptEvent j index sub value size u).1 := by
  unfold State.acceptEvent
  exact .iteFst h (.iteFst h (.iteFst h h.updJob.fst))

/-! ## Fences -/

theorem Keeps.arrive {j : SlotIx} {unit : FenceUnit} {late : Nat} (h : Keeps s u) : Keeps s (u.arrive j unit late) := by
  unfold State.arrive
  extract_lets
  split
  · exact h
  · refine .ite h (.ite h (.updJob ?_))
    cases unit with
    | engine e => exact h.updEng.noteEngine
    | tile t => exact h
    | linkSwitch right => exact h

theorem Keeps.recordBreaks {len : Nat} {br : List Nat × List Nat} (h : Keeps s u) : Keeps s (u.recordBreaks len br) := by
  unfold State.recordBreaks
  exact .foldl (fun _ _ h => h.updEng.bump.lifeFault) (.foldl (fun _ _ h => h.updTile.bumpTile.lifeFault) h)

theorem Keeps.recordMirror {len : Nat} {ds : List Nat} (h : Keeps s u) : Keeps s (u.recordMirror len ds) :=
  .foldl (fun _ _ h => h.updTile.updTile.bumpTile) h

theorem Keeps.enterPersistent {slot : Nat} {d : Det} (h : Keeps s u) : Keeps s (u.enterPersistent slot d) :=
  .ite h.enterDefect (.ite h.enterDefect (.ite h.enterDefect h))

theorem Keeps.clearFaultBank {d : Det} (h : Keeps s u) : Keeps s (u.clearFaultBank d) := .ite h.updTile h

theorem Keeps.detectionStop {j : SlotIx} (h : Keeps s u) : Keeps s (u.detectionStop j) := by
  unfold State.detectionStop
  exact .endJob (.foldl (fun _ _ h => h.clearFaultBank) (.foldl (fun _ _ h => h.enterPersistent) h.bump.bump))

theorem Keeps.completeStep {j : SlotIx} {p : Plan} {plan : Bool} (h : Keeps s u) : Keeps s (u.completeStep j p plan) := by
  unfold State.completeStep
  extract_lets b sums s1 s2 s3 s4
  have h2 : Keeps s s2 := .ite h.updJob.applyEvents h.updJob
  have h4 : Keeps s s4 := .forTiles (.ite h2.digestLog h2)
  exact .ite h4.frame h4

theorem Keeps.sendAudits {p : Plan} (h : Keeps s u) : Keeps s (u.sendAudits p) := .foldl (fun _ _ h => .ite h.send h) h

theorem Keeps.shortTransfers {j : SlotIx} {p : Plan} (h : Keeps s u) : Keeps s (u.shortTransfers j p) :=
  .foldl (fun _ _ h => .foldl (fun _ _ h => .ite h h.frame.linkFault.updJob) h) h

theorem Keeps.gatherReports {j : SlotIx} {p : Plan} (h : Keeps s u) : Keeps s (u.gatherReports j p) := by
  unfold State.gatherReports
  exact .shortTransfers (.recordMirror (.foldl (fun _ _ h => h.putTile) h))

theorem Keeps.carryOut {j : SlotIx} {p : Plan} {o : FenceOut} (h : Keeps s u) : Keeps s (u.carryOut j p o) := by
  unfold State.carryOut
  extract_lets
  split
  · exact h.endJob
  · exact h.detectionStop
  · exact h.updJob
  · exact h.completeStep.endJob
  · exact h.completeStep.updJob

theorem Keeps.applyDecision {j : SlotIx} {d : Proposal} (h : Keeps s u) : Keeps s (u.applyDecision j d) := by
  unfold State.applyDecision
  extract_lets
  split
  · exact h
  · refine .ite h ?_
    split
    · extract_lets
      split
      · exact h.updJob.carryOut
      · exact h.updJob.carryOut
      · exact .ite h.updJob.carryOut (.ite h.updJob.carryOut h.updJob.endJob)
    · exact h.endJob
    · exact h.endJob
    · exact h.updJob
    · exact h

theorem Keeps.decideGroup {j : SlotIx} {ds : List (Nat × Proposal)} (h : Keeps s u) : Keeps s (u.decideGroup j ds) := by
  unfold State.decideGroup
  extract_lets
  split
  · exact .applyDecision (.updJob (.foldl (fun _ _ h => h.send) h))
  · exact .updJob (.foldl (fun _ _ h => h.send) h)

theorem Keeps.takeReport {j : SlotIx} {r : GroupReport} (h : Keeps s u) : Keeps s (u.takeReport j r) := by
  unfold State.takeReport
  exact .ite h (.ite h.updJob.decideGroup h.updJob)

theorem Keeps.report {j : SlotIx} {q : Proposal} (h : Keeps s u) : Keeps s (u.report j q) := by
  unfold State.report
  exact .ite h.takeReport h.send

theorem Keeps.rootDecision {j : SlotIx} (h : Keeps s u) : Keeps s (u.rootDecision j) := by
  unfold State.rootDecision
  extract_lets
  split
  · exact h
  · refine .ite h ?_
    extract_lets s1 br s2 dets o s3
    have h3 : Keeps s s3 := h.gatherReports.sendAudits.recordBreaks.updJob
    exact .ite h3.carryOut (.ite h3.updJob.report (.carryOut (.ite h3.report h3)))

theorem Keeps.rerunUnits {j : SlotIx} {p : Plan} {plan : Bool} (h : Keeps s u) : Keeps s (u.rerunUnits j p plan) := by
  unfold State.rerunUnits
  exact .armTiles (.bump (.updJob (.foldl (fun _ _ h => h.updEng) h.forTiles)))

theorem Keeps.nextUnits {j : SlotIx} {p : Plan} {n : Nat} (h : Keeps s u) : Keeps s (u.nextUnits j p n) := by
  unfold State.nextUnits
  exact .armTiles (.updJob (.foldl (fun _ _ h => h.updEng) (.foldl (fun _ _ h => h.putTile) h)))

theorem Keeps.release {j : SlotIx} (h : Keeps s u) : Keeps s (u.release j) := by
  unfold State.release
  extract_lets
  split
  · exact .ite h (.ite h.frame.rerunUnits h.frame.nextUnits)
  · exact h

theorem Keeps.stepTimesOut {j : SlotIx} (h : Keeps s u) : Keeps s (u.stepTimesOut j) := by
  unfold State.stepTimesOut
  extract_lets
  split
  · exact h
  · exact .ite h h.updJob.bump.endJob

theorem Keeps.killJob {j : SlotIx} (h : Keeps s u) : Keeps s (State.killJob j u).1 := by
  unfold State.killJob
  exact .iteFst h.endJob.fst h

theorem Keeps.stopJob {j : SlotIx} (h : Keeps s u) : Keeps s (State.stopJob j u).1 := .iteFst h.askStop.fst h

theorem Keeps.noteTest {kind unit n failed : Nat} (h : Keeps s u) : Keeps s (u.noteTest kind unit n failed) := h.frame.bump.bump

theorem Keeps.clearTest {slot : Nat} {failedTiles : List Nat} {wires lanes : List U32} {d : Det} (h : Keeps s u) :
    Keeps s (State.clearTest slot failedTiles wires lanes u d) :=
  .ite (.ite h.noteTest.enterDefect (.foldl (fun _ _ h => h.enterDefect) h.noteTest))
    (.ite (.foldl (fun _ _ h => h.enterDefect) h.noteTest) (.ite h.noteTest (.ite (.ite h.noteTest.enterDefect h.noteTest) h)))

theorem Keeps.laggardTest {slot : Nat} {failedTiles : List Nat} {t : Nat} (h : Keeps s u) : Keeps s (State.laggardTest slot failedTiles u t) := by
  unfold State.laggardTest
  exact .ite h.noteTest.enterDefect h.noteTest

theorem Keeps.startTest {q : TestReq} (h : Keeps s u) : Keeps s (u.startTest q).2 :=
  .iteSnd h (.iteSnd h (.iteSnd h (.iteSnd h (.iteSnd (.iteSnd h h.requestOn) h))))

theorem Keeps.startTests (h : Keeps s u) : Keeps s u.startTests := .foldl (fun _ _ h => h.startTest.frame) h

theorem Keeps.clearJob {j : SlotIx} {failedTiles : List Nat} {wires lanes : List U32} (h : Keeps s u) :
    Keeps s (State.clearJob j failedTiles wires lanes u).1 := by
  unfold State.clearJob
  refine .iteFst h ?_
  extract_lets s1 s2 s3 s4
  have h1 : Keeps s s1 := .ite (.foldl (fun _ _ h => h.clearTest) h) (.ite (.foldl (fun _ _ h => h.laggardTest) h) h)
  have h2 : Keeps s s2 := by
    unfold s2
    split
    · exact .ite (.foldl (fun _ _ h => h.updEng) h1.forTiles) h1
    · exact h1
  have h4 : Keeps s s4 := h2.updJob.setJobState
  refine .fst ?_
  split
  · exact h4.startTests.parkHeld
  · exact h4.startTests

/-! ## The commands of jobs and fences -/

theorem Keeps.execJobLoad {j : SlotIx} {car : Carrier} (h : Keeps s u) : ResKeeps s (execJobLoad j car u) := h.mgmtWrite (fun h => h.loadJob)

theorem Keeps.execLoadChecksComplete {j : SlotIx} (h : Keeps s u) : ResKeeps s (execLoadChecksComplete j u) := .next h.loadChecks

theorem Keeps.execJobStart {j : SlotIx} {car : Carrier} (h : Keeps s u) : ResKeeps s (execJobStart j car u) := h.mgmtWrite (fun h => h.startJob)

theorem Keeps.execJobReplayStart {j : SlotIx} {car : Carrier} (h : Keeps s u) : ResKeeps s (execJobReplayStart j car u) :=
  h.mgmtWrite (fun h => h.startJob)

theorem Keeps.execJobCycle0Release {j : SlotIx} (h : Keeps s u) : ResKeeps s (execJobCycle0Release j u) := .next h.cycle0

theorem Keeps.execJobStop {j : SlotIx} {car : Carrier} (h : Keeps s u) : ResKeeps s (execJobStop j car u) := h.mgmtWrite (fun h => h.stopJob)

theorem Keeps.execJobKill {j : SlotIx} {car : Carrier} (h : Keeps s u) : ResKeeps s (execJobKill j car u) := h.mgmtWrite (fun h => h.killJob)

theorem Keeps.execJobClear {j : SlotIx} {car : Carrier} {failedTiles : List TileIx} {failedWires failedLanes : List U32} (h : Keeps s u) :
    ResKeeps s (execJobClear j car failedTiles failedWires failedLanes u) :=
  h.mgmtWrite (fun h => h.featWriter (fun h => h.clearJob))

theorem Keeps.execUnitFenceArrival {j : SlotIx} {u0 : FenceUnit} {lateCy : Nat} (h : Keeps s u) : ResKeeps s (execUnitFenceArrival j u0 lateCy u) :=
  .next h.arrive

theorem Keeps.execFenceRootDecision {j : SlotIx} (h : Keeps s u) : ResKeeps s (execFenceRootDecision j u) := .next h.rootDecision.noteFeatures

theorem Keeps.execFenceRelease {j : SlotIx} (h : Keeps s u) : ResKeeps s (execFenceRelease j u) := .next h.release

theorem Keeps.execStepTimeout {j : SlotIx} (h : Keeps s u) : ResKeeps s (execStepTimeout j u) := .next h.stepTimesOut

theorem Keeps.writeEta {j : SlotIx} {g v : Nat} (h : Keeps s u) : Keeps s (State.writeEta j g v u).1 := by
  unfold State.writeEta
  exact .iteFst h.bump.fst (.iteFst h.bump.fst h.acceptEvent)

theorem Keeps.writeFrozen {j : SlotIx} {g v : Nat} (h : Keeps s u) : Keeps s (State.writeFrozen j g v u).1 := by
  unfold State.writeFrozen
  exact .iteFst h (.iteFst h.bump.fst (.iteFst h.bump.fst h.acceptEvent))

theorem Keeps.writeSnapshot {j : SlotIx} {v : Nat} (h : Keeps s u) : Keeps s (State.writeSnapshot j v u).1 := h.acceptEvent

theorem Keeps.writeEvent {j : SlotIx} {index sub value : Nat} (h : Keeps s u) : Keeps s (State.writeEvent j index sub value u).1 := by
  unfold State.writeEvent
  cases evEta index sub with
  | some g => exact .iteWriter h.writeEta h
  | none =>
    cases evFrozen index sub with
    | some g => exact .iteWriter h.writeFrozen h
    | none => exact .iteWriter (.iteWriter h.writeSnapshot h) h

theorem Keeps.execFenceEventWrite {j : SlotIx} {car : Carrier} {index : U16} {sub : Byte} {value : U64} (h : Keeps s u) :
    ResKeeps s (execFenceEventWrite j car index sub value u) :=
  h.mgmtWrite (fun h => h.writeEvent)

theorem Keeps.execDigestSnapshot {j : SlotIx} {car : Carrier} {value : Byte} (h : Keeps s u) : ResKeeps s (execDigestSnapshot j car value u) :=
  h.mgmtWrite (fun h => h.writeSnapshot)

theorem Keeps.execGroupEta {j : SlotIx} {car : Carrier} {g : Fin 4096} {value : U32} (h : Keeps s u) : ResKeeps s (execGroupEta j car g value u) :=
  h.mgmtWrite (fun h => h.writeEta)

theorem Keeps.execGroupFrozen {j : SlotIx} {car : Carrier} {g : Fin 4096} {value : Byte} (h : Keeps s u) :
    ResKeeps s (execGroupFrozen j car g value u) :=
  h.mgmtWrite (fun h => h.writeFrozen)

theorem Keeps.engineTimesOut {e : EngineIx} (h : Keeps s u) : Keeps s (u.engineTimesOut e) := by
  unfold State.engineTimesOut
  split
  · exact h
  · extract_lets
    split
    · exact h
    · exact .ite h h.updEng.noteEngine.endJob.retryFail

theorem Keeps.execEngineFenceTimeout {e : EngineIx} (h : Keeps s u) : ResKeeps s (execEngineFenceTimeout e u) := .next h.engineTimesOut

/-! ## Tests and comparison -/

theorem Keeps.requestTest {kind u0 : Nat} (h : Keeps s u) : Keeps s (State.requestTest kind u u0) := .ite h h.startTest.frame

theorem Keeps.requestTests {kind mask n : Nat} (h : Keeps s u) : Keeps s (State.requestTests kind mask n u).1 :=
  .fst (.foldl (fun _ _ h => h.requestTest) h)

theorem Keeps.execSelftestFrameLogic {car : Carrier} {zones : BitVec 48} (h : Keeps s u) : ResKeeps s (execSelftestFrameLogic car zones u) :=
  h.mgmtWrite (fun h => h.requestTests)

theorem Keeps.execSelftestCoreLogic {car : Carrier} {zones : BitVec 48} (h : Keeps s u) : ResKeeps s (execSelftestCoreLogic car zones u) :=
  h.mgmtWrite (fun h => h.requestTests)

theorem Keeps.execSelftestRouterMesh {car : Carrier} {zones : BitVec 48} (h : Keeps s u) : ResKeeps s (execSelftestRouterMesh car zones u) :=
  h.mgmtWrite (fun h => h.requestTests)

theorem Keeps.execSelftestScratchpadMarch {car : Carrier} {zones : BitVec 48} (h : Keeps s u) :
    ResKeeps s (execSelftestScratchpadMarch car zones u) :=
  h.mgmtWrite (fun h => h.requestTests)

theorem Keeps.execSelftestSensorCalibration {car : Carrier} {zones : BitVec 48} (h : Keeps s u) :
    ResKeeps s (execSelftestSensorCalibration car zones u) :=
  h.mgmtWrite (fun h => h.requestTests)

theorem Keeps.execSelftestModuleLanes {car : Carrier} {modules : BitVec 16} (h : Keeps s u) : ResKeeps s (execSelftestModuleLanes car modules u) :=
  h.mgmtWrite (fun h => h.requestTests)

theorem Keeps.quietTest {j : SlotIx} {z kind : Nat} (h : Keeps s u) : Keeps s (u.quietTest j z kind) := .ite h.frame h

theorem Keeps.execQuietSlotTest {j : SlotIx} {z : ZoneIx} {kind : Fin 16} (h : Keeps s u) : ResKeeps s (execQuietSlotTest j z kind u) :=
  .next h.quietTest

theorem Keeps.zoneTestEnds {q : TestReq} {failed : List Nat} (h : Keeps s u) : Keeps s (u.zoneTestEnds q failed) := by
  unfold State.zoneTestEnds
  extract_lets
  split
  · exact h.forTiles.forTiles
  · exact .foldl (fun _ _ h => h.enterDefect) (.ite (.foldl (fun _ _ h => h.putTile) h) h)

theorem Keeps.testEnds {u0 kind : Nat} {failed : List Nat} (h : Keeps s u) : Keeps s (u.testEnds u0 kind failed) := by
  unfold State.testEnds
  split
  · exact h
  · refine .ite h ?_
    extract_lets check s1 s2
    have h1 : Keeps s s1 := h.frame.noteTest
    have h2 : Keeps s s2 := h1.zoneTestEnds
    exact .ite h1 (.ite h2.frame (.ite h2.beginPark h2))

theorem Keeps.execSelftestComplete {unit : ZoneIx} {kind : Fin 16} {failedTiles : List TileIx} (h : Keeps s u) :
    ResKeeps s (execSelftestComplete unit kind failedTiles u) :=
  .next h.testEnds.noteFeatures

theorem Keeps.abandonTests {which : TestReq → Bool} (h : Keeps s u) : Keeps s (u.abandonTests which) := by
  unfold State.abandonTests
  split
  · exact h
  · exact h.frame

theorem Keeps.openPhase {phase fence : Nat} {asked : List Nat} (h : Keeps s u) : Keeps s (u.openPhase phase fence asked) := by
  unfold State.openPhase
  exact .foldl (fun _ _ h => h.send) h.frame

theorem Keeps.outvoted (h : Keeps s u) : Keeps s u.outvoted := h.askStop

theorem Keeps.decideRound {r : WcmpRound} (h : Keeps s u) : Keeps s (u.decideRound r) := by
  unfold State.decideRound
  exact .raise (.foldl (fun _ _ h => .ite h.outvoted h.send) h.frame.bump.bump)

theorem Keeps.phaseEnds {r : WcmpRound} (h : Keeps s u) : Keeps s (u.phaseEnds r) := by
  unfold State.phaseEnds
  refine .ite ?_ h.decideRound
  split
  · exact h.decideRound
  · exact h.openPhase

theorem Keeps.wcmpOpens (h : Keeps s u) : Keeps s u.wcmpOpens := .ite h (.ite h.frame h.frame.bump.openPhase)

theorem Keeps.execWcmpRound (h : Keeps s u) : ResKeeps s (execWcmpRound u) := .next h.wcmpOpens

theorem Keeps.execWcmpAnswer {device : Nat} {phase : Fin 3} {value : U64} (h : Keeps s u) : ResKeeps s (execWcmpAnswer device phase value u) := by
  unfold Machine.execWcmpAnswer
  split
  · exact .next h
  · exact .ite (.next h) (.next (.ite h.frame.phaseEnds h.frame))

theorem Keeps.execWcmpPhaseTimeout (h : Keeps s u) : ResKeeps s (execWcmpPhaseTimeout u) := by
  unfold Machine.execWcmpPhaseTimeout
  refine .next ?_
  split
  · exact h.phaseEnds
  · exact h

theorem Keeps.execWcmpOutvote (h : Keeps s u) : ResKeeps s (execWcmpOutvote u) := .next h.outvoted

/-! ## The clock system and the tally -/

theorem Keeps.updClk {f : ClkSt → ClkSt} (h : Keeps s u) : Keeps s (u.updClk f) := h.frame

theorem Keeps.updZoneClk {z : Nat} {f : ZoneClk → ZoneClk} (h : Keeps s u) : Keeps s (u.updZoneClk z f) := h.updClk

theorem Keeps.updTally {f : TallySt → TallySt} (h : Keeps s u) : Keeps s (u.updTally f) := h.frame

theorem Keeps.retarget (h : Keeps s u) : Keeps s u.retarget := by
  unfold State.retarget
  exact .ite h.updClk.frame h.updClk

theorem Keeps.announce {f t : Nat} (h : Keeps s u) : Keeps s (u.announce f t) := by
  unfold State.announce
  exact .ite h.updClk h.updClk

theorem Keeps.announceDown (h : Keeps s u) : Keeps s u.announceDown := by
  unfold State.announceDown
  extract_lets
  split
  · exact h
  · exact .ite h h.announce

theorem Keeps.applySwitch (h : Keeps s u) : Keeps s u.applySwitch := by
  unfold State.applySwitch
  exact .raise (.foldl (fun _ _ h => .ite h.shorten h) h.updClk.bump.bump)

theorem Keeps.marginLost {z : Nat} (h : Keeps s u) : Keeps s (u.marginLost z) := by
  unfold State.marginLost
  extract_lets
  split
  · exact .ite h.faultHold.askStop h.faultHold
  · exact h.faultHold.beginPark

theorem Keeps.ownStretch {z : Nat} {st : Stretch} (h : Keeps s u) : Keeps s (u.ownStretch z st) := by
  unfold State.ownStretch
  exact h.updZoneClk.bump.bump.send

theorem Keeps.droop {z elapsed : Nat} (h : Keeps s u) : Keeps s (u.droop z elapsed) := by
  unfold State.droop
  refine .ite h ?_
  split
  · exact h.ownStretch
  · split
    · exact h.ownStretch
    · exact .ite h h.updZoneClk.send

theorem Keeps.restart {z : Nat} (h : Keeps s u) : Keeps s (u.restart z) := by
  unfold State.restart
  split
  · split
    · exact .ite h h.bump.bump.ownStretch
    · exact h
  · exact h

theorem Keeps.stretchEnds {z : Nat} (h : Keeps s u) : Keeps s (u.stretchEnds z) := by
  unfold State.stretchEnds
  split
  · exact h.updZoneClk.bump
  · exact h

theorem Keeps.copyStretch {z origin seq len elapsed : Nat} (h : Keeps s u) : Keeps s (u.copyStretch z origin seq len elapsed) := by
  unfold State.copyStretch
  exact .ite h h.updZoneClk.bump.send

theorem Keeps.extendStretch {z origin seq len : Nat} (h : Keeps s u) : Keeps s (u.extendStretch z origin seq len) := by
  unfold State.extendStretch
  extract_lets
  split
  · exact h
  · exact .ite h.updZoneClk.send h

theorem Keeps.slip {t port : Nat} (h : Keeps s u) : Keeps s (u.slip t port) := by
  unfold State.slip
  split
  · exact .ite h h.bump.updClk.updZoneClk.updZoneClk.updTile
  · exact h

theorem Keeps.lifeTick {d : Nat} (h : Keeps s u) : Keeps s (u.lifeTick d) := by
  unfold State.lifeTick
  exact h.frame

theorem Keeps.tallyTo {n : Nat} (h : Keeps s u) : Keeps s (u.tallyTo n) := by
  unfold State.tallyTo
  exact .ite h.lifeTick.updTally.frame h.lifeTick.updTally

theorem Keeps.takeDue {d : Due} (h : Keeps s u) : Keeps s (u.takeDue d).1 := .iteFst h.updTally.fst h

theorem Keeps.sourceEdge (h : Keeps s u) : Keeps s u.sourceEdge := by
  unfold State.sourceEdge
  exact .ite (.updTally (.ite h.tallyTo h)) h.tallyTo.updTally

theorem Keeps.sourceLost (h : Keeps s u) : Keeps s u.sourceLost := by
  unfold State.sourceLost
  exact .ite h h.updTally

theorem Keeps.takeOffset {src use : Nat} (h : Keeps s u) : Keeps s (u.takeOffset src use) := by
  unfold State.takeOffset
  exact h.updTally

theorem Keeps.takeMark {known : Option Nat} {use : Nat} (h : Keeps s u) : Keeps s (u.takeMark known use) := by
  unfold State.takeMark
  extract_lets t named src s1 s2
  have h1 : Keeps s s1 := .ite h.updTally h
  exact .ite (.ite h1.updTally.takeOffset h1.updTally.tallyTo.updTally) (.ite h1.takeOffset h1.updTally)

/-! ## The power system -/

theorem Keeps.updPwr {f : PwrSt → PwrSt} (h : Keeps s u) : Keeps s (u.updPwr f) := h.frame

theorem Keeps.updCounts {f : LifeCounts → LifeCounts} (h : Keeps s u) : Keeps s (u.updCounts f) := h.frame

theorem Keeps.commitCounts (h : Keeps s u) : Keeps s u.commitCounts := h.frame

theorem Keeps.powerDown (h : Keeps s u) : Keeps s u.powerDown := ⟨h.queue, h.fuses, fun _ => rfl, fun _ => rfl⟩

theorem Keeps.powerFaults {die cause : Nat} (h : Keeps s u) : Keeps s (u.powerFaults die cause) := by
  unfold State.powerFaults
  exact h.updCounts.lifeFault.commitCounts.powerDown.updPwr

theorem Keeps.stopNow {which : SlotIx → Bool} {status : Nat} (h : Keeps s u) : Keeps s (u.stopNow which status) :=
  .foldl (fun _ _ h => .ite h.endJob h) h

theorem Keeps.dieFails {d cause : Nat} (h : Keeps s u) : Keeps s (u.dieFails d cause) := h.setReg.updCounts.lifeFault.retryFail

theorem Keeps.fieldParks {g : Nat} (h : Keeps s u) : Keeps s (u.fieldParks g) := by
  unfold State.fieldParks
  exact .stopNow (.foldl (fun _ _ h => h.abortPark.updZone) h)

theorem Keeps.fieldDieFails {d cause : Nat} (h : Keeps s u) : Keeps s (u.fieldDieFails d cause) :=
  .ite h (.ite h.dieFails.bump (.ite h.dieFails.fieldParks h.dieFails.powerFaults))

theorem Keeps.stacksLost {lo n : Nat} {contents : Bool} (h : Keeps s u) : Keeps s (u.stacksLost lo n contents) := by
  unfold State.stacksLost
  refine .stopNow (h.stored fun hu => ?_)
  dsimp only
  split
  · exact hu
  · exact Mem.wf_filter _ _ hu

theorem Keeps.edgeDieFails {d cause : Nat} (h : Keeps s u) : Keeps s (u.edgeDieFails d cause) := by
  unfold State.edgeDieFails
  refine .ite h ?_
  extract_lets
  split
  · exact .stopNow (.foldl (fun _ _ h => h.linkGoDown.updLink) h.dieFails)
  · exact h.dieFails.stacksLost
  · exact h.dieFails.stacksLost
  · exact h.dieFails.stacksLost
  · exact h.dieFails.stacksLost
  · exact h.dieFails.stacksLost
  · exact h.dieFails.powerFaults

theorem Keeps.execRegDieFault {d : Fin 48} {cause : Fin 6} (h : Keeps s u) : ResKeeps s (execRegDieFault d cause u) :=
  .next h.fieldDieFails.noteFeatures

theorem Keeps.execEdgeRegFault {d : Fin 8} {cause : Fin 6} (h : Keeps s u) : ResKeeps s (execEdgeRegFault d cause u) :=
  .next h.edgeDieFails.noteFeatures

theorem Keeps.evalHeadroom {g : Nat} (h : Keeps s u) : Keeps s (u.evalHeadroom g) := by
  unfold State.evalHeadroom
  exact .foldl (fun _ _ h => h.updZoneClk) h

theorem Keeps.execVlogRegulationTick {g : GroupIx} {needMv : Nat} (h : Keeps s u) : ResKeeps s (execVlogRegulationTick g needMv u) := by
  unfold Machine.execVlogRegulationTick
  exact .next (.ite h.updPwr.evalHeadroom.retarget h.updPwr)

theorem Keeps.execRatingExcess {g : GroupIx} (h : Keeps s u) : ResKeeps s (execRatingExcess g u) := .next h.updPwr.evalHeadroom.retarget

theorem Keeps.holdZone {z : Nat} (h : Keeps s u) : Keeps s (u.holdZone z) := by
  unfold State.holdZone
  exact .ite h.faultHold.beginPark h.faultHold

theorem Keeps.sensorFails {kind index : Nat} (h : Keeps s u) : Keeps s (u.sensorFails kind index) := by
  unfold State.sensorFails
  exact .ite h (.ite (.retarget (.holdZone (.ite h h.updPwr))) (.ite h h.updPwr))

theorem Keeps.execSensorFailMark {kind : Fin 3} {index : Nat} (h : Keeps s u) : ResKeeps s (execSensorFailMark kind index u) :=
  .next h.sensorFails.noteFeatures

theorem Keeps.ledger {g : GroupIx} {meas : Nat} {ws : List Nat} (h : Keeps s u) : Keeps s (u.ledger g meas ws) := by
  unfold State.ledger
  exact .updPwr (.foldl (fun _ _ h => h.updZone) h)

theorem Keeps.execCurrentLedgerTick {g : GroupIx} {measuredQa : Nat} {weights : List Nat} (h : Keeps s u) :
    ResKeeps s (execCurrentLedgerTick g measuredQa weights u) :=
  .next h.ledger

theorem Keeps.execZoneSwitchOnRequest {z : ZoneIx} (h : Keeps s u) : ResKeeps s (execZoneSwitchOnRequest z u) := .next (.ite h h.requestOn)

theorem Keeps.execZoneRampStart {z : ZoneIx} {waitUs : Nat} (h : Keeps s u) : ResKeeps s (execZoneRampStart z waitUs u) := by
  unfold Machine.execZoneRampStart
  exact .next (.ite h.startRamp h)

theorem Keeps.execSlowRampStart {z : ZoneIx} (h : Keeps s u) : ResKeeps s (execSlowRampStart z u) := by
  unfold Machine.execSlowRampStart
  exact .next (.ite h.startRamp.bump h)

theorem Keeps.execZonePowerGood {z : ZoneIx} (h : Keeps s u) : ResKeeps s (execZonePowerGood z u) := .next (.ite h.powerGood h)

theorem Keeps.domainFault {z : Nat} (h : Keeps s u) : Keeps s (u.domainFault z) := by
  unfold State.domainFault
  exact h.forTiles.updZone.bump.abandonTests

theorem Keeps.execPowerGoodTimeout {z : ZoneIx} (h : Keeps s u) : ResKeeps s (execPowerGoodTimeout z u) :=
  .next (.noteFeatures (.ite h.domainFault h))

theorem Keeps.execZonePark {z : ZoneIx} (h : Keeps s u) : ResKeeps s (execZonePark z u) := .next (.ite h.fieldParks (.ite h.beginPark h))

theorem Keeps.execZoneIdlePark {z : ZoneIx} (h : Keeps s u) : ResKeeps s (execZoneIdlePark z u) := .next (.ite h.beginPark h)

theorem Keeps.execParkingComplete {z : ZoneIx} (h : Keeps s u) : ResKeeps s (execParkingComplete z u) := .next h.parkDone.startTests.noteFeatures

theorem Keeps.countLeft {left : Bool} (h : Keeps s u) : Keeps s (u.countLeft left) := h.bump

theorem Keeps.writePark {toOff : Bool} {m : Nat} (h : Keeps s u) : Keeps s (State.writePark toOff m u).1 :=
  .iteFst h.refuse (.fst (.ite (.foldl (fun _ _ h => .ite h.beginPark h) h) (.countLeft (.foldl (fun _ _ h => .ite h.beginPark h) h))))

theorem Keeps.execParkRequest {car : Carrier} {mask : U64} (h : Keeps s u) : ResKeeps s (execParkRequest car mask u) :=
  h.mgmtWrite (fun h => h.writePark)

theorem Keeps.execPowerOffRequest {car : Carrier} {mask : U64} (h : Keeps s u) : ResKeeps s (execPowerOffRequest car mask u) :=
  h.mgmtWrite (fun h => h.featWriter (fun h => h.writePark))

theorem Keeps.writeUnpark {m : Nat} (h : Keeps s u) : Keeps s (State.writeUnpark m u).1 :=
  .iteFst h.refuse (.fst (.countLeft (.foldl (fun _ _ h => .ite h.requestOn h) h)))

theorem Keeps.execUnparkRequest {car : Carrier} {mask : U64} (h : Keeps s u) : ResKeeps s (execUnparkRequest car mask u) :=
  h.mgmtWrite (fun h => h.writeUnpark)

theorem Keeps.heat {z : Nat} {t : Int} (h : Keeps s u) : Keeps s (u.heat z t) := by
  unfold State.heat
  extract_lets
  split
  · exact .ite h.beginPark.raise h
  · exact .ite h (.raise (.askStop (.ite h.updZone.bump h.updZone)))

theorem Keeps.sampleTemps {ts : List Int} (h : Keeps s u) : Keeps s (u.sampleTemps ts) := by
  unfold State.sampleTemps
  refine .foldl (fun _ _ h => ?_) h.updPwr
  split
  · exact h
  · exact h.updZone.updZoneClk.heat

theorem Keeps.dieTemp (h : Keeps s u) : Keeps s u.dieTemp := by
  unfold State.dieTemp
  exact h.updPwr.updCounts

theorem Keeps.execTempSample {temps : List Int} (h : Keeps s u) : ResKeeps s (execTempSample temps u) := .next h.sampleTemps.dieTemp.retarget

theorem Keeps.execOvertempHoldRelease {z : ZoneIx} (h : Keeps s u) : ResKeeps s (execOvertempHoldRelease z u) :=
  .next (.ite h.updZone.noteFeatures h)

theorem Keeps.setUnmet {b : Bool} (h : Keeps s u) : Keeps s (u.setUnmet b) := .ite h h.updPwr.raise

theorem Keeps.checkLimit {avg : Nat} (h : Keeps s u) : Keeps s (u.checkLimit avg) := by
  unfold State.checkLimit
  refine .ite (.ite ?_ h.updPwr.updPwr) h.updPwr.updPwr.setUnmet
  split
  · exact h.updPwr.updPwr.beginPark
  · exact h.updPwr.updPwr.setUnmet.bump

theorem Keeps.execPowerLimitCheck {averageW : Nat} (h : Keeps s u) : ResKeeps s (execPowerLimitCheck averageW u) :=
  .next (.retarget (.foldl (fun _ _ h => h.evalHeadroom) h.checkLimit))

theorem Keeps.trip {sensor : Nat} (h : Keeps s u) : Keeps s (u.trip sensor) := by
  unfold State.trip
  refine .ite h ?_
  extract_lets now s1 s2 s3 memSrc pwrSrc s4
  have h1 : Keeps s s1 := .foldl (fun _ _ h => .ite h h.endJob) h
  have h3 : Keeps s s3 := .foldl (fun _ _ h => h.linkGoDown.updLink) h1.abandonTests
  clear_value s3
  have h4 : Keeps s s4 := h3.cleared
  exact h4.updCounts.lifeFault.commitCounts

theorem Keeps.execThermalTrip {sensor : Nat} (h : Keeps s u) : ResKeeps s (execThermalTrip sensor u) := .next h.trip.noteFeatures

theorem Keeps.share {p0 e : Nat} {uses : Job → Bool} (h : Keeps s u) : Keeps s (u.share p0 e uses) := by
  unfold State.share
  exact .updPwr (.foldl (fun _ _ h => h.updJob) h)

theorem Keeps.divide {p0 e : Nat} {units : List (Nat × (Job → Bool))} (h : Keeps s u) : Keeps s (u.divide p0 e units) := by
  unfold State.divide
  exact .updPwr (.foldl (fun _ _ h => h.share) h)

theorem Keeps.energy {es : List Nat} (h : Keeps s u) : Keeps s (u.energy es) := by
  unfold State.energy
  exact .updCounts (.updPwr (.divide (.divide (.divide (.divide (.divide (.divide (.divide (.divide (.foldl (fun _ _ h => h.divide) h))))))))))

theorem Keeps.execEnergyPeriod {dieMicroJ : List Nat} (h : Keeps s u) : ResKeeps s (execEnergyPeriod dieMicroJ u) := by
  unfold Machine.execEnergyPeriod
  exact .next (.ite h.takeDue.energy h.takeDue)

/-! ## What a start does -/

theorem Keeps.updBoot {f : BootSt → BootSt} (h : Keeps s u) : Keeps s (u.updBoot f) := h.frame

theorem Keeps.verifyImage {kind : Nat} {b : List Byte} (h : Keeps s u) : Keeps s (u.verifyImage kind b).1 := by
  unfold State.verifyImage
  exact .iteFst h h.frame.bump.fst

theorem Keeps.itemFails {kind unit cause : Nat} (h : Keeps s u) : Keeps s (u.itemFails kind unit cause) := h.retryFail.updBoot

theorem Keeps.itemFailsNow {kind unit cause : Nat} (h : Keeps s u) : Keeps s (u.itemFailsNow kind unit cause) := .ite h h.itemFails

theorem Keeps.trySlots {item kind : Nat} {img : Nat → List Byte} {is : List Nat} (h : Keeps s u) : Keeps s (u.trySlots item kind img is).1 := by
  induction is generalizing u with
  | nil => exact h
  | cons i is ih => exact .iteFst (ih h) (.iteFst h.verifyImage.retryPass (ih h.verifyImage.itemFails))

theorem Keeps.updLog (h : Keeps s u) : Keeps s u.updLog := h.frame

theorem Keeps.stageOutcome {k ms : Nat} (h : Keeps s u) : Keeps s (u.stageOutcome k ms) := by
  unfold State.stageOutcome
  exact h.updBoot.updLog.commitCounts.raise

theorem Keeps.stageDone {k next : Nat} (h : Keeps s u) : Keeps s (u.stageDone k next) := h.updBoot.stageOutcome

theorem Keeps.endStart {k outcome : Nat} (h : Keeps s u) : Keeps s (u.endStart k outcome) := h.updBoot.stageOutcome

theorem Keeps.warmReset (h : Keeps s u) : Keeps s u.warmReset := h.frame

theorem Keeps.shutDown (h : Keeps s u) : Keeps s u.shutDown := h.cleared

theorem Keeps.beginStart {kind : Nat} (h : Keeps s u) : Keeps s (u.beginStart kind) := by
  unfold State.beginStart
  exact h.frame.frame

theorem Keeps.restart_ {kind : Nat} (h : Keeps s u) : Keeps s (u.restart_ kind) := by
  unfold State.restart_
  exact h.warmReset.shutDown.beginStart.random.frame

/-! ## Debug -/

theorem Keeps.dbgReplies {status : Nat} {data : List Byte} (h : Keeps s u) : Keeps s (u.dbgReplies status data) := h.frame

theorem Keeps.traceAdd {kind unit : Nat} {data : List Byte} (h : Keeps s u) : Keeps s (u.traceAdd kind unit data) := by
  unfold State.traceAdd
  exact h.frame

theorem Keeps.dbgCommand {need : Nat} {f : State → State} (h : Keeps s u) (hf : ∀ {v}, Keeps s v → Keeps s (f v)) : Keeps s (u.dbgCommand need f) :=
  .ite h (.ite h.dbgReplies (hf h))

theorem Keeps.onSlots {js : List SlotIx} {cond : Job → Bool} {f : State → SlotIx → State} (h : Keeps s u)
    (hf : ∀ {v j}, Keeps s v → Keeps s (f v j)) : Keeps s (u.onSlots js cond f) :=
  .ite h.dbgReplies (.ite h.dbgReplies (.dbgReplies (.foldl (fun _ _ h => hf h) h)))

theorem Keeps.armHalt {j : SlotIx} {h0 : HaltReq} (h : Keeps s u) : Keeps s (u.armHalt j h0) := h.frame.armTiles

theorem Keeps.execHaltAt {j : SlotIx} {all : Bool} {steps cycle aheadMs : Nat} (h : Keeps s u) :
    ResKeeps s (execHaltAt j all steps cycle aheadMs u) :=
  .next (h.dbgCommand (fun h => .ite h.dbgReplies (h.onSlots (fun h => h.armHalt.traceAdd))))

theorem Keeps.execHaltNow {j : SlotIx} {all : Bool} (h : Keeps s u) : ResKeeps s (execHaltNow j all u) :=
  .next (h.dbgCommand (fun h => h.onSlots (fun h => h.armHalt.traceAdd)))

theorem Keeps.freeze {j : SlotIx} {cyc cause : Nat} (h : Keeps s u) : Keeps s (u.freeze j cyc cause) := by
  unfold State.freeze
  exact .traceAdd (.frame (.updJob (.forTiles (.ite (.foldl (fun _ _ h => h.putTile) h) h))))

theorem Keeps.execJobHalt {j : SlotIx} (h : Keeps s u) : ResKeeps s (execJobHalt j u) := by
  unfold Machine.execJobHalt
  refine .next (.ite h ?_)
  split
  · exact h
  · exact .ite (.ite h.armHalt h.freeze) (.ite h.freeze h)

theorem Keeps.unfreeze {j : SlotIx} (h : Keeps s u) : Keeps s (u.unfreeze j) := by
  unfold State.unfreeze
  exact h.forTiles.updJob.frame

theorem Keeps.execResume {j : SlotIx} {all : Bool} (h : Keeps s u) : ResKeeps s (execResume j all u) :=
  .next (h.dbgCommand (fun h => h.onSlots (fun h => h.unfreeze.traceAdd)))

theorem Keeps.execStepCy {j : SlotIx} {all : Bool} {n : Nat} (h : Keeps s u) : ResKeeps s (execStepCy j all n u) :=
  .next (h.dbgCommand (fun h => .ite h.dbgReplies (h.onSlots (fun h => h.unfreeze.armHalt.traceAdd))))

theorem Keeps.execStepInsn {j : SlotIx} {i : CoreAt} (h : Keeps s u) : ResKeeps s (execStepInsn j i u) :=
  .next (h.dbgCommand (fun h => .ite h.dbgReplies (h.onSlots (fun h => h.unfreeze.armHalt.frame.traceAdd))))

theorem Keeps.dbgTile {need t : Nat} {f : State → State} (h : Keeps s u) (hf : ∀ {v}, Keeps s v → Keeps s (f v)) : Keeps s (u.dbgTile need t f) :=
  h.dbgCommand (fun h => .ite (hf h) h.dbgReplies)

theorem Keeps.execBpSet {i : CoreAt} {n : Fin 4} {pc : U16} {enable : Bool} (h : Keeps s u) : ResKeeps s (execBpSet i n pc enable u) :=
  .next (h.dbgTile (fun h => h.updTile.traceAdd.dbgReplies))

theorem Keeps.execWpSet {t : TileIx} {n : Fin 2} {p len : Nat} {kind : BitVec 2} {agents : BitVec 5} {enable : Bool} (h : Keeps s u) :
    ResKeeps s (execWpSet t n p len kind agents enable u) :=
  .next (h.dbgTile (fun h => .ite h.dbgReplies h.updTile.traceAdd.dbgReplies))

theorem Keeps.execClearPoints (h : Keeps s u) : ResKeeps s (execClearPoints u) := .next (h.dbgCommand (fun h => h.forTiles.dbgReplies))

theorem Keeps.stillTile {need t : Nat} {f : State → State} (h : Keeps s u) (hf : ∀ {v}, Keeps s v → Keeps s (f v)) :
    Keeps s (u.stillTile need t f) :=
  h.dbgTile (fun h => .ite (hf h) h.dbgReplies)

theorem Keeps.dbgWrote {j : SlotIx} {cmd : Nat} (h : Keeps s u) : Keeps s (u.dbgWrote j cmd) := by
  unfold State.dbgWrote
  exact .dbgReplies (.traceAdd (.ite h.frame h))

theorem Keeps.execReadCore {j : SlotIx} {i : CoreAt} {cls : Fin 4} {num : BitVec 12} (h : Keeps s u) : ResKeeps s (execReadCore j i cls num u) := by
  unfold Machine.execReadCore
  refine .next (h.stillTile (fun h => .ite h.dbgReplies ?_))
  split
  · exact h.dbgReplies
  · exact h.dbgReplies
  · exact h.dbgReplies
  · exact .ite h.dbgReplies h.dbgReplies

theorem Keeps.execWriteCore {j : SlotIx} {i : CoreAt} {cls : Fin 4} {num : BitVec 12} {value : V512} (h : Keeps s u) :
    ResKeeps s (execWriteCore j i cls num value u) := by
  unfold Machine.execWriteCore
  refine .next (h.stillTile (fun h => .ite h.dbgReplies ?_))
  split
  · exact h.updTile.dbgWrote
  · exact h.updTile.dbgWrote
  · exact h.updTile.dbgWrote
  · exact .ite h.dbgReplies h.updTile.dbgWrote

theorem Keeps.execReadSp {j : SlotIx} {t : TileIx} {p len : Nat} (h : Keeps s u) : ResKeeps s (execReadSp j t p len u) := by
  unfold Machine.execReadSp
  exact .next (h.stillTile (fun h => .ite h.dbgReplies h.dbgReplies))

theorem Keeps.execWriteSp {j : SlotIx} {t : TileIx} {p : Nat} {data : List Byte} (h : Keeps s u) : ResKeeps s (execWriteSp j t p data u) :=
  .next (h.stillTile (fun h => .ite h.dbgReplies h.updTile.dbgWrote))

theorem Keeps.execReadMem {addr len : Nat} (h : Keeps s u) : ResKeeps s (execReadMem addr len u) :=
  .next (h.dbgCommand (fun h => .ite h.dbgReplies h.dbgReplies))

theorem Keeps.execWriteMem {j : SlotIx} {addr : Nat} {data : List Byte} (h : Keeps s u) : ResKeeps s (execWriteMem j addr data u) :=
  .next (h.dbgCommand (fun h => .ite h.dbgReplies h.memWrite.dbgWrote))

theorem Keeps.execReadFrame {j : SlotIx} {t : TileIx} {bank : Fin 2} {row : Fin 32} (h : Keeps s u) :
    ResKeeps s (execReadFrame j t bank row u) := by
  unfold Machine.execReadFrame
  exact .next (h.stillTile (fun h => h.dbgReplies))

/-! ## Attestation -/

theorem Keeps.doeAnswer {msg : List Byte} (h : Keeps s u) : Keeps s (u.doeAnswer msg) := h.send

theorem Keeps.updHost {f : HostSt → HostSt} (h : Keeps s u) : Keeps s (u.updHost f) := h.frame

theorem Keeps.spdmChallenge {req : List Byte} (h : Keeps s u) : Keeps s (u.spdmChallenge req) := by
  unfold State.spdmChallenge
  exact h.random.updHost.doeAnswer

theorem Keeps.spdmMeasurements {index : Nat} {sign : Bool} {req : List Byte} (h : Keeps s u) : Keeps s (u.spdmMeasurements index sign req) := by
  unfold State.spdmMeasurements
  exact .ite h.doeAnswer (.ite h.random.updHost.doeAnswer h.random.updHost.doeAnswer)

theorem Keeps.serveDoe {r : DoeReq} (h : Keeps s u) : Keeps s (u.serveDoe r) := by
  unfold State.serveDoe
  extract_lets
  split
  · exact h.send
  · exact h.updHost.doeAnswer
  · exact .ite h.doeAnswer h.updHost.doeAnswer
  · exact .ite h.doeAnswer h.updHost.doeAnswer
  · exact .ite h.doeAnswer h.updHost.doeAnswer
  · exact .ite h.doeAnswer (.ite h.doeAnswer h.updHost.doeAnswer)
  · exact .ite h.doeAnswer (.ite h.doeAnswer h.spdmChallenge)
  · exact .ite h.doeAnswer (.ite h.doeAnswer h.spdmMeasurements)

theorem Keeps.doe {r : DoeReq} (h : Keeps s u) : Keeps s (u.doe r) := .ite h (.ite h.updHost h.serveDoe)

theorem Keeps.doeDrain (h : Keeps s u) : Keeps s u.doeDrain := by
  unfold State.doeDrain
  exact .foldl (fun _ _ h => h.serveDoe) h.updHost

theorem Keeps.execGetVersion (h : Keeps s u) : ResKeeps s (execGetVersion u) := .next h.doe

theorem Keeps.execGetCapabilities (h : Keeps s u) : ResKeeps s (execGetCapabilities u) := .next h.doe

theorem Keeps.execNegotiateAlgorithms {asym hash : U32} (h : Keeps s u) : ResKeeps s (execNegotiateAlgorithms asym hash u) := .next h.doe

theorem Keeps.execGetDigests (h : Keeps s u) : ResKeeps s (execGetDigests u) := .next h.doe

theorem Keeps.execGetCertificate {slot : Byte} {offset len : U16} (h : Keeps s u) : ResKeeps s (execGetCertificate slot offset len u) := .next h.doe

theorem Keeps.execChallenge {slot : Byte} {nonce : List Byte} (h : Keeps s u) : ResKeeps s (execChallenge slot nonce u) := .next h.doe

theorem Keeps.execGetMeasurements {index : Byte} {sign : Bool} {nonce : List Byte} (h : Keeps s u) :
    ResKeeps s (execGetMeasurements index sign nonce u) :=
  .next h.doe

theorem Keeps.execDoeDiscovery {index : Byte} (h : Keeps s u) : ResKeeps s (execDoeDiscovery index u) := .next h.doe

/-! ## Power tokens -/

theorem Keeps.updToken {f : TokenSt → TokenSt} (h : Keeps s u) : Keeps s (u.updToken f) := h.updPwr

theorem Keeps.setPool {pool : Nat} (h : Keeps s u) : Keeps s (u.setPool pool) := by
  unfold State.setPool
  exact h.updToken

theorem Keeps.writePool {v : Nat} (h : Keeps s u) : Keeps s (State.writePool v u).1 := h.rwj (fun h => .fst (.ite h.setPool h.updToken))

theorem Keeps.execTokenPoolW {car : Carrier} {value : U32} (h : Keeps s u) : ResKeeps s (execTokenPoolW car value u) :=
  h.mgmtWrite (fun h => h.writePool)

theorem Keeps.tokenBreak (h : Keeps s u) : Keeps s u.tokenBreak := h.bump.send.setPool

theorem Keeps.applyMove {seq w : Nat} {up : Bool} (h : Keeps s u) : Keeps s (u.applyMove seq w up) := .ite h h.updToken

theorem Keeps.tokenAck {device seq holding : Nat} (h : Keeps s u) : Keeps s (u.tokenAck device seq holding) := by
  unfold State.tokenAck
  extract_lets
  split
  · exact h
  · exact .ite h (.ite (.ite h (.ite h.updToken.tokenBreak h.updToken.send)) (.ite h (.ite h.updToken.tokenBreak h.updToken.bump)))

theorem Keeps.ownHalves (h : Keeps s u) : Keeps s u.ownHalves := by
  unfold State.ownHalves
  extract_lets me half
  have half_keeps : ∀ {v}, Keeps s v → Keeps s (half v) := by
    intro v h
    unfold half
    split
    · exact .ite h.applyMove.tokenAck (.ite h.applyMove.tokenAck h)
    · exact h
  exact half_keeps (half_keeps h)

theorem Keeps.tokenReports {rs : List (Nat × Nat × Nat)} (h : Keeps s u) : Keeps s (u.tokenReports rs) := by
  unfold State.tokenReports
  refine .ite h (.ite h.tokenBreak ?_)
  extract_lets
  split
  · exact .ite h (.ownHalves (.ite h.updToken h.updToken.send))
  · exact h

theorem Keeps.execTokenPeriod {reports : List (Nat × Nat × Nat)} (h : Keeps s u) : ResKeeps s (execTokenPeriod reports u) := by
  unfold Machine.execTokenPeriod
  exact .next (.ite h.takeDue.tokenReports h.takeDue)

theorem Keeps.ackMove {seq : Nat} (h : Keeps s u) : Keeps s (u.ackMove seq) := h.send

theorem Keeps.execTokenDebit {seq w : Nat} (h : Keeps s u) : ResKeeps s (execTokenDebit seq w u) := .next h.applyMove.ackMove

theorem Keeps.execTokenCredit {seq w : Nat} (h : Keeps s u) : ResKeeps s (execTokenCredit seq w u) := .next h.applyMove.ackMove

theorem Keeps.execTokenAck {device seq holding : Nat} (h : Keeps s u) : ResKeeps s (execTokenAck device seq holding u) := .next h.tokenAck.ownHalves

theorem Keeps.execTokenAckTimeout (h : Keeps s u) : ResKeeps s (execTokenAckTimeout u) := by
  unfold Machine.execTokenAckTimeout
  split
  · exact .next h
  · exact .ite (.next (.ite h.updToken.send h.updToken.send)) (.next h.updToken)

theorem Keeps.execTokenMasterSilence (h : Keeps s u) : ResKeeps s (execTokenMasterSilence u) := .next (.ite h.updToken h)

/-! ## The commands of the links -/

theorem Keeps.execLaserLoss {k : LinkDieIx} {lambda : Fin 9} (h : Keeps s u) : ResKeeps s (execLaserLoss k lambda u) :=
  .ite (.next h) (.next (.foldl (fun _ _ h => h.linkGoDown.updLink) h))

theorem Keeps.execRxSignalLoss {l : LinkIx} (h : Keeps s u) : ResKeeps s (execRxSignalLoss l u) := .next h.linkGoDown

theorem Keeps.execFecLockLoss {l : LinkIx} (h : Keeps s u) : ResKeeps s (execFecLockLoss l u) := .next h.linkGoDown

theorem Keeps.execLinkDown {l : LinkIx} (h : Keeps s u) : ResKeeps s (execLinkDown l u) := .next h.linkGoDown

theorem Keeps.linkTo {l : Nat} {k : LinkSt} (h : Keeps s u) : Keeps s (u.linkTo l k) := h.setLink.linkEvent

theorem Keeps.execLinkRetrain {l : LinkIx} {ok : Bool} {latencyNs : Nat} (h : Keeps s u) : ResKeeps s (execLinkRetrain l ok latencyNs u) := by
  unfold Machine.execLinkRetrain
  exact .ite (.next h) (.ite (.next h.linkTo) (.ite (.next h.setLink) (.next h.linkTo)))

theorem Keeps.execLaserLightArrival {k : LinkDieIx} (h : Keeps s u) : ResKeeps s (execLaserLightArrival k u) :=
  .next (.foldl (fun _ _ h => .ite h.linkTo h.updLink) h)

theorem Keeps.flood {except_ : Nat} (h : Keeps s u) : Keeps s (u.flood except_) := .foldl (fun _ _ h => h.send) h

theorem Keeps.negotiate {l : Nat} {f : Identity} (h : Keeps s u) : Keeps s (u.negotiate l f) := by
  unfold State.negotiate
  refine .ite h ?_
  split
  · exact h.linkTo.bump
  · extract_lets slow bad s1 s2 links s3 s4
    have h2 : Keeps s s2 := .ite h.setLink h.setLink.linkComesUp
    have h4 : Keeps s s4 := .cascadeState (.ite h2 h2.frame)
    exact .ite h4.flood h4

theorem Keeps.execIdentityFlit {l : LinkIx} {f : Identity} (h : Keeps s u) : ResKeeps s (execIdentityFlit l f u) := .next h.negotiate

theorem Keeps.flitArrives {l : Nat} {bytes : List Byte} {symbols : Nat} (h : Keeps s u) : Keeps s (u.flitArrives l bytes symbols) := by
  unfold State.flitArrives
  exact .ite h (.ite h.setLink.updLink.flitFails (.ite h.setLink.takeHeader (.ite h.setLink.takeHeader.flitFails
      h.setLink.takeHeader.updLink.portReceive)))

theorem Keeps.execDataFlitReceive {l : LinkIx} {bytes : List Byte} {symbols : Nat} (h : Keeps s u) :
    ResKeeps s (execDataFlitReceive l bytes symbols u) :=
  .next h.flitArrives

theorem Keeps.execNakReceive {l : LinkIx} {fseq : BitVec 12} (h : Keeps s u) : ResKeeps s (execNakReceive l fseq u) := .next (.ite h.replayFrom h)

theorem Keeps.execReplayTimer {l : LinkIx} (h : Keeps s u) : ResKeeps s (execReplayTimer l u) := by
  unfold Machine.execReplayTimer
  refine .next (.ite ?_ h)
  split
  · exact h.replayFrom
  · exact h

theorem Keeps.execRetryLimit {l : LinkIx} (h : Keeps s u) : ResKeeps s (execRetryLimit l u) := .next (.ite h.linkGoDown h)

theorem Keeps.execAuditFlit {l : LinkIx} {sent credited : List Nat} (h : Keeps s u) : ResKeeps s (execAuditFlit l sent credited u) := by
  unfold Machine.execAuditFlit
  exact .ite (.next h) (.next h.linkFault.portStop.bump)

theorem Keeps.setRow {key : Nat} {ls : List SwLine} (h : Keeps s u) : Keeps s (u.setRow key ls) := h.frame

theorem Keeps.countXfer {p dev : Nat} {landed : Bool} (h : Keeps s u) : Keeps s (u.countXfer p dev landed) := by
  unfold State.countXfer
  split
  · exact h
  · exact h.updJob

theorem Keeps.sendTransfer {right : Bool} {row : Nat} (h : Keeps s u) : Keeps s (u.sendTransfer right row) := by
  unfold State.sendTransfer
  extract_lets
  split
  · exact h
  · split
    · exact h.setRow
    · extract_lets
      split
      · exact h.setRow.linkFault.portStop
      · exact .ite h (.ite h.setRow.linkBeadFails.countXfer.bump h.setRow.linkBeadFails.countXfer.enqueue)

theorem Keeps.execPlanTransferSend {right : Bool} {row : Nat} (h : Keeps s u) : ResKeeps s (execPlanTransferSend right row u) :=
  .next h.sendTransfer

theorem Keeps.takeReady {p : Nat} {fs : List (Nat × DataFlit)} (h : Keeps s u) : Keeps s (u.takeReady p fs) :=
  .foldl (fun _ _ h => h.returnCredit) h.updPort

theorem Keeps.landTransfer {p : Nat} {reduction : Bool} (h : Keeps s u) : Keeps s (u.landTransfer p reduction) := by
  unfold State.landTransfer
  extract_lets vl fs
  cases fs with
  | nil => exact h
  | cons f fs =>
    dsimp only
    split
    · exact h.takeReady.linkFault.portStop
    · refine .ite h (.ite ?_ (.ite h.takeReady.linkFault.portStop (.foldl (fun _ _ h => h.meshInject) h.takeReady.linkBeadFails.countXfer)))
      split
      · exact .ite h.takeReady.bump h.takeReady.enqueue.bump
      · exact h.takeReady.bump

theorem Keeps.execTransferLanding {p : PortIx} {reduction : Bool} (h : Keeps s u) : ResKeeps s (execTransferLanding p reduction u) :=
  .next h.landTransfer

theorem Keeps.execLinkCalibrationIdle {l : LinkIx} (h : Keeps s u) : ResKeeps s (execLinkCalibrationIdle l u) := .next h

theorem Keeps.execTallyFlitSend {l : LinkIx} (h : Keeps s u) : ResKeeps s (execTallyFlitSend l u) := .next (.ite h.send h)

theorem Keeps.tallyFlit {l t hops : Nat} (h : Keeps s u) : Keeps s (u.tallyFlit l t hops) := by
  unfold State.tallyFlit
  exact .ite h (.foldl (fun _ _ h => h.send) (.ite h.frame.updTally.takeMark h.frame.updTally))

theorem Keeps.execTallyFlitReceive {l : LinkIx} {tally : U64} {hops : Byte} (h : Keeps s u) : ResKeeps s (execTallyFlitReceive l tally hops u) :=
  .next h.tallyFlit

theorem Keeps.execLinkTallyLoss (h : Keeps s u) : ResKeeps s (execLinkTallyLoss u) := by
  unfold Machine.execLinkTallyLoss
  exact .next (.ite h.frame.updTally.sourceLost h.frame.updTally)

theorem Keeps.groupsLost (h : Keeps s u) : Keeps s u.groupsLost := .foldl (fun _ _ h => .ite h.applyDecision h) h

theorem Keeps.execMasterElectionAnnounce {l : LinkIx} {identity : Nat} (h : Keeps s u) : ResKeeps s (execMasterElectionAnnounce l identity u) :=
  .ite (.next h) (.ite (.next (.flood (.frame (.ite h h.frame)))) (.next (.ite h h.frame)))

theorem Keeps.execElectionSettle (h : Keeps s u) : ResKeeps s (execElectionSettle u) :=
  .ite (.next h) (.next (.ite (.setPool (.ite h.frame.groupsLost h.frame)) (.ite h.frame.groupsLost h.frame)))

theorem Keeps.execMasterHeartbeat (h : Keeps s u) : ResKeeps s (execMasterHeartbeat u) := .next (.ite h.send h)

theorem Keeps.execHeartbeatLoss (h : Keeps s u) : ResKeeps s (execHeartbeatLoss u) := .ite (.next h) (.next h.frame.bump.groupsLost.flood)

theorem Keeps.stopGroup {j : SlotIx} {st : Nat} (h : Keeps s u) : Keeps s (u.stopGroup j st) := h.decideGroup

theorem Keeps.memberReady {j : SlotIx} {device : Nat} {members : List Nat} {key : Nat} (h : Keeps s u) :
    Keeps s (u.memberReady j device members key) := by
  unfold State.memberReady
  exact .ite h (.ite h.updJob (.ite h.updJob.stopGroup (.ite h.updJob.stopGroup (.foldl (fun _ _ h => h.send) h.updJob.updJob))))

theorem Keeps.execGroupReady {j : SlotIx} {device : Nat} {members : List Nat} {key : U64} (h : Keeps s u) :
    ResKeeps s (execGroupReady j device members key u) :=
  .next h.memberReady

theorem Keeps.execGroupStartTally {j : SlotIx} {tally : U64} (h : Keeps s u) : ResKeeps s (execGroupStartTally j tally u) := .next (.ite h.updJob h)

theorem Keeps.execGroupReadyTimeout {j : SlotIx} (h : Keeps s u) : ResKeeps s (execGroupReadyTimeout j u) := by
  unfold Machine.execGroupReadyTimeout
  exact .next (.ite h.stopGroup h)

theorem Keeps.execGroupFenceReport {j : SlotIx} {r : GroupReport} (h : Keeps s u) : ResKeeps s (execGroupFenceReport j r u) :=
  .next (.ite h h.takeReport.noteFeatures)

theorem Keeps.execGroupDecision {j : SlotIx} {d : Proposal} (h : Keeps s u) : ResKeeps s (execGroupDecision j d u) :=
  .next h.applyDecision.noteFeatures

theorem Keeps.execGroupReportTimeout {j : SlotIx} (h : Keeps s u) : ResKeeps s (execGroupReportTimeout j u) :=
  .next (.ite h h.stopGroup.noteFeatures)

/-! ## Stages of a start -/

theorem Keeps.execColdStart (h : Keeps s u) : ResKeeps s (execColdStart u) := .next (.ite h h.powerDown.updBoot.beginStart)

theorem Keeps.dieAtS0 {failed : List RegDieIx} {d : Nat} (h : Keeps s u) : Keeps s (u.dieAtS0 failed d) :=
  .ite h.setReg (.ite h.setReg.itemFailsNow h.setReg.retryPass)

theorem Keeps.execS0Rails {failedDies : List RegDieIx} {strap1 strap2 strap3 : BitVec 7} (h : Keeps s u) :
    ResKeeps s (execS0Rails failedDies strap1 strap2 strap3 u) := by
  unfold Machine.execS0Rails
  refine .ite (.next h) ?_
  extract_lets
  split
  · exact .next (.powerFaults (.foldl (fun _ _ h => h.dieAtS0) h.frame))
  · exact .next (.stageDone (.updPwr (.foldl (fun _ _ h => h.dieAtS0) h.frame)))

theorem Keeps.takeAddresses (h : Keeps s u) : Keeps s u.takeAddresses := by
  unfold State.takeAddresses
  exact h.frame

theorem Keeps.bootSlots (h : Keeps s u) : Keeps s u.bootSlots.1 := h.trySlots

theorem Keeps.mgmtRuns {slot : Nat} (h : Keeps s u) : Keeps s (u.mgmtRuns slot) := by
  unfold State.mgmtRuns
  exact h.frame

theorem Keeps.execS1Boot (h : Keeps s u) : ResKeeps s (execS1Boot u) := by
  unfold Machine.execS1Boot
  refine .ite ?_ (.ite ?_ (.next h))
  · extract_lets
    split
    · exact .next h.bootSlots.mgmtRuns.updPwr.random.frame.takeAddresses.stageDone
    · exact .next h.bootSlots.updPwr.endStart
  · extract_lets
    split
    · exact .next h.bootSlots.mgmtRuns.doeDrain
    · exact .next h.bootSlots

theorem Keeps.buildMap (h : Keeps s u) : Keeps s u.buildMap := h.frame

theorem Keeps.startHolds (h : Keeps s u) : Keeps s u.startHolds := .foldl (fun _ _ h => h.updZone) h.frame

theorem Keeps.linksAtS2 (h : Keeps s u) : Keeps s u.linksAtS2 := .foldl (fun _ _ h => h.updLink) h

theorem Keeps.takeIdentity (h : Keeps s u) : Keeps s u.takeIdentity := by
  unfold State.takeIdentity
  exact .ite h.frame.updClk h.frame

theorem Keeps.s2Values {fuse0Ok : Bool} (h : Keeps s u) : Keeps s (u.s2Values fuse0Ok) := by
  unfold State.s2Values
  exact h.startHolds.linksAtS2.frame.updPwr

theorem Keeps.execS2FusesAndShadowMap {fuse0Ok fuse1Ok journalOk : Bool} (h : Keeps s u) :
    ResKeeps s (execS2FusesAndShadowMap fuse0Ok fuse1Ok journalOk u) :=
  .ite (.next h) (.ite (.next h.endStart) (.next (.ite h.s2Values.buildMap.takeIdentity.endStart h.s2Values.buildMap.takeIdentity.stageDone)))

theorem Keeps.zoneAtS3 {notGood : List ZoneIx} {z : Nat} (h : Keeps s u) : Keeps s (u.zoneAtS3 notGood z) :=
  .ite h (.ite h.updZone (.ite h.domainFault.itemFailsNow h.powerGood.retryPass))

theorem Keeps.execS3DomainsOn {notGood : List ZoneIx} (h : Keeps s u) : ResKeeps s (execS3DomainsOn notGood u) :=
  .ite (.next h) (.next (.stageDone (.foldl (fun _ _ h => h.updLink) (.foldl (fun _ _ h => h.zoneAtS3) h.updPwr))))

theorem Keeps.execS4ClockAlignment {failed : List ZoneIx} (h : Keeps s u) : ResKeeps s (execS4ClockAlignment failed u) :=
  .ite (.next h)
    (.ite (.next (.stageDone (.retarget (.foldl (fun _ _ h => h.retryPass) h.updClk)))) (.next (.endStart (.foldl (fun _ _ h => h.itemFailsNow) h))))

theorem Keeps.rampStep (h : Keeps s u) : Keeps s u.rampStep := by
  unfold State.rampStep
  exact .ite h h.updPwr.updClk.applySwitch.updClk

theorem Keeps.ramp (h : Keeps s u) : Keeps s u.ramp := .foldl (fun _ _ h => h.rampStep) h

theorem Keeps.s5Enter {ws : List U32} (h : Keeps s u) : Keeps s (u.s5Enter ws) := .foldl (fun _ _ h => h.enterDefect) h

theorem Keeps.returnPass (h : Keeps s u) : Keeps s u.returnPass := by
  unfold State.returnPass
  exact .ite h.updBoot.startHolds.buildMap (.foldl (fun _ _ h => .ite h.powerGood h) h.updBoot.startHolds.buildMap.cleared)

theorem Keeps.execS5TileTest {defects returnDefects : List U32} (h : Keeps s u) : ResKeeps s (execS5TileTest defects returnDefects u) := by
  unfold Machine.execS5TileTest
  refine .ite (.next h) ?_
  extract_lets found s1 again s2 s3
  have h2 : Keeps s s2 := .ite h.ramp.s5Enter.returnPass h.ramp.s5Enter
  have h3 : Keeps s s3 := .ite h2.s5Enter h2
  exact .ite (.next h2.endStart) (.next h3.parkHeld.stageDone)

theorem Keeps.stackOut {m : StackIx} {state : Nat} (h : Keeps s u) : Keeps s (u.stackOut m state) := by
  unfold State.stackOut
  exact h.updStack.stored (Mem.wf_filter _ _)

theorem Keeps.stackIn {m : StackIx} {r : TrainResult} (h : Keeps s u) : Keeps s (u.stackIn m r) := by
  unfold State.stackIn
  extract_lets i sp recorded fresh s1 s2 s3
  have h2 : Keeps s s2 := .ite h.updStack.retryPass.itemFails h.updStack.retryPass
  have h3 : Keeps s s3 := .ite h2 h2.retryRemove
  exact h3.frame

theorem Keeps.stackAtS6 {results : List (StackIx × TrainResult)} {m : StackIx} (h : Keeps s u) : Keeps s (u.stackAtS6 results m) := by
  unfold State.stackAtS6
  exact .ite h.stackOut (.ite h.stackOut (.ite h.stackOut (.ite h.stackOut.itemFailsNow h.stackIn)))

theorem Keeps.execS6StackTraining {results : List (StackIx × TrainResult)} (h : Keeps s u) : ResKeeps s (execS6StackTraining results u) :=
  .ite (.next h) (.next (.stageDone (.retarget (.foldl (fun _ _ h => h.stackAtS6) h.frame))))

theorem Keeps.dieLinks {k : Nat} {f : Nat → LinkSt → LinkSt} (h : Keeps s u) : Keeps s (u.dieLinks k f) := .foldl (fun _ _ h => h.linkTo) h

theorem Keeps.dieAtS8 {failed : List LinkDieIx} {links : List (LinkIx × LinkTrain)} {k : Nat} (h : Keeps s u) :
    Keeps s (u.dieAtS8 failed links k) := by
  unfold State.dieAtS8
  exact .ite h (.ite h.dieLinks (.ite h.dieLinks.itemFailsNow h.dieLinks.retryPass.frame))

theorem Keeps.execS8LinkBringup {failedDies : List LinkDieIx} {links : List (LinkIx × LinkTrain)} (h : Keeps s u) :
    ResKeeps s (execS8LinkBringup failedDies links u) := by
  unfold Machine.execS8LinkBringup
  exact .ite (.next h) (.next (.stageOutcome (.updBoot (.foldl (fun _ _ h => h.dieAtS8) h.updPwr))))

theorem Keeps.countClean (h : Keeps s u) : Keeps s u.countClean := by
  unfold State.countClean
  exact h.frame

theorem Keeps.execS9Usable {elapsedMs : Nat} (h : Keeps s u) : ResKeeps s (execS9Usable elapsedMs u) :=
  .ite (.next h.updBoot.countClean.stageOutcome) (.next h)

theorem Keeps.execItemBudgetExpiry {item : ItemId} (h : Keeps s u) : ResKeeps s (execItemBudgetExpiry item u) := by
  unfold Machine.execItemBudgetExpiry
  exact .ite (.next h) (.next (.ite h.itemFails.updBoot.endStart (.ite h.itemFails.updBoot.faultHold h.itemFails.updBoot)))

theorem Keeps.execFailedHot {z : ZoneIx} (h : Keeps s u) : ResKeeps s (execFailedHot z u) := by
  unfold Machine.execFailedHot
  refine .ite (.next h) (.next (.endStart (.cleared ?_)))
  split
  · exact h.itemFailsNow
  · exact h

theorem Keeps.execTripCoolExpiry (h : Keeps s u) : ResKeeps s (execTripCoolExpiry u) := .next (.ite h.restart_ h)

theorem Keeps.writeTripRestart (h : Keeps s u) : Keeps s u.writeTripRestart.1 := .fst (.ite h.restart_ h)

theorem Keeps.execTripRestart {car : Carrier} (h : Keeps s u) : ResKeeps s (execTripRestart car u) := h.mgmtWrite (fun h => h.writeTripRestart)

theorem Keeps.clearEnded (h : Keeps s u) : Keeps s u.clearEnded := .foldl (fun _ _ h => .ite h.setJobState h) h

theorem Keeps.writeWarmRestart (h : Keeps s u) : Keeps s u.writeWarmRestart.1 := .iteFst h.clearEnded.restart_.fst h

theorem Keeps.execWarmRestart {car : Carrier} (h : Keeps s u) : ResKeeps s (execWarmRestart car u) := h.mgmtWrite (fun h => h.writeWarmRestart)

theorem Keeps.execBrownout (h : Keeps s u) : ResKeeps s (execBrownout u) := .next h.powerDown

theorem Keeps.execLifeRecordCommit (h : Keeps s u) : ResKeeps s (execLifeRecordCommit u) := by
  unfold Machine.execLifeRecordCommit
  exact .next (.ite h.takeDue.commitCounts h.takeDue)

/-! ## The commands of the clock system -/

theorem Keeps.execRefLoss (h : Keeps s u) : ResKeeps s (execRefLoss u) := .next (.ite h.updClk.bump h)

theorem Keeps.execRefReturn (h : Keeps s u) : ResKeeps s (execRefReturn u) := .next (.ite h.updClk h)

theorem Keeps.execCrossingSlip {t : TileIx} {port : Fin 4} (h : Keeps s u) : ResKeeps s (execCrossingSlip t port u) := h.onGrid (fun h => h.slip)

theorem Keeps.execDroopAssert {z : ZoneIx} {elapsed : Nat} (h : Keeps s u) : ResKeeps s (execDroopAssert z elapsed u) := .next h.droop

theorem Keeps.execShuntRecharged {z : ZoneIx} (h : Keeps s u) : ResKeeps s (execShuntRecharged z u) := .next h.updZoneClk

theorem Keeps.execStretchEnd {z : ZoneIx} (h : Keeps s u) : ResKeeps s (execStretchEnd z u) := .next h.stretchEnds

theorem Keeps.execStretchRestart {z : ZoneIx} (h : Keeps s u) : ResKeeps s (execStretchRestart z u) := .next h.restart

theorem Keeps.execStretchNotice {z origin : ZoneIx} {seq : BitVec 4} {len elapsed : Nat} (h : Keeps s u) :
    ResKeeps s (execStretchNotice z origin seq len elapsed u) :=
  .next h.copyStretch

theorem Keeps.execStretchExtension {z origin : ZoneIx} {seq : BitVec 4} {len : Nat} (h : Keeps s u) :
    ResKeeps s (execStretchExtension z origin seq len u) :=
  .next h.extendStretch

theorem Keeps.execFreqTargetChange {z : ZoneIx} {marginMhz : Nat} (h : Keeps s u) : ResKeeps s (execFreqTargetChange z marginMhz u) := by
  unfold Machine.execFreqTargetChange
  exact .next (.noteFeatures (.retarget (.ite h.updZoneClk.marginLost h.updZoneClk)))

theorem Keeps.execFreqSwitchAnnounce (h : Keeps s u) : ResKeeps s (execFreqSwitchAnnounce u) := .next (.ite h.announceDown h)

theorem Keeps.execStepUpDelayExpiry (h : Keeps s u) : ResKeeps s (execStepUpDelayExpiry u) := by
  unfold Machine.execStepUpDelayExpiry
  exact .ite (.next h) (.next h.updClk.frame)

theorem Keeps.execVlogTargetReached (h : Keeps s u) : ResKeeps s (execVlogTargetReached u) := by
  unfold Machine.execVlogTargetReached
  split
  · exact .next h
  · exact .next (.ite h.updClk.announce h)

theorem Keeps.execStepUpVoltageTimeout (h : Keeps s u) : ResKeeps s (execStepUpVoltageTimeout u) := by
  unfold Machine.execStepUpVoltageTimeout
  split
  · exact .next h
  · exact .next h.updClk.frame

theorem Keeps.execFreqSwitchApply (h : Keeps s u) : ResKeeps s (execFreqSwitchApply u) := by
  unfold Machine.execFreqSwitchApply
  exact .next (.ite h.takeDue.applySwitch h.takeDue)

theorem Keeps.execGuardWindowClose (h : Keeps s u) : ResKeeps s (execGuardWindowClose u) := .next h.updClk

theorem Keeps.execVlogLower (h : Keeps s u) : ResKeeps s (execVlogLower u) := by
  unfold Machine.execVlogLower
  exact .next (.ite h.takeDue.updClk.frame h.takeDue)

theorem Keeps.writeShimmer {v : Nat} (h : Keeps s u) : Keeps s (State.writeShimmer v u).1 := h.rwj (fun h => .iteFst h h.updClk.fst)

theorem Keeps.execShimmerEnable {car : Carrier} {value : Byte} (h : Keeps s u) : ResKeeps s (execShimmerEnable car value u) :=
  h.mgmtWrite (fun h => h.writeShimmer)

theorem Keeps.writeShimmerOffset {v : Nat} (h : Keeps s u) : Keeps s (State.writeShimmerOffset v u).1 := h.rwj (fun h => .iteFst h h.updClk.fst)

theorem Keeps.execShimmerOffset {car : Carrier} {value : U16} (h : Keeps s u) : ResKeeps s (execShimmerOffset car value u) :=
  h.mgmtWrite (fun h => h.writeShimmerOffset)

theorem Keeps.lineEdge (h : Keeps s u) : Keeps s u.lineEdge := by
  unfold State.lineEdge
  exact .ite h (.ite h.tallyTo.updTally (.ite h (.ite (.ite h.sourceLost h) h.sourceEdge.updTally)))

theorem Keeps.execTallyGlitch (h : Keeps s u) : ResKeeps s (execTallyGlitch u) := .next h.updTally

theorem Keeps.execTallyPulse {highNs : Nat} (h : Keeps s u) : ResKeeps s (execTallyPulse highNs u) := .next (.ite h.updTally h.lineEdge)

theorem Keeps.execTallyMark (h : Keeps s u) : ResKeeps s (execTallyMark u) := .next (.ite h (.takeMark (.ite h.sourceLost h)))

theorem Keeps.execTallyLoss (h : Keeps s u) : ResKeeps s (execTallyLoss u) := .next (.ite h.sourceLost h)

theorem Keeps.execTallySlewStep (h : Keeps s u) : ResKeeps s (execTallySlewStep u) := .next (.ite h.sourceEdge.updTally h)

theorem Keeps.execTallyReferenceCount (h : Keeps s u) : ResKeeps s (execTallyReferenceCount u) := by
  unfold Machine.execTallyReferenceCount
  exact .next (.ite h (.ite h.tallyTo (.ite h.tallyTo.updTally (.ite h.sourceEdge h))))

theorem Keeps.writeEpoch {v : Nat} (h : Keeps s u) : Keeps s (State.writeEpoch v u).1 := .iteFst h.refuse h.updTally.fst

theorem Keeps.execTallyEpochNext {car : Carrier} {value : U64} (h : Keeps s u) : ResKeeps s (execTallyEpochNext car value u) :=
  h.mgmtWriteIn (fun h => h.writeEpoch)

theorem Keeps.writeResync (h : Keeps s u) : Keeps s u.writeResync.1 := by
  unfold State.writeResync
  exact .iteFst h.refuse (.iteFst h.refuse (.iteFst h h.tallyTo.updTally.fst))

theorem Keeps.execTallyResync {car : Carrier} (h : Keeps s u) : ResKeeps s (execTallyResync car u) := h.mgmtWrite (fun h => h.writeResync)

theorem Keeps.writeOrigin {v : Nat} (h : Keeps s u) : Keeps s (State.writeOrigin v u).1 := h.updTally.fst

theorem Keeps.execTallyOrigin {car : Carrier} {value : U64} (h : Keeps s u) : ResKeeps s (execTallyOrigin car value u) :=
  h.mgmtWriteIn (fun h => h.writeOrigin)

/-! ## Firmware -/

theorem Keeps.setUpd {st : Nat} (h : Keeps s u) : Keeps s (u.setUpd st) := h.updBoot.raise

theorem Keeps.writeHalf {h0 : Fin 2} {sec : List Byte} (h : Keeps s u) : Keeps s (u.writeHalf h0 sec) := h.frame

theorem Keeps.endS7 (h : Keeps s u) : Keeps s u.endS7 := .ite (.stageDone (.foldl (fun _ _ h => h.retryPass) h)) h

theorem Keeps.execS7EcmetFirmware (h : Keeps s u) : ResKeeps s (execS7EcmetFirmware u) := by
  unfold Machine.execS7EcmetFirmware
  refine .ite (.next h) ?_
  extract_lets
  split
  · exact .next h.trySlots.endStart
  · exact .next h.trySlots.writeHalf.updBoot.frame.endS7

theorem Keeps.tileReports {t : Nat} {f : FwImage} (h : Keeps s u) : Keeps s (u.tileReports t f) := h.updTile.updBoot

theorem Keeps.fetchFails {t : Nat} (h : Keeps s u) : Keeps s (u.fetchFails t) := by
  unfold State.fetchFails
  exact .ite h h.itemFailsNow.faultHold.parkHeld

theorem Keeps.execTileFirmwareFetch {t : TileIx} {digestGood : List Bool} (h : Keeps s u) : ResKeeps s (execTileFirmwareFetch t digestGood u) := by
  unfold Machine.execTileFirmwareFetch
  refine .ite .fault ?_
  split
  · exact .next h
  · exact .ite (.next h) (.ite (.next h.tileReports.endS7) (.next h.fetchFails.noteFeatures.endS7))

theorem Keeps.writeFwUpdate {v : Nat} (h : Keeps s u) : Keeps s (State.writeFwUpdate v u).1 := by
  unfold State.writeFwUpdate
  refine .iteFst h (.iteFst h ?_)
  -- a variable: the kernel would read the 64 KiB of the image
  obtain ⟨img, image⟩ : ∃ img, u.memBytes u.boot.stageAddr.toNat (256 + 65536) = img := ⟨_, rfl⟩
  rw [image]
  exact .iteFst h.setUpd.verifyImage.setUpd.fst h.setUpd.verifyImage.writeHalf.updBoot.setUpd.fst

theorem Keeps.execFwUpdateControl {car : Carrier} {v : Byte} (h : Keeps s u) : ResKeeps s (execFwUpdateControl car v u) :=
  h.mgmtWrite (fun h => h.writeFwUpdate)

theorem Keeps.reportIfWhole {t : Nat} (h : Keeps s u) : Keeps s (u.reportIfWhole t) := by
  unfold State.reportIfWhole
  split
  · exact .ite (.ite h.tileReports h.updBoot) h
  · exact h

theorem Keeps.afterFinal (h : Keeps s u) : Keeps s u.afterFinal := by
  unfold State.afterFinal
  exact .ite h h.setUpd

theorem Keeps.afterRound (h : Keeps s u) : Keeps s u.afterRound := by
  unfold State.afterRound
  exact .ite h.endS7 (.ite h.updBoot (.endS7 (.foldl (fun _ _ h => h.fetchFails) h)))

theorem Keeps.execFwChunkBroadcast (h : Keeps s u) : ResKeeps s (execFwChunkBroadcast u) := by
  unfold Machine.execFwChunkBroadcast
  split
  · exact .next h
  · extract_lets n go s1 s2
    have h2 : Keeps s s2 := .foldl (fun _ _ h => h.reportIfWhole) h.updBoot.send
    exact .ite (.next h.updBoot.send) (.ite (.next (.ite h2.afterRound h2.afterFinal)) (.next h))

theorem Keeps.stageChunk {t c : Nat} (h : Keeps s u) : Keeps s (u.stageChunk t c) := h.updBoot

theorem Keeps.execFwChunkReceive {t : TileIx} {chunk : Fin 64} {bufferFree digestGood : Bool} (h : Keeps s u) :
    ResKeeps s (execFwChunkReceive t chunk bufferFree digestGood u) :=
  .ite .fault (.next (.ite h.stageChunk h))

theorem Keeps.execFwChunkRefetch {t : TileIx} {chunk : Fin 64} (h : Keeps s u) : ResKeeps s (execFwChunkRefetch t chunk u) :=
  .ite .fault (.ite (.next h.stageChunk.bump.reportIfWhole.afterFinal) (.next h))

theorem Keeps.execFwActivation (h : Keeps s u) : ResKeeps s (execFwActivation u) := by
  unfold Machine.execFwActivation
  split
  · exact .next h
  · exact .ite (.next h.forTiles.frame.setUpd) (.next h)

theorem Keeps.execFwLaggardTimeout (h : Keeps s u) : ResKeeps s (execFwLaggardTimeout u) := .ite (.next h.updBoot.setUpd) (.next h)

/-! ## Protection and maintenance -/

theorem Keeps.updProt {f : ProtSt → ProtSt} (h : Keeps s u) : Keeps s (u.updProt f) := h.frame

theorem Keeps.writeMgmtUpdate {v : Nat} (h : Keeps s u) : Keeps s (State.writeMgmtUpdate v u).1 :=
  .iteFst h (.iteFst h (.iteFst h.verifyImage.updProt.fst h.verifyImage.frame.updProt.fst))

theorem Keeps.execMgmtUpdateControl {car : Carrier} {v : Byte} (h : Keeps s u) : ResKeeps s (execMgmtUpdateControl car v u) :=
  h.mgmtWriteIn (fun h => h.writeMgmtUpdate)

theorem Keeps.writeRecovery {offset : Nat} {data : List Byte} (h : Keeps s u) : Keeps s (State.writeRecovery offset data u).1 :=
  .iteFst h (.iteFst h h.updProt.fst)

theorem Keeps.execRecoveryImage {car : Carrier} {offset : Nat} {data : List Byte} (h : Keeps s u) :
    ResKeeps s (execRecoveryImage car offset data u) :=
  h.mgmtWriteIn (fun h => h.writeRecovery)

theorem Keeps.writeAttestNonce {nonce : List Byte} (h : Keeps s u) : Keeps s (State.writeAttestNonce nonce u).1 :=
  .iteFst h (.iteFst h h.updProt.fst)

theorem Keeps.execAttestNonce {car : Carrier} {nonce : List Byte} (h : Keeps s u) : ResKeeps s (execAttestNonce car nonce u) :=
  h.mgmtWrite (fun h => h.writeAttestNonce)

theorem Keeps.execAttestReport (h : Keeps s u) : ResKeeps s (execAttestReport u) := h.mgmtRead (fun h => h)

theorem Keeps.blow {blown : Bool} {good : State → State} {partly : Nat → State → State} (hgood : Keeps s (good u))
    (hpartly : ∀ p, Keeps s (partly p u)) : Keeps s (u.blow blown good partly).1 := .iteFst hgood (hpartly _).frame

theorem Keeps.lockDebug (h : Keeps s u) : Keeps s u.lockDebug := by
  unfold State.lockDebug
  exact h.updProt.frame

theorem Keeps.setLock {v : Nat} (h : Keeps s u) 
    (raised : u.fuses.legal → u.fuses.debugLock ||| v = v ∧ v ≤ 3) : Keeps s (u.setLock v) := by
  unfold State.setLock
  refine .updProt (h.fused fun legal => ?_)
  exact ⟨⟨Nat.le_refl _, (raised legal).1, BitVec.or_self, rfl⟩, legal.1, (raised legal).2⟩

theorem Keeps.maintRefused {code : Nat} (h : Keeps s u) : Keeps s (u.maintRefused code).1 := h.updProt.bump.fst

theorem Keeps.newMaintNonce (h : Keeps s u) : Keeps s u.newMaintNonce := by
  unfold State.newMaintNonce
  exact h.random.updProt

theorem Keeps.maintDefect {args : List Byte} {blown : Bool} (h : Keeps s u) : Keeps s (maintDefect args blown u).1 := .iteFst h h.frame

theorem Keeps.maintOverflow {args : List Byte} {blown : Bool} (h : Keeps s u) : Keeps s (maintOverflow args blown u).1 := .iteFst h h.frame

theorem Keeps.maintRetry {args : List Byte} {blown : Bool} (h : Keeps s u) : Keeps s (maintRetry args blown u).1 := .iteFst h h.frame

theorem Keeps.maintThaw {args : List Byte} {blown : Bool} (h : Keeps s u) : Keeps s (maintThaw args blown u).1 := .iteFst h h.frame

/-- The rollback counter rises, to 64 at most, whether the programming ends well or not (R454, R460). -/
theorem Keeps.maintRollback {args : List Byte} {blown : Bool} (h : Keeps s u) : Keeps s (maintRollback args blown u).1 := by
  unfold Machine.maintRollback
  extract_lets v cur
  split
  · exact h
  · rename_i inRange
    simp only [not_or, Nat.not_lt] at inRange
    obtain ⟨low, high, -⟩ := inRange
    have keeps : ∀ n, cur ≤ n → n ≤ v → Keeps s { u with fuses := { u.fuses with rollback := n } } := fun n hlow hhigh =>
      h.fused fun legal => ⟨⟨hlow, Nat.or_self _, BitVec.or_self, rfl⟩, Nat.le_trans hhigh high, legal.2⟩
    split
    · exact h
    · rename_i changed
      refine .blow (keeps v low (Nat.le_refl v)) fun p => keeps _ (Nat.le_add_right _ _) ?_
      have := Nat.mod_lt p (Nat.sub_pos_of_lt (Nat.lt_of_le_of_ne low (Ne.symm changed)))
      omega

/-- A revoked key stays revoked (R453). -/
theorem Keeps.maintRevoke {signer : Nat} {args : List Byte} {blown : Bool} (h : Keeps s u) : Keeps s (maintRevoke signer args blown u).1 := by
  unfold Machine.maintRevoke
  refine .iteFst h (.iteFst h (.blow (h.fused fun legal => ⟨⟨Nat.le_refl _, Nat.or_self _, ?_, rfl⟩, legal⟩) fun _ => h))
  rw [← BitVec.or_assoc, BitVec.or_self]

/-- DEBUG_LOCK keeps the bits that are blown (R457, log entry 38). -/
theorem Keeps.maintLock {args : List Byte} {blown : Bool} (h : Keeps s u) : Keeps s (maintLock args blown u).1 := by
  unfold Machine.maintLock
  extract_lets v cur
  split
  · exact h
  · rename_i inRange
    simp only [not_or, Nat.not_lt] at inRange
    obtain ⟨-, high, -⟩ := inRange
    refine .blow (.lockDebug (h.setLock fun legal => ⟨?_, ?_⟩)) fun p => h.setLock fun legal => ?_
    · rw [← Nat.or_assoc, Nat.or_self]
    · exact Nat.le_of_lt_succ (Nat.or_lt_two_pow (n := 2) (Nat.lt_succ_of_le legal.2) (Nat.lt_succ_of_le high))
    · split
      · rename_i both
        exact ⟨by rw [show u.fuses.debugLock = 0 from both.1, Nat.zero_or], Nat.le_of_lt (Nat.mod_lt p (by decide))⟩
      · exact ⟨Nat.or_self _, legal.2⟩

theorem Keeps.maintOp {mop signer : Nat} {f : MaintOp} {args : List Byte} {blown : Bool} (h : Keeps s u) (hf : Machine.maintOp mop signer = some f) :
    Keeps s (f args blown u).1 := by
  unfold Machine.maintOp at hf
  split at hf <;> cases hf
  · exact h.maintDefect
  · exact h.maintOverflow
  · exact h.maintRetry
  · exact h.maintThaw
  · exact h.maintRollback
  · exact h.maintRevoke
  · exact h.maintLock

theorem Keeps.writeMaint {cmd : List Byte} {blown : Bool} (h : Keeps s u) : Keeps s (State.writeMaint cmd blown u).1 := by
  unfold State.writeMaint
  refine .iteFst h (.iteFst h (.iteFst h.maintRefused (.iteFst h.maintRefused (.iteFst h.maintRefused (.iteFst h.newMaintNonce.maintRefused ?_)))))
  split
  · exact h.newMaintNonce.maintRefused
  · rename_i f hf
    exact .iteFst h.newMaintNonce.maintRefused (.iteFst h.newMaintNonce.maintRefused (h.newMaintNonce.maintOp hf))

theorem Keeps.maintRow {mop : Nat} {car : Carrier} {cmd : List Byte} {blown : Bool} (h : Keeps s u) : ResKeeps s (maintRow mop car cmd blown u) :=
  .ite (h.mgmtWrite (fun h => h.writeMaint)) (.next h)

theorem Keeps.execMaintRemoveDefect {car : Carrier} {cmd : List Byte} (h : Keeps s u) : ResKeeps s (execMaintRemoveDefect car cmd u) := h.maintRow

theorem Keeps.execMaintClearOverflow {car : Carrier} {cmd : List Byte} (h : Keeps s u) : ResKeeps s (execMaintClearOverflow car cmd u) := h.maintRow

theorem Keeps.execMaintRemoveRetry {car : Carrier} {cmd : List Byte} (h : Keeps s u) : ResKeeps s (execMaintRemoveRetry car cmd u) := h.maintRow

theorem Keeps.execMaintThaw {car : Carrier} {cmd : List Byte} (h : Keeps s u) : ResKeeps s (execMaintThaw car cmd u) := h.maintRow

theorem Keeps.execMaintAdvanceRollback {car : Carrier} {cmd : List Byte} {blown : Bool} (h : Keeps s u) :
    ResKeeps s (execMaintAdvanceRollback car cmd blown u) :=
  h.maintRow

theorem Keeps.execMaintRevokeKey {car : Carrier} {cmd : List Byte} {blown : Bool} (h : Keeps s u) :
    ResKeeps s (execMaintRevokeKey car cmd blown u) :=
  h.maintRow

theorem Keeps.execMaintRaiseDebugLock {car : Carrier} {cmd : List Byte} {blown : Bool} (h : Keeps s u) :
    ResKeeps s (execMaintRaiseDebugLock car cmd blown u) :=
  h.maintRow

theorem Keeps.writeDbgRequest {v : Nat} (h : Keeps s u) : Keeps s (State.writeDbgRequest v u).1 := .iteFst h.updProt.fst h

theorem Keeps.execDbgRequest {car : Carrier} {v : Byte} (h : Keeps s u) : ResKeeps s (execDbgRequest car v u) :=
  h.mgmtWrite (fun h => h.writeDbgRequest)

theorem Keeps.readChallenge (h : Keeps s u) : Keeps s u.readChallenge.1 := .iteFst h h.random.updProt.fst

theorem Keeps.execDbgChallenge (h : Keeps s u) : ResKeeps s (execDbgChallenge u) := h.mgmtRead (fun h => h.readChallenge)

theorem Keeps.writeDbgResponse {resp : List Byte} {inTime : Bool} (h : Keeps s u) : Keeps s (State.writeDbgResponse resp inTime u).1 :=
  .iteFst h (.iteFst h (.iteFst h.updProt.updProt.bump.fst (.iteFst h.updProt.fst h.updProt.updProt.frame.fst)))

theorem Keeps.execDbgResponse {car : Carrier} {resp : List Byte} {inTime : Bool} (h : Keeps s u) : ResKeeps s (execDbgResponse car resp inTime u) :=
  h.mgmtWrite (fun h => h.writeDbgResponse)

theorem Keeps.writeDbgLock (h : Keeps s u) : Keeps s u.writeDbgLock.1 := h.lockDebug.fst

theorem Keeps.execDbgLockNow {car : Carrier} (h : Keeps s u) : ResKeeps s (execDbgLockNow car u) := h.mgmtWrite (fun h => h.writeDbgLock)

/-! ## Reads of the dictionary -/

theorem Keeps.clearLinkFault {l : Nat} (h : Keeps s u) : Keeps s (u.clearLinkFault l) := h.updLink

theorem Keeps.readObj {r : ObjRow} {u0 sub : Nat} (h : Keeps s u) : Keeps s (u.readObj r u0 sub).1 :=
  .iteFst h.readChallenge (.iteFst h (.fst (.ite h.clearLinkFault h)))

theorem Keeps.execLinkFaultRead {l : LinkIx} (h : Keeps s u) : ResKeeps s (execLinkFaultRead l u) := h.mgmtRead (fun h => h.clearLinkFault.fst)

/-! ## Writes of the dictionary -/

theorem Keeps.keep {key : Nat} {bs : List Byte} (h : Keeps s u) : Keeps s (u.keep key bs) := h.frame

theorem Keeps.keepNat {ok : Bool} {key size v : Nat} (h : Keeps s u) : Keeps s (keepNat ok key size v u).1 := .iteFst h.keep.fst h

theorem Keeps.ethWrite {ok : Bool} {key : Nat} {bs : List Byte} (h : Keeps s u) : Keeps s (ethWrite ok key bs u).1 := .iteFst h.keep.updHost.fst h

theorem Keeps.writeFreqRequest {v : Nat} (h : Keeps s u) : Keeps s (State.writeFreqRequest v u).1 := .iteFst h.refuse h.updClk.retarget.fst

theorem Keeps.writeTallySource {v : Nat} (h : Keeps s u) : Keeps s (State.writeTallySource v u).1 :=
  .iteFst h (.fst (.ite h.updTally.sourceLost h.updTally))

theorem Keeps.writePower {lo hi v : Nat} {f : PwrSt → PwrSt} (h : Keeps s u) : Keeps s (State.writePower lo hi v f u).1 :=
  .iteFst h.refuse h.updPwr.fst

theorem Keeps.writeLimitSet {v : Nat} (h : Keeps s u) : Keeps s (State.writeLimitSet v u).1 := h.writePower

theorem Keeps.writeTripCool {v : Nat} (h : Keeps s u) : Keeps s (State.writeTripCool v u).1 := h.writePower

theorem Keeps.writeIdlePark {v : Nat} (h : Keeps s u) : Keeps s (State.writeIdlePark v u).1 := h.updPwr.fst

theorem Keeps.writeTokenPeriod {v : Nat} (h : Keeps s u) : Keeps s (State.writeTokenPeriod v u).1 := h.writePower

theorem Keeps.writeTokenStep {v : Nat} (h : Keeps s u) : Keeps s (State.writeTokenStep v u).1 := h.writePower

theorem Keeps.writeTokenFloor {v : Nat} (h : Keeps s u) : Keeps s (State.writeTokenFloor v u).1 := h.writePower

theorem Keeps.writeGranule {v : Nat} (h : Keeps s u) : Keeps s (State.writeGranule v u).1 := .iteFst h h.frame.fst

theorem Keeps.writeGrouping {v : Nat} (h : Keeps s u) : Keeps s (State.writeGrouping v u).1 := .iteFst h.frame.fst h

theorem Keeps.writeMasterSet {v : Nat} (h : Keeps s u) : Keeps s (State.writeMasterSet v u).1 := .iteFst h.frame.fst h

theorem Keeps.writeRoutes {bs : List Byte} (h : Keeps s u) : Keeps s (State.writeRoutes bs u).1 := .iteFst h h.frame.fst

theorem Keeps.writeSlot {j : SlotIx} {ok : Job → Bool} {f : Job → Job} (h : Keeps s u) : Keeps s (State.writeSlot j ok f u).1 :=
  .iteFst h.updJob.fst h

theorem Keeps.writeMembers {j : SlotIx} {bs : List Byte} (h : Keeps s u) : Keeps s (State.writeMembers j bs u).1 := by
  unfold State.writeMembers
  exact .iteFst h h.writeSlot

theorem Keeps.writeJobControl {j : SlotIx} {v : Nat} (h : Keeps s u) : Keeps s (State.writeJobControl j v u).1 := by
  unfold State.writeJobControl
  split
  · exact h.loadJob
  · exact h.startJob
  · exact h.stopJob
  · exact h.killJob
  · exact h.featWriter (fun h => h.clearJob)
  · exact h.startJob
  · exact h

theorem Keeps.writeJobObj {j : SlotIx} {sub v : Nat} (h : Keeps s u) : Keeps s (State.writeJobObj j sub v u).1 := by
  unfold State.writeJobObj
  split
  · exact h.writeJobControl
  · exact h.writeSlot
  · exact h.writeSlot
  · exact h.writeSlot
  · exact h.writeSlot
  · exact h.writeSlot
  · exact h.writeSlot
  · exact h.writeSlot
  · exact h.writeSnapshot

theorem Keeps.writeSelftest {v : Nat} (h : Keeps s u) : Keeps s (State.writeSelftest v u).1 := by
  unfold State.writeSelftest
  exact .iteWriter h h.requestTests

theorem Keeps.writeWcmp {sub v : Nat} (h : Keeps s u) : Keeps s (State.writeWcmp sub v u).1 := by
  unfold State.writeWcmp
  exact .iteFst h.frame.fst (.iteFst h (.iteFst h.frame.fst h.frame.fst))

theorem Keeps.writeTraceCtrl {v : Nat} (h : Keeps s u) : Keeps s (State.writeTraceCtrl v u).1 := .iteFst h h.updProt.fst

theorem Keeps.writeValue {i u0 sub v : Nat} (h : Keeps s u) : Keeps s (State.writeValue i u0 sub v u).1 := by
  unfold State.writeValue
  split
  · exact h.keepNat
  · exact .iteFst h.updBoot.fst h
  · exact h.writeFwUpdate
  · exact h.ethWrite
  · exact h.ethWrite
  · exact h.ethWrite
  · exact h.ethWrite
  · exact h.ethWrite
  · exact h.ethWrite
  · exact h.keepNat
  · exact h.writeFreqRequest
  · exact h.writeShimmer
  · exact h.writeShimmerOffset
  · exact h.writeTallySource
  · exact h.writeEpoch
  · exact h.writeResync
  · exact h.writeOrigin
  · exact h.writeLimitSet
  · exact h.writeTripCool
  · exact h.writeTripRestart
  · exact h.writeIdlePark
  · exact h.writePark
  · exact h.featWriter (fun h => h.writePark)
  · exact h.writeUnpark
  · exact h.writePool
  · exact h.writeTokenPeriod
  · exact h.writeTokenStep
  · exact h.writeTokenFloor
  · exact h.writeGranule
  · exact h.featWriter (fun h => h.writeGrouping)
  · exact h.writeMasterSet
  · exact h.writeSlot
  · exact h.writeJobObj
  · exact h.writeSlot
  · exact h.writeSlot
  · exact h.writeEta
  · exact h.writeFrozen
  · exact h.writeWcmp
  · exact h.writeSelftest
  · exact h.writeWarmRestart
  · exact h.writeMgmtUpdate
  · exact h.writeDbgRequest
  · exact h.writeDbgLock
  · exact h.writeTraceCtrl

/-- The state that a debug command leaves. -/
theorem Keeps.resState {r : Res} (h : Keeps s u) (hr : ResKeeps s r) : Keeps s (resState u r) := by
  unfold Machine.resState
  split
  · exact hr _ rfl
  · exact h

theorem Keeps.debugCommand {c : List Byte} (h : Keeps s u) : Keeps s (u.debugCommand c) := by
  unfold State.debugCommand
  extract_lets bad short f a b cc data j all job core tile cls num
  have hbad : Keeps s bad := h.dbgCommand fun h => h.dbgReplies
  have hshort : Keeps s short := h.dbgCommand fun h => h.dbgReplies
  refine .ite hbad ?_
  have hjob : ∀ {g}, (∀ j all, ResKeeps s (g j all)) → Keeps s (job g) := fun hg => .ite hbad (h.resState (hg _ _))
  have hcore : ∀ {g}, (∀ i, ResKeeps s (g i)) → Keeps s (core g) := by
    intro g hg
    unfold core
    split
    · split
      · exact h.resState (hg _)
      · exact hbad
    · exact hbad
  have htile : ∀ {g}, (∀ t, ResKeeps s (g t)) → Keeps s (tile g) := by
    intro g hg
    unfold tile
    split
    · exact h.resState (hg _)
    · exact hbad
  clear_value job core tile
  split
  · exact hjob fun _ _ => h.execHaltAt
  · exact hjob fun _ _ => h.execHaltNow
  · exact hjob fun _ _ => h.execResume
  · exact hjob fun _ _ => h.execStepCy
  · exact hcore fun _ => h.execStepInsn
  · refine hcore fun i => ?_
    split
    · exact h.execBpSet
    · exact .next hbad
  · refine htile fun t => ?_
    split
    · exact h.execWpSet
    · exact .next hbad
  · exact hcore fun _ => h.execReadCore
  · exact hcore fun _ => h.execWriteCore
  · exact htile fun _ => h.execReadSp
  · exact .ite hshort (htile fun _ => h.execWriteSp)
  · exact h.resState h.execReadMem
  · exact .ite hshort (h.resState h.execWriteMem)
  · exact htile fun _ => .ite (.next hbad) h.execReadFrame
  · exact h.resState h.execClearPoints
  · exact hbad

theorem Keeps.writeDebug {c : List Byte} (h : Keeps s u) : Keeps s (State.writeDebug c u).1 := .iteFst h h.debugCommand.fst

theorem Keeps.writeBlob {i u0 : Nat} {bs : List Byte} (h : Keeps s u) : Keeps s (State.writeBlob i u0 bs u).1 := by
  unfold State.writeBlob
  split
  · exact .iteFst h.keep.fst h
  · exact h.ethWrite
  · exact h.writeRoutes
  · exact h.writeMembers
  · exact h.writeAttestNonce
  · exact h.writeMaint
  · exact h.writeDbgResponse
  · exact h.writeDebug

theorem Keeps.writeObj {i sub : Nat} {offset : Option Nat} {bs : List Byte} (h : Keeps s u) : Keeps s (State.writeObj i sub offset bs u).1 := by
  unfold State.writeObj
  split
  · exact h
  · refine .iteFst h (.iteFst h (.iteFst h (.iteFst (.iteFst ?_ (.iteFst h h.writeBlob)) (.iteFst h (.iteFst h h.writeValue)))))
    split
    · exact h.writeRecovery
    · exact h

theorem Keeps.writeOp {car : Carrier} {served : Bool} {i sub : Nat} {offset : Option Nat} {bs : List Byte} (h : Keeps s u) :
    Keeps s (u.writeOp car served i sub offset bs).1 :=
  h.guarded (fun h => h.writeObj)

theorem Keeps.readAt {i sub len : Nat} {offset : Option Nat} {room : Nat} (h : Keeps s u) : Keeps s (u.readAt i sub len offset room).1 := by
  unfold State.readAt
  split
  · exact h
  · exact .iteFst h (.iteFst (.iteFst h (.iteFst h.readObj h.readObj.fst)) (.iteFst h h.readObj))

theorem Keeps.readOp {served : Bool} {i sub len : Nat} {offset : Option Nat} {room : Nat} (h : Keeps s u) :
    Keeps s (u.readOp served i sub len offset room).1 :=
  .iteFst h (.iteFst h.bump.fst (.iteFst h.bump.fst h.readAt.countRefusal.fst))

theorem Keeps.commitOp {car : Carrier} {served : Bool} {i sub : Nat} (h : Keeps s u) : Keeps s (u.commitOp car served i sub).1 := by
  unfold State.commitOp
  refine h.guarded (fun h => ?_)
  split
  · exact h
  · exact .iteFst h h.frame.fst

/-! ## Events -/

theorem Keeps.updSession {id : Nat} {f : Session → Session} (h : Keeps s u) : Keeps s (u.updSession id f) := h.updHost

theorem Keeps.updEq {q : Fin 16} {f : Eq_ → Eq_} (h : Keeps s u) : Keeps s (u.updEq q f) := h.updHost

theorem Keeps.writeEntry {q : Fin 16} {e : Event} (h : Keeps s u) : Keeps s (u.writeEntry q e) := by
  unfold State.writeEntry
  exact h.send.updEq

theorem Keeps.queueEvent {q : Fin 16} {e : Event} (h : Keeps s u) : Keeps s (u.queueEvent q e) := .ite h.writeEntry (.ite h.updHost h.bump.updEq)

theorem Keeps.drainOne {q : Fin 16} (h : Keeps s u) : Keeps s (u.drainOne q) := by
  unfold State.drainOne
  refine .ite h (.ite h.writeEntry.updEq ?_)
  split
  · exact h
  · exact h.updHost.writeEntry

theorem Keeps.drainAll (h : Keeps s u) : Keeps s u.drainAll := .foldl (fun _ _ h => .foldl (fun _ _ h => h.drainOne) h) h

theorem Keeps.traceEvent {e : Event} (h : Keeps s u) : Keeps s (u.traceEvent e) := by
  unfold State.traceEvent
  exact h.updHost

theorem Keeps.notify {e : Event} (h : Keeps s u) : Keeps s (u.notify e) := .foldl (fun _ _ h => h.send.updSession) h

theorem Keeps.routeEvent {e : Event} (h : Keeps s u) : Keeps s (u.routeEvent e) := by
  unfold State.routeEvent
  exact .ite (.queueEvent (.ite h.traceEvent.notify.updHost h.traceEvent.notify)) (.ite h.traceEvent.notify.updHost h.traceEvent.notify)

theorem Keeps.execEventRaise {kind : Byte} {unit : U16} {data : List Byte} (h : Keeps s u) : ResKeeps s (execEventRaise kind unit data u) := by
  unfold Machine.execEventRaise
  refine .next (.ite h ?_)
  split
  · exact h.frame.routeEvent
  · exact h.routeEvent

theorem Keeps.execEventEntryWrite {q : Fin 16} (h : Keeps s u) : ResKeeps s (execEventEntryWrite q u) := .next h.drainOne

theorem Keeps.message {v : Nat} (h : Keeps s u) : Keeps s (u.message v) := .ite h.updHost h.send

theorem Keeps.execMsixSignal {q : Fin 16} {timer : Bool} (h : Keeps s u) : ResKeeps s (execMsixSignal q timer u) := by
  unfold Machine.execMsixSignal
  exact .next (.ite h.message.updEq h)

/-! ## The Pennos protocol -/

theorem Keeps.setMbx {n : Nat} {m : Mbx} (h : Keeps s u) : Keeps s (u.setMbx n m) := h.updHost

theorem Keeps.respond {car origin status : Nat} {frame : List Byte} (h : Keeps s u) : Keeps s (u.respond car origin status frame) :=
  .ite (.ite h (.ite (.ite h.setMbx h.setMbx.raise) h.send)) (.ite (.ite h.updHost h) h.send)

theorem Keeps.answerFrame {car origin minor kind sess seq status : Nat} {body : List Byte} (h : Keeps s u) :
    Keeps s (u.answerFrame car origin minor kind sess seq status body) :=
  h.respond

theorem Keeps.refuseFrame {car origin : Nat} {p : PFrame} {status : Nat} (h : Keeps s u) : Keeps s (u.refuseFrame car origin p status) :=
  h.countRefusal.answerFrame

theorem Keeps.badFrame {car origin : Nat} (h : Keeps s u) : Keeps s (u.badFrame car origin) := .ite h.bump h.countRefusal.answerFrame

theorem Keeps.busyEarly {car origin : Nat} {p : PFrame} (h : Keeps s u) : Keeps s (u.busyEarly car origin p) := h.bump.answerFrame

theorem Keeps.helloFrom {car origin seq : Nat} {versions : List Nat} {maxFrame : Nat} (h : Keeps s u) :
    Keeps s (u.helloFrom car origin seq versions maxFrame) := by
  unfold State.helloFrom
  extract_lets
  split
  · exact h.countRefusal.answerFrame
  · exact .ite h.countRefusal.answerFrame h.updHost.countRefusal.answerFrame

theorem Keeps.dropSession {id : Nat} (h : Keeps s u) : Keeps s (u.dropSession id) := h.updHost

theorem Keeps.noValue {r : State × Nat} (h : Keeps s r.1) : Keeps s (noValue r).1 := h

theorem Keeps.refuseOp {st : Nat} (h : Keeps s u) : Keeps s (u.refuseOp st).1 := h.countRefusal.fst

theorem Keeps.subscribeOp {e : OpEnv} {o : Op} (h : Keeps s u) : Keeps s (u.subscribeOp e o).1 :=
  .iteFst h.bump.fst (.iteFst h.refuseOp (.iteFst h.refuseOp h.updSession.fst))

theorem Keeps.runOp {e : OpEnv} {o : Op} (h : Keeps s u) : Keeps s (u.runOp e o).1 := by
  unfold State.runOp
  refine .iteFst h.refuseOp (.iteFst h.refuseOp ?_)
  split
  · exact h.readOp
  · exact h.writeOp.noValue
  · exact h.readOp
  · exact h.writeOp.noValue
  · exact h.subscribeOp
  · exact .iteFst h.refuseOp h.commitOp.noValue

theorem Keeps.runOps {e : OpEnv} {os : List Op} (h : Keeps s u) : Keeps s (State.runOps e os u).1 := by
  induction os generalizing u with
  | nil => exact h
  | cons o os ih => exact ih h.runOp

theorem Keeps.respondTo {r : Request} {status : Nat} {body : List Byte} (h : Keeps s u) : Keeps s (u.respondTo r status body) := by
  unfold State.respondTo
  exact h.updSession.respond

theorem Keeps.serve {r : Request} (h : Keeps s u) : Keeps s (u.serve r) := by
  unfold State.serve
  split
  · exact h.countRefusal.respondTo
  · exact .ite h.countRefusal.respondTo (.ite h.countRefusal.respondTo h.runOps.respondTo)

theorem Keeps.serveFront (h : Keeps s u) : Keeps s u.serveFront := by
  unfold State.serveFront
  split
  · exact h
  · exact h.updHost.serve

theorem Keeps.timeoutFront (h : Keeps s u) : Keeps s u.timeoutFront := by
  unfold State.timeoutFront
  split
  · exact h
  · exact h.updHost.countRefusal.respondTo

theorem Keeps.takeRequest {car origin : Nat} {p : PFrame} {frame : List Byte} (h : Keeps s u) : Keeps s (u.takeRequest car origin p frame) := by
  unfold State.takeRequest
  refine .ite h.busyEarly ?_
  split
  · exact h.refuseFrame
  · refine .ite h.refuseFrame ?_
    split
    · exact h.respond
    · exact .ite h (.ite h.refuseFrame (.ite h.bump.answerFrame h.updSession.updHost))

theorem Keeps.closeFrom {car origin : Nat} {p : PFrame} (h : Keeps s u) : Keeps s (u.closeFrom car origin p) := by
  unfold State.closeFrom
  split
  · exact h.refuseFrame
  · exact .ite h.refuseFrame h.dropSession.answerFrame

theorem Keeps.deliverFrame {car origin : Nat} {frame : List Byte} (h : Keeps s u) : Keeps s (u.deliverFrame car origin frame) := by
  unfold State.deliverFrame
  split
  · exact h.badFrame
  · refine .ite h.busyEarly (.ite ?_ (.ite h.closeFrom h.takeRequest))
    split
    · exact h.badFrame
    · exact .ite h.refuseFrame h.helloFrom

theorem Keeps.deliverSmbus {frame : List Byte} (h : Keeps s u) : Keeps s (u.deliverSmbus frame) := by
  unfold State.deliverSmbus
  split
  · exact h.badFrame
  · exact .ite h.busyEarly (.ite h.busyEarly (.ite h.badFrame (.ite h.refuseFrame (.ite h.refuseFrame (.ite h.bump.answerFrame h.updHost)))))

theorem Keeps.arriveFrame {car origin : Nat} {frame : List Byte} (h : Keeps s u) : Keeps s (u.arriveFrame car origin frame) :=
  .ite h.deliverSmbus h.deliverFrame

theorem Keeps.arriveServed {car origin : Nat} {frame : List Byte} (h : Keeps s u) : Keeps s (u.arriveServed car origin frame) := by
  unfold State.arriveServed
  exact .ite h.arriveFrame.serveFront h.arriveFrame

theorem Keeps.execPennosRequest {car : Carrier} {origin : Nat} {frame : List Byte} (h : Keeps s u) :
    ResKeeps s (execPennosRequest car origin frame u) := by
  unfold Machine.execPennosRequest
  refine .next (.ite h ?_)
  split
  · exact .ite h.serveFront h.arriveFrame
  · exact h.arriveServed

theorem Keeps.execHello {car : Carrier} {origin : Nat} {versions : List U16} {maxFrame : U16} (h : Keeps s u) :
    ResKeeps s (execHello car origin versions maxFrame u) := by
  unfold Machine.execHello
  exact .next (.ite h (.ite h.badFrame (.ite h.busyEarly h.helloFrom)))

theorem Keeps.execClose {car : Carrier} {origin session : Nat} (h : Keeps s u) : ResKeeps s (execClose car origin session u) := by
  unfold Machine.execClose
  exact .next (.ite h (.ite h.badFrame (.ite h.busyEarly h.closeFrom)))

theorem Keeps.execSessionIdleTimeout {session : Nat} (h : Keeps s u) : ResKeeps s (execSessionIdleTimeout session u) := .next (.ite h h.dropSession)

theorem Keeps.execDictRequestTimeout (h : Keeps s u) : ResKeeps s (execDictRequestTimeout u) := .next (.ite h.timeoutFront h)

theorem Keeps.busyRest {n : Nat} (h : Keeps s u) : Keeps s (State.busyRest n u) := by
  induction n generalizing u with
  | zero => exact h
  | succ n ih =>
    unfold State.busyRest
    split
    · exact h
    · exact ih h.updHost.bump.respondTo

theorem Keeps.execMgmtWatchdogExpiry (h : Keeps s u) : ResKeeps s (execMgmtWatchdogExpiry u) := .next (.ite h h.timeoutFront.busyRest.frame)

theorem Keeps.openDebug (h : Keeps s u) : Keeps s u.openDebug := by
  unfold State.openDebug
  exact h.dropSession.updHost

theorem Keeps.execDebugSessionOpen (h : Keeps s u) : ResKeeps s (execDebugSessionOpen u) := .next (.ite h.openDebug h)

theorem Keeps.opRow {session : Nat} {o : Op} (h : Keeps s u) : ResKeeps s (opRow session o u) := by
  unfold Machine.opRow
  refine .next ?_
  split
  · exact .ite h.countRefusal.send h
  · exact .ite h h.runOp.answer

theorem Keeps.execPennosRead {session : Nat} {index : U16} {sub : Byte} {len : U16} (h : Keeps s u) :
    ResKeeps s (execPennosRead session index sub len u) :=
  h.opRow

theorem Keeps.execPennosWrite {session : Nat} {index : U16} {sub : Byte} {value : List Byte} (h : Keeps s u) :
    ResKeeps s (execPennosWrite session index sub value u) :=
  h.opRow

theorem Keeps.execReadRange {session : Nat} {index : U16} {sub : Byte} {offset : U32} {len : U16} (h : Keeps s u) :
    ResKeeps s (execReadRange session index sub offset len u) :=
  h.opRow

theorem Keeps.execWriteRange {session : Nat} {index : U16} {sub : Byte} {offset : U32} {value : List Byte} (h : Keeps s u) :
    ResKeeps s (execWriteRange session index sub offset value u) :=
  h.opRow

theorem Keeps.execSubscribe {session : Nat} {mask : U64} (h : Keeps s u) : ResKeeps s (execSubscribe session mask u) := h.opRow

theorem Keeps.execCommit {session : Nat} {index : U16} {sub : Byte} (h : Keeps s u) : ResKeeps s (execCommit session index sub u) := h.opRow

/-! ## The host port -/

theorem Keeps.aerErr {k : Nat} (h : Keeps s u) : Keeps s (u.aerErr k) := h.updHost

theorem Keeps.unsupportedRead (h : Keeps s u) : Keeps s u.unsupportedRead := h.aerErr.send

theorem Keeps.barRead {f : State → State} (h : Keeps s u) (hf : ∀ {v}, Keeps s v → Keeps s (f v)) : ResKeeps s (barRead f u) :=
  .next (.ite h (.ite (hf h) h.unsupportedRead))

theorem Keeps.barWrite {f : State → State} (h : Keeps s u) (hf : ∀ {v}, Keeps s v → Keeps s (f v)) : ResKeeps s (barWrite f u) :=
  .next (.ite h (.ite (hf h) h.aerErr))

theorem Keeps.hostReset (h : Keeps s u) : Keeps s u.hostReset := h.bump.updHost

theorem Keeps.execFunctionLevelReset (h : Keeps s u) : ResKeeps s (execFunctionLevelReset u) := .next (.ite h.hostReset h)

theorem Keeps.execHotReset (h : Keeps s u) : ResKeeps s (execHotReset u) := .next (.ite h.hostReset h)

theorem Keeps.linkDown (h : Keeps s u) : Keeps s u.linkDown := h.hostReset.updHost

theorem Keeps.execPcieLinkDown (h : Keeps s u) : ResKeeps s (execPcieLinkDown u) := .next (.ite h.linkDown h)

theorem Keeps.execPerstAssert (h : Keeps s u) : ResKeeps s (execPerstAssert u) := .next (.ite h h.linkDown.updHost)

theorem Keeps.execPerstRelease (h : Keeps s u) : ResKeeps s (execPerstRelease u) := .next h.updHost

theorem Keeps.execPcieLinkUp {rateGt width : Nat} (h : Keeps s u) : ResKeeps s (execPcieLinkUp rateGt width u) := .next (.ite h.updHost h)

theorem Keeps.execD3hotEntry (h : Keeps s u) : ResKeeps s (execD3hotEntry u) := .next (.ite h.updHost h)

theorem Keeps.execD0Entry (h : Keeps s u) : ResKeeps s (execD0Entry u) := .next (.ite h.updHost.drainAll h)

theorem Keeps.setBusMaster {b : Bool} (h : Keeps s u) : Keeps s (u.setBusMaster b) := by
  unfold State.setBusMaster
  exact .ite h.updHost.drainAll h.updHost

theorem Keeps.execBusMasterDisable (h : Keeps s u) : ResKeeps s (execBusMasterDisable u) := .next (.ite h.setBusMaster h)

theorem Keeps.execAerFatalError (h : Keeps s u) : ResKeeps s (execAerFatalError u) := .next (.ite h.aerErr.linkDown h)

theorem Keeps.execPcieConfigRequest {write : Bool} {offset : Nat} {value : U32} (h : Keeps s u) :
    ResKeeps s (execPcieConfigRequest write offset value u) :=
  .next (.ite h (.ite h.send (.ite (.send (.ite h.updHost.setBusMaster h.updHost)) h.send)))

theorem Keeps.discardBar0 (h : Keeps s u) : Keeps s u.discardBar0 := h.bump

theorem Keeps.writeW2Base {v : U64} (h : Keeps s u) : Keeps s (u.writeW2Base v) := h.updHost

theorem Keeps.doorbell {v : U64} (h : Keeps s u) : Keeps s (u.doorbell v) := by
  unfold State.doorbell
  exact .ite h (.ite h.bump h.setMbx)

theorem Keeps.releaseSlots {v : U64} (h : Keeps s u) : Keeps s (u.releaseSlots v) := .foldl (fun _ _ h => .ite h.setMbx h) h

theorem Keeps.drainQueue {q : Fin 16} (h : Keeps s u) : Keeps s (u.drainQueue q) := .foldl (fun _ _ h => h.drainOne) h

theorem Keeps.writeEqCtrl {q : Fin 16} {value : U64} (h : Keeps s u) : Keeps s (u.writeEqCtrl q value) := by
  unfold State.writeEqCtrl
  exact .ite h.discardBar0 h.updEq.drainQueue

theorem Keeps.writeEqHead {q : Fin 16} {value : U64} (h : Keeps s u) : Keeps s (u.writeEqHead q value) := by
  unfold State.writeEqHead
  exact .ite h.discardBar0 h.updEq.drainQueue

theorem Keeps.writeEqBase {q : Fin 16} {value : U64} (h : Keeps s u) : Keeps s (u.writeEqBase q value) := by
  unfold State.writeEqBase
  exact .ite h.discardBar0 h.updEq

theorem Keeps.execW2Base {value : U64} (h : Keeps s u) : ResKeeps s (execW2Base value u) := h.barWrite (fun h => h.writeW2Base)

theorem Keeps.execMbxDoorbell {value : U64} (h : Keeps s u) : ResKeeps s (execMbxDoorbell value u) := h.barWrite (fun h => h.doorbell)

theorem Keeps.execMbxRelease {value : U64} (h : Keeps s u) : ResKeeps s (execMbxRelease value u) := h.barWrite (fun h => h.releaseSlots)

theorem Keeps.execEqCtrl {q : Fin 16} {value : U64} (h : Keeps s u) : ResKeeps s (execEqCtrl q value u) := h.barWrite (fun h => h.writeEqCtrl)

theorem Keeps.execEqHead {q : Fin 16} {value : U64} (h : Keeps s u) : ResKeeps s (execEqHead q value u) := h.barWrite (fun h => h.writeEqHead)

theorem Keeps.execMailboxDispatch {n : Fin 16} (h : Keeps s u) : ResKeeps s (execMailboxDispatch n u) := by
  unfold Machine.execMailboxDispatch
  exact .next (.ite h.setMbx.arriveServed h)

theorem Keeps.msixUnmask (h : Keeps s u) : Keeps s u.msixUnmask := .foldl (fun _ _ h => .ite h.updHost.send h) h

theorem Keeps.writeBar0Reg {o : Nat} {value : U64} (h : Keeps s u) : Keeps s (u.writeBar0Reg o value) := by
  unfold State.writeBar0Reg
  refine .ite h.writeW2Base (.ite h.doorbell (.ite h.releaseSlots (.ite h.updHost (.ite ?_ h.discardBar0))))
  extract_lets
  split
  · exact h.writeEqBase
  · exact h.writeEqCtrl
  · exact h.writeEqHead
  · exact h.discardBar0

theorem Keeps.writeBar0 {o width : Nat} {value : U64} (h : Keeps s u) : Keeps s (u.writeBar0 o width value) := by
  unfold State.writeBar0
  exact .ite h.updHost.msixUnmask (.ite h.setMbx (.ite h.writeBar0Reg h.discardBar0))

theorem Keeps.execBar0RegisterWrite {offset width : Nat} {value : U64} (h : Keeps s u) : ResKeeps s (execBar0RegisterWrite offset width value u) :=
  h.barWrite (fun h => h.writeBar0)

theorem Keeps.countPoison {ls : List Nat} (h : Keeps s u) : Keeps s (u.countPoison ls) := h.bump

theorem Keeps.writePart {p : Nat × List Byte} {poison : Bool} (h : Keeps s u) : Keeps s (u.writePart p poison) :=
  .ite h.bump (.memWrite (.ite h.countPoison h))

theorem Keeps.execBar2Read {offset len : Nat} (h : Keeps s u) : ResKeeps s (execBar2Read offset len u) :=
  h.barRead (fun h => .ite h.unsupportedRead (.ite h.countPoison.bump.bump.aerErr.send (.ite h.countPoison.bump.send h.countPoison.send)))

theorem Keeps.execBar2Write {offset : Nat} {data : List Byte} {poisoned : Bool} (h : Keeps s u) :
    ResKeeps s (execBar2Write offset data poisoned u) :=
  h.barWrite
    (fun h => .ite h.bump.aerErr (.ite h.aerErr (.ite (.aerErr (.foldl (fun _ _ h => h.writePart) h)) (.foldl (fun _ _ h => h.writePart) h))))

theorem Keeps.execBar4Read {offset len : Nat} (h : Keeps s u) : ResKeeps s (execBar4Read offset len u) :=
  h.barRead (fun h => .ite h.unsupportedRead h.send)

theorem Keeps.execBar4Write {offset : Nat} {data : List Byte} (h : Keeps s u) : ResKeeps s (execBar4Write offset data u) :=
  h.barWrite (fun h => .ite h.aerErr h.bump)

/-! ## The JTAG port -/

theorem Keeps.jtag {ir value : Nat} (h : Keeps s u) : Keeps s (u.jtag ir value) := h.frame.send

theorem Keeps.jtagRow {f : State → State} (h : Keeps s u) (hf : ∀ {v}, Keeps s v → Keeps s (f v)) : ResKeeps s (jtagRow f u) :=
  .next (.ite (hf h) h)

theorem Keeps.observed {f : State → State} (h : Keeps s u) (hf : ∀ {v}, Keeps s v → Keeps s (f v)) : Keeps s (observed f u) := .ite (hf h) h.jtag

theorem Keeps.execBypass (h : Keeps s u) : ResKeeps s (execBypass u) := h.jtagRow (fun h => h.jtag)

theorem Keeps.execIdcode (h : Keeps s u) : ResKeeps s (execIdcode u) := h.jtagRow (fun h => h.jtag)

theorem Keeps.execSamplePreload {value : Nat} (h : Keeps s u) : ResKeeps s (execSamplePreload value u) := h.jtagRow (fun h => h.jtag.frame)

theorem Keeps.execExtest (h : Keeps s u) : ResKeeps s (execExtest u) := h.jtagRow (fun h => h.observed (fun h => h.jtag))

theorem Keeps.execClamp (h : Keeps s u) : ResKeeps s (execClamp u) := h.jtagRow (fun h => h.observed (fun h => h.jtag))

theorem Keeps.execHighz (h : Keeps s u) : ResKeeps s (execHighz u) := h.jtagRow (fun h => h.observed (fun h => h.jtag))

theorem Keeps.execDbgframe {frame : List Byte} (h : Keeps s u) : ResKeeps s (execDbgframe frame u) :=
  h.jtagRow (fun h => h.observed (fun h => .ite h.jtag (.arriveServed (.ite h.jtag h.jtag.openDebug))))

theorem Keeps.execTrstAssert (h : Keeps s u) : ResKeeps s (execTrstAssert u) := h.jtagRow (fun h => h.frame)

/-! ## The commands of the mesh -/

theorem Keeps.execSlotPass {t : TileIx} {entry : Fin 1024} {entryBad corrupt : Bool} (h : Keeps s u) :
    ResKeeps s (execSlotPass t entry entryBad corrupt u) :=
  h.onGrid (fun h => h.runSlot)

theorem Keeps.execSlotAdd160 {t : TileIx} {entry : Fin 1024} {entryBad corrupt : Bool} (h : Keeps s u) :
    ResKeeps s (execSlotAdd160 t entry entryBad corrupt u) :=
  h.onGrid (fun h => h.runSlot)

theorem Keeps.execSlotAdd160Final {t : TileIx} {entry : Fin 1024} {entryBad corrupt : Bool} (h : Keeps s u) :
    ResKeeps s (execSlotAdd160Final t entry entryBad corrupt u) :=
  h.onGrid (fun h => h.runSlot)

theorem Keeps.execSlotMax32 {t : TileIx} {entry : Fin 1024} {entryBad corrupt : Bool} (h : Keeps s u) :
    ResKeeps s (execSlotMax32 t entry entryBad corrupt u) :=
  h.onGrid (fun h => h.runSlot)

theorem Keeps.execSlotSum64 {t : TileIx} {entry : Fin 1024} {entryBad corrupt : Bool} (h : Keeps s u) :
    ResKeeps s (execSlotSum64 t entry entryBad corrupt u) :=
  h.onGrid (fun h => h.runSlot)

theorem Keeps.execServiceLineHop {t : TileIx} {out : MeshPort} {response corrupt : Bool} (h : Keeps s u) :
    ResKeeps s (execServiceLineHop t out response corrupt u) :=
  h.onGrid (fun h => h.hopLine)

theorem Keeps.execHopCreditReturn {t : TileIx} {out : MeshPort} {response : Bool} (h : Keeps s u) :
    ResKeeps s (execHopCreditReturn t out response u) :=
  h.onGrid (fun h => h.updTile)

/-! ## DICT packets -/

theorem Keeps.dictAnswer {req status : Nat} {data : List Byte} (h : Keeps s u) : Keeps s (u.dictAnswer req status data) := h.frame

theorem Keeps.agentPacket {t : TileIx} {f : State → State} (h : Keeps s u) (hf : ∀ {v}, Keeps s v → Keeps s (f v)) :
    ResKeeps s (agentPacket t f u) :=
  .ite (.next (hf h)) .fault

theorem Keeps.execDictObjectRead {t : TileIx} {req index : U16} {sub : Byte} (h : Keeps s u) :
    ResKeeps s (execDictObjectRead t req index sub u) := by
  unfold Machine.execDictObjectRead
  refine h.agentPacket (fun h => ?_)
  split
  · exact h.dictAnswer
  · exact h.dictAnswer

theorem Keeps.execDictObjectWrite {t : TileIx} {req index : U16} {sub : Byte} {value : U64} (h : Keeps s u) :
    ResKeeps s (execDictObjectWrite t req index sub value u) := by
  unfold Machine.execDictObjectWrite
  refine h.agentPacket (fun h => ?_)
  split
  · exact h.dictAnswer
  · exact h.dictAnswer

theorem Keeps.engineMemory {e : EngineIx} {req addr count : Nat} {m : MemRequest} {now : State → State} (h : Keeps s u)
    (hnow : ∀ {v}, Keeps s v → Keeps s (now v)) : Keeps s (u.engineMemory e req addr count m now) := by
  unfold State.engineMemory
  refine .ite h.dictAnswer ?_
  split
  · exact .ite h.dictAnswer (.ite (hnow h) h.frame)
  · exact h.dictAnswer

theorem Keeps.execDictMemoryRead {e : EngineIx} {req : U16} {addr : U64} {count : U16} (h : Keeps s u) :
    ResKeeps s (execDictMemoryRead e req addr count u) :=
  .next (h.engineMemory (fun h => h.countPoisonRead.dictAnswer))

theorem Keeps.execDictMemoryWrite {e : EngineIx} {req : U16} {addr : U64} {data : List Byte} (h : Keeps s u) :
    ResKeeps s (execDictMemoryWrite e req addr data u) :=
  .next (h.engineMemory (fun h => h.memWrite.dictAnswer))

theorem Keeps.execDictReply {req : U16} (h : Keeps s u) : ResKeeps s (execDictReply req u) := by
  unfold Machine.execDictReply
  refine .next ?_
  split
  · exact h.frame.send
  · exact h

/-! ## Ethernet and SMBus -/

theorem Keeps.ethDiscard (h : Keeps s u) : Keeps s u.ethDiscard := h.bump

theorem Keeps.execEthPennosDatagram {origin : Nat} {frame : List Byte} (h : Keeps s u) : ResKeeps s (execEthPennosDatagram origin frame u) :=
  .next (.ite h.arriveServed h)

theorem Keeps.execArpRequest {target : U32} (h : Keeps s u) : ResKeeps s (execArpRequest target u) := .next (.ite h (.ite h.send h.ethDiscard))

theorem Keeps.execNdpMessage {target : List Byte} (h : Keeps s u) : ResKeeps s (execNdpMessage target u) :=
  .next (.ite h (.ite h.send h.ethDiscard))

theorem Keeps.execIcmpEcho {v6 : Bool} {payload : List Byte} (h : Keeps s u) : ResKeeps s (execIcmpEcho v6 payload u) := .next (.ite h.send h)

theorem Keeps.execEthOtherFrame (h : Keeps s u) : ResKeeps s (execEthOtherFrame u) := .next (.ite h.ethDiscard h)

theorem Keeps.execEthAddressApply (h : Keeps s u) : ResKeeps s (execEthAddressApply u) := .next (.ite h.takeAddresses.updHost h)

theorem Keeps.execSgmiiLinkChange {up : Bool} (h : Keeps s u) : ResKeeps s (execSgmiiLinkChange up u) := .next (.ite h.updHost h)

theorem Keeps.smbusRow {pecGood : Bool} {f : State → State} (h : Keeps s u) (hf : ∀ {v}, Keeps s v → Keeps s (f v)) :
    ResKeeps s (smbusRow pecGood f u) :=
  .next (.ite h (.ite (hf h) h.bump))

theorem Keeps.execSmbusBlockWrite {pecGood : Bool} {frame : List Byte} (h : Keeps s u) : ResKeeps s (execSmbusBlockWrite pecGood frame u) :=
  h.smbusRow (fun h => .ite h h.updHost.arriveServed)

theorem Keeps.execSmbusBlockRead {pecGood : Bool} (h : Keeps s u) : ResKeeps s (execSmbusBlockRead pecGood u) := by
  unfold Machine.execSmbusBlockRead
  refine h.smbusRow (fun h => ?_)
  split
  · exact h.updHost.send
  · split
    · exact h.updHost.send
    · exact h.send

theorem Keeps.execSmbusReadByte {pecGood : Bool} (h : Keeps s u) : ResKeeps s (execSmbusReadByte pecGood u) := h.smbusRow (fun h => h.send)

theorem Keeps.execSmbusAlertResponse {pecGood : Bool} (h : Keeps s u) : ResKeeps s (execSmbusAlertResponse pecGood u) :=
  h.smbusRow (fun h => .ite h h.updHost.send)

/-! ## Every command -/

/-- A command keeps what the state before it had: the rows that work on one tile by `onTile`, each other row by its own lemma. -/
theorem exec_keeps (c : Instr) (h : Keeps s u) : ResKeeps s (exec c u) := by
  unfold exec
  cases c
  case reservedInstruction | serviceRequestTimeout | complArrival | remoteLineLanding | rwriteArrival | msgArrival | unscheduledArrival | updWait |
      updRun | updGroup | frameAutoRest | frameWait | frameRest | frameWake | frameEwDec | frameEwEnc | frameEwRescale | frameEwMin | frameEwMax |
      frameEwMul | frameEwSub | frameEwAdd | frameLoada | frameDrainPartial | frameDrain | frameMul | frameLoadw | watchdogExpiry | stepEnd | sync |
      lnkRd | tallyRd | svRecv | svSend | rwWait | winClose | winOpen | plWait | csrw | csrr | fnSinp | fnErf | fnSigm | fnTanh | fnRsqrt | fnRcp |
      fnLog2 | fnExp2 | vsck | vdec | venc32 | venc16 | vredmin | vredmax | vredadd | vins | vext | vsplat | vcvt | vperm | vcmpeq | vcmplt | vsel |
      vxor | vor | vand | vsubs | vadds | vneg | vabs | vmax | vmin | vfma | vmul | vsub | vadd | jal | j | bgeu | bltu | bge | blt | bne | beq |
      vst | vld | st8 | st16 | st32 | st64 | ld8u | ld8 | ld16u | ld16 | ld32u | ld32 | ld64 | slti | lih | shiftiSar | shiftiShr | shiftiShl | xori
      | ori | andi | addi | jr | clz | popc | mix64 | remu | rem | divu | div | mulhu | mulh | mul | maxu | minu | max | min | sltu | slt | sar |
      shr | shl | xor | or | and | sub | add =>
    exact h.onTile
  case sensRd => exact h.frame.onTile
  case copyRead => exact h.execCopyRead
  case copyReadReq => exact h.execCopyReadReq
  case copyWrite => exact h.execCopyWrite
  case copyMove => exact h.execCopyMove
  case copyFill => exact h.execCopyFill
  case readRequestArrival => exact h.execReadRequestArrival
  case lineFetch => exact h.execLineFetch
  case lineStaged => exact h.execLineStaged
  case patrolScrub => exact h.execPatrolScrub
  case stackTempRead => exact h.execStackTempRead
  case refreshShorten => exact h.execRefreshShorten
  case engineServiceRequest => exact h.execEngineServiceRequest
  case engineServiceTimeout => exact h.execEngineServiceTimeout
  case jobLoad => exact h.execJobLoad
  case loadChecksComplete => exact h.execLoadChecksComplete
  case jobStart => exact h.execJobStart
  case jobReplayStart => exact h.execJobReplayStart
  case jobCycle0Release => exact h.execJobCycle0Release
  case jobStop => exact h.execJobStop
  case jobKill => exact h.execJobKill
  case jobClear => exact h.execJobClear
  case unitFenceArrival => exact h.execUnitFenceArrival
  case fenceRootDecision => exact h.execFenceRootDecision
  case fenceRelease => exact h.execFenceRelease
  case stepTimeout => exact h.execStepTimeout
  case fenceEventWrite => exact h.execFenceEventWrite
  case digestSnapshot => exact h.execDigestSnapshot
  case groupEta => exact h.execGroupEta
  case groupFrozen => exact h.execGroupFrozen
  case engineFenceTimeout => exact h.execEngineFenceTimeout
  case selftestFrameLogic => exact h.execSelftestFrameLogic
  case selftestCoreLogic => exact h.execSelftestCoreLogic
  case selftestRouterMesh => exact h.execSelftestRouterMesh
  case selftestScratchpadMarch => exact h.execSelftestScratchpadMarch
  case selftestSensorCalibration => exact h.execSelftestSensorCalibration
  case selftestModuleLanes => exact h.execSelftestModuleLanes
  case quietSlotTest => exact h.execQuietSlotTest
  case selftestComplete => exact h.execSelftestComplete
  case wcmpRound => exact h.execWcmpRound
  case wcmpAnswer => exact h.execWcmpAnswer
  case wcmpPhaseTimeout => exact h.execWcmpPhaseTimeout
  case wcmpOutvote => exact h.execWcmpOutvote
  case regDieFault => exact h.execRegDieFault
  case edgeRegFault => exact h.execEdgeRegFault
  case vlogRegulationTick => exact h.execVlogRegulationTick
  case ratingExcess => exact h.execRatingExcess
  case sensorFailMark => exact h.execSensorFailMark
  case currentLedgerTick => exact h.execCurrentLedgerTick
  case zoneSwitchOnRequest => exact h.execZoneSwitchOnRequest
  case zoneRampStart => exact h.execZoneRampStart
  case slowRampStart => exact h.execSlowRampStart
  case zonePowerGood => exact h.execZonePowerGood
  case powerGoodTimeout => exact h.execPowerGoodTimeout
  case zonePark => exact h.execZonePark
  case zoneIdlePark => exact h.execZoneIdlePark
  case parkingComplete => exact h.execParkingComplete
  case parkRequest => exact h.execParkRequest
  case powerOffRequest => exact h.execPowerOffRequest
  case unparkRequest => exact h.execUnparkRequest
  case tempSample => exact h.execTempSample
  case overtempHoldRelease => exact h.execOvertempHoldRelease
  case powerLimitCheck => exact h.execPowerLimitCheck
  case thermalTrip => exact h.execThermalTrip
  case energyPeriod => exact h.execEnergyPeriod
  case haltAt => exact h.execHaltAt
  case haltNow => exact h.execHaltNow
  case jobHalt => exact h.execJobHalt
  case resume => exact h.execResume
  case stepCy => exact h.execStepCy
  case stepInsn => exact h.execStepInsn
  case bpSet => exact h.execBpSet
  case wpSet => exact h.execWpSet
  case clearPoints => exact h.execClearPoints
  case readCore => exact h.execReadCore
  case writeCore => exact h.execWriteCore
  case readSp => exact h.execReadSp
  case writeSp => exact h.execWriteSp
  case readMem => exact h.execReadMem
  case writeMem => exact h.execWriteMem
  case readFrame => exact h.execReadFrame
  case getVersion => exact h.execGetVersion
  case getCapabilities => exact h.execGetCapabilities
  case negotiateAlgorithms => exact h.execNegotiateAlgorithms
  case getDigests => exact h.execGetDigests
  case getCertificate => exact h.execGetCertificate
  case challenge => exact h.execChallenge
  case getMeasurements => exact h.execGetMeasurements
  case doeDiscovery => exact h.execDoeDiscovery
  case tokenPoolW => exact h.execTokenPoolW
  case tokenPeriod => exact h.execTokenPeriod
  case tokenDebit => exact h.execTokenDebit
  case tokenCredit => exact h.execTokenCredit
  case tokenAck => exact h.execTokenAck
  case tokenAckTimeout => exact h.execTokenAckTimeout
  case tokenMasterSilence => exact h.execTokenMasterSilence
  case laserLoss => exact h.execLaserLoss
  case rxSignalLoss => exact h.execRxSignalLoss
  case fecLockLoss => exact h.execFecLockLoss
  case linkDown => exact h.execLinkDown
  case linkRetrain => exact h.execLinkRetrain
  case laserLightArrival => exact h.execLaserLightArrival
  case identityFlit => exact h.execIdentityFlit
  case dataFlitReceive => exact h.execDataFlitReceive
  case nakReceive => exact h.execNakReceive
  case replayTimer => exact h.execReplayTimer
  case retryLimit => exact h.execRetryLimit
  case auditFlit => exact h.execAuditFlit
  case planTransferSend => exact h.execPlanTransferSend
  case transferLanding => exact h.execTransferLanding
  case linkCalibrationIdle => exact h.execLinkCalibrationIdle
  case tallyFlitSend => exact h.execTallyFlitSend
  case tallyFlitReceive => exact h.execTallyFlitReceive
  case linkTallyLoss => exact h.execLinkTallyLoss
  case masterElectionAnnounce => exact h.execMasterElectionAnnounce
  case electionSettle => exact h.execElectionSettle
  case masterHeartbeat => exact h.execMasterHeartbeat
  case heartbeatLoss => exact h.execHeartbeatLoss
  case groupReady => exact h.execGroupReady
  case groupStartTally => exact h.execGroupStartTally
  case groupReadyTimeout => exact h.execGroupReadyTimeout
  case groupFenceReport => exact h.execGroupFenceReport
  case groupDecision => exact h.execGroupDecision
  case groupReportTimeout => exact h.execGroupReportTimeout
  case coldStart => exact h.execColdStart
  case s0Rails => exact h.execS0Rails
  case s1Boot => exact h.execS1Boot
  case s2FusesAndShadowMap => exact h.execS2FusesAndShadowMap
  case s3DomainsOn => exact h.execS3DomainsOn
  case s4ClockAlignment => exact h.execS4ClockAlignment
  case s5TileTest => exact h.execS5TileTest
  case s6StackTraining => exact h.execS6StackTraining
  case s8LinkBringup => exact h.execS8LinkBringup
  case s9Usable => exact h.execS9Usable
  case itemBudgetExpiry => exact h.execItemBudgetExpiry
  case failedHot => exact h.execFailedHot
  case tripCoolExpiry => exact h.execTripCoolExpiry
  case tripRestart => exact h.execTripRestart
  case warmRestart => exact h.execWarmRestart
  case brownout => exact h.execBrownout
  case lifeRecordCommit => exact h.execLifeRecordCommit
  case refLoss => exact h.execRefLoss
  case refReturn => exact h.execRefReturn
  case crossingSlip => exact h.execCrossingSlip
  case droopAssert => exact h.execDroopAssert
  case shuntRecharged => exact h.execShuntRecharged
  case stretchEnd => exact h.execStretchEnd
  case stretchRestart => exact h.execStretchRestart
  case stretchNotice => exact h.execStretchNotice
  case stretchExtension => exact h.execStretchExtension
  case freqTargetChange => exact h.execFreqTargetChange
  case freqSwitchAnnounce => exact h.execFreqSwitchAnnounce
  case stepUpDelayExpiry => exact h.execStepUpDelayExpiry
  case vlogTargetReached => exact h.execVlogTargetReached
  case stepUpVoltageTimeout => exact h.execStepUpVoltageTimeout
  case freqSwitchApply => exact h.execFreqSwitchApply
  case guardWindowClose => exact h.execGuardWindowClose
  case vlogLower => exact h.execVlogLower
  case shimmerEnable => exact h.execShimmerEnable
  case shimmerOffset => exact h.execShimmerOffset
  case tallyGlitch => exact h.execTallyGlitch
  case tallyPulse => exact h.execTallyPulse
  case tallyMark => exact h.execTallyMark
  case tallyLoss => exact h.execTallyLoss
  case tallySlewStep => exact h.execTallySlewStep
  case tallyReferenceCount => exact h.execTallyReferenceCount
  case tallyEpochNext => exact h.execTallyEpochNext
  case tallyResync => exact h.execTallyResync
  case tallyOrigin => exact h.execTallyOrigin
  case s7EcmetFirmware => exact h.execS7EcmetFirmware
  case tileFirmwareFetch => exact h.execTileFirmwareFetch
  case fwUpdateControl => exact h.execFwUpdateControl
  case fwChunkBroadcast => exact h.execFwChunkBroadcast
  case fwChunkReceive => exact h.execFwChunkReceive
  case fwChunkRefetch => exact h.execFwChunkRefetch
  case fwActivation => exact h.execFwActivation
  case fwLaggardTimeout => exact h.execFwLaggardTimeout
  case mgmtUpdateControl => exact h.execMgmtUpdateControl
  case recoveryImage => exact h.execRecoveryImage
  case attestNonce => exact h.execAttestNonce
  case attestReport => exact h.execAttestReport
  case maintRemoveDefect => exact h.execMaintRemoveDefect
  case maintClearOverflow => exact h.execMaintClearOverflow
  case maintRemoveRetry => exact h.execMaintRemoveRetry
  case maintThaw => exact h.execMaintThaw
  case maintAdvanceRollback => exact h.execMaintAdvanceRollback
  case maintRevokeKey => exact h.execMaintRevokeKey
  case maintRaiseDebugLock => exact h.execMaintRaiseDebugLock
  case dbgRequest => exact h.execDbgRequest
  case dbgChallenge => exact h.execDbgChallenge
  case dbgResponse => exact h.execDbgResponse
  case dbgLockNow => exact h.execDbgLockNow
  case linkFaultRead => exact h.execLinkFaultRead
  case eventRaise => exact h.execEventRaise
  case eventEntryWrite => exact h.execEventEntryWrite
  case msixSignal => exact h.execMsixSignal
  case pennosRequest => exact h.execPennosRequest
  case hello => exact h.execHello
  case close => exact h.execClose
  case sessionIdleTimeout => exact h.execSessionIdleTimeout
  case dictRequestTimeout => exact h.execDictRequestTimeout
  case mgmtWatchdogExpiry => exact h.execMgmtWatchdogExpiry
  case debugSessionOpen => exact h.execDebugSessionOpen
  case pennosRead => exact h.execPennosRead
  case pennosWrite => exact h.execPennosWrite
  case readRange => exact h.execReadRange
  case writeRange => exact h.execWriteRange
  case subscribe => exact h.execSubscribe
  case commit => exact h.execCommit
  case functionLevelReset => exact h.execFunctionLevelReset
  case hotReset => exact h.execHotReset
  case pcieLinkDown => exact h.execPcieLinkDown
  case perstAssert => exact h.execPerstAssert
  case perstRelease => exact h.execPerstRelease
  case pcieLinkUp => exact h.execPcieLinkUp
  case d3hotEntry => exact h.execD3hotEntry
  case d0Entry => exact h.execD0Entry
  case busMasterDisable => exact h.execBusMasterDisable
  case aerFatalError => exact h.execAerFatalError
  case pcieConfigRequest => exact h.execPcieConfigRequest
  case w2Base => exact h.execW2Base
  case mbxDoorbell => exact h.execMbxDoorbell
  case mbxRelease => exact h.execMbxRelease
  case eqCtrl => exact h.execEqCtrl
  case eqHead => exact h.execEqHead
  case mailboxDispatch => exact h.execMailboxDispatch
  case bar0RegisterWrite => exact h.execBar0RegisterWrite
  case bar2Read => exact h.execBar2Read
  case bar2Write => exact h.execBar2Write
  case bar4Read => exact h.execBar4Read
  case bar4Write => exact h.execBar4Write
  case bypass => exact h.execBypass
  case idcode => exact h.execIdcode
  case samplePreload => exact h.execSamplePreload
  case extest => exact h.execExtest
  case clamp => exact h.execClamp
  case highz => exact h.execHighz
  case dbgframe => exact h.execDbgframe
  case trstAssert => exact h.execTrstAssert
  case slotPass => exact h.execSlotPass
  case slotAdd160 => exact h.execSlotAdd160
  case slotAdd160Final => exact h.execSlotAdd160Final
  case slotMax32 => exact h.execSlotMax32
  case slotSum64 => exact h.execSlotSum64
  case serviceLineHop => exact h.execServiceLineHop
  case hopCreditReturn => exact h.execHopCreditReturn
  case dictObjectRead => exact h.execDictObjectRead
  case dictObjectWrite => exact h.execDictObjectWrite
  case dictMemoryRead => exact h.execDictMemoryRead
  case dictMemoryWrite => exact h.execDictMemoryWrite
  case dictReply => exact h.execDictReply
  case ethPennosDatagram => exact h.execEthPennosDatagram
  case arpRequest => exact h.execArpRequest
  case ndpMessage => exact h.execNdpMessage
  case icmpEcho => exact h.execIcmpEcho
  case ethOtherFrame => exact h.execEthOtherFrame
  case ethAddressApply => exact h.execEthAddressApply
  case sgmiiLinkChange => exact h.execSgmiiLinkChange
  case smbusBlockWrite => exact h.execSmbusBlockWrite
  case smbusBlockRead => exact h.execSmbusBlockRead
  case smbusReadByte => exact h.execSmbusReadByte
  case smbusAlertResponse => exact h.execSmbusAlertResponse

end

/-- What a step leaves keeps what the state before it had, beside the command taken from the queue. -/
theorem step_keeps {s v : State} (hs : step s = .next v) : Keeps { s with pending := s.pending.tail } v := by
  cases queue : s.pending with
  | nil =>
    simp only [step, queue] at hs
    cases hs
    exact ⟨queue, fun legal => ⟨.refl _, legal⟩, id, id⟩
  | cons c cs =>
    simp only [step, queue] at hs
    exact exec_keeps c (Keeps.refl _) v hs

/-- Settles O58: a step writes tiles by `SMap.put` and device memory by stores of bytes, each of which leaves the canonical form. -/
theorem canonicalFormIsKept : Obligations.CanonicalFormIsKept := by
  unfold Obligations.CanonicalFormIsKept
  intro s v inv hs
  have kept := step_keeps hs
  exact ⟨kept.data inv.1, kept.tiles inv.2⟩

end Sys2Proof.Machine
end

section
namespace Sys2Proof.Machine

/-! # Every command completes -/

/-- What a command may answer on a grid: a state, or the fault of a tile that the grid does not have (R22, R29). Never a refusal. -/
inductive Completes (g : Grid) : Res → Prop
  | next {u : State} : Completes g (.next u)
  | noTile {t : TileIx} (absent : g.hasTile t.val = false) : Completes g (.fault .noSuchTile)

section
variable {g : Grid} {a b : Res}

theorem Completes.ne_refused (h : Completes g a) (r : Refusal) : a ≠ .refused r := by
  cases h with
  | next => nofun
  | noTile => nofun

theorem Completes.of_fault {f : Fault} (h : Completes g (.fault f)) : f = .noSuchTile ∧ ∃ t : TileIx, g.hasTile t.val = false := by
  cases h with
  | noTile absent => exact ⟨rfl, _, absent⟩

/-- Where no tile is missing, a command that completes answers with a state. -/
theorem Completes.exists_next (h : Completes g a) (all : ∀ t : TileIx, g.hasTile t.val = true) : ∃ u, a = .next u := by
  cases h with
  | next => exact ⟨_, rfl⟩
  | @noTile t absent => rw [all t] at absent; cases absent

/-- A grid of 30 logical rows of 48 tiles has every tile that a command can name. -/
theorem Grid.hasTile_of_full (full : 30 ≤ g.logicalRows) (t : TileIx) : g.hasTile t.val = true :=
  decide_eq_true (by omega)

/-! ## The forms of an answer -/

theorem Completes.ite {c : Prop} {dec : Decidable c} (ha : Completes g a) (hb : Completes g b) : Completes g (if c then a else b) := by
  split
  · exact ha
  · exact hb

/-- A command that asks the grid for its tile completes if what it does on that tile does. -/
theorem Completes.ofTile {t : TileIx} (h : Completes g a) : Completes g (if g.hasTile t.val then a else .fault .noSuchTile) := by
  split
  · exact h
  · next absent => exact .noTile (Bool.eq_false_iff.mpr absent)

/-- The same where the command asks whether its tile is missing. -/
theorem Completes.unlessTile {t : TileIx} (h : Completes g a) : Completes g (if ! g.hasTile t.val then .fault .noSuchTile else a) := by
  split
  · next absent => exact .noTile (by simpa using absent)
  · exact h

end

section
variable {s : State}

theorem onTile_completes {t : TileIx} {f : TEnv → Tile → TOut} : Completes s.grid (onTile t f s) := .ofTile .next

theorem onGrid_completes {t : TileIx} {f : State → State} : Completes s.grid (onGrid t f s) := .ofTile .next

theorem agentPacket_completes {t : TileIx} {f : State → State} : Completes s.grid (agentPacket t f s) := .ofTile .next

theorem mgmtWriteIn_completes {v : Serve} {car : Carrier} {cls : Nat} {w : Writer} : Completes s.grid (mgmtWriteIn v car cls w s) := .ite .next .next

theorem mgmtRead_completes {f : State → State × Nat × List Byte} : Completes s.grid (mgmtRead f s) :=
  .ite .next (.ite .next (.ite .next (.ite .next .next)))

theorem maintRow_completes {mop : Nat} {car : Carrier} {cmd : List Byte} {blown : Bool} : Completes s.grid (maintRow mop car cmd blown s) :=
  .ite mgmtWriteIn_completes .next

/-! ## Commands that answer by cases of a value they look up -/

theorem execEngineServiceTimeout_completes {e : EngineIx} : Completes s.grid (execEngineServiceTimeout e s) := by
  unfold execEngineServiceTimeout
  split
  · exact .next
  · exact .next

theorem execWcmpAnswer_completes {device : Nat} {phase : Fin 3} {value : U64} : Completes s.grid (execWcmpAnswer device phase value s) := by
  unfold execWcmpAnswer
  split
  · exact .next
  · exact .ite .next .next

theorem execTokenAckTimeout_completes : Completes s.grid (execTokenAckTimeout s) := by
  unfold execTokenAckTimeout
  split
  · exact .next
  · exact .ite .next .next

theorem execS0Rails_completes {failedDies : List RegDieIx} {strap1 strap2 strap3 : BitVec 7} :
    Completes s.grid (execS0Rails failedDies strap1 strap2 strap3 s) := by
  refine .ite .next ?_
  dsimp only
  split
  · exact .next
  · exact .next

theorem execS1Boot_completes : Completes s.grid (execS1Boot s) := by
  refine .ite ?_ (.ite ?_ .next)
  · dsimp only
    split
    · exact .next
    · exact .next
  · dsimp only
    split
    · exact .next
    · exact .next

theorem execS7EcmetFirmware_completes : Completes s.grid (execS7EcmetFirmware s) := by
  refine .ite .next ?_
  dsimp only
  cases (s.trySlots 9 imgEcmet s.ecmetSlotBytes (s.slotOrder 9 s.life.ecmetSlot)).2 with
  | none => exact .next
  | some slot => exact .next

theorem execVlogTargetReached_completes : Completes s.grid (execVlogTargetReached s) := by
  unfold execVlogTargetReached
  split
  · exact .next
  · exact .next

theorem execStepUpVoltageTimeout_completes : Completes s.grid (execStepUpVoltageTimeout s) := by
  unfold execStepUpVoltageTimeout
  split
  · exact .next
  · exact .next

theorem execTileFirmwareFetch_completes {t : TileIx} {digestGood : List Bool} : Completes s.grid (execTileFirmwareFetch t digestGood s) := by
  refine .unlessTile ?_
  split
  · exact .next
  · exact .ite .next (.ite .next .next)

theorem execFwChunkBroadcast_completes : Completes s.grid (execFwChunkBroadcast s) := by
  unfold execFwChunkBroadcast
  split
  · exact .next
  · exact .ite .next (.ite .next .next)

theorem execFwActivation_completes : Completes s.grid (execFwActivation s) := by
  unfold execFwActivation
  split
  · exact .next
  · exact .ite .next .next

/-! ## Every command -/

/-- Every command completes: those of a core or a tile ask the grid for their tile, and each other one answers with a state in all its branches. -/
theorem exec_completes (c : Instr) : Completes s.grid (exec c s) := by
  unfold exec
  cases c
  case add | sub | and | or | xor | shl | shr | sar | slt | sltu | min | max | minu | maxu | mul | mulh | mulhu | div | divu | rem | remu | mix64 |
      popc | clz | jr | addi | andi | ori | xori | shiftiShl | shiftiShr | shiftiSar | lih | slti | ld64 | ld32 | ld32u | ld16 | ld16u | ld8 | ld8u |
      st64 | st32 | st16 | st8 | vld | vst | beq | bne | blt | bge | bltu | bgeu | j | jal | vadd | vsub | vmul | vfma | vmin | vmax | vabs | vneg |
      vadds | vsubs | vand | vor | vxor | vsel | vcmplt | vcmpeq | vperm | vcvt | vsplat | vext | vins | vredadd | vredmax | vredmin | venc16 |
      venc32 | vdec | vsck | fnExp2 | fnLog2 | fnRcp | fnRsqrt | fnTanh | fnSigm | fnErf | fnSinp | csrr | csrw | plWait | winOpen | winClose |
      rwWait | svSend | svRecv | tallyRd | lnkRd | sync | stepEnd | watchdogExpiry | frameLoadw | frameMul | frameDrain | frameDrainPartial |
      frameLoada | frameEwAdd | frameEwSub | frameEwMul | frameEwMax | frameEwMin | frameEwRescale | frameEwEnc | frameEwDec | frameWake |
      frameRest | frameWait | frameAutoRest | updGroup | updRun | updWait | unscheduledArrival | msgArrival | rwriteArrival | remoteLineLanding |
      complArrival | serviceRequestTimeout | reservedInstruction =>
    exact onTile_completes
  case sensRd => exact onTile_completes (s := { s with draws := s.draws + 1 })
  case slotPass | slotAdd160 | slotAdd160Final | slotMax32 | slotSum64 | serviceLineHop | hopCreditReturn | crossingSlip => exact onGrid_completes
  case dictObjectRead | dictObjectWrite => exact agentPacket_completes
  case warmRestart | fwUpdateControl | jobLoad | jobStart | jobReplayStart | jobStop | jobKill | jobClear | fenceEventWrite | digestSnapshot |
      groupEta | groupFrozen | selftestFrameLogic | selftestCoreLogic | selftestRouterMesh | selftestScratchpadMarch | selftestSensorCalibration |
      selftestModuleLanes | shimmerEnable | shimmerOffset | tallyResync | parkRequest | powerOffRequest | unparkRequest | tripRestart | tokenPoolW |
      attestNonce | dbgRequest | dbgResponse | dbgLockNow | tallyEpochNext | tallyOrigin | mgmtUpdateControl | recoveryImage =>
    exact mgmtWriteIn_completes
  case linkFaultRead | attestReport | dbgChallenge => exact mgmtRead_completes
  case maintRemoveDefect | maintClearOverflow | maintRemoveRetry | maintThaw | maintAdvanceRollback | maintRevokeKey | maintRaiseDebugLock =>
    exact maintRow_completes
  case engineServiceTimeout => exact execEngineServiceTimeout_completes
  case wcmpAnswer => exact execWcmpAnswer_completes
  case tokenAckTimeout => exact execTokenAckTimeout_completes
  case s0Rails => exact execS0Rails_completes
  case s1Boot => exact execS1Boot_completes
  case s7EcmetFirmware => exact execS7EcmetFirmware_completes
  case vlogTargetReached => exact execVlogTargetReached_completes
  case stepUpVoltageTimeout => exact execStepUpVoltageTimeout_completes
  case tileFirmwareFetch => exact execTileFirmwareFetch_completes
  case fwChunkBroadcast => exact execFwChunkBroadcast_completes
  case fwActivation => exact execFwActivation_completes
  case fwChunkReceive => exact .unlessTile .next
  case fwChunkRefetch => exact .unlessTile (.ite .next .next)
  -- commands that branch, each branch a state
  case patrolScrub | stackTempRead | engineServiceRequest | laserLoss | auditFlit | electionSettle | heartbeatLoss | s3DomainsOn |
      s6StackTraining | s8LinkBringup | s9Usable | itemBudgetExpiry | failedHot | stepUpDelayExpiry | fwLaggardTimeout =>
    exact .ite .next .next
  case masterElectionAnnounce | s2FusesAndShadowMap | s5TileTest | s4ClockAlignment => exact .ite .next (.ite .next .next)
  case linkRetrain => exact .ite .next (.ite .next (.ite .next .next))
  -- every other command answers with one state, whatever that state's fields depend on
  all_goals exact .next

end

/-- Settles O56: a command that completes is not refused, faults only for a missing tile, and none is missing from 30 rows of 48. -/
theorem commandsComplete : Obligations.CommandsComplete := by
  unfold Obligations.CommandsComplete
  refine ⟨fun c s => (exec_completes c).ne_refused, fun c s full => (exec_completes c).exists_next (Grid.hasTile_of_full full), fun c s f hf => ?_⟩
  have completes : Completes s.grid (exec c s) := exec_completes c
  rw [hf] at completes
  exact completes.of_fault

end Sys2Proof.Machine
end

section
namespace Sys2Proof.Machine

/-! # Bead arithmetic -/

/-! ## The shift and the size of a bead product (R47, R48) -/

theorem sextNat_bounds {w : Nat} (hw : 0 < w) (v : Nat) :
    -((2 ^ (w - 1) : Nat) : Int) ≤ sextNat w v ∧ sextNat w v < ((2 ^ (w - 1) : Nat) : Int) := by
  have double : 2 ^ (w - 1) * 2 = 2 ^ w := Nat.two_pow_pred_mul_two hw
  have low : v % 2 ^ w < 2 ^ w := Nat.mod_lt _ (Nat.two_pow_pos w)
  unfold sextNat
  dsimp only
  split
  · omega
  · omega

theorem Bead.fine_bounds (b : Bead) : -16 ≤ b.fine ∧ b.fine < 16 := sextNat_bounds (w := 5) (by decide) b.byte0.toNat

theorem BeadFmt.off_bounds (f : BeadFmt) : -10 ≤ f.off ∧ f.off ≤ 0 := by
  cases f <;> decide

theorem dotShift_cast (fa fb : BeadFmt) (a b : Bead) : (dotShift fa a fb b : Int) = a.fine + b.fine + fa.off + fb.off + 52 := by
  have := a.fine_bounds
  have := b.fine_bounds
  have := fa.off_bounds
  have := fb.off_bounds
  exact Int.toNat_of_nonneg (by omega)

theorem dotShift_le (fa fb : BeadFmt) (a b : Bead) : dotShift fa a fb b ≤ 82 := by
  have := dotShift_cast fa fb a b
  have := a.fine_bounds
  have := b.fine_bounds
  have := fa.off_bounds
  have := fb.off_bounds
  omega

theorem natAbs_toInt_byte_le (b : Byte) : b.toInt.natAbs ≤ 2 ^ 15 := by
  have := b.le_toInt
  have := b.toInt_lt
  omega

theorem natAbs_expandB8E_le (b : Byte) : (expandB8E b).natAbs ≤ 2 ^ 15 := by
  have field : 2 ^ (b.toNat / 16 % 8) ≤ 2 ^ 7 := Nat.pow_le_pow_right (by decide) (by omega)
  have scaled : (16 + b.toNat % 16) * 2 ^ (b.toNat / 16 % 8) ≤ 31 * 2 ^ 7 := Nat.mul_le_mul (by omega) field
  have size : (expandB8E b).natAbs
      = if b.toNat / 16 % 8 = 0 then 2 * (b.toNat % 16) else (16 + b.toNat % 16) * 2 ^ (b.toNat / 16 % 8) := by
    unfold expandB8E
    dsimp only
    split
    · rw [Int.natAbs_neg, Int.natAbs_natCast]
    · rw [Int.natAbs_natCast]
  rw [size]
  split
  · omega
  · omega

theorem natAbs_sextNat16_le (v : Nat) : (sextNat 16 v).natAbs ≤ 2 ^ 15 := by
  have := sextNat_bounds (w := 16) (by decide) v
  omega

/-- R40, R41: an element of any format lies within that of B16I. -/
theorem natAbs_le_of_mem_expandElems {f : BeadFmt} {bs : List Byte} {e : Int} (he : e ∈ expandElems f bs) : e.natAbs ≤ 2 ^ 15 := by
  cases f with
  | b8i =>
    obtain ⟨b, -, rfl⟩ := List.mem_map.mp he
    exact natAbs_toInt_byte_le b
  | b8e =>
    obtain ⟨b, -, rfl⟩ := List.mem_map.mp he
    exact natAbs_expandB8E_le b
  | b16i =>
    obtain ⟨j, -, rfl⟩ := List.mem_map.mp he
    exact natAbs_sextNat16_le _

theorem natAbs_le_of_mem_operand {f : BeadFmt} {b : Bead} {e : Int} (he : e ∈ b.operand f) : e.natAbs ≤ 2 ^ 15 := by
  unfold Bead.operand at he
  split at he
  · exact natAbs_le_of_mem_expandElems he
  · simp [List.eq_of_mem_replicate he]

theorem expandElems_length {f : BeadFmt} {bs : List Byte} (h : bs.length = 32 * f.bytes) : (expandElems f bs).length = 32 := by
  cases f with
  | b8i => simpa [expandElems, BeadFmt.bytes] using h
  | b8e => simpa [expandElems, BeadFmt.bytes] using h
  | b16i => simp [expandElems]

theorem Bead.operand_length {f : BeadFmt} {b : Bead} (h : b.elems.length = 32 * f.bytes) : (b.operand f).length = 32 := by
  unfold Bead.operand
  split
  · exact expandElems_length h
  · exact List.length_replicate

/-- A dot product is at most one product of the bounds for each pair of elements. -/
theorem natAbs_dotElems_le {m n : Nat} : ∀ {as bs : List Int}, (∀ a ∈ as, a.natAbs ≤ m) → (∀ b ∈ bs, b.natAbs ≤ n) →
    (dotElems as bs).natAbs ≤ as.length * (m * n)
  | [], _, _, _ => by simp [dotElems]
  | _ :: _, [], _, _ => by simp [dotElems]
  | a :: as, b :: bs, ha, hb => by
    obtain ⟨ha₀, ha⟩ := List.forall_mem_cons.mp ha
    obtain ⟨hb₀, hb⟩ := List.forall_mem_cons.mp hb
    calc (a * b + dotElems as bs).natAbs
        ≤ (a * b).natAbs + (dotElems as bs).natAbs := Int.natAbs_add_le _ _
      _ ≤ m * n + as.length * (m * n) :=
        Nat.add_le_add (Int.natAbs_mul a b ▸ Nat.mul_le_mul ha₀ hb₀) (natAbs_dotElems_le ha hb)
      _ = (a :: as).length * (m * n) := by rw [List.length_cons, Nat.succ_mul, Nat.add_comm]

/-- R48: 32 products of 2^30 each, shifted by at most 82. -/
theorem natAbs_dotElems_mul_two_pow_dotShift_le {fa : BeadFmt} {a : Bead} (fb : BeadFmt) (b : Bead) (ha : a.elems.length = 32 * fa.bytes) :
    (dotElems (a.operand fa) (b.operand fb)).natAbs * 2 ^ dotShift fa a fb b ≤ 2 ^ 117 := by
  have dot := natAbs_dotElems_le (fun _ => natAbs_le_of_mem_operand (f := fa) (b := a)) (fun _ => natAbs_le_of_mem_operand (f := fb) (b := b))
  rw [Bead.operand_length ha] at dot
  calc _ ≤ 32 * (2 ^ 15 * 2 ^ 15) * 2 ^ 82 := Nat.mul_le_mul dot (Nat.pow_le_pow_right (by decide) (dotShift_le fa fb a b))
    _ = 2 ^ 117 := by norm_num

/-! ## Accumulators and their residues (R49, R52, R67 to R70) -/

theorem Acc.checkGood_iff {x : Acc} : x.checkGood = true ↔ x.pat % 255 = x.resid := beq_iff_eq

theorem accPat_cast (v : Int) : (accPat v : Int) = v % 2 ^ 160 := by
  unfold accPat
  omega

theorem accPat_lt (v : Int) : accPat v < 2 ^ 160 := by
  have := accPat_cast v
  omega

/-- R69: the pattern of a negative integer is the integer and 2^160, which is 1 mod 255. -/
theorem accPat_mod_255 {v : Int} (small : v.natAbs < 2 ^ 159) : (accPat v : Int) % 255 = (v + if v < 0 then 1 else 0) % 255 := by
  have := accPat_cast v
  split
  · omega
  · omega

/-- R69: 2^8 is 1 mod 255, so a shift counts mod 8. -/
theorem two_pow_modEq_255 (s : Nat) : (2 ^ s : Int) ≡ 2 ^ (s % 8) [ZMOD 255] := by
  have octave : ((2 ^ 8) ^ (s / 8) : Int) ≡ 1 ^ (s / 8) [ZMOD 255] := Int.ModEq.pow _ (by decide)
  calc (2 ^ s : Int) = 2 ^ (s % 8) * (2 ^ 8) ^ (s / 8) := by rw [← pow_mul, ← pow_add, Nat.mod_add_div]
    _ ≡ 2 ^ (s % 8) * 1 ^ (s / 8) [ZMOD 255] := octave.mul_left _
    _ = 2 ^ (s % 8) := by rw [one_pow, mul_one]

/-- R69: the residue predicted for a contribution is that of its pattern. -/
theorem accPat_shifted_mod_255 {d : Int} {s rho : Nat} (hrho : (rho : Int) = d % 255) (small : d.natAbs * 2 ^ s < 2 ^ 159) :
    accPat (d * 2 ^ s) % 255 = (rho * 2 ^ (s % 8) + if d < 0 then 1 else 0) % 255 := by
  have size : (d * 2 ^ s).natAbs < 2 ^ 159 := by simpa [Int.natAbs_mul, Int.natAbs_pow] using small
  have sign : d * 2 ^ s < 0 ↔ d < 0 := lt_iff_lt_of_le_iff_le (mul_nonneg_iff_of_pos_right (by positivity))
  have residue : d ≡ rho [ZMOD 255] := hrho ▸ (Int.mod_modEq d 255).symm
  have predicted : d * 2 ^ s ≡ rho * 2 ^ (s % 8) [ZMOD 255] := residue.mul (two_pow_modEq_255 s)
  have pattern := accPat_mod_255 size
  simp only [sign] at pattern
  zify
  exact pattern.trans (predicted.add_right _)

/-- A chain start holds its contribution, with the residue predicted for it. -/
theorem Acc.contribute_start_checkGood (x : Acc) {d : Int} {s rho : Nat} (poison : Bool) (hrho : (rho : Int) = d % 255)
    (small : d.natAbs * 2 ^ s < 2 ^ 159) : (Acc.contribute true x d s rho poison).checkGood = true :=
  Acc.checkGood_iff.mpr (accPat_shifted_mod_255 hrho small)

/-- R49, R52: a contribution to a chain is merged as the partial of a chain of its own. -/
theorem Acc.contribute_continue (x : Acc) (d : Int) (s rho : Nat) (poison : Bool) :
    Acc.contribute false x d s rho poison = x.merge (Acc.contribute true x d s rho poison) := rfl

/-- R70: a merge removes 2^160 as often as it carries, and its residue counts the carry. -/
theorem Acc.merge_checkGood {x y : Acc} (hx : x.checkGood = true) (hy : y.checkGood = true) (lx : x.pat < 2 ^ 160) (ly : y.pat < 2 ^ 160) :
    (x.merge y).checkGood = true := by
  rw [Acc.checkGood_iff] at hx hy ⊢
  change (x.pat + y.pat) % 2 ^ 160 % 255 = (x.resid + y.resid + 255 - (x.pat + y.pat) / 2 ^ 160) % 255
  omega

theorem Acc.merge_pat (x y : Acc) : (x.merge y).pat = (x.pat + y.pat) % 2 ^ 160 := rfl

theorem Acc.merge_poison (x y : Acc) : (x.merge y).poison = (x.poison || y.poison) := rfl

theorem Acc.contribute_checkGood (start : Bool) {x : Acc} {d : Int} {s rho : Nat} (poison : Bool) (hx : x.checkGood = true) (lx : x.pat < 2 ^ 160)
    (hrho : (rho : Int) = d % 255) (small : d.natAbs * 2 ^ s < 2 ^ 159) : (Acc.contribute start x d s rho poison).checkGood = true := by
  have started := Acc.contribute_start_checkGood x poison hrho small
  cases start with
  | true => exact started
  | false =>
    rw [Acc.contribute_continue]
    exact Acc.merge_checkGood hx started lx (accPat_lt _)

theorem Acc.contribute_pat (start : Bool) (x : Acc) (d : Int) (s rho : Nat) (poison : Bool) :
    ((Acc.contribute start x d s rho poison).pat : Int) = ((if start then 0 else (x.pat : Int)) + d * 2 ^ s) % 2 ^ 160 := by
  have pattern : ((Acc.contribute true x d s rho poison).pat : Int) = d * 2 ^ s % 2 ^ 160 := accPat_cast _
  cases start with
  | true => simpa using pattern
  | false =>
    rw [Acc.contribute_continue, Acc.merge_pat, Int.natCast_mod, Nat.cast_add, pattern]
    exact Int.add_emod_emod _ _ _

theorem Acc.contribute_pat_lt (start : Bool) (x : Acc) (d : Int) (s rho : Nat) (poison : Bool) :
    (Acc.contribute start x d s rho poison).pat < 2 ^ 160 := by
  have := Acc.contribute_pat start x d s rho poison
  omega

theorem Acc.contribute_poison (start : Bool) (x : Acc) (d : Int) (s rho : Nat) (poison : Bool) :
    (Acc.contribute start x d s rho poison).poison = (poison || (! start && x.poison)) := by
  cases start with
  | true => exact (Bool.or_false poison).symm
  | false => exact Bool.or_comm x.poison poison

/-- Settles O13: fine exponents and offsets bound the shift, elements within 2^15 bound the product, and a residue counts the carries that a sum
mod 2^160 drops. -/
theorem frameArithmetic : Obligations.FrameArithmetic := by
  unfold Obligations.FrameArithmetic
  refine ⟨fun fa fb a b ha _ => ⟨dotShift_cast fa fb a b, dotShift_le fa fb a b, natAbs_dotElems_mul_two_pow_dotShift_le fb b ha⟩,
    fun start x d s rho poison hx lx hrho small => ?_, fun x y hx hy lx ly => ?_⟩
  · exact ⟨Acc.contribute_checkGood start poison hx lx hrho small, Acc.contribute_pat_lt start x d s rho poison,
      Acc.contribute_pat start x d s rho poison, Acc.contribute_poison start x d s rho poison⟩
  · exact ⟨Acc.merge_checkGood hx hy lx ly, x.merge_pat y, x.merge_poison y⟩

end Sys2Proof.Machine
end

section
namespace Sys2Proof.Machine

/-! # What an instruction that retires in its tile leaves (R112, R116) -/

/-- An instruction with no register as its destination leaves its core as `retire` does around the core's own change: it goes on one cycle later. -/
theorem goesOn_of_retire {s u : State} {i : CoreAt} {t0 lat : Nat} {dsts : List Nat} {k : CoreSt}
    (hu : u.coreAt i = retire t0 (t0 + 1) lat dsts none k)
    (run : (s.coreAt i).run = .running) (same : k = { s.coreAt i with s := k.s }) : goesOn s u i (t0 + 1) := by
  rw [goesOn, keepsV, keepsFlags, hu, same]
  simp [run]

/-- An instruction that only retires, and issues its successor at `nx`. -/
theorem noResult_of_retire {s u : State} {i : CoreAt} {t0 nx lat : Nat} (only : onlyCore s u i)
    (hu : u.coreAt i = retire t0 nx lat [] none (s.coreAt i)) : NoResult s u i ((s.coreAt i).pc + 1) nx := by
  simp [NoResult, keepsS, keepsV, keepsFlags, only, hu]

/-- A tile whose own core alone is changed by the last update: the other cores and the scratchpad are those before it. -/
theorem restOfTile_of_updCore {s u : State} {i : CoreAt} {t : Tile} {r : CoreSt → CoreSt} (only : onlyTile s u i.tile.val)
    (tile : u.tile i.tile.val = t.updCore i.core r) (cores : ∀ c, c ≠ i.core → t.core c = (s.tile i.tile.val).core c)
    (sp : t.sp = (s.tile i.tile.val).sp) : restOfTile s u i :=
  ⟨only, fun c hc => by rw [tile, updCore_ne _ _ _ _ hc, cores c hc], by rw [tile]; exact sp⟩

theorem coreAt_of_updCore {u : State} {i : CoreAt} {t : Tile} {r : CoreSt → CoreSt} (tile : u.tile i.tile.val = t.updCore i.core r) :
    u.coreAt i = r (t.core i.core) := by
  rw [State.coreAt, tile, updCore_at]

end Sys2Proof.Machine
end

section
namespace Sys2Proof.Machine

/-! # Control registers -/

/-! ## The update engine with nothing in flight -/

theorem updTo_idle (c : Nat) (t : Tile) (idle : t.upd.ops = []) : updTo c t = TOut.of (t.updUpd fun u => { u with clk := max u.clk c }) := by
  unfold updTo
  cases fuel : c + 1 - t.upd.clk with
  | zero =>
    have past : max t.upd.clk c = t.upd.clk := by omega
    simp [updRunTo, Tile.updUpd, past]
  | succ n =>
    have none_due : nextDue t.upd.ops = none := by rw [idle]; rfl
    simp only [updRunTo, none_due]

/-- The tile with its frame and its update engine brought up to a cycle, neither with anything in flight. -/
def Tile.unitsAt (t : Tile) (c : Nat) : Tile := (t.atCycle c).updUpd fun u => { u with clk := max u.clk c }

theorem Tile.atCycle_succ (t : Tile) (n : Nat) : (t.atCycle n).atCycle (n + 1) = t.atCycle (n + 1) := by
  have later : max (max t.frame.clk n) (n + 1) = max t.frame.clk (n + 1) := by omega
  simp only [Tile.atCycle, Tile.updFrame, later]

/-! ## The registers by their numbers (R99, R136, R243) -/

theorem csrCauses_xr (e : TEnv) (c : CoreIx) (wr : Bool) (x : Fin 8) (v : U64) :
    csrCauses e c wr (0x010 + x.val) v = causeIf (wr && x.val / 2 != c.val) 4 := by
  fin_cases x <;> rfl

theorem csrCauses_frame {n : Nat} (e : TEnv) (wr : Bool) (v : U64) (from_ : 0x0C0 ≤ n) (upto : n ≤ 0x0C5) :
    csrCauses e 0 wr n v = causeIf (wr && (n == 0x0C0 || n == 0x0C2 || ((n == 0x0C1 || n == 0x0C5) && decide (2 ^ 32 ≤ v.toNat)))) 4 := by
  interval_cases n <;> rfl

theorem csrCauses_update {n : Nat} {e : TEnv} (wr : Bool) (v : U64) (engines : e.engines = true) (from_ : 0x0D0 ≤ n) (upto : n ≤ 0x0D5) :
    csrCauses e 3 wr n v = causeIf (wr && (n == 0x0D4 || n == 0x0D5 || ((n == 0x0D2 || n == 0x0D3) && decide (2 ^ 32 ≤ v.toNat)))) 4 := by
  interval_cases n <;> simp [csrCauses, engines]

theorem csrValue_xr (e : TEnv) (c : CoreIx) (x : Fin 8) (t0 : Nat) (t : Tile) : csrValue e c (0x010 + x.val) t0 t = xrAt t.xr[x] t0 := by
  fin_cases x <;> rfl

theorem csrWrite_xr (c : CoreIx) (x : Fin 8) (t0 : Nat) (v : U64) (t : Tile) :
    csrWrite c (0x010 + x.val) t0 v t = { t with xr := t.xr.set x (xrPut t.xr[x] t0 v) } := by
  fin_cases x <;> rfl

/-! ## What a write keeps of its tile -/

section
variable (c : CoreIx) (n t0 : Nat) (v : U64) (t : Tile)

theorem csrWrite_sp : (csrWrite c n t0 v t).sp = t.sp := by
  unfold csrWrite
  split
  · rfl
  · split <;> rfl

theorem csrWrite_core_ne {d : CoreIx} (h : d ≠ c) : (csrWrite c n t0 v t).core d = t.core d := by
  unfold csrWrite
  split
  · rfl
  · split
    case h_1 => exact updCore_ne _ _ _ _ h
    case h_2 => exact updCore_ne _ _ _ _ h
    all_goals rfl

/-- Of its own core a write changes VFLAGS or CPEAK and nothing else. -/
theorem csrWrite_core : ∃ fl pk, (csrWrite c n t0 v t).core c = { t.core c with vflags := fl, cpeak := pk } := by
  unfold csrWrite
  split
  · exact ⟨_, _, rfl⟩
  · split
    case h_1 => exact ⟨_, _, updCore_at _ _ _⟩
    case h_2 => exact ⟨_, _, updCore_at _ _ _⟩
    all_goals exact ⟨_, _, rfl⟩

theorem csrWrite_keeps_xr (h : ¬ ∃ x : Fin 8, n = 0x010 + x.val) : (csrWrite c n t0 v t).xr = t.xr := by
  have other : ¬ (0x010 ≤ n ∧ n ≤ 0x017) := fun inside => h ⟨⟨n - 0x010, by omega⟩, by dsimp only; omega⟩
  unfold csrWrite
  rw [if_neg other]
  split <;> rfl

end

/-! ## CSRR -/

section
variable {s u : State} {i : CoreAt} {t0 n : Nat} {v : U64} {t : Tile}

/-- A register that core `i` may read meets no condition of R137. -/
theorem csrCauses_of_controlReads (h : controlReads s i t0 n v) : csrCauses (s.env i.tile.val) i.core false n 0 = [] := by
  obtain ⟨rfl, -⟩ | ⟨rfl, -⟩ | ⟨rfl, -⟩ | ⟨rfl, -⟩ | ⟨rfl, -⟩ | ⟨rfl, -⟩ | ⟨rfl, -⟩ | ⟨rfl, -⟩ | ⟨rfl, -⟩ | ⟨rfl, -⟩
    | ⟨x, rfl, -⟩ | ⟨c0, h⟩ | ⟨c3, engines, h⟩ := h
  iterate 10 rfl
  · rw [csrCauses_xr]; rfl
  · rw [c0, csrCauses_frame _ _ _ (by omega) (by omega)]; rfl
  · rw [c3, csrCauses_update _ _ engines (by omega) (by omega)]; rfl

/-- What a read returns once the frame and the update engine have been brought up to its cycle. -/
theorem csrValue_of_controlReads (h : controlReads s i t0 n v) :
    csrValue (s.env i.tile.val) i.core n t0 ((s.tile i.tile.val).unitsAt t0) = v := by
  obtain ⟨rfl, rfl⟩ | ⟨rfl, rfl⟩ | ⟨rfl, rfl⟩ | ⟨rfl, rfl⟩ | ⟨rfl, rfl⟩ | ⟨rfl, rfl⟩ | ⟨rfl, rfl⟩ | ⟨rfl, rfl⟩
    | ⟨rfl, rfl⟩ | ⟨rfl, rfl⟩ | ⟨x, rfl, settled, rfl⟩
    | ⟨-, ⟨rfl, rfl⟩ | ⟨rfl, rfl⟩ | ⟨rfl, rfl⟩ | ⟨rfl, rfl⟩ | ⟨rfl, rfl⟩⟩
    | ⟨-, -, ⟨rfl, rfl⟩ | ⟨rfl, rfl⟩ | ⟨rfl, rfl⟩ | ⟨rfl, rfl⟩⟩ := h
  iterate 10 rfl
  · exact (csrValue_xr _ _ x _ _).trans (if_pos settled)
  all_goals rfl

/-- A ready core reads its register and retires. -/
theorem csrrOp_ready {d : Reg} {n : BitVec 12} (ready : CoreReady s i [] [rS d] none) (idle : (s.tile i.tile.val).upd.ops = [])
    (reads : controlReads s i (s.issueAt i [] [rS d] none) n.toNat v) :
    csrrOp (s.env i.tile.val) i.core d n (s.tile i.tile.val)
      = TOut.of (((s.tile i.tile.val).unitsAt (s.issueAt i [] [rS d] none)).updCore i.core fun k =>
          retire (s.issueAt i [] [rS d] none) (s.issueAt i [] [rS d] none + 1) 1 [rS d] none (k.setS d v)) := by
  have clocks := updTo_idle (s.issueAt i [] [rS d] none) ((s.tile i.tile.val).atCycle (s.issueAt i [] [rS d] none)) idle
  refine (coreGo_ready ready.tile ?_).trans ((congrArg (fun o : TOut => o.upd _) clocks).trans ?_)
  · rw [csrCauses_of_controlReads reads]
    rfl
  · rw [← csrValue_of_controlReads reads]
    rfl

/-! ## CSRW -/

/-- A write that the register and the core allow meets no condition of R137. -/
theorem csrCauses_of_controlWriteOk (h : controlWriteOk s i n v) : csrCauses (s.env i.tile.val) i.core true n v = [] := by
  obtain ⟨rfl, small⟩ | ⟨rfl, small⟩ | ⟨x, rfl, own⟩ | ⟨c0, h⟩ | ⟨c3, engines, h⟩ := h
  · simpa [csrCauses, causeIf] using small
  · simpa [csrCauses, causeIf] using small
  · simp [csrCauses_xr, causeIf, own]
  · rw [c0, csrCauses_frame _ _ _ (by omega) (by omega)]
    obtain rfl | rfl | ⟨rfl | rfl, small⟩ := h
    · rfl
    · rfl
    · simpa [causeIf] using small
    · simpa [causeIf] using small
  · rw [c3, csrCauses_update _ _ engines (by omega) (by omega)]
    obtain rfl | rfl | ⟨rfl | rfl, small⟩ := h
    · rfl
    · rfl
    · simpa [causeIf] using small
    · simpa [causeIf] using small

/-- A ready core writes its register and retires; the write is in effect from the next cycle on. -/
theorem csrwOp_ready {a : Reg} {n : BitVec 12} (ready : CoreReady s i [rS a] [] none) (idle : (s.tile i.tile.val).upd.ops = [])
    (ok : controlWriteOk s i n.toNat ((s.coreAt i).getS a)) :
    csrwOp (s.env i.tile.val) i.core a n (s.tile i.tile.val)
      = TOut.of ((csrWrite i.core n.toNat (s.issueAt i [rS a] [] none) ((s.coreAt i).getS a)
          ((s.tile i.tile.val).unitsAt (s.issueAt i [rS a] [] none + 1))).updCore i.core
          (retire (s.issueAt i [rS a] [] none) (s.issueAt i [rS a] [] none + 1) 1 [] none)) := by
  have clocks : (frameTo (s.issueAt i [rS a] [] none + 1) ((s.tile i.tile.val).atCycle (s.issueAt i [rS a] [] none))).andThen
      (updTo (s.issueAt i [rS a] [] none + 1)) = TOut.of ((s.tile i.tile.val).unitsAt (s.issueAt i [rS a] [] none + 1)) := by
    rw [frameTo_idle _ _ (by exact ready.idle), TOut.of_andThen, Tile.atCycle_succ, updTo_idle _ _ (by exact idle)]
    rfl
  refine (coreGo_ready ready.tile ?_).trans ((congrArg (fun o : TOut => o.upd _) clocks).trans rfl)
  exact congrArg pickCause (csrCauses_of_controlWriteOk ok)

/-- A write leaves its value in the register of its number. -/
theorem controlWrites_of_csrWrite (tile : u.tile i.tile.val = (csrWrite i.core n t0 v t).updCore i.core (retire t0 (t0 + 1) 1 [] none))
    (xr : t.xr = (s.tile i.tile.val).xr) : controlWrites s u i t0 n v := by
  have core : u.coreAt i = retire t0 (t0 + 1) 1 [] none ((csrWrite i.core n t0 v t).core i.core) :=
    coreAt_of_updCore tile
  refine ⟨?vflags, ?cpeak, ?exchange, ?peak, ?ewOut, ?ewScales, ?ewCo, ?update, ?others⟩
  case vflags =>
    rintro rfl small
    have written : ((csrWrite i.core 0x009 t0 v t).core i.core).vflags = v.setWidth 5 :=
      congrArg CoreSt.vflags (updCore_at t i.core fun k => { k with vflags := v.setWidth 5 })
    rw [core, retire_vflags, written]
    exact (BitVec.toNat_setWidth 5 v).trans (Nat.mod_eq_of_lt small)
  case cpeak =>
    rintro rfl -
    rw [core, retire_cpeak]
    exact congrArg CoreSt.cpeak (updCore_at t i.core fun k => { k with cpeak := peakWrite v })
  case exchange =>
    rintro x rfl -
    have cell : (u.tile i.tile.val).xr[x] = xrPut t.xr[x] t0 v := by
      rw [tile, csrWrite_xr]
      exact Vector.getElem_set_self _
    rw [cell]
    exact ⟨rfl, rfl⟩
  case ewCo =>
    rintro - rfl small
    rw [tile]
    exact (BitVec.toNat_setWidth 32 v).trans (Nat.mod_eq_of_lt small)
  case update =>
    intro _ _
    refine ⟨?_, ?_, ?_, ?_⟩
    all_goals
      rintro rfl
      intros
      rw [tile]
      rfl
  case others =>
    intro other
    rw [tile, ← xr]
    exact csrWrite_keeps_xr _ _ _ _ _ other
  -- the frame's registers of 32 and 64 bits
  all_goals
    rintro - rfl
    intros
    rw [tile]
    rfl

end

/-- A destination register is all of its core that a scalar result changes before it retires. -/
theorem CoreSt.setS_eq (k : CoreSt) (d : Reg) (v : U64) : k.setS d v = { k with s := (k.setS d v).s } := by
  unfold CoreSt.setS
  split <;> rfl

/-- Settles O8: a read and a write bring the frame and the update engine up to their cycle, which with nothing in flight moves their clocks
alone; each register is then read or written by its number. -/
theorem controlRegisters : Obligations.ControlRegisters := by
  unfold Obligations.ControlRegisters
  refine ⟨fun s i d n v hI ready idle reads => ?read, fun s i a n hI ready idle ok => ?write⟩
  case read =>
    obtain ⟨u, hu, only, tile⟩ := onTile_only (f := fun e => csrrOp e i.core d n) ready.grid hI (csrrOp_ready ready idle reads) (.of_ _)
    simp only [TOut.of] at tile
    have core : u.coreAt i = retire (s.issueAt i [] [rS d] none) (s.issueAt i [] [rS d] none + 1) 1 [rS d] none ((s.coreAt i).setS d v) := by
      rw [coreAt_of_updCore tile]
      rfl
    refine ⟨u, (exec_csrr _ _ _ _).trans hu, restOfTile_of_updCore only tile (fun _ _ => rfl) rfl,
      goesOn_of_retire core ready.running (CoreSt.setS_eq _ _ _), ?_⟩
    rw [core]
    simpa [writesS] using CoreSt.getS_setS (s.coreAt i) d v
  case write =>
    obtain ⟨u, hu, only, tile⟩ := onTile_only (f := fun e => csrwOp e i.core a n) ready.grid hI (csrwOp_ready ready idle ok) (.of_ _)
    obtain ⟨fl, pk, kept⟩ := csrWrite_core i.core n.toNat (s.issueAt i [rS a] [] none) ((s.coreAt i).getS a)
      ((s.tile i.tile.val).unitsAt (s.issueAt i [rS a] [] none + 1))
    have core : u.coreAt i = retire (s.issueAt i [rS a] [] none) (s.issueAt i [rS a] [] none + 1) 1 [] none
        { s.coreAt i with vflags := fl, cpeak := pk } := by
      rw [coreAt_of_updCore tile]
      exact congrArg _ kept
    refine ⟨u, (exec_csrw _ _ _ _).trans hu, restOfTile_of_updCore only tile (fun c hc => csrWrite_core_ne _ _ _ _ _ hc) (csrWrite_sp _ _ _ _ _),
      ?_, ?_, ?_, ?_, controlWrites_of_csrWrite tile rfl⟩
    · rw [core, retire_pc]
    · rw [core, retire_now]
    · intro r
      rw [core, retire_getS]
      rfl
    · rw [keepsV, core, retire_v]

end Sys2Proof.Machine
end

section
namespace Sys2Proof.Machine

/-! # The issue of frame instructions -/

/-! ## The ramp touches nothing else of the frame (R95) -/

/-- The frame with another clock and another place in its ramp. -/
def FrameSt.timed (f : FrameSt) (clk : Nat) (ramp : Ramp) (rampAt rampFrom : Nat) : FrameSt :=
  { f with clk := clk, ramp := ramp, rampAt := rampAt, rampFrom := rampFrom }

/-- `f'` is `f` but for its clock and its ramp. -/
def FrameSt.TimedFrom (f f' : FrameSt) : Prop := ∃ clk ramp rampAt rampFrom, f' = f.timed clk ramp rampAt rampFrom

theorem FrameSt.TimedFrom.refl (f : FrameSt) : f.TimedFrom f := ⟨_, _, _, _, rfl⟩

theorem FrameSt.TimedFrom.trans {f g h : FrameSt} : f.TimedFrom g → g.TimedFrom h → f.TimedFrom h := by
  rintro ⟨_, _, _, _, rfl⟩ ⟨_, _, _, _, rfl⟩
  exact ⟨_, _, _, _, rfl⟩

theorem FrameSt.TimedFrom.timed {f f' : FrameSt} (h : f.TimedFrom f') (clk : Nat) (ramp : Ramp) (rampAt rampFrom : Nat) :
    f'.timed clk ramp rampAt rampFrom = f.timed clk ramp rampAt rampFrom := by
  obtain ⟨_, _, _, _, rfl⟩ := h
  rfl

theorem settle_timedFrom (f : FrameSt) (c : Nat) : f.TimedFrom (settle f c) := by
  unfold settle
  split
  · exact .refl f
  · split
    · exact ⟨_, _, _, _, rfl⟩
    · exact .refl f
  · split
    · exact ⟨_, _, _, _, rfl⟩
    · exact .refl f

theorem restAt_timedFrom (c : Nat) (f : FrameSt) : f.TimedFrom (restAt c f) := by
  refine (settle_timedFrom f c).trans ?_
  unfold restAt
  dsimp only
  split
  · exact .refl _
  · split
    · exact ⟨_, _, _, _, rfl⟩
    · exact ⟨_, _, _, _, rfl⟩

theorem actAt_timedFrom (c : Nat) (f : FrameSt) : f.TimedFrom (actAt c f) := by
  refine FrameSt.TimedFrom.trans ?_ (settle_timedFrom _ c)
  unfold autoRest
  dsimp only
  split
  · exact restAt_timedFrom _ f
  · exact .refl f

/-! ## The ramp does not read the clock -/

/-- The frame with another clock. -/
def FrameSt.atClk (f : FrameSt) (clk : Nat) : FrameSt := { f with clk := clk }

@[simp] theorem FrameSt.atClk_ramp (f : FrameSt) (n : Nat) : (f.atClk n).ramp = f.ramp := rfl
@[simp] theorem FrameSt.atClk_rampAt (f : FrameSt) (n : Nat) : (f.atClk n).rampAt = f.rampAt := rfl
@[simp] theorem FrameSt.atClk_rampFrom (f : FrameSt) (n : Nat) : (f.atClk n).rampFrom = f.rampFrom := rfl
@[simp] theorem groupsOn_atClk (f : FrameSt) (n c : Nat) : groupsOn (f.atClk n) c = groupsOn f c := rfl
@[simp] theorem computeFree_atClk (f : FrameSt) (n : Nat) : computeFree (f.atClk n) = computeFree f := rfl
@[simp] theorem fullyOn_atClk (f : FrameSt) (n : Nat) : fullyOn (f.atClk n) = fullyOn f := rfl
@[simp] theorem Tile.atCycle_frame (t : Tile) (n : Nat) : (t.atCycle n).frame = t.frame.atClk (max t.frame.clk n) := rfl

@[simp] theorem settle_atClk (f : FrameSt) (n c : Nat) : settle (f.atClk n) c = (settle f c).atClk n := by
  unfold settle
  rcases hr : f.ramp <;> simp only [FrameSt.atClk_ramp, hr, groupsOn_atClk, apply_ite (FrameSt.atClk · n)]
  case up => rfl
  case down => rfl

@[simp] theorem restAt_atClk (f : FrameSt) (n c : Nat) : restAt c (f.atClk n) = (restAt c f).atClk n := by
  unfold restAt
  simp only [settle_atClk, FrameSt.atClk_ramp, FrameSt.atClk_rampFrom, groupsOn_atClk, apply_ite (FrameSt.atClk · n)]
  rfl

@[simp] theorem actAt_atClk (f : FrameSt) (n c : Nat) : actAt c (f.atClk n) = (actAt c f).atClk n := by
  unfold actAt autoRest
  simp only [computeFree_atClk, FrameSt.atClk_rampAt, restAt_atClk, ← apply_ite (FrameSt.atClk · n), settle_atClk]
  rfl

/-! ## A steady frame -/

theorem fullyOn_iff {f : FrameSt} : fullyOn f = true ↔ f.ramp = .steady ∧ f.rampFrom = 8 := by
  simp [fullyOn]

theorem settle_steady {f : FrameSt} (c : Nat) (steady : f.ramp = .steady) : settle f c = f := by
  simp [settle, steady]

theorem groupsOn_steady {f : FrameSt} (c : Nat) (steady : f.ramp = .steady) : groupsOn f c = f.rampFrom := by
  simp [groupsOn, steady]

/-- A frame at rest stays at rest. -/
theorem actAt_rest {f : FrameSt} (c : Nat) (steady : f.ramp = .steady) (off : f.rampFrom = 0) : actAt c f = f := by
  have rest (k : Nat) : restAt k f = f := by simp [restAt, settle_steady k steady, steady, off]
  simp [actAt, autoRest, rest, settle_steady c steady]

/-- WAKE of a frame at rest (R95). -/
theorem wakeAt_rest {f : FrameSt} (c : Nat) (steady : f.ramp = .steady) (off : f.rampFrom = 0) :
    wakeAt c f = (f.timed f.clk .up c 0, 1) := by
  simp [wakeAt, FrameSt.timed, settle_steady c steady, groupsOn_steady c steady, steady, off]

/-- REST of a fully powered frame (R95). -/
theorem restAt_fullyOn {f : FrameSt} (c : Nat) (on : fullyOn f = true) : restAt c f = f.timed f.clk .down c 8 := by
  obtain ⟨steady, full⟩ := fullyOn_iff.mp on
  simp [restAt, FrameSt.timed, settle_steady c steady, groupsOn_steady c steady, steady, full]

/-- R95: an up ramp powers a group every four cycles, and all eight from 32 cycles on. -/
theorem groupsOn_up {f : FrameSt} (up : f.ramp = .up) (off : f.rampFrom = 0) (c : Nat) : groupsOn f c = min 8 ((c - f.rampAt) / 4) := by
  simp [groupsOn, up, off]

/-- R95: a down ramp removes a group every four cycles. -/
theorem groupsOn_down {f : FrameSt} (down : f.ramp = .down) (full : f.rampFrom = 8) (c : Nat) : groupsOn f c = 8 - (c - f.rampAt) / 4 := by
  simp [groupsOn, down, full]

/-! ## The holds of R90, where nothing holds -/

/-- With nothing in flight no half share lies on a channel (R91). -/
theorem parityMove_idle {f : FrameSt} (op : FOp) (idle : f.ops = []) : parityMove f op = op := by
  unfold parityMove
  simp [idle]

theorem frameOp_share_le (t : Tile) (i : FrameIn) (t0 : Nat) : (frameOp t i t0).share ≤ 2 := by
  unfold frameOp
  dsimp only
  split
  · dsimp only; split <;> decide
  · dsimp only; split <;> decide
  · split
    · exact Nat.le_refl 2
    · dsimp only; split <;> decide
  · exact Nat.le_refl 2
  · exact Nat.le_refl 2

/-- Conditions 1, 2 and 5 of R90 hold with nothing in flight. -/
theorem slotsFree_idle {f : FrameSt} {op : FOp} (c : Nat) (idle : f.ops = []) (share : op.share ≤ 2) : slotsFree c f op = true := by
  simp [slotsFree, liveOps, idle, share]

/-- The tile in cycle `t0` with its frame's activity as of that cycle. -/
def Tile.actCycle (t : Tile) (t0 : Nat) : Tile := { t.atCycle t0 with frame := actAt t0 (t.atCycle t0).frame }

theorem Tile.atCycle_atCycle (t : Tile) (n : Nat) : (t.atCycle n).atCycle n = t.atCycle n := by
  simp [Tile.atCycle, Tile.updFrame]

theorem Tile.actCycle_atCycle (t : Tile) (n : Nat) : (t.atCycle n).actCycle n = t.actCycle n := by
  rw [Tile.actCycle, Tile.atCycle_atCycle, Tile.actCycle]

theorem Tile.actCycle_timedFrom (t : Tile) (t0 : Nat) : t.frame.TimedFrom (t.actCycle t0).frame :=
  FrameSt.TimedFrom.trans ⟨_, _, _, _, rfl⟩ (actAt_timedFrom t0 _)

theorem FrameSt.TimedFrom.ops {f f' : FrameSt} : f.TimedFrom f' → f'.ops = f.ops := by
  rintro ⟨_, _, _, _, rfl⟩
  rfl

theorem FrameSt.TimedFrom.loadwAt {f f' : FrameSt} : f.TimedFrom f' → f'.loadwAt = f.loadwAt := by
  rintro ⟨_, _, _, _, rfl⟩
  rfl

/-- An instruction that nothing holds enters in its issue cycle: the slots are free, the shadow weights are loaded where it swaps, and the frame is
fully on where it uses the dot-product units (R90). -/
theorem frameHold_free {t : Tile} {i : FrameIn} {c n : Nat} (idle : t.frame.ops = []) (swap : swapReady c t.frame i = true)
    (on : i.fop = 1 ∨ i.fop = 3 → fullyOn (actAt c t.frame) = true) : frameHold (n + 1) c i t = (c, TOut.of (t.actCycle c)) := by
  have timed := t.actCycle_timedFrom c
  have ops : (t.actCycle c).frame.ops = [] := timed.ops.trans idle
  have free := slotsFree_idle c ops (frameOp_share_le (t.atCycle c) i c)
  have swapped : swapReady c (t.actCycle c).frame i = true := by
    rw [← swap]
    unfold swapReady
    rw [timed.loadwAt]
  have frame : actAt c (t.atCycle c).frame = (t.actCycle c).frame := rfl
  have full (dots : i.fop = 1 ∨ i.fop = 3) : fullyOn (t.actCycle c).frame = true := by rw [← on dots]; simp [Tile.actCycle]
  have noWake : ((i.fop == 1 || i.fop == 3) && ! fullyOn (t.actCycle c).frame) = false := by
    simpa [or_imp] using full
  have powered : (! (i.fop == 1 || i.fop == 3) || fullyOn (settle (t.actCycle c).frame c)) = true := by
    by_cases dots : i.fop = 1 ∨ i.fop = 3
    · simp [settle_steady c (fullyOn_iff.mp (full dots)).1, full dots]
    · simp [not_or.mp dots]
  unfold frameHold
  simp only [frameTo_idle c t idle, TOut.of_tile, frame, noWake, Bool.false_eq_true, if_false, free, swapped, powered, Bool.and_self, if_true,
    TOut.of_upd, TOut.bump_zero]
  rfl

/-! ## What the frame takes as an instruction enters -/

/-- The frame that an instruction has entered, by its FOP (R79 to R86). -/
def frameCommitted (i : FrameIn) (op : FOp) (t0 : Nat) (f : FrameSt) : FrameSt :=
  match i.fop with
  | 0 => loadwCommit op t0 f
  | 1 => mulCommit i op t0 f
  | 2 => if op.args.ofmt = 6 then frameEnter op t0 f else drainCommit i op t0 f
  | 3 => ewCommit op t0 f
  | _ => loadaCommit i op t0 f

/-- The commit of an instruction that enters changes its tile's frame alone, and counts nothing of the update engine. -/
theorem frameCommit_enters {i : FrameIn} (t : Tile) (t0 : Nat) (enters : i.fop < 5) :
    PlainBumps (frameCommit i t0 t)
      ∧ (frameCommit i t0 t).tile = { t with frame := frameCommitted i (parityMove t.frame (frameOp t i t0)) t0 t.frame } := by
  obtain loadw | mul | drain | ew | loada : i.fop = 0 ∨ i.fop = 1 ∨ i.fop = 2 ∨ i.fop = 3 ∨ i.fop = 4 := by omega
  · simp only [frameCommit, frameCommitted, loadw]
    exact ⟨.of_ _, rfl⟩
  · simp only [frameCommit, frameCommitted, mul]
    exact ⟨(PlainBumps.of_ _).bump_ (by decide) (by decide), TOut.bump_tile _ _ _⟩
  · simp only [frameCommit, frameCommitted, drain]
    split
    · exact ⟨.of_ _, rfl⟩
    · exact ⟨(PlainBumps.of_ _).bump_ (by decide) (by decide), TOut.bump_tile _ _ _⟩
  · simp only [frameCommit, frameCommitted, ew]
    exact ⟨.of_ _, rfl⟩
  · simp only [frameCommit, frameCommitted, loada]
    exact ⟨.of_ _, rfl⟩

/-- `op` is the only instruction in flight, and the registers that no entering instruction writes are as before. -/
structure FrameTakes (f f' : FrameSt) (op : FOp) : Prop where
  ops : f'.ops = [op]
  ewOut : f'.ewOut = f.ewOut
  ewScales : f'.ewScales = f.ewScales
  ewCo : f'.ewCo = f.ewCo
  ftrap : f'.ftrap = f.ftrap
  resFail : f'.resFail = f.resFail

theorem frameCommitted_takes (i : FrameIn) (op : FOp) (t0 : Nat) {f f' : FrameSt} (timed : f.TimedFrom f') (idle : f.ops = []) :
    FrameTakes f (frameCommitted i op t0 f') op := by
  obtain ⟨clk, ramp, rampAt, rampFrom, rfl⟩ := timed
  have only : f.ops ++ [op] = [op] := by rw [idle, List.nil_append]
  unfold frameCommitted
  split
  case h_3 => split <;> exact ⟨only, rfl, rfl, rfl, rfl, rfl⟩
  all_goals exact ⟨only, rfl, rfl, rfl, rfl, rfl⟩

theorem setBank_same (k : Fin 2) (g : ABank → ABank) (f : FrameSt) : (setBank k g f).banks[k] = g f.banks[k] :=
  Vector.getElem_set_self _

theorem setBank_ne {k x : Fin 2} (g : ABank → ABank) (f : FrameSt) (h : x ≠ k) : (setBank k g f).banks[x] = f.banks[x] :=
  Vector.getElem_set_ne k.isLt x.isLt (fun e => h (Fin.ext e.symm))

/-! ## A frame instruction that nothing holds (R90, R102) -/

/-- The instruction reads the frame's registers and not its ramp. -/
theorem frameOp_actCycle (t : Tile) (n t0 : Nat) (i : FrameIn) : frameOp (t.actCycle n) i t0 = frameOp t i t0 := by
  obtain ⟨clk, ramp, rampAt, rampFrom, h⟩ := t.actCycle_timedFrom n
  have tile : t.actCycle n = { t with frame := t.frame.timed clk ramp rampAt rampFrom } := by rw [← h]; rfl
  rw [tile]
  rfl

theorem swapReady_iff {c : Nat} {f : FrameSt} {i : FrameIn} :
    swapReady c f i = true ↔ (i.fop = 1 → optF i.opt 6 1 = 1 → ∀ k, f.loadwAt = some k → k + 31 ≤ c) := by
  unfold swapReady
  split
  next h =>
    obtain ⟨mul, swap⟩ := h
    cases hl : f.loadwAt with
    | none => simp
    | some k => simp [mul, swap]
  next h => simpa using fun mul swap => absurd ⟨mul, swap⟩ h

section
variable {s : State} {i : CoreAt} {fop : Nat} {opt : BitVec 12} {sa sb : Reg}

theorem FrameReady.tileReady (h : FrameReady s i fop opt sa sb) : TileReady (s.tile i.tile.val) i.core (s.frameAt i sa sb) := h.core.tile

/-- An instruction that enters does so in its issue cycle. -/
theorem FrameReady.insn_enters (h : FrameReady s i fop opt sa sb) (enters : fop < 5) :
    frameInsn i.core fop sa sb opt (s.tile i.tile.val)
      = (frameCommit (s.frameIn i fop opt sa sb) (s.frameAt i sa sb) ((s.tile i.tile.val).actCycle (s.frameAt i sa sb))).upd
          (fun t => t.updCore i.core (retire (s.frameAt i sa sb) (s.frameAt i sa sb + 1) 1 [] none)) := by
  have cause : frameCause ((s.tile i.tile.val).atCycle (s.frameAt i sa sb)) (s.frameIn i fop opt sa sb) = 0 := h.cause
  have hold : frameHold holdFuel (s.frameAt i sa sb) (s.frameIn i fop opt sa sb) ((s.tile i.tile.val).atCycle (s.frameAt i sa sb))
      = (s.frameAt i sa sb, TOut.of ((s.tile i.tile.val).actCycle (s.frameAt i sa sb))) := by
    obtain ⟨n, fuel⟩ : ∃ n, holdFuel = n + 1 := ⟨_, rfl⟩
    rw [fuel, ← Tile.actCycle_atCycle]
    exact frameHold_free h.core.idle (swapReady_iff.mpr h.swap) (fun dots => by simpa using h.on dots)
  have may : mayIssue ((s.tile i.tile.val).actCycle (s.frameAt i sa sb)) (s.frameAt i sa sb) = true := h.tileReady.may
  refine (coreGo_ready h.tileReady rfl).trans ((if_neg (not_not.mpr h.c0)).trans ((if_neg (not_not.mpr cause)).trans ?_))
  refine (if_neg (by omega)).trans ((if_neg (by omega)).trans ?_)
  refine (congrArg (fun r : Nat × TOut => r.2.andThen fun t => if ! mayIssue t r.1 then TOut.of t else
    (frameCommit (s.frameIn i fop opt sa sb) r.1 t).upd fun t => t.updCore i.core (retire r.1 (r.1 + 1) 1 [] none)) hold).trans ?_
  simp only [TOut.of_andThen, may, Bool.not_true, Bool.false_eq_true, if_false]

theorem FrameReady.actCycle_idle (h : FrameReady s i fop opt sa sb) (t0 : Nat) : ((s.tile i.tile.val).actCycle t0).frame.ops = [] :=
  ((s.tile i.tile.val).actCycle_timedFrom t0).ops.trans h.core.idle

/-- What a frame instruction leaves that changes its tile's frame and retires. -/
theorem frame_retired {o : TOut} {t0 : Nat} (hI : s.Inv) (ready : CoreReady s i [rS sa, rS sb] [] none)
    (insn : frameInsn i.core fop sa sb opt (s.tile i.tile.val) = o.upd (fun t => t.updCore i.core (retire t0 (t0 + 1) 1 [] none)))
    (plain : PlainBumps o) (only : { o.tile with frame := (s.tile i.tile.val).frame } = s.tile i.tile.val) :
    ∃ u, onTile i.tile (fun _ => frameInsn i.core fop sa sb opt) s = .next u ∧ restOfTile s u i ∧ goesOn s u i (t0 + 1)
      ∧ keepsS (s.coreAt i) (u.coreAt i) ∧ u.frameOf i = o.tile.frame := by
  obtain ⟨u, hu, hother, htile⟩ := onTile_only (f := fun _ => frameInsn i.core fop sa sb opt) ready.grid hI insn plain
  have cores : o.tile.cores = (s.tile i.tile.val).cores := by rw [← only]
  have core : u.coreAt i = retire t0 (t0 + 1) 1 [] none (s.coreAt i) := by
    rw [coreAt_of_updCore htile, State.coreAt, Tile.core, Tile.core, cores]
  refine ⟨u, hu, restOfTile_of_updCore hother htile (fun c _ => by rw [Tile.core, Tile.core, cores]) (by rw [← only]),
    goesOn_of_retire core ready.running rfl, fun r => by rw [core, retire_getS], ?_⟩
  rw [State.frameOf, htile]
  rfl

/-- An instruction that enters is the only one in flight, and the frame has taken it (R79 to R86, R88, R89). -/
theorem FrameReady.enters {op : FOp} {occ : Nat} (h : FrameReady s i fop opt sa sb) (hI : s.Inv) (enters : fop < 5)
    (isOp : frameOp (s.tile i.tile.val) (s.frameIn i fop opt sa sb) (s.frameAt i sa sb) = op) (issued : op.t0 = s.frameAt i sa sb)
    (occupied : op.occEnd = s.frameAt i sa sb + occ) :
    ∃ u f, onTile i.tile (fun _ => frameInsn i.core fop sa sb opt) s = .next u
      ∧ FrameEnters s u i (s.frameAt i sa sb) op.fop occ op.slots op.chans ∧ (s.frameOf i).TimedFrom f
      ∧ u.frameOf i = frameCommitted (s.frameIn i fop opt sa sb) op (s.frameAt i sa sb) f := by
  obtain ⟨plain, tile⟩ := frameCommit_enters (i := s.frameIn i fop opt sa sb)
    ((s.tile i.tile.val).actCycle (s.frameAt i sa sb)) (s.frameAt i sa sb) enters
  rw [parityMove_idle _ (h.actCycle_idle _), frameOp_actCycle, isOp] at tile
  obtain ⟨u, hu, rest, on, keeps, frame⟩ := frame_retired hI h.core (h.insn_enters enters) plain (by rw [tile]; rfl)
  have timed : (s.frameOf i).TimedFrom ((s.tile i.tile.val).actCycle (s.frameAt i sa sb)).frame := (s.tile i.tile.val).actCycle_timedFrom _
  replace frame : u.frameOf i = frameCommitted (s.frameIn i fop opt sa sb) op (s.frameAt i sa sb)
      ((s.tile i.tile.val).actCycle (s.frameAt i sa sb)).frame := frame.trans (congrArg Tile.frame tile)
  have takes := frame ▸ frameCommitted_takes (s.frameIn i fop opt sa sb) op (s.frameAt i sa sb) timed h.core.idle
  exact ⟨u, _, hu, ⟨rest, on, keeps, ⟨op, takes.ops, rfl, issued, occupied, rfl, rfl⟩,
    takes.ewOut, takes.ewScales, takes.ewCo, takes.ftrap, takes.resFail⟩,
    timed, frame⟩

end

end Sys2Proof.Machine
end

section
namespace Sys2Proof.Machine

/-! # Loads and multiplications of the frame -/

/-! ## What each commit does to its weight register or its bank -/

theorem loadwCommit_w_same (op : FOp) (t0 : Nat) (f : FrameSt) :
    (loadwCommit op t0 f).w[op.args.wreg] = { f.w[op.args.wreg] with fmt := fmtD op.args.fmt, cb := op.args.cb } :=
  Vector.getElem_set_self _

theorem loadwCommit_w_ne (op : FOp) (t0 : Nat) (f : FrameSt) {x : Fin 2} (h : x ≠ op.args.wreg) : (loadwCommit op t0 f).w[x] = f.w[x] :=
  Vector.getElem_set_ne op.args.wreg.isLt x.isLt (fun e => h (Fin.ext e.symm))

/-- The shadow weights are not the active ones (R79). -/
theorem active_ne_shadow : ∀ active : Fin 2, active ≠ bankIx (1 - active.val) := by
  decide

theorem mulBank_st (i : FrameIn) (g : FArgs) (cbw : U32) (b : ABank) :
    (mulBank i g cbw b).st = if optF i.opt 9 1 = 1 then .closed else .opened := by
  simp [mulBank]

theorem mulBank_rows (i : FrameIn) (g : FArgs) (cbw : U32) (b : ABank) : (mulBank i g cbw b).rows = b.rows := by
  unfold mulBank
  dsimp only
  split <;> rfl

/-- A chain start captures its scales and discards the conversion factor (R81). -/
theorem mulBank_start (i : FrameIn) {g : FArgs} (cbw : U32) (b : ABank) (start : g.start = true) :
    (mulBank i g cbw b).ca = g.ca ∧ (mulBank i g cbw b).cb = cbw ∧ (mulBank i g cbw b).q = none := by
  simp [mulBank, start]

/-- A MUL that continues its chain ignores the scales (R81). -/
theorem mulBank_continue (i : FrameIn) {g : FArgs} (cbw : U32) (b : ABank) (start : g.start = false) :
    (mulBank i g cbw b).ca = b.ca ∧ (mulBank i g cbw b).cb = b.cb := by
  simp [mulBank, start]

theorem mulCommit_bank (i : FrameIn) (op : FOp) (t0 : Nat) (f : FrameSt) :
    (mulCommit i op t0 f).banks[op.args.abank] = mulBank i op.args (f.w[op.args.wreg]).cb f.banks[op.args.abank] :=
  setBank_same _ _ _

theorem mulCommit_bank_ne (i : FrameIn) (op : FOp) (t0 : Nat) (f : FrameSt) {x : Fin 2} (h : x ≠ op.args.abank) :
    (mulCommit i op t0 f).banks[x] = f.banks[x] :=
  setBank_ne _ _ h

/-- The bank that a LOADA takes anew (R85). -/
def loadaBank (i : FrameIn) (b : ABank) : ABank := { b with q := none, cnt := [], st := if optF i.opt 10 1 = 1 then .opened else .closed }

theorem loadaCommit_bank (i : FrameIn) (op : FOp) (t0 : Nat) (f : FrameSt) :
    (loadaCommit i op t0 f).banks[op.args.abank] = loadaBank i f.banks[op.args.abank] :=
  setBank_same op.args.abank (loadaBank i) f

theorem loadaCommit_bank_ne (i : FrameIn) (op : FOp) (t0 : Nat) (f : FrameSt) {x : Fin 2} (h : x ≠ op.args.abank) :
    (loadaCommit i op t0 f).banks[x] = f.banks[x] :=
  setBank_ne (loadaBank i) f h

/-- Settles O14: each instruction enters its slots as the only one in flight, and what it commits is the write of one weight register or of one
accumulator bank. -/
theorem frameLoadsAndMultiplies : Obligations.FrameLoadsAndMultiplies := by
  unfold Obligations.FrameLoadsAndMultiplies
  refine ⟨fun s i sa sb opt hI h => ?loadw, fun s i sa sb opt hI h => ?mul, fun s i sa sb opt hI h => ?loada⟩
  case loadw =>
    obtain ⟨u, f, hu, enters, ⟨clk, ramp, rampAt, rampFrom, rfl⟩, frame⟩ := h.enters hI (by decide) rfl rfl rfl
    refine ⟨u, (exec_frameLoadw _ _ _ _ _).trans hu, enters, ?_⟩
    rw [frame]
    have shadow := loadwCommit_w_same (frameOp (s.tile i.tile.val) (s.frameIn i 0 opt sa sb) (s.frameAt i sa sb)) (s.frameAt i sa sb)
      ((s.frameOf i).timed clk ramp rampAt rampFrom)
    exact ⟨congrArg WReg.fmt shadow, congrArg WReg.cb shadow, loadwCommit_w_ne _ _ _ (active_ne_shadow _), rfl, rfl, rfl, rfl⟩
  case mul =>
    obtain ⟨u, f, hu, enters, ⟨clk, ramp, rampAt, rampFrom, rfl⟩, frame⟩ := h.enters hI (by decide) rfl rfl rfl
    refine ⟨u, (exec_frameMul _ _ _ _ _).trans hu, enters, ?_⟩
    rw [frame]
    have bank := mulCommit_bank (s.frameIn i 1 opt sa sb) (frameOp (s.tile i.tile.val) (s.frameIn i 1 opt sa sb) (s.frameAt i sa sb))
      (s.frameAt i sa sb) ((s.frameOf i).timed clk ramp rampAt rampFrom)
    refine ⟨rfl, rfl, (congrArg ABank.st bank).trans (mulBank_st _ _ _ _), fun start => ?_, fun cont => ?_,
      (congrArg ABank.rows bank).trans (mulBank_rows _ _ _ _), fun x hx => mulCommit_bank_ne _ _ _ _ hx, rfl⟩
    · obtain ⟨ca, cb, q⟩ := mulBank_start (s.frameIn i 1 opt sa sb) (g := frameArgs (s.tile i.tile.val) (s.frameIn i 1 opt sa sb))
        _ _ (beq_iff_eq.mpr start)
      exact ⟨(congrArg ABank.ca bank).trans ca, (congrArg ABank.cb bank).trans cb, (congrArg ABank.q bank).trans q⟩
    · obtain ⟨ca, cb⟩ := mulBank_continue (s.frameIn i 1 opt sa sb) (g := frameArgs (s.tile i.tile.val) (s.frameIn i 1 opt sa sb))
        _ _ (show (optF opt 8 1 == 1) = false by rw [cont]; rfl)
      exact ⟨(congrArg ABank.ca bank).trans ca, (congrArg ABank.cb bank).trans cb⟩
  case loada =>
    obtain ⟨u, f, hu, enters, ⟨clk, ramp, rampAt, rampFrom, rfl⟩, frame⟩ := h.enters hI (by decide) rfl rfl rfl
    refine ⟨u, (exec_frameLoada _ _ _ _ _).trans hu, enters, ?_⟩
    rw [frame]
    have bank := loadaCommit_bank (s.frameIn i 4 opt sa sb) (frameOp (s.tile i.tile.val) (s.frameIn i 4 opt sa sb) (s.frameAt i sa sb))
      (s.frameAt i sa sb) ((s.frameOf i).timed clk ramp rampAt rampFrom)
    exact ⟨congrArg ABank.st bank, congrArg ABank.q bank, fun x hx => loadaCommit_bank_ne _ _ _ _ hx, rfl, rfl, rfl⟩

end Sys2Proof.Machine
end

section
namespace Sys2Proof.Machine

/-! # Drains and element-wise instructions of the frame -/

/-- The bank after a DRAIN that converts it: the first one fixes the conversion factor (R80, R83). -/
def drainBank (g : FArgs) (b : ABank) : ABank := { b with st := .drained, q := if b.q.isNone then some g.q else b.q }

theorem drainCommit_bank (i : FrameIn) (op : FOp) (t0 : Nat) (f : FrameSt) :
    (drainCommit i op t0 f).banks[op.args.abank] = drainBank op.args f.banks[op.args.abank] :=
  setBank_same op.args.abank (drainBank op.args) f

theorem drainCommit_bank_ne (i : FrameIn) (op : FOp) (t0 : Nat) (f : FrameSt) {x : Fin 2} (h : x ≠ op.args.abank) :
    (drainCommit i op t0 f).banks[x] = f.banks[x] :=
  setBank_ne (drainBank op.args) f h

theorem drainBank_q_first {g : FArgs} {b : ABank} (first : b.q = none) : (drainBank g b).q = some g.q := by
  simp [drainBank, first]

theorem drainBank_q_later {g : FArgs} {b : ABank} (later : b.q ≠ none) : (drainBank g b).q = b.q := by
  simp [drainBank, Option.isNone_iff_eq_none, later]

/-- The conversion factor that a DRAIN brings: none where a scale is invalid (R54, R61). -/
theorem frameArgs_drain_q (t : Tile) (opt : BitVec 12) (sa sb : Reg) (a b : U64) :
    (frameArgs t ⟨2, opt, sa, sb, a, b⟩).q
      = if scaleValid (t.frame.banks[bankIx (optF opt 8 1)]).ca ∧ scaleValid (t.frame.banks[bankIx (optF opt 8 1)]).cb ∧ scaleValid (lo32v b) then
          some (factorOf (t.frame.banks[bankIx (optF opt 8 1)]).ca (t.frame.banks[bankIx (optF opt 8 1)]).cb (lo32v b)) else none := by
  simp [frameArgs, and_assoc]

/-! ## The top field of an OPT that is given by its fields -/

theorem fieldN_append {n m : Nat} (x : BitVec n) (y : BitVec m) : fieldN (x ++ y).toNat m n = x.toNat := by
  have low : y.toNat >>> m = 0 := by rw [Nat.shiftRight_eq_div_pow, Nat.div_eq_of_lt y.isLt]
  rw [fieldN, BitVec.toNat_append, Nat.shiftRight_or_distrib, Nat.shiftLeft_shiftRight, low, Nat.or_zero, Nat.mod_eq_of_lt x.isLt]

/-- The OFMT of a partial DRAIN. -/
theorem optF_partial (opt : BitVec 9) : optF (6#3 ++ opt) 9 3 = 6 := fieldN_append 6#3 opt

/-- The EOP of an element-wise instruction. -/
theorem optF_eop (eop : BitVec 4) (opt : BitVec 8) : optF (eop ++ opt) 8 4 = eop.toNat := fieldN_append eop opt

/-- An element-wise instruction enters whatever its EOP, and commits nothing but its place in the order of outputs. -/
theorem EwInsn.of {mk : CoreAt → Reg → Reg → BitVec 8 → Instr} {eop : BitVec 4}
    (meaning : ∀ i sa sb opt s, exec (mk i sa sb opt) s = onTile i.tile (fun _ => frameInsn i.core 3 sa sb (eop ++ opt)) s) : EwInsn mk eop := by
  intro s i sa sb opt hI h
  obtain ⟨u, f, hu, enters, ⟨clk, ramp, rampAt, rampFrom, rfl⟩, frame⟩ := h.enters hI (by decide) rfl rfl rfl
  refine ⟨u, (meaning _ _ _ _ _).trans hu, enters, ?_⟩
  have alone := frameCommitted_takes (s.frameIn i 3 (eop ++ opt) sa sb)
    (frameOp (s.tile i.tile.val) (s.frameIn i 3 (eop ++ opt) sa sb) (s.frameAt i sa sb))
    (s.frameAt i sa sb) ⟨clk, ramp, rampAt, rampFrom, rfl⟩ h.core.idle
  rw [keepsArrays, frame]
  exact ⟨⟨rfl, rfl, rfl, rfl, rfl⟩, ⟨_, alone.ops, optF_eop eop opt, rfl, rfl, rfl⟩, rfl⟩

/-- Settles O15: a DRAIN that converts commits its bank and the conversion factor, a partial one leaves every bank as it is, and an element-wise
instruction takes its slots for a time that its EOP alone decides. -/
theorem frameDrains : Obligations.FrameDrains := by
  unfold Obligations.FrameDrains
  refine ⟨⟨fun s i sa sb opt hI h whole => ?drain, fun s i sa sb opt hI h => ?part⟩,
    .of exec_frameEwAdd, .of exec_frameEwSub, .of exec_frameEwMul,
    .of exec_frameEwMax, .of exec_frameEwMin, .of exec_frameEwRescale, .of exec_frameEwEnc, .of exec_frameEwDec⟩
  case drain =>
    obtain ⟨u, f, hu, enters, ⟨clk, ramp, rampAt, rampFrom, rfl⟩, frame⟩ := h.enters hI (by decide) (if_neg whole) rfl rfl
    replace frame := frame.trans (if_neg whole)
    refine ⟨u, (exec_frameDrain _ _ _ _ _).trans hu, enters, ?_⟩
    rw [frame]
    exact ⟨congrArg ABank.st (drainCommit_bank _ _ _ _), (congrArg ABank.rows (drainCommit_bank _ _ _ _)).trans rfl,
      fun first => (congrArg ABank.q (drainCommit_bank _ _ _ _)).trans
        ((drainBank_q_first first).trans (congrArg some (frameArgs_drain_q _ _ _ _ _ _))),
      fun later => (congrArg ABank.q (drainCommit_bank _ _ _ _)).trans (drainBank_q_later later),
      fun x hx => drainCommit_bank_ne _ _ _ _ hx, rfl, rfl, rfl⟩
  case part =>
    have partly : (frameArgs (s.tile i.tile.val) (s.frameIn i 2 (6#3 ++ opt) sa sb)).ofmt = 6 := optF_partial opt
    obtain ⟨u, f, hu, enters, ⟨clk, ramp, rampAt, rampFrom, rfl⟩, frame⟩ := h.enters hI (by decide) (if_pos partly) rfl rfl
    replace frame := frame.trans (if_pos partly)
    refine ⟨u, (exec_frameDrainPartial _ _ _ _ _).trans hu, enters, ?_⟩
    rw [keepsArrays, frame]
    exact ⟨⟨rfl, rfl, rfl, rfl, rfl⟩, rfl⟩

end Sys2Proof.Machine
end

section
namespace Sys2Proof.Machine

/-! # The activity of the frame -/

/-! ## The groups along a ramp (R95) -/

section
variable {f : FrameSt} {c : Nat}

theorem groupsOn_up_stage (up : f.ramp = .up) (off : f.rampFrom = 0) {n : Nat} (hn : n < 8)
    (from_ : f.rampAt + 4 * n ≤ c) (upto : c < f.rampAt + 4 * n + 4) :
    groupsOn f c = n := by
  rw [groupsOn_up up off]
  omega

theorem groupsOn_up_full (up : f.ramp = .up) (off : f.rampFrom = 0) (done : f.rampAt + 32 ≤ c) : groupsOn f c = 8 := by
  rw [groupsOn_up up off]
  omega

theorem groupsOn_down_stage (down : f.ramp = .down) (full : f.rampFrom = 8) {n : Nat} (hn : n < 8) (from_ : f.rampAt + 4 * n ≤ c)
    (upto : c < f.rampAt + 4 * n + 4) : groupsOn f c = 8 - n := by
  rw [groupsOn_down down full]
  omega

theorem groupsOn_down_off (down : f.ramp = .down) (full : f.rampFrom = 8) (done : f.rampAt + 32 ≤ c) : groupsOn f c = 0 := by
  rw [groupsOn_down down full]
  omega

end

/-! ## WAKE, REST and WAIT of a core (R94, R95) -/

section
variable {s : State} {i : CoreAt} {fop : Nat} {opt : BitVec 12} {sa sb : Reg}

/-- WAKE and REST act on the ramp in their issue cycle, and nothing holds them. -/
theorem FrameReady.insn_ramps (h : FrameReady s i fop opt sa sb) (ramps : fop = 5 ∨ fop = 6) :
    frameInsn i.core fop sa sb opt (s.tile i.tile.val)
      = (frameCommit (s.frameIn i fop opt sa sb) (s.frameAt i sa sb) ((s.tile i.tile.val).atCycle (s.frameAt i sa sb))).upd
          (fun t => t.updCore i.core (retire (s.frameAt i sa sb) (s.frameAt i sa sb + 1) 1 [] none)) := by
  have cause : frameCause ((s.tile i.tile.val).atCycle (s.frameAt i sa sb)) (s.frameIn i fop opt sa sb) = 0 := h.cause
  refine (coreGo_ready h.tileReady rfl).trans ((if_neg (not_not.mpr h.c0)).trans ((if_neg (not_not.mpr cause)).trans ?_))
  exact (if_neg (by omega)).trans (if_pos ramps)

/-- With nothing in flight, the wait is over in its issue cycle. -/
theorem frameFinish_idle (c : Nat) {t : Tile} (idle : t.frame.ops = []) : frameFinish c t = (c, TOut.of (t.atCycle c)) := by
  have none_due : nextDue (t.atCycle c).frame.ops = none := by rw [show (t.atCycle c).frame.ops = [] from idle]; rfl
  simp only [frameFinish, frameTo_idle c t idle, TOut.of_tile, none_due, Option.isNone_none, if_true]

theorem FrameReady.insn_waits (h : FrameReady s i 7 opt sa sb) :
    frameInsn i.core 7 sa sb opt (s.tile i.tile.val)
      = TOut.of (((s.tile i.tile.val).atCycle (s.frameAt i sa sb)).updCore i.core
          (retire (s.frameAt i sa sb) (max (s.frameAt i sa sb + 1) (s.frameAt i sa sb)) 1 [] none)) := by
  have cause : frameCause ((s.tile i.tile.val).atCycle (s.frameAt i sa sb)) (s.frameIn i 7 opt sa sb) = 0 := h.cause
  have done := frameFinish_idle (s.frameAt i sa sb) (t := (s.tile i.tile.val).atCycle (s.frameAt i sa sb)) h.core.idle
  rw [Tile.atCycle_atCycle] at done
  refine (coreGo_ready h.tileReady rfl).trans ((if_neg (not_not.mpr h.c0)).trans ((if_neg (not_not.mpr cause)).trans ?_))
  refine (if_pos rfl).trans ?_
  exact congrArg (fun r : Nat × TOut =>
    r.2.upd fun t => t.updCore i.core (retire (s.frameAt i sa sb) (max (s.frameAt i sa sb + 1) r.1) 1 [] none)) done

/-- WAKE of a frame at rest (R95, R106). -/
theorem frameCommit_wake {i : FrameIn} {t : Tile} (t0 : Nat) (wake : i.fop = 5) (steady : t.frame.ramp = .steady) (off : t.frame.rampFrom = 0) :
    frameCommit i t0 t = (TOut.of { t with frame := t.frame.timed t.frame.clk .up t0 0 }).bump (ck 0x9110 4) 1 := by
  simp only [frameCommit, wake, actAt_rest t0 steady off, wakeAt_rest t0 steady off]

/-- REST of a frame that is fully on in its issue cycle (R95). -/
theorem frameCommit_rest {i : FrameIn} {t : Tile} (t0 : Nat) (rest : i.fop = 6) (on : fullyOn (actAt t0 t.frame) = true) :
    frameCommit i t0 t = TOut.of { t with frame := (actAt t0 t.frame).timed (actAt t0 t.frame).clk .down t0 8 } := by
  simp only [frameCommit, rest, restAt_fullyOn t0 on]

/-- WAKE leaves an up ramp that begins with no group. -/
theorem FrameReady.wakes (h : FrameReady s i 5 opt sa sb) (hI : s.Inv) (steady : (s.frameOf i).ramp = .steady) (off : (s.frameOf i).rampFrom = 0) :
    ∃ u clk, onTile i.tile (fun _ => frameInsn i.core 5 sa sb opt) s = .next u ∧ restOfTile s u i ∧ goesOn s u i (s.frameAt i sa sb + 1)
      ∧ keepsS (s.coreAt i) (u.coreAt i) ∧ u.frameOf i = (s.frameOf i).timed clk .up (s.frameAt i sa sb) 0 := by
  have insn := h.insn_ramps (.inl rfl)
  rw [frameCommit_wake (t := (s.tile i.tile.val).atCycle _) _ rfl steady off] at insn
  obtain ⟨u, hu, rest, on, keeps, frame⟩ := frame_retired hI h.core insn ((PlainBumps.of_ _).bump_ (by decide) (by decide))
    (by rw [TOut.bump_tile]; rfl)
  rw [TOut.bump_tile] at frame
  exact ⟨u, _, hu, rest, on, keeps, frame⟩

/-- REST leaves a down ramp that begins with all groups. -/
theorem FrameReady.rests (h : FrameReady s i 6 opt sa sb) (hI : s.Inv) (on : fullyOn (actAt (s.frameAt i sa sb) (s.frameOf i)) = true) :
    ∃ u clk, onTile i.tile (fun _ => frameInsn i.core 6 sa sb opt) s = .next u ∧ restOfTile s u i ∧ goesOn s u i (s.frameAt i sa sb + 1)
      ∧ keepsS (s.coreAt i) (u.coreAt i) ∧ u.frameOf i = (s.frameOf i).timed clk .down (s.frameAt i sa sb) 8 := by
  have insn := h.insn_ramps (.inr rfl)
  rw [frameCommit_rest _ rfl (by simpa [State.frameOf] using on)] at insn
  obtain ⟨u, hu, rest, goes, keeps, frame⟩ := frame_retired hI h.core insn (.of_ _) rfl
  have timed : (s.frameOf i).TimedFrom ((s.tile i.tile.val).actCycle (s.frameAt i sa sb)).frame := (s.tile i.tile.val).actCycle_timedFrom _
  exact ⟨u, _, hu, rest, goes, keeps, frame.trans (timed.timed _ _ _ _)⟩

end

/-! ## The automatic rest (R95) -/

/-- A tile whose core c0 issues nothing begins its automatic rest in the 64th cycle in which the compute slot has been free. -/
theorem frameAutoRest_idle {t : Tile} (job : t.job ≠ none) (halted : t.halted = false) (run : (t.core 0).run ≠ .running)
    (steady : t.frame.ramp = .steady)
    (full : t.frame.rampFrom = 8) (free : 0 ≤ computeFree t.frame) (since : t.frame.rampAt ≤ (computeFree t.frame).toNat + 63) :
    frameAutoRest t = TOut.of { t with frame := t.frame.timed t.frame.clk .down ((computeFree t.frame).toNat + 63) 8 } := by
  have cycle : (computeFree t.frame + 63).toNat = (computeFree t.frame).toNat + 63 := by omega
  have reached : 0 ≤ computeFree t.frame + 63 := by omega
  have past : computeFree t.frame + 63 < (((computeFree t.frame).toNat + 63 + 1 : Nat) : Int) := by omega
  have unhalted : (! t.halted) = true := by rw [halted, Bool.not_false]
  have idle : (t.cores[0].run != .running) = true := bne_iff_ne.mpr run
  have running : t.job.isSome = true := Option.isSome_iff_ne_none.mpr job
  have rest : autoRest ((computeFree t.frame).toNat + 63 + 1) t.frame = t.frame.timed t.frame.clk .down ((computeFree t.frame).toNat + 63) 8 := by
    simp only [autoRest, cycle, past, reached, since, decide_true, Bool.and_self, if_true]
    exact restAt_fullyOn _ (fullyOn_iff.mpr ⟨steady, full⟩)
  simp only [frameAutoRest, running, unhalted, idle, reached, cycle, decide_true, Bool.true_or, Bool.and_self, if_true]
  rw [Tile.updFrame, rest]

/-- Settles O16: a WAKE or REST leaves a ramp from its issue cycle whose groups follow by division, a WAIT only retires, and an automatic
rest is a REST of the fully powered frame. -/
theorem frameActivity : Obligations.FrameActivity := by
  unfold Obligations.FrameActivity
  refine ⟨fun s i hI h steady off => ?wake, fun s i hI h on => ?rest, fun s i hI h => ?wait,
    fun s t hI grid job halted run steady full free since => ?auto⟩
  case wake =>
    obtain ⟨u, clk, hu, rest, goes, keeps, frame⟩ := h.wakes hI steady off
    refine ⟨u, (exec_frameWake _ _ _ _ _).trans hu, rest, goes, keeps, ?_⟩
    rw [keepsArrays, frame]
    exact ⟨⟨rfl, rfl, rfl, rfl, rfl⟩, fun n hn c from_ upto => groupsOn_up_stage rfl rfl hn from_ upto,
      fun c done => groupsOn_up_full rfl rfl done⟩
  case rest =>
    obtain ⟨u, clk, hu, rest, goes, keeps, frame⟩ := h.rests hI on
    refine ⟨u, (exec_frameRest _ _ _ _ _).trans hu, rest, goes, keeps, ?_⟩
    rw [keepsArrays, frame]
    exact ⟨⟨rfl, rfl, rfl, rfl, rfl⟩, fun n hn c from_ upto => groupsOn_down_stage rfl rfl hn from_ upto,
      fun c done => groupsOn_down_off rfl rfl done⟩
  case wait =>
    obtain ⟨only, core⟩ := onlyCore_updCore (i := i) (s.frameAt i 0 0)
      (retire (s.frameAt i 0 0) (max (s.frameAt i 0 0 + 1) (s.frameAt i 0 0)) 1 [] none) hI.2
    have hu := onTile_plain (f := fun _ => frameInsn i.core 7 0 0 0) h.core.grid h.insn_waits
    rw [Nat.max_eq_left (Nat.le_succ _)] at only core hu
    exact ⟨_, (exec_frameWait _ _ _ _ _).trans hu, noResult_of_retire only core⟩
  case auto =>
    obtain ⟨u, hu, only, tile⟩ := onTile_only (f := fun _ => frameAutoRest) grid hI
      (frameAutoRest_idle job halted run steady full free since) (.of_ _)
    refine ⟨u, (exec_frameAutoRest _ _).trans hu, only, ?_⟩
    rw [tile]
    exact ⟨rfl, rfl, rfl, rfl⟩

end Sys2Proof.Machine
end

section
namespace Sys2Proof.Machine

/-! # Integer instructions -/

/-! ## What a ready core leaves in its destination (R112, R116) -/

section
variable {s : State} {i : CoreAt} {major lat : Nat} {srcs : List Nat} {row : Option (Nat × Nat)} {causes : Tile → List Nat} {f : CoreSt → CoreSt}

/-- An instruction of fixed timing that meets no condition of R137 and writes one scalar register. -/
theorem coreOp_scalar {d : Reg} {v : U64} (hI : s.Inv) (ready : CoreReady s i srcs [rS d] (row.map Prod.fst))
    (good : pickCause (causes ((s.tile i.tile.val).atCycle (s.issueAt i srcs [rS d] (row.map Prod.fst)))) = 0) (late : lat ≠ 0)
    (result : f (s.coreAt i) = (s.coreAt i).setS d v) :
    ∃ u, onTile i.tile (fun _ => coreOp i.core major srcs [rS d] lat row causes f) s = .next u
      ∧ ScalarResult s u i (s.issueAt i srcs [rS d] (row.map Prod.fst)) d lat v := by
  obtain ⟨u, hu, only, core⟩ := coreOp_ready hI.2 ready good
  exact ⟨u, hu, scalar_of late only (by rw [core, result])⟩

/-- An instruction of fixed timing that meets no condition of R137 and writes one vector register. -/
theorem coreOp_vector {d : VReg} {v : V512} {fl : BitVec 5} (hI : s.Inv) (ready : CoreReady s i srcs [rV d] (row.map Prod.fst))
    (good : pickCause (causes ((s.tile i.tile.val).atCycle (s.issueAt i srcs [rV d] (row.map Prod.fst)))) = 0) (late : lat ≠ 0)
    (result : f (s.coreAt i) = orVflags fl ((s.coreAt i).setV d v)) :
    ∃ u, onTile i.tile (fun _ => coreOp i.core major srcs [rV d] lat row causes f) s = .next u
      ∧ VectorResult s u i (s.issueAt i srcs [rV d] (row.map Prod.fst)) d lat v fl := by
  obtain ⟨u, hu, only, core⟩ := coreOp_ready hI.2 ready good
  exact ⟨u, hu, vector_of late only (by rw [core, result])⟩

end

/-! ## The forms of integer instructions -/

theorem RegInsn.of_aluOp {mk : CoreAt → Reg → Reg → Reg → Instr} {lat : Nat} {f g : U64 → U64 → U64}
    (meaning : ∀ i d a b s, exec (mk i d a b) s = onTile i.tile (fun _ => aluOp i.core d a b lat g) s) (late : lat ≠ 0)
    (value : ∀ x y, g x y = f x y) : RegInsn mk lat none f := by
  intro s i d a b hI ready
  rw [meaning]
  exact coreOp_scalar (row := none) hI ready rfl late (by rw [value])

theorem RegInsn.of_divOp {mk : CoreAt → Reg → Reg → Reg → Instr} {f : U64 → U64 → U64}
    (meaning : ∀ i d a b s, exec (mk i d a b) s = onTile i.tile (fun _ => divOp i.core d a b f) s) : RegInsn mk 34 (some rowDiv) f := by
  intro s i d a b hI ready
  rw [meaning]
  exact coreOp_scalar (row := some (rowDiv, 34)) hI ready rfl (by decide) rfl

theorem UnaryInsn.of_unOp {mk : CoreAt → Reg → Reg → Reg → Instr} {lat : Nat} {f g : U64 → U64}
    (meaning : ∀ i d a b s, exec (mk i d a b) s = onTile i.tile (fun _ => unOp i.core d a b lat g) s) (late : lat ≠ 0)
    (value : ∀ x, g x = f x) : UnaryInsn mk lat f := by
  intro s i d a hI ready
  rw [meaning]
  exact coreOp_scalar (row := none) hI ready rfl late (by rw [value])

theorem ImmInsn.of_immOp {mk : CoreAt → Reg → Reg → U16 → Instr} {major : Nat} {f : U64 → U16 → U64} {g : U16 → U64 → U64}
    (meaning : ∀ i d a imm s, exec (mk i d a imm) s = onTile i.tile (fun _ => immOp i.core major d a (g imm)) s)
    (value : ∀ x imm, g imm x = f x imm) : ImmInsn mk f := by
  intro s i d a imm hI ready
  rw [meaning]
  exact coreOp_scalar (row := none) hI ready rfl (by decide) (by rw [value])

theorem ShiftInsn.of_shiftiOp {mk : CoreAt → Reg → Reg → BitVec 6 → BitVec 8 → Instr} {f : U64 → Nat → U64} {g : BitVec 6 → U64 → U64}
    (meaning : ∀ i d a amt z s, exec (mk i d a amt z) s = onTile i.tile (fun _ => shiftiOp i.core d a z (g amt)) s)
    (value : ∀ x amt, g amt x = f x amt.toNat) : ShiftInsn mk f := by
  intro s i d a amt hI ready
  rw [meaning]
  exact coreOp_scalar (row := none) hI ready rfl (by decide) (by rw [value])

/-! ## The arithmetic of 64-bit registers -/

section
variable {w : Nat} (x y : BitVec w) (n : Nat)

theorem shiftLeft_eq_ofNat : x <<< n = BitVec.ofNat w (x.toNat * 2 ^ n) :=
  BitVec.eq_of_toNat_eq (by simp [Nat.shiftLeft_eq])

theorem ushiftRight_eq_ofNat : x >>> n = BitVec.ofNat w (x.toNat / 2 ^ n) := by
  rw [← Nat.shiftRight_eq_div_pow, ← BitVec.toNat_ushiftRight, BitVec.ofNat_toNat, BitVec.setWidth_eq]

theorem sshiftRight_eq_ofInt : x.sshiftRight n = BitVec.ofInt w (x.toInt / 2 ^ n) := by
  have shifted : x.toInt >>> n = x.toInt / 2 ^ n := by rw [Int.shiftRight_eq_div_pow]; norm_cast
  rw [← shifted, ← BitVec.toInt_sshiftRight, BitVec.ofInt_toInt]

theorem mul_eq_ofNat : x * y = BitVec.ofNat w (x.toNat * y.toNat) := BitVec.eq_of_toNat_eq (by simp)

theorem sub_eq_ofNat : x - y = BitVec.ofNat w (x.toNat + 2 ^ w - y.toNat) := by
  have small := y.isLt
  rw [BitVec.sub_def]
  congr 1
  omega

theorem add_eq_ofInt : x + y = BitVec.ofInt w (x.toInt + y.toInt) := by
  rw [BitVec.ofInt_add, BitVec.ofInt_toInt, BitVec.ofInt_toInt]

/-- A choice by the signed order is the extreme of the signed values. -/
theorem slt_min : (if x.slt y then x else y) = BitVec.ofInt w (min x.toInt y.toInt) := by
  rw [min_def_lt, apply_ite (BitVec.ofInt w), BitVec.ofInt_toInt, BitVec.ofInt_toInt]
  simp only [BitVec.slt_iff_toInt_lt]

theorem slt_max : (if x.slt y then y else x) = BitVec.ofInt w (max x.toInt y.toInt) := by
  rw [max_def_lt, apply_ite (BitVec.ofInt w), BitVec.ofInt_toInt, BitVec.ofInt_toInt]
  simp only [BitVec.slt_iff_toInt_lt]

theorem ult_min : (if x.ult y then x else y) = BitVec.ofNat w (min x.toNat y.toNat) := by
  rw [min_def_lt, apply_ite (BitVec.ofNat w), BitVec.ofNat_toNat, BitVec.ofNat_toNat, BitVec.setWidth_eq, BitVec.setWidth_eq]
  simp only [BitVec.ult_iff_lt, BitVec.lt_def]

theorem ult_max : (if x.ult y then y else x) = BitVec.ofNat w (max x.toNat y.toNat) := by
  rw [max_def_lt, apply_ite (BitVec.ofNat w), BitVec.ofNat_toNat, BitVec.ofNat_toNat, BitVec.setWidth_eq, BitVec.setWidth_eq]
  simp only [BitVec.ult_iff_lt, BitVec.lt_def]

end

theorem b64_slt (x y : U64) : b64 (x.slt y) = if x.toInt < y.toInt then 1 else 0 := by
  simp only [b64, BitVec.slt_iff_toInt_lt]

theorem b64_ult (x y : U64) : b64 (x.ult y) = if x.toNat < y.toNat then 1 else 0 := by
  simp only [b64, BitVec.ult_iff_lt, BitVec.lt_def]

theorem popc64_eq_countP (x : U64) : popc64 x = BitVec.ofNat 64 ((List.range 64).countP fun k => x.getLsbD k) := by
  rw [popc64, upTo, List.countP_eq_length_filter]

/-- The sign-extended immediate has the value of its 16 bits. -/
theorem sx16_toInt (imm : U16) : (sx16 imm).toInt = imm.toInt := BitVec.toInt_signExtend_of_le (by decide)

theorem zx16_eq_ofNat (imm : U16) : zx16 imm = BitVec.ofNat 64 imm.toNat := (BitVec.ofNat_toNat 64 imm).symm

/-- LIH puts 16 new bits below its destination. -/
theorem shiftLeft_or_zx16 (x : U64) (imm : U16) : (x <<< (16 : Nat)) ||| zx16 imm = BitVec.ofNat 64 (x.toNat * 2 ^ 16 + imm.toNat) := by
  have disjoint : (x <<< (16 : Nat)) &&& zx16 imm = 0#64 := by
    ext k hk
    by_cases low : k < 16
    · simp [low]
    · simp [zx16, BitVec.getLsbD_of_ge imm k (by omega)]
  rw [← BitVec.add_eq_or_of_and_eq_zero _ _ disjoint, shiftLeft_eq_ofNat, zx16_eq_ofNat, ← BitVec.ofNat_add]

/-- Settles O2: each instruction is one of six forms around a function of its registers, which the arithmetic of 64 bits puts as the statement does. -/
theorem integerInstructions : Obligations.IntegerInstructions := by
  unfold Obligations.IntegerInstructions
  refine ⟨⟨?add, ?sub, ?and, ?or, ?xor, ?shl, ?shr, ?sar, ?slt, ?sltu, ?min, ?max, ?minu, ?maxu, ?mul, ?mulh, ?mulhu, ?div, ?divu, ?rem, ?remu, ?mix64,
    ?popc, ?clz⟩, ?addi, ?andi, ?ori, ?xori, ?slti, ?shiftiShl, ?shiftiShr, ?shiftiSar, fun s i d imm hI ready => ?lih⟩
  case add => exact .of_aluOp exec_add (by decide) BitVec.add_def
  case sub => exact .of_aluOp exec_sub (by decide) sub_eq_ofNat
  case and => exact .of_aluOp exec_and (by decide) fun _ _ => rfl
  case or => exact .of_aluOp exec_or (by decide) fun _ _ => rfl
  case xor => exact .of_aluOp exec_xor (by decide) fun _ _ => rfl
  case shl => exact .of_aluOp exec_shl (by decide) fun _ _ => shiftLeft_eq_ofNat _ _
  case shr => exact .of_aluOp exec_shr (by decide) fun _ _ => ushiftRight_eq_ofNat _ _
  case sar => exact .of_aluOp exec_sar (by decide) fun _ _ => sshiftRight_eq_ofInt _ _
  case slt => exact .of_aluOp exec_slt (by decide) b64_slt
  case sltu => exact .of_aluOp exec_sltu (by decide) b64_ult
  case min => exact .of_aluOp exec_min (by decide) slt_min
  case max => exact .of_aluOp exec_max (by decide) slt_max
  case minu => exact .of_aluOp exec_minu (by decide) ult_min
  case maxu => exact .of_aluOp exec_maxu (by decide) ult_max
  case mul => exact .of_aluOp exec_mul (by decide) mul_eq_ofNat
  case mulh => exact .of_aluOp exec_mulh (by decide) fun _ _ => rfl
  case mulhu => exact .of_aluOp exec_mulhu (by decide) fun _ _ => rfl
  case div => exact .of_divOp exec_div
  case divu => exact .of_divOp exec_divu
  case rem => exact .of_divOp exec_rem
  case remu => exact .of_divOp exec_remu
  case mix64 => exact .of_unOp exec_mix64 (by decide) fun _ => rfl
  case popc => exact .of_unOp exec_popc (by decide) popc64_eq_countP
  case clz => exact .of_unOp exec_clz (by decide) fun _ => rfl
  case addi => exact .of_immOp exec_addi fun x imm => by rw [add_eq_ofInt, sx16_toInt]
  case andi => exact .of_immOp exec_andi fun x imm => by rw [zx16_eq_ofNat]
  case ori => exact .of_immOp exec_ori fun x imm => by rw [zx16_eq_ofNat]
  case xori => exact .of_immOp exec_xori fun x imm => by rw [zx16_eq_ofNat]
  case slti => exact .of_immOp exec_slti fun x imm => by rw [b64_slt, sx16_toInt]
  case shiftiShl => exact .of_shiftiOp exec_shiftiShl fun _ _ => shiftLeft_eq_ofNat _ _
  case shiftiShr => exact .of_shiftiOp exec_shiftiShr fun _ _ => ushiftRight_eq_ofNat _ _
  case shiftiSar => exact .of_shiftiOp exec_shiftiSar fun _ _ => sshiftRight_eq_ofInt _ _
  case lih =>
    rw [exec_lih]
    exact coreOp_scalar (row := none) hI ready rfl (by decide) (by rw [shiftLeft_or_zx16])

end Sys2Proof.Machine
end

section
namespace Sys2Proof.Machine

/-! # Loads and stores of a core (R109, R114) -/

/-- An aligned access of a size that divides a line lies within one line. -/
theorem DataOk.within_line {s : State} {i : CoreAt} {o n : Nat} (ok : DataOk s i o n) (size : n ∣ 64) : s.physAt i o % 64 + n ≤ 64 := by
  have aligned : n ∣ s.physAt i o % 64 :=
    (Nat.dvd_mod_iff size).mpr (Nat.dvd_add (size.trans (Nat.dvd_of_mod_eq_zero ok.base)) (Nat.dvd_of_mod_eq_zero ok.aligned))
  have below := Nat.mod_lt (s.physAt i o) (show 0 < 64 by decide)
  have gap : n ∣ 64 - s.physAt i o % 64 := Nat.dvd_sub size aligned
  have := Nat.le_of_dvd (by omega) gap
  omega

/-- A store in its issue cycle, its address and its bytes read from the tile. -/
def storeBody (c : CoreIx) (place : Tile → Nat) (bytes : Tile → List Byte) (t0 : Nat) (t : Tile) : TOut :=
  (dataWrite true (place t) (t0 + 2) (bytes t) t).upd fun t => t.updCore c (retire t0 (t0 + 1) 1 [] none)

/-- A ready core that meets no condition of R137 stores its bytes, which lie within one line. -/
theorem onTile_stored {s : State} {i : CoreAt} {major p : Nat} {srcs : List Nat} {causes : Tile → List Nat} {place : Tile → Nat}
    {bytes : Tile → List Byte} {bs : List Byte} {f : Tile → TOut} {t : Tile} (hI : s.Inv) (canonical : (s.tile i.tile.val).sp.wf = true)
    (ready : CoreReady s i srcs [] none) (noWatch : ∀ n : Fin 2, ((s.tile i.tile.val).wps[n]).enable = false)
    (at_ : t = (s.tile i.tile.val).atCycle (s.issueAt i srcs [] none)) (good : pickCause (causes t) = 0)
    (meaning : f = coreGo i.core major srcs [] none causes (storeBody i.core place bytes))
    (address : place t = p) (data : bytes t = bs) (fits : p % 64 + bs.length ≤ 64) :
    ∃ u, onTile i.tile (fun _ => f) s = .next u ∧ Stored s u i (s.issueAt i srcs [] none) p bs := by
  subst at_ meaning address data
  obtain ⟨acc, written, plain⟩ := dataWrite_plain true _ (s.issueAt i srcs [] none + 2) _
    ((s.tile i.tile.val).atCycle (s.issueAt i srcs [] none)) ready.parity noWatch fits
  exact ⟨_, onTile_plain ready.grid ((coreGo_ready ready.tile good).trans (congrArg (TOut.upd · _) written)), stored_of hI canonical plain⟩

/-- A scalar store whose size divides that of a line. -/
theorem StoreInsn.of_storeOp {mk : CoreAt → Reg → Reg → U16 → Instr} {major n : Nat} (size : n ∣ 64)
    (meaning : ∀ i d a imm s, exec (mk i d a imm) s = onTile i.tile (fun _ => storeOp i.core major d a imm n) s) : StoreInsn mk n := by
  intro s i d a imm hI canonical ready ok
  rw [meaning]
  refine onTile_stored hI canonical ready ok.noWatch rfl ?_ rfl rfl rfl ?_
  · exact congrArg pickCause (dataCauses_ok ok _)
  · rw [leOfNat_length]
    exact ok.within_line size

/-- A name of v0 to v15 has its top bit 0 (R116). -/
theorem vRegName_top (d : VReg) : (BitVec.ofNat 5 d.val).getLsbD 4 = false := by
  fin_cases d <;> rfl

/-- An access of a line that is allowed meets no condition of VLD and VST. -/
theorem vecMemCauses_ok {s : State} {i : CoreAt} {a : Reg} {imm : U16} (d : VReg) (ok : DataOk s i (s.offAt i a imm) 64) (n : Nat) :
    vecMemCauses i.core (BitVec.ofNat 5 d.val) a imm ((s.tile i.tile.val).atCycle n) = [] := by
  rw [vecMemCauses, vRegName_top, Tile.atCycle_core]
  exact dataCauses_ok ok n

/-- VST to a name of v0 to v15 stores the line of that register. -/
theorem vstOp_of_name (c : CoreIx) (d : VReg) (a : Reg) (imm : U16) :
    vstOp c (BitVec.ofNat 5 d.val) a imm = coreGo c 0x15 [rS a, rV d] [] none (vecMemCauses c (BitVec.ofNat 5 d.val) a imm)
      (storeBody c (fun t => t.tsk.base + dataOff (t.core c) a imm) fun t => lineBytes (t.core c).v[d]) := by
  funext t
  simp only [vstOp, vOfD_val]
  rfl

/-- Settles O3: the loads are those of `LoadInsn.of` and `vld_of` with their extensions, and a store writes within one line. -/
theorem loadAndStoreInstructions : Obligations.LoadAndStoreInstructions := by
  unfold Obligations.LoadAndStoreInstructions
  refine ⟨⟨?ld64, ?ld32, ?ld32u, ?ld16, ?ld16u, ?ld8, ?ld8u, fun s i d a imm hI ready ok => ?vld⟩,
    ?st64, ?st32, ?st16, ?st8, fun s i d a imm hI canonical ready ok => ?vst⟩
  case ld64 => exact .of exec_ld64 (sg := false) fun _ => rfl
  case ld32 => exact .of exec_ld32 (sg := true) fun x => sext_ofNat 32 x (by decide)
  case ld32u => exact .of exec_ld32u (sg := false) fun _ => rfl
  case ld16 => exact .of exec_ld16 (sg := true) fun x => sext_ofNat 16 x (by decide)
  case ld16u => exact .of exec_ld16u (sg := false) fun _ => rfl
  case ld8 => exact .of exec_ld8 (sg := true) fun x => sext_ofNat 8 x (by decide)
  case ld8u => exact .of exec_ld8u (sg := false) fun _ => rfl
  case vld =>
    have load := vld_of s i (BitVec.ofNat 5 d.val) a imm (vRegName_top d) hI
    rw [vOfD_val] at load
    rw [exec_vld]
    exact load ready ok
  case st64 => exact .of_storeOp (by decide) exec_st64
  case st32 => exact .of_storeOp (by decide) exec_st32
  case st16 => exact .of_storeOp (by decide) exec_st16
  case st8 => exact .of_storeOp (by decide) exec_st8
  case vst =>
    rw [exec_vst]
    refine onTile_stored hI canonical ready ok.noWatch rfl ?_ (vstOp_of_name i.core d a imm) rfl rfl ?_
    · exact congrArg pickCause (vecMemCauses_ok d ok _)
    · rw [leOfNat_length]
      exact ok.within_line (by decide)

end Sys2Proof.Machine
end

section
namespace Sys2Proof.Machine

/-! # Branches and jumps (R113, R117) -/

section
variable {s u : State} {i : CoreAt}

/-- An instruction that only changes its core, once its operation is known on the tile. -/
theorem onTile_onlyCore {f : Tile → TOut} {n : Nat} {r : CoreSt → CoreSt} (hI : s.Inv) (grid : s.grid.hasTile i.tile.val = true)
    (effect : f (s.tile i.tile.val) = TOut.of (((s.tile i.tile.val).atCycle n).updCore i.core r)) :
    ∃ u, onTile i.tile (fun _ => f) s = .next u ∧ onlyCore s u i ∧ u.coreAt i = r (s.coreAt i) :=
  ⟨_, onTile_plain grid effect, onlyCore_updCore n r hI.2⟩

theorem noResult_of_takeBranch {t0 : Nat} {target : Int} (only : onlyCore s u i) (core : u.coreAt i = takeBranch t0 target (s.coreAt i)) :
    NoResult s u i target.toNat (t0 + 2) := by
  rw [NoResult, keepsS, keepsV, keepsFlags, core]
  exact ⟨only, rfl, rfl, rfl, fun _ => rfl, rfl, rfl, rfl⟩

/-- A target that exists is no bound violation. -/
theorem badTarget_of_exists {target : Int} (lo : 0 ≤ target) (hi : target ≤ 65535) : badTarget target = false := by
  simp [badTarget, lo, hi]

/-! ## What each operation does on the tile of a ready core -/

section
variable {major : Nat} {a b : Reg} {off : U16} {test : U64 → U64 → Bool}

theorem branchOp_not_taken (ready : CoreReady s i [rS a, rS b] [] none) (no : test ((s.coreAt i).getS a) ((s.coreAt i).getS b) = false) :
    branchOp i.core major a b off test (s.tile i.tile.val)
      = TOut.of (((s.tile i.tile.val).atCycle (s.issueAt i [rS a, rS b] [] none)).updCore i.core
          (retire (s.issueAt i [rS a, rS b] [] none) (s.issueAt i [rS a, rS b] [] none + 1) 1 [] none)) := by
  unfold State.coreAt at no
  rw [branchOp, coreGo_ready ready.tile]
  · simp only [Tile.atCycle_core, no]
    rfl
  · simp only [Tile.atCycle_core, no]
    rfl

theorem branchOp_taken (ready : CoreReady s i [rS a, rS b] [] none) (yes : test ((s.coreAt i).getS a) ((s.coreAt i).getS b) = true)
    (lo : 0 ≤ s.targetAt i off.toInt) (hi : s.targetAt i off.toInt ≤ 65535) :
    branchOp i.core major a b off test (s.tile i.tile.val)
      = TOut.of (((s.tile i.tile.val).atCycle (s.issueAt i [rS a, rS b] [] none)).updCore i.core
          (takeBranch (s.issueAt i [rS a, rS b] [] none) (s.targetAt i off.toInt))) := by
  have target := badTarget_of_exists lo hi
  unfold State.coreAt at yes
  unfold State.targetAt State.coreAt at target
  rw [branchOp, coreGo_ready ready.tile]
  · simp only [Tile.atCycle_core, yes]
    rfl
  · simp only [Tile.atCycle_core, yes, target]
    rfl

end

section
variable {off : BitVec 26} (lo : 0 ≤ s.targetAt i off.toInt) (hi : s.targetAt i off.toInt ≤ 65535)
include lo hi

theorem jumpOp_jump (ready : CoreReady s i [] [] none) :
    jumpOp i.core false off (s.tile i.tile.val)
      = TOut.of (((s.tile i.tile.val).atCycle (s.issueAt i [] [] none)).updCore i.core
          (takeBranch (s.issueAt i [] [] none) (s.targetAt i off.toInt))) := by
  rw [jumpOp]
  simp only [Bool.false_eq_true, if_false]
  rw [coreGo_ready ready.tile (congrArg (fun b => pickCause (causeIf b 2)) (badTarget_of_exists lo hi))]
  rfl

/-- JAL leaves the address of its successor in s31. -/
theorem jumpOp_link (ready : CoreReady s i [] [31] none) :
    jumpOp i.core true off (s.tile i.tile.val)
      = TOut.of (((s.tile i.tile.val).atCycle (s.issueAt i [] [31] none)).updCore i.core fun k =>
          takeBranch (s.issueAt i [] [31] none) (s.targetAt i off.toInt)
            (markReady (k.setS 31 (BitVec.ofNat 64 (k.pc + 1))) [31] (s.issueAt i [] [31] none + 1))) := by
  rw [jumpOp]
  simp only [if_true]
  rw [coreGo_ready ready.tile (congrArg (fun b => pickCause (causeIf b 2)) (badTarget_of_exists lo hi))]
  rfl

end

theorem jrOp_ready {a : Reg} (ready : CoreReady s i [rS a] [] none) (hi : ((s.coreAt i).getS a).toNat ≤ 65535) :
    jrOp i.core 0 a 0 (s.tile i.tile.val)
      = TOut.of (((s.tile i.tile.val).atCycle (s.issueAt i [rS a] [] none)).updCore i.core fun k =>
          takeBranch (s.issueAt i [rS a] [] none) (k.getS a).toNat k) :=
  (coreGo_ready ready.tile (congrArg (fun b => pickCause (causeIf b 2)) (decide_eq_false (not_lt.mpr hi)))).trans rfl

end

/-- A conditional branch by a test of its two registers. -/
theorem BranchInsn.of_branchOp {mk : CoreAt → Reg → Reg → U16 → Instr} {major : Nat} {cond : U64 → U64 → Prop} {test : U64 → U64 → Bool}
    (meaning : ∀ i a b off s, exec (mk i a b off) s = onTile i.tile (fun _ => branchOp i.core major a b off test) s)
    (decides : ∀ x y, test x y = true ↔ cond x y) : BranchInsn mk cond := by
  intro s i a b off hI ready
  rw [meaning, ← decides, Bool.not_eq_true]
  refine ⟨fun no => ?straight, fun yes lo hi => ?taken⟩
  case straight =>
    obtain ⟨u, hu, only, core⟩ := onTile_onlyCore hI ready.grid (branchOp_not_taken ready no)
    exact ⟨u, hu, noResult_of_retire only core⟩
  case taken =>
    obtain ⟨u, hu, only, core⟩ := onTile_onlyCore hI ready.grid (branchOp_taken ready yes lo hi)
    exact ⟨u, hu, noResult_of_takeBranch only core⟩

/-- Settles O4: a branch that is not taken only retires; one that is taken, and every jump, moves the PC to a target that exists. -/
theorem branchAndJumpInstructions : Obligations.BranchAndJumpInstructions := by
  unfold Obligations.BranchAndJumpInstructions
  refine ⟨?beq, ?bne, ?blt, ?bge, ?bltu, ?bgeu, fun s i off hI ready lo hi => ?j, fun s i off hI ready lo hi => ?jal, fun s i a hI ready hi => ?jr⟩
  case beq => exact .of_branchOp exec_beq fun x y => beq_iff_eq
  case bne => exact .of_branchOp exec_bne fun x y => bne_iff_ne
  case blt => exact .of_branchOp exec_blt fun x y => BitVec.slt_iff_toInt_lt
  case bge => exact .of_branchOp exec_bge fun x y => by rw [Bool.not_eq_true', ← Bool.not_eq_true, BitVec.slt_iff_toInt_lt, not_lt]
  case bltu => exact .of_branchOp exec_bltu fun x y => by rw [BitVec.ult_iff_lt, BitVec.lt_def]
  case bgeu => exact .of_branchOp exec_bgeu fun x y => by rw [Bool.not_eq_true', ← Bool.not_eq_true, BitVec.ult_iff_lt, BitVec.lt_def, not_lt]
  case j =>
    rw [exec_j]
    obtain ⟨u, hu, only, core⟩ := onTile_onlyCore hI ready.grid (jumpOp_jump lo hi ready)
    exact ⟨u, hu, noResult_of_takeBranch only core⟩
  case jal =>
    rw [exec_jal]
    obtain ⟨u, hu, only, core⟩ := onTile_onlyCore hI ready.grid (jumpOp_link lo hi ready)
    refine ⟨u, hu, only, ?_⟩
    rw [keepsV, keepsFlags, core]
    exact ⟨rfl, rfl, CoreSt.getS_setS _ _ _, rfl, rfl, rfl⟩
  case jr =>
    rw [exec_jr]
    obtain ⟨u, hu, only, core⟩ := onTile_onlyCore hI ready.grid (jrOp_ready ready hi)
    exact ⟨u, hu, noResult_of_takeBranch only core⟩

end Sys2Proof.Machine
end

section
namespace Sys2Proof.Machine

/-! # Lanes of vector registers (R118) -/

/-! ## Digits -/

theorem lanesNat_lt (w : Nat) (ls : List Nat) : lanesNat w ls < 2 ^ (w * ls.length) := by
  induction ls with
  | nil => exact Nat.one_pos
  | cons l ls ih =>
    have digit := Nat.mod_lt l (Nat.two_pow_pos w)
    rw [List.length_cons, Nat.mul_succ, Nat.add_comm, Nat.pow_add, lanesNat]
    calc l % 2 ^ w + 2 ^ w * lanesNat w ls < 2 ^ w + 2 ^ w * lanesNat w ls := by omega
      _ = 2 ^ w * (lanesNat w ls + 1) := by ring
      _ ≤ 2 ^ w * 2 ^ (w * ls.length) := Nat.mul_le_mul_left _ ih

theorem lanesNat_digit (w : Nat) (ls : List Nat) (n : Nat) : lanesNat w ls / 2 ^ (w * n) % 2 ^ w = ls.getD n 0 % 2 ^ w := by
  induction ls generalizing n with
  | nil => simp [lanesNat]
  | cons l ls ih =>
    have digit := Nat.mod_lt l (Nat.two_pow_pos w)
    cases n with
    | zero => simp [lanesNat]
    | succ n =>
      rw [lanesNat, Nat.mul_succ, Nat.add_comm (w * n), Nat.pow_add, ← Nat.div_div_eq_div_mul, Nat.add_mul_div_left _ _ (Nat.two_pow_pos w),
        Nat.div_eq_of_lt digit, Nat.zero_add, ih, List.getD_cons_succ]

/-- A lane of a register that is given by its lanes. -/
theorem laneOf_ofLanes {w : Nat} {ls : List Nat} (fits : w * ls.length ≤ 512) (n : Nat) : laneOf w (ofLanes w ls) n = ls.getD n 0 % 2 ^ w := by
  have small := Nat.lt_of_lt_of_le (lanesNat_lt w ls) (Nat.pow_le_pow_right Nat.two_pos fits)
  rw [laneOf, ofLanes, BitVec.toNat_ofNat, Nat.mod_eq_of_lt small, lanesNat_digit]

theorem laneOf_lt (w : Nat) (v : V512) (n : Nat) : laneOf w v n < 2 ^ w := Nat.mod_lt _ (Nat.two_pow_pos w)

/-- A lane of a register that is given by a function of the lane number. -/
theorem laneOf_ofLanes_map (l : LaneTy) (f : Nat → Nat) {n : Nat} (hn : n < l.lanes) :
    laneOf l.w (ofLanes l.w ((upTo l.lanes).map f)) n = f n % 2 ^ l.w := by
  have length : ((upTo l.lanes).map f).length = l.lanes := by simp [upTo]
  rw [laneOf_ofLanes (by rw [length]; exact Nat.mul_div_le 512 l.w)]
  simp [upTo, hn]

/-! ## Flags of lanes -/

theorem foldl_or_getLsbD (rs : List LaneRes) (a : BitVec 5) (b : Nat) :
    (rs.foldl (fun a r => a ||| r.2) a).getLsbD b = true ↔ a.getLsbD b = true ∨ ∃ r ∈ rs, r.2.getLsbD b = true := by
  induction rs generalizing a with
  | nil => simp
  | cons r rs ih => simp [ih, or_assoc]

/-- A flag is raised when a lane raises it. -/
theorem orFlags_getLsbD (rs : List LaneRes) (b : Nat) : (orFlags rs).getLsbD b = true ↔ ∃ r ∈ rs, r.2.getLsbD b = true := by
  rw [orFlags, foldl_or_getLsbD]
  simp

section
variable (op : VOp) (l : LaneTy) (x y z : V512)

theorem laneOf_vecOp {n : Nat} (hn : n < l.lanes) :
    laneOf l.w (vecOp op l x y z).1 n = (laneOp op l (laneOf l.w x n) (laneOf l.w y n) (laneOf l.w z n)).1 % 2 ^ l.w := by
  rw [vecOp, List.map_map]
  exact laneOf_ofLanes_map l _ hn

theorem vecOp_flag (b : Nat) :
    (vecOp op l x y z).2.getLsbD b = true
      ↔ ∃ n, n < l.lanes ∧ (laneOp op l (laneOf l.w x n) (laneOf l.w y n) (laneOf l.w z n)).2.getLsbD b = true := by
  simp [vecOp, orFlags_getLsbD, upTo]

end

/-! ## The forms of lane-wise instructions -/

theorem tyCause_good {ty : BitVec 3} (legal : laneTy ty ≠ none) : pickCause (tyCause ty) = 0 := by
  simp [tyCause, causeIf, legal, pickCause]

/-- What a lane-wise instruction changes in its core. -/
def laneStep (op : VOp) (l : LaneTy) (vd va vb : VReg) (k : CoreSt) : CoreSt :=
  let r := vecOp op l k.v[va] k.v[vb] k.v[vd]
  orVflags r.2 (k.setV vd r.1)

theorem vecLane_of_laneTy {ty : BitVec 3} {l : LaneTy} (legal : laneTy ty = some l) (c : CoreIx) (op : VOp) (reads : List VReg) (vd va vb : VReg)
    (latI latF : Nat) :
    vecLane c op reads vd va vb ty latI latF
      = coreOp c 0x20 (reads.map rV) [rV vd] (laneLat ty latI latF) none (fun _ => tyCause ty) (laneStep op l vd va vb) := by
  funext t
  simp only [vecLane, legal]
  rfl

theorem LaneInsn.of_vecLane {mk : CoreAt → VReg → VReg → VReg → BitVec 3 → Instr} {op : VOp} {reads : VReg → VReg → VReg → List VReg}
    {latI latF : Nat}
    (meaning : ∀ i vd va vb ty s, exec (mk i vd va vb ty) s = onTile i.tile (fun _ => vecLane i.core op (reads vd va vb) vd va vb ty latI latF) s)
    (late : latI ≠ 0 ∧ latF ≠ 0) : LaneInsn mk op reads latI latF := by
  intro s i vd va vb ty l hI legal ready
  have later : laneLat ty latI latF ≠ 0 := by
    unfold laneLat
    split
    exacts [late.2, late.1]
  rw [meaning, vecLane_of_laneTy legal]
  have typed := tyCause_good (legal ▸ Option.some_ne_none l)
  obtain ⟨u, hu, result⟩ := coreOp_vector (row := none) (causes := fun _ => tyCause ty) (f := laneStep op l vd va vb) hI ready typed later rfl
  exact ⟨u, _, _, hu, result, fun n hn => laneOf_vecOp op l _ _ _ hn, vecOp_flag op l _ _ _⟩

theorem BitInsn.of_vecBit {mk : CoreAt → VReg → VReg → VReg → BitVec 3 → Instr} {reads : VReg → VReg → VReg → List VReg}
    {f : V512 → V512 → V512 → V512}
    (meaning : ∀ i vd va vb ty s, exec (mk i vd va vb ty) s = onTile i.tile (fun _ => vecBit i.core (reads vd va vb) vd va vb ty f) s) :
    BitInsn mk reads f := by
  intro s i vd va vb ty hI legal ready
  rw [meaning]
  exact coreOp_vector (row := none) hI ready (tyCause_good legal) (by decide) (retire_vec _ _ _)

/-! ## The arithmetic of integer lanes (R118) -/

section
variable {w : Nat}

/-- The signed value of a lane is that of two's complement. -/
theorem sextNat_eq_toInt (pos : 0 < w) (a : Nat) : sextNat w a = (BitVec.ofNat w a).toInt := by
  have half : 2 ^ w = 2 * 2 ^ (w - 1) := by rw [← Nat.pow_succ']; congr 1; omega
  simp only [sextNat, BitVec.toInt_eq_toNat_cond, BitVec.toNat_ofNat]
  split <;> split <;> omega

theorem wrapW_eq_toNat (x : Int) : wrapW w x = (BitVec.ofInt w x).toNat := by
  rw [wrapW, BitVec.toNat_ofInt]

theorem wrapW_toInt {a : Nat} (ha : a < 2 ^ w) : wrapW w (BitVec.ofNat w a).toInt = a := by
  rw [wrapW_eq_toNat, BitVec.ofInt_toInt, BitVec.toNat_ofNat, Nat.mod_eq_of_lt ha]

theorem wrapW_neg (a : Nat) : wrapW w (-(BitVec.ofNat w a).toInt) = (2 ^ w - a % 2 ^ w) % 2 ^ w := by
  rw [wrapW_eq_toNat, BitVec.ofInt_neg, BitVec.ofInt_toInt, BitVec.toNat_neg, BitVec.toNat_ofNat]

theorem ofInt_clamp (pos : 0 < w) (z : Int) :
    (BitVec.ofNat w (satW w z)).toInt = max (-2 ^ (w - 1)) (min (2 ^ (w - 1) - 1) z) := by
  have size : (0 : Int) < 2 ^ (w - 1) := by positivity
  rw [satW, wrapW_eq_toNat, BitVec.ofNat_toNat, BitVec.setWidth_eq]
  push_cast
  exact BitVec.toInt_ofInt_eq_self pos (by omega) (by omega)

variable (pos : 0 < w) {a b d : Nat}
include pos

theorem laneOp_int_add : laneOp .add (.int w) a b d = ((a + b) % 2 ^ w, 0) := by
  simp only [laneOp, sextNat_eq_toInt pos, wrapW_eq_toNat, BitVec.ofInt_add, BitVec.ofInt_toInt]
  simp

theorem laneOp_int_sub (hb : b < 2 ^ w) : laneOp .sub (.int w) a b d = ((a + 2 ^ w - b) % 2 ^ w, 0) := by
  simp only [laneOp, sextNat_eq_toInt pos, wrapW_eq_toNat, sub_eq_add_neg, BitVec.ofInt_add, BitVec.ofInt_neg, BitVec.ofInt_toInt]
  simp [Nat.mod_eq_of_lt hb, Nat.add_sub_assoc hb.le]

theorem laneOp_int_mul : laneOp .mul (.int w) a b d = (a * b % 2 ^ w, 0) := by
  simp only [laneOp, sextNat_eq_toInt pos, wrapW_eq_toNat, BitVec.ofInt_mul, BitVec.ofInt_toInt]
  simp

theorem laneOp_int_fma : laneOp .fma (.int w) a b d = ((a * b + d) % 2 ^ w, 0) := by
  simp only [laneOp, sextNat_eq_toInt pos, wrapW_eq_toNat, BitVec.ofInt_mul, BitVec.ofInt_add, BitVec.ofInt_toInt]
  simp

theorem laneOp_int_min (ha : a < 2 ^ w) (hb : b < 2 ^ w) :
    laneOp .min (.int w) a b d = (if (BitVec.ofNat w a).toInt ≤ (BitVec.ofNat w b).toInt then a else b, 0) := by
  simp only [laneOp, sextNat_eq_toInt pos, min_def, apply_ite (wrapW w), wrapW_toInt ha, wrapW_toInt hb]

theorem laneOp_int_max (ha : a < 2 ^ w) (hb : b < 2 ^ w) :
    laneOp .max (.int w) a b d = (if (BitVec.ofNat w a).toInt ≤ (BitVec.ofNat w b).toInt then b else a, 0) := by
  simp only [laneOp, sextNat_eq_toInt pos, max_def, apply_ite (wrapW w), wrapW_toInt ha, wrapW_toInt hb]

theorem laneOp_int_neg (ha : a < 2 ^ w) : laneOp .neg (.int w) a b d = ((2 ^ w - a) % 2 ^ w, 0) := by
  simp only [laneOp, sextNat_eq_toInt pos, wrapW_neg, Nat.mod_eq_of_lt ha]

theorem laneOp_int_abs (ha : a < 2 ^ w) :
    laneOp .abs (.int w) a b d = (if (BitVec.ofNat w a).toInt < 0 then 2 ^ w - a else a, 0) := by
  simp only [laneOp, sextNat_eq_toInt pos, apply_ite (wrapW w), wrapW_toInt ha, wrapW_neg, Nat.mod_eq_of_lt ha]
  split_ifs with negative
  · have nonzero : a ≠ 0 := by
      rintro rfl
      simp at negative
    rw [Nat.mod_eq_of_lt (by omega)]
  · rfl

theorem laneOp_int_cmplt :
    laneOp .cmplt (.int w) a b d = (if (BitVec.ofNat w a).toInt < (BitVec.ofNat w b).toInt then 2 ^ w - 1 else 0, 0) := by
  simp only [laneOp, sextNat_eq_toInt pos, maskW, decide_eq_true_eq]

theorem laneOp_int_cmpeq (ha : a < 2 ^ w) (hb : b < 2 ^ w) : laneOp .cmpeq (.int w) a b d = (if a = b then 2 ^ w - 1 else 0, 0) := by
  have same : (BitVec.ofNat w a).toInt = (BitVec.ofNat w b).toInt ↔ a = b := by
    rw [BitVec.toInt_inj, ← BitVec.toNat_inj, BitVec.toNat_ofNat, BitVec.toNat_ofNat, Nat.mod_eq_of_lt ha, Nat.mod_eq_of_lt hb]
  simp only [laneOp, sextNat_eq_toInt pos, maskW, decide_eq_true_eq, same]

end

/-- Settles O5: each lane of the result is its own operation of the same lanes, whose arithmetic is that of integers modulo 2^w. -/
theorem vectorLaneInstructions : Obligations.VectorLaneInstructions := by
  unfold Obligations.VectorLaneInstructions
  refine ⟨⟨?vadd, ?vsub, ?vmul, ?vfma, ?vmin, ?vmax, ?vabs, ?vneg, ?vadds, ?vsubs, ?vcmplt, ?vcmpeq, ?vand, ?vor, ?vxor, ?vsel⟩,
    fun w hw a b d ha hb _ => ?arithmetic⟩
  case vadd => exact .of_vecLane exec_vadd (by decide)
  case vsub => exact .of_vecLane exec_vsub (by decide)
  case vmul => exact .of_vecLane exec_vmul (by decide)
  case vfma => exact .of_vecLane exec_vfma (by decide)
  case vmin => exact .of_vecLane exec_vmin (by decide)
  case vmax => exact .of_vecLane exec_vmax (by decide)
  case vabs => exact .of_vecLane exec_vabs (by decide)
  case vneg => exact .of_vecLane exec_vneg (by decide)
  case vadds => exact .of_vecLane exec_vadds (by decide)
  case vsubs => exact .of_vecLane exec_vsubs (by decide)
  case vcmplt => exact .of_vecLane exec_vcmplt (by decide)
  case vcmpeq => exact .of_vecLane exec_vcmpeq (by decide)
  case vand => exact .of_vecBit exec_vand
  case vor => exact .of_vecBit exec_vor
  case vxor => exact .of_vecBit exec_vxor
  case vsel => exact .of_vecBit exec_vsel
  case arithmetic =>
    have pos : 0 < w := by omega
    refine ⟨laneOp_int_add pos, laneOp_int_sub pos hb, laneOp_int_mul pos, laneOp_int_fma pos, laneOp_int_min pos ha hb, laneOp_int_max pos ha hb,
      laneOp_int_neg pos ha, laneOp_int_abs pos ha, laneOp_int_cmplt pos, laneOp_int_cmpeq pos ha hb, ?adds, ?subs⟩
    case adds =>
      simp only [laneOp, sextNat_eq_toInt pos]
      exact ofInt_clamp pos _
    case subs =>
      simp only [laneOp, sextNat_eq_toInt pos]
      exact ofInt_clamp pos _

end Sys2Proof.Machine
end

section
namespace Sys2Proof.Machine

/-! # Moves, reductions and conversions of vectors (R118, R120, R121) -/

/-! ## The operations by their lane type -/

section
variable {ty : BitVec 3} {l : LaneTy} (legal : laneTy ty = some l) (c : CoreIx)
include legal

theorem width_pos : 0 < l.w := by
  unfold laneTy at legal
  split at legal
  all_goals cases legal
  all_goals decide

theorem lanes_pos : 0 < l.lanes := by
  unfold laneTy at legal
  split at legal
  all_goals cases legal
  all_goals decide

theorem tyCause_legal : pickCause (tyCause ty) = 0 := tyCause_good (legal ▸ Option.some_ne_none l)

theorem vpermOp_of_laneTy (vd va vb : VReg) :
    vpermOp c vd va vb ty = coreOp c 0x20 [rV va, rV vb] [rV vd] 3 none (fun _ => tyCause ty) fun k => k.setV vd (vecPerm l k.v[va] k.v[vb]) := by
  funext t
  simp only [vpermOp, legal]

theorem vsplatOp_of_laneTy (vd : VReg) (sa : Reg) :
    vsplatOp c vd sa ty = coreOp c 0x21 [rS sa] [rV vd] 1 none (fun _ => tyCause ty) fun k =>
      k.setV vd (ofLanes l.w ((upTo l.lanes).map fun _ => (k.getS sa).toNat % 2 ^ l.w)) := by
  funext t
  simp only [vsplatOp, legal]

theorem vextOp_of_laneTy (sd : Reg) (va : VReg) (sa : Reg) :
    vextOp c sd va sa ty = coreOp c 0x21 [rS sa, rV va] [rS sd] 2 none (fun _ => tyCause ty) fun k =>
      k.setS sd (vecExt l k.v[va] (k.getS sa).toNat) := by
  funext t
  simp only [vextOp, legal]

theorem vinsOp_of_laneTy (vd : VReg) (sa sd : Reg) :
    vinsOp c vd sa sd ty = coreOp c 0x21 [rS sa, rS sd, rV vd] [rV vd] 2 none (fun _ => tyCause ty) fun k =>
      k.setV vd (vecIns l k.v[vd] (k.getS sa).toNat (k.getS sd).toNat) := by
  funext t
  simp only [vinsOp, legal]

theorem vredOp_of_laneTy (op : RedOp) (sd : Reg) (va : VReg) :
    vredOp c op sd va ty = coreOp c 0x21 [rV va] [rS sd] 8 none (fun _ => tyCause ty) fun k =>
      orVflags (reduce op l k.v[va]).2 (k.setS sd (reduce op l k.v[va]).1) := by
  funext t
  simp only [vredOp, legal]

end

/-! ## Lanes of the results -/

section
variable (l : LaneTy) (x y : V512) {n : Nat} (hn : n < l.lanes)
include hn

theorem laneOf_vecPerm : laneOf l.w (vecPerm l x y) n = laneOf l.w x (laneOf l.w y n % l.lanes) := by
  rw [vecPerm, laneOf_ofLanes_map l _ hn, Nat.mod_eq_of_lt (laneOf_lt _ _ _)]

theorem laneOf_splat (v : Nat) : laneOf l.w (ofLanes l.w ((upTo l.lanes).map fun _ => v % 2 ^ l.w)) n = v % 2 ^ l.w := by
  rw [laneOf_ofLanes_map l _ hn, Nat.mod_mod]

theorem laneOf_vecIns (k v : Nat) : laneOf l.w (vecIns l x k v) n = if n = k % l.lanes then v % 2 ^ l.w else laneOf l.w x n := by
  rw [vecIns, laneOf_ofLanes_map l _ hn]
  split
  · exact Nat.mod_mod _ _
  · exact Nat.mod_eq_of_lt (laneOf_lt _ _ _)

end

/-- A vector result by what holds of its lanes. -/
theorem coreOp_setV {s : State} {i : CoreAt} {major lat : Nat} {srcs : List Nat} {d : VReg} {causes : Tile → List Nat} {g : CoreSt → V512}
    {P : V512 → Prop} (hI : s.Inv) (ready : CoreReady s i srcs [rV d] none)
    (good : pickCause (causes ((s.tile i.tile.val).atCycle (s.issueAt i srcs [rV d] none))) = 0) (late : lat ≠ 0) (lanes : P (g (s.coreAt i))) :
    ∃ u v, onTile i.tile (fun _ => coreOp i.core major srcs [rV d] lat none causes fun k => k.setV d (g k)) s = .next u
      ∧ VectorResult s u i (s.issueAt i srcs [rV d] none) d lat v 0 ∧ P v := by
  obtain ⟨u, hu, result⟩ := coreOp_vector (row := none) (f := fun k => k.setV d (g k)) hI ready good late (retire_vec _ _ _)
  exact ⟨u, _, hu, result, lanes⟩

/-- VEXT extends an integer lane by its sign and gives a float lane as its bits. -/
theorem vecExt_of_laneTy {ty : BitVec 3} {l : LaneTy} (legal : laneTy ty = some l) (x : V512) (n : Nat) :
    vecExt l x n = if isFloat ty then BitVec.ofNat 64 (laneOf l.w x (n % l.lanes))
      else BitVec.signExtend 64 (BitVec.ofNat l.w (laneOf l.w x (n % l.lanes))) := by
  cases l with
  | int w =>
    have pos : 0 < w := width_pos legal
    simp only [vecExt, isFloat, legal, LaneTy.w, sext_ofNat w _ pos, Bool.false_eq_true, if_false]
  | flt f => simp [vecExt, isFloat, legal]

@[simp] theorem orVflags_getS (fl : BitVec 5) (k : CoreSt) (r : Reg) : (orVflags fl k).getS r = k.getS r := rfl
@[simp] theorem orVflags_v (fl : BitVec 5) (k : CoreSt) : (orVflags fl k).v = k.v := rfl
@[simp] theorem orVflags_vflags (fl : BitVec 5) (k : CoreSt) : (orVflags fl k).vflags = k.vflags ||| fl := rfl

theorem ReduceInsn.of_vredOp {mk : CoreAt → Reg → VReg → BitVec 3 → Instr} {op : RedOp}
    (meaning : ∀ i sd va ty s, exec (mk i sd va ty) s = onTile i.tile (fun _ => vredOp i.core op sd va ty) s) : ReduceInsn mk op := by
  intro s i sd va ty l hI legal ready
  rw [meaning, vredOp_of_laneTy legal]
  obtain ⟨u, hu, only, core⟩ := coreOp_ready (row := none) (causes := fun _ => tyCause ty) hI.2 ready (tyCause_legal legal)
  refine ⟨u, hu, only, ?_⟩
  rw [core]
  refine ⟨Retired.of_retire _ _ _ _ _ _ (CoreSt.setS_pc _ _ _) (CoreSt.setS_run _ _ _) (CoreSt.setS_etrap _ _ _) (CoreSt.setS_vextra _ _ _), ?_, ?_, ?_⟩
  · simpa [writesS] using CoreSt.getS_setS (s.coreAt i) sd _
  · simp [keepsV]
  · simp

/-! ## Conversions -/

/-- What VCVT changes in its core, its destination a register or a pair. -/
def convertStep (a b : LaneTy) (pair : Bool) (vd va : VReg) (k : CoreSt) : CoreSt :=
  let r := vecCvt a b k.v[va] k.v[vNext va]
  orVflags r.2.2 (if pair then (k.setV vd r.1).setV (vNext vd) r.2.1 else k.setV vd r.1)

theorem vNext_ne (d : VReg) : vNext d ≠ d := by
  intro same
  have := congrArg Fin.val same
  simp only [vNext] at this
  omega

/-- The registers after a write of a pair. -/
theorem setV_pair (k : CoreSt) (d : VReg) (x y : V512) :
    ((k.setV d x).setV (vNext d) y).v[d] = x ∧ ((k.setV d x).setV (vNext d) y).v[vNext d] = y
      ∧ ∀ r : VReg, r ≠ d → r ≠ vNext d → ((k.setV d x).setV (vNext d) y).v[r] = k.v[r] := by
  obtain ⟨lower, keeps_lower⟩ := CoreSt.getV_setV k d x
  obtain ⟨upper, keeps_upper⟩ := CoreSt.getV_setV (k.setV d x) (vNext d) y
  exact ⟨(keeps_upper d (vNext_ne d).symm).trans lower, upper,
    fun r not_lower not_upper => (keeps_upper r not_upper).trans (keeps_lower r not_lower)⟩

section
variable {ty dt : BitVec 3} {a b : LaneTy} (legal : laneTy ty = some a) (target : laneTy dt = some b) (c : CoreIx) (vd va : VReg) (small : dt.toNat < 16)
include legal target

theorem vcvtOp_of_laneTy :
    vcvtOp c vd va ⟨dt.toNat, small⟩ ty
      = coreOp c 0x20 (if b.lanes == 2 * a.lanes then [rV va, rV (vNext va)] else [rV va])
          (if a.lanes == 2 * b.lanes then [rV vd, rV (vNext vd)] else [rV vd]) 4 none
          (fun _ => causeIf (! cvtOk a b || (b.lanes == 2 * a.lanes && va.val % 2 == 1) || (a.lanes == 2 * b.lanes && vd.val % 2 == 1)) 4)
          (convertStep a b (a.lanes == 2 * b.lanes) vd va) := by
  have name : BitVec.ofNat 3 dt.toNat = dt := by rw [BitVec.ofNat_toNat, BitVec.setWidth_eq]
  have below : decide (8 ≤ dt.toNat) = false := decide_eq_false (not_le.mpr dt.isLt)
  funext t
  simp only [vcvtOp, name, legal, target, below, Bool.or_false]
  rfl

theorem vcvtOp_same_lanes (lanes : a.lanes = b.lanes) :
    vcvtOp c vd va ⟨dt.toNat, small⟩ ty = coreOp c 0x20 [rV va] [rV vd] 4 none (fun _ => []) (convertStep a b false vd va) := by
  have pos := lanes_pos target
  have single_in : (b.lanes == 2 * a.lanes) = false := beq_false_of_ne (by omega)
  have single_out : (a.lanes == 2 * b.lanes) = false := beq_false_of_ne (by omega)
  rw [vcvtOp_of_laneTy legal target, single_in, single_out]
  simp [cvtOk, lanes, causeIf]

theorem vcvtOp_pair_in (lanes : b.lanes = 2 * a.lanes) (even : va.val % 2 = 0) :
    vcvtOp c vd va ⟨dt.toNat, small⟩ ty
      = coreOp c 0x20 [rV va, rV (vNext va)] [rV vd] 4 none (fun _ => []) (convertStep a b false vd va) := by
  have pos := lanes_pos legal
  have single_out : (a.lanes == 2 * b.lanes) = false := beq_false_of_ne (by omega)
  rw [vcvtOp_of_laneTy legal target, single_out]
  simp [cvtOk, lanes, even, causeIf]

theorem vcvtOp_pair_out (lanes : a.lanes = 2 * b.lanes) (even : vd.val % 2 = 0) :
    vcvtOp c vd va ⟨dt.toNat, small⟩ ty
      = coreOp c 0x20 [rV va] [rV vd, rV (vNext vd)] 4 none (fun _ => []) (convertStep a b true vd va) := by
  have pos := lanes_pos target
  have single_in : (b.lanes == 2 * a.lanes) = false := beq_false_of_ne (by omega)
  rw [vcvtOp_of_laneTy legal target, single_in]
  simp [cvtOk, lanes, even, causeIf]

end

/-- Settles O6: with a legal type each operation is a function of its lanes, and a conversion is one of three forms by the ratio of its lane counts. -/
theorem vectorMovesAndReductions : Obligations.VectorMovesAndReductions := by
  unfold Obligations.VectorMovesAndReductions
  refine ⟨fun s i vd va vb ty l hI legal ready => ?vperm, fun s i vd sa ty l hI legal ready => ?vsplat,
    fun s i sd va sa ty l hI legal ready => ?vext, fun s i vd sa sd ty l hI legal ready => ?vins,
    .of_vredOp exec_vredadd, .of_vredOp exec_vredmax, .of_vredOp exec_vredmin,
    fun s i vd va ty dt a b hI legal target lanes ready => ?vcvt_same, fun s i vd va ty dt a b hI legal target lanes even ready => ?vcvt_pair_in,
    fun s i vd va ty dt a b hI legal target lanes even ready => ?vcvt_pair_out⟩
  case vperm =>
    rw [exec_vperm, execVperm, vpermOp_of_laneTy legal]
    exact coreOp_setV hI ready (tyCause_legal legal) (by decide) fun n hn => laneOf_vecPerm l _ _ hn
  case vsplat =>
    rw [exec_vsplat, execVsplat, vsplatOp_of_laneTy legal]
    exact coreOp_setV hI ready (tyCause_legal legal) (by decide) fun n hn => laneOf_splat l hn _
  case vext =>
    rw [exec_vext, execVext, vextOp_of_laneTy legal]
    exact coreOp_scalar (row := none) hI ready (tyCause_legal legal) (by decide) (by rw [vecExt_of_laneTy legal])
  case vins =>
    rw [exec_vins, execVins, vinsOp_of_laneTy legal]
    exact coreOp_setV hI ready (tyCause_legal legal) (by decide) fun n hn => laneOf_vecIns l _ hn _ _
  case vcvt_same =>
    rw [exec_vcvt, execVcvt, vcvtOp_same_lanes legal target _ _ _ _ lanes]
    exact coreOp_vector (row := none) hI ready rfl (by decide) rfl
  case vcvt_pair_in =>
    rw [exec_vcvt, execVcvt, vcvtOp_pair_in legal target _ _ _ _ lanes even]
    exact coreOp_vector (row := none) hI ready rfl (by decide) rfl
  case vcvt_pair_out =>
    rw [exec_vcvt, execVcvt, vcvtOp_pair_out legal target _ _ _ _ lanes even]
    obtain ⟨u, hu, only, core⟩ := coreOp_ready (row := none) (causes := fun _ => []) hI.2 ready rfl
    obtain ⟨lower, upper, others⟩ := setV_pair (s.coreAt i) vd (vecCvt a b (s.coreAt i).v[va] (s.coreAt i).v[vNext va]).1
      (vecCvt a b (s.coreAt i).v[va] (s.coreAt i).v[vNext va]).2.1
    refine ⟨u, hu, only, ?_⟩
    rw [keepsS, core]
    exact ⟨.of_retire _ _ _ _ _ _ rfl rfl rfl rfl, lower, upper, others, fun r => rfl, rfl⟩

end Sys2Proof.Machine
end

section
namespace Sys2Proof.Machine

/-! # V-marked instructions, positions and windows (R115, R127, R128) -/

/-! ## How a V-marked instruction ends or holds -/

section
variable {s : State} {i : CoreAt} {f : TEnv → Tile → TOut} {t0 : Nat} {t : Tile}

/-- The instruction has ended and leaves `v` in its destination; of its tile it has changed its core and what `t` changes. -/
theorem onTile_vDone {o : TOut} {m w : Nat} {d : Reg} {v : U64} {r : CoreSt → CoreSt} (hI : s.Inv) (grid : s.grid.hasTile i.tile.val = true)
    (effect : f (s.env i.tile.val) (s.tile i.tile.val) = o) (plain : PlainBumps o) (done : o.tile = (vDone i.core t0 m w [rS d] r t).tile)
    (core : t.core i.core = s.coreAt i) (value : r (s.coreAt i) = (s.coreAt i).setS d v) :
    ∃ u, onTile i.tile f s = .next u ∧ waitedResult s u i t0 m w d v ∧ ∃ k, u.tile i.tile.val = t.setCore i.core k := by
  have same : vDone i.core t0 m w [rS d] r t = vDone i.core t0 m w [rS d] (fun k => k.setS d v) t := by
    simp only [vDone, Tile.updCore, core, value]
  obtain ⟨u, hu, only, tile⟩ := onTile_only grid hI effect plain
  have tile := tile.trans (done.trans (congrArg TOut.tile same))
  exact ⟨u, hu, waited_of only tile core, _, tile.trans (vDone_tile _ _ _ _ _ _ _)⟩

theorem onTile_waited {m w : Nat} {d : Reg} {v : U64} {r : CoreSt → CoreSt} (hI : s.Inv) (grid : s.grid.hasTile i.tile.val = true)
    (effect : f (s.env i.tile.val) (s.tile i.tile.val) = vDone i.core t0 m w [rS d] r t) (core : t.core i.core = s.coreAt i)
    (value : r (s.coreAt i) = (s.coreAt i).setS d v) : ∃ u, onTile i.tile f s = .next u ∧ waitedResult s u i t0 m w d v := by
  obtain ⟨u, hu, result, -⟩ := onTile_vDone hI grid effect (vDone_plain _ _ _ _ _ _ _) rfl core value
  exact ⟨u, hu, result⟩

/-- The instruction holds its core. -/
theorem onTile_holds {kind waited : Nat} (hI : s.Inv) (grid : s.grid.hasTile i.tile.val = true)
    (effect : f (s.env i.tile.val) (s.tile i.tile.val) = TOut.of (vHold i.core kind t0 waited t))
    (cores : ∀ c, t.core c = (s.tile i.tile.val).core c) (sp : t.sp = (s.tile i.tile.val).sp) :
    ∃ u, onTile i.tile f s = .next u ∧ holds s u i kind t0 := by
  obtain ⟨u, hu, only, tile⟩ := onTile_only grid hI effect (.of_ _)
  exact ⟨u, hu, holds_of only tile cores sp⟩

end

/-! ## Windows -/

section
variable {s : State} {i : CoreAt} {a d : Reg} {w : Fin 8}

theorem plWaitOp_ready (ready : CoreReady s i [rS a] [] none) :
    plWaitOp i.core a 0 (s.tile i.tile.val)
      = TOut.of (((s.tile i.tile.val).atCycle (s.issueAt i [rS a] [] none)).updCore i.core
          (retire (s.issueAt i [rS a] [] none) (max (s.issueAt i [rS a] [] none + 1) (((s.coreAt i).getS a).toNat % 2 ^ 32)) 1 [] none)) :=
  (coreGo_ready ready.tile rfl).trans rfl

/-- A window that WIN.OPEN may open meets no condition of R137. -/
theorem winOpenOp_ready (ready : CoreReady s i [rS a, rS d] [] none)
    (bound : ((s.coreAt i).getS a).toNat + ((s.coreAt i).getS d).toNat ≤ (s.tile i.tile.val).tsk.bound)
    (offset : ((s.coreAt i).getS a).toNat % 64 = 0) (length : ((s.coreAt i).getS d).toNat % 64 = 0)
    (cls : ((s.coreAt i).getS d).toNat ≠ 0 →
      (s.tile i.tile.val).classOk clsMesh ((s.coreAt i).getS a).toNat ((s.coreAt i).getS d).toNat = true) :
    winOpenOp i.core d a w 0 (s.tile i.tile.val)
      = TOut.of ((((s.tile i.tile.val).atCycle (s.issueAt i [rS a, rS d] [] none)).setWin w fun x =>
          { x with isOpen := true, off := ((s.coreAt i).getS a).toNat, len := ((s.coreAt i).getS d).toNat, count := 0, ext := 0 }).updCore i.core
          (retire (s.issueAt i [rS a, rS d] [] none) (s.issueAt i [rS a, rS d] [] none + 1) 1 [] none)) := by
  refine (coreGo_ready ready.tile ?_).trans rfl
  have inside : (s.tile i.tile.val).inBound ((s.coreAt i).getS a).toNat ((s.coreAt i).getS d).toNat = true := decide_eq_true bound
  have none_met : causeIf (! (s.tile i.tile.val).inBound ((s.coreAt i).getS a).toNat ((s.coreAt i).getS d).toNat) 2
      ++ causeIf (((s.coreAt i).getS a).toNat % 64 != 0 || ((s.coreAt i).getS d).toNat % 64 != 0) 3
      ++ causeIf (((s.coreAt i).getS d).toNat != 0
        && ! (s.tile i.tile.val).classOk clsMesh ((s.coreAt i).getS a).toNat ((s.coreAt i).getS d).toNat) 1 = [] := by
    simpa [causeIf, inside, offset, length] using cls
  exact congrArg pickCause none_met

theorem winCloseOp_ready (ready : CoreReady s i [] [] none) :
    winCloseOp i.core w 0 (s.tile i.tile.val)
      = TOut.of ((((s.tile i.tile.val).atCycle (s.issueAt i [] [] none)).setWin w fun x => { x with isOpen := false }).updCore i.core
          (retire (s.issueAt i [] [] none) (s.issueAt i [] [] none + 1) 1 [] none)) :=
  (coreGo_ready ready.tile rfl).trans rfl

theorem Tile.setWin_same (t : Tile) (w : Fin 8) (g : Win → Win) : (t.setWin w g).wins[w] = g t.wins[w] := by
  simp [Tile.setWin]

theorem Tile.setWin_ne (t : Tile) {w x : Fin 8} (g : Win → Win) (h : x ≠ w) : (t.setWin w g).wins[x] = t.wins[x] := by
  simp only [Tile.setWin]
  exact Vector.getElem_set_ne _ _ fun same => h (Fin.ext same.symm)

/-- An instruction that changes a window and retires. -/
theorem onTile_setWin {f : Tile → TOut} {g : Win → Win} {t0 : Nat} (hI : s.Inv) (grid : s.grid.hasTile i.tile.val = true)
    (running : (s.coreAt i).run = .running)
    (effect : f (s.tile i.tile.val)
      = TOut.of ((((s.tile i.tile.val).atCycle t0).setWin w g).updCore i.core (retire t0 (t0 + 1) 1 [] none))) :
    ∃ u, onTile i.tile (fun _ => f) s = .next u ∧ restOfTile s u i ∧ goesOn s u i (t0 + 1) ∧ keepsS (s.coreAt i) (u.coreAt i)
      ∧ (u.tile i.tile.val).wins[w] = g (s.tile i.tile.val).wins[w]
      ∧ ∀ x : Fin 8, x ≠ w → (u.tile i.tile.val).wins[x] = (s.tile i.tile.val).wins[x] := by
  obtain ⟨u, hu, only, tile⟩ := onTile_only (f := fun _ => f) grid hI effect (.of_ _)
  have core : u.coreAt i = retire t0 (t0 + 1) 1 [] none (s.coreAt i) := (coreAt_of_updCore tile).trans rfl
  refine ⟨u, hu, restOfTile_of_updCore only tile (fun _ _ => rfl) rfl, goesOn_of_retire core running rfl, ?_, ?_, fun x hx => ?_⟩
  · intro r
    rw [core, retire_getS]
  · rw [tile]
    exact Tile.setWin_same _ w g
  · rw [tile]
    exact Tile.setWin_ne _ g hx

end

/-! ## RW.WAIT -/

section
variable {s : State} {i : CoreAt} {a d : Reg} {w : Fin 8} (waited : Nat) (ready : CoreReady s i [rS a] [rS d] none)
include ready

theorem rwWaitOp_closed (closed : ((s.tile i.tile.val).wins[w]).isOpen = false) :
    rwWaitOp i.core d a w 0 waited (s.tile i.tile.val)
      = vDone i.core (s.issueAt i [rS a] [rS d] none) 1 0 [rS d] (fun k => k.setS d (BitVec.ofNat 64 ((s.tile i.tile.val).wins[w]).count))
          ((s.tile i.tile.val).atCycle (s.issueAt i [rS a] [rS d] none)) := by
  refine (vGo_ready ready.tile rfl).trans ?_
  simp only [Tile.atCycle_wins, closed]
  rfl

theorem rwWaitOp_reached (isOpen : ((s.tile i.tile.val).wins[w]).isOpen = true)
    (reached : ((s.coreAt i).getS a).toNat % 2 ^ 32 ≤ ((s.tile i.tile.val).wins[w]).count) :
    rwWaitOp i.core d a w 0 waited (s.tile i.tile.val)
      = vDone i.core (s.issueAt i [rS a] [rS d] none) 1 waited [rS d] (fun k => k.setS d (BitVec.ofNat 64 ((s.tile i.tile.val).wins[w]).count))
          ((s.tile i.tile.val).atCycle (s.issueAt i [rS a] [rS d] none)) := by
  refine (vGo_ready ready.tile rfl).trans ?_
  simp only [Tile.atCycle_wins, isOpen]
  exact if_pos reached

theorem rwWaitOp_holds (isOpen : ((s.tile i.tile.val).wins[w]).isOpen = true)
    (short : ((s.tile i.tile.val).wins[w]).count < ((s.coreAt i).getS a).toNat % 2 ^ 32) :
    rwWaitOp i.core d a w 0 waited (s.tile i.tile.val)
      = TOut.of (vHold i.core wkRw (s.issueAt i [rS a] [rS d] none) waited ((s.tile i.tile.val).atCycle (s.issueAt i [rS a] [rS d] none))) := by
  refine (vGo_ready ready.tile rfl).trans ?_
  simp only [Tile.atCycle_wins, isOpen]
  exact if_neg (not_le.mpr short)

end

/-- Settles O9: PL.WAIT only retires, a window instruction changes its window alone, and RW.WAIT is one of three cases by the window and its count. -/
theorem positionsAndWindows : Obligations.PositionsAndWindows := by
  unfold Obligations.PositionsAndWindows
  refine ⟨fun s i a hI ready => ?plWait, fun s i d a w hI ready bound offset length cls => ?winOpen, fun s i w hI ready => ?winClose,
    fun s i d a w waited hI ready => ⟨fun closed => ?closed, fun isOpen reached => ?reached, fun isOpen short => ?short⟩⟩
  case plWait =>
    rw [exec_plWait]
    obtain ⟨u, hu, only, core⟩ := onTile_onlyCore hI ready.grid (plWaitOp_ready ready)
    exact ⟨u, hu, noResult_of_retire only core⟩
  case winOpen => exact onTile_setWin hI ready.grid ready.running (winOpenOp_ready ready bound offset length cls)
  case winClose => exact onTile_setWin hI ready.grid ready.running (winCloseOp_ready ready)
  case closed =>
    rw [exec_rwWait, execRwWait]
    exact onTile_waited hI ready.grid (rwWaitOp_closed waited ready closed) rfl rfl
  case reached =>
    rw [exec_rwWait, execRwWait]
    exact onTile_waited hI ready.grid (rwWaitOp_reached waited ready isOpen reached) rfl rfl
  case short =>
    rw [exec_rwWait, execRwWait]
    exact onTile_holds hI ready.grid (rwWaitOp_holds waited ready isOpen short) (fun _ => rfl) rfl

end Sys2Proof.Machine
end

section
namespace Sys2Proof.Machine

/-! # Service messages and reads of the device (R129, R130, R182, R184) -/

/-! ## The queues of the service agent -/

theorem Tile.sv_setSv (t : Tile) (c : CoreIx) (q : SvCore) : (t.setSv c q).sv c = q := by
  simp [Tile.sv, Tile.setSv, Tile.updRouter]

/-- Lines that a tile sends stand behind those that its router holds already. -/
theorem injectLines_ins (ch : Nat) {ls : List SvLine} (some_line : ls ≠ []) (t : Tile) :
    SMap.get ([] : List SvLine) (injectLines ch ls t).router.ins (8 + ch) = SMap.get [] t.router.ins (8 + ch) ++ ls := by
  have nonempty : SMap.get [] t.router.ins (8 + ch) ++ ls ≠ [] := List.append_ne_nil_of_right_ne_nil _ some_line
  simp only [injectLines, Tile.updRouter, SMap.put, if_neg nonempty]
  exact SMap.get_ins_same _ _ _ _

/-! ## SV.SEND -/

section
variable {s : State} {i : CoreAt} {a d : Reg} (waited : Nat)

/-- A message is its header line alone. -/
theorem sendOffsets_message {k : CoreSt} {t : Tile} (message : hType (hdrOf (t.line (t.tsk.base + (k.getS a).toNat))) = 1) :
    sendOffsets k t a = [(k.getS a).toNat] := by
  simp [sendOffsets, message]

/-- The lines that a message leaves at the router, and the entry and the number that it takes. -/
def messageSent (e : TEnv) (c : CoreIx) (p tag : Nat) (t : Tile) : Tile :=
  let q := t.sv c
  (injectLines 0 (sendPacket e c (hdrOf (t.line p)) q.nextSeq tag [t.line p]) t).setSv c
    { q with reqs := q.reqs ++ [⟨tag, q.nextSeq⟩], nextSeq := (q.nextSeq + 1) % 1024 }

section
variable (e : TEnv) (c : CoreIx) (p tag : Nat) (t : Tile)

theorem messageSent_sv :
    (messageSent e c p tag t).sv c
      = { t.sv c with reqs := (t.sv c).reqs ++ [⟨tag, (t.sv c).nextSeq⟩], nextSeq := ((t.sv c).nextSeq + 1) % 1024 } :=
  Tile.sv_setSv _ _ _

theorem messageSent_ins_length :
    (SMap.get ([] : List SvLine) (messageSent e c p tag t).router.ins 8).length = (SMap.get ([] : List SvLine) t.router.ins 8).length + 1 := by
  have one : (sendPacket e c (hdrOf (t.line p)) (t.sv c).nextSeq tag [t.line p]).length = 1 := by simp [sendPacket, upTo]
  have queued := injectLines_ins 0 (List.ne_nil_of_length_eq_add_one one) t
  exact (congrArg List.length queued).trans (by rw [List.length_append, one])

end

theorem sendTake_message (e : TEnv) (c : CoreIx) (tag t0 : Nat) {t : Tile}
    (message : hType (hdrOf (t.line (t.tsk.base + ((t.core c).getS a).toNat))) = 1) (parity : t.spBad = [])
    (noWatch : ∀ n : Fin 2, (t.wps[n]).enable = false) :
    sendTake e c d a waited tag t0 t
      = vDone c t0 2 waited [rS d] (fun k => k.setS d 0) (messageSent e c (t.tsk.base + ((t.core c).getS a).toNat) tag t) := by
  have read := dataRead_plain (t.tsk.base + ((t.core c).getS a).toNat) 64 (t0 + 2 + 0)
    (messageSent e c (t.tsk.base + ((t.core c).getS a).toNat) tag t) parity noWatch
  rw [sendTake]
  simp only [sendOffsets_message message]
  exact congrArg (fun o : TOut => o.andThen (vDone c t0 2 waited [rS d] fun k => k.setS d 0)) read

section
variable {e : TEnv} {c : CoreIx} (t0 : Nat) {t : Tile} (legal : sendable e (hdrOf (t.line (t.tsk.base + ((t.core c).getS a).toNat))) = true)
include legal

theorem sendBody_takes {tag : Nat} {rest : List Nat} (free : freeEntries (t.sv c) = tag :: rest) (few : (t.sv c).reqs.length < 4)
    (room : (SMap.get ([] : List SvLine) t.router.ins 8).length < 4) :
    sendBody e c d a waited t0 t = sendTake e c d a waited tag t0 t := by
  have goes : ¬ (4 ≤ (t.sv c).reqs.length ∨ 4 ≤ (SMap.get ([] : List SvLine) t.router.ins 8).length) := by omega
  simp only [sendBody, legal, free, Bool.not_true, Bool.false_eq_true, if_false, goes]

theorem sendBody_full (full : freeEntries (t.sv c) = []) : sendBody e c d a waited t0 t = TOut.of (vHold c wkSend t0 waited t) := by
  simp only [sendBody, legal, full, Bool.not_true, Bool.false_eq_true, if_false]

end

section
variable (ready : CoreReady s i [rS a] [rS d] none) (ok : DataOk s i ((s.coreAt i).getS a).toNat 64)
  (message : hType (hdrOf ((s.tile i.tile.val).line (s.physAt i ((s.coreAt i).getS a).toNat))) = 1)
include ready ok message

theorem svSendOp_issues :
    svSendOp (s.env i.tile.val) i.core d a 0 waited (s.tile i.tile.val)
      = sendBody (s.env i.tile.val) i.core d a waited (s.issueAt i [rS a] [rS d] none)
          ((s.tile i.tile.val).atCycle (s.issueAt i [rS a] [rS d] none)) := by
  refine vGo_ready ready.tile ?_
  have one : sendOffsets (s.coreAt i) ((s.tile i.tile.val).atCycle (s.issueAt i [rS a] [rS d] none)) a = [((s.coreAt i).getS a).toNat] :=
    sendOffsets_message message
  have none_met : sendCauses i.core a 0 ((s.tile i.tile.val).atCycle (s.issueAt i [rS a] [rS d] none)) = [] := by
    show causeIf ((0 : BitVec 12) != 0) 4 ++ (sendOffsets (s.coreAt i) _ a).flatMap _ = []
    rw [one]
    simpa [causeIf] using dataCauses_ok ok _
  exact congrArg pickCause none_met

variable (legal : sendable (s.env i.tile.val) (hdrOf ((s.tile i.tile.val).line (s.physAt i ((s.coreAt i).getS a).toNat))) = true)
include legal

theorem svSendOp_takes {tag : Nat} {rest : List Nat} (free : freeEntries ((s.tile i.tile.val).sv i.core) = tag :: rest)
    (few : ((s.tile i.tile.val).sv i.core).reqs.length < 4)
    (room : (SMap.get ([] : List SvLine) (s.tile i.tile.val).router.ins 8).length < 4) :
    svSendOp (s.env i.tile.val) i.core d a 0 waited (s.tile i.tile.val)
      = vDone i.core (s.issueAt i [rS a] [rS d] none) 2 waited [rS d] (fun k => k.setS d 0)
          (messageSent (s.env i.tile.val) i.core (s.physAt i ((s.coreAt i).getS a).toNat) tag
            ((s.tile i.tile.val).atCycle (s.issueAt i [rS a] [rS d] none))) :=
  (svSendOp_issues waited ready ok message).trans
    ((sendBody_takes (t := (s.tile i.tile.val).atCycle _) waited _ legal free few room).trans
      (sendTake_message (t := (s.tile i.tile.val).atCycle _) waited _ _ tag _ message ready.parity ok.noWatch))

theorem svSendOp_holds (full : freeEntries ((s.tile i.tile.val).sv i.core) = []) :
    svSendOp (s.env i.tile.val) i.core d a 0 waited (s.tile i.tile.val)
      = TOut.of (vHold i.core wkSend (s.issueAt i [rS a] [rS d] none) waited
          ((s.tile i.tile.val).atCycle (s.issueAt i [rS a] [rS d] none))) :=
  (svSendOp_issues waited ready ok message).trans (sendBody_full (t := (s.tile i.tile.val).atCycle _) waited _ legal full)

end
end

/-! ## SV.RECV -/

/-- The tile after the oldest line has left the queue of its core and landed at `p`. -/
def lineReceived (c : CoreIx) (p : Nat) (v : V512) (rest : List (Nat × V512)) (acc : U64) (t : Tile) : Tile :=
  { t.setSv c { t.sv c with queue := rest } with sp := t.sp.writeBytes p (lineBytes v), mirrorAcc := acc }

section
variable {c : CoreIx} {a d : Reg} (waited t0 : Nat) {t : Tile}

theorem recvBody_empty (empty : (t.sv c).queue = []) :
    recvBody c d a waited t0 t
      = if ((t.core c).getS d).toNat % 2 ^ 32 ≠ 0 ∧ ((t.core c).getS d).toNat % 2 ^ 32 ≤ waited then
          (vDone c t0 2 waited [rS d] (fun k => k.setS d 1) t).bump (ck 0x9120 4) 1
        else TOut.of (vHold c wkRecv t0 waited t) := by
  simp only [recvBody, empty]
  rfl

theorem recvBody_line {e : Nat × V512} {rest : List (Nat × V512)} (queue : (t.sv c).queue = e :: rest) (parity : t.spBad = [])
    (noWatch : ∀ n : Fin 2, (t.wps[n]).enable = false) (fits : (t.tsk.base + ((t.core c).getS a).toNat) % 64 + 64 ≤ 64) :
    ∃ acc, recvBody c d a waited t0 t
      = vDone c t0 2 waited [rS d] (fun k => k.setS d 0) (lineReceived c (t.tsk.base + ((t.core c).getS a).toNat) e.2 rest acc t) := by
  obtain ⟨acc, written, -⟩ := dataWrite_plain false (t.tsk.base + ((t.core c).getS a).toNat) (t0 + 2) (lineBytes e.2)
    (t.setSv c { t.sv c with queue := rest }) parity noWatch (by rwa [lineBytes, leOfNat_length])
  refine ⟨acc, ?_⟩
  simp only [recvBody, queue, written]
  rfl

end

section
variable {s : State} {i : CoreAt} {a d : Reg} (waited : Nat) (ready : CoreReady s i [rS a, rS d] [rS d] none)
  (ok : DataOk s i ((s.coreAt i).getS a).toNat 64)
include ready ok

theorem svRecvOp_issues :
    svRecvOp i.core d a 0 waited (s.tile i.tile.val)
      = recvBody i.core d a waited (s.issueAt i [rS a, rS d] [rS d] none)
          ((s.tile i.tile.val).atCycle (s.issueAt i [rS a, rS d] [rS d] none)) :=
  vGo_ready ready.tile (congrArg pickCause (dataCauses_ok ok _))

theorem svRecvOp_limit (empty : ((s.tile i.tile.val).sv i.core).queue = []) (limited : ((s.coreAt i).getS d).toNat % 2 ^ 32 ≠ 0)
    (expired : ((s.coreAt i).getS d).toNat % 2 ^ 32 ≤ waited) :
    svRecvOp i.core d a 0 waited (s.tile i.tile.val)
      = (vDone i.core (s.issueAt i [rS a, rS d] [rS d] none) 2 waited [rS d] (fun k => k.setS d 1)
          ((s.tile i.tile.val).atCycle (s.issueAt i [rS a, rS d] [rS d] none))).bump (ck 0x9120 4) 1 :=
  (svRecvOp_issues waited ready ok).trans
    ((recvBody_empty waited _ (t := (s.tile i.tile.val).atCycle _) empty).trans (if_pos ⟨limited, expired⟩))

theorem svRecvOp_holds (empty : ((s.tile i.tile.val).sv i.core).queue = [])
    (waits : ((s.coreAt i).getS d).toNat % 2 ^ 32 = 0 ∨ waited < ((s.coreAt i).getS d).toNat % 2 ^ 32) :
    svRecvOp i.core d a 0 waited (s.tile i.tile.val)
      = TOut.of (vHold i.core wkRecv (s.issueAt i [rS a, rS d] [rS d] none) waited
          ((s.tile i.tile.val).atCycle (s.issueAt i [rS a, rS d] [rS d] none))) :=
  (svRecvOp_issues waited ready ok).trans
    ((recvBody_empty waited _ (t := (s.tile i.tile.val).atCycle _) empty).trans
      (if_neg fun ⟨limited, expired⟩ => waits.elim limited (not_lt.mpr expired)))

theorem svRecvOp_lands {e : Nat × V512} {rest : List (Nat × V512)} (queue : ((s.tile i.tile.val).sv i.core).queue = e :: rest) :
    ∃ acc, svRecvOp i.core d a 0 waited (s.tile i.tile.val)
      = vDone i.core (s.issueAt i [rS a, rS d] [rS d] none) 2 waited [rS d] (fun k => k.setS d 0)
          (lineReceived i.core (s.physAt i ((s.coreAt i).getS a).toNat) e.2 rest acc
            ((s.tile i.tile.val).atCycle (s.issueAt i [rS a, rS d] [rS d] none))) := by
  obtain ⟨acc, received⟩ := recvBody_line (d := d) (a := a) waited (s.issueAt i [rS a, rS d] [rS d] none)
    (t := (s.tile i.tile.val).atCycle (s.issueAt i [rS a, rS d] [rS d] none)) queue ready.parity ok.noWatch (ok.within_line (by decide))
  exact ⟨acc, (svRecvOp_issues waited ready ok).trans received⟩

end

/-! ## TALLY.RD, SENS.RD and LNK.RD -/

section
variable {s : State} {i : CoreAt} {a d : Reg} (waited : Nat)

theorem tallyRdOp_ready (tally : U64) (ready : CoreReady s i [] [rS d] none) :
    tallyRdOp i.core d 0 waited tally (s.tile i.tile.val)
      = vDone i.core (s.issueAt i [] [rS d] none) 8 (min waited 16) [rS d] (fun k => k.setS d tally)
          ((s.tile i.tile.val).atCycle (s.issueAt i [] [rS d] none)) :=
  vGo_ready ready.tile rfl

theorem sensRdOp_ready (reading : U64 → U64) (ready : CoreReady s i [rS a] [rS d] none) :
    sensRdOp i.core d a 0 waited reading (s.tile i.tile.val)
      = vDone i.core (s.issueAt i [rS a] [rS d] none) 16 (min waited 4080) [rS d] (fun k => k.setS d (reading (k.getS a)))
          ((s.tile i.tile.val).atCycle (s.issueAt i [rS a] [rS d] none)) :=
  vGo_ready ready.tile rfl

theorem lnkRdOp_ready (answered : Bool) (status : Nat → U64) (ready : CoreReady s i [rS a] [rS d] none) :
    lnkRdOp i.core d a 0 answered waited status (s.tile i.tile.val)
      = vDone i.core (s.issueAt i [rS a] [rS d] none) 64 waited [rS d]
          (fun k => k.setS d (if answered then status ((k.getS a).toNat % 64) else BitVec.allOnes 64))
          ((s.tile i.tile.val).atCycle (s.issueAt i [rS a] [rS d] none)) :=
  vGo_ready ready.tile rfl

end

/-- Settles O10: a message takes the first free entry and one place at the router, the oldest line lands where s[A] says, and the reads of the device
end after their minimum and what they waited; whatever cannot go on holds. -/
theorem serviceMessages : Obligations.ServiceMessages := by
  unfold Obligations.ServiceMessages
  refine ⟨⟨fun s i d a waited tag rest hI ready ok legal message => ⟨?takes, fun full => ?sendHolds⟩,
    fun s i d a waited hI canonical ready ok =>
      ⟨fun e rest queue => ?lands, fun empty limited expired => ?limit, fun empty waits => ?recvHolds⟩⟩,
    fun s i d waited hI ready => ?tally, fun s i d a waited hI ready => ?sensor, fun s i d a answered waited hI ready => ?link⟩
  case takes =>
    rintro ⟨free, few, room⟩
    obtain ⟨u, hu, result, k, tile⟩ := onTile_vDone (f := fun e => svSendOp e i.core d a 0 waited) hI ready.grid
      (svSendOp_takes waited ready ok message legal free few room) (vDone_plain _ _ _ _ _ _ _) rfl rfl rfl
    refine ⟨u, (exec_svSend _ _ _ _ _ _).trans hu, result, ?_⟩
    have queues := messageSent_sv (s.env i.tile.val) i.core (s.physAt i ((s.coreAt i).getS a).toNat) tag
      ((s.tile i.tile.val).atCycle (s.issueAt i [rS a] [rS d] none))
    rw [tile]
    exact ⟨rfl, congrArg SvCore.reqs queues, congrArg SvCore.nextSeq queues, messageSent_ins_length _ _ _ _ _⟩
  case sendHolds =>
    rw [exec_svSend, execSvSend]
    exact onTile_holds (f := fun e => svSendOp e i.core d a 0 waited) hI ready.grid (svSendOp_holds waited ready ok message legal full) (fun _ => rfl) rfl
  case lands =>
    obtain ⟨acc, effect⟩ := svRecvOp_lands waited ready ok queue
    obtain ⟨u, hu, result, k, tile⟩ := onTile_vDone (f := fun _ => svRecvOp i.core d a 0 waited) hI ready.grid effect
      (vDone_plain _ _ _ _ _ _ _) rfl rfl rfl
    refine ⟨u, (exec_svRecv _ _ _ _ _ _).trans hu, result, ?_⟩
    have bytes := Mem.readBytes_writeBytes (s.tile i.tile.val).sp (s.physAt i ((s.coreAt i).getS a).toNat) (lineBytes e.2) canonical
    rw [lineBytes, leOfNat_length] at bytes
    rw [tile]
    exact ⟨bytes, congrArg SvCore.queue (Tile.sv_setSv _ _ _)⟩
  case limit =>
    obtain ⟨u, hu, result, -⟩ := onTile_vDone (f := fun _ => svRecvOp i.core d a 0 waited) hI ready.grid (svRecvOp_limit waited ready ok empty limited expired)
      ((vDone_plain _ _ _ _ _ _ _).bump_ (by decide) (by decide)) (TOut.bump_tile _ _ _) rfl rfl
    exact ⟨u, (exec_svRecv _ _ _ _ _ _).trans hu, result⟩
  case recvHolds =>
    rw [exec_svRecv, execSvRecv]
    exact onTile_holds hI ready.grid (svRecvOp_holds waited ready ok empty waits) (fun _ => rfl) rfl
  case tally =>
    rw [exec_tallyRd, execTallyRd]
    exact onTile_waited hI ready.grid (tallyRdOp_ready waited _ ready) rfl rfl
  case sensor =>
    obtain ⟨u, hu, result⟩ := onTile_waited (s := { s with draws := s.draws + 1 }) (f := fun _ => sensRdOp i.core d a 0 waited (sensorReading s)) hI ready.grid
      (sensRdOp_ready (s := s) waited (sensorReading s) ready) rfl rfl
    exact ⟨u, (exec_sensRd _ _ _ _ _ _).trans hu, congrArg State.draws result.1.1, result⟩
  case link =>
    rw [exec_lnkRd, execLnkRd]
    exact onTile_waited hI ready.grid (lnkRdOp_ready waited answered _ ready) rfl rfl

end Sys2Proof.Machine
end

section
namespace Sys2Proof.Machine

/-! # SYNC and STEP.END (R131, R132) -/

/-! ## The cores of a SYNC group -/

theorem syncReady_iff {mask : BitVec 4} {t : Tile} :
    syncReady mask t = true ↔ ∀ c : CoreIx, mask.getLsbD c.val = true → ∃ n, (t.core c).run = .sync mask n := by
  unfold syncReady
  simp only [List.all_eq_true, List.mem_finRange, forall_const, Bool.or_eq_true, Bool.not_eq_true']
  refine forall_congr' fun c => ?_
  cases masked : mask.getLsbD c.val
  · simp
  · cases run : (t.core c).run
    case sync m n => simp
    all_goals simp

/-- An update of several cores by one function. -/
theorem core_foldl_updCore (p : CoreIx → Bool) (f : CoreSt → CoreSt) {l : List CoreIx} (once : l.Nodup) (t : Tile) (c : CoreIx) :
    (l.foldl (fun t k => if p k then t.updCore k f else t) t).core c = if c ∈ l ∧ p c = true then f (t.core c) else t.core c := by
  induction l generalizing t with
  | nil => simp
  | cons k l ih =>
    obtain ⟨fresh, once⟩ := List.nodup_cons.mp once
    rw [List.foldl_cons, ih once]
    by_cases same : c = k
    · subst same
      cases p c <;> simp [fresh, updCore_at]
    · have kept : (if p k = true then t.updCore k f else t).core c = t.core c := by
        split
        · exact updCore_ne _ _ _ _ same
        · rfl
      simp [kept, same]

/-- A core goes on from its SYNC at a cycle. -/
def CoreSt.synced (nxt : Nat) (k : CoreSt) : CoreSt := { k with run := .running, pc := k.pc + 1, now := nxt, wdog := 0 }

theorem core_syncRelease (mask : BitVec 4) (t : Tile) (c : CoreIx) :
    (syncRelease mask t).core c = if mask.getLsbD c.val = true then (t.core c).synced (syncLast mask t + 1) else t.core c := by
  have released := core_foldl_updCore (fun k => mask.getLsbD k.val) (CoreSt.synced (syncLast mask t + 1)) (List.nodup_finRange 4) t c
  simp only [List.mem_finRange, true_and] at released
  exact released

/-- A value that one core attains and none exceeds is the latest over the cores. -/
theorem foldl_max_cores {v : CoreIx → Nat} {m : Nat} {c : CoreIx} (upper : ∀ k, v k ≤ m) (attained : v c = m) :
    (List.finRange 4).foldl (fun x k => max x (v k)) 0 = m := by
  have each : (List.finRange 4).foldl (fun x k => max x (v k)) 0 = max (max (max (max 0 (v 0)) (v 1)) (v 2)) (v 3) := rfl
  have below := And.intro (And.intro (upper 0) (upper 1)) (And.intro (upper 2) (upper 3))
  have reached : m ≤ max (max (max (max 0 (v 0)) (v 1)) (v 2)) (v 3) := by
    rw [← attained]
    fin_cases c <;> simp
  omega

/-- The cycle of a core's SYNC, where the core is in the group. -/
def syncSince (mask : BitVec 4) (t : Tile) (c : CoreIx) : Nat :=
  if mask.getLsbD c.val then (match (t.core c).run with | .sync _ n => n | _ => 0) else 0

theorem syncLast_eq_foldl (mask : BitVec 4) (t : Tile) :
    syncLast mask t = (List.finRange 4).foldl (fun x c => max x (syncSince mask t c)) 0 := by
  unfold syncLast
  congr 1
  funext x c
  unfold syncSince
  cases mask.getLsbD c.val
  · simp
  · cases (t.core c).run <;> simp

theorem syncLast_eq {mask : BitVec 4} {t : Tile} {m : Nat} {c : CoreIx}
    (group : ∀ k : CoreIx, mask.getLsbD k.val = true → ∃ n, n ≤ m ∧ (t.core k).run = .sync mask n)
    (masked : mask.getLsbD c.val = true) (last : (t.core c).run = .sync mask m) : syncLast mask t = m := by
  rw [syncLast_eq_foldl]
  refine foldl_max_cores (c := c) (fun k => ?_) ?_
  · cases inside : mask.getLsbD k.val
    · rw [syncSince, inside]
      exact Nat.zero_le m
    · obtain ⟨n, early, run⟩ := group k inside
      simpa [syncSince, inside, run] using early
  · simp [syncSince, masked, last]

/-! ## SYNC of a ready core -/

section
variable {s : State} {i : CoreAt} {mask : BitVec 4}

/-- The tile in which core `c` holds in SYNC since cycle `t0`. -/
def Tile.syncing (t : Tile) (c : CoreIx) (mask : BitVec 4) (t0 : Nat) : Tile := (t.atCycle t0).updCore c fun k => { k with run := .sync mask t0 }

theorem Tile.syncing_core (t : Tile) (c : CoreIx) (mask : BitVec 4) (t0 : Nat) :
    (t.syncing c mask t0).core c = { t.core c with run := .sync mask t0 } := updCore_at _ _ _

theorem Tile.syncing_core_ne (t : Tile) {c d : CoreIx} (mask : BitVec 4) (t0 : Nat) (h : d ≠ c) :
    (t.syncing c mask t0).core d = t.core d := updCore_ne _ _ _ _ h

theorem syncOp_ready (ready : CoreReady s i [] [] none) (own : mask.getLsbD i.core.val = true) :
    syncOp i.core mask 0 (s.tile i.tile.val)
      = TOut.of (if syncReady mask ((s.tile i.tile.val).syncing i.core mask (s.issueAt i [] [] none))
          then syncRelease mask ((s.tile i.tile.val).syncing i.core mask (s.issueAt i [] [] none))
          else (s.tile i.tile.val).syncing i.core mask (s.issueAt i [] [] none)) := by
  refine (coreGo_ready ready.tile ?_).trans rfl
  simp only [own]
  rfl

theorem syncOp_holds (ready : CoreReady s i [] [] none) (own : mask.getLsbD i.core.val = true)
    (missing : ∃ c : CoreIx, c ≠ i.core ∧ mask.getLsbD c.val = true ∧ ∀ n, ((s.tile i.tile.val).core c).run ≠ .sync mask n) :
    syncOp i.core mask 0 (s.tile i.tile.val) = TOut.of ((s.tile i.tile.val).syncing i.core mask (s.issueAt i [] [] none)) := by
  rw [syncOp_ready ready own, if_neg]
  rw [syncReady_iff]
  intro all
  obtain ⟨c, other, masked, absent⟩ := missing
  obtain ⟨n, run⟩ := all c masked
  rw [Tile.syncing_core_ne _ _ _ other] at run
  exact absent n run

/-- The last core of a group releases it, and every core of the group goes on in the next cycle. -/
theorem syncOp_releases (ready : CoreReady s i [] [] none) (own : mask.getLsbD i.core.val = true)
    (group : ∀ c : CoreIx, c ≠ i.core → mask.getLsbD c.val = true →
      ∃ n, n ≤ s.issueAt i [] [] none ∧ ((s.tile i.tile.val).core c).run = .sync mask n) :
    ∃ t, syncOp i.core mask 0 (s.tile i.tile.val) = TOut.of t ∧ ∀ c, t.core c =
      if mask.getLsbD c.val = true then
        (((s.tile i.tile.val).syncing i.core mask (s.issueAt i [] [] none)).core c).synced (s.issueAt i [] [] none + 1)
      else ((s.tile i.tile.val).syncing i.core mask (s.issueAt i [] [] none)).core c := by
  have all : ∀ c : CoreIx, mask.getLsbD c.val = true →
      ∃ n, n ≤ s.issueAt i [] [] none ∧ (((s.tile i.tile.val).syncing i.core mask (s.issueAt i [] [] none)).core c).run = .sync mask n := by
    intro c masked
    by_cases same : c = i.core
    · exact ⟨_, le_rfl, by rw [same, Tile.syncing_core]⟩
    · rw [Tile.syncing_core_ne _ _ _ same]
      exact group c same masked
  have last : syncLast mask ((s.tile i.tile.val).syncing i.core mask (s.issueAt i [] [] none)) = s.issueAt i [] [] none :=
    syncLast_eq all own (by rw [Tile.syncing_core])
  have complete : syncReady mask ((s.tile i.tile.val).syncing i.core mask (s.issueAt i [] [] none)) = true :=
    syncReady_iff.mpr fun c masked => (all c masked).imp fun n held => held.2
  refine ⟨_, (syncOp_ready ready own).trans (by rw [if_pos complete]), fun c => ?_⟩
  rw [core_syncRelease, last]

end

/-! ## The end of a step -/

/-- The cycle of a core's STEP.END. -/
def CoreSt.endedAt (k : CoreSt) : Option Nat := match k.run with | .ended n => some n | _ => none

theorem arriveIfEnded_eq (t : Tile) :
    arriveIfEnded t = if ((List.finRange 4).map fun c : Fin 4 => (t.core c).endedAt).all Option.isSome ∧ t.arrivedAt.isNone then
      { t with arrivedAt := some (((List.finRange 4).map fun c : Fin 4 => (t.core c).endedAt).foldl (fun m n => max m (n.getD 0)) 0 + 1) } else t := rfl

/-- A tile one of whose cores has not ended does not arrive. -/
theorem arriveIfEnded_early {t : Tile} {c : CoreIx} (going : (t.core c).endedAt = none) : arriveIfEnded t = t := by
  rw [arriveIfEnded_eq, if_neg]
  rintro ⟨all, -⟩
  have := List.all_eq_true.mp all none (List.mem_map.mpr ⟨c, List.mem_finRange c, going⟩)
  simp at this

theorem arriveIfEnded_last {t : Tile} {m : Nat} {c : CoreIx} (all : ∀ k, ∃ n, n ≤ m ∧ (t.core k).endedAt = some n)
    (last : (t.core c).endedAt = some m) (fresh : t.arrivedAt = none) : arriveIfEnded t = { t with arrivedAt := some (m + 1) } := by
  have ended : ((List.finRange 4).map fun c : Fin 4 => (t.core c).endedAt).all Option.isSome = true := by
    simp only [List.all_map, List.all_eq_true, Function.comp_apply]
    intro k _
    obtain ⟨n, -, at_⟩ := all k
    rw [at_, Option.isSome_some]
  have latest : ((List.finRange 4).map fun c : Fin 4 => (t.core c).endedAt).foldl (fun m n => max m (n.getD 0)) 0 = m := by
    rw [List.foldl_map]
    refine foldl_max_cores (v := fun k => ((t.core k).endedAt).getD 0) (c := c) (fun k => ?_) ?_
    · obtain ⟨n, early, at_⟩ := all k
      rw [at_]
      exact early
    · rw [last]
      rfl
  rw [arriveIfEnded_eq, if_pos ⟨ended, by rw [fresh]; rfl⟩, latest]

section
variable {s : State} {i : CoreAt} {a : Reg}

/-- A core that has issued STEP.END in its issue cycle. -/
def CoreSt.stepEnded (t0 : Nat) (k : CoreSt) : CoreSt := { k with run := .ended t0, pc := k.pc + 1, now := t0 + 1 }

/-- The tile after STEP.END of core `c` in cycle `t0`, where its unit has finished by cycle `done`. -/
def stepEndTile (c : CoreIx) (v t0 done : Nat) (t : Tile) : Tile :=
  let t1 := t.updCore c fun k => { k with run := .ended (max t0 (done - 1)), pc := k.pc + 1, now := max (t0 + 1) done }
  arriveIfEnded (if c = 0 then { t1 with next := some (v % 256, decide (256 ≤ v)) } else t1)

/-- With nothing to wait for, the step of the core ends in its issue cycle. -/
theorem stepEndTile_idle (c : CoreIx) (v t0 : Nat) (t : Tile) :
    stepEndTile c v t0 t0 t
      = arriveIfEnded (if c = 0 then { t.updCore c (CoreSt.stepEnded t0) with next := some (v % 256, decide (256 ≤ v)) }
          else t.updCore c (CoreSt.stepEnded t0)) := by
  have ends : max t0 (t0 - 1) = t0 := by omega
  have next : max (t0 + 1) t0 = t0 + 1 := by omega
  simp only [stepEndTile, ends, next]
  rfl

/-- STEP.END of c0 with nothing in flight in the frame. -/
theorem stepEndOp_c0 (ready : CoreReady s i [rS a] [] none) (c0 : i.core = 0) (legal : ((s.coreAt i).getS a).toNat < 512) :
    stepEndOp i.core a 0 (s.tile i.tile.val)
      = TOut.of (arriveIfEnded { (((s.tile i.tile.val).atCycle (s.issueAt i [rS a] [] none)).updCore i.core
            (CoreSt.stepEnded (s.issueAt i [rS a] [] none))) with
          next := some (((s.coreAt i).getS a).toNat % 256, decide (256 ≤ ((s.coreAt i).getS a).toNat)) }) := by
  have done := frameFinish_idle (s.issueAt i [rS a] [] none) (t := (s.tile i.tile.val).atCycle (s.issueAt i [rS a] [] none)) ready.idle
  rw [Tile.atCycle_atCycle] at done
  refine (coreGo_ready ready.tile ?_).trans ((congrArg (fun f : Nat × TOut =>
    f.2.upd (stepEndTile i.core ((s.coreAt i).getS a).toNat (s.issueAt i [rS a] [] none) f.1)) ((if_pos c0).trans done)).trans ?_)
  · rw [if_pos c0]
    exact congrArg (fun b => pickCause (causeIf b 4)) (decide_eq_false (not_le.mpr legal))
  · exact congrArg TOut.of ((stepEndTile_idle _ _ _ _).trans (congrArg arriveIfEnded (if_pos c0)))

/-- STEP.END of c0 as the last core of its tile. -/
theorem stepEndOp_last (ready : CoreReady s i [rS a] [] none) (c0 : i.core = 0) (legal : ((s.coreAt i).getS a).toNat < 512)
    (fresh : (s.tile i.tile.val).arrivedAt = none)
    (others : ∀ c : CoreIx, c ≠ 0 → ∃ n, n ≤ s.issueAt i [rS a] [] none ∧ ((s.tile i.tile.val).core c).run = .ended n) :
    stepEndOp i.core a 0 (s.tile i.tile.val)
      = TOut.of { (((s.tile i.tile.val).atCycle (s.issueAt i [rS a] [] none)).updCore i.core
            (CoreSt.stepEnded (s.issueAt i [rS a] [] none))) with
          next := some (((s.coreAt i).getS a).toNat % 256, decide (256 ≤ ((s.coreAt i).getS a).toNat))
          arrivedAt := some (s.issueAt i [rS a] [] none + 1) } := by
  have own : ((((s.tile i.tile.val).atCycle (s.issueAt i [rS a] [] none)).updCore i.core
      (CoreSt.stepEnded (s.issueAt i [rS a] [] none))).core i.core).endedAt = some (s.issueAt i [rS a] [] none) := by
    rw [updCore_at]
    rfl
  have all : ∀ k, ∃ n, n ≤ s.issueAt i [rS a] [] none ∧ ((((s.tile i.tile.val).atCycle (s.issueAt i [rS a] [] none)).updCore i.core
      (CoreSt.stepEnded (s.issueAt i [rS a] [] none))).core k).endedAt = some n := by
    intro k
    by_cases same : k = i.core
    · exact ⟨_, le_rfl, by rw [same, own]⟩
    · obtain ⟨n, early, run⟩ := others k (c0 ▸ same)
      exact ⟨n, early, by rw [updCore_ne _ _ _ _ same, Tile.atCycle_core, CoreSt.endedAt, run]⟩
  exact (stepEndOp_c0 ready c0 legal).trans (congrArg TOut.of (arriveIfEnded_last all own fresh))

/-- STEP.END of c1 or c2, whose field A is s0. -/
theorem stepEndOp_c1_c2 (ready : CoreReady s i [rS 0] [] none) (inner : i.core = 1 ∨ i.core = 2) :
    stepEndOp i.core 0 0 (s.tile i.tile.val)
      = TOut.of (arriveIfEnded (((s.tile i.tile.val).atCycle (s.issueAt i [rS 0] [] none)).updCore i.core
            (CoreSt.stepEnded (s.issueAt i [rS 0] [] none)))) := by
  have not_c0 : i.core ≠ 0 := by rcases inner with c | c <;> rw [c] <;> decide
  have not_c3 : i.core ≠ 3 := by rcases inner with c | c <;> rw [c] <;> decide
  refine (coreGo_ready ready.tile ?_).trans ((congrArg (fun f : Nat × TOut =>
    f.2.upd (stepEndTile i.core ((s.coreAt i).getS 0).toNat (s.issueAt i [rS 0] [] none) f.1)) ((if_neg not_c0).trans (if_neg not_c3))).trans ?_)
  · rw [if_neg not_c0]
    rfl
  · exact congrArg TOut.of ((stepEndTile_idle _ _ _ _).trans (congrArg arriveIfEnded (if_neg not_c0)))

end

/-- Settles O11: a SYNC holds until its group is complete and then releases all of it, and a tile arrives with the last STEP.END of its cores. -/
theorem syncAndStepEnd : Obligations.SyncAndStepEnd := by
  unfold Obligations.SyncAndStepEnd
  refine ⟨fun s i mask hI ready own missing => ?holds, fun s i mask hI ready own group => ?releases,
    fun s i a hI ready c0 legal fresh others => ?last, fun s i hI ready inner c0 => ?early⟩
  case holds =>
    obtain ⟨u, hu, only, tile⟩ := onTile_only (f := fun _ => syncOp i.core mask 0) ready.grid hI (syncOp_holds ready own missing) (.of_ _)
    rw [TOut.of_tile, Tile.syncing] at tile
    have core := coreAt_of_updCore tile
    refine ⟨u, (exec_sync _ _ _ _).trans hu, restOfTile_of_updCore only tile (fun _ _ => rfl) rfl, ?_⟩
    rw [keepsS, keepsV, core]
    exact ⟨rfl, rfl, fun _ => rfl, rfl⟩
  case releases =>
    obtain ⟨t, effect, cores⟩ := syncOp_releases ready own group
    obtain ⟨u, hu, only, tile⟩ := onTile_only (f := fun _ => syncOp i.core mask 0) ready.grid hI effect (.of_ _)
    refine ⟨u, (exec_sync _ _ _ _).trans hu, only, fun c masked => ?_, fun c outside => ?_⟩
    · rw [tile, TOut.of_tile, cores, if_pos masked]
      refine ⟨rfl, rfl, congrArg (· + 1) ?_⟩
      by_cases same : c = i.core
      · rw [same, Tile.syncing_core]
      · rw [Tile.syncing_core_ne _ _ _ same]
    · have other : c ≠ i.core := by
        rintro rfl
        rw [own] at outside
        cases outside
      rw [tile, TOut.of_tile, cores, if_neg (by rw [outside]; exact Bool.false_ne_true), Tile.syncing_core_ne _ _ _ other]
  case last =>
    obtain ⟨u, hu, only, tile⟩ := onTile_only (f := fun _ => stepEndOp i.core a 0) ready.grid hI (stepEndOp_last ready c0 legal fresh others) (.of_ _)
    rw [TOut.of_tile] at tile
    refine ⟨u, (exec_stepEnd _ _ _ _).trans hu, ⟨only, fun c other => ?_, ?_⟩, ?_, ?_, ?_⟩
    · rw [tile]
      exact updCore_ne _ _ _ _ other
    · rw [tile]
      rfl
    · rw [tile]
    · rw [State.coreAt, tile]
      exact congrArg CoreSt.run (updCore_at _ _ _)
    · rw [tile]
  case early =>
    have going : ((((s.tile i.tile.val).atCycle (s.issueAt i [rS 0] [] none)).updCore i.core
        (CoreSt.stepEnded (s.issueAt i [rS 0] [] none))).core 0).endedAt = none := by
      rw [updCore_ne _ _ _ _ (by rcases inner with c | c <;> rw [c] <;> decide), Tile.atCycle_core, CoreSt.endedAt, c0]
    have effect := stepEndOp_c1_c2 ready inner
    rw [arriveIfEnded_early going] at effect
    obtain ⟨u, hu, only, tile⟩ := onTile_only (f := fun _ => stepEndOp i.core 0 0) ready.grid hI effect (.of_ _)
    rw [TOut.of_tile] at tile
    refine ⟨u, (exec_stepEnd _ _ _ _).trans hu, restOfTile_of_updCore only tile (fun _ _ => rfl) rfl, ?_, ?_⟩
    · rw [coreAt_of_updCore tile]
      rfl
    · rw [tile]
      exact ⟨rfl, rfl⟩

end Sys2Proof.Machine
end

section
namespace Sys2Proof.Machine

/-! # Traps of a core (R137, R138) -/

/-! ## What a trap leaves in its tile -/

theorem Tile.core_stop (t : Tile) (cy : Nat) (c : CoreIx) : (t.stop cy).core c = (t.core c).endWait := by
  simp [Tile.core, Tile.stop]

/-- The record of a trap (R139). -/
def trapRecord (cause major cy : Nat) (k : CoreSt) : Nat := cy % 2 ^ 32 * 2 ^ 32 + k.pc % 65536 * 2 ^ 16 + major * 2 ^ 10 + cause

/-- A core that has trapped. -/
def CoreSt.trappedAt (cause major cy : Nat) (k : CoreSt) : CoreSt := { k with etrap := trapRecord cause major cy k, run := .stopped }

theorem core_trapTile (c : CoreIx) (cause major cy : Nat) (t : Tile) :
    (trapTile c cause major cy t).core c = (t.core c).trappedAt cause major cy := by
  have stopped := updCore_at t c fun k => { k with etrap := trapRecord cause major cy (t.core c), run := .stopped }
  exact (Tile.core_stop _ _ _).trans (congrArg CoreSt.endWait stopped)

theorem coreTrap_plain (c : CoreIx) (cause major cy : Nat) (t : Tile) : PlainBumps (coreTrap c cause major cy t) :=
  (PlainBumps.of_ _).bump_ (by decide) (by decide)

section
variable {s : State} {i : CoreAt}

/-- An operation that traps its core in the issue cycle. -/
theorem onTile_trapped {f : Tile → TOut} {cause major t0 : Nat} (hI : s.Inv) (grid : s.grid.hasTile i.tile.val = true)
    (effect : f (s.tile i.tile.val) = coreTrap i.core cause major t0 ((s.tile i.tile.val).atCycle t0)) (trap : cause ≠ 9) :
    ∃ u, onTile i.tile (fun _ => f) s = .next u ∧ trapped s u i cause major t0 := by
  obtain ⟨u, hu, only, tile⟩ := onTile_only (f := fun _ => f) grid hI effect (coreTrap_plain _ _ _ _ _)
  rw [coreTrap, TOut.bump_tile, TOut.of_tile] at tile
  have core : u.coreAt i = (s.coreAt i).trappedAt cause major t0 := by
    rw [State.coreAt, tile, core_trapTile]
    rfl
  refine ⟨u, hu, only, ?_⟩
  rw [keepsS, keepsV, core, tile]
  refine ⟨rfl, rfl, rfl, fun _ => rfl, rfl, rfl, ?_, Option.some_ne_none _⟩
  simp [trapTile, Tile.stop, trap]

/-! ## The cause of a data access -/

theorem loadOp_traps {a d : Reg} {imm : U16} {major n cause : Nat} {signed : Bool} (ready : CoreReady s i [rS a] [rS d] none)
    (picked : pickCause (dataCauses i.core (s.offAt i a imm) n (s.tile i.tile.val)) = cause) (met : cause ≠ 0) :
    loadOp i.core major d a imm n signed (s.tile i.tile.val)
      = coreTrap i.core cause major (s.issueAt i [rS a] [rS d] none) ((s.tile i.tile.val).atCycle (s.issueAt i [rS a] [rS d] none)) := by
  subst picked
  exact coreGo_trap ready.tile met

/-- The order of R138 among the conditions of a data access that is out of bound. -/
theorem pickCause_beyond : ∀ unaligned foreign denied : Bool,
    pickCause (causeIf true 2 ++ causeIf unaligned 3 ++ (if foreign = true then [1] else causeIf denied 6)) = 2 := by decide

section
variable {c : CoreIx} {o n : Nat} {t : Tile}

/-- A bound violation stands in place of a class or owner violation, and is the lowest with an alignment violation (R138). -/
theorem pickCause_bound (beyond : t.tsk.bound < o + n) : pickCause (dataCauses c o n t) = 2 := by
  have outside : t.inBound o n = false := decide_eq_false (not_le.mpr beyond)
  rw [dataCauses, outside]
  exact pickCause_beyond _ _ _

variable (within : o + n ≤ t.tsk.bound)
include within

theorem pickCause_alignment (odd : o % n ≠ 0) (cls : t.bankClass (bankOf (t.tsk.base + o)) = clsEcmet) : pickCause (dataCauses c o n t) = 3 := by
  have inside : t.inBound o n = true := decide_eq_true within
  rw [dataCauses, inside, bne_iff_ne.mpr odd, cls]
  cases t.bankOwner (bankOf (t.tsk.base + o)) != c.val || t.bankCode (bankOf (t.tsk.base + o)) <;> rfl

variable (aligned : o % n = 0)
include aligned

theorem pickCause_class (cls : t.bankClass (bankOf (t.tsk.base + o)) ≠ clsEcmet) : pickCause (dataCauses c o n t) = 1 := by
  have inside : t.inBound o n = true := decide_eq_true within
  rw [dataCauses, inside, aligned, bne_iff_ne.mpr cls]
  rfl

theorem pickCause_owner (cls : t.bankClass (bankOf (t.tsk.base + o)) = clsEcmet)
    (denied : t.bankOwner (bankOf (t.tsk.base + o)) ≠ c.val ∨ t.bankCode (bankOf (t.tsk.base + o)) = true) :
    pickCause (dataCauses c o n t) = 6 := by
  have inside : t.inBound o n = true := decide_eq_true within
  have bars : (t.bankOwner (bankOf (t.tsk.base + o)) != c.val || t.bankCode (bankOf (t.tsk.base + o))) = true := by simpa using denied
  rw [dataCauses, inside, aligned, cls]
  simp only [bars]
  rfl

end

/-! ## Reserved words and the watchdog -/

theorem reservedOp_traps {w : U32} (ready : CoreReady s i [] [] none) (reserved : reservedWord w = true) (core_class : fieldN w.toNat 26 6 ≠ 0x3A) :
    reservedOp i.core w (s.tile i.tile.val)
      = coreTrap i.core 4 (fieldN w.toNat 26 6) (s.issueAt i [] [] none) ((s.tile i.tile.val).atCycle (s.issueAt i [] [] none)) := by
  have traps : coreGo i.core (fieldN w.toNat 26 6) [] [] none (fun _ => [4]) (fun _ t => TOut.of t) (s.tile i.tile.val)
      = coreTrap i.core 4 (fieldN w.toNat 26 6) (s.issueAt i [] [] none) ((s.tile i.tile.val).atCycle (s.issueAt i [] [] none)) :=
    coreGo_trap ready.tile (by decide)
  simp only [reservedOp, reserved, core_class, Bool.not_true, Bool.false_eq_true, if_false, traps]

/-- What the watchdog does with a core that waits since cycle `t0` (R135, R271). -/
def watchdogTrap (c : CoreIx) (major t0 : Nat) (t : Tile) : TOut :=
  ((coreTrap c 9 major t0 t).upd fun t => (t.integrity 6 0 0 0 (t0 + 2 ^ 24)).stop (t0 + 2 ^ 24)).bump (ck 0x9120 3) 1

theorem watchdogOp_waiting {c : CoreIx} {t : Tile} {kind t0 : Nat} (waits : (t.core c).run = .waiting kind t0) (free : t.halted = false) :
    watchdogOp c t = watchdogTrap c (wkMajor kind) t0 t := by
  simp only [watchdogOp, waits, free]
  rfl

theorem watchdogTrap_plain (c : CoreIx) (major t0 : Nat) (t : Tile) : PlainBumps (watchdogTrap c major t0 t) := by
  have trap : PlainBumps ((coreTrap c 9 major t0 t).upd fun t => (t.integrity 6 0 0 0 (t0 + 2 ^ 24)).stop (t0 + 2 ^ 24)) :=
    coreTrap_plain c 9 major t0 t
  exact trap.bump_ (by decide) (by decide)

theorem watchdogTrap_tile (c : CoreIx) (major t0 : Nat) (t : Tile) :
    (watchdogTrap c major t0 t).tile = ((trapTile c 9 major t0 t).integrity 6 0 0 0 (t0 + 2 ^ 24)).stop (t0 + 2 ^ 24) := by
  simp [watchdogTrap, coreTrap, TOut.upd]

theorem core_watchdogTrap (c : CoreIx) (major t0 : Nat) (t : Tile) :
    (watchdogTrap c major t0 t).tile.core c = (t.core c).trappedAt 9 major t0 := by
  rw [watchdogTrap_tile, Tile.core_stop]
  exact congrArg CoreSt.endWait (core_trapTile c 9 major t0 t)

end

/-- Settles O12: each condition of a load leaves one cause that `pickCause` picks, and a trap records it and stops its tile. -/
theorem coreTraps : Obligations.CoreTraps := by
  unfold Obligations.CoreTraps
  refine ⟨fun s i d a imm hI ready => ⟨fun beyond => ?bound, fun within odd cls => ?alignment, fun within aligned cls => ?cls,
    fun within aligned cls denied => ?owner⟩, fun s i w hI ready reserved core_class => ?reserved, fun s i kind t0 hI grid waits free => ?watchdog⟩
  case bound => exact onTile_trapped hI ready.grid (loadOp_traps ready (pickCause_bound beyond) (by decide)) (by decide)
  case alignment => exact onTile_trapped hI ready.grid (loadOp_traps ready (pickCause_alignment within odd cls) (by decide)) (by decide)
  case cls => exact onTile_trapped hI ready.grid (loadOp_traps ready (pickCause_class within aligned cls) (by decide)) (by decide)
  case owner => exact onTile_trapped hI ready.grid (loadOp_traps ready (pickCause_owner within aligned cls denied) (by decide)) (by decide)
  case reserved => exact onTile_trapped hI ready.grid (reservedOp_traps ready reserved core_class) (by decide)
  case watchdog =>
    obtain ⟨u, hu, only, tile⟩ := onTile_only (f := fun _ => watchdogOp i.core) grid hI (watchdogOp_waiting waits free) (watchdogTrap_plain _ _ _ _)
    have core : u.coreAt i = (s.coreAt i).trappedAt 9 (wkMajor kind) t0 := by
      rw [State.coreAt, tile, core_watchdogTrap]
      rfl
    refine ⟨u, (exec_watchdogExpiry _ _).trans hu, only, ?_⟩
    rw [keepsS, core, tile, watchdogTrap_tile]
    refine ⟨rfl, rfl, rfl, fun _ => rfl, rfl, ?_⟩
    exact Bool.or_false _

end Sys2Proof.Machine
end

section
namespace Sys2Proof.Machine

/-! # The service agent of a tile (R161, R183 to R187) -/

/-- Nothing of the tile but its router. -/
def RouterOnly (t t' : Tile) : Prop := ∃ r, t' = { t with router := r }

theorem RouterOnly.updRouter (t : Tile) (f : RouterSt → RouterSt) : RouterOnly t (t.updRouter f) := ⟨_, rfl⟩

theorem RouterOnly.trans {t t' t'' : Tile} (h : RouterOnly t t') (h' : RouterOnly t' t'') : RouterOnly t t'' := by
  obtain ⟨r, rfl⟩ := h
  obtain ⟨r', rfl⟩ := h'
  exact ⟨r', rfl⟩

section
variable {s : State} {t : TileIx}

/-- An operation of the agent that only its router shows. -/
theorem onTile_onlyRouter {f : TEnv → Tile → TOut} {o : TOut} (hI : s.Inv) (grid : s.grid.hasTile t.val = true)
    (effect : f (s.env t.val) (s.tile t.val) = o) (plain : PlainBumps o) (router : RouterOnly (s.tile t.val) o.tile) :
    ∃ u, onTile t f s = .next u ∧ onlyRouter s u t ∧ u.tile t.val = o.tile := by
  obtain ⟨u, hu, only, tile⟩ := onTile_only grid hI effect plain
  exact ⟨u, hu, ⟨only, tile ▸ router⟩, tile⟩

/-! ## Hops (R183, R188) -/

theorem Tile.hopOut_updHop (t : Tile) (out ch : Nat) (f : HopOut → HopOut) : (t.updHop out ch f).hopOut out ch = f (t.hopOut out ch) :=
  Vector.getElem_set_self _

/-- A change of one tile's router is that and nothing else. -/
theorem updTile_onlyRouter {f : Tile → Tile} (hI : s.Inv) (router : RouterOnly (s.tile t.val) (f (s.tile t.val))) :
    onlyRouter s (s.updTile t.val f) t ∧ (s.updTile t.val f).tile t.val = f (s.tile t.val) := by
  have tile : (s.updTile t.val f).tile t.val = f (s.tile t.val) := State.tile_setTile_same s _ _ hI.2
  exact ⟨⟨⟨rfl, fun U hU => State.tile_setTile_ne s _ hU⟩, tile ▸ router⟩, tile⟩

/-- The router as a line leaves one of its inputs through an output: the output's credit is taken, and the packet holds it to its last line. -/
def lineLeaves (out ch i : Nat) (l : SvLine) (rest : List SvLine) (t : Tile) : Tile :=
  (t.updRouter fun r => { r with ins := SMap.put [] r.ins (i * 2 + ch) rest }).updHop out ch fun o =>
    { o with credits := o.credits - 1, lock := if l.last then none else some i, rr := i }

/-- The line stands in the receive buffer of its channel. -/
def lineDelivered (ch : Nat) (l : SvLine) (t : Tile) : Tile :=
  t.updRouter fun r => if ch = 0 then { r with rxReq := r.rxReq ++ [l] } else { r with rxRsp := r.rxRsp ++ [l] }

theorem lineDelivered_rxReq (l : SvLine) (t : Tile) :
    (lineDelivered 0 l t).router.rxReq = t.router.rxReq ++ [l] ∧ (lineDelivered 0 l t).router.rxRsp = t.router.rxRsp := ⟨rfl, rfl⟩

theorem lineDelivered_rxRsp (l : SvLine) (t : Tile) :
    (lineDelivered 1 l t).router.rxRsp = t.router.rxRsp ++ [l] ∧ (lineDelivered 1 l t).router.rxReq = t.router.rxReq := ⟨rfl, rfl⟩

theorem lineDelivered_hopOut (ch : Nat) (l : SvLine) (t : Tile) (out ch' : Nat) : (lineDelivered ch l t).hopOut out ch' = t.hopOut out ch' := by
  by_cases request : ch = 0
  · simp [lineDelivered, Tile.hopOut, Tile.updRouter, request]
  · simp [lineDelivered, Tile.hopOut, Tile.updRouter, request]

/-- A line that comes from the tile itself and is for it: it goes from the local input into the receive buffer. -/
theorem hopLine_local {T ch i : Nat} {l : SvLine} {rest : List SvLine} (first : ch = 0 → s.hopReady T 4 1 = false)
    (credit : 0 < ((s.tile T).hopOut 4 ch).credits) (input : s.hopInput T 4 ch = some i)
    (line : SMap.get ([] : List SvLine) (s.tile T).router.ins (i * 2 + ch) = l :: rest) (source : s.grid.portTo (T % 48) (T / 48) i = .local)
    (target : s.grid.portTo (T % 48) (T / 48) 4 = .local) :
    s.hopLine T 4 ch false = (s.updTile T (lineLeaves 4 ch i l rest)).updTile T (lineDelivered ch l) := by
  have ready : s.hopReady T 4 ch = true := by simp [State.hopReady, credit, input]
  have goes : ¬ ((ch = 0 ∧ s.hopReady T 4 1 = true) ∨ s.hopReady T 4 ch = false) := by
    rintro (⟨request, waits⟩ | waits)
    · exact absurd (first request) (by simp [waits])
    · simp [ready] at waits
  have intact : ({ l with poison := l.poison || false } : SvLine) = l := by simp
  have sameGrid : (s.updTile T (lineLeaves 4 ch i l rest)).grid.portTo (T % 48) (T / 48) 4 = .local := target
  have taken : (s.updTile T (lineLeaves 4 ch i l rest)).hopInto T 4 ch l false
      = ((s.updTile T (lineLeaves 4 ch i l rest)).updTile T (lineDelivered ch l), true) := by
    simp only [State.hopInto, sameGrid, intact]
    rfl
  simp only [State.hopLine, if_neg goes, input, line, source]
  exact congrArg (fun r : State × Bool => if r.2 then r.1 else r.1.updTile T _) taken

theorem lineLeaves_hopOut (out ch i : Nat) (l : SvLine) (rest : List SvLine) (t : Tile) :
    (lineLeaves out ch i l rest t).hopOut out ch
      = { t.hopOut out ch with credits := (t.hopOut out ch).credits - 1, lock := if l.last then none else some i, rr := i } :=
  Tile.hopOut_updHop _ out ch _

/-- What a delivered hop leaves of the device: its own tile's router, as the line has left its input and stands in the receive buffer. -/
theorem hopLine_onlyRouter {ch i : Nat} {l : SvLine} {rest : List SvLine} (hI : s.Inv) :
    onlyRouter s ((s.updTile t.val (lineLeaves 4 ch i l rest)).updTile t.val (lineDelivered ch l)) t
      ∧ ((s.updTile t.val (lineLeaves 4 ch i l rest)).updTile t.val (lineDelivered ch l)).tile t.val
          = lineDelivered ch l (lineLeaves 4 ch i l rest (s.tile t.val)) := by
  obtain ⟨⟨⟨left, others⟩, router⟩, tile⟩ := updTile_onlyRouter (f := lineLeaves 4 ch i l rest) hI ⟨_, rfl⟩
  have hI' : (s.updTile t.val (lineLeaves 4 ch i l rest)).Inv := ⟨hI.1, SMap.wf_put _ _ _ _ hI.2⟩
  obtain ⟨⟨⟨-, others'⟩, router'⟩, tile'⟩ := updTile_onlyRouter (f := lineDelivered ch l) hI' ⟨_, rfl⟩
  exact ⟨⟨⟨rfl, fun U hU => (others' U hU).trans (others U hU)⟩, RouterOnly.trans router router'⟩, tile'.trans (congrArg _ tile)⟩

/-! ## Messages and completions (R184 to R186) -/

theorem sendCompl_answers {e : TEnv} {req : V512} {status lines : Nat} (t : Tile) :
    SMap.get ([] : List SvLine) (sendCompl e req status lines t).router.ins 9 = SMap.get [] t.router.ins 9 ++ [complLine e req status lines] :=
  injectLines_ins 1 (List.cons_ne_nil _ _) t

/-- A message that has entered the queue of its core, and is answered. -/
def messageTaken (e : TEnv) (c : CoreIx) (entry : Nat) (v : V512) (t : Tile) : Tile :=
  sendCompl e v stDone 0 ((popRx 0 t).setSv c { t.sv c with queue := (t.sv c).queue ++ [(entry, v)] })

theorem msgArrive_taken {e : TEnv} {t : Tile} {l : SvLine} {rest : List SvLine} {entry : Nat} {others : List Nat} (line : t.router.rxReq = l :: rest)
    (between : t.router.rw = none) (message : hType (hdrOf l.data) = 1) (runs : t.job ≠ none)
    (free : freeEntries (t.sv (hDcore (hdrOf l.data))) = entry :: others) :
    msgArrive e t = TOut.of (messageTaken e (hDcore (hdrOf l.data)) entry l.data t) := by
  simp only [msgArrive, line, between, message, free, Option.isNone_iff_eq_none, runs]
  rfl

theorem messageTaken_sv (e : TEnv) (c : CoreIx) (entry : Nat) (v : V512) (t : Tile) :
    (messageTaken e c entry v t).sv c = { t.sv c with queue := (t.sv c).queue ++ [(entry, v)] } :=
  Tile.sv_setSv _ _ _

/-- A completion that frees the entry of its request and stands in its core's queue. -/
def completionTaken (c : CoreIx) (key : SvReq) (v : V512) (t : Tile) : Tile :=
  (popRx 1 t).setSv c { t.sv c with reqs := (t.sv c).reqs.filter (fun r => r ≠ key), queue := (t.sv c).queue ++ [(key.tag, v)] }

theorem complArrive_taken {t : Tile} {l : SvLine} {rest : List SvLine} (line : t.router.rxRsp = l :: rest) (runs : t.job ≠ none)
    (outstanding : (⟨hTag (hdrOf l.data), hSeq (hdrOf l.data)⟩ : SvReq) ∈ (t.sv (hDcore (hdrOf l.data))).reqs) :
    complArrive t = TOut.of (completionTaken (hDcore (hdrOf l.data)) ⟨hTag (hdrOf l.data), hSeq (hdrOf l.data)⟩ l.data t) := by
  have known := List.contains_iff_mem.mpr outstanding
  have busy : t.job.isNone = false := Option.isNone_eq_false_iff.mpr (Option.isSome_iff_ne_none.mpr runs)
  simp only [complArrive, line, known, busy]
  simp [completionTaken, bne, beq_eq_decide]

/-- The header of the completion that an agent makes for a request that has timed out. -/
def timeoutHeader (e : TEnv) (c : CoreIx) (q : SvReq) : Nat :=
  3 * 2 ^ 60 + e.x * 2 ^ 52 + e.y * 2 ^ 47 + c.val * 2 ^ 45 + e.x * 2 ^ 39 + e.y * 2 ^ 34 + q.seq * 2 ^ 10 + q.tag * 2 ^ 8

def timeoutLine (e : TEnv) (c : CoreIx) (q : SvReq) : V512 := BitVec.ofNat 512 (withChk (timeoutHeader e c q) + stTimeout * 2 ^ 64)

/-- The status of that completion is TIMEOUT (R185, R186): a header with its check filled in stays within 64 bits. -/
theorem timeoutLine_status {e : TEnv} {c : CoreIx} {q : SvReq} (column : e.x < 64) (row : e.y < 32) (tag : q.tag < 4) (seq : q.seq < 1024) :
    fieldN (timeoutLine e c q).toNat 64 16 = stTimeout := by
  have core := c.isLt
  have check : hchk (timeoutHeader e c q) < 255 := Nat.mod_lt _ (by decide)
  have header : timeoutHeader e c q < 2 ^ 63 := by unfold timeoutHeader; omega
  have fits : withChk (timeoutHeader e c q) < 2 ^ 64 := by unfold withChk; omega
  simp only [timeoutLine, fieldN, BitVec.toNat_ofNat, Nat.shiftRight_eq_div_pow, stTimeout]
  omega

/-- The request has ended, and its core's queue holds the completion that says so. -/
def requestEnded (e : TEnv) (c : CoreIx) (q : SvReq) (tag : Nat) (t : Tile) : Tile :=
  t.setSv c { t.sv c with
    reqs := (t.sv c).reqs.filter (fun r => r ≠ q), ended := (t.sv c).ended ++ [q], queue := (t.sv c).queue ++ [(tag, timeoutLine e c q)] }

theorem svTimeout_ends {e : TEnv} {c : CoreIx} {tag : Nat} {t : Tile} {q : SvReq} (runs : t.job ≠ none)
    (outstanding : (t.sv c).reqs.find? (fun r => r.tag == tag) = some q) :
    svTimeout e c tag t = (TOut.of (requestEnded e c q tag t)).bump (ck 0x9140 4) 1 := by
  have busy : t.job.isNone = false := Option.isNone_eq_false_iff.mpr (Option.isSome_iff_ne_none.mpr runs)
  simp only [svTimeout, outstanding, busy]
  simp [requestEnded, timeoutLine, timeoutHeader, bne, beq_eq_decide]

/-! ## Remote writes (R161) -/

/-- The remote write that a header starts, checked against its window. -/
def writeStarted (t : Tile) (v : V512) : RwIn :=
  ⟨v, payByte v 8 % 8, t.tsk.base + (t.wins[(payByte v 8 % 8)]'(Nat.mod_lt _ (by decide))).off + fieldN v.toNat 96 32, rwLines v, 0,
    decide (windowCheck t v = 0), windowCheck t v⟩

theorem rwTake_empty (e : TEnv) (n : Nat) {o : TOut} (empty : o.tile.router.rxReq = []) : rwTake e n o = o := by
  cases n with
  | zero => rfl
  | succ n =>
    unfold rwTake
    dsimp only
    split
    · next line => simp [empty] at line
    · rfl

/-- A header without its data lines: the write waits for them. -/
theorem rwArrive_header {e : TEnv} {t : Tile} {l : SvLine} (line : t.router.rxReq = [l]) (between : t.router.rw = none)
    (write : hType (hdrOf l.data) = 2) :
    rwArrive e t = (TOut.of ((popRx 0 t).updRouter fun r => { r with rw := some (writeStarted t l.data) })).bump (ck 0x9140 1)
      (if windowCheck t l.data = 0 then 0 else 1) := by
  have emptied : (popRx 0 t).router.rxReq = [] := by simp [popRx, Tile.updRouter, line]
  have checked : (windowCheck t l.data == 0) = decide (windowCheck t l.data = 0) := beq_eq_decide _ _
  simp only [rwArrive, between, line, write, ne_eq, not_true, if_false, checked]
  refine rwTake_empty e 64 ?_
  rw [TOut.bump_tile]
  exact emptied

theorem placed_line {p : Nat} (aligned : p % 64 = 0) : lineAddr p = p := by
  unfold lineAddr
  omega

/-- A line that lands whole: its bytes stand in the scratchpad from its address on. -/
theorem spLand_sp {p : Nat} {v : V512} {mirrored poison : Bool} {t : Tile} (aligned : p % 64 = 0) :
    (spLand mirrored poison p v t).sp = t.sp.writeBytes p (lineBytes v) := by
  have base := placed_line aligned
  have one : p % 64 + (lineBytes v).length ≤ 64 := by rw [lineBytes, leOfNat_length]; omega
  unfold spLand spWriteLine
  rw [base]
  exact placed_write p p (lineBytes v) t.sp base.symm one

/-- The line that waits alone has landed. -/
def lineLanded (l : Landing) (t : Tile) : Tile := spLand false false l.addr l.data (t.updRouter fun r => { r with land := [] })

theorem lineLanded_sp {l : Landing} (t : Tile) (aligned : l.addr % 64 = 0) : (lineLanded l t).sp = t.sp.writeBytes l.addr (lineBytes l.data) :=
  spLand_sp aligned

/-- The window of a line that lands. -/
def Landing.window (l : Landing) : Fin 8 := ⟨l.win % 8, Nat.mod_lt _ (by decide)⟩

theorem Landing.window_eq {l : Landing} {w : Fin 8} (own : w.val = l.win) : l.window = w :=
  Fin.ext ((congrArg (· % 8) own.symm).trans (Nat.mod_eq_of_lt w.isLt))

theorem Landing.window_ne {l : Landing} {w : Fin 8} (legal : l.win < 8) (other : w.val ≠ l.win) : w ≠ l.window :=
  fun same => other ((congrArg Fin.val same).trans (Nat.mod_eq_of_lt legal))

/-- A window with one more write (R162). -/
def Win.counted (outside : Bool) (w : Win) : Win := { w with count := (w.count + 1) % 2 ^ 64, ext := if outside then w.ext + 1 else w.ext }

/-- The write that its last line completes is counted in its window and answered. -/
def writeLanded (e : TEnv) (l : Landing) (outside : Bool) (t : Tile) : Tile :=
  sendCompl e l.header stDone l.n ((t.updRouter fun r => { r with landBad := false }).setWin l.window (Win.counted outside))

theorem writeLanded_wins (e : TEnv) (l : Landing) (outside : Bool) (t : Tile) :
    (writeLanded e l outside t).wins = (t.setWin l.window (Win.counted outside)).wins := rfl

/-- A clean last line in a mesh bank lands, and completes its write. -/
theorem landNext_last {e : TEnv} {deferred : Nat} {inJob : Bool} {t : Tile} {l : Landing} (line : t.router.land = [l]) (last : l.last = true)
    (clean : l.poison = false) (good : t.router.landBad = false) (mesh : t.bankClass (bankOf l.addr) = clsMesh)
    (noWatch : ∀ n : Fin 2, (t.wps[n]).enable = false) :
    landNext e deferred inJob t
      = ((TOut.of (lineLanded l t)).bump (ck 0x9130 4) deferred).upd (writeLanded e l (fromOutside (hdrOf l.header) || ! inJob)) := by
  have quiet : wpCheck 4 true l.addr 64 0 (lineLanded l t) = TOut.of (lineLanded l t) := wpCheck_none _ _ _ _ _ _ noWatch
  rw [lineLanded] at quiet
  simp only [landNext, line, last, clean, good, mesh, beq_self_eq_true, if_true, TOut.of_andThen, quiet]
  rfl

theorem writeLanded_window (e : TEnv) (l : Landing) (outside : Bool) (t : Tile) :
    ((writeLanded e l outside t).wins[l.window]).count = ((t.wins[l.window]).count + 1) % 2 ^ 64 :=
  congrArg Win.count (Tile.setWin_same t l.window (Win.counted outside))

theorem writeLanded_wins_ne (e : TEnv) {l : Landing} (outside : Bool) (t : Tile) {w : Fin 8} (other : w ≠ l.window) :
    (writeLanded e l outside t).wins[w] = t.wins[w] :=
  Tile.setWin_ne t (Win.counted outside) other

theorem writeLanded_answers {e : TEnv} {l : Landing} {outside : Bool} {t : Tile} :
    SMap.get ([] : List SvLine) (writeLanded e l outside t).router.ins 9 = SMap.get [] t.router.ins 9 ++ [complLine e l.header stDone l.n] :=
  sendCompl_answers _

end

/-- Settles O19: a delivered hop, a message, a completion, a timeout and the header of a remote write change the router of their tile alone; a line
that lands writes its 64 bytes too, and its window counts it. -/
theorem serviceAgent : Obligations.ServiceAgent := by
  unfold Obligations.ServiceAgent
  refine ⟨fun s t response i l rest hI grid first credit input line source target => ?hop, fun s t out response hI grid returning => ?credit,
    fun s t l rest entry others hI grid line between message runs free => ?message, fun s t l hI grid line between write => ?write,
    fun s t l deferred hI canonical grid line last clean good mesh aligned legal noWatch => ?landing,
    fun s t l rest hI grid line runs outstanding => ?completion, fun s i tag q hI grid runs outstanding seq => ?timeout⟩
  case hop =>
    obtain ⟨only, tile⟩ := hopLine_onlyRouter (ch := if response then 1 else 0) (i := i) (l := l) (rest := rest) (t := t) hI
    have hop := hopLine_local (by simpa using first) credit input line source target
    refine ⟨_, (exec_serviceLineHop ..).trans ((if_pos grid).trans (congrArg _ hop)), only, ?_, ?_, ?_, ?_⟩
    · rintro rfl
      rw [tile]
      exact lineDelivered_rxReq l _
    · rintro rfl
      rw [tile]
      exact lineDelivered_rxRsp l _
    · rw [tile, lineDelivered_hopOut, lineLeaves_hopOut]
    · rw [tile, lineDelivered_hopOut, lineLeaves_hopOut]
  case credit =>
    obtain ⟨only, tile⟩ := updTile_onlyRouter (f := fun t => t.updHop out.val (if response then 1 else 0) fun o =>
      if o.returning = 0 then o else { o with credits := o.credits + 1, returning := o.returning - 1 }) hI ⟨_, rfl⟩
    refine ⟨_, (exec_hopCreditReturn ..).trans (if_pos grid), only, ?_⟩
    rw [tile, Tile.hopOut_updHop, if_neg returning]
    exact ⟨rfl, rfl⟩
  case message =>
    obtain ⟨u, hu, only, tile⟩ := onTile_onlyRouter hI grid (msgArrive_taken line between message runs free) (PlainBumps.of_ _) ⟨_, rfl⟩
    refine ⟨u, (exec_msgArrival ..).trans hu, only, ?_, ?_, ?_⟩
    · rw [tile]
      exact congrArg (List.drop 1) line
    · rw [State.svOf, tile]
      exact congrArg SvCore.queue (messageTaken_sv _ _ _ _ _)
    · rw [answersWith, tile]
      exact sendCompl_answers _
  case write =>
    obtain ⟨u, hu, only, tile⟩ := onTile_onlyRouter hI grid (rwArrive_header line between write) ((PlainBumps.of_ _).bump_ (by decide) (by decide))
      (by rw [TOut.bump_tile]; exact ⟨_, rfl⟩)
    refine ⟨u, (exec_rwriteArrival ..).trans hu, only, ?_, ?_⟩
    · rw [tile, TOut.bump_tile]
      exact congrArg (List.drop 1) line
    · rw [tile, TOut.bump_tile]
      rfl
  case landing =>
    have plain : PlainBumps ((TOut.of (lineLanded l (s.tile t.val))).bump (ck 0x9130 4) deferred) := (PlainBumps.of_ _).bump_ (by decide) (by decide)
    obtain ⟨u, hu, only, tile⟩ := onTile_only (f := fun e => landNext e deferred (s.senderInJob t.val)) grid hI
      (landNext_last line last clean good mesh noWatch) plain
    rw [TOut.upd, TOut.bump_tile] at tile
    have written : (u.tile t.val).sp = (s.tile t.val).sp.writeBytes l.addr (lineBytes l.data) := by
      rw [tile]
      exact lineLanded_sp _ aligned
    have length : (lineBytes l.data).length = 64 := leOfNat_length _ _
    refine ⟨u, (exec_remoteLineLanding ..).trans hu, only, ?_, ?_, fun q outside => ?_, fun w own => ?_, fun w other => ?_, ?_, ?_⟩
    · rw [tile]
      rfl
    · rw [written, ← length]
      exact Mem.readBytes_writeBytes _ _ _ canonical
    · rw [written]
      exact Mem.read_writeBytes_out _ _ _ _ (by rwa [length])
    · rw [tile, ← Landing.window_eq own]
      exact writeLanded_window _ _ _ _
    · rw [tile]
      exact writeLanded_wins_ne _ _ _ (Landing.window_ne legal other)
    · rw [tile]
      rfl
    · rw [answersWith, tile]
      exact writeLanded_answers
  case completion =>
    obtain ⟨u, hu, only, tile⟩ := onTile_onlyRouter (f := fun _ => complArrive) hI grid (complArrive_taken line runs outstanding) (PlainBumps.of_ _)
      ⟨_, rfl⟩
    have agent : u.svOf t (hDcore (hdrOf l.data)) = _ := (congrArg (Tile.sv · _) tile).trans (Tile.sv_setSv _ _ _)
    refine ⟨u, (exec_complArrival ..).trans hu, only, ?_, ?_, ?_⟩
    · rw [tile]
      exact congrArg (List.drop 1) line
    · rw [agent]
      rfl
    · rw [agent]
      rfl
  case timeout =>
    obtain ⟨u, hu, only, tile⟩ := onTile_onlyRouter (f := fun e => svTimeout e i.core tag.val) hI grid (svTimeout_ends runs outstanding)
      ((PlainBumps.of_ _).bump_ (by decide) (by decide)) (by rw [TOut.bump_tile]; exact ⟨_, rfl⟩)
    rw [TOut.bump_tile] at tile
    have agent : u.svOf i.tile i.core = _ := (congrArg (Tile.sv · _) tile).trans (Tile.sv_setSv _ _ _)
    have tags : q.tag = tag.val := by simpa using List.find?_some outstanding
    have place := i.tile.isLt
    refine ⟨u, timeoutLine (s.env i.tile.val) i.core q, (exec_serviceRequestTimeout ..).trans hu, only, ?_, ?_, ?_, ?_⟩
    · rw [agent]
      rfl
    · rw [agent]
      rfl
    · rw [agent]
      rfl
    · exact timeoutLine_status (show i.tile.val % 48 < 64 by omega) (show i.tile.val / 48 < 32 by omega) (tags ▸ tag.isLt) seq

end Sys2Proof.Machine
end

section
set_option Elab.async false

namespace Sys2Proof.Machine

/-! # The canonical form of the scratchpads (R141, R153)

A scratchpad is written in few places: a line's write (`spWriteLine`), the scrub of banks (`keepBanks`), the debugger's write
(`execWriteSp`) and the reset of a tile. Each of them keeps the canonical form; everything else leaves the scratchpad, or the
whole map of tiles, as it is. -/

/-! ## What leaves a tile's scratchpad as it is -/

section
variable {α : Type}

@[simp] theorem sp_ite (c : Prop) [Decidable c] (a b : Tile) : (if c then a else b).sp = if c then a.sp else b.sp := apply_ite ..
@[simp] theorem tile_ite (c : Prop) [Decidable c] (a b : TOut) : (if c then a else b).tile = if c then a.tile else b.tile := apply_ite ..
@[simp] theorem TOut.upd_tile (o : TOut) (f : Tile → Tile) : (o.upd f).tile = f o.tile := rfl
@[simp] theorem TOut.andThen_tile (o : TOut) (f : Tile → TOut) : (o.andThen f).tile = (f o.tile).tile := rfl
@[simp] theorem TOut.bumps'_tile (o : TOut) (l : List (Nat × Nat)) : (o.bumps' l).tile = o.tile := rfl

theorem sp_foldl {f : Tile → α → Tile} {l : List α} {t : Tile} (hf : ∀ t a, (f t a).sp = t.sp) : (l.foldl f t).sp = t.sp :=
  List.foldlRecOn (motive := fun u => u.sp = t.sp) l f rfl fun _ h a _ => (hf _ a).trans h

theorem tile_sp_foldl {f : TOut → α → TOut} {l : List α} {o : TOut} (hf : ∀ o a, (f o a).tile.sp = o.tile.sp) :
    (l.foldl f o).tile.sp = o.tile.sp :=
  List.foldlRecOn (motive := fun p => p.tile.sp = o.tile.sp) l f rfl fun _ h a _ => (hf _ a).trans h

end

@[simp] theorem Tile.updCore_sp (t : Tile) (c : CoreIx) (f : CoreSt → CoreSt) : (t.updCore c f).sp = t.sp := rfl
@[simp] theorem Tile.stop_sp (t : Tile) (cy : Nat) : (t.stop cy).sp = t.sp := rfl
@[simp] theorem spCheck_sp (agent : Nat) (p : Nat) (n : Nat) (cy : Nat) (t : Tile) : (spCheck agent p n cy t).tile.sp = t.sp := by simp [spCheck]
@[simp] theorem wpCheck_sp (agentBit : Nat) (wr : Bool) (p : Nat) (n : Nat) (cy : Nat) (t : Tile) :
    (wpCheck agentBit wr p n cy t).tile.sp = t.sp := rfl
@[simp] theorem Tile.integrity_sp (t : Tile) (src : Nat) (bank : Nat) (line : Nat) (bead : Nat) (cy : Nat) :
    (t.integrity src bank line bead cy).sp = t.sp := rfl
@[simp] theorem coreTrap_sp (c : CoreIx) (cause : Nat) (major : Nat) (cy : Nat) (t : Tile) : (coreTrap c cause major cy t).tile.sp = t.sp := rfl
@[simp] theorem digestAdd_sp (es : List DigEnt) (i : Nat) (b : Bead) (t : Tile) : (digestAdd es i b t).sp = t.sp := rfl
@[simp] theorem Tile.updFrame_sp (t : Tile) (f : FrameSt → FrameSt) : (t.updFrame f).sp = t.sp := rfl
@[simp] theorem resFailure_sp (src : Nat) (cy : Nat) (t : Tile) : (resFailure src cy t).sp = t.sp := rfl
@[simp] theorem checkRow_sp (cy : Nat) (row : AccRow) (t : Tile) : (checkRow cy row t).tile.sp = t.sp := by simp [checkRow]
@[simp] theorem multRow_sp (k : Nat) (cy : Nat) (r : Nat) (g : FArgs) (t : Tile) : (multRow k cy r g t).tile.sp = t.sp := by simp [multRow]
@[simp] theorem accumulateRow_sp (r : Nat) (g : FArgs) (t : Tile) : (accumulateRow r g t).sp = t.sp := rfl
@[simp] theorem loadaRow_sp (r : Nat) (g : FArgs) (t : Tile) : (loadaRow r g t).sp = t.sp := rfl
@[simp] theorem emitRow_sp (k : Nat) (i : Nat) (g : FArgs) (r : RowOut) (t : Tile) :
    (emitRow k i g r t).tile.sp = t.sp := by unfold emitRow; split <;> simp
@[simp] theorem frameAutoRest_sp (t : Tile) : (frameAutoRest t).tile.sp = t.sp := by simp [frameAutoRest]
@[simp] theorem frameCommit_sp (i : FrameIn) (t0 : Nat) (t : Tile) : (frameCommit i t0 t).tile.sp = t.sp := by unfold frameCommit; split <;> simp
@[simp] theorem fetchCheck_sp (c : CoreIx) (t0 : Nat) (t : Tile) : (fetchCheck c t0 t).tile.sp = t.sp := by simp [fetchCheck]
@[simp] theorem bpCheck_sp (c : CoreIx) (t0 : Nat) (t : Tile) : (bpCheck c t0 t).tile.sp = t.sp := rfl
@[simp] theorem dataRead_sp (p : Nat) (n : Nat) (cy : Nat) (t : Tile) : (dataRead p n cy t).tile.sp = t.sp := by simp [dataRead]
@[simp] theorem vDone_sp (c : CoreIx) (t0 : Nat) (m : Nat) (waited : Nat) (dsts : List Nat) (f : CoreSt → CoreSt) (t : Tile) :
    (vDone c t0 m waited dsts f t).tile.sp = t.sp := by simp [vDone]
@[simp] theorem vHold_sp (c : CoreIx) (kind : Nat) (t0 : Nat) (waited : Nat) (t : Tile) : (vHold c kind t0 waited t).sp = t.sp := rfl
@[simp] theorem Tile.updUpd_sp (t : Tile) (f : UpdSt → UpdSt) : (t.updUpd f).sp = t.sp := rfl
@[simp] theorem Tile.setWin_sp (t : Tile) (w : Fin 8) (f : Win → Win) : (t.setWin w f).sp = t.sp := rfl
@[simp] theorem syncRelease_sp (mask : BitVec 4) (t : Tile) : (syncRelease mask t).sp = t.sp := sp_foldl fun _ _ => by simp
@[simp] theorem arriveIfEnded_sp (t : Tile) : (arriveIfEnded t).sp = t.sp := by simp [arriveIfEnded]
@[simp] theorem watchdogOp_sp (c : CoreIx) (t : Tile) : (watchdogOp c t).tile.sp = t.sp := by unfold watchdogOp; split <;> simp
@[simp] theorem frameTrap_sp (c : CoreIx) (fop : Nat) (cause : Nat) (t0 : Nat) (t : Tile) :
    (frameTrap c fop cause t0 t).tile.sp = t.sp := by simp [frameTrap]
@[simp] theorem routerFault_sp (cause : Nat) (entry : Nat) (port : Nat) (cy : Nat) (t : Tile) :
    (routerFault cause entry port cy t).sp = t.sp := by simp [routerFault]
@[simp] theorem Tile.updRouter_sp (t : Tile) (f : RouterSt → RouterSt) : (t.updRouter f).sp = t.sp := rfl
@[simp] theorem slotUses_sp (p : Nat) (cy : Nat) (t : Tile) : (slotUses p cy t).sp = t.sp := by simp [slotUses]
@[simp] theorem unscheduled_sp (port : Nat) (cy : Nat) (t : Tile) : (unscheduled port cy t).tile.sp = t.sp := by simp [unscheduled]
@[simp] theorem injectLines_sp (ch : Nat) (ls : List SvLine) (t : Tile) : (injectLines ch ls t).sp = t.sp := rfl
@[simp] theorem sendCompl_sp (e : TEnv) (req : V512) (status : Nat) (lines : Nat) (t : Tile) : (sendCompl e req status lines t).sp = t.sp := rfl
@[simp] theorem Tile.setSv_sp (t : Tile) (c : CoreIx) (s : SvCore) : (t.setSv c s).sp = t.sp := rfl
@[simp] theorem sendReads_sp (t0 : Nat) (offs : List Nat) (t : Tile) : (sendReads t0 offs t).tile.sp = t.sp := tile_sp_foldl fun _ _ => by simp
@[simp] theorem sendTake_sp (e : TEnv) (c : CoreIx) (d : Reg) (a : Reg) (waited : Nat) (tag : Nat) (t0 : Nat) (t : Tile) :
    (sendTake e c d a waited tag t0 t).tile.sp = t.sp := by simp [sendTake]
@[simp] theorem sendBody_sp (e : TEnv) (c : CoreIx) (d : Reg) (a : Reg) (waited : Nat) (t0 : Nat) (t : Tile) :
    (sendBody e c d a waited t0 t).tile.sp = t.sp := by unfold sendBody; split <;> simp
@[simp] theorem popRx_sp (ch : Nat) (t : Tile) : (popRx ch t).sp = t.sp := rfl
@[simp] theorem msgArrive_sp (e : TEnv) (t : Tile) : (msgArrive e t).tile.sp = t.sp := by unfold msgArrive; repeat' split <;> simp
@[simp] theorem complArrive_sp (t : Tile) : (complArrive t).tile.sp = t.sp := by unfold complArrive; split <;> simp
@[simp] theorem svTimeout_sp (e : TEnv) (c : CoreIx) (tag : Nat) (t : Tile) :
    (svTimeout e c tag t).tile.sp = t.sp := by unfold svTimeout; repeat' split <;> simp
@[simp] theorem closeWindows_sp (t : Tile) : (closeWindows t).sp = t.sp := rfl
@[simp] theorem enterTask_sp (n : Nat) (t : Tile) : (enterTask n t).sp = t.sp := rfl
@[simp] theorem badTaskTrap_sp (started : Bool) (t : Tile) : (badTaskTrap started t).tile.sp = t.sp := rfl
@[simp] theorem Tile.stepStart_sp (first : Nat) (count : Nat) (t : Tile) : (Tile.stepStart first count t).sp = t.sp := rfl
@[simp] theorem Tile.fenceCopy_sp (t : Tile) : t.fenceCopy.sp = t.sp := rfl
@[simp] theorem Tile.setResid_sp (t : Tile) (b : Nat) (r : Resid) : (t.setResid b r).sp = t.sp := rfl
@[simp] theorem endResidence_sp (normal : Bool) (uses : List (Nat × U32)) (t : Tile) :
    (endResidence normal uses t).sp = t.sp := sp_foldl fun _ _ => by simp
@[simp] theorem Tile.jobStart_sp (j : Nat) (residue : Bool) (mirror : Bool) (dither : Option U64) (t : Tile) :
    (Tile.jobStart j residue mirror dither t).tile.sp = t.sp := by simp [Tile.jobStart]
@[simp] theorem Tile.firstStep_sp (task : Nat) (range : Nat × Nat) (t : Tile) :
    (Tile.firstStep task range t).tile.sp = t.sp := by simp [Tile.firstStep]
@[simp] theorem Tile.jobEnd_sp (t : Tile) : t.jobEnd.tile.sp = t.sp := by simp [Tile.jobEnd]
@[simp] theorem Tile.loadFw_sp (sec : List Byte) (t : Tile) : (Tile.loadFw sec t).sp = t.sp := rfl
@[simp] theorem Tile.updHop_sp (t : Tile) (out : Nat) (ch : Nat) (f : HopOut → HopOut) : (t.updHop out ch f).sp = t.sp := rfl

theorem verifyBead_sp (src cy p : Nat) (g : Nat × Nat × Nat × U32) (buf : SMap V512) (i : Nat) (o : TOut) :
    (verifyBead src cy p g buf i o).tile.sp = o.tile.sp := by
  simp [verifyBead]

@[simp] theorem verifyLine_sp (src cy p fop : Nat) (g : FArgs) (o : TOut) : (verifyLine src cy p fop g o).tile.sp = o.tile.sp :=
  tile_sp_foldl fun _ _ => tile_sp_foldl fun _ _ => verifyBead_sp ..

@[simp] theorem updVerify_sp (cy p : Nat) (u : URun) (g : FArgs) (o : TOut) : (updVerify cy p u g o).tile.sp = o.tile.sp := by
  unfold updVerify
  extract_lets inBuf grp
  have hgrp (fmt e s : Nat) (o : TOut) : (grp fmt e s o).tile.sp = o.tile.sp := tile_sp_foldl fun _ _ => by simp
  rw [hgrp, hgrp]

theorem rwTake_sp (e : TEnv) (n : Nat) (o : TOut) : (rwTake e n o).tile.sp = o.tile.sp := by
  induction n generalizing o with
  | zero => rfl
  | succ n ih =>
    unfold rwTake
    dsimp only
    split
    · simp [ih]
    · rfl

@[simp] theorem rwArrive_sp (e : TEnv) (t : Tile) : (rwArrive e t).tile.sp = t.sp := by
  unfold rwArrive
  split
  · exact rwTake_sp ..
  · split
    · rfl
    · simp [rwTake_sp]

@[simp] theorem svArrive_sp (inp ch : Nat) (l : SvLine) (corrupt : Bool) (t : Tile) : (svArrive inp ch l corrupt t).1.tile.sp = t.sp := by
  unfold svArrive
  dsimp only
  split <;> simp

/-! ## What keeps the canonical form of a tile's scratchpad -/

/-- The scratchpad of the tile is in canonical form. -/
def SpWf (t : Tile) : Prop := t.sp.wf = true

/-- The operation keeps the canonical form of its tile's scratchpad. -/
def KeepsSp (f : Tile → TOut) : Prop := ∀ t, SpWf t → SpWf (f t).tile

theorem SpWf.of_sp {t u : Tile} (h : SpWf t) (e : u.sp = t.sp) : SpWf u := by
  unfold SpWf
  rwa [e]

theorem SpWf.upd {o : TOut} {f : Tile → Tile} (h : SpWf o.tile) (e : ∀ t, (f t).sp = t.sp) : SpWf (o.upd f).tile := h.of_sp (e _)

theorem SpWf.andThen {o : TOut} {f : Tile → TOut} (h : SpWf o.tile) (hf : KeepsSp f) : SpWf (o.andThen f).tile := hf _ h

theorem SpWf.bump {o : TOut} (h : SpWf o.tile) (k n : Nat) : SpWf (o.bump k n).tile := h.of_sp (by simp)

theorem SpWf.ite {c : Prop} [Decidable c] {o p : TOut} (ho : SpWf o.tile) (hp : SpWf p.tile) : SpWf (if c then o else p).tile := by
  split
  · exact ho
  · exact hp

theorem SpWf.foldl {α : Type} {f : TOut → α → TOut} {l : List α} {o : TOut} (h : SpWf o.tile)
    (hf : ∀ o a, SpWf o.tile → SpWf (f o a).tile) :
    SpWf (l.foldl f o).tile :=
  List.foldlRecOn (motive := fun p => SpWf p.tile) l f h fun _ h a _ => hf _ a h

theorem KeepsSp.of_sp {f : Tile → TOut} (e : ∀ t, (f t).tile.sp = t.sp) : KeepsSp f := fun t h => h.of_sp (e t)

theorem spWf_reset : SpWf Tile.reset := Mem.wf_nil

theorem SpWf.spWriteLine {t : Tile} (h : SpWf t) (mirrored poison : Bool) (p : Nat) (bs : List (Nat × Byte)) :
    SpWf (spWriteLine mirrored poison p bs t) :=
  spWriteLine_wf _ _ _ _ _ h

theorem SpWf.spLand {t : Tile} (h : SpWf t) (mirrored poison : Bool) (p : Nat) (v : V512) : SpWf (spLand mirrored poison p v t) := h.spWriteLine ..

theorem SpWf.keepBanks {t : Tile} (h : SpWf t) (keep : Nat → Bool) : SpWf (keepBanks keep t) := keepBanks_wf _ _ h

theorem SpWf.park {t : Tile} (h : SpWf t) : SpWf t.park := h.keepBanks fun b => (t.residOf b).resident

theorem dataWrite_keepsSp {mirrored : Bool} {p cy : Nat} {bs : List Byte} : KeepsSp (dataWrite mirrored p cy bs) :=
  fun _ h => (h.spWriteLine mirrored false p (placed p bs)).of_sp (by simp [dataWrite, spWrite])

theorem scrubBanks_keepsSp {banks : List Nat} : KeepsSp (scrubBanks banks) := fun _ h => (h.keepBanks _).bump ..

theorem powerUp_keepsSp : KeepsSp Tile.powerUp := fun t => scrubBanks_keepsSp t

theorem startResidence_keepsSp {uses : List (Nat × U32)} : KeepsSp (startResidence uses) :=
  fun t h => (scrubBanks_keepsSp t h).of_sp (sp_foldl fun _ _ => by simp)

/-! ### The frame and the update engine -/

theorem frameEffect_keepsSp {cy k : Nat} {a : FAcc} : KeepsSp (frameEffect cy k a) := by
  intro t h
  unfold frameEffect
  dsimp only
  split
  · exact h.of_sp (by simp)
  · exact SpWf.andThen (h.spWriteLine ..) (.of_sp (by simp))
  · exact h.of_sp (by simp)
  · exact h.of_sp (by simp)
  · exact h.of_sp (by simp)
  · exact h.of_sp (by simp)

theorem frameCycle_keepsSp {c : Nat} : KeepsSp (frameCycle c) := by
  intro t h
  unfold frameCycle
  extract_lets r t1
  have started : SpWf ((TOut.of t1).bump (ck 0x9110 1) r.moves).tile := h.of_sp (by simp [t1])
  exact (started.foldl fun _ x h => h.andThen frameEffect_keepsSp).upd (Tile.updFrame_sp · _)

theorem frameRun_keepsSp {n upto : Nat} : KeepsSp (frameRun n upto) := by
  induction n with
  | zero => exact fun _ h => h
  | succ n ih =>
    intro t h
    unfold frameRun
    split
    · exact h
    · exact .ite h (ih _ (frameCycle_keepsSp _ h))

theorem frameTo_keepsSp {c : Nat} : KeepsSp (frameTo c) := fun t => frameRun_keepsSp t

theorem frameHold_keepsSp {n c : Nat} {i : FrameIn} : KeepsSp fun t => (frameHold n c i t).2 := by
  induction n generalizing c with
  | zero => exact fun _ h => h
  | succ n ih =>
    intro t h
    have held : SpWf (frameTo c t).tile := frameTo_keepsSp _ h
    dsimp -zeta only
    unfold frameHold
    extract_lets o f op dots w o1 r
    have held1 : SpWf o1.tile := held.of_sp (by simp [o1, o])
    split
    · exact held1
    · exact ih _ held1

theorem frameFinish_keepsSp {c : Nat} : KeepsSp fun t => (frameFinish c t).2 := by
  intro t h
  have done : SpWf (frameTo c t).tile := frameTo_keepsSp _ h
  unfold frameFinish
  dsimp only
  split
  · exact done
  · exact (done.andThen frameRun_keepsSp).upd (Tile.updFrame_sp · _)

theorem updEffect_keepsSp {cy k : Nat} {a : FAcc} : KeepsSp (updEffect cy k a) := by
  intro t h
  unfold updEffect
  dsimp only
  split
  · split <;> exact h.of_sp (by simp)
  · exact SpWf.andThen (h.spWriteLine ..) (.of_sp (by simp))
  · split <;> exact h.of_sp (by simp)
  · exact h

theorem updCycle_keepsSp {c : Nat} : KeepsSp (updCycle c) := by
  intro t h
  unfold updCycle
  extract_lets busy r t1
  have started : SpWf ((TOut.of t1).bump (ck 0x9160 3) r.moves).tile := h.of_sp (by simp [t1])
  exact (started.foldl fun _ x h => h.andThen updEffect_keepsSp).upd (Tile.updUpd_sp · _)

theorem updRunTo_keepsSp {n upto : Nat} : KeepsSp (updRunTo n upto) := by
  induction n with
  | zero => exact fun _ h => h
  | succ n ih =>
    intro t h
    unfold updRunTo
    split
    · exact h
    · exact .ite h (ih _ (updCycle_keepsSp _ h))

theorem updTo_keepsSp {c : Nat} : KeepsSp (updTo c) := fun t => updRunTo_keepsSp t

theorem updFinish_keepsSp {c : Nat} : KeepsSp fun t => (updFinish c t).2 := by
  intro t h
  have done : SpWf (updTo c t).tile := updTo_keepsSp _ h
  unfold updFinish
  dsimp only
  split
  · exact done
  · exact (done.andThen updRunTo_keepsSp).upd (Tile.updUpd_sp · _)

theorem settleUnits_keepsSp : KeepsSp Tile.settleUnits := by
  intro t h
  unfold Tile.settleUnits
  have framed : SpWf (frameFinish t.frame.clk t).2.tile := frameFinish_keepsSp _ h
  exact framed.andThen fun t => updFinish_keepsSp t

/-! ### The core instructions -/

section
variable {c : CoreIx} {e : TEnv} {major lat kind waited : Nat} {srcs dsts : List Nat} {d a b sa sb : Reg}

theorem coreGo_keepsSp {row : Option Nat} {causes : Tile → List Nat} {body : Nat → Tile → TOut} (hbody : ∀ t0, KeepsSp (body t0)) :
    KeepsSp fun t => coreGo c major srcs dsts row causes body t := by
  intro t h
  dsimp only
  unfold coreGo
  extract_lets k t0 o
  have caught : SpWf o.tile := frameTo_keepsSp _ h
  have checked : SpWf (fetchCheck c t0 o.tile).tile := caught.of_sp (by simp)
  refine .ite (.ite caught (.ite (caught.of_sp (by simp)) ?_)) h
  exact .ite (hbody t0 _ checked) (checked.of_sp (by simp))

theorem coreOp_keepsSp {row : Option (Nat × Nat)} {causes : Tile → List Nat} {f : CoreSt → CoreSt} :
    KeepsSp fun t => coreOp c major srcs dsts lat row causes f t :=
  coreGo_keepsSp fun _ => .of_sp (by simp)

theorem aluOp_keepsSp {f : U64 → U64 → U64} : KeepsSp (aluOp c d a b lat f) := by
  unfold aluOp
  exact coreOp_keepsSp

theorem unOp_keepsSp {f : U64 → U64} : KeepsSp (unOp c d a b lat f) := by
  unfold unOp
  exact coreOp_keepsSp

theorem divOp_keepsSp {f : U64 → U64 → U64} : KeepsSp (divOp c d a b f) := by
  unfold divOp
  exact coreOp_keepsSp

theorem immOp_keepsSp {f : U64 → U64} : KeepsSp (immOp c major d a f) := by
  unfold immOp
  exact coreOp_keepsSp

theorem shiftiOp_keepsSp {z : BitVec 8} {f : U64 → U64} : KeepsSp (shiftiOp c d a z f) := by
  unfold shiftiOp
  exact coreOp_keepsSp

theorem lihOp_keepsSp {imm : U16} : KeepsSp (lihOp c d a imm) := by
  unfold lihOp
  exact coreOp_keepsSp

section
variable {vd va vb : VReg} {ty : BitVec 3}

theorem vecLane_keepsSp {op : VOp} {reads : List VReg} {latF : Nat} : KeepsSp (vecLane c op reads vd va vb ty lat latF) := by
  unfold vecLane
  exact coreOp_keepsSp

theorem vecBit_keepsSp {reads : List VReg} {f : V512 → V512 → V512 → V512} : KeepsSp (vecBit c reads vd va vb ty f) := by
  unfold vecBit
  exact coreOp_keepsSp

theorem vpermOp_keepsSp : KeepsSp (vpermOp c vd va vb ty) := by
  unfold vpermOp
  exact coreOp_keepsSp

theorem vcvtOp_keepsSp : KeepsSp (vcvtOp c vd va vb ty) := by
  unfold vcvtOp
  exact coreOp_keepsSp

theorem vsplatOp_keepsSp : KeepsSp (vsplatOp c vd sa ty) := by
  unfold vsplatOp
  exact coreOp_keepsSp

theorem vextOp_keepsSp : KeepsSp (vextOp c d va sa ty) := by
  unfold vextOp
  exact coreOp_keepsSp

theorem vinsOp_keepsSp : KeepsSp (vinsOp c vd sa sb ty) := by
  unfold vinsOp
  exact coreOp_keepsSp

theorem vredOp_keepsSp {op : RedOp} : KeepsSp (vredOp c op d va ty) := by
  unfold vredOp
  exact coreOp_keepsSp

theorem vsckOp_keepsSp : KeepsSp (vsckOp c d va sa ty) := by
  unfold vsckOp
  exact coreOp_keepsSp

end

theorem vGo_keepsSp {causes : Tile → List Nat} {body : Nat → Tile → TOut} (hbody : ∀ t0, KeepsSp (body t0)) :
    KeepsSp fun t => vGo c kind major srcs dsts causes body t := by
  intro t h
  dsimp only
  unfold vGo
  split
  · exact .ite (hbody _ t h) h
  · exact coreGo_keepsSp hbody t h

theorem loadOp_keepsSp {imm : U16} {n : Nat} {signed : Bool} : KeepsSp (loadOp c major d a imm n signed) := coreGo_keepsSp fun _ => .of_sp (by simp)

theorem storeOp_keepsSp {imm : U16} {n : Nat} : KeepsSp (storeOp c major d a imm n) :=
  coreGo_keepsSp fun _ _ h => (dataWrite_keepsSp _ h).upd (by simp)

theorem vldOp_keepsSp {d : BitVec 5} {imm : U16} : KeepsSp (vldOp c d a imm) := coreGo_keepsSp fun _ => .of_sp (by simp)

theorem vstOp_keepsSp {d : BitVec 5} {imm : U16} : KeepsSp (vstOp c d a imm) := coreGo_keepsSp fun _ _ h => (dataWrite_keepsSp _ h).upd (by simp)

theorem branchOp_keepsSp {off : U16} {cond : U64 → U64 → Bool} : KeepsSp (branchOp c major a b off cond) := by
  unfold branchOp
  exact coreGo_keepsSp fun _ => .of_sp (by simp)

theorem jumpOp_keepsSp {link : Bool} {off : BitVec 26} : KeepsSp (jumpOp c link off) := by
  unfold jumpOp
  exact coreGo_keepsSp fun _ => .of_sp (by simp)

theorem jrOp_keepsSp : KeepsSp (jrOp c d a b) := coreGo_keepsSp fun _ => .of_sp (by simp)

theorem vencOp_keepsSp {wide : Bool} {vd va : VReg} {sd : Reg} {fmt : BitVec 3} : KeepsSp (vencOp c wide vd va sa sd fmt) := by
  unfold vencOp
  exact coreGo_keepsSp fun _ => .of_sp (by simp)

theorem vdecOp_keepsSp {vd va : VReg} {fmt : BitVec 3} : KeepsSp (vdecOp c vd va sa fmt) := by
  unfold vdecOp
  exact coreGo_keepsSp fun _ => .of_sp (by simp)

theorem fnOp_keepsSp {fn : Nat} {vd va vb : VReg} {ty : BitVec 3} {z : BitVec 8} : KeepsSp (fnOp c fn vd va vb ty z) :=
  coreGo_keepsSp fun _ => .of_sp (by simp)

theorem csrrOp_keepsSp {num : BitVec 12} : KeepsSp (csrrOp e c d num) := coreGo_keepsSp fun _ _ h => (updTo_keepsSp _ h).upd (by simp)

theorem csrwOp_keepsSp {num : BitVec 12} : KeepsSp (csrwOp e c a num) :=
  coreGo_keepsSp fun _ _ h => ((frameTo_keepsSp _ h).andThen updTo_keepsSp).upd (by simp [csrWrite_sp])

theorem plWaitOp_keepsSp {z : BitVec 12} : KeepsSp (plWaitOp c a z) := coreGo_keepsSp fun _ => .of_sp (by simp)

theorem winOpenOp_keepsSp {w : Fin 8} {z : BitVec 9} : KeepsSp (winOpenOp c d a w z) := coreGo_keepsSp fun _ => .of_sp (by simp)

theorem winCloseOp_keepsSp {w : Fin 8} {z : BitVec 9} : KeepsSp (winCloseOp c w z) := coreGo_keepsSp fun _ => .of_sp (by simp)

theorem rwWaitOp_keepsSp {w : Fin 8} {z : BitVec 9} : KeepsSp (rwWaitOp c d a w z waited) := vGo_keepsSp fun _ => .of_sp (by simp)

theorem tallyRdOp_keepsSp {z : BitVec 12} {tally : U64} : KeepsSp (tallyRdOp c d z waited tally) := vGo_keepsSp fun _ => .of_sp (by simp)

theorem sensRdOp_keepsSp {z : BitVec 12} {reading : U64 → U64} : KeepsSp (sensRdOp c d a z waited reading) := vGo_keepsSp fun _ => .of_sp (by simp)

theorem lnkRdOp_keepsSp {z : BitVec 12} {answered : Bool} {status : Nat → U64} : KeepsSp (lnkRdOp c d a z answered waited status) :=
  vGo_keepsSp fun _ => .of_sp (by simp)

theorem syncOp_keepsSp {mask : BitVec 4} {z : BitVec 8} : KeepsSp (syncOp c mask z) := coreGo_keepsSp fun _ => .of_sp (by simp)

theorem svSendOp_keepsSp {z : BitVec 12} : KeepsSp (svSendOp e c d a z waited) := vGo_keepsSp fun _ => .of_sp (by simp)

theorem recvBody_keepsSp {t0 : Nat} : KeepsSp (recvBody c d a waited t0) := by
  intro t h
  unfold recvBody
  extract_lets s limit
  split
  · exact (dataWrite_keepsSp _ (h.of_sp (Tile.setSv_sp ..))).andThen (.of_sp (by simp))
  · exact h.of_sp (by simp)

theorem svRecvOp_keepsSp {z : BitVec 12} : KeepsSp (svRecvOp c d a z waited) := vGo_keepsSp fun _ => recvBody_keepsSp

theorem reservedOp_keepsSp {w : U32} : KeepsSp (reservedOp c w) := by
  intro t h
  unfold reservedOp
  exact .ite h (.ite (coreGo_keepsSp (fun _ => .of_sp (by simp)) t h) (coreGo_keepsSp (fun _ => .of_sp (by simp)) t h))

theorem stepEndOp_keepsSp {z : BitVec 12} : KeepsSp (stepEndOp c a z) := by
  refine coreGo_keepsSp fun t0 t h => ?_
  dsimp only
  split
  · exact (frameFinish_keepsSp _ h).upd (by simp)
  · split
    · exact (updFinish_keepsSp _ h).upd (by simp)
    · exact h.of_sp (by simp)

theorem frameInsn_keepsSp {fop : Nat} {opt : BitVec 12} : KeepsSp (frameInsn c fop sa sb opt) := by
  refine coreGo_keepsSp fun t0 t h => .ite (h.of_sp (by simp)) (.ite (h.of_sp (by simp)) (.ite ?finish (.ite (h.of_sp (by simp)) ?hold)))
  case finish => exact (frameFinish_keepsSp _ h).upd (by simp)
  case hold => exact (frameHold_keepsSp _ h).andThen (.of_sp (by simp))

theorem updGroupOp_keepsSp {opt : BitVec 12} : KeepsSp (updGroupOp e c sa sb opt) := by
  unfold updGroupOp
  exact coreGo_keepsSp fun _ _ h => (updTo_keepsSp _ h).andThen (.of_sp (by simp))

theorem updRunOp_keepsSp {opt : BitVec 12} : KeepsSp (updRunOp e c sa sb opt) := by
  unfold updRunOp
  refine coreGo_keepsSp fun t0 t h => ?_
  refine (updTo_keepsSp _ h).andThen (.of_sp fun t => ?_)
  dsimp only
  rw [tile_ite, sp_ite]
  split
  · rfl
  · split <;> simp

theorem updWaitOp_keepsSp {opt : BitVec 12} : KeepsSp (updWaitOp e c sa sb opt) := coreGo_keepsSp fun _ _ h => (updFinish_keepsSp _ h).upd (by simp)

end

/-! ### The mesh -/

theorem slotInput_keepsSp {entry port present off : Nat} : KeepsSp fun t => (slotInput entry port present off t).2 := by
  intro t h
  dsimp -zeta only
  unfold slotInput
  extract_lets cause p o ag
  split
  · split
    · exact h.of_sp (by simp)
    · have done : SpWf o.tile := updTo_keepsSp _ (h.of_sp (slotUses_sp ..))
      exact done.of_sp (by simp)
  · split
    · split
      · exact h.of_sp (by simp)
      · exact h
    · exact h.of_sp (by simp)

theorem landPlan_keepsSp {p cy : Nat} {v : V512} {poison : Bool} : KeepsSp (landPlan p cy v poison) := by
  intro t h
  have done : SpWf (updTo cy (slotUses p cy t)).tile := updTo_keepsSp _ (h.of_sp (slotUses_sp ..))
  exact (done.spLand true poison p v).of_sp (by simp [landPlan])

theorem slotPlace_keepsSp {entry : Nat} {e : SlotEnt} {k : Nat} {v : V512} {poison : Bool} :
    KeepsSp fun t => (slotPlace entry e k v poison t).out := by
  intro t h
  unfold slotPlace
  dsimp only
  split
  · split
    · exact h.of_sp (by simp)
    · exact (landPlan_keepsSp _ h).upd (by simp)
  · exact h.of_sp (by simp)

theorem slotStep_keepsSp {op entry : Nat} {entryBad : Bool} : KeepsSp fun t => (slotStep op entry entryBad t).out := by
  intro t h
  dsimp -zeta only
  unfold slotStep
  extract_lets r e k u present off a q b fin
  have first : SpWf a.2.tile := slotInput_keepsSp _ h
  have second : SpWf b.2.tile := by
    unfold b
    split
    · exact first
    · exact slotInput_keepsSp _ first
  have placed (v : V512) (p : Bool) (o : TOut) (ho : SpWf o.tile) : SpWf (fin v p o).out.tile := slotPlace_keepsSp _ ho
  clear_value a b fin
  dsimp only
  split
  · exact h
  split
  · exact h.of_sp (by simp)
  split
  · exact second.of_sp (by simp)
  · exact second.of_sp (by simp)
  · exact placed _ _ _ second
  · split <;> exact placed _ _ _ second
  · exact placed _ _ _ second
  · split
    · split <;> exact placed _ _ _ (second.of_sp (by simp))
    · split <;> exact placed _ _ _ second

theorem landNext_keepsSp {e : TEnv} {deferred : Nat} {inJob : Bool} : KeepsSp (landNext e deferred inJob) := by
  intro t h
  unfold landNext
  split
  · exact h
  · rename_i l rest land
    extract_lets t1 mesh o o' bad wi outside
    have landed : SpWf o'.tile := by
      refine SpWf.bump (.ite (SpWf.bump ?_ ..) (h.bump ..)) ..
      exact (h.spLand false l.poison l.addr l.data).of_sp (by simp [t1, Machine.spLand, Machine.spWriteLine])
    exact .ite (landed.of_sp (by simp)) (landed.of_sp (by simp))

theorem landAll_spWf {e : TEnv} {n : Nat} {o : TOut} (h : SpWf o.tile) : SpWf (landAll e n o).tile := by
  induction n generalizing o with
  | zero => exact h
  | succ n ih =>
    unfold landAll
    exact .ite h (ih (landNext_keepsSp _ h))

theorem nextStep_keepsSp {e : TEnv} {task : Nat} {range : Nat × Nat} : KeepsSp (Tile.nextStep e task range) := by
  intro t h
  unfold Tile.nextStep
  extract_lets same ok o o'
  have landed : SpWf o.tile := by
    refine .ite h ?_
    exact (landAll_spWf (e := e) (n := 64) (o := TOut.of t) h).of_sp (by simp)
  have next : SpWf o'.tile := landed.of_sp (by simp [o'])
  exact .ite next (next.of_sp (by simp))

end Sys2Proof.Machine
end

section
set_option Elab.async false

namespace Sys2Proof.Machine

/-! ## What leaves the map of tiles as it is -/

section
variable {α : Type}

@[simp] theorem tiles_ite (c : Prop) [Decidable c] (a b : State) : (if c then a else b).tiles = if c then a.tiles else b.tiles := apply_ite ..
@[simp] theorem fst_ite (c : Prop) [Decidable c] (a b : State × α) : (if c then a else b).1 = if c then a.1 else b.1 := apply_ite ..
@[simp] theorem snd_ite (c : Prop) [Decidable c] (a b : α × State) : (if c then a else b).2 = if c then a.2 else b.2 := apply_ite ..

@[simp] theorem tiles_foldl {f : State → α → State} {l : List α} {s : State} (hf : ∀ s a, (f s a).tiles = s.tiles) :
    (l.foldl f s).tiles = s.tiles :=
  List.foldlRecOn (motive := fun u => u.tiles = s.tiles) l f rfl fun _ h a _ => (hf _ a).trans h

end

@[simp] theorem State.setJobState_tiles (s : State) (j : SlotIx) (st : Nat) : (s.setJobState j st).tiles = s.tiles := rfl
@[simp] theorem State.random_tiles (s : State) (n : Nat) : (s.random n).2.tiles = s.tiles := rfl

@[simp] theorem State.memWriteLines_tiles (n : Nat) (s : State) (a : Nat) (bs : List Byte) (poison : Bool) :
    (State.memWriteLines n s a bs poison).tiles = s.tiles := by
  induction n generalizing s a bs with
  | zero => rfl
  | succ n ih =>
    rw [State.memWriteLines]
    split
    · rfl
    · rw [ih]
      split <;> simp

@[simp] theorem State.memWrite_tiles (s : State) (addr : Nat) (bs : List Byte) (poison : Bool) : (s.memWrite addr bs poison).tiles = s.tiles :=
  by simp [State.memWrite]

@[simp] theorem State.noteEngine_tiles (e : EngineIx) (s0 s1 : State) : (State.noteEngine e s0 s1).tiles = s1.tiles := by simp [State.noteEngine]

@[simp] theorem State.checkGroup_tiles (s : State) (e : EngineIx) (d : Desc) (di k : Nat) : (s.checkGroup e d di k).tiles = s.tiles :=
  by simp [State.checkGroup]

@[simp] theorem State.bumpAll_tiles (s : State) (l : List (Nat × Nat)) : (s.bumpAll l).tiles = s.tiles := tiles_foldl fun _ _ => rfl

@[simp] theorem State.fetchLine_tiles (s : State) (e : EngineIx) (di err0 err1 : Nat) : (s.fetchLine e di err0 err1).tiles = s.tiles := by
  unfold State.fetchLine
  split
  · rfl
  · extract_lets
    split
    · rfl
    · split
      · rfl
      · split
        · rfl
        · split <;> simp

@[simp] theorem State.requestArrives_tiles (s : State) (e : EngineIx) (di : Nat) : (s.requestArrives e di).tiles = s.tiles := by
  simp only [State.requestArrives]
  repeat' split <;> simp

@[simp] theorem State.commitLine_tiles (s : State) (e : EngineIx) (addr : Nat) (v : V512) (poison : Bool) :
    (s.commitLine e addr v poison).tiles = s.tiles := by
  unfold State.commitLine
  split <;> simp
@[simp] theorem State.commitGroup_tiles (s : State) (e : EngineIx) (d : Desc) (di k : Nat) : (s.commitGroup e d di k).tiles = s.tiles :=
  by simp [State.commitGroup]
@[simp] theorem State.arriveLine_tiles (s : State) (e : EngineIx) (di : Nat) : (s.arriveLine e di).tiles = s.tiles := by simp [State.arriveLine]

theorem State.moveLine_form (s : State) (e : EngineIx) (di err0 err1 : Nat) :
    ∃ (v : State) (f : EngSt → EngSt), s.moveLine e di err0 err1 = v.updEng e f ∧ v.tiles = s.tiles := by
  -- unfolded as a function: unfolded at its arguments, the kernel would evaluate `State.locate`
  have unfolded := Eq.refl @State.moveLine
  conv_rhs at unfolded => delta State.moveLine
  rw [unfolded]
  beta_reduce
  extract_lets
  split
  · exact ⟨_, _, rfl, (State.bumpAll_tiles ..).trans (State.putLine_tiles ..)⟩
  · exact ⟨_, _, rfl, rfl⟩

@[simp] theorem State.moveLine_tiles (s : State) (e : EngineIx) (di err0 err1 : Nat) : (s.moveLine e di err0 err1).tiles = s.tiles := by
  obtain ⟨v, f, form, same⟩ := s.moveLine_form e di err0 err1
  rw [form, State.updEng_tiles, same]

@[simp] theorem State.fillLine_tiles (s : State) (e : EngineIx) (di : Nat) : (s.fillLine e di).tiles = s.tiles := by
  simp only [State.fillLine]
  repeat' split <;> simp

@[simp] theorem State.engStop_tiles (s : State) (e : EngineIx) : (s.engStop e).tiles = s.tiles := by simp [State.engStop]
@[simp] theorem State.shorten_tiles (s : State) (m : StackIx) : (s.shorten m).tiles = s.tiles := rfl
@[simp] theorem State.countPoisonRead_tiles (s : State) (addr len : Nat) : (s.countPoisonRead addr len).tiles = s.tiles := rfl
@[simp] theorem State.serveMem_tiles (s : State) (e : EngineIx) (req : MemRequest) : (s.serveMem e req).tiles = s.tiles := by
  unfold State.serveMem
  split <;> simp

@[simp] theorem State.askStop_tiles (s : State) (j : SlotIx) (status : Nat) : (s.askStop j status).tiles = s.tiles := by simp [State.askStop]
@[simp] theorem State.setReg_tiles (s : State) (d st cause : Nat) : (s.setReg d st cause).tiles = s.tiles := rfl
@[simp] theorem State.faultHold_tiles (s : State) (z : Nat) : (s.faultHold z).tiles = s.tiles := rfl
@[simp] theorem State.requestOn_tiles (s : State) (z : Nat) : (s.requestOn z).tiles = s.tiles := by simp [State.requestOn]
@[simp] theorem State.startRamp_tiles (s : State) (z : Nat) (slow : Bool) (wait : Nat) : (s.startRamp z slow wait).tiles = s.tiles := rfl

@[simp] theorem State.enterDefect_tiles (s : State) (w : U32) (origin slot cause : Nat) : (s.enterDefect w origin slot cause).tiles = s.tiles := by
  unfold State.enterDefect
  extract_lets
  split
  · exact tiles_foldl fun _ _ => rfl
  · split <;> exact tiles_foldl fun _ _ => rfl

@[simp] theorem State.countRefusal_tiles (s : State) (st : Nat) : (s.countRefusal st).tiles = s.tiles := by simp [State.countRefusal]
@[simp] theorem refuse_tiles (k st : Nat) (s : State) : (refuse k st s).1.tiles = s.tiles := rfl
@[simp] theorem State.linkFault_tiles (s : State) (l cause slot : Nat) : (s.linkFault l cause slot).tiles = s.tiles := by simp [State.linkFault]
@[simp] theorem State.linkEvent_tiles (s : State) (l : Nat) : (s.linkEvent l).tiles = s.tiles := rfl
@[simp] theorem State.portStop_tiles (s : State) (p status : Nat) : (s.portStop p status).tiles = s.tiles := by
  unfold State.portStop
  split <;> simp

@[simp] theorem State.sendFlits_tiles (p : Nat) (fs : List DataFlit) (s : State) : (State.sendFlits p fs s).1.tiles = s.tiles := by
  induction fs generalizing s with
  | nil => rfl
  | cons f fs ih =>
    rw [State.sendFlits]
    split <;> exact ih _

@[simp] theorem State.pump_tiles (s : State) (p : Nat) : (s.pump p).tiles = s.tiles := by simp [State.pump]

@[simp] theorem State.enqueue_tiles (s : State) (p vl : Nat) (payloads : List (List Byte)) : (s.enqueue p vl payloads).tiles = s.tiles :=
  (State.pump_tiles ..).trans (tiles_foldl fun _ _ => rfl)

@[simp] theorem State.returnCredit_tiles (s : State) (l vl : Nat) : (s.returnCredit l vl).tiles = s.tiles := rfl
@[simp] theorem State.takeHeader_tiles (s : State) (l ack crvl crn : Nat) : (s.takeHeader l ack crvl crn).tiles = s.tiles :=
  by simp [State.takeHeader]
@[simp] theorem State.flitFails_tiles (s : State) (l : Nat) : (s.flitFails l).tiles = s.tiles := by simp [State.flitFails]

@[simp] theorem State.replayFrom_tiles (s : State) (l fseq : Nat) : (s.replayFrom l fseq).tiles = s.tiles := tiles_foldl fun _ _ => rfl

@[simp] theorem State.cascadeState_tiles (s : State) : s.cascadeState.tiles = s.tiles := by simp [State.cascadeState]
@[simp] theorem State.linkComesUp_tiles (s : State) (l : Nat) : (s.linkComesUp l).tiles = s.tiles := by simp [State.linkComesUp]
@[simp] theorem State.linkBeadFails_tiles (s : State) (p l cause fails : Nat) : (s.linkBeadFails p l cause fails).tiles = s.tiles := by
  unfold State.linkBeadFails
  repeat' split <;> simp

@[simp] theorem State.noteFeatures_tiles (s u : State) : (s.noteFeatures u).tiles = u.tiles := by simp [State.noteFeatures]

@[simp] theorem State.retryFail_tiles (s : State) (kind unit cause : Nat) : (s.retryFail kind unit cause).tiles = s.tiles := rfl
@[simp] theorem State.retryRemove_tiles (s : State) (kind unit : Nat) : (s.retryRemove kind unit).tiles = s.tiles := rfl
@[simp] theorem State.retryPass_tiles (s : State) (kind unit : Nat) : (s.retryPass kind unit).tiles = s.tiles := by simp [State.retryPass]
@[simp] theorem State.loadJob_tiles (j : SlotIx) (s : State) : (State.loadJob j s).1.tiles = s.tiles := by simp [State.loadJob]
@[simp] theorem State.refuseLoad_tiles (s : State) (j : SlotIx) (status : Nat) : (s.refuseLoad j status).tiles = s.tiles := rfl

@[simp] theorem State.startEngines_tiles (s : State) (p : Plan) : (s.startEngines p).tiles = s.tiles := tiles_foldl fun _ _ => rfl

@[simp] theorem State.dropRows_tiles (s : State) (p : Plan) : (s.dropRows p).tiles = s.tiles := rfl
@[simp] theorem State.digestLog_tiles (s : State) (j : SlotIx) : (s.digestLog j).tiles = s.tiles := by simp [State.digestLog]
@[simp] theorem State.applyEvent_tiles (s : State) (j : SlotIx) (e : FenceEv) : (s.applyEvent j e).tiles = s.tiles := by
  unfold State.applyEvent
  split <;> simp

@[simp] theorem State.logEvent_tiles (s : State) (j : SlotIx) (fence : Nat) (e : FenceEv) : (s.logEvent j fence e).tiles = s.tiles :=
  by simp [State.logEvent]
@[simp] theorem State.applyEvents_tiles (s : State) (j : SlotIx) (fence : Nat) : (s.applyEvents j fence).tiles = s.tiles :=
  by simp [State.applyEvents]
@[simp] theorem State.acceptEvent_tiles (j : SlotIx) (index sub value size : Nat) (s : State) :
    (State.acceptEvent j index sub value size s).1.tiles = s.tiles := by simp [State.acceptEvent]
@[simp] theorem State.arrive_tiles (s : State) (j : SlotIx) (u : FenceUnit) (late : Nat) : (s.arrive j u late).tiles = s.tiles := by
  unfold State.arrive
  repeat' split <;> simp

@[simp] theorem State.enterPersistent_tiles (s : State) (slot : Nat) (d : Det) : (s.enterPersistent slot d).tiles = s.tiles :=
  by simp [State.enterPersistent]
@[simp] theorem State.sendAudits_tiles (s : State) (p : Plan) : (s.sendAudits p).tiles = s.tiles := by simp [State.sendAudits]
@[simp] theorem State.shortTransfers_tiles (s : State) (j : SlotIx) (p : Plan) : (s.shortTransfers j p).tiles = s.tiles :=
  by simp [State.shortTransfers]
@[simp] theorem State.stopJob_tiles (j : SlotIx) (s : State) : (State.stopJob j s).1.tiles = s.tiles := by simp [State.stopJob]
@[simp] theorem State.noteTest_tiles (s : State) (kind unit n failed : Nat) : (s.noteTest kind unit n failed).tiles = s.tiles := rfl
@[simp] theorem State.clearTest_tiles (slot : Nat) (failedTiles : List Nat) (wires lanes : List U32) (s : State) (d : Det) :
    (State.clearTest slot failedTiles wires lanes s d).tiles = s.tiles := by simp [State.clearTest]
@[simp] theorem State.laggardTest_tiles (slot : Nat) (failedTiles : List Nat) (s : State) (t : Nat) :
    (State.laggardTest slot failedTiles s t).tiles = s.tiles := by simp [State.laggardTest]
@[simp] theorem State.startTest_tiles (s : State) (q : TestReq) : (s.startTest q).2.tiles = s.tiles := by simp [State.startTest]
@[simp] theorem State.startTests_tiles (s : State) : s.startTests.tiles = s.tiles := by simp [State.startTests]
@[simp] theorem State.writeEta_tiles (j : SlotIx) (g v : Nat) (s : State) : (State.writeEta j g v s).1.tiles = s.tiles := by simp [State.writeEta]
@[simp] theorem State.writeFrozen_tiles (j : SlotIx) (g v : Nat) (s : State) : (State.writeFrozen j g v s).1.tiles = s.tiles :=
  by simp [State.writeFrozen]
@[simp] theorem State.writeSnapshot_tiles (j : SlotIx) (v : Nat) (s : State) : (State.writeSnapshot j v s).1.tiles = s.tiles :=
  by simp [State.writeSnapshot]

@[simp] theorem State.writeEvent_tiles (j : SlotIx) (index sub value : Nat) (s : State) :
    (State.writeEvent j index sub value s).1.tiles = s.tiles := by
  unfold State.writeEvent
  cases evEta index sub with
  | some g => rw [apply_ite (fun w : Writer => (w s).1.tiles), State.writeEta_tiles, ite_self]
  | none =>
    cases evFrozen index sub with
    | some g => rw [apply_ite (fun w : Writer => (w s).1.tiles), State.writeFrozen_tiles, ite_self]
    | none =>
      dsimp only
      split
      · rw [apply_ite (fun w : Writer => (w s).1.tiles), State.writeSnapshot_tiles, ite_self]
      · rfl

@[simp] theorem State.requestTest_tiles (kind : Nat) (s : State) (u : Nat) : (State.requestTest kind s u).tiles = s.tiles :=
  by simp [State.requestTest]
@[simp] theorem State.requestTests_tiles (kind mask n : Nat) (s : State) : (State.requestTests kind mask n s).1.tiles = s.tiles :=
  by simp [State.requestTests]
@[simp] theorem State.quietTest_tiles (s : State) (j : SlotIx) (z kind : Nat) : (s.quietTest j z kind).tiles = s.tiles := by simp [State.quietTest]
@[simp] theorem State.abandonTests_tiles (s : State) (which : TestReq → Bool) : (s.abandonTests which).tiles = s.tiles := by
  unfold State.abandonTests
  split <;> simp

@[simp] theorem State.openPhase_tiles (s : State) (phase fence : Nat) (asked : List Nat) : (s.openPhase phase fence asked).tiles = s.tiles :=
  tiles_foldl fun _ _ => rfl

@[simp] theorem State.outvoted_tiles (s : State) : s.outvoted.tiles = s.tiles := by simp [State.outvoted]
@[simp] theorem State.decideRound_tiles (s : State) (r : WcmpRound) : (s.decideRound r).tiles = s.tiles := by simp [State.decideRound]

@[simp] theorem State.phaseEnds_tiles (s : State) (r : WcmpRound) : (s.phaseEnds r).tiles = s.tiles := by
  unfold State.phaseEnds
  split
  · split <;> simp
  · simp

@[simp] theorem State.wcmpOpens_tiles (s : State) : s.wcmpOpens.tiles = s.tiles := by simp [State.wcmpOpens]
@[simp] theorem State.retarget_tiles (s : State) : s.retarget.tiles = s.tiles := by simp [State.retarget]
@[simp] theorem State.announce_tiles (s : State) (f t : Nat) : (s.announce f t).tiles = s.tiles := by simp [State.announce]
@[simp] theorem State.announceDown_tiles (s : State) : s.announceDown.tiles = s.tiles := by
  simp only [State.announceDown]
  repeat' split <;> simp

@[simp] theorem State.applySwitch_tiles (s : State) : s.applySwitch.tiles = s.tiles := by simp [State.applySwitch]
@[simp] theorem State.ownStretch_tiles (s : State) (z : Nat) (st : Stretch) : (s.ownStretch z st).tiles = s.tiles := rfl

@[simp] theorem State.droop_tiles (s : State) (z elapsed : Nat) : (s.droop z elapsed).tiles = s.tiles := by
  unfold State.droop
  split
  · rfl
  · split
    · simp
    · split
      · simp
      · dsimp only
        split <;> simp

@[simp] theorem State.restart_tiles (s : State) (z : Nat) : (s.restart z).tiles = s.tiles := by
  unfold State.restart
  repeat' split <;> simp

@[simp] theorem State.stretchEnds_tiles (s : State) (z : Nat) : (s.stretchEnds z).tiles = s.tiles := by
  unfold State.stretchEnds
  split <;> simp

@[simp] theorem State.copyStretch_tiles (s : State) (z origin seq len elapsed : Nat) : (s.copyStretch z origin seq len elapsed).tiles = s.tiles :=
  by simp [State.copyStretch]
@[simp] theorem State.extendStretch_tiles (s : State) (z origin seq len : Nat) : (s.extendStretch z origin seq len).tiles = s.tiles := by
  simp only [State.extendStretch]
  repeat' split <;> simp

@[simp] theorem State.lifeTick_tiles (s : State) (d : Nat) : (s.lifeTick d).tiles = s.tiles := rfl
@[simp] theorem State.tallyTo_tiles (s : State) (n : Nat) : (s.tallyTo n).tiles = s.tiles := by simp [State.tallyTo]
@[simp] theorem State.takeDue_tiles (s : State) (d : Due) : (s.takeDue d).1.tiles = s.tiles := by simp [State.takeDue]
@[simp] theorem State.sourceEdge_tiles (s : State) : s.sourceEdge.tiles = s.tiles := by simp [State.sourceEdge]
@[simp] theorem State.sourceLost_tiles (s : State) : s.sourceLost.tiles = s.tiles := by simp [State.sourceLost]
@[simp] theorem State.takeOffset_tiles (s : State) (src use : Nat) : (s.takeOffset src use).tiles = s.tiles := rfl
@[simp] theorem State.takeMark_tiles (s : State) (known : Option Nat) (use : Nat) : (s.takeMark known use).tiles = s.tiles := by simp [State.takeMark]
@[simp] theorem State.commitCounts_tiles (s : State) : s.commitCounts.tiles = s.tiles := rfl
@[simp] theorem State.dieFails_tiles (s : State) (d cause : Nat) : (s.dieFails d cause).tiles = s.tiles := rfl

@[simp] theorem State.evalHeadroom_tiles (s : State) (g : Nat) : (s.evalHeadroom g).tiles = s.tiles := tiles_foldl fun _ _ => rfl

@[simp] theorem State.ledger_tiles (s : State) (g : GroupIx) (meas : Nat) (ws : List Nat) : (s.ledger g meas ws).tiles = s.tiles :=
  tiles_foldl fun _ _ => rfl

@[simp] theorem State.countLeft_tiles (s : State) (left : Bool) : (s.countLeft left).tiles = s.tiles := rfl
@[simp] theorem State.writeUnpark_tiles (m : Nat) (s : State) : (State.writeUnpark m s).1.tiles = s.tiles := by simp [State.writeUnpark]
@[simp] theorem State.dieTemp_tiles (s : State) : s.dieTemp.tiles = s.tiles := rfl
@[simp] theorem State.setUnmet_tiles (s : State) (b : Bool) : (s.setUnmet b).tiles = s.tiles := by simp [State.setUnmet]

@[simp] theorem State.share_tiles (s : State) (p e : Nat) (uses : Job → Bool) : (s.share p e uses).tiles = s.tiles := tiles_foldl fun _ _ => rfl

@[simp] theorem State.divide_tiles (s : State) (p0 e : Nat) : (s.divide p0 e units).tiles = s.tiles := by simp [State.divide]
@[simp] theorem State.energy_tiles (s : State) (es : List Nat) : (s.energy es).tiles = s.tiles := by simp [State.energy]
@[simp] theorem State.verifyImage_tiles (s : State) (kind : Nat) (b : List Byte) : (s.verifyImage kind b).1.tiles = s.tiles :=
  by simp [State.verifyImage]
@[simp] theorem State.itemFails_tiles (s : State) (kind unit cause : Nat) : (s.itemFails kind unit cause).tiles = s.tiles := rfl
@[simp] theorem State.itemFailsNow_tiles (s : State) (kind unit cause : Nat) : (s.itemFailsNow kind unit cause).tiles = s.tiles :=
  by simp [State.itemFailsNow]

@[simp] theorem State.trySlots_tiles (s : State) (item kind : Nat) (img : Nat → List Byte) (is : List Nat) :
    (s.trySlots item kind img is).1.tiles = s.tiles := by
  induction is generalizing s with
  | nil => rfl
  | cons i is ih =>
    unfold State.trySlots
    dsimp only
    split
    · exact ih _
    · split
      · simp
      · rw [ih]
        simp

@[simp] theorem State.stageOutcome_tiles (s : State) (k ms : Nat) : (s.stageOutcome k ms).tiles = s.tiles := rfl
@[simp] theorem State.stageDone_tiles (s : State) (k next : Nat) : (s.stageDone k next).tiles = s.tiles := rfl
@[simp] theorem State.endStart_tiles (s : State) (k outcome : Nat) : (s.endStart k outcome).tiles = s.tiles := rfl
@[simp] theorem State.beginStart_tiles (s : State) (kind : Nat) : (s.beginStart kind).tiles = s.tiles := by simp [State.beginStart]
@[simp] theorem State.dbgReplies_tiles (s : State) (status : Nat) (data : List Byte) : (s.dbgReplies status data).tiles = s.tiles := rfl
@[simp] theorem State.traceAdd_tiles (s : State) (kind unit : Nat) (data : List Byte) : (s.traceAdd kind unit data).tiles = s.tiles :=
  by simp [State.traceAdd]

@[simp] theorem State.dbgWrote_tiles (s : State) (j : SlotIx) (cmd : Nat) : (s.dbgWrote j cmd).tiles = s.tiles := by
  unfold State.dbgWrote
  rw [State.dbgReplies_tiles, State.traceAdd_tiles, tiles_ite, ite_self]

@[simp] theorem State.doeAnswer_tiles (s : State) (msg : List Byte) : (s.doeAnswer msg).tiles = s.tiles := rfl
@[simp] theorem State.spdmChallenge_tiles (s : State) (req : List Byte) : (s.spdmChallenge req).tiles = s.tiles := rfl
@[simp] theorem State.spdmMeasurements_tiles (s : State) (index : Nat) (sign : Bool) (req : List Byte) :
    (s.spdmMeasurements index sign req).tiles = s.tiles := by simp [State.spdmMeasurements]
@[simp] theorem State.serveDoe_tiles (s : State) (r : DoeReq) : (s.serveDoe r).tiles = s.tiles := by
  unfold State.serveDoe
  split <;> simp

@[simp] theorem State.doe_tiles (s : State) (r : DoeReq) : (s.doe r).tiles = s.tiles := by simp [State.doe]
@[simp] theorem State.doeDrain_tiles (s : State) : s.doeDrain.tiles = s.tiles := by simp [State.doeDrain]
@[simp] theorem State.setPool_tiles (s : State) (pool : Nat) : (s.setPool pool).tiles = s.tiles := rfl

@[simp] theorem State.writePool_tiles (v : Nat) (s : State) : (State.writePool v s).1.tiles = s.tiles := by simp [State.writePool, rwj]

@[simp] theorem State.tokenBreak_tiles (s : State) : s.tokenBreak.tiles = s.tiles := rfl
@[simp] theorem State.applyMove_tiles (s : State) (seq w : Nat) (up : Bool) : (s.applyMove seq w up).tiles = s.tiles := by simp [State.applyMove]

@[simp] theorem State.tokenAck_tiles (s : State) (device seq holding : Nat) : (s.tokenAck device seq holding).tiles = s.tiles := by
  unfold State.tokenAck
  dsimp only
  split
  · rfl
  · split
    · rfl
    · split <;> split
      · rfl
      · split <;> simp
      · rfl
      · split <;> simp

@[simp] theorem State.ownHalves_tiles (s : State) : s.ownHalves.tiles = s.tiles := by
  simp only [State.ownHalves]
  repeat' split <;> simp

@[simp] theorem State.tokenReports_tiles (s : State) (rs : List (Nat × Nat × Nat)) : (s.tokenReports rs).tiles = s.tiles := by
  simp only [State.tokenReports]
  repeat' split <;> simp

@[simp] theorem State.ackMove_tiles (s : State) (seq : Nat) : (s.ackMove seq).tiles = s.tiles := rfl
@[simp] theorem State.linkTo_tiles (s : State) (l : Nat) (k : LinkSt) : (s.linkTo l k).tiles = s.tiles := rfl

@[simp] theorem State.flood_tiles (s : State) (but : Nat) : (s.flood but).tiles = s.tiles := tiles_foldl fun _ _ => rfl

@[simp] theorem State.negotiate_tiles (s : State) (l : Nat) (f : Identity) : (s.negotiate l f).tiles = s.tiles := by
  unfold State.negotiate
  split <;> simp

@[simp] theorem State.setRow_tiles (s : State) (key : Nat) (ls : List SwLine) : (s.setRow key ls).tiles = s.tiles := rfl
@[simp] theorem State.countXfer_tiles (s : State) (p dev : Nat) (landed : Bool) : (s.countXfer p dev landed).tiles = s.tiles := by
  unfold State.countXfer
  split <;> simp

@[simp] theorem State.sendTransfer_tiles (s : State) (right : Bool) (row : Nat) : (s.sendTransfer right row).tiles = s.tiles := by
  unfold State.sendTransfer
  dsimp only
  split
  · rfl
  · split
    · simp
    · split
      · simp
      · split
        · rfl
        · split <;> simp

@[simp] theorem State.takeReady_tiles (s : State) (p : Nat) (fs : List (Nat × DataFlit)) : (s.takeReady p fs).tiles = s.tiles :=
  tiles_foldl fun _ _ => rfl

@[simp] theorem State.tallyFlit_tiles (s : State) (l t hops : Nat) : (s.tallyFlit l t hops).tiles = s.tiles := by
  unfold State.tallyFlit
  extract_lets better src link s1 s2
  have live : s2.tiles = s.tiles := by simp [s2, s1]
  clear_value s2
  rw [tiles_ite, tiles_foldl fun s _ => State.send_tiles s _, live, ite_self]

@[simp] theorem State.dieAtS0_tiles (s : State) (failed : List RegDieIx) (d : Nat) : (s.dieAtS0 failed d).tiles = s.tiles := by simp [State.dieAtS0]
@[simp] theorem State.takeAddresses_tiles (s : State) : s.takeAddresses.tiles = s.tiles := rfl
@[simp] theorem State.bootSlots_tiles (s : State) : s.bootSlots.1.tiles = s.tiles := by simp [State.bootSlots]
@[simp] theorem State.mgmtRuns_tiles (s : State) (slot : Nat) : (s.mgmtRuns slot).tiles = s.tiles := rfl

-- not by `rfl`: `simp` would leave it to the kernel, which would build the map

@[simp] theorem State.buildMap_tiles (s : State) : s.buildMap.tiles = s.tiles := by rw [State.buildMap]

@[simp] theorem State.startHolds_tiles (s : State) : s.startHolds.tiles = s.tiles := tiles_foldl fun _ _ => rfl

@[simp] theorem State.linksAtS2_tiles (s : State) : s.linksAtS2.tiles = s.tiles := tiles_foldl fun _ _ => rfl

@[simp] theorem State.takeIdentity_tiles (s : State) : s.takeIdentity.tiles = s.tiles := by simp [State.takeIdentity]
@[simp] theorem State.s2Values_tiles (s : State) (fuse0Ok : Bool) : (s.s2Values fuse0Ok).tiles = s.tiles := by simp [State.s2Values]
@[simp] theorem State.rampStep_tiles (s : State) : s.rampStep.tiles = s.tiles := by simp [State.rampStep]
@[simp] theorem State.ramp_tiles (s : State) : s.ramp.tiles = s.tiles := by simp [State.ramp]
@[simp] theorem State.s5Enter_tiles (s : State) (ws : List U32) : (s.s5Enter ws).tiles = s.tiles := by simp [State.s5Enter]
@[simp] theorem State.stackOut_tiles (s : State) (m : StackIx) (state : Nat) : (s.stackOut m state).tiles = s.tiles := rfl
@[simp] theorem State.stackIn_tiles (s : State) (m : StackIx) (r : TrainResult) : (s.stackIn m r).tiles = s.tiles := by simp [State.stackIn]
@[simp] theorem State.stackAtS6_tiles (s : State) (results : List (StackIx × TrainResult)) (m : StackIx) : (s.stackAtS6 results m).tiles = s.tiles :=
  by simp [State.stackAtS6]
@[simp] theorem State.dieLinks_tiles (s : State) (k : Nat) (f : Nat → LinkSt → LinkSt) : (s.dieLinks k f).tiles = s.tiles := rfl
@[simp] theorem State.dieAtS8_tiles (s : State) (failed : List LinkDieIx) (links : List (LinkIx × LinkTrain)) (k : Nat) :
    (s.dieAtS8 failed links k).tiles = s.tiles := by simp [State.dieAtS8]
@[simp] theorem State.countClean_tiles (s : State) : s.countClean.tiles = s.tiles := rfl

@[simp] theorem State.writeShimmer_tiles (v : Nat) (s : State) : (State.writeShimmer v s).1.tiles = s.tiles := by simp [State.writeShimmer, rwj]

@[simp] theorem State.writeShimmerOffset_tiles (v : Nat) (s : State) : (State.writeShimmerOffset v s).1.tiles = s.tiles := by
  simp [State.writeShimmerOffset, rwj]

@[simp] theorem State.lineEdge_tiles (s : State) : s.lineEdge.tiles = s.tiles := by simp [State.lineEdge]
@[simp] theorem State.writeEpoch_tiles (v : Nat) (s : State) : (State.writeEpoch v s).1.tiles = s.tiles := by simp [State.writeEpoch]
@[simp] theorem State.writeResync_tiles (s : State) : s.writeResync.1.tiles = s.tiles := by simp [State.writeResync]
@[simp] theorem State.writeOrigin_tiles (v : Nat) (s : State) : (State.writeOrigin v s).1.tiles = s.tiles := rfl
@[simp] theorem State.setUpd_tiles (s : State) (st : Nat) : (s.setUpd st).tiles = s.tiles := rfl
@[simp] theorem State.writeHalf_tiles (s : State) (h : Fin 2) (sec : List Byte) : (s.writeHalf h sec).tiles = s.tiles := rfl
@[simp] theorem State.endS7_tiles (s : State) : s.endS7.tiles = s.tiles := by simp [State.endS7]

theorem State.writeFwUpdate_form (v : Nat) (s : State) : ∃ (u : State) (st : Nat), State.writeFwUpdate v s = (u, st) ∧ u.tiles = s.tiles := by
  unfold State.writeFwUpdate
  by_cases one : v ≠ 1
  · exact ⟨_, _, if_pos one, rfl⟩
  by_cases busy : fuVerifying ≤ s.boot.updState ∧ s.boot.updState ≤ fuWaiting
  · exact ⟨_, _, (if_neg one).trans (if_pos busy), rfl⟩
  simp only [if_neg one, if_neg busy]
  -- a variable: the kernel would read the 64 KiB of the image
  generalize s.memBytes _ _ = img
  have image : ((s.setUpd fuVerifying).verifyImage imgEcmet img).1.tiles = s.tiles := (State.verifyImage_tiles ..).trans (State.setUpd_tiles ..)
  split
  · exact ⟨_, _, rfl, (State.setUpd_tiles ..).trans image⟩
  · exact ⟨_, _, rfl, (State.setUpd_tiles ..).trans ((State.updBoot_tiles ..).trans ((State.writeHalf_tiles ..).trans image))⟩

@[simp] theorem State.writeFwUpdate_tiles (v : Nat) (s : State) : (State.writeFwUpdate v s).1.tiles = s.tiles := by
  obtain ⟨u, st, form, same⟩ := State.writeFwUpdate_form v s
  rw [form, same]

@[simp] theorem State.afterFinal_tiles (s : State) : s.afterFinal.tiles = s.tiles := by simp [State.afterFinal]
@[simp] theorem State.stageChunk_tiles (s : State) (t c : Nat) : (s.stageChunk t c).tiles = s.tiles := rfl
@[simp] theorem State.writeMgmtUpdate_tiles (v : Nat) (s : State) : (State.writeMgmtUpdate v s).1.tiles = s.tiles := by simp [State.writeMgmtUpdate]
@[simp] theorem State.writeRecovery_tiles (offset : Nat) (data : List Byte) (s : State) : (State.writeRecovery offset data s).1.tiles = s.tiles :=
  by simp [State.writeRecovery]
@[simp] theorem State.writeAttestNonce_tiles (nonce : List Byte) (s : State) : (State.writeAttestNonce nonce s).1.tiles = s.tiles :=
  by simp [State.writeAttestNonce]

theorem State.blow_tiles {s : State} {blown : Bool} {good : State → State} {partly : Nat → State → State} (hgood : (good s).tiles = s.tiles)
    (hpartly : ∀ n, (partly n s).tiles = s.tiles) : (s.blow blown good partly).1.tiles = s.tiles := by
  unfold State.blow
  split
  · exact hgood
  · exact hpartly _

@[simp] theorem maintDefect_tiles (bs : List Byte) (b : Bool) (s : State) : (maintDefect bs b s).1.tiles = s.tiles := by simp [maintDefect]
@[simp] theorem maintOverflow_tiles (bs : List Byte) (b : Bool) (s : State) : (maintOverflow bs b s).1.tiles = s.tiles := by simp [maintOverflow]
@[simp] theorem maintRetry_tiles (bs : List Byte) (b : Bool) (s : State) : (maintRetry bs b s).1.tiles = s.tiles := by simp [maintRetry]
@[simp] theorem maintThaw_tiles (bs : List Byte) (b : Bool) (s : State) : (maintThaw bs b s).1.tiles = s.tiles := by simp [maintThaw]

@[simp] theorem maintRollback_tiles (bs : List Byte) (b : Bool) (s : State) : (maintRollback bs b s).1.tiles = s.tiles := by
  unfold maintRollback
  dsimp only
  split
  · rfl
  · split
    · rfl
    · exact State.blow_tiles rfl fun _ => rfl

@[simp] theorem maintRevoke_tiles (signer : Nat) (bs : List Byte) (b : Bool) (s : State) : (maintRevoke signer bs b s).1.tiles = s.tiles := by
  unfold maintRevoke
  dsimp only
  split
  · rfl
  · split
    · rfl
    · exact State.blow_tiles rfl fun _ => rfl

@[simp] theorem maintLock_tiles (bs : List Byte) (b : Bool) (s : State) : (maintLock bs b s).1.tiles = s.tiles := by
  unfold maintLock
  dsimp only
  split
  · rfl
  · exact State.blow_tiles rfl fun _ => rfl

@[simp] theorem State.maintRefused_tiles (s : State) (code : Nat) : (s.maintRefused code).1.tiles = s.tiles := rfl
@[simp] theorem State.newMaintNonce_tiles (s : State) : s.newMaintNonce.tiles = s.tiles := rfl

theorem maintOp_tiles {mop signer : Nat} {f : MaintOp} (h : maintOp mop signer = some f) (bs : List Byte) (b : Bool) (s : State) :
    (f bs b s).1.tiles = s.tiles := by
  unfold maintOp at h
  split at h
  · exact Option.some.inj h ▸ maintDefect_tiles ..
  · exact Option.some.inj h ▸ maintOverflow_tiles ..
  · exact Option.some.inj h ▸ maintRetry_tiles ..
  · exact Option.some.inj h ▸ maintThaw_tiles ..
  · exact Option.some.inj h ▸ maintRollback_tiles ..
  · exact Option.some.inj h ▸ maintRevoke_tiles ..
  · exact Option.some.inj h ▸ maintLock_tiles ..
  · cases h

@[simp] theorem State.writeMaint_tiles (cmd : List Byte) (blown : Bool) (s : State) : (State.writeMaint cmd blown s).1.tiles = s.tiles := by
  unfold State.writeMaint
  extract_lets slot s1
  split
  · rfl
  split
  · rfl
  split
  · simp
  split
  · simp
  split
  · simp
  split
  · simp [s1]
  split
  · simp [s1]
  · rename_i f op
    have done : (f ((cmd.drop 32).take 32) blown s1).1.tiles = s.tiles := (maintOp_tiles op ..).trans (by simp [s1])
    split
    · simp [s1]
    · extract_lets r
      split
      · simp [s1]
      · exact done

@[simp] theorem State.writeDbgRequest_tiles (v : Nat) (s : State) : (State.writeDbgRequest v s).1.tiles = s.tiles := by simp [State.writeDbgRequest]
@[simp] theorem State.readChallenge_tiles (s : State) : s.readChallenge.1.tiles = s.tiles := by simp [State.readChallenge]
@[simp] theorem State.writeDbgResponse_tiles (resp : List Byte) (inTime : Bool) (s : State) :
    (State.writeDbgResponse resp inTime s).1.tiles = s.tiles := by simp [State.writeDbgResponse]
@[simp] theorem State.writeDbgLock_tiles (s : State) : s.writeDbgLock.1.tiles = s.tiles := rfl
@[simp] theorem State.clearLinkFault_tiles (s : State) (l : Nat) : (s.clearLinkFault l).tiles = s.tiles := rfl
@[simp] theorem State.readObj_tiles (s : State) (r : ObjRow) (u sub : Nat) : (s.readObj r u sub).1.tiles = s.tiles := by simp [State.readObj]
@[simp] theorem keepNat_tiles (ok : Bool) (key size v : Nat) (s : State) : (keepNat ok key size v s).1.tiles = s.tiles := by simp [keepNat]
@[simp] theorem ethWrite_tiles (ok : Bool) (key : Nat) (bs : List Byte) (s : State) : (ethWrite ok key bs s).1.tiles = s.tiles := by simp [ethWrite]
@[simp] theorem State.writeFreqRequest_tiles (v : Nat) (s : State) : (State.writeFreqRequest v s).1.tiles = s.tiles :=
  by simp [State.writeFreqRequest]
@[simp] theorem State.writeTallySource_tiles (v : Nat) (s : State) : (State.writeTallySource v s).1.tiles = s.tiles :=
  by simp [State.writeTallySource]
@[simp] theorem State.writePower_tiles (lo hi v : Nat) (f : PwrSt → PwrSt) (s : State) : (State.writePower lo hi v f s).1.tiles = s.tiles :=
  by simp [State.writePower]
@[simp] theorem State.writeLimitSet_tiles (v : Nat) (s : State) : (State.writeLimitSet v s).1.tiles = s.tiles := by simp [State.writeLimitSet]
@[simp] theorem State.writeTripCool_tiles (v : Nat) (s : State) : (State.writeTripCool v s).1.tiles = s.tiles := by simp [State.writeTripCool]
@[simp] theorem State.writeIdlePark_tiles (v : Nat) (s : State) : (State.writeIdlePark v s).1.tiles = s.tiles := rfl
@[simp] theorem State.writeTokenPeriod_tiles (v : Nat) (s : State) : (State.writeTokenPeriod v s).1.tiles = s.tiles :=
  by simp [State.writeTokenPeriod]
@[simp] theorem State.writeTokenStep_tiles (v : Nat) (s : State) : (State.writeTokenStep v s).1.tiles = s.tiles := by simp [State.writeTokenStep]
@[simp] theorem State.writeTokenFloor_tiles (v : Nat) (s : State) : (State.writeTokenFloor v s).1.tiles = s.tiles := by simp [State.writeTokenFloor]
@[simp] theorem State.writeGranule_tiles (v : Nat) (s : State) : (State.writeGranule v s).1.tiles = s.tiles := by simp [State.writeGranule]
@[simp] theorem State.writeGrouping_tiles (v : Nat) (s : State) : (State.writeGrouping v s).1.tiles = s.tiles := by simp [State.writeGrouping]
@[simp] theorem State.writeMasterSet_tiles (v : Nat) (s : State) : (State.writeMasterSet v s).1.tiles = s.tiles := by simp [State.writeMasterSet]
@[simp] theorem State.writeRoutes_tiles (bs : List Byte) (s : State) : (State.writeRoutes bs s).1.tiles = s.tiles := by simp [State.writeRoutes]
@[simp] theorem State.writeSlot_tiles (j : SlotIx) (ok : Job → Bool) (f : Job → Job) (s : State) : (State.writeSlot j ok f s).1.tiles = s.tiles :=
  by simp [State.writeSlot]
@[simp] theorem State.writeMembers_tiles (j : SlotIx) (bs : List Byte) (s : State) : (State.writeMembers j bs s).1.tiles = s.tiles :=
  by simp [State.writeMembers]
@[simp] theorem State.writeSelftest_tiles (v : Nat) (s : State) : (State.writeSelftest v s).1.tiles = s.tiles := by
  unfold State.writeSelftest
  split <;> simp

@[simp] theorem State.writeWcmp_tiles (sub v : Nat) (s : State) : (State.writeWcmp sub v s).1.tiles = s.tiles := by simp [State.writeWcmp]
@[simp] theorem State.writeTraceCtrl_tiles (v : Nat) (s : State) : (State.writeTraceCtrl v s).1.tiles = s.tiles := by simp [State.writeTraceCtrl]
@[simp] theorem State.readAt_tiles (s : State) (i sub len : Nat) (offset : Option Nat) (room : Nat) :
    (s.readAt i sub len offset room).1.tiles = s.tiles := by
  unfold State.readAt
  split <;> simp
@[simp] theorem State.readOp_tiles (s : State) (served : Bool) (i sub len : Nat) (offset : Option Nat) (room : Nat) :
    (s.readOp served i sub len offset room).1.tiles = s.tiles := by simp [State.readOp]
@[simp] theorem State.updSession_tiles (s : State) (id : Nat) (f : Session → Session) : (s.updSession id f).tiles = s.tiles := rfl
@[simp] theorem State.updEq_tiles (s : State) (q : Fin 16) (f : Eq_ → Eq_) : (s.updEq q f).tiles = s.tiles := rfl
@[simp] theorem State.writeEntry_tiles (s : State) (q : Fin 16) (e : Event) : (s.writeEntry q e).tiles = s.tiles := rfl
@[simp] theorem State.queueEvent_tiles (s : State) (q : Fin 16) (e : Event) : (s.queueEvent q e).tiles = s.tiles := by simp [State.queueEvent]
@[simp] theorem State.drainOne_tiles (s : State) (q : Fin 16) : (s.drainOne q).tiles = s.tiles := by
  unfold State.drainOne
  repeat' split <;> simp

@[simp] theorem State.drainAll_tiles (s : State) : s.drainAll.tiles = s.tiles := by simp [State.drainAll]

@[simp] theorem State.traceEvent_tiles (s : State) (e : Event) : (s.traceEvent e).tiles = s.tiles := State.updHost_tiles ..

@[simp] theorem State.notify_tiles (s : State) (e : Event) : (s.notify e).tiles = s.tiles := tiles_foldl fun _ _ => rfl

@[simp] theorem State.routeEvent_tiles (s : State) (e : Event) : (s.routeEvent e).tiles = s.tiles := by simp [State.routeEvent]
@[simp] theorem State.message_tiles (s : State) (v : Nat) : (s.message v).tiles = s.tiles := by simp [State.message]
@[simp] theorem State.respond_tiles (s : State) (car origin status : Nat) (frame : List Byte) : (s.respond car origin status frame).tiles = s.tiles :=
  by simp [State.respond]
@[simp] theorem State.answerFrame_tiles (s : State) (car origin minor kind sess seq status : Nat) (body : List Byte) :
    (s.answerFrame car origin minor kind sess seq status body).tiles = s.tiles := by simp [State.answerFrame]
@[simp] theorem State.refuseFrame_tiles (s : State) (car origin : Nat) (p : PFrame) (status : Nat) :
    (s.refuseFrame car origin p status).tiles = s.tiles := by simp [State.refuseFrame]
@[simp] theorem State.badFrame_tiles (s : State) (car origin : Nat) : (s.badFrame car origin).tiles = s.tiles := by simp [State.badFrame]
@[simp] theorem State.busyEarly_tiles (s : State) (car origin : Nat) (p : PFrame) : (s.busyEarly car origin p).tiles = s.tiles :=
  by simp [State.busyEarly]
@[simp] theorem State.helloFrom_tiles (s : State) (car origin seq : Nat) (versions : List Nat) (maxFrame : Nat) :
    (s.helloFrom car origin seq versions maxFrame).tiles = s.tiles := by
  unfold State.helloFrom
  repeat' split <;> simp
@[simp] theorem State.dropSession_tiles (s : State) (id : Nat) : (s.dropSession id).tiles = s.tiles := rfl
@[simp] theorem State.refuseOp_tiles (s : State) (st : Nat) : (s.refuseOp st).1.tiles = s.tiles := by simp [State.refuseOp]
@[simp] theorem State.subscribeOp_tiles (s : State) (e : OpEnv) (o : Op) : (s.subscribeOp e o).1.tiles = s.tiles := by simp [State.subscribeOp]
@[simp] theorem State.respondTo_tiles (s : State) (r : Request) (status : Nat) (body : List Byte) : (s.respondTo r status body).tiles = s.tiles :=
  by simp [State.respondTo]
@[simp] theorem State.timeoutFront_tiles (s : State) : s.timeoutFront.tiles = s.tiles := by
  unfold State.timeoutFront
  split <;> simp

@[simp] theorem State.takeRequest_tiles (s : State) (car origin : Nat) (p : PFrame) (frame : List Byte) :
    (s.takeRequest car origin p frame).tiles = s.tiles := by
  unfold State.takeRequest
  repeat' split <;> simp
@[simp] theorem State.closeFrom_tiles (s : State) (car origin : Nat) (p : PFrame) : (s.closeFrom car origin p).tiles = s.tiles := by
  unfold State.closeFrom
  split <;> simp

@[simp] theorem State.deliverFrame_tiles (s : State) (car origin : Nat) (frame : List Byte) : (s.deliverFrame car origin frame).tiles = s.tiles := by
  unfold State.deliverFrame
  repeat' split <;> simp

@[simp] theorem State.deliverSmbus_tiles (s : State) (frame : List Byte) : (s.deliverSmbus frame).tiles = s.tiles := by
  unfold State.deliverSmbus
  split <;> simp

@[simp] theorem State.arriveFrame_tiles (s : State) (car origin : Nat) (frame : List Byte) : (s.arriveFrame car origin frame).tiles = s.tiles :=
  by simp [State.arriveFrame]

@[simp] theorem State.busyRest_tiles (n : Nat) (s : State) : (State.busyRest n s).tiles = s.tiles := by
  induction n generalizing s with
  | zero => rfl
  | succ n ih =>
    unfold State.busyRest
    split
    · rfl
    · rw [ih]
      simp

@[simp] theorem State.openDebug_tiles (s : State) : s.openDebug.tiles = s.tiles := rfl
@[simp] theorem State.aerErr_tiles (s : State) (k : Nat) : (s.aerErr k).tiles = s.tiles := rfl
@[simp] theorem State.unsupportedRead_tiles (s : State) : s.unsupportedRead.tiles = s.tiles := rfl
@[simp] theorem State.hostReset_tiles (s : State) : s.hostReset.tiles = s.tiles := rfl
@[simp] theorem State.linkDown_tiles (s : State) : s.linkDown.tiles = s.tiles := rfl
@[simp] theorem State.setBusMaster_tiles (s : State) (b : Bool) : (s.setBusMaster b).tiles = s.tiles := by simp [State.setBusMaster]
@[simp] theorem State.discardBar0_tiles (s : State) : s.discardBar0.tiles = s.tiles := rfl

@[simp] theorem State.writeW2Base_tiles (s : State) (v : U64) : (s.writeW2Base v).tiles = s.tiles := State.updHost_tiles ..

@[simp] theorem State.doorbell_tiles (s : State) (v : U64) : (s.doorbell v).tiles = s.tiles := by simp [State.doorbell]
@[simp] theorem State.releaseSlots_tiles (s : State) (v : U64) : (s.releaseSlots v).tiles = s.tiles := by simp [State.releaseSlots]
@[simp] theorem State.drainQueue_tiles (s : State) (q : Fin 16) : (s.drainQueue q).tiles = s.tiles := by simp [State.drainQueue]
@[simp] theorem State.writeEqCtrl_tiles (s : State) (q : Fin 16) (value : U64) : (s.writeEqCtrl q value).tiles = s.tiles :=
  by simp [State.writeEqCtrl]
@[simp] theorem State.writeEqHead_tiles (s : State) (q : Fin 16) (value : U64) : (s.writeEqHead q value).tiles = s.tiles :=
  by simp [State.writeEqHead]
@[simp] theorem State.writeEqBase_tiles (s : State) (q : Fin 16) (value : U64) : (s.writeEqBase q value).tiles = s.tiles :=
  by simp [State.writeEqBase]
@[simp] theorem State.msixUnmask_tiles (s : State) : s.msixUnmask.tiles = s.tiles := by simp [State.msixUnmask]

@[simp] theorem State.writeBar0Reg_tiles (s : State) (o : Nat) (value : U64) : (s.writeBar0Reg o value).tiles = s.tiles := by
  unfold State.writeBar0Reg
  dsimp only
  repeat' split
  all_goals simp

@[simp] theorem State.writeBar0_tiles (s : State) (o width : Nat) (value : U64) : (s.writeBar0 o width value).tiles = s.tiles :=
  by simp [State.writeBar0]
@[simp] theorem State.countPoison_tiles (s : State) (ls : List Nat) : (s.countPoison ls).tiles = s.tiles := rfl
@[simp] theorem State.writePart_tiles (s : State) (p : Nat × List Byte) (poison : Bool) : (s.writePart p poison).tiles = s.tiles :=
  by simp [State.writePart]
@[simp] theorem State.jtag_tiles (s : State) (ir value : Nat) : (s.jtag ir value).tiles = s.tiles := rfl
@[simp] theorem State.dictAnswer_tiles (s : State) (req status : Nat) (data : List Byte) : (s.dictAnswer req status data).tiles = s.tiles := rfl
@[simp] theorem State.ethDiscard_tiles (s : State) : s.ethDiscard.tiles = s.tiles := rfl

end Sys2Proof.Machine
end

section
set_option Elab.async false

namespace Sys2Proof.Machine

/-! ## Tile maps whose scratchpads are canonical -/

/-- Every tile of the map has a scratchpad in canonical form. -/
def SpOk (m : SMap Tile) : Prop := ∀ e ∈ m, SpWf e.2

@[simp] theorem spOk_nil : SpOk [] := fun _ h => nomatch h

theorem SpOk.ins {m : SMap Tile} (h : SpOk m) (k : Nat) {v : Tile} (hv : SpWf v) : SpOk (SMap.ins k v m) := by
  induction m with
  | nil => simpa [SMap.ins, SpOk] using hv
  | cons e m ih =>
    have rest : SpOk m := fun x hx => h x (List.mem_cons_of_mem _ hx)
    have first : SpWf e.2 := h e List.mem_cons_self
    unfold SMap.ins
    split
    · exact List.forall_mem_cons.2 ⟨hv, h⟩
    · split
      · exact List.forall_mem_cons.2 ⟨hv, rest⟩
      · exact List.forall_mem_cons.2 ⟨first, ih rest⟩

theorem SpOk.del {m : SMap Tile} (h : SpOk m) (k : Nat) : SpOk (SMap.del k m) := by
  induction m with
  | nil => exact h
  | cons e m ih =>
    have rest : SpOk m := fun x hx => h x (List.mem_cons_of_mem _ hx)
    unfold SMap.del
    split
    · exact rest
    · exact List.forall_mem_cons.2 ⟨h e List.mem_cons_self, ih rest⟩

theorem SpOk.put {m : SMap Tile} (h : SpOk m) (k : Nat) {v : Tile} (hv : SpWf v) : SpOk (SMap.put Tile.reset m k v) := by
  unfold SMap.put
  split
  · exact h.del k
  · exact h.ins k hv

theorem SpOk.get {m : SMap Tile} (h : SpOk m) (k : Nat) : SpWf (SMap.get Tile.reset m k) := by
  induction m with
  | nil => exact spWf_reset
  | cons e m ih =>
    unfold SMap.get
    split
    · exact h e List.mem_cons_self
    · exact ih fun x hx => h x (List.mem_cons_of_mem _ hx)

theorem SMap.get_of_mem {α : Type} [DecidableEq α] {d : α} {m : SMap α} {lo : Nat} (hm : SMap.wfFrom d lo m = true) {e : Nat × α}
    (he : e ∈ m) :
    lo ≤ e.1 ∧ SMap.get d m e.1 = e.2 := by
  induction m generalizing lo with
  | nil => cases he
  | cons x m ih =>
    simp only [SMap.wfFrom, Bool.and_eq_true, decide_eq_true_eq] at hm
    obtain ⟨⟨above, -⟩, rest⟩ := hm
    unfold SMap.get
    rcases List.mem_cons.1 he with rfl | he
    · exact ⟨above, if_pos rfl⟩
    · obtain ⟨later, value⟩ := ih rest he
      exact ⟨by omega, (if_neg (by omega)).trans value⟩

section
variable {s : State}

theorem State.tile_spWf (h : SpOk s.tiles) (t : Nat) : SpWf (s.tile t) := h.get t

theorem State.spOk_of_spInv (wf : SMap.wf Tile.reset s.tiles = true) (h : s.SpInv) : SpOk s.tiles := by
  intro e he
  have value := (SMap.get_of_mem wf he).2
  exact value ▸ h e.1

theorem SpOk.spInv (h : SpOk s.tiles) : s.SpInv := fun t => h.get t

@[simp] theorem spOk_ite {c : Prop} [Decidable c] {a b : SMap Tile} : SpOk (if c then a else b) ↔ if c then SpOk a else SpOk b :=
  iff_of_eq (apply_ite ..)

theorem SpOk.ite {c : Prop} [Decidable c] {a b : State} (ha : SpOk a.tiles) (hb : SpOk b.tiles) : SpOk (if c then a else b).tiles := by
  split
  · exact ha
  · exact hb

theorem spOk_foldl {α : Type} {f : State → α → State} {l : List α} (h : SpOk s.tiles) (hf : ∀ u a, SpOk u.tiles → SpOk (f u a).tiles) :
    SpOk (l.foldl f s).tiles :=
  List.foldlRecOn (motive := fun u => SpOk u.tiles) l f h fun _ h a _ => hf _ a h

/-! ### The state's tile operations -/

theorem State.updTile_spOk {t : Nat} {f : Tile → Tile} (h : SpOk s.tiles) (hf : ∀ v, SpWf v → SpWf (f v)) : SpOk (s.updTile t f).tiles :=
  h.put t (hf _ (s.tile_spWf h t))

@[simp] theorem State.updTile_spOk_of_sp {t : Nat} {f : Tile → Tile} (h : SpOk s.tiles) (e : ∀ v, (f v).sp = v.sp) : SpOk (s.updTile t f).tiles :=
  State.updTile_spOk h fun v hv => hv.of_sp (e v)

theorem State.forTiles_spOk {ts : List Nat} {f : Nat → Tile → Tile} (h : SpOk s.tiles) (hf : ∀ t v, SpWf v → SpWf (f t v)) :
    SpOk (s.forTiles ts f).tiles :=
  spOk_foldl h fun _ t h => State.updTile_spOk h (hf t)

@[simp] theorem State.forTiles_spOk_of_sp {ts : List Nat} {f : Nat → Tile → Tile} (h : SpOk s.tiles) (e : ∀ t v, (f t v).sp = v.sp) :
    SpOk (s.forTiles ts f).tiles :=
  State.forTiles_spOk h fun t v hv => hv.of_sp (e t v)

@[simp] theorem State.armTiles_spOk {j : SlotIx} (h : SpOk s.tiles) : SpOk (s.armTiles j).tiles := by
  unfold State.armTiles
  split
  · simp [h]
  · exact h

theorem State.hit_spOk {t : Nat} {x : Hit} (h : SpOk s.tiles) : SpOk (s.hit t x).tiles := by
  unfold State.hit
  split
  · exact h
  · dsimp only
    split
    · exact h
    · exact State.armTiles_spOk h

@[simp] theorem State.putTile_spOk {t : Nat} {o : TOut} (h : SpOk s.tiles) (ho : SpWf o.tile) : SpOk (s.putTile t o).tiles := by
  unfold State.putTile
  extract_lets s1 sum s2
  have put : SpOk s1.tiles := by simpa [s1] using h.put t ho
  have counted : SpOk s2.tiles := by
    unfold s2
    split
    · split
      · exact put
      · exact put
    · exact put
  exact spOk_foldl counted fun _ _ h => State.hit_spOk h

theorem State.putTile_of_keepsSp {f : Tile → TOut} {t : Nat} (h : SpOk s.tiles) (hf : KeepsSp f) : SpOk (s.putTile t (f (s.tile t))).tiles :=
  State.putTile_spOk h (hf _ (s.tile_spWf h t))

/-! ### The outcome of a row -/

/-- The row's next state, if it has one, keeps the canonical form. -/
def ResSp (r : Res) : Prop := ∀ u, r = .next u → SpOk u.tiles

@[simp] theorem resSp_next {u : State} : ResSp (.next u) ↔ SpOk u.tiles :=
  ⟨fun h => h u rfl, fun h _ e => by cases e; exact h⟩

@[simp] theorem resSp_fault {f : Fault} : ResSp (.fault f) := fun _ e => nomatch e

theorem ResSp.ite {c : Prop} [Decidable c] {a b : Res} (ha : ResSp a) (hb : ResSp b) : ResSp (if c then a else b) := by
  split
  · exact ha
  · exact hb

@[simp] theorem resSp_ite {c : Prop} [Decidable c] {a b : Res} : ResSp (if c then a else b) ↔ if c then ResSp a else ResSp b :=
  iff_of_eq (apply_ite ..)

theorem onTile_resSp {t : TileIx} {f : TEnv → Tile → TOut} (h : SpOk s.tiles) (hf : ∀ e, KeepsSp (f e)) : ResSp (onTile t f s) :=
  .ite (resSp_next.2 (State.putTile_of_keepsSp h (hf _))) resSp_fault

theorem onGrid_resSp {t : TileIx} {f : State → State} (h : SpOk (f s).tiles) : ResSp (onGrid t f s) := .ite (resSp_next.2 h) resSp_fault

theorem State.guarded_spOk {v : Serve} {car : Carrier} {cls : Nat} {served : Bool} {w : Writer} (h : SpOk s.tiles) (hw : SpOk (w s).1.tiles) :
    SpOk (s.guarded car cls served v w).1.tiles := by
  simp [State.guarded, h, hw]

theorem mgmtWriteIn_resSp {v : Serve} {car : Carrier} {cls : Nat} {w : Writer} (h : SpOk s.tiles) (hw : SpOk (w s).1.tiles) :
    ResSp (mgmtWriteIn v car cls w s) :=
  .ite (resSp_next.2 h) (resSp_next.2 (by simpa using State.guarded_spOk h hw))

theorem mgmtWrite_resSp {car : Carrier} {cls : Nat} {w : Writer} (h : SpOk s.tiles) (hw : SpOk (w s).1.tiles) : ResSp (mgmtWrite car cls w s) :=
  mgmtWriteIn_resSp h hw

theorem mgmtRead_resSp {f : State → State × Nat × List Byte} (h : SpOk s.tiles) (hf : SpOk (f s).1.tiles) : ResSp (mgmtRead f s) := by
  refine .ite ?_ (.ite ?_ (.ite ?_ (.ite ?_ ?_)))
  · exact resSp_next.2 h
  · exact resSp_next.2 h
  · exact resSp_next.2 h
  · exact resSp_next.2 h
  · exact resSp_next.2 (by simpa using hf)

end

/-! ## The state's operations that write tiles

Each of these lemmas takes the form from the state before. `simp` finds it through the equations above, many of which hold by `rfl`:
`-implicitDefEqProofs` makes it write them down, for a hypothesis it has only up to unfolding is not found. -/

section
variable {s : State}

/-! ### The mesh and the engines -/

@[simp] theorem State.deliverFlit_spOk {t port cy : Nat} {v : V512} {poison hopBad : Bool} (h : SpOk s.tiles) :
    SpOk (s.deliverFlit t port cy v poison hopBad).tiles := by
  unfold State.deliverFlit
  split
  · exact h
  · exact State.updTile_spOk_of_sp h (by simp)

@[simp] theorem State.engPlace_spOk {e : EngineIx} {col u : Nat} {v : V512} {poison corrupt : Bool} (h : SpOk s.tiles) :
    SpOk (s.engPlace e col u v poison corrupt).tiles :=
  State.deliverFlit_spOk h

@[simp] theorem State.departLine_spOk {e : EngineIx} {di : Nat} {corrupt : Bool} (h : SpOk s.tiles) : SpOk (s.departLine e di corrupt).tiles := by
  unfold State.departLine
  extract_lets d k dead unasked s0 s1 g root badGroup fresh s2
  have asked : SpOk s0.tiles := by simpa [s0] using h
  have placed {u : Nat} {v : V512} {poison : Bool} : SpOk (s1.engPlace e d.col u v poison corrupt).tiles :=
    State.engPlace_spOk ((State.checkGroup_tiles ..).symm ▸ asked)
  split
  · simp -implicitDefEqProofs [asked]
  · split
    · simpa using placed
    · simpa using placed

@[simp] theorem State.meshInject_spOk {right : Bool} {row ch : Nat} {ls : List SvLine} (h : SpOk s.tiles) :
    SpOk (s.meshInject right row ch ls).tiles :=
  State.updTile_spOk_of_sp h (by simp)

@[simp] theorem State.switchPacket_spOk {right : Bool} {row ch : Nat} {ls : List SvLine} (h : SpOk s.tiles) :
    SpOk (s.switchPacket right row ch ls).tiles := by
  unfold State.switchPacket
  extract_lets hd dev answer
  have answered (st : Nat) : SpOk (answer st s).tiles := by simp -implicitDefEqProofs [answer, h]
  clear_value answer
  split
  · exact h
  · split
    · exact answered _
    · split
      · exact answered _
      · simp -implicitDefEqProofs [h, answered]

@[simp] theorem State.switchTake_spOk {right : Bool} {row ch : Nat} {l : SvLine} (h : SpOk s.tiles) : SpOk (s.switchTake right row ch l).tiles := by
  unfold State.switchTake
  dsimp only
  split
  · exact State.switchPacket_spOk h
  · exact h

@[simp] theorem State.enterPacket_spOk {p l : Nat} {ls : List LineSlot} (h : SpOk s.tiles) : SpOk (s.enterPacket p l ls).tiles := by
  unfold State.enterPacket
  dsimp only
  split
  · exact h
  · split
    · simp -implicitDefEqProofs [h]
    · exact State.meshInject_spOk h

@[simp] theorem State.arrivePacket_spOk {p l : Nat} {ls : List LineSlot} (h : SpOk s.tiles) : SpOk (s.arrivePacket p l ls).tiles := by
  unfold State.arrivePacket
  extract_lets hd flits fail
  have failed (st : Nat) : SpOk (fail st s).tiles := by simp -implicitDefEqProofs [fail, h]
  clear_value fail
  split
  · exact State.enterPacket_spOk h
  · split
    · exact failed _
    · simp -implicitDefEqProofs [h, failed]

@[simp] theorem State.serviceLines_spOk {p l : Nat} {xs : List LineSlot} (h : SpOk s.tiles) : SpOk (State.serviceLines p l xs s).tiles := by
  induction xs generalizing s with
  | nil => exact h
  | cons x xs ih =>
    unfold State.serviceLines
    exact ih (by simp -implicitDefEqProofs [h])

@[simp] theorem State.deliver_spOk {p l : Nat} {f : DataFlit} (h : SpOk s.tiles) : SpOk (s.deliver p l f).tiles := by
  simp -implicitDefEqProofs [State.deliver, h]

@[simp] theorem State.deliverAll_spOk {p n : Nat} (h : SpOk s.tiles) : SpOk (State.deliverAll p n s).tiles := by
  induction n generalizing s with
  | zero => exact h
  | succ n ih =>
    unfold State.deliverAll
    dsimp only
    split
    · exact h
    · exact ih (by simp -implicitDefEqProofs [h])

@[simp] theorem State.portReceive_spOk {p l : Nat} {f : DataFlit} (h : SpOk s.tiles) : SpOk (s.portReceive p l f).tiles := by
  simp -implicitDefEqProofs [State.portReceive, h]

@[simp] theorem State.portDown_spOk {p : Nat} (h : SpOk s.tiles) : SpOk (s.portDown p).tiles := by
  unfold State.portDown
  extract_lets q ls v cut n rest s1 s2 s3
  have entered : SpOk s1.tiles := by simp -implicitDefEqProofs [s1, h]
  simp -implicitDefEqProofs [s3, s2, entered]

@[simp] theorem State.linkGoDown_spOk {l newState : Nat} (h : SpOk s.tiles) : SpOk (s.linkGoDown l newState).tiles := by
  simp -implicitDefEqProofs [State.linkGoDown, h]

@[simp] theorem State.flitArrives_spOk {l symbols : Nat} {bytes : List Byte} (h : SpOk s.tiles) : SpOk (s.flitArrives l bytes symbols).tiles := by
  simp -implicitDefEqProofs [State.flitArrives, h]

@[simp] theorem State.landTransfer_spOk {p : Nat} {reduction : Bool} (h : SpOk s.tiles) : SpOk (s.landTransfer p reduction).tiles := by
  unfold State.landTransfer
  extract_lets vl fs
  clear_value fs vl
  split
  · exact h
  · split
    · simpa using h
    · split
      · exact h
      · split
        · split
          · simpa using h
          · simpa using h
        · split
          · simpa using h
          · exact spOk_foldl (by simpa using h) fun _ _ h => State.meshInject_spOk h

@[simp] theorem State.flitLeaves_spOk {t : Nat} {f : FlitOut} {corrupt : Bool} (h : SpOk s.tiles) : SpOk (s.flitLeaves t f corrupt).tiles := by
  unfold State.flitLeaves
  dsimp only
  split <;> simp -implicitDefEqProofs [h]

@[simp] theorem State.runSlot_spOk {op t entry : Nat} {entryBad corrupt : Bool} (h : SpOk s.tiles) :
    SpOk (State.runSlot op t entry entryBad corrupt s).tiles := by
  have put := State.putTile_of_keepsSp (t := t) h (slotStep_keepsSp (op := op) (entry := entry) (entryBad := entryBad))
  unfold State.runSlot
  dsimp only
  split
  · exact State.flitLeaves_spOk put
  · exact put

@[simp] theorem State.managerLine_spOk {ch : Nat} {l : SvLine} (h : SpOk s.tiles) : SpOk (s.managerLine ch l).tiles := by
  unfold State.managerLine
  dsimp only
  split
  · exact h
  · split
    · exact h
    · exact State.updTile_spOk_of_sp h (by simp)

@[simp] theorem State.hopInto_spOk {t out ch : Nat} {l : SvLine} {corrupt : Bool} (h : SpOk s.tiles) :
    SpOk (s.hopInto t out ch l corrupt).1.tiles := by
  unfold State.hopInto
  dsimp only
  split
  · exact State.putTile_spOk h ((s.tile_spWf h _).of_sp (svArrive_sp ..))
  · exact State.updTile_spOk_of_sp h (by simp)
  · exact State.switchTake_spOk h
  · simp -implicitDefEqProofs [h]
  · exact h

@[simp] theorem State.hopLine_spOk {t out ch : Nat} {corrupt : Bool} (h : SpOk s.tiles) : SpOk (s.hopLine t out ch corrupt).tiles := by
  unfold State.hopLine
  split
  · exact h
  · split
    · exact h
    · split
      · exact h
      · extract_lets s1 s2 r
        have taken : SpOk s1.tiles := State.updTile_spOk_of_sp h (by simp)
        have credited : SpOk s2.tiles := by
          unfold s2
          split
          · exact State.updTile_spOk_of_sp taken (by simp)
          · exact taken
        have hopped : SpOk r.1.tiles := State.hopInto_spOk credited
        split
        · exact hopped
        · exact State.updTile_spOk_of_sp hopped (by simp)

end

end Sys2Proof.Machine
end

section
set_option Elab.async false

namespace Sys2Proof.Machine

section
variable {s : State}

/-! ### Zones and their power -/

@[simp] theorem State.beginPark_spOk {z cause : Nat} {toOff : Bool} (h : SpOk s.tiles) : SpOk (s.beginPark z cause toOff).tiles := by
  have off : SpOk (s.forTiles (s.zoneTiles (2 ^ z)) fun _ t => t.powerOff).tiles := State.forTiles_spOk h fun _ _ _ => spWf_reset
  simp [State.beginPark, h, off]

@[simp] theorem State.abortPark_spOk {z cause : Nat} (h : SpOk s.tiles) : SpOk (s.abortPark z cause).tiles := by
  simp [State.abortPark, h]

@[simp] theorem State.parkDone_spOk {z : Nat} (h : SpOk s.tiles) : SpOk (s.parkDone z).tiles := by
  unfold State.parkDone
  dsimp only
  split
  · exact h
  · refine State.forTiles_spOk h fun _ t ht => ?_
    split
    · exact spWf_reset
    · exact ht.park

@[simp] theorem State.powerGood_spOk {z : Nat} (h : SpOk s.tiles) : SpOk (s.powerGood z).tiles := by
  unfold State.powerGood
  extract_lets ts s1 s2 p s3
  have powered : SpOk s1.tiles := spOk_foldl h fun _ _ h => State.putTile_of_keepsSp h powerUp_keepsSp
  have loaded : SpOk s2.tiles := by
    unfold s2
    split
    · exact State.forTiles_spOk_of_sp powered fun _ _ => rfl
    · exact powered
  split
  · exact State.beginPark_spOk loaded
  · exact loaded

@[simp] theorem State.parkHeld_spOk {zones : List Nat} (h : SpOk s.tiles) : SpOk (s.parkHeld zones).tiles :=
  spOk_foldl h fun _ _ h => by simp [h]

@[simp] theorem State.zoneTestEnds_spOk {q : TestReq} {failed : List Nat} (h : SpOk s.tiles) : SpOk (s.zoneTestEnds q failed).tiles := by
  unfold State.zoneTestEnds
  extract_lets ts bad tested s1
  split
  · refine State.forTiles_spOk (State.forTiles_spOk_of_sp h fun _ _ => rfl) fun _ t ht => ?_
    split
    · split
      · exact ht
      · exact ht
    · exact ht
  · have scrubbed : SpOk s1.tiles := by
      unfold s1
      split
      · exact spOk_foldl h fun _ _ h => State.putTile_of_keepsSp h powerUp_keepsSp
      · exact h
    exact spOk_foldl scrubbed fun _ _ h => by simpa using h

@[simp] theorem State.testEnds_spOk {u kind : Nat} {failed : List Nat} (h : SpOk s.tiles) : SpOk (s.testEnds u kind failed).tiles := by
  unfold State.testEnds
  split
  · exact h
  · split
    · exact h
    · extract_lets check s1 s2
      have noted : SpOk s1.tiles := by simpa [s1] using h
      have ended : SpOk s2.tiles := State.zoneTestEnds_spOk noted
      clear_value s1 s2
      split
      · exact noted
      · simp [ended]

@[simp] theorem State.marginLost_spOk {z : Nat} (h : SpOk s.tiles) : SpOk (s.marginLost z).tiles := by
  unfold State.marginLost
  dsimp only
  split <;> simp -implicitDefEqProofs [h]

@[simp] theorem State.slip_spOk {t port : Nat} (h : SpOk s.tiles) : SpOk (s.slip t port).tiles := by
  unfold State.slip
  split
  · extract_lets z z' up s1
    have noted : SpOk s1.tiles := by simpa [s1, up] using h
    split
    · exact h
    · exact State.updTile_spOk_of_sp noted (by simp)
  · exact h

@[simp] theorem State.holdZone_spOk {z : Nat} (h : SpOk s.tiles) : SpOk (s.holdZone z).tiles := by
  simp -implicitDefEqProofs [State.holdZone, h]

@[simp] theorem State.sensorFails_spOk {kind index : Nat} (h : SpOk s.tiles) : SpOk (s.sensorFails kind index).tiles := by
  unfold State.sensorFails
  extract_lets per sel z s1
  have noted : SpOk s1.tiles := by simpa [s1] using h
  clear_value s1
  simp [h, noted]

@[simp] theorem State.domainFault_spOk {z : Nat} (h : SpOk s.tiles) : SpOk (s.domainFault z).tiles := by
  have off : SpOk (s.forTiles (s.zoneTiles (2 ^ z)) fun _ t => t.powerOff).tiles := State.forTiles_spOk h fun _ _ _ => spWf_reset
  simpa [State.domainFault] using off

@[simp] theorem State.writePark_spOk {toOff : Bool} {m : Nat} (h : SpOk s.tiles) : SpOk (State.writePark toOff m s).1.tiles := by
  unfold State.writePark
  split
  · exact h
  · extract_lets zs can s1
    have parked : SpOk s1.tiles := spOk_foldl h fun _ _ h => by simp [h]
    simpa using parked

@[simp] theorem State.heat_spOk {z : Nat} {t : Int} (h : SpOk s.tiles) : SpOk (s.heat z t).tiles := by
  unfold State.heat
  dsimp only
  split
  · simp [h]
  · simp [h]

@[simp] theorem State.sampleTemps_spOk {ts : List Int} (h : SpOk s.tiles) : SpOk (s.sampleTemps ts).tiles := by
  unfold State.sampleTemps
  extract_lets s1 zone
  refine spOk_foldl (by simpa [s1] using h) fun u z h => ?_
  split
  · exact h
  · simp -implicitDefEqProofs [h]

@[simp] theorem State.checkLimit_spOk {avg : Nat} (h : SpOk s.tiles) : SpOk (s.checkLimit avg).tiles := by
  unfold State.checkLimit
  dsimp only
  split
  · split
    · split <;> simp -implicitDefEqProofs [h]
    · simpa using h
  · simpa using h

end

end Sys2Proof.Machine
end

section
set_option Elab.async false

namespace Sys2Proof.Machine

section
variable {s : State} {j : SlotIx} {p : Plan}

/-! ### Jobs and their fences -/

@[simp] theorem State.writeRecords_spOk (h : SpOk s.tiles) : SpOk (s.writeRecords p).tiles := by
  refine spOk_foldl (spOk_foldl h fun _ _ h => ?_) fun _ _ h => h
  exact State.updTile_spOk_of_sp h fun _ => rfl

@[simp] theorem State.loadChecks_spOk (h : SpOk s.tiles) : SpOk (s.loadChecks j).tiles := by
  unfold State.loadChecks
  dsimp only
  split
  · exact h
  · split
    · simpa using h
    · simp [h]

@[simp] theorem State.preload_spOk {t : Nat} {q : Nat × Nat × Nat} (h : SpOk s.tiles) : SpOk (s.preload t q).tiles :=
  spOk_foldl h fun _ _ h => State.updTile_spOk h fun _ ht => ht.spLand ..

@[simp] theorem State.startTiles_spOk (h : SpOk s.tiles) : SpOk (s.startTiles j p).tiles := by
  refine spOk_foldl h fun u r h => spOk_foldl (State.putTile_spOk h ?_) fun _ _ h => State.preload_spOk h
  exact startResidence_keepsSp _ ((u.tile_spWf h r.t).of_sp (Tile.jobStart_sp ..))

@[simp] theorem State.startJob_spOk {replay : Bool} (h : SpOk s.tiles) : SpOk (State.startJob j replay s).1.tiles := by
  unfold State.startJob
  extract_lets b mem s0 log
  split
  · exact h
  · rename_i p plan
    extract_lets s1 s2 s3
    have started : SpOk s1.tiles := by simpa [s1] using State.startTiles_spOk (s := s0) h
    clear_value s1
    simp [h, s3, s2, started]

@[simp] theorem State.releaseCycle0_spOk (h : SpOk s.tiles) : SpOk (s.releaseCycle0 j p).tiles := by
  refine State.armTiles_spOk (spOk_foldl h fun u r h => State.putTile_spOk h ?_)
  exact (u.tile_spWf h r.t).of_sp (Tile.firstStep_sp ..)

@[simp] theorem State.cycle0_spOk (h : SpOk s.tiles) : SpOk (s.cycle0 j).tiles := by
  unfold State.cycle0
  extract_lets b
  split
  · exact h
  · split
    · split
      · exact State.releaseCycle0_spOk h
      · split
        · simp [h]
        · exact h
    · exact h

@[simp] theorem State.endJob_spOk {status : Nat} {normal : Bool} (h : SpOk s.tiles) : SpOk (s.endJob j status normal).tiles := by
  unfold State.endJob
  extract_lets b
  split
  · exact h
  · rename_i p plan
    extract_lets tiled s1 s2 s3 prot s4
    have ended : SpOk tiled.tiles :=
      spOk_foldl h fun u r h => State.putTile_spOk h ((u.tile_spWf h r.t).of_sp (by simp))
    have stopped : SpOk s1.tiles := by simp [s1, h, ended]
    clear_value s1
    exact State.parkHeld_spOk (by simpa [s4, s3, s2] using stopped)

@[simp] theorem State.recordBreaks_spOk {len : Nat} {br : List Nat × List Nat} (h : SpOk s.tiles) : SpOk (s.recordBreaks len br).tiles := by
  refine spOk_foldl (spOk_foldl h fun u t h => ?_) fun _ _ h => by simpa using h
  rw [State.lifeFault_tiles, State.bumpTile_tiles]
  exact State.updTile_spOk_of_sp h (by simp)

@[simp] theorem State.recordMirror_spOk {len : Nat} {ds : List Nat} (h : SpOk s.tiles) : SpOk (s.recordMirror len ds).tiles := by
  refine spOk_foldl h fun u t h => ?_
  rw [State.bumpTile_tiles]
  exact State.updTile_spOk_of_sp (State.updTile_spOk_of_sp h fun _ => rfl) fun _ => rfl

@[simp] theorem State.clearFaultBank_spOk {d : Det} (h : SpOk s.tiles) : SpOk (s.clearFaultBank d).tiles := by
  unfold State.clearFaultBank
  split
  · exact State.updTile_spOk_of_sp h fun _ => rfl
  · exact h

@[simp] theorem State.detectionStop_spOk (h : SpOk s.tiles) : SpOk (s.detectionStop j).tiles := by
  unfold State.detectionStop
  extract_lets execs last s1 s2
  have entered : SpOk s2.tiles := by simpa [s2, s1] using h
  exact State.endJob_spOk (spOk_foldl entered fun _ _ h => State.clearFaultBank_spOk h)

@[simp] theorem State.completeStep_spOk {plan : Bool} (h : SpOk s.tiles) : SpOk (s.completeStep j p plan).tiles := by
  unfold State.completeStep
  extract_lets b sums s1 s2 s3 s4
  have logged : SpOk s3.tiles := by simpa [s3, s2, s1] using h
  have cleared : SpOk s4.tiles := State.forTiles_spOk_of_sp logged fun _ _ => rfl
  clear_value s4
  split
  · exact cleared
  · exact cleared

@[simp] theorem State.gatherReports_spOk (h : SpOk s.tiles) : SpOk (s.gatherReports j p).tiles := by
  unfold State.gatherReports
  extract_lets s1
  have settled : SpOk s1.tiles := spOk_foldl h fun _ _ h => State.putTile_of_keepsSp h settleUnits_keepsSp
  simpa using State.recordMirror_spOk settled

@[simp] theorem State.carryOut_spOk {o : FenceOut} (h : SpOk s.tiles) : SpOk (s.carryOut j p o).tiles := by
  unfold State.carryOut
  dsimp only
  split <;> simp -implicitDefEqProofs [h]

@[simp] theorem State.applyDecision_spOk {d : Proposal} (h : SpOk s.tiles) : SpOk (s.applyDecision j d).tiles := by
  unfold State.applyDecision
  extract_lets b s1
  have waited : SpOk s1.tiles := h
  clear_value s1
  split
  · exact h
  · split
    · exact h
    · split
      · extract_lets o
        split
        · simp [waited]
        · simp [waited]
        · simp [waited]
      · exact State.endJob_spOk h
      · exact State.endJob_spOk h
      · exact h
      · exact h

@[simp] theorem State.decideGroup_spOk {ds : List (Nat × Proposal)} (h : SpOk s.tiles) : SpOk (s.decideGroup j ds).tiles := by
  unfold State.decideGroup
  extract_lets b me s1 s2
  have sent : SpOk s2.tiles := spOk_foldl h fun _ _ h => h
  split
  · exact State.applyDecision_spOk sent
  · exact sent

@[simp] theorem State.takeReport_spOk {r : GroupReport} (h : SpOk s.tiles) : SpOk (s.takeReport j r).tiles := by
  simp -implicitDefEqProofs [State.takeReport, h]

@[simp] theorem State.report_spOk {q : Proposal} (h : SpOk s.tiles) : SpOk (s.report j q).tiles := by
  simp [State.report, h]

@[simp] theorem State.rootDecision_spOk (h : SpOk s.tiles) : SpOk (s.rootDecision j).tiles := by
  unfold State.rootDecision
  extract_lets b
  split
  · exact h
  · split
    · exact h
    · extract_lets s1 br s2 dets o s3
      have gathered : SpOk s1.tiles := by simpa [s1] using State.gatherReports_spOk h
      have recorded : SpOk s2.tiles := State.recordBreaks_spOk gathered
      have noted : SpOk s3.tiles := recorded
      clear_value s3
      simp -implicitDefEqProofs [noted]

@[simp] theorem State.rerunUnits_spOk {plan : Bool} (h : SpOk s.tiles) : SpOk (s.rerunUnits j p plan).tiles := by
  unfold State.rerunUnits
  extract_lets s1 s2
  have rerun : SpOk s1.tiles := State.forTiles_spOk_of_sp h fun _ _ => rfl
  exact State.armTiles_spOk (spOk_foldl rerun fun _ _ h => h)

@[simp] theorem State.nextUnits_spOk {n : Nat} (h : SpOk s.tiles) : SpOk (s.nextUnits j p n).tiles := by
  unfold State.nextUnits
  extract_lets s1 s2
  have next : SpOk s1.tiles := spOk_foldl h fun _ _ h => State.putTile_of_keepsSp h nextStep_keepsSp
  exact State.armTiles_spOk (spOk_foldl next fun _ _ h => h)

@[simp] theorem State.release_spOk (h : SpOk s.tiles) : SpOk (s.release j).tiles := by
  unfold State.release
  extract_lets b
  split
  · split
    · exact h
    · split
      · exact State.rerunUnits_spOk h
      · exact State.nextUnits_spOk h
  · exact h

@[simp] theorem State.stepTimesOut_spOk (h : SpOk s.tiles) : SpOk (s.stepTimesOut j).tiles := by
  unfold State.stepTimesOut
  dsimp only
  split
  · exact h
  · split
    · exact h
    · exact State.endJob_spOk h

@[simp] theorem State.killJob_spOk (h : SpOk s.tiles) : SpOk (State.killJob j s).1.tiles := by
  simp [State.killJob, h]

@[simp] theorem State.clearJob_spOk {failedTiles : List Nat} {wires lanes : List U32} (h : SpOk s.tiles) :
    SpOk (State.clearJob j failedTiles wires lanes s).1.tiles := by
  unfold State.clearJob
  extract_lets b s1 s2 s3 s4
  have tested : SpOk s1.tiles := by simpa [s1] using h
  have cleared : SpOk s2.tiles := by
    clear_value s1
    unfold s2
    split
    · split
      · exact spOk_foldl (State.forTiles_spOk_of_sp tested fun _ _ => rfl) fun _ _ h => h
      · exact tested
    · exact tested
  have emptied : SpOk s4.tiles := cleared
  clear_value s4
  split
  · exact h
  · split
    · exact State.parkHeld_spOk (by simpa using emptied)
    · simpa using emptied

@[simp] theorem State.engineTimesOut_spOk {e : EngineIx} (h : SpOk s.tiles) : SpOk (s.engineTimesOut e).tiles := by
  unfold State.engineTimesOut
  dsimp only
  split
  · exact h
  · split
    · exact h
    · split
      · exact h
      · simp -implicitDefEqProofs [h]

@[simp] theorem State.groupsLost_spOk (h : SpOk s.tiles) : SpOk s.groupsLost.tiles :=
  spOk_foldl h fun _ _ h => by simp [h]

@[simp] theorem State.stopGroup_spOk {st : Nat} (h : SpOk s.tiles) : SpOk (s.stopGroup j st).tiles := State.decideGroup_spOk h

@[simp] theorem State.memberReady_spOk {device key : Nat} {members : List Nat} (h : SpOk s.tiles) :
    SpOk (s.memberReady j device members key).tiles := by
  simp -implicitDefEqProofs [State.memberReady, h]

end

end Sys2Proof.Machine
end

section
set_option Elab.async false

namespace Sys2Proof.Machine

section
variable {s : State}

/-! ### Faults, trips and restarts -/

@[simp] theorem State.stopNow_spOk {which : SlotIx → Bool} {status : Nat} (h : SpOk s.tiles) : SpOk (s.stopNow which status).tiles :=
  spOk_foldl h fun _ _ h => by simp [h]

@[simp] theorem State.fieldParks_spOk {g : Nat} (h : SpOk s.tiles) : SpOk (s.fieldParks g).tiles :=
  State.stopNow_spOk (spOk_foldl h fun _ _ h => State.abortPark_spOk h)

@[simp] theorem State.powerDown_tiles : s.powerDown.tiles = [] := rfl

@[simp] theorem State.powerFaults_spOk {die cause : Nat} : SpOk (s.powerFaults die cause).tiles := by
  simp [State.powerFaults]

@[simp] theorem State.fieldDieFails_spOk {d cause : Nat} (h : SpOk s.tiles) : SpOk (s.fieldDieFails d cause).tiles := by
  simp -implicitDefEqProofs [State.fieldDieFails, h]

@[simp] theorem State.stacksLost_spOk {lo n : Nat} {contents : Bool} (h : SpOk s.tiles) : SpOk (s.stacksLost lo n contents).tiles :=
  State.stopNow_spOk h

theorem State.linksGoDown_spOk {newState : Nat} {f : LinkSt → LinkSt} {ls : List Nat} (h : SpOk s.tiles) :
    SpOk (ls.foldl (fun s l => (s.linkGoDown l newState).updLink l f) s).tiles :=
  spOk_foldl h fun _ _ h => State.linkGoDown_spOk h

@[simp] theorem State.edgeDieFails_spOk {d cause : Nat} (h : SpOk s.tiles) : SpOk (s.edgeDieFails d cause).tiles := by
  unfold State.edgeDieFails
  extract_lets s1
  have failed : SpOk s1.tiles := by simpa [s1] using h
  clear_value s1
  split
  · exact h
  · split
    · exact State.stopNow_spOk (State.linksGoDown_spOk failed)
    · exact State.stacksLost_spOk failed
    · exact State.stacksLost_spOk failed
    · exact State.stacksLost_spOk failed
    · exact State.stacksLost_spOk failed
    · exact State.stacksLost_spOk failed
    · exact State.powerFaults_spOk

@[simp] theorem State.trip_spOk {sensor : Nat} (h : SpOk s.tiles) : SpOk (s.trip sensor).tiles := by
  unfold State.trip
  split
  · exact h
  · simp

@[simp] theorem State.shutDown_tiles : s.shutDown.tiles = [] := rfl

@[simp] theorem State.restart_spOk {kind : Nat} : SpOk (s.restart_ kind).tiles := by
  simp [State.restart_]

@[simp] theorem State.writeTripRestart_spOk (h : SpOk s.tiles) : SpOk s.writeTripRestart.1.tiles := by
  simp [State.writeTripRestart, h]

@[simp] theorem State.writeWarmRestart_spOk (h : SpOk s.tiles) : SpOk s.writeWarmRestart.1.tiles := by
  simp [State.writeWarmRestart, h]

/-! ### The start and the firmware -/

@[simp] theorem State.zoneAtS3_spOk {notGood : List ZoneIx} {z : Nat} (h : SpOk s.tiles) : SpOk (s.zoneAtS3 notGood z).tiles := by
  simp -implicitDefEqProofs [State.zoneAtS3, h]

@[simp] theorem State.returnPass_spOk (h : SpOk s.tiles) : SpOk s.returnPass.tiles := by
  have mapped : SpOk (s.updBoot fun b => { b with passes := 1 }).startHolds.buildMap.tiles := by simpa using h
  unfold State.returnPass
  refine .ite mapped (spOk_foldl ?_ fun _ _ h => by simp [h])
  exact spOk_nil

@[simp] theorem State.tileReports_spOk {t : Nat} {f : FwImage} (h : SpOk s.tiles) : SpOk (s.tileReports t f).tiles := by
  unfold State.tileReports
  rw [State.updBoot_tiles]
  exact State.updTile_spOk_of_sp h (by simp)

@[simp] theorem State.fetchFails_spOk {t : Nat} (h : SpOk s.tiles) : SpOk (s.fetchFails t).tiles := by
  simp -implicitDefEqProofs [State.fetchFails, h]

@[simp] theorem State.reportIfWhole_spOk {t : Nat} (h : SpOk s.tiles) : SpOk (s.reportIfWhole t).tiles := by
  unfold State.reportIfWhole
  split
  · split
    · simp [h]
    · exact h
  · exact h

@[simp] theorem State.afterRound_spOk (h : SpOk s.tiles) : SpOk s.afterRound.tiles := by
  have failed : SpOk ((s.silentTiles s.fetchZones).foldl State.fetchFails s).tiles := spOk_foldl h fun _ _ h => State.fetchFails_spOk h
  simp [State.afterRound, h, failed]

/-! ### The debugger -/

theorem State.dbgCommand_spOk {need : Nat} {f : State → State} (h : SpOk s.tiles) (hf : SpOk (f s).tiles) : SpOk (s.dbgCommand need f).tiles := by
  simp [State.dbgCommand, h, hf]

theorem State.dbgTile_spOk {need t : Nat} {f : State → State} (h : SpOk s.tiles) (hf : SpOk (f s).tiles) : SpOk (s.dbgTile need t f).tiles :=
  State.dbgCommand_spOk h (by simp [h, hf])

theorem State.stillTile_spOk {need t : Nat} {f : State → State} (h : SpOk s.tiles) (hf : SpOk (f s).tiles) : SpOk (s.stillTile need t f).tiles :=
  State.dbgTile_spOk h (by simp [h, hf])

theorem State.onSlots_spOk {js : List SlotIx} {cond : Job → Bool} {f : State → SlotIx → State} (h : SpOk s.tiles)
    (hf : ∀ u k, SpOk u.tiles → SpOk (f u k).tiles) : SpOk (s.onSlots js cond f).tiles := by
  have done : SpOk (js.foldl f s).tiles := spOk_foldl h hf
  simp [State.onSlots, h, done]

@[simp] theorem State.armHalt_spOk {j : SlotIx} {x : HaltReq} (h : SpOk s.tiles) : SpOk (s.armHalt j x).tiles := State.armTiles_spOk h

@[simp] theorem State.freeze_spOk {j : SlotIx} {cyc cause : Nat} (h : SpOk s.tiles) : SpOk (s.freeze j cyc cause).tiles := by
  unfold State.freeze
  extract_lets ts s1 s2 w prot s3
  have advanced : SpOk s1.tiles := by
    unfold s1
    split
    · exact spOk_foldl h fun u t h => State.putTile_spOk h ((frameTo_keepsSp _ (u.tile_spWf h t)).andThen updTo_keepsSp)
    · exact h
  have frozen : SpOk s2.tiles := State.forTiles_spOk_of_sp advanced fun _ _ => rfl
  simpa [s3] using frozen

@[simp] theorem State.unfreeze_spOk {j : SlotIx} (h : SpOk s.tiles) : SpOk (s.unfreeze j).tiles :=
  State.forTiles_spOk_of_sp h fun _ _ => rfl

theorem execHaltAt_resSp {j : SlotIx} {all : Bool} {steps cycle aheadMs : Nat} (h : SpOk s.tiles) :
    ResSp (execHaltAt j all steps cycle aheadMs s) := by
  refine resSp_next.2 (State.dbgCommand_spOk h ?_)
  split
  · exact h
  · exact State.onSlots_spOk h fun _ _ h => by simp [h]

theorem execHaltNow_resSp {j : SlotIx} {all : Bool} (h : SpOk s.tiles) : ResSp (execHaltNow j all s) :=
  resSp_next.2 (State.dbgCommand_spOk h (State.onSlots_spOk h fun _ _ h => by simp [h]))

theorem execJobHalt_resSp {j : SlotIx} (h : SpOk s.tiles) : ResSp (execJobHalt j s) := by
  unfold execJobHalt
  dsimp only
  rw [resSp_next]
  split
  · exact h
  · split <;> simp [h]

theorem execResume_resSp {j : SlotIx} {all : Bool} (h : SpOk s.tiles) : ResSp (execResume j all s) :=
  resSp_next.2 (State.dbgCommand_spOk h (State.onSlots_spOk h fun _ _ h => by simp [h]))

theorem execStepCy_resSp {j : SlotIx} {all : Bool} {n : Nat} (h : SpOk s.tiles) : ResSp (execStepCy j all n s) := by
  refine resSp_next.2 (State.dbgCommand_spOk h ?_)
  split
  · exact h
  · exact State.onSlots_spOk h fun _ _ h => by simp [h]

theorem execStepInsn_resSp {j : SlotIx} {i : CoreAt} (h : SpOk s.tiles) : ResSp (execStepInsn j i s) := by
  refine resSp_next.2 (State.dbgCommand_spOk h ?_)
  split
  · exact h
  · exact State.onSlots_spOk h fun _ _ h => by simp [h]

theorem execBpSet_resSp {i : CoreAt} {n : Fin 4} {pc : U16} {enable : Bool} (h : SpOk s.tiles) : ResSp (execBpSet i n pc enable s) := by
  refine resSp_next.2 (State.dbgTile_spOk h ?_)
  rw [State.dbgReplies_tiles, State.traceAdd_tiles]
  exact State.updTile_spOk_of_sp h (by simp)

theorem execWpSet_resSp {t : TileIx} {n : Fin 2} {p len : Nat} {kind : BitVec 2} {agents : BitVec 5} {enable : Bool} (h : SpOk s.tiles) :
    ResSp (execWpSet t n p len kind agents enable s) := by
  refine resSp_next.2 (State.dbgTile_spOk h ?_)
  split
  · exact h
  · rw [State.dbgReplies_tiles, State.traceAdd_tiles]
    exact State.updTile_spOk_of_sp h fun _ => rfl

theorem execClearPoints_resSp (h : SpOk s.tiles) : ResSp (execClearPoints s) :=
  resSp_next.2 (State.dbgCommand_spOk h (State.forTiles_spOk_of_sp h fun _ _ => rfl))

theorem execReadCore_resSp {j : SlotIx} {i : CoreAt} {cls : Fin 4} {num : BitVec 12} (h : SpOk s.tiles) : ResSp (execReadCore j i cls num s) := by
  refine resSp_next.2 (State.stillTile_spOk h ?_)
  extract_lets t k n
  split
  · exact h
  · split
    · exact h
    · exact h
    · exact h
    · split
      · exact h
      · exact h

theorem execReadSp_resSp {j : SlotIx} {t : TileIx} {p len : Nat} (h : SpOk s.tiles) : ResSp (execReadSp j t p len s) :=
  resSp_next.2 (State.stillTile_spOk h (by simp [h]))

theorem execReadMem_resSp {addr len : Nat} (h : SpOk s.tiles) : ResSp (execReadMem addr len s) :=
  resSp_next.2 (State.dbgCommand_spOk h (by simp [h]))

theorem execWriteMem_resSp {j : SlotIx} {addr : Nat} {data : List Byte} (h : SpOk s.tiles) : ResSp (execWriteMem j addr data s) :=
  resSp_next.2 (State.dbgCommand_spOk h (by simp [h]))

theorem execReadFrame_resSp {j : SlotIx} {t : TileIx} {bank : Fin 2} {row : Fin 32} (h : SpOk s.tiles) : ResSp (execReadFrame j t bank row s) :=
  resSp_next.2 (State.stillTile_spOk h h)

theorem execWriteCore_resSp {j : SlotIx} {i : CoreAt} {cls : Fin 4} {num : BitVec 12} {value : V512} (h : SpOk s.tiles) :
    ResSp (execWriteCore j i cls num value s) := by
  refine resSp_next.2 (State.stillTile_spOk h ?_)
  extract_lets ti n v64
  split
  · exact h
  · split
    · exact (State.dbgWrote_tiles ..).symm ▸ State.updTile_spOk_of_sp h fun _ => rfl
    · exact (State.dbgWrote_tiles ..).symm ▸ State.updTile_spOk_of_sp h fun _ => rfl
    · exact (State.dbgWrote_tiles ..).symm ▸ State.updTile_spOk_of_sp h fun _ => rfl
    · split
      · exact h
      · exact (State.dbgWrote_tiles ..).symm ▸ State.updTile_spOk_of_sp h fun _ => csrWrite_sp ..

theorem execWriteSp_resSp {j : SlotIx} {t : TileIx} {p : Nat} {data : List Byte} (h : SpOk s.tiles) : ResSp (execWriteSp j t p data s) := by
  refine resSp_next.2 (State.stillTile_spOk h ?_)
  split
  · exact h
  · rw [State.dbgWrote_tiles]
    exact State.updTile_spOk h fun _ ht => Mem.wf_writeBytes _ _ _ ht

end

end Sys2Proof.Machine
end

section
set_option Elab.async false

namespace Sys2Proof.Machine

section
variable {s : State}

/-! ### The dictionary and the carriers -/

theorem featWriter_spOk {w : Writer} (hw : SpOk (w s).1.tiles) : SpOk (featWriter w s).1.tiles := by
  simpa [featWriter] using hw

theorem resState_spOk {r : Res} (h : SpOk s.tiles) (hr : ResSp r) : SpOk (resState s r).tiles := by
  unfold resState
  split
  · exact hr _ rfl
  · exact h

@[simp] theorem State.writeJobControl_spOk {j : SlotIx} {v : Nat} (h : SpOk s.tiles) : SpOk (State.writeJobControl j v s).1.tiles := by
  unfold State.writeJobControl
  split
  · simpa using h
  · exact State.startJob_spOk h
  · simpa using h
  · exact State.killJob_spOk h
  · exact featWriter_spOk (State.clearJob_spOk h)
  · exact State.startJob_spOk h
  · exact h

@[simp] theorem State.writeJobObj_spOk {j : SlotIx} {sub v : Nat} (h : SpOk s.tiles) : SpOk (State.writeJobObj j sub v s).1.tiles := by
  unfold State.writeJobObj
  split
  · exact State.writeJobControl_spOk h
  all_goals simpa using h

@[simp] theorem State.writeValue_spOk {i u sub v : Nat} (h : SpOk s.tiles) : SpOk (State.writeValue i u sub v s).1.tiles := by
  unfold State.writeValue
  split
  all_goals simp [featWriter, h]

theorem State.debugCommand_spOk {c : List Byte} (h : SpOk s.tiles) : SpOk (s.debugCommand c).tiles := by
  unfold State.debugCommand
  extract_lets bad short f a b cc data j all job core tile cls num
  have wrong : SpOk bad.tiles := State.dbgCommand_spOk h h
  have cut : SpOk short.tiles := State.dbgCommand_spOk h h
  have onJob {g : SlotIx → Bool → Res} (hg : ResSp (g j all)) : SpOk (job g).tiles := .ite wrong (resState_spOk h hg)
  have onTile {g : TileIx → Res} (hg : ∀ t, ResSp (g t)) : SpOk (tile g).tiles := by
    unfold tile
    split
    · exact resState_spOk h (hg _)
    · exact wrong
  have onCore {g : CoreAt → Res} (hg : ∀ i, ResSp (g i)) : SpOk (core g).tiles := by
    unfold core
    split
    · split
      · exact resState_spOk h (hg _)
      · exact wrong
    · exact wrong
  clear_value bad short job core tile
  refine .ite wrong ?_
  split
  · exact onJob (execHaltAt_resSp h)
  · exact onJob (execHaltNow_resSp h)
  · exact onJob (execResume_resSp h)
  · exact onJob (execStepCy_resSp h)
  · exact onCore fun _ => execStepInsn_resSp h
  · refine onCore fun i => ?_
    split
    · exact execBpSet_resSp h
    · exact resSp_next.2 wrong
  · refine onTile fun t => ?_
    split
    · exact execWpSet_resSp h
    · exact resSp_next.2 wrong
  · exact onCore fun _ => execReadCore_resSp h
  · exact onCore fun _ => execWriteCore_resSp h
  · exact onTile fun _ => execReadSp_resSp h
  · exact .ite cut (onTile fun _ => execWriteSp_resSp h)
  · exact resState_spOk h (execReadMem_resSp h)
  · exact .ite cut (resState_spOk h (execWriteMem_resSp h))
  · exact onTile fun _ => .ite (resSp_next.2 wrong) (execReadFrame_resSp h)
  · exact resState_spOk h (execClearPoints_resSp h)
  · exact wrong

@[simp] theorem State.writeDebug_spOk {c : List Byte} (h : SpOk s.tiles) : SpOk (State.writeDebug c s).1.tiles := by
  simp [State.writeDebug, h, State.debugCommand_spOk h]

@[simp] theorem State.writeBlob_spOk {i u : Nat} {bs : List Byte} (h : SpOk s.tiles) : SpOk (State.writeBlob i u bs s).1.tiles := by
  unfold State.writeBlob
  split
  all_goals simp [h]

@[simp] theorem State.writeObj_spOk {i sub : Nat} {offset : Option Nat} {bs : List Byte} (h : SpOk s.tiles) :
    SpOk (State.writeObj i sub offset bs s).1.tiles := by
  unfold State.writeObj
  split
  · exact h
  · cases offset with
    | none => simp [h]
    | some o => simp [h]

@[simp] theorem State.writeOp_spOk {car : Carrier} {served : Bool} {i sub : Nat} {offset : Option Nat} {bs : List Byte} (h : SpOk s.tiles) :
    SpOk (s.writeOp car served i sub offset bs).1.tiles :=
  State.guarded_spOk h (State.writeObj_spOk h)

@[simp] theorem State.commitOp_spOk {car : Carrier} {served : Bool} {i sub : Nat} (h : SpOk s.tiles) :
    SpOk (s.commitOp car served i sub).1.tiles := by
  refine State.guarded_spOk h ?_
  split
  · exact h
  · simp [h]

@[simp] theorem State.runOp_spOk {e : OpEnv} {o : Op} (h : SpOk s.tiles) : SpOk (s.runOp e o).1.tiles := by
  unfold State.runOp
  extract_lets need
  split
  · simpa using h
  · split
    · simpa using h
    · split
      · simpa using h
      · exact State.writeOp_spOk h
      · simpa using h
      · exact State.writeOp_spOk h
      · simpa using h
      · split
        · simpa using h
        · exact State.commitOp_spOk h

@[simp] theorem State.runOps_spOk {e : OpEnv} {os : List Op} (h : SpOk s.tiles) : SpOk (State.runOps e os s).1.tiles := by
  induction os generalizing s with
  | nil => exact h
  | cons o os ih => exact ih (State.runOp_spOk h)

@[simp] theorem State.serve_spOk {r : Request} (h : SpOk s.tiles) : SpOk (s.serve r).tiles := by
  unfold State.serve
  split
  · simpa using h
  · simp [h]

@[simp] theorem State.serveFront_spOk (h : SpOk s.tiles) : SpOk s.serveFront.tiles := by
  unfold State.serveFront
  split
  · exact h
  · exact State.serve_spOk h

@[simp] theorem State.arriveServed_spOk {car origin : Nat} {frame : List Byte} (h : SpOk s.tiles) : SpOk (s.arriveServed car origin frame).tiles := by
  simp -implicitDefEqProofs [State.arriveServed, h]

theorem opRow_resSp {session : Nat} {o : Op} (h : SpOk s.tiles) : ResSp (opRow session o s) := by
  unfold opRow
  extract_lets env
  clear_value env
  rw [resSp_next]
  split
  · simp [h]
  · simp [h]

theorem maintRow_resSp {mop : Nat} {car : Carrier} {cmd : List Byte} {blown : Bool} (h : SpOk s.tiles) : ResSp (maintRow mop car cmd blown s) :=
  .ite (mgmtWrite_resSp h (by simp [h])) (resSp_next.2 h)

end

end Sys2Proof.Machine
end

section
set_option Elab.async false

namespace Sys2Proof.Machine

/-! ## The rows -/

section
variable {s : State}

theorem execS3DomainsOn_resSp {notGood : List ZoneIx} (h : SpOk s.tiles) : ResSp (execS3DomainsOn notGood s) := by
  unfold execS3DomainsOn
  extract_lets s1 s2 s3
  have powered : SpOk s1.tiles := by simpa [s1] using h
  have zones : SpOk s2.tiles := spOk_foldl powered fun _ _ h => State.zoneAtS3_spOk h
  have linked : SpOk s3.tiles := spOk_foldl zones fun _ _ h => h
  clear_value s3
  exact .ite (resSp_next.2 h) (resSp_next.2 (by simpa using linked))

theorem execTileFirmwareFetch_resSp {t : TileIx} {digestGood : List Bool} (h : SpOk s.tiles) : ResSp (execTileFirmwareFetch t digestGood s) := by
  unfold execTileFirmwareFetch
  split
  · exact resSp_fault
  · split
    · exact resSp_next.2 h
    · simp [h]

theorem execFwChunkBroadcast_resSp (h : SpOk s.tiles) : ResSp (execFwChunkBroadcast s) := by
  unfold execFwChunkBroadcast
  split
  · exact resSp_next.2 h
  · extract_lets n go s1 s2
    have reported : SpOk s2.tiles := spOk_foldl (by simpa [s1, go] using h) fun _ _ h => State.reportIfWhole_spOk h
    clear_value s2
    simp [go, h, reported]

theorem execFwActivation_resSp (h : SpOk s.tiles) : ResSp (execFwActivation s) := by
  unfold execFwActivation
  split
  · exact resSp_next.2 h
  · split
    · exact resSp_next.2 (State.forTiles_spOk_of_sp h fun _ _ => rfl)
    · exact resSp_next.2 h

theorem execPennosRequest_resSp {car : Carrier} {origin : Nat} {frame : List Byte} (h : SpOk s.tiles) :
    ResSp (execPennosRequest car origin frame s) := by
  unfold execPennosRequest
  extract_lets c
  rw [resSp_next]
  split
  · exact h
  · split
    · simp [h]
    · exact State.arriveServed_spOk h

theorem execHopCreditReturn_resSp {t : TileIx} {out : MeshPort} {response : Bool} (h : SpOk s.tiles) :
    ResSp (execHopCreditReturn t out response s) :=
  onGrid_resSp (State.updTile_spOk_of_sp h (by simp))

theorem execReplayTimer_resSp {l : LinkIx} (h : SpOk s.tiles) : ResSp (execReplayTimer l s) := by
  unfold execReplayTimer
  extract_lets k
  rw [resSp_next]
  split
  · split
    · simpa using h
    · exact h
  · exact h

theorem execS0Rails_resSp {failedDies : List RegDieIx} {strap1 strap2 strap3 : BitVec 7} (h : SpOk s.tiles) :
    ResSp (execS0Rails failedDies strap1 strap2 strap3 s) := by
  unfold execS0Rails
  extract_lets host s1 s2
  have railed : SpOk s2.tiles := spOk_foldl (show SpOk s1.tiles from h) fun _ _ h => by simpa using h
  clear_value s2
  split
  · exact resSp_next.2 h
  · split
    · simp
    · simpa using railed

theorem execS1Boot_resSp (h : SpOk s.tiles) : ResSp (execS1Boot s) := by
  unfold execS1Boot
  extract_lets r
  have booted : SpOk r.1.tiles := by simpa [r] using h
  clear_value r
  split
  · split
    · simpa using booted
    · simpa using booted
  · split
    · split
      · simpa using booted
      · simpa using booted
    · exact resSp_next.2 h

theorem execS7EcmetFirmware_resSp (h : SpOk s.tiles) : ResSp (execS7EcmetFirmware s) := by
  unfold execS7EcmetFirmware
  extract_lets r
  have tried : SpOk r.1.tiles := by simpa [r] using h
  clear_value r
  split
  · exact resSp_next.2 h
  · split
    · simpa using tried
    · simpa using tried

theorem execEventRaise_resSp {kind : Byte} {unit : U16} {data : List Byte} (h : SpOk s.tiles) : ResSp (execEventRaise kind unit data s) := by
  unfold execEventRaise
  extract_lets e
  rw [resSp_next]
  split
  · exact h
  · split
    · simpa using h
    · simpa using h

theorem barWrite_resSp {f : State → State} (h : SpOk s.tiles) (hf : SpOk (f s).tiles) : ResSp (barWrite f s) :=
  resSp_next.2 (SpOk.ite h (SpOk.ite hf (by simpa using h)))

-- The kernel unfolds `writePart` when it compares the beta redex, so the fold's function is named first.
theorem State.writeParts_spOk {parts : List (Nat × List Byte)} {poisoned : Bool} (h : SpOk s.tiles) :
    SpOk (parts.foldl (fun (s : State) p => s.writePart p poisoned) s).tiles := by
  generalize hf : (fun (s : State) p => s.writePart p poisoned) = f
  refine spOk_foldl h fun u p h => ?_
  have applied : f u p = u.writePart p poisoned := (congrFun (congrFun hf u) p).symm
  rw [applied]
  simpa using h

theorem execBar2Write_resSp {offset : Nat} {data : List Byte} {poisoned : Bool} (h : SpOk s.tiles) :
    ResSp (execBar2Write offset data poisoned s) := by
  refine barWrite_resSp h ?_
  extract_lets parts s1
  have written : SpOk s1.tiles := State.writeParts_spOk h
  clear_value s1
  have refused : SpOk ((s.bump (ck 0x1040 0x0A) 1).aerErr aerAdvisory).tiles := by simpa -implicitDefEqProofs using h
  have beyond : SpOk (s.aerErr aerUR).tiles := by simpa -implicitDefEqProofs using h
  have poison : SpOk (s1.aerErr aerPoison).tiles := by simpa -implicitDefEqProofs using written
  exact SpOk.ite refused (SpOk.ite beyond (SpOk.ite poison written))

theorem agentPacket_resSp {t : TileIx} {f : State → State} (hf : SpOk (f s).tiles) : ResSp (agentPacket t f s) := by
  unfold agentPacket
  split
  · exact resSp_next.2 hf
  · exact resSp_fault

theorem execDictObjectRead_resSp {t : TileIx} {req index : U16} {sub : Byte} (h : SpOk s.tiles) :
    ResSp (execDictObjectRead t req index sub s) := by
  refine agentPacket_resSp ?_
  split
  · exact h
  · exact h

theorem execDictObjectWrite_resSp {t : TileIx} {req index : U16} {sub : Byte} {value : U64} (h : SpOk s.tiles) :
    ResSp (execDictObjectWrite t req index sub value s) := by
  refine agentPacket_resSp ?_
  split
  · exact h
  · exact h

theorem State.engineMemory_spOk {e : EngineIx} {req addr count : Nat} {m : MemRequest} {now : State → State} (h : SpOk s.tiles)
    (hnow : SpOk (now s).tiles) : SpOk (s.engineMemory e req addr count m now).tiles := by
  unfold State.engineMemory
  split
  · exact h
  · split
    · simp [h, hnow]
    · exact h

theorem execDictMemoryRead_resSp {e : EngineIx} {req : U16} {addr : U64} {count : U16} (h : SpOk s.tiles) :
    ResSp (execDictMemoryRead e req addr count s) :=
  resSp_next.2 (State.engineMemory_spOk h h)

theorem execDictMemoryWrite_resSp {e : EngineIx} {req : U16} {addr : U64} {data : List Byte} (h : SpOk s.tiles) :
    ResSp (execDictMemoryWrite e req addr data s) :=
  resSp_next.2 (State.engineMemory_spOk h (by simpa using h))

theorem smbusRow_resSp {pecGood : Bool} {f : State → State} (h : SpOk s.tiles) (hf : SpOk (f s).tiles) : ResSp (smbusRow pecGood f s) :=
  resSp_next.2 (SpOk.ite h (SpOk.ite hf h))

theorem execSmbusBlockWrite_resSp {pecGood : Bool} {frame : List Byte} (h : SpOk s.tiles) : ResSp (execSmbusBlockWrite pecGood frame s) :=
  smbusRow_resSp h (SpOk.ite h (State.arriveServed_spOk h))

theorem execSmbusBlockRead_resSp {pecGood : Bool} (h : SpOk s.tiles) : ResSp (execSmbusBlockRead pecGood s) := by
  refine smbusRow_resSp h ?_
  split
  · exact h
  · split
    · exact h
    · exact h

theorem execEngineServiceTimeout_resSp {e : EngineIx} (h : SpOk s.tiles) : ResSp (execEngineServiceTimeout e s) := by
  unfold execEngineServiceTimeout
  split
  · simp [h]
  · simp [h]

theorem execWcmpAnswer_resSp {device : Nat} {phase : Fin 3} {value : U64} (h : SpOk s.tiles) : ResSp (execWcmpAnswer device phase value s) := by
  unfold execWcmpAnswer
  split
  · simp [h]
  · simp [h]

theorem execWcmpPhaseTimeout_resSp (h : SpOk s.tiles) : ResSp (execWcmpPhaseTimeout s) := by
  unfold execWcmpPhaseTimeout
  split
  · simp [h]
  · simp [h]

theorem execTokenAckTimeout_resSp (h : SpOk s.tiles) : ResSp (execTokenAckTimeout s) := by
  unfold execTokenAckTimeout
  split
  · simp [h]
  · simp [h]

theorem execVlogTargetReached_resSp (h : SpOk s.tiles) : ResSp (execVlogTargetReached s) := by
  unfold execVlogTargetReached
  split
  · simp [h]
  · simp [h]

theorem execStepUpVoltageTimeout_resSp (h : SpOk s.tiles) : ResSp (execStepUpVoltageTimeout s) := by
  unfold execStepUpVoltageTimeout
  split
  · simp [h]
  · simp [h]

theorem execDictReply_resSp {req : U16} (h : SpOk s.tiles) : ResSp (execDictReply req s) := by
  unfold execDictReply
  split
  · simp [h]
  · simp [h]

end

end Sys2Proof.Machine
end

section
set_option Elab.async false

namespace Sys2Proof.Machine

/-! ## Every command -/

theorem exec_resSp {s : State} (c : Instr) (h : SpOk s.tiles) : ResSp (exec c s) := by
  unfold exec
  cases c
  case coldStart | s2FusesAndShadowMap | s4ClockAlignment | s5TileTest | s6StackTraining | s8LinkBringup | s9Usable | itemBudgetExpiry | failedHot |
      fwChunkReceive | fwLaggardTimeout | mgmtWatchdogExpiry | brownout | lifeRecordCommit =>
    simp [execColdStart, execS2FusesAndShadowMap, execS4ClockAlignment, execS5TileTest, execS6StackTraining, execS8LinkBringup, execS9Usable,
      execItemBudgetExpiry, execFailedHot, execFwChunkReceive, execFwLaggardTimeout, execMgmtWatchdogExpiry, execBrownout, execLifeRecordCommit,
      h]
  case s0Rails => exact execS0Rails_resSp h
  case s1Boot => exact execS1Boot_resSp h
  case s3DomainsOn => exact execS3DomainsOn_resSp h
  case s7EcmetFirmware => exact execS7EcmetFirmware_resSp h
  case warmRestart | fwUpdateControl | jobLoad | jobStart | jobReplayStart | jobStop | jobKill | fenceEventWrite | digestSnapshot | groupEta |
      groupFrozen | selftestFrameLogic | selftestCoreLogic | selftestRouterMesh | selftestScratchpadMarch | selftestSensorCalibration |
      selftestModuleLanes | shimmerEnable | shimmerOffset | tallyResync | parkRequest | unparkRequest | tripRestart | tokenPoolW | attestNonce |
      dbgRequest | dbgResponse | dbgLockNow =>
    exact mgmtWrite_resSp h (by simp [h])
  case tileFirmwareFetch => exact execTileFirmwareFetch_resSp h
  case fwChunkBroadcast => exact execFwChunkBroadcast_resSp h
  case fwChunkRefetch | freqTargetChange | laserLoss | heartbeatLoss | mailboxDispatch =>
    simp -implicitDefEqProofs [execFwChunkRefetch, execFreqTargetChange, execLaserLoss, execHeartbeatLoss, execMailboxDispatch, h]
  case fwActivation => exact execFwActivation_resSp h
  case add | sub | and | or | xor | shl | shr | sar | slt | sltu | min | max | minu | maxu | mul | mulh | mulhu =>
    exact onTile_resSp h fun _ => aluOp_keepsSp
  case div | divu | rem | remu => exact onTile_resSp h fun _ => divOp_keepsSp
  case mix64 | popc | clz => exact onTile_resSp h fun _ => unOp_keepsSp
  case jr => exact onTile_resSp h fun _ => jrOp_keepsSp
  case addi | andi | ori | xori | slti => exact onTile_resSp h fun _ => immOp_keepsSp
  case shiftiShl | shiftiShr | shiftiSar => exact onTile_resSp h fun _ => shiftiOp_keepsSp
  case lih => exact onTile_resSp h fun _ => lihOp_keepsSp
  case ld64 | ld32 | ld32u | ld16 | ld16u | ld8 | ld8u =>
    exact onTile_resSp h fun _ => loadOp_keepsSp
  case st64 | st32 | st16 | st8 => exact onTile_resSp h fun _ => storeOp_keepsSp
  case vld => exact onTile_resSp h fun _ => vldOp_keepsSp
  case vst => exact onTile_resSp h fun _ => vstOp_keepsSp
  case beq | bne | blt | bge | bltu | bgeu => exact onTile_resSp h fun _ => branchOp_keepsSp
  case j | jal => exact onTile_resSp h fun _ => jumpOp_keepsSp
  case vadd | vsub | vmul | vfma | vmin | vmax | vabs | vneg | vadds | vsubs | vcmplt | vcmpeq =>
    exact onTile_resSp h fun _ => vecLane_keepsSp
  case vand | vor | vxor | vsel => exact onTile_resSp h fun _ => vecBit_keepsSp
  case vperm => exact onTile_resSp h fun _ => vpermOp_keepsSp
  case vcvt => exact onTile_resSp h fun _ => vcvtOp_keepsSp
  case vsplat => exact onTile_resSp h fun _ => vsplatOp_keepsSp
  case vext => exact onTile_resSp h fun _ => vextOp_keepsSp
  case vins => exact onTile_resSp h fun _ => vinsOp_keepsSp
  case vredadd | vredmax | vredmin => exact onTile_resSp h fun _ => vredOp_keepsSp
  case venc16 | venc32 => exact onTile_resSp h fun _ => vencOp_keepsSp
  case vdec => exact onTile_resSp h fun _ => vdecOp_keepsSp
  case vsck => exact onTile_resSp h fun _ => vsckOp_keepsSp
  case fnExp2 | fnLog2 | fnRcp | fnRsqrt | fnTanh | fnSigm | fnErf | fnSinp =>
    exact onTile_resSp h fun _ => fnOp_keepsSp
  case csrr => exact onTile_resSp h fun _ => csrrOp_keepsSp
  case csrw => exact onTile_resSp h fun _ => csrwOp_keepsSp
  case plWait => exact onTile_resSp h fun _ => plWaitOp_keepsSp
  case winOpen => exact onTile_resSp h fun _ => winOpenOp_keepsSp
  case winClose => exact onTile_resSp h fun _ => winCloseOp_keepsSp
  case rwWait => exact onTile_resSp h fun _ => rwWaitOp_keepsSp
  case svSend => exact onTile_resSp h fun _ => svSendOp_keepsSp
  case svRecv => exact onTile_resSp h fun _ => svRecvOp_keepsSp
  case tallyRd => exact onTile_resSp h fun _ => tallyRdOp_keepsSp
  case sensRd => exact onTile_resSp h fun _ => sensRdOp_keepsSp
  case lnkRd => exact onTile_resSp h fun _ => lnkRdOp_keepsSp
  case sync => exact onTile_resSp h fun _ => syncOp_keepsSp
  case stepEnd => exact onTile_resSp h fun _ => stepEndOp_keepsSp
  case watchdogExpiry | frameAutoRest | unscheduledArrival | msgArrival | rwriteArrival | complArrival | serviceRequestTimeout =>
    exact onTile_resSp h fun _ => .of_sp (by simp)
  case frameLoadw | frameMul | frameDrain | frameDrainPartial | frameLoada | frameEwAdd | frameEwSub | frameEwMul | frameEwMax | frameEwMin |
      frameEwRescale | frameEwEnc | frameEwDec | frameWake | frameRest | frameWait =>
    exact onTile_resSp h fun _ => frameInsn_keepsSp
  case updGroup => exact onTile_resSp h fun _ => updGroupOp_keepsSp
  case updRun => exact onTile_resSp h fun _ => updRunOp_keepsSp
  case updWait => exact onTile_resSp h fun _ => updWaitOp_keepsSp
  case slotPass | slotAdd160 | slotAdd160Final | slotMax32 | slotSum64 | serviceLineHop | crossingSlip =>
    exact onGrid_resSp (by simp [h])
  case hopCreditReturn => exact execHopCreditReturn_resSp h
  case remoteLineLanding => exact onTile_resSp h fun _ => landNext_keepsSp
  case copyRead | copyReadReq | copyWrite | copyMove | copyFill | readRequestArrival | lineFetch | lineStaged | patrolScrub | stackTempRead |
      refreshShorten | engineFenceTimeout | engineServiceRequest =>
    simp [execCopyRead, execCopyReadReq, execCopyWrite, execCopyMove, execCopyFill, execReadRequestArrival, execLineFetch, execLineStaged,
      execPatrolScrub, execStackTempRead, execRefreshShorten, execEngineFenceTimeout, execEngineServiceRequest, h]
  case engineServiceTimeout => exact execEngineServiceTimeout_resSp h
  case loadChecksComplete | jobCycle0Release | unitFenceArrival | fenceRootDecision | fenceRelease | stepTimeout =>
    simp [execLoadChecksComplete, execJobCycle0Release, execUnitFenceArrival, execFenceRootDecision, execFenceRelease, execStepTimeout, h]
  case jobClear => exact mgmtWrite_resSp h (featWriter_spOk (State.clearJob_spOk h))
  case quietSlotTest | selftestComplete | wcmpRound | wcmpOutvote =>
    simp [execQuietSlotTest, execSelftestComplete, execWcmpRound, execWcmpOutvote, h]
  case wcmpAnswer => exact execWcmpAnswer_resSp h
  case wcmpPhaseTimeout => exact execWcmpPhaseTimeout_resSp h
  case refLoss | refReturn | droopAssert | shuntRecharged | stretchEnd | stretchRestart | stretchNotice | stretchExtension | freqSwitchAnnounce |
      freqSwitchApply | guardWindowClose | vlogLower | tallyPulse | tallyGlitch | tallyMark | tallyLoss | tallySlewStep =>
    simp [execRefLoss, execRefReturn, execDroopAssert, execShuntRecharged, execStretchEnd, execStretchRestart, execStretchNotice,
      execStretchExtension, execFreqSwitchAnnounce, execFreqSwitchApply, execGuardWindowClose, execVlogLower, execTallyPulse, execTallyGlitch,
      execTallyMark, execTallyLoss, execTallySlewStep, h]
  case vlogTargetReached => exact execVlogTargetReached_resSp h
  case stepUpVoltageTimeout => exact execStepUpVoltageTimeout_resSp h
  case tallyEpochNext | tallyOrigin | mgmtUpdateControl | recoveryImage => exact mgmtWriteIn_resSp h (by simp [h])
  case regDieFault | edgeRegFault | vlogRegulationTick | sensorFailMark | currentLedgerTick | zoneSwitchOnRequest | zoneRampStart | slowRampStart |
      zonePowerGood | powerGoodTimeout | ratingExcess | zonePark | zoneIdlePark | tempSample | overtempHoldRelease | powerLimitCheck | thermalTrip |
      tripCoolExpiry | energyPeriod | tokenPeriod | tokenDebit | tokenCredit | tokenAck | tokenMasterSilence =>
    simp [execRegDieFault, execEdgeRegFault, execVlogRegulationTick, execSensorFailMark, execCurrentLedgerTick, execZoneSwitchOnRequest,
      execZoneRampStart, execSlowRampStart, execZonePowerGood, execPowerGoodTimeout, execRatingExcess, execZonePark, execZoneIdlePark,
      execTempSample, execOvertempHoldRelease, execPowerLimitCheck, execThermalTrip, execTripCoolExpiry, execEnergyPeriod, execTokenPeriod,
      execTokenDebit, execTokenCredit, execTokenAck, execTokenMasterSilence, h]
  case powerOffRequest => exact mgmtWrite_resSp h (featWriter_spOk (State.writePark_spOk h))
  case tokenAckTimeout => exact execTokenAckTimeout_resSp h
  case rxSignalLoss | fecLockLoss | linkDown | linkRetrain | identityFlit | dataFlitReceive | nakReceive | retryLimit | auditFlit |
      planTransferSend | transferLanding | linkCalibrationIdle | tallyFlitSend | tallyFlitReceive | linkTallyLoss | masterElectionAnnounce |
      electionSettle | masterHeartbeat =>
    simp [execRxSignalLoss, execFecLockLoss, execLinkDown, execLinkRetrain, execIdentityFlit, execDataFlitReceive, execNakReceive, execRetryLimit,
      execAuditFlit, execPlanTransferSend, execTransferLanding, execLinkCalibrationIdle, execTallyFlitSend, execTallyFlitReceive,
      execLinkTallyLoss, execMasterElectionAnnounce, execElectionSettle, execMasterHeartbeat, h]
  case replayTimer => exact execReplayTimer_resSp h
  case groupReady | groupStartTally | groupReadyTimeout | groupFenceReport | groupDecision | groupReportTimeout =>
    simp [execGroupReady, execGroupStartTally, execGroupReadyTimeout, execGroupFenceReport, execGroupDecision, execGroupReportTimeout, h]
  case pcieConfigRequest | functionLevelReset | hotReset | pcieLinkDown | perstAssert | d3hotEntry | d0Entry | busMasterDisable | aerFatalError |
      eventEntryWrite | msixSignal | getVersion | getCapabilities | negotiateAlgorithms | getDigests | getCertificate | challenge |
      getMeasurements | ethPennosDatagram | arpRequest | ndpMessage | icmpEcho | ethOtherFrame | ethAddressApply =>
    simp [execPcieConfigRequest, execFunctionLevelReset, execHotReset, execPcieLinkDown, execPerstAssert, execD3hotEntry, execD0Entry,
      execBusMasterDisable, execAerFatalError, execEventEntryWrite, execMsixSignal, execGetVersion, execGetCapabilities, execNegotiateAlgorithms,
      execGetDigests, execGetCertificate, execChallenge, execGetMeasurements, execEthPennosDatagram, execArpRequest, execNdpMessage, execIcmpEcho,
      execEthOtherFrame, execEthAddressApply, h]
  case w2Base | mbxDoorbell | mbxRelease | eqCtrl | eqHead | bar0RegisterWrite | bar2Read | bar4Read | bar4Write =>
    simp [execW2Base, execMbxDoorbell, execMbxRelease, execEqCtrl, execEqHead, execBar0RegisterWrite, execBar2Read, execBar4Read, execBar4Write,
      barRead, barWrite, h]
  case bar2Write => exact execBar2Write_resSp h
  case eventRaise => exact execEventRaise_resSp h
  case smbusBlockWrite => exact execSmbusBlockWrite_resSp h
  case smbusBlockRead => exact execSmbusBlockRead_resSp h
  case smbusReadByte | smbusAlertResponse => exact smbusRow_resSp h (by simp [h])
  case hello | close | sessionIdleTimeout | dictRequestTimeout =>
    simp [execHello, execClose, execSessionIdleTimeout, execDictRequestTimeout, h]
  case pennosRequest => exact execPennosRequest_resSp h
  case pennosRead | pennosWrite | readRange | writeRange | subscribe | commit => exact opRow_resSp h
  case dictObjectRead => exact execDictObjectRead_resSp h
  case dictObjectWrite => exact execDictObjectWrite_resSp h
  case dictMemoryRead => exact execDictMemoryRead_resSp h
  case dictMemoryWrite => exact execDictMemoryWrite_resSp h
  case dictReply => exact execDictReply_resSp h
  case linkFaultRead | attestReport | dbgChallenge => exact mgmtRead_resSp h (by simp [h])
  case maintRemoveDefect | maintClearOverflow | maintRemoveRetry | maintThaw | maintAdvanceRollback | maintRevokeKey | maintRaiseDebugLock =>
    exact maintRow_resSp h
  case debugSessionOpen | tallyReferenceCount | stepUpDelayExpiry | parkingComplete | pcieLinkUp | perstRelease | sgmiiLinkChange | doeDiscovery |
      laserLightArrival =>
    simp [execDebugSessionOpen, execTallyReferenceCount, execStepUpDelayExpiry, execParkingComplete, execPcieLinkUp, execPerstRelease,
      execSgmiiLinkChange, execDoeDiscovery, execLaserLightArrival, h]
  case haltAt => exact execHaltAt_resSp h
  case haltNow => exact execHaltNow_resSp h
  case jobHalt => exact execJobHalt_resSp h
  case resume => exact execResume_resSp h
  case stepCy => exact execStepCy_resSp h
  case stepInsn => exact execStepInsn_resSp h
  case bpSet => exact execBpSet_resSp h
  case wpSet => exact execWpSet_resSp h
  case readCore => exact execReadCore_resSp h
  case writeCore => exact execWriteCore_resSp h
  case readSp => exact execReadSp_resSp h
  case writeSp => exact execWriteSp_resSp h
  case readMem => exact execReadMem_resSp h
  case writeMem => exact execWriteMem_resSp h
  case readFrame => exact execReadFrame_resSp h
  case clearPoints => exact execClearPoints_resSp h
  case bypass | idcode | samplePreload | extest | clamp | highz | dbgframe | trstAssert =>
    simp [execBypass, execIdcode, execSamplePreload, execExtest, execClamp, execHighz, execDbgframe, execTrstAssert, jtagRow, observed, h]
  case reservedInstruction => exact onTile_resSp h fun _ => reservedOp_keepsSp

theorem step_spOk {s u : State} (h : SpOk s.tiles) (hs : step s = .next u) : SpOk u.tiles := by
  cases queue : s.pending with
  | nil =>
    simp only [step, queue] at hs
    cases hs
    exact h
  | cons c cs =>
    simp only [step, queue] at hs
    exact exec_resSp (s := { s with pending := cs }) c h u hs

/-- Settles O59: a step writes a scratchpad by stores of bytes or drops whole banks of it, each of which leaves the canonical form. -/
theorem scratchpadsStayCanonical : Obligations.ScratchpadsStayCanonical := by
  unfold Obligations.ScratchpadsStayCanonical
  intro s u inv sp hs
  have before : SpOk s.tiles := State.spOk_of_spInv inv.2 sp
  exact (step_spOk before hs).spInv

end Sys2Proof.Machine
end

section
namespace Sys2Proof.Machine

/-! # The slot table of a router (R170 to R178) -/

/-! ## Maxima and sums of lanes (R177) -/

section
variable (f : Nat → Nat → Nat) (a b c : V512)

/-- Each lane of the result is `f` of the two lanes, on a width that a line is cut into without a rest. -/
theorem laneOf_lanes2 (l : LaneTy) {n : Nat} (hn : n < l.lanes) : laneOf l.w (lanes2 l.w f a b) n = f (laneOf l.w a n) (laneOf l.w b n) % 2 ^ l.w :=
  (laneOf_ofLanes_map l _ hn).trans (Nat.mod_mod _ _)

theorem lanes2_congr {w : Nat} {a b a' b' : V512}
    (same : ∀ n, n < 512 / w → f (laneOf w a n) (laneOf w b n) % 2 ^ w = f (laneOf w a' n) (laneOf w b' n) % 2 ^ w) :
    lanes2 w f a b = lanes2 w f a' b' := by
  refine congrArg (ofLanes w) (List.map_congr_left fun n hn => same n ?_)
  simpa [upTo] using hn

theorem lanes2_comm (w : Nat) (comm : ∀ x y, f x y = f y x) : lanes2 w f a b = lanes2 w f b a :=
  lanes2_congr f fun n _ => by rw [comm]

theorem lanes2_assoc (l : LaneTy) (assoc : ∀ x y z, x < 2 ^ l.w → y < 2 ^ l.w → z < 2 ^ l.w →
      f (f x y % 2 ^ l.w) z % 2 ^ l.w = f x (f y z % 2 ^ l.w) % 2 ^ l.w) :
    lanes2 l.w f (lanes2 l.w f a b) c = lanes2 l.w f a (lanes2 l.w f b c) :=
  lanes2_congr f fun n hn => by
    rw [laneOf_lanes2 _ _ _ l hn, laneOf_lanes2 _ _ _ l hn]
    exact assoc _ _ _ (laneOf_lt _ _ _) (laneOf_lt _ _ _) (laneOf_lt _ _ _)

theorem laneOf_max32 {n : Nat} (hn : n < 16) : laneOf 32 (lanes2 32 max a b) n = max (laneOf 32 a n) (laneOf 32 b n) :=
  (laneOf_lanes2 max a b (.int 32) hn).trans (Nat.mod_eq_of_lt (max_lt (laneOf_lt 32 a n) (laneOf_lt 32 b n)))

theorem max32_assoc : lanes2 32 max (lanes2 32 max a b) c = lanes2 32 max a (lanes2 32 max b c) :=
  lanes2_assoc max a b c (.int 32) fun x y z hx hy hz => by
    rw [Nat.mod_eq_of_lt (max_lt hx hy), Nat.mod_eq_of_lt (max_lt hy hz), max_assoc]

theorem sum64_assoc : lanes2 64 (· + ·) (lanes2 64 (· + ·) a b) c = lanes2 64 (· + ·) a (lanes2 64 (· + ·) b c) :=
  lanes2_assoc (· + ·) a b c (.int 64) fun x y z _ _ _ => by
    simp only [Nat.mod_add_mod, Nat.add_mod_mod, Nat.add_assoc]

end

/-! ## The next flit of an entry (R170, R171) -/

section
variable {s : State} {t : TileIx} {entry : Nat} {e : SlotEnt} {k p : Nat} {v va vb : V512}

/-- A good flit on a neighbour input is what the entry takes, and leaves the tile as it is. -/
theorem slotInput_flit {port : Nat} (h : slotFlit s t e k port v) :
    slotInput entry port (e.outCy k - e.delay) (64 * (e.loff + k)) (s.tile t.val) = (.line v false, TOut.of (s.tile t.val)) := by
  obtain ⟨neighbour, f, present, rfl, clean, intact⟩ := h
  simp [slotInput, neighbour, present, clean, intact]

/-- A count that has advanced is never the 0 that an unlisted key reads as. -/
theorem SMap.get_put_succ (m : SMap Nat) (key n : Nat) : SMap.get 0 (SMap.put 0 m key (n + 1)) key = n + 1 := by
  rw [SMap.put, if_neg (Nat.succ_ne_zero n), SMap.get_ins_same]

/-- The tile as line `v` of flit `k` has landed in it: the update engine's clock has come to the cycle, and the entry goes on. -/
def flitLanded (entry k p cy : Nat) (v : V512) (t : Tile) : Tile :=
  (spLand true false p v (t.updUpd fun u => { u with clk := max u.clk cy })).updRouter fun r => { r with next := SMap.put 0 r.next entry (k + 1) }

theorem flitLanded_sp {cy : Nat} {t : Tile} (aligned : p % 64 = 0) : (flitLanded entry k p cy v t).sp = t.sp.writeBytes p (lineBytes v) :=
  spLand_sp (mirrored := true) (poison := false) aligned

theorem flitLanded_next (entry k p cy : Nat) (v : V512) (t : Tile) : SMap.get 0 (flitLanded entry k p cy v t).router.next entry = k + 1 :=
  SMap.get_put_succ _ _ _

theorem slotAccessCause_mesh {o : Nat} {t : Tile} (bound : t.inBound o 64 = true) (mesh : t.bankClass (bankOf (t.tsk.base + o)) = clsMesh) :
    slotAccessCause t o = 0 := by
  simp [slotAccessCause, bound, mesh]

/-- Only an access to a copy/update bank goes before the update engine (R146); one to a mesh bank leaves no mark on it. -/
theorem slotUses_mesh {cy : Nat} {t : Tile} (mesh : t.bankClass (bankOf p) = clsMesh) : slotUses p cy t = t :=
  if_neg (by rw [mesh]; decide)

theorem landPlan_mesh {cy : Nat} {t : Tile} (mesh : t.bankClass (bankOf p) = clsMesh) (idle : t.upd.ops = [])
    (noWatch : ∀ n : Fin 2, (t.wps[n]).enable = false) :
    landPlan p cy v false t = TOut.of (spLand true false p v (t.updUpd fun u => { u with clk := max u.clk cy })) := by
  rw [landPlan, slotUses_mesh mesh, updTo_idle cy t idle, TOut.of_upd, TOut.of_andThen, wpCheck_none _ _ _ _ _ _ (by exact noWatch)]
  rfl

/-- A local output places its line in its bank, and no flit leaves the tile. -/
theorem slotPlace_mesh {t : Tile} (out : e.out = 4) (bound : t.inBound (64 * (e.loff + k)) 64 = true)
    (mesh : t.bankClass (bankOf (t.tsk.base + 64 * (e.loff + k))) = clsMesh) (idle : t.upd.ops = [])
    (noWatch : ∀ n : Fin 2, (t.wps[n]).enable = false) :
    slotPlace entry e k v false t = ⟨TOut.of (flitLanded entry k (t.tsk.base + 64 * (e.loff + k)) (e.outCy k) v t), none⟩ := by
  simp only [slotPlace, out, slotAccessCause_mesh bound mesh, landPlan_mesh mesh idle noWatch]
  rfl

theorem slotPlace_local {t' : Tile} (loc : SlotLocal s t e k p) (router : RouterOnly (s.tile t.val) t') :
    slotPlace entry e k v false t' = ⟨TOut.of (flitLanded entry k p (e.outCy k) v t'), none⟩ := by
  obtain ⟨r, rfl⟩ := router
  obtain ⟨out, rfl, -, bound, mesh, idle, noWatch, -⟩ := loc
  exact slotPlace_mesh out bound mesh idle noWatch

/-! ### What an entry places -/

theorem SlotReady.runs {op : Nat} (ready : SlotReady s t op entry e k) :
    ((s.tile t.val).halted || haltBars (s.tile t.val).haltCy (e.outCy k)
      || ! (decide ((s.tile t.val).router.first ≤ entry) && decide (entry < (s.tile t.val).router.first + (s.tile t.val).router.count))
      || e.op != op || decide (e.count < k)) = false := by
  obtain ⟨-, ⟨free, unbarred⟩, ⟨lower, upper⟩, -, kind, -, more⟩ := ready
  simp [free, unbarred, lower, upper, kind, more]

theorem slotStep_pass (ready : SlotReady s t 0 entry e k) (a : slotFlit s t e k e.ina v) :
    slotStep 0 entry false (s.tile t.val) = slotPlace entry e k v false (s.tile t.val) := by
  have runs := ready.runs
  have input := slotInput_flit (entry := entry) a
  simp only [slotStep, ready.ent, ready.flit.1, runs, input]
  rfl

/-- MAX32 and SUM64 place what they form of the lanes of their two lines. -/
theorem slotStep_lanes {op : Nat} (kind : op = 3 ∨ op = 4) (ready : SlotReady s t op entry e k) (a : slotFlit s t e k e.ina va)
    (b : slotFlit s t e k e.inb vb) :
    slotStep op entry false (s.tile t.val)
      = slotPlace entry e k (if op = 3 then lanes2 32 max va vb else lanes2 64 (· + ·) va vb) false (s.tile t.val) := by
  have runs := ready.runs
  have inputA := slotInput_flit (entry := entry) a
  have inputB := slotInput_flit (entry := entry) b
  obtain rfl | rfl := kind
  all_goals
    simp only [slotStep, ready.ent, ready.flit.1, runs, inputA, inputB, TOut.of_tile]
    rfl

/-- What ADD160 forms of its two lines, with the row mask that the header line of the block has left. -/
def State.add160 (s : State) (t : TileIx) (entry k : Nat) (va vb : V512) : V512 × Nat × Nat :=
  add160Line (s.tile t.val).residue k (SMap.get 0 (s.tile t.val).router.mask entry) va vb

theorem slotStep_add160 {op : Nat} (kind : op = 1 ∨ op = 2) (ready : SlotReady s t op entry e k) (a : slotFlit s t e k e.ina va)
    (b : slotFlit s t e k e.inb vb) (checked : op = 2 → (s.tile t.val).residue = false ∨ (s.add160 t entry k va vb).2.2 = 0) :
    slotStep op entry false (s.tile t.val) = slotPlace entry e k (s.add160 t entry k va vb).1 false
      ((s.tile t.val).updRouter fun r => { r with mask := SMap.put 0 r.mask entry (s.add160 t entry k va vb).2.1 }) := by
  have runs := ready.runs
  have inputA := slotInput_flit (entry := entry) a
  have inputB := slotInput_flit (entry := entry) b
  have noFault : ¬ (op = 2 ∧ (s.tile t.val).residue = true ∧ (s.add160 t entry k va vb).2.2 ≠ 0) := by
    rintro ⟨final, residue, failing⟩
    simpa [residue, failing] using checked final
  have combines : op ≠ 0 := by omega
  unfold State.add160 at noFault ⊢
  simp only [slotStep, ready.ent, ready.flit.1, runs, inputA, inputB, TOut.of_tile, if_neg combines, if_pos kind, if_neg noFault]
  rfl

/-- A step that places a line on the local output, having changed no more than the router before, lands it. -/
theorem runSlot_lands {op : Nat} {t' : Tile} (corrupt : Bool) (hI : s.Inv) (loc : SlotLocal s t e k p) (router : RouterOnly (s.tile t.val) t')
    (step : slotStep op entry false (s.tile t.val) = slotPlace entry e k v false t') :
    SlotLanded s (State.runSlot op t.val entry false corrupt s) t entry k p v := by
  have landed : State.runSlot op t.val entry false corrupt s = s.putTile t.val (TOut.of (flitLanded entry k p (e.outCy k) v t')) := by
    simp only [State.runSlot, step, slotPlace_local loc router]
  obtain ⟨only, tile⟩ := putTile_only hI.2 (PlainBumps.of_ (flitLanded entry k p (e.outCy k) v t'))
  have length : (lineBytes v).length = 64 := leOfNat_length _ _
  obtain ⟨r, rfl⟩ := router
  rw [SlotLanded, landed, tile, TOut.of_tile, flitLanded_sp loc.line]
  refine ⟨only, rfl, rfl, ?_, fun q outside => ?_, flitLanded_next _ _ _ _ _ _⟩
  · rw [← length]
    exact Mem.readBytes_writeBytes _ _ _ loc.wf
  · exact Mem.read_writeBytes_out _ _ _ _ (by rwa [length])

end

/-! ## A flit that no entry takes (R174, R191) -/

/-- The flit is discarded, and one that no neighbour placed counts as arrived. -/
def flitDiscarded (port cy : Nat) (t : Tile) : Tile :=
  t.updRouter fun r =>
    { r with flits := r.flits.filter fun f => ! (f.port == port && f.cyc == cy)
             arrived := if (flitAt t port cy).isSome then r.arrived else SMap.put 0 r.arrived port (SMap.get 0 r.arrived port + 1) }

theorem unscheduled_discards {port cy : Nat} {t : Tile} (runs : t.job ≠ none) (free : takesInput t port cy = false) :
    unscheduled port cy t = (TOut.of (routerFault 3 0 port cy (flitDiscarded port cy t))).bump (ck 0x9140 7) 1 := by
  have busy : t.job.isNone = false := Option.isNone_eq_false_iff.mpr (Option.isSome_iff_ne_none.mpr runs)
  simp only [unscheduled, busy, free]
  rfl

theorem flitAt_flitDiscarded (port cy : Nat) (t : Tile) : flitAt (flitDiscarded port cy t) port cy = none :=
  List.find?_eq_none.mpr fun _ kept => by simpa [imp_iff_not_or] using (List.mem_filter.mp kept).2

section
variable {cause entry port cy : Nat} {t : Tile}

/-- The first fault of a step is the one that the record keeps (R191). -/
theorem routerFault_fault (first : t.router.fault = 0) :
    (routerFault cause entry port cy t).router.fault = cy % 2 ^ 32 * 2 ^ 32 + entry * 2 ^ 22 + port * 2 ^ 19 + cause := by
  simp only [routerFault, first, if_true]
  split
  · rfl
  · split <;> rfl

theorem flitAt_routerFault (input at_ : Nat) : flitAt (routerFault cause entry port cy t) input at_ = flitAt t input at_ := by
  unfold routerFault
  dsimp only
  split
  · rfl
  · split <;> rfl

/-- A fault that is not a trap, other than that of cause 8, is a detection and stops the tile. -/
theorem routerFault_detects (detection : 3 ≤ cause) (stops : cause ≠ 8) :
    (routerFault cause entry port cy t).detected = true ∧ (routerFault cause entry port cy t).stopAt ≠ none := by
  have noTrap : ¬ (cause = 1 ∨ cause = 2) := by omega
  simp [routerFault, noTrap, stops, Tile.stop]

end

/-- Settles O18: an entry with a local output places the line that its OP forms of the flits present, and changes no more of its tile than the
router and the engine's clock; a flit that no entry takes is discarded, and the record of its fault stops the tile. -/
theorem slotTable : Obligations.SlotTable := by
  unfold Obligations.SlotTable
  refine ⟨⟨fun s t entry e k v p corrupt hI ready a loc => ?pass, fun s t entry e k va vb p corrupt hI ready a b loc => ?max32,
    fun s t entry e k va vb p corrupt hI ready a b loc => ?sum64, fun a b c => ⟨lanes2_comm max a b 32 max_comm, max32_assoc a b c⟩,
    fun a b c => ⟨lanes2_comm (· + ·) a b 64 Nat.add_comm, sum64_assoc a b c⟩, fun s t entry e k va vb p corrupt hI ready a b loc => ?add160,
    fun s t entry e k va vb p corrupt hI ready a b loc checked => ?final⟩, fun s t port cy hI grid runs free first => ?unscheduled⟩
  case pass =>
    exact ⟨_, (exec_slotPass ..).trans (if_pos ready.grid), runSlot_lands corrupt hI loc ⟨_, rfl⟩ (slotStep_pass ready a)⟩
  case max32 =>
    exact ⟨_, _, (exec_slotMax32 ..).trans (if_pos ready.grid), fun n hn => laneOf_max32 va vb hn,
      runSlot_lands corrupt hI loc ⟨_, rfl⟩ (slotStep_lanes (.inl rfl) ready a b)⟩
  case sum64 =>
    exact ⟨_, _, (exec_slotSum64 ..).trans (if_pos ready.grid), fun n hn => laneOf_lanes2 (· + ·) va vb (.int 64) hn,
      runSlot_lands corrupt hI loc ⟨_, rfl⟩ (slotStep_lanes (.inr rfl) ready a b)⟩
  case add160 =>
    exact ⟨_, (exec_slotAdd160 ..).trans (if_pos ready.grid), runSlot_lands corrupt hI loc (.updRouter _ _)
      (slotStep_add160 (.inl rfl) ready a b fun final => absurd final (by decide)),
      fun header => congrArg Prod.fst (if_pos header)⟩
  case final =>
    exact ⟨_, (exec_slotAdd160Final ..).trans (if_pos ready.grid), runSlot_lands corrupt hI loc (.updRouter _ _)
      (slotStep_add160 (.inr rfl) ready a b fun _ => checked)⟩
  case unscheduled =>
    obtain ⟨u, hu, only, tile⟩ := onTile_only (f := fun _ => unscheduled port.val cy) grid hI (unscheduled_discards runs free)
      ((PlainBumps.of_ _).bump_ (by decide) (by decide))
    have clear : (flitDiscarded port.val cy (s.tile t.val)).router.fault = 0 := first
    obtain ⟨detected, stopped⟩ := routerFault_detects (entry := 0) (port := port.val) (cy := cy) (t := flitDiscarded port.val cy (s.tile t.val))
      (Nat.le_refl 3) (by decide)
    refine ⟨u, (exec_unscheduledArrival ..).trans hu, only, ?_⟩
    rw [tile, TOut.bump_tile, TOut.of_tile, routerFault_sp, routerFault_fault clear, flitAt_routerFault]
    exact ⟨rfl, by omega, detected, stopped, flitAt_flitDiscarded _ _ _⟩

end Sys2Proof.Machine
end

section
namespace Sys2Proof.Machine

/-! # The release of a fence and the timeouts of a step (R211, R227, R229, R272) -/

/-! ## Tiles whose cores are at cycle 0 -/

/-- Every core of the tile is at cycle 0. -/
def Tile.AtZero (t : Tile) : Prop := ∀ c : CoreIx, (t.core c).now = 0

/-- A change of the cores that leaves the time of each alone. -/
theorem Tile.AtZero.mapCores {t t' : Tile} {f : CoreSt → CoreSt} (h : t.AtZero) (cores : t'.cores = t.cores.map f)
    (keeps : ∀ k, (f k).now = k.now) : t'.AtZero := fun c => by
  rw [Tile.core, cores, Fin.getElem_fin, Vector.getElem_map, keeps]
  exact h c

theorem Tile.AtZero.of_cores {t t' : Tile} (h : t.AtZero) (cores : t'.cores = t.cores) : t'.AtZero :=
  h.mapCores (f := id) (by simpa using cores) fun _ => rfl

theorem Tile.AtZero.updCore {t : Tile} {f : CoreSt → CoreSt} (h : t.AtZero) (c : CoreIx) (keeps : ∀ k, (f k).now = k.now) :
    (t.updCore c f).AtZero := fun d => by
  by_cases same : d = c
  · rw [same, updCore_at, keeps]
    exact h c
  · rw [updCore_ne _ _ _ _ same]
    exact h d

theorem CoreSt.endWait_now (k : CoreSt) : k.endWait.now = k.now := by
  unfold CoreSt.endWait
  split <;> rfl

theorem Tile.AtZero.stop {t : Tile} (h : t.AtZero) (cy : Nat) : (t.stop cy).AtZero := h.mapCores rfl CoreSt.endWait_now

theorem Tile.AtZero.fenceCopy {t : Tile} (h : t.AtZero) : t.fenceCopy.AtZero := h.mapCores rfl fun _ => rfl

theorem Tile.AtZero.badTaskTrap {t : Tile} (h : t.AtZero) (started : Bool) : (badTaskTrap started t).tile.AtZero := by
  rw [Machine.badTaskTrap, TOut.bump_tile, TOut.of_tile]
  have recorded {record : Nat} : ({ t.updCore 0 fun k => { k with etrap := record } with trapped := true } : Tile).AtZero :=
    Tile.AtZero.of_cores (t := t.updCore 0 fun k => { k with etrap := record }) (h.updCore 0 fun _ => rfl) rfl
  exact (recorded.stop 0).mapCores rfl fun _ => rfl

theorem Tile.atZero_stepStart (first count : Nat) (t : Tile) : (t.stepStart first count).AtZero := fun c => by
  simp [Tile.stepStart, Tile.core]

theorem Tile.atZero_rerunStep (t : Tile) : t.rerunStep.AtZero :=
  (Tile.atZero_stepStart t.router.first t.router.count t.restoreCopy).of_cores rfl

theorem Tile.atZero_nextStep (e : TEnv) (task : Nat) (range : Nat × Nat) (t : Tile) : (t.nextStep e task range).tile.AtZero := by
  unfold Tile.nextStep
  extract_lets same ok o o'
  have started : o'.tile.AtZero :=
    ((Tile.atZero_stepStart range.1 range.2 o.tile).of_cores rfl).fenceCopy
  split
  · exact started
  · exact started.badTaskTrap true

/-! ## Tiles of the device -/

/-- A fold that leaves a view of the state alone at every element leaves it alone. -/
theorem foldl_view {α β : Type} {view : State → β} {f : State → α → State} (keeps : ∀ u a, view (f u a) = view u) (l : List α) (s : State) :
    view (l.foldl f s) = view s :=
  List.foldlRecOn (motive := fun u => view u = view s) l f rfl fun u h a _ => (keeps u a).trans h

/-- A change of tiles, and of nothing else. -/
theorem forTiles_only (s : State) (ts : List Nat) (f : Nat → Tile → Tile) : { s.forTiles ts f with tiles := s.tiles } = s :=
  foldl_view (view := fun u => { u with tiles := s.tiles }) (f := fun u t => u.updTile t (f t)) (fun _ _ => rfl) ts s

theorem armTiles_only (s : State) (j : SlotIx) : { s.armTiles j with tiles := s.tiles } = s := by
  unfold State.armTiles
  split
  · exact forTiles_only ..
  · rfl

/-- Changes of copy engines, and of nothing else. -/
theorem updEngs_only {α : Type} (s : State) (l : List α) (key : α → EngineIx) (f : α → EngSt → EngSt) :
    { l.foldl (fun u a => u.updEng (key a) (f a)) s with mem := s.mem } = s :=
  foldl_view (view := fun u => { u with mem := s.mem }) (f := fun u a => u.updEng (key a) (f a)) (fun _ _ => rfl) l s

section
variable {s : State}

theorem updTile_cores {t : Nat} {f : Tile → Tile} (wf : SMap.wf Tile.reset s.tiles = true) (U : Nat) (keeps : ∀ v, (f v).cores = v.cores) :
    ((s.updTile t f).tile U).cores = (s.tile U).cores := by
  by_cases same : U = t
  · rw [same, State.updTile, State.tile_setTile_same s t _ wf, keeps]
  · rw [State.updTile, State.tile_setTile_ne s _ same]

theorem forTiles_cores {ts : List Nat} {f : Nat → Tile → Tile} (wf : SMap.wf Tile.reset s.tiles = true) (U : Nat)
    (keeps : ∀ t v, (f t v).cores = v.cores) : ((s.forTiles ts f).tile U).cores = (s.tile U).cores := by
  induction ts generalizing s with
  | nil => rfl
  | cons t ts ih => exact (ih ((Keeps.refl s).updTile.tiles wf)).trans (updTile_cores wf U (keeps t))

theorem armTiles_cores {j : SlotIx} (wf : SMap.wf Tile.reset s.tiles = true) (U : Nat) : ((s.armTiles j).tile U).cores = (s.tile U).cores := by
  unfold State.armTiles
  split
  · exact forTiles_cores wf U fun _ _ => rfl
  · rfl

theorem hit_cores {t : Nat} {h : Hit} (wf : SMap.wf Tile.reset s.tiles = true) (U : Nat) : ((s.hit t h).tile U).cores = (s.tile U).cores := by
  unfold State.hit
  split
  · rfl
  · dsimp only
    split
    · rfl
    · exact armTiles_cores (by exact wf) U

theorem hits_cores {t : Nat} (U : Nat) (hs : List Hit) (wf : SMap.wf Tile.reset s.tiles = true) :
    ((hs.foldl (fun s h => s.hit t h) s).tile U).cores = (s.tile U).cores := by
  induction hs generalizing s with
  | nil => rfl
  | cons h hs ih => exact (ih ((Keeps.refl s).hit.tiles wf)).trans (hit_cores wf U)

/-- What a tile operation leaves in the cores of the device: those of its tile, and every other as it was. -/
theorem putTile_cores {T : Nat} {o : TOut} (wf : SMap.wf Tile.reset s.tiles = true) (U : Nat) :
    ((s.putTile T o).tile U).cores = if U = T then o.tile.cores else (s.tile U).cores := by
  have bumped : ((s.setTile T o.tile).bumps T o.bumps).tiles = (s.setTile T o.tile).tiles := by
    obtain ⟨_, _, bumps⟩ := bumps_eq T o.bumps (s.setTile T o.tile)
    rw [bumps]
  have put : (((s.setTile T o.tile).bumps T o.bumps).tile U).cores = if U = T then o.tile.cores else (s.tile U).cores := by
    rw [State.tile, bumped, ← State.tile]
    split
    · rename_i same
      rw [same, State.tile_setTile_same s T o.tile wf]
    · rename_i other
      rw [State.tile_setTile_ne s o.tile other]
  unfold State.putTile
  extract_lets s1 sum s2
  have counted : s2.tiles = s1.tiles := by
    unfold s2
    split
    · split <;> rfl
    · rfl
  have wf2 : SMap.wf Tile.reset s2.tiles = true := by
    rw [counted, bumped]
    exact (Keeps.refl s).setTile.tiles wf
  rw [hits_cores U _ wf2, State.tile, counted]
  exact put

/-- A tile operation that ends with its cores at cycle 0 leaves a tile at cycle 0 that is its own, or that was there before. -/
theorem putTile_atZero {T t : Nat} {o : TOut} (wf : SMap.wf Tile.reset s.tiles = true) (zero : o.tile.AtZero)
    (h : T = t ∨ (s.tile t).AtZero) : ((s.putTile T o).tile t).AtZero := by
  have cores := putTile_cores (s := s) (o := o) (T := T) wf t
  split at cores
  · exact zero.of_cores cores
  · rename_i other
    exact (h.resolve_left (Ne.symm other)).of_cores cores

theorem updTile_atZero {T t : Nat} {f : Tile → Tile} (wf : SMap.wf Tile.reset s.tiles = true) (zero : ∀ v, (f v).AtZero)
    (h : T = t ∨ (s.tile t).AtZero) : ((s.updTile T f).tile t).AtZero := by
  have plain := putTile_atZero (o := TOut.of (f (s.tile T))) wf (zero _) h
  rwa [putTile_plain] at plain

/-- A fold that brings a tile to cycle 0 at every element. -/
theorem foldl_atZero {α : Type} {g : State → α → State} {key : α → Nat} {l : List α} {t : Nat} (wf : SMap.wf Tile.reset s.tiles = true)
    (keeps : ∀ u a, Keeps u (g u a))
    (here : ∀ u a, SMap.wf Tile.reset u.tiles = true → key a = t ∨ (u.tile t).AtZero → ((g u a).tile t).AtZero)
    (h : (∃ a ∈ l, key a = t) ∨ (s.tile t).AtZero) : ((l.foldl g s).tile t).AtZero := by
  induction l generalizing s with
  | nil => exact h.resolve_left (by simp)
  | cons a l ih =>
    refine ih ((keeps s a).tiles wf) ?_
    rcases h with ⟨x, mem, rfl⟩ | zero
    · rcases List.mem_cons.mp mem with rfl | later
      · exact .inr (here s x wf (.inl rfl))
      · exact .inl ⟨x, later, rfl⟩
    · exact .inr (here s a wf (.inr zero))

end

/-! ## The slots of jobs -/

/-- The job is as before but for its counts of update beads (R260). -/
def Job.OnlyBeads (b b' : Job) : Prop := { b' with updBeads := b.updBeads, updFrozen := b.updFrozen } = b

theorem Job.OnlyBeads.refl (b : Job) : b.OnlyBeads b := rfl

theorem Job.OnlyBeads.trans {a b c : Job} (h : a.OnlyBeads b) (h' : b.OnlyBeads c) : a.OnlyBeads c := by
  unfold Job.OnlyBeads at h h' ⊢
  rw [← h'] at h
  exact h

section
variable {s : State}

theorem forTiles_jobs (s : State) (ts : List Nat) (f : Nat → Tile → Tile) : (s.forTiles ts f).jobs = s.jobs :=
  (congrArg State.jobs (forTiles_only s ts f) :)

theorem armTiles_jobs (s : State) (j : SlotIx) : (s.armTiles j).jobs = s.jobs := (congrArg State.jobs (armTiles_only s j) :)

theorem hit_jobs (s : State) (t : Nat) (h : Hit) : (s.hit t h).jobs = s.jobs := by
  unfold State.hit
  split
  · rfl
  · dsimp only
    split
    · rfl
    · exact armTiles_jobs ..

/-- A tile operation counts beads in the job of its tile, and leaves the jobs alone otherwise. -/
theorem putTile_job (s : State) (T : Nat) (o : TOut) (j : SlotIx) : (s.job j).OnlyBeads ((s.putTile T o).job j) := by
  have bumped : ((s.setTile T o.tile).bumps T o.bumps).jobs = s.jobs := by
    obtain ⟨_, _, bumps⟩ := bumps_eq T o.bumps (s.setTile T o.tile)
    rw [bumps]
    rfl
  unfold State.putTile
  extract_lets s1 sum s2
  have counted : (s.job j).OnlyBeads (s2.job j) := by
    have start : s1.job j = s.job j := congrArg (fun js : Vector Job 8 => js[j]) bumped
    unfold s2
    split
    · rename_i k _
      split
      · exact start ▸ .refl _
      · by_cases same : j = slotIx k
        · subst same
          rw [job_updJob, start]
          rfl
        · rw [State.updJob, job_setJob_ne s1 _ same, start]
          exact .refl _
    · exact start ▸ .refl _
  have hits : (o.hits.foldl (fun s h => s.hit T h) s2).jobs = s2.jobs := foldl_view (view := State.jobs) (fun u h => hit_jobs u T h) _ s2
  have slot : (o.hits.foldl (fun s h => s.hit T h) s2).job j = s2.job j := congrArg (fun js : Vector Job 8 => js[j]) hits
  exact slot ▸ counted

theorem foldl_onlyBeads {α : Type} {g : State → α → State} {j : SlotIx} (keeps : ∀ (u : State) a, (u.job j).OnlyBeads ((g u a).job j)) (l : List α)
    (s : State) : (s.job j).OnlyBeads ((l.foldl g s).job j) :=
  List.foldlRecOn (motive := fun u => (s.job j).OnlyBeads (u.job j)) l g (.refl _) fun u h a _ => h.trans (keeps u a)

theorem commitLine_jobs (s : State) (e : EngineIx) (addr : Nat) (v : V512) (poison : Bool) : (s.commitLine e addr v poison).jobs = s.jobs := by
  unfold State.commitLine
  split <;> rfl

theorem engStop_jobs (s : State) (e : EngineIx) : (s.engStop e).jobs = s.jobs :=
  foldl_view (view := State.jobs) (f := fun (s : State) (l : WbLine) => s.commitLine e l.addr l.data true)
    (fun u l => commitLine_jobs u e l.addr l.data true) _ s

theorem beginPark_jobs (s : State) (z cause : Nat) (toOff : Bool) : (s.beginPark z cause toOff).jobs = s.jobs := by
  unfold State.beginPark
  dsimp only
  split
  · rfl
  · split
    · rfl
    · split
      · exact forTiles_jobs ..
      · split <;> rfl

theorem parkHeld_jobs (s : State) (zones : List Nat) : (s.parkHeld zones).jobs = s.jobs :=
  foldl_view (view := State.jobs) (f := fun s z => if s.zoneHeld z then s.beginPark z pcHold false else s)
    (fun u z => by split; exacts [beginPark_jobs .., rfl]) zones s

/-- A job as its end leaves it (R228, R238). -/
def Job.ended (status now : Nat) (b : Job) : Job :=
  { b with
    state := jsEnded, status := status, phase := .none, pending := [], stopReq := none, endTally := now, energyFinal := b.energyUj / 1000
    halted := false, linkStops := [], groupStop := none }

/-- The end of a job that has a plan, in its slot. -/
theorem endJob_job {j : SlotIx} {p : Plan} (plan : (s.job j).plan = some p) (status : Nat) (normal : Bool) :
    ∃ b, (s.job j).OnlyBeads b ∧ (s.endJob j status normal).job j = b.ended status s.tally.now := by
  unfold State.endJob
  extract_lets b0
  split
  case h_1 noPlan => exact nomatch noPlan.symm.trans plan
  case h_2 q _ =>
    extract_lets tiled s1 s2 s3 prot s4
    have tiles : (s.job j).OnlyBeads (tiled.job j) := foldl_onlyBeads (fun u (r : TileRec) => putTile_job u r.t _ j) _ s
    have stopped : (s.job j).OnlyBeads (s1.job j) := by
      unfold s1
      split
      · have engines : (q.engineSet.foldl (fun s e => s.engStop (engIx e)) tiled).jobs = tiled.jobs :=
          foldl_view (view := State.jobs) (fun u e => engStop_jobs u (engIx e)) _ tiled
        have dropped : ((q.engineSet.foldl (fun s e => s.engStop (engIx e)) tiled).dropRows q).job j = tiled.job j :=
          congrArg (fun js : Vector Job 8 => js[j]) engines
        exact dropped ▸ tiles
      · exact .refl _
    have slot : s4.job j = s3.job j := rfl
    refine ⟨s1.job j, stopped, ?_⟩
    rw [State.job, parkHeld_jobs, ← State.job, job_setJobState, slot, job_updJob, job_bump]
    rfl

end

/-! ## The release (R227, R272) -/

section
variable {s : State} {j : SlotIx} {p : Plan}

/-- The job at cycle 0 of its next step. -/
def Job.nextStep (p : Plan) (n : Nat) (b : Job) : Job :=
  { b with
    phase := .step, task := n, len := p.len n, reruns := 0, execs := [], arrived := [], late := 0, carried := false, linkDets := [] }

theorem nextUnits_job (n : Nat) : ∃ b, (s.job j).OnlyBeads b ∧ (s.nextUnits j p n).job j = b.nextStep p n := by
  unfold State.nextUnits
  extract_lets s1 s2
  have tiles : (s.job j).OnlyBeads (s1.job j) := foldl_onlyBeads (fun u (r : TileRec) => putTile_job u r.t _ j) _ s
  have engines : s2.jobs = s1.jobs := (congrArg State.jobs (updEngs_only s1 p.engs ..) :)
  have slot : s2.job j = s1.job j := congrArg (fun js : Vector Job 8 => js[j]) engines
  refine ⟨s1.job j, tiles, ?_⟩
  rw [State.job, armTiles_jobs, ← State.job, job_updJob, slot]
  rfl

theorem nextUnits_atZero (wf : SMap.wf Tile.reset s.tiles = true) (n : Nat) {r : TileRec} (mem : r ∈ p.tiles) :
    ((s.nextUnits j p n).tile r.t).AtZero := by
  unfold State.nextUnits
  extract_lets s1 s2
  have started : (s1.tile r.t).AtZero :=
    foldl_atZero wf (fun u _ => (Keeps.refl u).putTile) (fun _ _ wf h => putTile_atZero wf (Tile.atZero_nextStep _ _ _ _) h) (.inl ⟨r, mem, rfl⟩)
  have wf1 : SMap.wf Tile.reset s1.tiles = true := (Keeps.foldl (fun _ _ h => h.putTile) (.refl s)).tiles wf
  have engines : s2.tiles = s1.tiles := tiles_foldl fun _ _ => rfl
  have tile : s2.tile r.t = s1.tile r.t := congrArg (SMap.get Tile.reset · r.t) engines
  exact (tile ▸ started : (s2.tile r.t).AtZero).of_cores (armTiles_cores (by exact engines ▸ wf1) r.t)

/-- The job at cycle 0 of the same step again. -/
def Job.rerunStep (p : Plan) (plan : Bool) (b : Job) : Job :=
  { b with
    phase := .step, reruns := b.reruns + 1, rerunSteps := b.rerunSteps + (if b.reruns = 0 then 1 else 0)
    rerunCy := satAdd b.rerunCy (b.len + b.late + nominalFence p.fenceD plan), arrived := [], late := 0, carried := false, linkDets := [] }

/-- The tiles and the engines of a rerun, before its job is noted. -/
theorem rerunUnits_eq (plan : Bool) :
    ∃ v : State, v.jobs = s.jobs ∧ v.ctr = s.ctr ∧ v.tiles = (s.forTiles p.tileSet fun _ t => t.rerunStep).tiles
      ∧ s.rerunUnits j p plan = ((v.updJob j (Job.rerunStep p plan)).bump (ck 0x9170 4) 1).armTiles j := by
  refine ⟨_, ?_, ?_, ?_, rfl⟩
  · exact (congrArg State.jobs (updEngs_only _ p.engineSet ..) :).trans (forTiles_jobs ..)
  · exact (congrArg State.ctr (updEngs_only _ p.engineSet ..) :).trans (congrArg State.ctr (forTiles_only ..) :)
  · exact tiles_foldl fun _ _ => rfl

theorem rerunUnits_job (plan : Bool) : (s.rerunUnits j p plan).job j = (s.job j).rerunStep p plan := by
  obtain ⟨v, jobs, -, -, eq⟩ := rerunUnits_eq (s := s) (j := j) (p := p) plan
  have slot : v.job j = s.job j := congrArg (fun js : Vector Job 8 => js[j]) jobs
  rw [eq, State.job, armTiles_jobs, ← State.job, job_bump, job_updJob, slot]

theorem rerunUnits_counted (plan : Bool) : counted s (s.rerunUnits j p plan) (ck 0x9170 4) 1 := by
  obtain ⟨v, -, ctr, -, eq⟩ := rerunUnits_eq (s := s) (j := j) (p := p) plan
  obtain ⟨risen, others⟩ := counted_bump (v.updJob j (Job.rerunStep p plan)) (ck 0x9170 4) Nat.one_pos
  have armed (x : Nat) : (s.rerunUnits j p plan).counter x = ((v.updJob j (Job.rerunStep p plan)).bump (ck 0x9170 4) 1).counter x := by
    rw [eq]
    exact congrArg (SMap.get 0 · x) (congrArg State.ctr (armTiles_only ..) :)
  have before (x : Nat) : (v.updJob j (Job.rerunStep p plan)).counter x = s.counter x := congrArg (SMap.get 0 · x) ctr
  exact ⟨by rw [armed, risen, before], fun x other => by rw [armed, others x other, before]⟩

theorem rerunUnits_atZero (wf : SMap.wf Tile.reset s.tiles = true) (plan : Bool) {t : Nat} (mem : t ∈ p.tileSet) :
    ((s.rerunUnits j p plan).tile t).AtZero := by
  obtain ⟨v, -, -, tiles, eq⟩ := rerunUnits_eq (s := s) (j := j) (p := p) plan
  have started : ((s.forTiles p.tileSet fun _ t => t.rerunStep).tile t).AtZero :=
    foldl_atZero wf (fun u _ => (Keeps.refl u).updTile) (fun _ _ wf h => updTile_atZero wf Tile.atZero_rerunStep h) (.inl ⟨t, mem, rfl⟩)
  have tile : v.tile t = (s.forTiles p.tileSet fun _ t => t.rerunStep).tile t := congrArg (SMap.get Tile.reset · t) tiles
  rw [eq]
  refine (tile ▸ started : (v.tile t).AtZero).of_cores (armTiles_cores ?_ t)
  exact tiles ▸ (Keeps.refl s).forTiles.tiles wf

/-- A release that nothing holds back. -/
theorem release_decided {n : Nat} {rerun plan : Bool} (hasPlan : (s.job j).plan = some p) (decided : (s.job j).phase = .decided n rerun plan)
    (running : (s.job j).running = true) (free : (s.job j).halted = false) (noHalt : s.haltAtFence j = false) :
    ∃ v : State, v.tiles = s.tiles ∧ v.jobs = s.jobs ∧ v.ctr = s.ctr
      ∧ s.release j = if rerun then v.rerunUnits j p plan else v.nextUnits j p n := by
  simp only [State.release, hasPlan, decided, running, free, noHalt]
  refine ⟨_, ?_, ?_, ?_, rfl⟩ <;> rfl

end

/-! ## The timeouts of a step (R211, R229) -/

section
variable {s : State} {j : SlotIx} {p : Plan}

theorem stepTimesOut_late (hasPlan : (s.job j).plan = some p) (phase : (s.job j).phase = .step) (running : (s.job j).running = true)
    (free : (s.job j).halted = false) (late : (s.job j).allArrived = false) :
    ∃ ts : List Nat, s.stepTimesOut j = ((s.updJob j fun b => { b with laggards := ts.take 16 }).bump (ck 0x7020 5) 1).endJob j 0x0713 false := by
  simp only [State.stepTimesOut, hasPlan, phase, running, free, late]
  exact ⟨_, rfl⟩

theorem engineTimesOut_late {e : EngineIx} (owner : s.engineOwner e.val = some j) (hasPlan : (s.job j).plan = some p)
    (phase : (s.job j).phase = .step) (running : (s.job j).running = true) (free : (s.job j).halted = false)
    (tiles : ∀ t, t ∈ p.tileSet → (s.job j).arrived.any (fun v => unitKey v == t) = true)
    (late : (s.job j).arrived.any (fun v => unitKey v == 2048 + e.val) = false) :
    s.engineTimesOut e
      = ((State.noteEngine e s (s.updEng e (engFault 8 0 0 (s.job j).len))).endJob j 0x0575 false).retryFail 7 (e.val / 2) rcTimeout := by
  have routers : p.tileSet.all (fun t => (s.job j).arrived.any (fun v => unitKey v == t)) = true := List.all_eq_true.mpr tiles
  simp only [State.engineTimesOut, owner, hasPlan, phase, running, free, routers, late]
  rfl

theorem noteEngine_jobs (e : EngineIx) (s0 s1 : State) : (State.noteEngine e s0 s1).jobs = s1.jobs := by
  unfold State.noteEngine
  split <;> rfl

end

/-- Settles O24: the release starts every tile and the job with cycle 0, and a timeout is the end of the job with its status. -/
theorem releaseAndTimeouts : Obligations.ReleaseAndTimeouts := by
  unfold Obligations.ReleaseAndTimeouts
  refine ⟨fun s j p n plan hI hasPlan decided running free noHalt => ?next, fun s j p n plan hI hasPlan decided running free noHalt => ?rerun,
    fun s j p hasPlan phase running free late => ?step, fun s e j p owner hasPlan phase running free tiles late => ?engine⟩
  case next =>
    obtain ⟨v, tiles, jobs, -, eq⟩ := release_decided hasPlan decided running free noHalt
    obtain ⟨b, beads, job⟩ := nextUnits_job (s := v) (j := j) (p := p) n
    have steps : b.steps = (s.job j).steps :=
      (congrArg Job.steps beads :).trans (congrArg (fun js : Vector Job 8 => js[j].steps) jobs)
    refine ⟨_, (exec_fenceRelease j s).trans (congrArg Host.Outcome.next eq), ?_⟩
    rw [if_neg Bool.false_ne_true, job]
    exact ⟨rfl, rfl, rfl, rfl, rfl, rfl, steps, fun r mem => nextUnits_atZero (tiles ▸ hI.2) n mem⟩
  case rerun =>
    obtain ⟨v, tiles, jobs, ctr, eq⟩ := release_decided hasPlan decided running free noHalt
    have slot : v.job j = s.job j := congrArg (fun js : Vector Job 8 => js[j]) jobs
    have before (x : Nat) : v.counter x = s.counter x := congrArg (SMap.get 0 · x) ctr
    obtain ⟨risen, others⟩ := rerunUnits_counted (s := v) (j := j) (p := p) plan
    refine ⟨_, (exec_fenceRelease j s).trans (congrArg Host.Outcome.next eq), ?_⟩
    rw [if_pos rfl, rerunUnits_job, slot]
    exact ⟨rfl, rfl, rfl, rfl, rfl, rfl, rfl, ⟨before _ ▸ risen, fun x other => before x ▸ others x other⟩,
      fun t mem => rerunUnits_atZero (tiles ▸ hI.2) plan mem⟩
  case step =>
    obtain ⟨ts, eq⟩ := stepTimesOut_late hasPlan phase running free late
    obtain ⟨b, beads, job⟩ := endJob_job (s := (s.updJob j fun b => { b with laggards := ts.take 16 }).bump (ck 0x7020 5) 1) (j := j) (p := p)
      (by rw [job_bump, job_updJob]; exact hasPlan) 0x0713 false
    have laggards : b.laggards = ts.take 16 := by
      have same := congrArg Job.laggards beads
      rwa [job_bump, job_updJob] at same
    refine ⟨_, (exec_stepTimeout j s).trans (congrArg Host.Outcome.next eq), ?_⟩
    rw [job]
    refine ⟨rfl, rfl, ?_, rfl⟩
    rw [Job.ended, laggards]
    exact List.length_take_le ..
  case engine =>
    refine ⟨_, (exec_engineFenceTimeout e s).trans (congrArg Host.Outcome.next (engineTimesOut_late owner hasPlan phase running free tiles late)), ?_⟩
    have slot : (State.noteEngine e s (s.updEng e (engFault 8 0 0 (s.job j).len))).job j = s.job j :=
      congrArg (fun js : Vector Job 8 => js[j]) (noteEngine_jobs e s _)
    obtain ⟨b, -, job⟩ := endJob_job (slot ▸ hasPlan) 0x0575 false
    exact ⟨(congrArg Job.state job :), (congrArg Job.status job :), rfl⟩

end Sys2Proof.Machine
end

section
namespace Sys2Proof.Machine

/-! # Copy engines and memory stacks (R201 to R215) -/

/-! ## Bytes and numbers -/

theorem natOfLE_leOfNat_append (n v : Nat) (bs : List Byte) : natOfLE (leOfNat n v ++ bs) = v % 256 ^ n + 256 ^ n * natOfLE bs := by
  induction n generalizing v with
  | zero => simp [leOfNat, Nat.mod_one]
  | succ n ih =>
    have digit : (BitVec.ofNat 8 v).toNat = v % 256 := BitVec.toNat_ofNat v 8
    rw [leOfNat, List.cons_append, natOfLE, ih, digit, Nat.pow_succ', Nat.mod_mul, Nat.mul_add, Nat.mul_assoc, Nat.add_assoc]

theorem natOfLE_lt (bs : List Byte) : natOfLE bs < 2 ^ (8 * bs.length) := by
  induction bs with
  | nil => exact Nat.one_pos
  | cons b bs ih =>
    have digit := b.isLt
    rw [natOfLE, List.length_cons, Nat.mul_succ, Nat.pow_add]
    omega

theorem leOfNat_natOfLE (bs : List Byte) : leOfNat bs.length (natOfLE bs) = bs := by
  induction bs with
  | nil => rfl
  | cons b bs ih =>
    have digit := b.isLt
    have low : BitVec.ofNat 8 (b.toNat + 256 * natOfLE bs) = b := BitVec.eq_of_toNat_eq (by rw [BitVec.toNat_ofNat]; omega)
    have high : (b.toNat + 256 * natOfLE bs) / 256 = natOfLE bs := by omega
    rw [natOfLE, List.length_cons, leOfNat, low, high, ih]

/-- The bytes of a line are those that it was formed of. -/
theorem lineBytes_bytesLine {bs : List Byte} (length : bs.length = 64) : lineBytes (bytesLine bs) = bs := by
  have bits : 8 * bs.length = 512 := by rw [length]
  rw [lineBytes, bytesLine, BitVec.toNat_ofNat, Nat.mod_eq_of_lt (by rw [← bits]; exact natOfLE_lt bs), ← length, leOfNat_natOfLE]

theorem natOfLE_words (ls : List Nat) : natOfLE (ls.flatMap (leOfNat 8)) = lanesNat 64 ls := by
  induction ls with
  | nil => rfl
  | cons l ls ih => rw [List.flatMap_cons, natOfLE_leOfNat_append, ih]; rfl

/-- Every lane of a line that repeats one word is that word. -/
theorem laneOf_repeated (v : Nat) {n : Nat} (hn : n < 8) : laneOf 64 (bytesLine ((upTo 8).flatMap fun _ => leOfNat 8 v)) n = v % 2 ^ 64 := by
  have words : (upTo 8).flatMap (fun _ => leOfNat 8 v) = ((upTo 8).map fun _ => v).flatMap (leOfNat 8) := (List.flatMap_map ..).symm
  rw [bytesLine, words, natOfLE_words]
  exact laneOf_ofLanes_map (.int 64) (fun _ => v) hn

/-! ## Lines of device memory (R197, R208) -/

theorem mem_insNat {x k : Nat} {l : List Nat} : x ∈ insNat k l ↔ x = k ∨ x ∈ l := by
  induction l with
  | nil => simp [insNat]
  | cons a l ih =>
    unfold insNat
    split
    · simp
    · split
      · rename_i same
        simp [same]
      · simp [ih, or_left_comm]

section
variable {s s' u u' : State} {p : Nat × Nat} {v : V512} {poison : Bool}

/-- A write of the bytes of a whole line. -/
theorem stackWrite_lineWritten (wf : s.mem.data.wf = true) : LineWritten s (s.stackWrite p.1 (lineAddr p.2) (lineBytes v) poison) p v poison := by
  have length : (lineBytes v).length = 64 := leOfNat_length _ _
  refine ⟨?_, fun q outside => ?_, ?_, fun l other => ?_⟩
  · rw [← length]
    exact Mem.readBytes_writeBytes _ _ _ wf
  · exact State.stackWrite_read_out _ _ _ _ _ _ (by rwa [length])
  · cases poison
    · simp [State.stackWrite, length]
    · simp [State.stackWrite, mem_insNat]
  · cases poison
    · simp [State.stackWrite, length, other]
    · simp [State.stackWrite, mem_insNat, other]

theorem putLine_lineWritten (wf : s.mem.data.wf = true) : LineWritten s (s.putLine p.1 p.2 v poison) p v poison := stackWrite_lineWritten wf

/-- A line that has been written stays so while bytes and metadata are kept. -/
theorem LineWritten.of_keepsBytes (h : LineWritten s u p v poison) (before : keepsBytes s s') (after : keepsBytes u u') :
    LineWritten s' u' p v poison := by
  obtain ⟨data, marks⟩ := before
  obtain ⟨data', marks'⟩ := after
  unfold LineWritten at h ⊢
  rwa [data, marks, data', marks']

end

/-! ## Updates of one engine -/

section
variable {s s' u : State} {e : EngineIx} {f : EngSt → EngSt}

@[simp] theorem eng_updEng (s : State) (e : EngineIx) (f : EngSt → EngSt) : (s.updEng e f).eng e = f (s.eng e) :=
  Vector.getElem_set_self _

theorem eng_updEng_ne (s : State) {e x : EngineIx} (f : EngSt → EngSt) (other : x ≠ e) : (s.updEng e f).eng x = s.eng x :=
  Vector.getElem_set_ne e.isLt x.isLt fun same => other (Fin.ext same.symm)

theorem onlyEngine_updEng (engines : s'.mem.engines = s.mem.engines) : onlyEngine s (s'.updEng e f) e := fun x other =>
  (eng_updEng_ne s' f other).trans (congrArg (fun es : Vector EngSt 32 => es[x]) engines)

/-- No event where the fault record is as before. -/
theorem noteEngine_of_fault (same : (u.eng e).fault = (s.eng e).fault) : State.noteEngine e s u = u :=
  if_neg fun ⟨clear, written⟩ => written (same.trans clear)

/-- The event of a fault record leaves device memory and the engines as they are. -/
theorem noteEngine_mem (e : EngineIx) (s u : State) : (State.noteEngine e s u).mem = u.mem := by
  unfold State.noteEngine
  split <;> rfl

theorem EngReady.due {di op : Nat} {d : Desc} {k : Nat} (ready : EngReady s e di op d k) : (s.eng e).due di op = true := by
  obtain ⟨due, -, -⟩ := ready
  rw [State.copyDue, Bool.and_eq_true] at due
  exact due.2

theorem EngReady.op {di op : Nat} {d : Desc} {k : Nat} (ready : EngReady s e di op d k) : d.op = op := by
  have due := ready.due
  obtain ⟨-, rfl, -⟩ := ready
  simp only [EngSt.due, Bool.and_eq_true, beq_iff_eq] at due
  exact due.1.2

end

/-! ## Departures (R201, R203, R206) -/

section
variable {s : State} {e : EngineIx} {di k : Nat} {d : Desc} {l : StagedLine}

/-- The edge router of a column on the engine's side (R196). -/
def State.edgeTile (s : State) (e : EngineIx) (col : Nat) : Nat := 48 * s.edgeRow (engTop e.val) + engColumn e.val col

/-- What stands at that router's input after a line has been placed in cycle `cy`. -/
def State.planFlit (s : State) (e : EngineIx) (col cy : Nat) (v : V512) (poison hopBad : Bool) : PlanFlit :=
  ⟨edgePort (engTop e.val), cy + s.engLatency e col, v, poison, hopBad⟩

/-- A tile at one of whose inputs a plan flit has arrived (R188). -/
def flitArrived (f : PlanFlit) (t : Tile) : Tile :=
  t.updRouter fun r => { r with flits := r.flits ++ [f], arrived := SMap.put 0 r.arrived f.port (SMap.get 0 r.arrived f.port + 1) }

theorem engPlace_busy {col cy : Nat} {v : V512} {poison corrupt : Bool} (busy : (s.tile (s.edgeTile e col)).job ≠ none) :
    s.engPlace e col cy v poison corrupt = s.updTile (s.edgeTile e col) (flitArrived (s.planFlit e col cy v poison corrupt)) :=
  if_neg (by rw [Option.isNone_iff_eq_none]; exact busy)

/-- The copy engine as line `k` has left for its only requester: the line's place in the staging buffer is free. -/
def lineDeparted (di k : Nat) (g : EngSt) : EngSt :=
  { g.advance di with stage := g.stage.filter (fun l => ! (l.desc == di && l.line == k && ! l.early)), nDeparted := g.nDeparted + 1 }

theorem advance_moved (di : Nat) (g : EngSt) : SMap.get 0 (g.advance di).moved di = SMap.get 0 g.moved di + 1 := SMap.get_put_succ ..

theorem lineDeparted_staged (di k : Nat) (g : EngSt) : (lineDeparted di k g).staged di k = none := by
  rw [EngSt.staged, List.find?_eq_none]
  intro l kept
  have left := (List.mem_filter.mp kept).2
  simpa [imp_iff_not_or, or_assoc] using left

/-- A line that its only requester has taken is released. -/
theorem release_advance {g : EngSt} (moved : SMap.get 0 g.moved di = k) (alone : g.sharers di = [di]) (staged : (g.staged di k).isSome = true) :
    (g.advance di).release di k = lineDeparted di k g := by
  have shared : (g.advance di).sharers di = [di] := alone
  have held : ((g.advance di).staged di k).isSome = true := staged
  have taken : k < SMap.get 0 (g.advance di).moved di := by rw [advance_moved, moved]; exact Nat.lt_succ_self k
  rw [EngSt.release, shared, held]
  simp only [List.all_cons, List.all_nil, decide_eq_true taken]
  rfl

/-- A descriptor that is READ, or READ_REQ with a living request, has its staged line placed on its column. -/
theorem departLine_staged (desc : tableDesc (s.eng e).table di = d) (moved : SMap.get 0 (s.eng e).moved di = k) (bead : d.bead = 0)
    (root : (s.eng e).root di = di) (alone : (s.eng e).sharers di = [di]) (live : d.op = opReadReq → ∃ r, (s.eng e).req di = some r ∧ r.dead = false)
    (staged : (s.eng e).staged di k = some l) (here : l.fetching = false) (good : l.unc = none) (busy : (s.tile (s.edgeTile e d.col)).job ≠ none) :
    s.departLine e di false = (s.updTile (s.edgeTile e d.col) (flitArrived (s.planFlit e d.col (d.cy k) l.data l.poison false))).updEng e
      (lineDeparted di k) := by
  have asked : (d.op == opReadReq && ((s.eng e).req di).isNone) = false := by
    by_cases request : d.op = opReadReq
    · obtain ⟨r, found, -⟩ := live request
      simp [found]
    · simp [request]
  have unchecked : s.checkGroup e d di k = s := if_pos (.inl bead)
  have ready : ((s.eng e).staged di k).bind (fun l => if l.fetching then none else some l) = some l := by simp [staged, here]
  have released (g : EngSt) (same : g = s.eng e) : (g.advance di).release di k = lineDeparted di k g :=
    release_advance (same ▸ moved) (same ▸ alone) (same ▸ Option.isSome_iff_exists.mpr ⟨l, staged⟩)
  simp only [State.departLine, desc, moved, asked, Bool.false_and, Bool.false_eq_true, if_false, unchecked, root, ready, good, bead,
    bne_self_eq_false, Bool.or_false, engPlace_busy busy]
  refine (if_neg ?alive).trans (congrArg ((s.updTile _ _).setEng e) (released _ rfl))
  case alive =>
    by_cases request : d.op = opReadReq
    · obtain ⟨r, found, lives⟩ := live request
      simp [found, lives]
    · simp [request]

/-- A command that has the next line of a descriptor leave. -/
theorem Departs.of_departLine {mk : EngineIx → Fin 8192 → Bool → Instr} {op : Nat}
    (meaning : ∀ e (di : Fin 8192) corrupt s,
      exec (mk e di corrupt) s = .next (if s.copyDue e di.val op then State.noteEngine e s (s.departLine e di.val corrupt) else s)) :
    Departs mk op := by
  intro s e di d k l hI ready bead root alone live staged here good t busy
  have kind := ready.op
  obtain ⟨due, desc, moved⟩ := ready
  have left := departLine_staged desc moved bead root alone (fun request => live (kind.symm.trans request)) staged here good busy
  have engine : (s.departLine e di.val false).eng e = lineDeparted di.val k (s.eng e) := left ▸ eng_updEng ..
  have tile : (s.departLine e di.val false).tile t = flitArrived (s.planFlit e d.col (d.cy k) l.data l.poison false) (s.tile t) :=
    left ▸ State.tile_setTile_same s t _ hI.2
  refine ⟨s.departLine e di.val false, ?_, ?_, ?_, ?_, fun x other => ?_, ?_, ?_, ?_⟩
  · rw [meaning, if_pos due, noteEngine_of_fault (by rw [engine]; rfl)]
  · rw [left]; rfl
  · rw [left]; exact ⟨rfl, rfl⟩
  · rw [left]; exact onlyEngine_updEng rfl
  · rw [left]; exact State.tile_setTile_ne s _ other
  · rw [tile]; rfl
  · rw [tile]; rfl
  · rw [engine]
    exact ⟨(advance_moved ..).trans (congrArg (· + 1) moved), rfl, lineDeparted_staged ..⟩

end

/-! ## Lines written to device memory (R201, R208) -/

section
variable {s : State} {e : EngineIx} {di k : Nat} {d : Desc} {p : Nat × Nat}

/-- A write of a line and an update of one engine, with the counters as they then are. -/
theorem lineWritten_updEng {v : V512} {poison : Bool} {f : EngSt → EngSt} {ctr : SMap Nat} (hI : s.Inv) :
    onlyMem s (({ s.putLine p.1 p.2 v poison with ctr := ctr } : State).updEng e f)
      ∧ LineWritten s (({ s.putLine p.1 p.2 v poison with ctr := ctr } : State).updEng e f) p v poison
      ∧ onlyEngine s (({ s.putLine p.1 p.2 v poison with ctr := ctr } : State).updEng e f) e :=
  ⟨rfl, (putLine_lineWritten hI.1).of_keepsBytes ⟨rfl, rfl⟩ ⟨rfl, rfl⟩, onlyEngine_updEng rfl⟩

theorem updEng_updEng (s : State) (e : EngineIx) (f g : EngSt → EngSt) : (s.updEng e f).updEng e g = s.updEng e fun x => g (f x) := by
  have engines : (s.updEng e f).mem.engines.set e (g ((s.updEng e f).eng e)) = s.mem.engines.set e (g (f (s.eng e))) := by
    rw [eng_updEng]
    exact Vector.set_set ..
  exact congrArg (fun es => { s with mem := { s.mem with engines := es } }) engines

theorem commitLine_at {addr : Nat} {v : V512} {poison : Bool} (place : s.locate addr = some p) :
    s.commitLine e addr v poison = (s.putLine p.1 p.2 v poison).updEng e fun g => { g with nCommitted := g.nCommitted + 1 } := by
  simp only [State.commitLine, place]

theorem locate_updEng (s : State) (e : EngineIx) (f : EngSt → EngSt) (addr : Nat) : (s.updEng e f).locate addr = s.locate addr := rfl

theorem putLine_updEng (s : State) (e : EngineIx) (f : EngSt → EngSt) (stack loc : Nat) (v : V512) (poison : Bool) :
    (s.updEng e f).putLine stack loc v poison = (s.putLine stack loc v poison).updEng e f := rfl

/-- A copy engine that has taken a good line of a WRITE and committed it. -/
def lineCommitted (di : Nat) (g : EngSt) : EngSt :=
  { g.advance di with nArrived := g.nArrived + 1, nCommitted := g.nCommitted + 1 }

theorem arriveLine_good {f : PortFlit} (desc : tableDesc (s.eng e).table di = d) (moved : SMap.get 0 (s.eng e).moved di = k) (bead : d.bead = 0)
    (flit : (s.eng e).flitAt d.col (d.cy k) = some f) (intact : f.hopBad = false) (place : s.locate (d.addr + 64 * k) = some p) :
    s.arriveLine e di = (s.putLine p.1 p.2 f.data f.poison).updEng e (lineCommitted di) := by
  have addr : d.lineAt d.addr d.addr2 k = d.addr + 64 * k := if_pos bead
  simp only [State.arriveLine, desc, moved, flit, intact, addr, bead, if_true, Bool.false_eq_true, if_false, Option.isNone_some, Bool.or_false]
  rw [commitLine_at ((locate_updEng ..).trans place)]
  rw [putLine_updEng, updEng_updEng]
  rfl

theorem bumpAll_ctr (l : List (Nat × Nat)) (s : State) : ∃ ctr, s.bumpAll l = { s with ctr := ctr } := by
  induction l generalizing s with
  | nil => exact ⟨_, rfl⟩
  | cons b l ih => exact ih (s.bump b.1 b.2)

/-- A line without symbols in error reads as it is stored (R208). -/
theorem eccRead_good (stored : Bool) : (eccRead 0 0 stored).1 = stored ∧ (eccRead 0 0 stored).2.1 = false := ⟨rfl, rfl⟩

theorem moveLine_good {a b : Nat × Nat} (desc : tableDesc (s.eng e).table di = d) (moved : SMap.get 0 (s.eng e).moved di = k)
    (source : s.locate (d.addr + 64 * k) = some a) (target : s.locate (d.addr2 + 64 * k) = some b) :
    ∃ ctr, s.moveLine e di 0 0
      = ({ s.putLine b.1 b.2 (s.stackLine a.1 a.2) (s.linePoison a.1 a.2) with ctr := ctr } : State).updEng e fun g => g.advance di := by
  obtain ⟨ctr, bumped⟩ := bumpAll_ctr (eccRead 0 0 (s.linePoison a.1 a.2)).2.2 (s.putLine b.1 b.2 (s.stackLine a.1 a.2) (s.linePoison a.1 a.2))
  refine ⟨ctr, ?_⟩
  -- unfolded as a function: unfolded at its arguments, the kernel would evaluate `State.locate`
  have unfolded := Eq.refl @State.moveLine
  conv_rhs at unfolded => delta State.moveLine
  rw [unfolded]
  simp only [desc, moved, source, target, eccRead_good, bumped, Bool.false_eq_true, if_false]

theorem fillLine_at (desc : tableDesc (s.eng e).table di = d) (moved : SMap.get 0 (s.eng e).moved di = k)
    (place : s.locate (d.addr + 64 * k) = some p) :
    s.fillLine e di = (s.putLine p.1 p.2 (bytesLine ((upTo 8).flatMap fun _ => leOfNat 8 d.fill)) false).updEng e fun g => g.advance di := by
  simp only [State.fillLine, desc, moved, place]

end

/-! ## Requests and fetches (R203, R204, R207) -/

section
variable {s : State} {e : EngineIx} {di k : Nat} {d : Desc}

/-- The bases that a request flit gives (R201). -/
def requestBase (d : Desc) (f : PortFlit) : Nat := fieldN f.data.toNat (64 * d.word) 64
def requestSide (d : Desc) (f : PortFlit) : Nat := if d.bead = 0 then 0 else fieldN f.data.toNat (64 * (d.word + 1)) 64

/-- A copy engine that keeps what a request flit has asked for. -/
def requestKept (r : ReqSt) (g : EngSt) : EngSt := { g with reqs := g.reqs ++ [r] }

/-- The first request flit of a step takes effect by the range that it names (R207). -/
theorem requestArrives_first {f : PortFlit} (step : (s.engStep e).isSome = true) (due : (s.eng e).due di opReadReq = true)
    (first : (s.eng e).reqs = []) (desc : tableDesc (s.eng e).table di = d) (flit : (s.eng e).flitAt d.col d.reqCy = some f)
    (intact : f.hopBad = false) (clean : f.poison = false) :
    s.requestArrives e di
      = if s.rangeOk e d (requestBase d f) (requestSide d f) = true then
          (s.updEng e (requestKept ⟨di, requestBase d f, requestSide d f, false, none⟩)).bump (ck 0x9150 6) 0
        else s.updEng e fun g => requestKept ⟨di, 0, 0, true, none⟩ (engFault 1 di d.col d.reqCy g) := by
  have steps : (s.engStep e).isNone = false := Option.isNone_eq_false_iff.mpr step
  have unasked : (s.eng e).req di = none := by rw [EngSt.req, first]; rfl
  simp only [State.requestArrives, steps, due, unasked, desc, flit, intact, clean, first]
  unfold requestBase requestSide
  simp only [Option.isSome_none, Bool.not_true, Bool.or_false, Bool.false_eq_true, if_false, Bool.not_eq_true', ← Bool.not_eq_true, ite_not]
  rfl

/-- A first fault record holds the cycle, the descriptor, the column and the cause (R211). -/
theorem engFault_fault {cause col cy : Nat} {g : EngSt} (clear : g.fault = 0) :
    (engFault cause di col cy g).fault = cy % 2 ^ 32 * 2 ^ 32 + di * 2 ^ 19 + col * 2 ^ 17 + cause := if_pos clear

/-- A copy engine into whose staging buffer line `k` of a descriptor is on its way. -/
def lineFetched (di k : Nat) (l : StagedLine) (g : EngSt) : EngSt :=
  { g with stage := g.stage ++ [l], nFetched := g.nFetched + 1, fetched := SMap.put 0 g.fetched di (k + 1) }

theorem fetchLine_good {j : SlotIx} {p : Nat × Nat} (owner : s.engineOwner e.val = some j) (phase : (s.job j).phase = .step)
    (free : (s.job j).halted = false) (runs : (s.eng e).stopped = false) (desc : tableDesc (s.eng e).table di = d)
    (next : (s.eng e).nextFetch di (s.nextRange e j) = some (k, false)) (unasked : (s.eng e).req di = none)
    (place : s.locate (d.lineAt d.addr d.addr2 k) = some p) :
    ∃ ctr, s.fetchLine e di 0 0
      = { s.updEng e (lineFetched di k ⟨di, k, s.stackLine p.1 p.2, s.linePoison p.1 p.2, none, true, false⟩) with ctr := ctr } := by
  obtain ⟨ctr, bumped⟩ := bumpAll_ctr (eccRead 0 0 (s.linePoison p.1 p.2)).2.2
    (s.updEng e (lineFetched di k ⟨di, k, s.stackLine p.1 p.2, s.linePoison p.1 p.2, none, true, false⟩))
  refine ⟨ctr, bumped ▸ ?_⟩
  simp only [State.fetchLine, owner, phase, free, runs, desc, next, unasked, Option.getD_none, place]
  rfl

theorem stageNext_append {pre post : List StagedLine} {l : StagedLine} (before : ∀ x, x ∈ pre → x.desc ≠ di ∨ x.fetching = false)
    (desc : l.desc = di) (fetching : l.fetching = true) : stageNext di (pre ++ l :: post) = pre ++ { l with fetching := false } :: post := by
  induction pre with
  | nil => exact if_pos ⟨desc, fetching⟩
  | cons x pre ih =>
    have passed : ¬ (x.desc = di ∧ x.fetching = true) := fun ⟨own, waits⟩ =>
      (before x List.mem_cons_self).elim (· own) fun landed => by simp [landed] at waits
    rw [List.cons_append, stageNext, if_neg passed, ih fun y mem => before y (List.mem_cons_of_mem _ mem)]
    rfl

end

/-! ## Stacks (R208, R213) -/

section
variable {s : State} {m : StackIx}

theorem stackSt_eq (s : State) (m : StackIx) : s.stackSt m.val = s.mem.stackSts[m] := by
  simp [State.stackSt]

theorem stackSt_updStack (s : State) (m : StackIx) (f : StackSt → StackSt) : (s.updStack m f).stackSt m.val = f (s.stackSt m.val) := by
  rw [stackSt_eq, stackSt_eq]
  exact Vector.getElem_set_self _

/-- A stack as the reading of a temperature leaves it, at the frequency in force (R213). -/
def StackSt.heated (freq : Nat) (t : Int) (k : StackSt) : StackSt :=
  let row := tempRowOf k.tempRow t
  let k1 := { k with temp := t, tempRow := row, tempCeiling := rowCeiling row }
  if row < k.tempRow ∨ rowRefresh row = k.refreshNs then { k1 with refreshNs := rowRefresh row, shortenDue := false }
  else if k.tempRow < row then
    if (decide (rowCeiling row = 0) || decide (freq ≤ rowCeiling row)) = true then { k1 with refreshNs := rowRefresh row, shortenDue := false }
    else { k1 with shortenDue := true }
  else k1

theorem StackSt.heated_fields (freq : Nat) (t : Int) (k : StackSt) :
    (k.heated freq t).temp = t ∧ (k.heated freq t).tempRow = tempRowOf k.tempRow t
      ∧ (k.heated freq t).tempCeiling = rowCeiling (tempRowOf k.tempRow t) := by
  unfold StackSt.heated
  dsimp only
  split
  · exact ⟨rfl, rfl, rfl⟩
  · split
    · split <;> exact ⟨rfl, rfl, rfl⟩
    · exact ⟨rfl, rfl, rfl⟩

/-- On a rise the interval is that of the new row once its ceiling is in force. -/
theorem StackSt.heated_refreshNs {freq : Nat} {t : Int} {k : StackSt} (rise : k.tempRow < tempRowOf k.tempRow t)
    (inForce : rowCeiling (tempRowOf k.tempRow t) = 0 ∨ freq ≤ rowCeiling (tempRowOf k.tempRow t)) :
    (k.heated freq t).refreshNs = rowRefresh (tempRowOf k.tempRow t) := by
  have lower : (decide (rowCeiling (tempRowOf k.tempRow t) = 0) || decide (freq ≤ rowCeiling (tempRowOf k.tempRow t))) = true := by
    simpa using inForce
  unfold StackSt.heated
  dsimp only
  rw [if_pos rise, if_pos lower, ite_self]

/-- A reading of a stack that answers changes that stack alone, with an event where it comes to the last row (R213). -/
theorem stackTempRead_usable (t : Int) (usable : s.stackUsable m.val = true) :
    ∃ u, exec (.stackTempRead m t) s = .next u ∧ { u with mem := s.mem, events := s.events } = s ∧ keepsBytes s u ∧ u.mem.engines = s.mem.engines
      ∧ u.stackSt m.val = (s.stackSt m.val).heated s.clk.freq t
      ∧ (u.events = s.events ↔ ¬ ((s.stackSt m.val).tempRow < 3 ∧ tempRowOf (s.stackSt m.val).tempRow t = 3)) := by
  have read : execStackTempRead m t s = .next (
      if (s.stackSt m.val).tempRow < 3 ∧ tempRowOf (s.stackSt m.val).tempRow t = 3 then
        (s.updStack m fun _ => (s.stackSt m.val).heated s.clk.freq t).raise 0x06 (0x100 + m.val) (leOfNat 2 (16 * t % 65536).toNat)
      else s.updStack m fun _ => (s.stackSt m.val).heated s.clk.freq t) := if_neg (by simp [usable])
  have stack := stackSt_updStack s m fun _ => (s.stackSt m.val).heated s.clk.freq t
  refine ⟨_, (exec_stackTempRead ..).trans read, ?_⟩
  split
  · exact ⟨rfl, ⟨rfl, rfl⟩, rfl, stack, by simp [State.raise, *]⟩
  · exact ⟨rfl, ⟨rfl, rfl⟩, rfl, stack, by simp [*]⟩

theorem tempRowOf_zero (t : Int) : tempRowOf 0 t = if 105 ≤ t then 3 else if 95 ≤ t then 2 else if 85 ≤ t then 1 else 0 := by
  simp [tempRowOf]

theorem tempRowOf_zero_warm {t : Int} (low : 85 ≤ t) (high : t < 95) : tempRowOf 0 t = 1 := by
  rw [tempRowOf_zero, if_neg (by omega), if_neg (by omega), if_pos low]

theorem tempRowOf_zero_hot {t : Int} (low : 95 ≤ t) : tempRowOf 0 t = 2 ∨ tempRowOf 0 t = 3 := by
  rw [tempRowOf_zero, if_pos low]
  split
  · exact .inr rfl
  · exact .inl rfl

theorem tempRowOf_zero_last {t : Int} : tempRowOf 0 t = 3 ↔ 105 ≤ t := by
  rw [tempRowOf_zero]
  split_ifs <;> simp_all

theorem rowCeiling_tempRowOf_zero (t : Int) : rowCeiling (tempRowOf 0 t) = if 105 ≤ t then 1200 else if 95 ≤ t then 3000 else 0 := by
  rw [tempRowOf_zero]
  split_ifs <;> rfl

end

/-! ## Service requests (R215) -/

section
variable {s : State}

theorem memWrite_line {addr : Nat} {data : List Byte} {p : Nat × Nat} (poison : Bool) (length : data.length = 64) (aligned : addr % 64 = 0)
    (place : s.locate addr = some p) : s.memWrite addr data poison = s.stackWrite p.1 p.2 data poison := by
  have some64 : data.isEmpty = false := by cases data <;> simp_all
  have whole : data.take 64 = data := List.take_of_length_le (Nat.le_of_eq length)
  have rest : data.drop 64 = [] := List.drop_of_length_le (Nat.le_of_eq length)
  rw [State.memWrite, length, State.memWriteLines, some64, aligned, place]
  simp only [Bool.false_eq_true, if_false, Nat.sub_zero, whole, rest]
  rfl

/-- A state in which a request of the host has been given up and answered 0x0575 (R215). -/
def State.serviceTimedOut (s : State) (e : EngineIx) (q : Nat × MemRequest × Nat) : State :=
  (({ s with mem := { s.mem with service := s.mem.service.erase q } } : State).send (.service e.val 0x0575 false [])).bump (ck 0x9150 8) 1

theorem engineServiceTimeout_host {e : EngineIx} {q : Nat × MemRequest × Nat} (found : s.mem.service.find? (fun q => q.1 == e.val) = some q)
    (host : q.2.2 = 0) : exec (.engineServiceTimeout e) s = .next (s.serviceTimedOut e q)
      ∧ (s.serviceTimedOut e q).counter (ck 0x9150 8) = satAdd (s.counter (ck 0x9150 8)) 1 := by
  refine ⟨?_, (counted_bump _ _ Nat.one_pos).1⟩
  rw [exec_engineServiceTimeout, execEngineServiceTimeout, found]
  simp only [host, if_true]
  rfl

end

/-- Settles O20: each line command leaves the write of its line and the update of its engine, by `departLine_staged`, `arriveLine_good`,
`moveLine_good`, `fillLine_at`, `requestArrives_first`, `fetchLine_good` and `stageNext_append`; a stack is read by `stackTempRead_usable`, and a
service request writes its line by `memWrite_line`. -/
theorem enginesAndStacks : Obligations.EnginesAndStacks := by
  unfold Obligations.EnginesAndStacks
  refine ⟨⟨.of_departLine fun _ _ _ _ => rfl, .of_departLine fun _ _ _ _ => rfl,
      fun s e di d k f p hI ready bead flit intact place => ?write, fun s e di d k a b hI ready source target => ?move,
      fun s e di d k p hI ready place => ?fill, fun s e di d f hI step due first desc flit intact clean => ?request,
      fun s e di d k p j hI owner phase free runs desc next unasked place => ?fetch,
      fun s e di pre l post hI stage before desc fetching => ?staged⟩,
    fun s m line hI usable inside clean => ?scrub, fun s m t hI usable cold => ?temp, fun s m hI due => ?shorten,
    fun s e hI usable => ⟨fun addr len => ?read, fun addr data p poison length aligned place whole => ?serviceWrite⟩,
    fun s e req hI unusable => ?waits, fun s e q hI found host => ?timeout⟩
  case write =>
    obtain ⟨due, desc, moved⟩ := ready
    have arrived := arriveLine_good desc moved bead flit intact place
    have engine : (s.arriveLine e di.val).eng e = lineCommitted di.val (s.eng e) := arrived ▸ eng_updEng ..
    obtain ⟨only, written, others⟩ := lineWritten_updEng (s := s) (e := e) (p := p) (v := f.data) (poison := f.poison) (f := lineCommitted di.val)
      (ctr := s.ctr) hI
    refine ⟨s.arriveLine e di.val, ?_, arrived ▸ only, arrived ▸ written, arrived ▸ others, ?_⟩
    · rw [exec_copyWrite, execCopyWrite, if_pos due, noteEngine_of_fault (by rw [engine]; rfl)]
    · rw [engine]
      exact ⟨(advance_moved ..).trans (congrArg (· + 1) moved), rfl, rfl⟩
  case move =>
    obtain ⟨due, desc, moved⟩ := ready
    obtain ⟨ctr, eq⟩ := moveLine_good desc moved source target
    have engine : (s.moveLine e di.val 0 0).eng e = (s.eng e).advance di.val := eq ▸ eng_updEng ..
    obtain ⟨only, written, others⟩ := lineWritten_updEng (s := s) (e := e) (p := b) (v := s.stackLine a.1 a.2) (poison := s.linePoison a.1 a.2)
      (f := fun g => g.advance di.val) (ctr := ctr) hI
    refine ⟨s.moveLine e di.val 0 0, ?_, eq ▸ only, eq ▸ written, eq ▸ others, ?_⟩
    · rw [exec_copyMove, execCopyMove, if_pos due, noteEngine_of_fault (by rw [engine]; rfl)]
    · rw [engine]
      exact (advance_moved ..).trans (congrArg (· + 1) moved)
  case fill =>
    obtain ⟨due, desc, moved⟩ := ready
    have eq := fillLine_at desc moved place
    have engine : (s.fillLine e di.val).eng e = (s.eng e).advance di.val := eq ▸ eng_updEng ..
    obtain ⟨only, written, others⟩ := lineWritten_updEng (s := s) (e := e) (p := p) (v := bytesLine ((upTo 8).flatMap fun _ => leOfNat 8 d.fill))
      (poison := false) (f := fun g => g.advance di.val) (ctr := s.ctr) hI
    refine ⟨s.fillLine e di.val, _, ?_, eq ▸ only, eq ▸ written, fun n hn => laneOf_repeated d.fill hn, eq ▸ others, ?_⟩
    · rw [exec_copyFill, execCopyFill, if_pos due, noteEngine_of_fault (by rw [engine]; rfl)]
    · rw [engine]
      exact (advance_moved ..).trans (congrArg (· + 1) moved)
  case request =>
    have taken := requestArrives_first step due first desc flit intact clean
    refine ⟨fun valid => ?_, fun invalid clear => ?_⟩
    · have eq := taken.trans (if_pos valid)
      have engine : (s.requestArrives e di.val).eng e = requestKept ⟨di.val, requestBase d f, requestSide d f, false, none⟩ (s.eng e) :=
        (congrArg (State.eng · e) eq).trans (eng_updEng s e _)
      refine ⟨s.requestArrives e di.val, ?_, ?_, ?_, ?_⟩
      · rw [exec_readRequestArrival, execReadRequestArrival, noteEngine_of_fault (by rw [engine]; rfl)]
      · rw [eq]; rfl
      · rw [eq]; exact ⟨rfl, rfl⟩
      · rw [engine]
        exact congrArg (· ++ _) first
    · have eq := taken.trans (if_neg (by rw [requestBase, requestSide, invalid]; decide))
      have engine : (s.requestArrives e di.val).eng e = requestKept ⟨di.val, 0, 0, true, none⟩ (engFault 1 di.val d.col d.reqCy (s.eng e)) :=
        eq ▸ eng_updEng ..
      have kept : keepsBytes s (s.requestArrives e di.val) := eq ▸ ⟨rfl, rfl⟩
      refine ⟨State.noteEngine e s (s.requestArrives e di.val), exec_readRequestArrival .., ?_, ?_, ?_⟩
      · rwa [keepsBytes, noteEngine_mem]
      · rw [State.eng, noteEngine_mem]
        exact (congrArg EngSt.reqs engine).trans (congrArg (· ++ _) first)
      · rw [State.eng, noteEngine_mem]
        exact (congrArg EngSt.fault engine).trans (engFault_fault clear)
  case fetch =>
    obtain ⟨ctr, eq⟩ := fetchLine_good owner phase free runs desc next unasked place
    have engine : (s.fetchLine e di.val 0 0).eng e
        = lineFetched di.val k ⟨di.val, k, s.stackLine p.1 p.2, s.linePoison p.1 p.2, none, true, false⟩ (s.eng e) :=
      (congrArg (State.eng · e) eq).trans (eng_updEng s e _)
    refine ⟨s.fetchLine e di.val 0 0, ?_, ?_, ?_, ?_, ?_⟩
    · rw [exec_lineFetch, execLineFetch, noteEngine_of_fault (by rw [engine]; rfl)]
    · rw [eq]; rfl
    · rw [eq]; exact ⟨rfl, rfl⟩
    · rw [eq]; exact onlyEngine_updEng (s := s) (s' := s) rfl
    · rw [engine]
      exact ⟨rfl, rfl, SMap.get_put_succ ..⟩
  case staged =>
    refine ⟨_, exec_lineStaged .., rfl, ⟨rfl, rfl⟩, onlyEngine_updEng rfl, ?_⟩
    rw [eng_updEng, stage, stageNext_append before desc fetching]
  case scrub =>
    obtain ⟨risen, others⟩ := counted_bump s (ck 0x9150 1) Nat.one_pos
    refine ⟨s.bump (ck 0x9150 1) 1, ?_, rfl, risen, others⟩
    rw [exec_patrolScrub, execPatrolScrub, if_pos ⟨usable, inside⟩, clean]
    rfl
  case temp =>
    obtain ⟨u, read, frame, bytes, engines, stack, event⟩ := stackTempRead_usable t usable
    obtain ⟨temp, row, ceiling⟩ := StackSt.heated_fields s.clk.freq t (s.stackSt m.val)
    have heats := StackSt.heated_refreshNs (freq := s.clk.freq) (t := t) (k := s.stackSt m.val)
    rw [cold] at row ceiling heats event
    rw [← stack] at temp row ceiling heats
    refine ⟨u, read, frame, bytes, engines, temp, row.trans (tempRowOf_zero t), ceiling.trans (rowCeiling_tempRowOf_zero t), ?_, ?_, ?_⟩
    · intro ⟨low, high⟩
      have warm := tempRowOf_zero_warm low high
      rw [warm] at heats
      exact heats Nat.one_pos (.inl rfl)
    · intro low inForce
      rw [ceiling] at inForce
      have refresh : rowRefresh (tempRowOf 0 t) = 975 ∧ 0 < tempRowOf 0 t := by
        obtain hot | hot := tempRowOf_zero_hot low <;> rw [hot] <;> decide
      exact (heats refresh.2 (.inr inForce)).trans refresh.1
    · rw [event, tempRowOf_zero_last]
      simp
  case shorten =>
    have stack : (s.shorten m).stackSt m.val = { s.stackSt m.val with refreshNs := rowRefresh (s.stackSt m.val).tempRow, shortenDue := false } :=
      (stackSt_updStack s m _).trans (if_pos due)
    refine ⟨s.shorten m, exec_refreshShorten .., rfl, ⟨rfl, rfl⟩, ?_⟩
    rw [stack]
    exact ⟨rfl, rfl⟩
  case read =>
    refine ⟨(s.countPoisonRead addr len).send (.service e.val 0 (s.memPoisoned addr len) (s.memBytes addr len)), ?_, ?_, ?_⟩
    · exact (exec_engineServiceRequest ..).trans (if_pos usable)
    · rfl
    · rfl
  case serviceWrite =>
    have wrote : s.memWrite addr data poison = s.stackWrite p.1 (lineAddr p.2) (lineBytes (bytesLine data)) poison := by
      rw [memWrite_line poison length aligned place, whole, lineBytes_bytesLine length]
    refine ⟨(s.memWrite addr data poison).send (.service e.val 0 false []), (exec_engineServiceRequest ..).trans (if_pos usable), ?_, ?_, ?_⟩
    · rw [wrote]; rfl
    · rw [wrote]; exact (stackWrite_lineWritten hI.1).of_keepsBytes ⟨rfl, rfl⟩ ⟨rfl, rfl⟩
    · rw [wrote]; rfl
  case waits => exact ⟨_, (exec_engineServiceRequest ..).trans (if_neg (by simp [unusable])), rfl⟩
  case timeout =>
    obtain ⟨answered, risen⟩ := engineServiceTimeout_host found host
    exact ⟨s.serviceTimedOut e q, answered, rfl, ⟨rfl, rfl⟩, rfl, rfl, risen⟩

end Sys2Proof.Machine
end

section
namespace Sys2Proof.Machine

/-! # The refusal of a load with a counter above its limit (R71, R221) -/

/-! ## Refused loads -/

/-- A load whose checks fail with a status other than that of residence: the refusal, and 0 added to the counter of residence refusals. -/
theorem loadChecks_refused {s : State} {j : SlotIx} {p : Plan} (loading : (s.job j).state = jsLoading)
    (plan : parsePlan s (s.job j).planAddr.toNat = some p) (fails : s.loadStatus p ≠ 0) (residence : s.loadStatus p ≠ 0x0741) :
    s.loadChecks j = (s.refuseLoad j (s.loadStatus p)).bump (ck 0x9130 6) 0 := by
  simp only [State.loadChecks, loading, plan]
  rw [if_neg (by simp), if_pos fails, if_neg residence]

/-- A part in management only refuses every plan, at check 5 at the latest (R350). -/
theorem loadStatus_managementOnly {s : State} (managementOnly : s.boot.outcome = 2) (p : Plan) :
    s.loadStatus p ≠ 0 ∧ s.loadStatus p ≠ 0x0741 := by
  have absent : s.unitAbsent p = true := by simp [State.unitAbsent, managementOnly]
  simp only [State.loadStatus, absent, if_true]
  split_ifs
  · decide
  · decide
  · decide

/-- Adding 0 to a counter above the limit brings it to the limit. -/
theorem counter_bump_above {s : State} {k : Nat} (above : ctrMax < s.counter k) : (s.bump k 0).counter k = ctrMax := by
  have limit : satAdd (s.counter k) 0 = ctrMax := Nat.min_eq_left (Nat.le_of_lt above)
  rw [State.counter, State.bump_ctr, limit, SMap.put, if_neg (by decide), SMap.get_ins_same]

theorem counter_refuseLoad {s : State} {j : SlotIx} {st k : Nat} (other : k ≠ ck 0x7020 1) : (s.refuseLoad j st).counter k = s.counter k :=
  (counted_bump _ (ck 0x7020 1) Nat.one_pos).2 k other

/-! ## A plan image of blank tile records -/

/-- Bytes that are all 0. -/
def blank (n : Nat) : List Byte := List.replicate n 0

theorem drop_blank (n k : Nat) : (blank n).drop k = blank (n - k) := List.drop_replicate

theorem take_blank (n k : Nat) : (blank n).take k = blank (min k n) := List.take_replicate

theorem leAt_blank (n off k : Nat) : leAt (blank n) off k = 0 := by
  have value (m : Nat) : natOfLE (blank m) = 0 := by
    induction m with
    | zero => rfl
    | succ m ih => simp only [blank, List.replicate_succ, natOfLE] at ih ⊢; rw [ih]; rfl
  rw [leAt, drop_blank, take_blank, value]

theorem zerosAt_blank (n off k : Nat) : zerosAt (blank n) off k = true := by
  rw [zerosAt, drop_blank, take_blank]
  exact List.all_eq_true.mpr fun b mem => by rw [List.eq_of_mem_replicate mem]; rfl

/-- The head of the tile record of tile `k`, with no digest entry and no preload. -/
def blankHead (k : Nat) : List Byte := BitVec.ofNat 8 k :: blank 63

/-- The record of a tile whose tables are all 0. -/
def blankRec (k : Nat) : TileRec :=
  ⟨k, memOfBytes (blank 16384), smapOfWords (wordsOf 8 (blank 8192) 1024), smapOfWords (wordsOf 4 (blank 1024) 256), (upTo 16).map fun _ => (0, 0), [], []⟩

theorem parseTile_blank (k : Fin 4) : parseTile 1 k.val (blankHead k.val) (blank 25728) = some (blankRec k.val) := by
  have head : leAt (blankHead k.val) 2 2 = 0 ∧ leAt (blankHead k.val) 4 2 = 0 ∧ leAt (blankHead k.val) 0 1 = k.val
      ∧ leAt (blankHead k.val) 1 1 = 0 ∧ zerosAt (blankHead k.val) 6 58 = true := by
    revert k
    decide +kernel
  obtain ⟨preloads, digests, column, row, rest⟩ := head
  have inGrid : k.val % 48 = k.val ∧ k.val / 48 = 0 := by omega
  have words : ∀ w ∈ wordsOf 4 (blank 1024) 256, w = 0 := fun w mem => by
    obtain ⟨i, -, rfl⟩ := List.mem_map.mp mem
    exact leAt_blank ..
  have ranges : (wordsOf 4 (blank 1024) 256).all (fun w => decide (w < 2 ^ 21) && decide (w % 1024 + w / 1024 ≤ 1024)) = true :=
    List.all_eq_true.mpr fun w mem => by rw [words w mem]; rfl
  simp only [parseTile, preloads, digests, column, row, rest, inGrid, leAt_blank, zerosAt_blank, drop_blank, take_blank]
  rw [if_pos]
  · rfl
  · have cut : blank (min 1024 (25728 - 24576)) = blank 1024 := rfl
    simp only [cut, ranges, beq_self_eq_true]
    rfl

/-- The bytes of a plan image that are not 0, as fields of offset, size and value: one task of 100 cy, and a blank record for each of the four tiles of
zone 0 (R217 to R220). -/
def imageFields : List (Nat × Nat × Nat) :=
  [(0, 4, 0x4E504C31), (4, 2, 1), (32, 8, 1), (66, 2, 6), (70, 2, 1), (72, 8, 256), (80, 8, 264), (88, 8, 103432), (96, 8, 103432), (104, 8, 103440),
   (120, 8, 103448), (256, 4, 100), (26056, 1, 1), (51848, 1, 2), (77640, 1, 3)]

def imageMem : Mem := imageFields.foldl (fun m f => m.writeBytes f.1 (leOfNat f.2.1 f.2.2)) []

/-- A device in management only that is loading that image, with the counter of residence refusals one above its limit: data of the state's type that
no command leaves. -/
def overCounted : State :=
  { State.reset with
    boot := { BootSt.reset with outcome := 2 }
    grid := { Grid.reset with rows := 1, perField := 1, used := #v[1, 1, 1, 1, 0x8000, 0x8000, 0x8000, 0x8000] }
    mem := { MemSys.reset with present := 1, data := imageMem }
    jobs := (Vector.replicate 8 Job.reset).set 0 { Job.reset with state := 1 }
    ctr := [(ck 0x9130 6, ctrMax + 1)] }

/-- Beyond the header and the task, the image holds nothing but the first byte of each tile record. -/
theorem imageMem_keys : ∀ e ∈ imageMem, e.1 < 264 ∨ (e.1 - 264) % 25792 = 0 := by decide +kernel

theorem imageMem_read {a : Nat} (beyond : 264 ≤ a) (inside : (a - 264) % 25792 ≠ 0) : imageMem.read a = 0 := by
  have unlisted (m : Mem) (keys : ∀ e ∈ m, e.1 ≠ a) : m.read a = 0 := by
    induction m with
    | nil => rfl
    | cons e m ih =>
      obtain ⟨other, rest⟩ := List.forall_mem_cons.mp keys
      exact (if_neg (Ne.symm other)).trans (ih rest)
  refine unlisted imageMem fun e mem same => ?_
  have key := imageMem_keys e mem
  omega

theorem overCounted_locate {a : Nat} (inStack : a < stackBytes) : overCounted.locate a = some (0, a) := by
  have present : overCounted.presentList = [0] := by decide +kernel
  have granule : granuleBytes overCounted.mem.granule = 65536 := rfl
  have only : a / 65536 % 1 = 0 := Nat.mod_one _
  simp [State.locate, present, locateIn, granule, only, inStack]
  omega

theorem overCounted_blank {a n : Nat} (inStack : a + n ≤ stackBytes) (zero : ∀ i, i < n → imageMem.read (a + i) = 0) :
    overCounted.memBytes a n = blank n := by
  refine List.eq_replicate_iff.mpr ⟨by simp [State.memBytes, upTo], fun b mem => ?_⟩
  obtain ⟨i, range, rfl⟩ := List.mem_map.mp mem
  have below : i < n := List.mem_range.mp range
  rw [overCounted_locate (by omega)]
  refine (congrArg imageMem.read ?_).trans (zero i below)
  simp [stackKey]

theorem overCounted_head : ∀ k : Fin 4, overCounted.memBytes (264 + 25792 * k.val) 64 = blankHead k.val := by decide +kernel

theorem overCounted_body (k : Fin 4) : overCounted.memBytes (264 + 25792 * k.val + 64) 25728 = blank 25728 :=
  overCounted_blank (by unfold stackBytes; omega) fun i below => imageMem_read (by omega) (by omega)

theorem overCounted_record (k : Fin 4) (ts : List Nat) :
    parseTiles (fun off n => overCounted.memBytes (0 + off) n) 103448 1 (k.val :: ts) (264 + 25792 * k.val)
      = (parseTiles (fun off n => overCounted.memBytes (0 + off) n) 103448 1 ts (264 + 25792 * (k.val + 1))).map
          fun q => (blankRec k.val :: q.1, q.2) := by
  have size : leAt (blankHead k.val) 2 2 = 0 ∧ leAt (blankHead k.val) 4 2 = 0 := by
    revert k
    decide +kernel
  have next : 264 + 25792 * k.val + 25792 = 264 + 25792 * (k.val + 1) := by omega
  have inside : ¬ 103448 < 264 + 25792 * (k.val + 1) := by omega
  simp only [parseTiles, Nat.zero_add, overCounted_head, size, tileRecFixed, Nat.reduceAdd, Nat.reduceMul, Nat.reduceSub, inside, if_false,
    overCounted_body, parseTile_blank, next]
  cases parseTiles (fun off n => overCounted.memBytes off n) 103448 1 ts (264 + 25792 * (k.val + 1)) with
  | none => rfl
  | some q => rfl

theorem overCounted_tiles :
    parseTiles (fun off n => overCounted.memBytes (0 + off) n) 103448 1 [0, 1, 2, 3] 264 = some ([0, 1, 2, 3].map blankRec, 103432) := by
  rw [← show 264 + 25792 * (0 : Fin 4).val = 264 from rfl]
  refine (overCounted_record 0 _).trans ?_
  refine (congrArg _ ((overCounted_record 1 _).trans (congrArg _ ((overCounted_record 2 _).trans (congrArg _ (overCounted_record 3 [])))))).trans ?_
  rfl

/-- The image is a plan that check 2 of R221 takes. -/
theorem overCounted_parse : ∃ p, parsePlan overCounted (overCounted.job 0).planAddr.toNat = some p := by
  have addr : (overCounted.job 0).planAddr.toNat = 0 := rfl
  have last : leAt (overCounted.memBytes (0 + 0) 256) (72 + 8 * 6) 8 = 103448 := by decide +kernel
  have first : leAt (overCounted.memBytes (0 + 0) 256) (72 + 8 * 1) 8 = 264 := by decide +kernel
  have tasks : leAt (overCounted.memBytes (0 + 0) 256) 70 2 = 1 := by decide +kernel
  have zones : leAt (overCounted.memBytes (0 + 0) 256) 32 8 = 1 := by decide +kernel
  have tiles : overCounted.zoneTiles (1 % 2 ^ 48) = [0, 1, 2, 3] := by decide +kernel
  refine Option.isSome_iff_exists.mp ?_
  rw [addr]
  simp only [parsePlan, last, first, tasks, zones, tiles, overCounted_tiles]
  decide +kernel

/-- Refutes O21: its fourth clause says, over all states, that a load refused with a status other than 0x0741 changes no counter but that of refused
loads. In `overCounted` the refusal also adds 0 to a counter that holds more than `ctrMax`, and saturation brings that counter down to `ctrMax`. -/
theorem not_jobLoadingAndStarting : ¬ Obligations.JobLoadingAndStarting := by
  unfold Obligations.JobLoadingAndStarting
  rintro ⟨⟨-, -, -, refused, -⟩, -⟩
  obtain ⟨p, plan⟩ := overCounted_parse
  obtain ⟨fails, residence⟩ := loadStatus_managementOnly (s := overCounted) rfl p
  obtain ⟨u, next, -, -, -, -, others⟩ := refused overCounted 0 p rfl plan fails residence
  have kept : (overCounted.refuseLoad 0 (overCounted.loadStatus p)).counter (ck 0x9130 6) = ctrMax + 1 := counter_refuseLoad (by decide)
  have lowered : u.counter (ck 0x9130 6) = ctrMax := by
    rw [exec_loadChecksComplete, execLoadChecksComplete, loadChecks_refused rfl plan fails residence] at next
    rw [← Host.Outcome.next.inj next]
    exact counter_bump_above (kept ▸ Nat.lt_succ_self _)
  have same : u.counter (ck 0x9130 6) = ctrMax + 1 := others _ (by decide)
  exact absurd (lowered.symm.trans same) (Nat.ne_of_lt (Nat.lt_succ_self _))

end Sys2Proof.Machine
end

section
namespace Sys2Proof.Machine

/-! # STOP, KILL and CLEAR of a job (R228, R229, R238) -/

/-! ## What the end of a job leaves unsaid -/

/-- Nothing has been sent, no event raised, and the tally not counted between two states. -/
structure Silent (s u : State) : Prop where
  out : u.out = s.out
  events : u.events = s.events
  tally : u.tally = s.tally

theorem Silent.refl (s : State) : Silent s s := ⟨rfl, rfl, rfl⟩

theorem Silent.trans {s u v : State} (h : Silent s u) (h' : Silent u v) : Silent s v :=
  ⟨h'.out.trans h.out, h'.events.trans h.events, h'.tally.trans h.tally⟩

theorem Silent.foldl {α : Type} {f : State → α → State} (step : ∀ u a, Silent u (f u a)) (l : List α) (s : State) : Silent s (l.foldl f s) :=
  List.foldlRecOn (motive := Silent s) l f (.refl s) fun u h a _ => h.trans (step u a)

section
variable {s : State}

theorem forTiles_silent (ts : List Nat) (f : Nat → Tile → Tile) : Silent s (s.forTiles ts f) :=
  .foldl (fun _ _ => by exact ⟨rfl, rfl, rfl⟩) ts s

theorem armTiles_silent (j : SlotIx) : Silent s (s.armTiles j) := by
  unfold State.armTiles
  split
  · exact forTiles_silent ..
  · exact .refl s

theorem hit_silent (t : Nat) (h : Hit) : Silent s (s.hit t h) := by
  unfold State.hit
  split
  · exact .refl s
  · dsimp only
    split
    · exact ⟨rfl, rfl, rfl⟩
    · exact .trans (by exact ⟨rfl, rfl, rfl⟩) (armTiles_silent _)

theorem putTile_silent (T : Nat) (o : TOut) : Silent s (s.putTile T o) := by
  unfold State.putTile
  extract_lets s1 sum s2
  have bumped : Silent s s1 := by
    obtain ⟨_, _, bumps⟩ := bumps_eq T o.bumps (s.setTile T o.tile)
    exact (show s1 = _ from bumps) ▸ ⟨rfl, rfl, rfl⟩
  have counted : Silent s1 s2 := by
    unfold s2
    split
    · split
      · exact .refl s1
      · exact ⟨rfl, rfl, rfl⟩
    · exact .refl s1
  exact (bumped.trans counted).trans (.foldl (fun _ h => hit_silent T h) _ s2)

theorem commitLine_silent (e : EngineIx) (addr : Nat) (v : V512) (poison : Bool) : Silent s (s.commitLine e addr v poison) := by
  unfold State.commitLine
  split
  · exact ⟨rfl, rfl, rfl⟩
  · exact ⟨rfl, rfl, rfl⟩

theorem engStop_silent (e : EngineIx) : Silent s (s.engStop e) :=
  (Silent.foldl (f := fun s (l : WbLine) => s.commitLine e l.addr l.data true) (fun _ l => commitLine_silent e l.addr l.data true) _ s).trans
    ⟨rfl, rfl, rfl⟩

theorem beginPark_silent (z cause : Nat) (toOff : Bool) : Silent s (s.beginPark z cause toOff) := by
  unfold State.beginPark
  dsimp only
  split
  · exact ⟨rfl, rfl, rfl⟩
  · split
    · exact ⟨rfl, rfl, rfl⟩
    · split
      · exact (forTiles_silent ..).trans ⟨rfl, rfl, rfl⟩
      · split
        · exact ⟨rfl, rfl, rfl⟩
        · exact .refl s

theorem parkHeld_silent (zones : List Nat) : Silent s (s.parkHeld zones) := by
  refine .foldl (fun u z => ?_) zones s
  split
  · exact beginPark_silent ..
  · exact .refl u

theorem setJobState_events (j : SlotIx) (st : Nat) : (s.setJobState j st).events = s.events ++ [jobEvent s j st (s.job j).status] := by
  simp [State.setJobState, jobEvent]

/-- The end of a job with a plan says nothing before its event. -/
theorem endJob_eq {j : SlotIx} {p : Plan} (plan : (s.job j).plan = some p) (status : Nat) (normal : Bool) :
    ∃ v, Silent s v ∧ (v.job j).status = status ∧ s.endJob j status normal = (v.setJobState j jsEnded).parkHeld p.zoneSet := by
  unfold State.endJob
  extract_lets b0
  split
  case h_1 noPlan => exact nomatch noPlan.symm.trans plan
  case h_2 q some =>
    obtain rfl : q = p := Option.some.inj (some.symm.trans plan)
    extract_lets tiled s1 s2 s3 prot s4
    have tiles : Silent s tiled := .foldl (fun u (r : TileRec) => putTile_silent r.t _) _ s
    have stopped : Silent s s1 := by
      unfold s1
      split
      · exact (tiles.trans (.foldl (fun u e => engStop_silent (engIx e)) _ tiled)).trans ⟨rfl, rfl, rfl⟩
      · exact .refl s
    have slot : s4.job j = s3.job j := rfl
    exact ⟨s4, stopped.trans ⟨rfl, rfl, rfl⟩, by rw [slot, job_updJob], rfl⟩

/-- The end of a job sends nothing, and raises the event of its state. -/
theorem endJob_says (j : SlotIx) (status : Nat) (normal : Bool) :
    (s.endJob j status normal).out = s.out ∧ (s.endJob j status normal).events = s.events ++ [jobEvent s j jsEnded status] := by
  cases plan : (s.job j).plan with
  | none =>
    simp only [State.endJob, plan, setJobState_events, job_updJob]
    exact ⟨rfl, rfl⟩
  | some p =>
    obtain ⟨v, silent, statusIs, ends⟩ := endJob_eq plan status normal
    have parked : Silent (v.setJobState j jsEnded) (s.endJob j status normal) := ends ▸ parkHeld_silent _
    refine ⟨parked.out.trans silent.out, parked.events.trans ?_⟩
    rw [setJobState_events, statusIs, silent.events, jobEvent, silent.tally]
    rfl

/-- An ended job holds its status and the tally of its end, and its count of steps as it was. -/
theorem endJob_fields (j : SlotIx) (status : Nat) (normal : Bool) :
    ((s.endJob j status normal).job j).state = jsEnded ∧ ((s.endJob j status normal).job j).status = status
      ∧ ((s.endJob j status normal).job j).endTally = s.tally.now ∧ ((s.endJob j status normal).job j).steps = (s.job j).steps := by
  cases plan : (s.job j).plan with
  | none =>
    simp only [State.endJob, plan, job_setJobState, job_updJob, and_self]
  | some p =>
    obtain ⟨b, beads, job⟩ := endJob_job plan status normal
    rw [job]
    exact ⟨rfl, rfl, rfl, (congrArg Job.steps beads :)⟩

end

/-! ## What CLEAR leaves of jobs and answers -/

/-- The job slots are as before and nothing has been sent. -/
structure Aside (s u : State) : Prop where
  jobs : u.jobs = s.jobs
  out : u.out = s.out

theorem Aside.refl (s : State) : Aside s s := ⟨rfl, rfl⟩

theorem Aside.trans {s u v : State} (h : Aside s u) (h' : Aside u v) : Aside s v := ⟨h'.jobs.trans h.jobs, h'.out.trans h.out⟩

theorem Aside.foldl {α : Type} {f : State → α → State} (step : ∀ u a, Aside u (f u a)) (l : List α) (s : State) : Aside s (l.foldl f s) :=
  List.foldlRecOn (motive := Aside s) l f (.refl s) fun u h a _ => h.trans (step u a)

theorem Aside.ite {c : Prop} {dec : Decidable c} {s u v : State} (hu : Aside s u) (hv : Aside s v) : Aside s (if c then u else v) := by
  split
  · exact hu
  · exact hv

theorem Aside.iteSnd {α : Type} {c : Prop} {dec : Decidable c} {s : State} {a b : α × State} (ha : Aside s a.2) (hb : Aside s b.2) :
    Aside s (if c then a else b).2 := by
  split
  · exact ha
  · exact hb

theorem Aside.job {s u : State} (h : Aside s u) (j : SlotIx) : u.job j = s.job j := congrArg (fun js : Vector Job 8 => js[j]) h.jobs

section
variable {s : State}

theorem forTiles_aside (ts : List Nat) (f : Nat → Tile → Tile) : Aside s (s.forTiles ts f) := ⟨forTiles_jobs s ts f, (forTiles_silent ts f).out⟩

theorem enterDefect_aside (w : U32) (origin slot cause : Nat) : Aside s (s.enterDefect w origin slot cause) := by
  unfold State.enterDefect
  extract_lets
  refine .ite (.foldl (fun _ _ => by exact ⟨rfl, rfl⟩) _ s) (.ite ?_ ?_)
  · exact .trans (by exact ⟨rfl, rfl⟩) (.foldl (fun _ _ => by exact ⟨rfl, rfl⟩) _ _)
  · exact .trans (by exact ⟨rfl, rfl⟩) (.foldl (fun _ _ => by exact ⟨rfl, rfl⟩) _ _)

theorem noteTest_aside (kind unit n failed : Nat) : Aside s (s.noteTest kind unit n failed) := ⟨rfl, rfl⟩

theorem clearTest_aside (slot : Nat) (failedTiles : List Nat) (wires lanes : List U32) (d : Det) :
    Aside s (State.clearTest slot failedTiles wires lanes s d) := by
  unfold State.clearTest
  refine .ite (.ite ?_ ?_) (.ite ?_ (.ite (noteTest_aside ..) (.ite (.ite ?_ (noteTest_aside ..)) (.refl s))))
  · exact (noteTest_aside ..).trans (enterDefect_aside ..)
  · exact (noteTest_aside ..).trans (.foldl (fun _ _ => enterDefect_aside ..) _ _)
  · exact (noteTest_aside ..).trans (.foldl (fun _ _ => enterDefect_aside ..) _ _)
  · exact (noteTest_aside ..).trans (enterDefect_aside ..)

theorem laggardTest_aside (slot : Nat) (failedTiles : List Nat) (t : Nat) : Aside s (State.laggardTest slot failedTiles s t) :=
  .ite ((noteTest_aside ..).trans (enterDefect_aside ..)) (noteTest_aside ..)

theorem requestOn_aside (z : Nat) : Aside s (s.requestOn z) := .ite ⟨rfl, rfl⟩ (.refl s)

theorem startTest_aside (q : TestReq) : Aside s (s.startTest q).2 :=
  .iteSnd (.refl s) (.iteSnd (.refl s) (.iteSnd (.refl s) (.iteSnd (.refl s) (.iteSnd (.iteSnd (.refl s) (requestOn_aside _)) (.refl s)))))

theorem startTests_aside : Aside s s.startTests := .foldl (fun _ q => (startTest_aside q).trans (by exact ⟨rfl, rfl⟩)) _ s

theorem parkHeld_aside (zones : List Nat) : Aside s (s.parkHeld zones) := ⟨parkHeld_jobs s zones, (parkHeld_silent zones).out⟩

theorem noteFeatures_aside (u : State) : Aside u (s.noteFeatures u) := .ite ⟨rfl, rfl⟩ (.refl u)

theorem noteFeatures_self : s.noteFeatures s = s := by simp [State.noteFeatures]

/-- A job as CLEAR leaves it (R238). -/
def Job.cleared (b : Job) : Job := { b with state := jsEmpty, plan := none, execs := [], energyUj := 0, energyFinal := 0, pending := [] }

theorem clearJob_ended {j : SlotIx} (ended : (s.job j).state = jsEnded) (failedTiles : List Nat) (wires lanes : List U32) :
    ∃ u, State.clearJob j failedTiles wires lanes s = (u, 0) ∧ u.job j = (s.job j).cleared ∧ u.out = s.out := by
  unfold State.clearJob
  rw [if_neg (by simp [ended, jsEnded])]
  extract_lets s1 s2 s3 s4
  have tested : Aside s s1 :=
    .ite (.foldl (fun _ _ => clearTest_aside ..) _ s) (.ite (.foldl (fun _ _ => laggardTest_aside ..) _ s) (.refl s))
  have recordsCleared : Aside s1 s2 := by
    unfold s2
    split
    · exact .ite (.trans (forTiles_aside ..) (.foldl (fun _ _ => by exact ⟨rfl, rfl⟩) _ _)) (.refl s1)
    · exact .refl s1
  have slot : s4.job j = (s.job j).cleared := by
    rw [job_setJobState, job_updJob, (tested.trans recordsCleared).job]
    rfl
  have sent : s4.out = s.out := (tested.trans recordsCleared).out
  refine ⟨_, rfl, ?_⟩
  split
  · next p _ =>
    have rest : Aside s4 (s4.startTests.parkHeld p.zoneSet) := startTests_aside.trans (parkHeld_aside _)
    exact ⟨(rest.job j).trans slot, rest.out.trans sent⟩
  · exact ⟨(startTests_aside.job j).trans slot, startTests_aside.out.trans sent⟩

end

/-! ## Requests that the state of the job does not take -/

theorem countRefusal_wrongState (s : State) : s.countRefusal 0x0107 = s.bump (ck 0x1041 7) 1 := by simp [State.countRefusal, refusalSubs]

/-- A request that its writer refuses with 0x0107 leaves the state but for the counter of refusals. -/
theorem Served.refuses {s : State} {car : Carrier} {c : Instr} {w : Writer} (served : Served s car 1) (cmd : exec c s = mgmtWrite car clsJobs w s)
    (refused : w s = (s, 0x0107)) : ∃ u, exec c s = .next u ∧ { u with ctr := s.ctr, out := s.out } = s ∧ answers s u car 0x0107 := by
  refine ⟨_, cmd.trans (served.eq w), ?_⟩
  rw [refused, countRefusal_wrongState]
  exact ⟨rfl, rfl⟩

theorem askStop_running {s : State} {j : SlotIx} (running : (s.job j).state = jsRunning) (status : Nat) :
    s.askStop j status = (s.updJob j fun b => { b with stopReq := some (b.stopReq.getD status) }).setJobState j jsStopping := by
  simp [State.askStop, Job.running, running]

/-- Settles O22: STOP is `askStop`, KILL the end of the job by `endJob_fields` and `endJob_says`, CLEAR what `clearJob_ended` says, and a state that
does not take the request refuses it. -/
theorem jobEnding : Obligations.JobEnding := by
  unfold Obligations.JobEnding
  refine ⟨fun s j car served running => ?stop, fun s j car served other => ?noStop, fun s j car served holds => ?kill,
    fun s j car served free => ?noKill, fun s j car ts ws ls served ended => ?clear, fun s j car ts ws ls served running => ?noClear⟩
  case stop =>
    have writes : State.stopJob j s = (s.askStop j 0x0708, 0) := if_pos running
    refine ⟨_, (exec_jobStop ..).trans (served.eq _), ?_⟩
    rw [writes, countRefusal_zero, askStop_running running]
    refine ⟨rfl, fun k other => ?_, ?_, ?_, rfl⟩
    · exact (job_setJob_ne _ _ other).trans (job_setJob_ne _ _ other)
    · rw [answer_job, job_setJobState, job_updJob]
      rfl
    · exact (setJobState_events j jsStopping).trans (by rw [job_updJob]; rfl)
  case noStop => exact served.refuses (exec_jobStop ..) (if_neg other)
  case kill =>
    have writes : State.killJob j s = (s.endJob j 0x0709 false, 0) := if_pos holds
    obtain ⟨sent, events⟩ := endJob_says (s := s) j 0x0709 false
    obtain ⟨state, status, endTally, steps⟩ := endJob_fields (s := s) j 0x0709 false
    refine ⟨_, (exec_jobKill ..).trans (served.eq _), ?_⟩
    rw [writes, countRefusal_zero]
    refine ⟨state, status, endTally, steps, ?_, ?_⟩
    · rw [State.answer_events, events]
      simp [jsEnded]
    · exact (congrArg (· ++ _) sent :)
  case noKill => exact served.refuses (exec_jobKill ..) (if_neg (by simp [free]))
  case clear =>
    obtain ⟨v, writes, job, sent⟩ := clearJob_ended ended (ts.map Fin.val) ws ls
    have noted := noteFeatures_aside (s := s) v
    refine ⟨_, (exec_jobClear ..).trans (served.eq _), ?_⟩
    rw [featWriter, writes, countRefusal_zero, answer_job, noted.job, job]
    exact ⟨rfl, rfl, rfl, congrArg (· ++ _) (noted.out.trans sent)⟩
  case noClear =>
    have kept : (s.job j).state ≠ jsLoaded ∧ (s.job j).state ≠ jsEnded := by
      constructor <;> intro state <;> simp [Job.running, state, jsLoaded, jsEnded, jsRunning, jsStopping] at running
    have refused : State.clearJob j (ts.map Fin.val) ws ls s = (s, 0x0107) := if_pos kept
    exact served.refuses (exec_jobClear ..) (by rw [featWriter, refused, noteFeatures_self])

end Sys2Proof.Machine
end

section
namespace Sys2Proof.Machine

/-! # Arrivals at the step fence and the decision of its root (R225 to R228) -/

/-! ## What the way to a decision notes in a job -/

/-- The job is as before but for its counts of update beads, its logs and waiting events, and what was reported of the step. -/
def Job.OnlyNotes (b b' : Job) : Prop :=
  { b' with
    updBeads := b.updBeads, updFrozen := b.updFrozen, linkStops := b.linkStops, execs := b.execs, pending := b.pending, etas := b.etas
    frozen := b.frozen, evUsed := b.evUsed, dgUsed := b.dgUsed } = b

theorem Job.OnlyNotes.refl (b : Job) : b.OnlyNotes b := rfl

theorem Job.OnlyNotes.trans {a b c : Job} (h : a.OnlyNotes b) (h' : b.OnlyNotes c) : a.OnlyNotes c := by
  unfold Job.OnlyNotes at h h' ⊢
  rw [← h'] at h
  exact h

theorem Job.OnlyBeads.notes {b b' : Job} (h : b.OnlyBeads b') : b.OnlyNotes b' := by
  unfold Job.OnlyBeads at h
  rw [← h]
  rfl

section
variable {s : State} {j : SlotIx} {p : Plan}

theorem onlyNotes_of_jobs {u : State} (jobs : u.jobs = s.jobs) : (s.job j).OnlyNotes (u.job j) := by
  have slot : u.job j = s.job j := congrArg (fun js : Vector Job 8 => js[j]) jobs
  rw [slot]
  exact .refl _

theorem onlyNotes_updJob {u : State} {f : Job → Job} (jobs : u.jobs = s.jobs) (notes : ∀ b : Job, b.OnlyNotes (f b)) :
    (s.job j).OnlyNotes ((u.updJob j f).job j) := by
  rw [job_updJob]
  exact (onlyNotes_of_jobs jobs).trans (notes _)

theorem foldl_onlyNotes {α : Type} {g : State → α → State} (keeps : ∀ (u : State) a, (u.job j).OnlyNotes ((g u a).job j)) (l : List α)
    (s : State) : (s.job j).OnlyNotes ((l.foldl g s).job j) :=
  List.foldlRecOn (motive := fun u => (s.job j).OnlyNotes (u.job j)) l g (.refl _) fun u h a _ => h.trans (keeps u a)

theorem bumpTile_jobs (s : State) (t k n : Nat) : (s.bumpTile t k n).jobs = s.jobs := by
  unfold State.bumpTile
  dsimp only
  split <;> rfl

theorem recordMirror_jobs (len : Nat) (ds : List Nat) : (s.recordMirror len ds).jobs = s.jobs := by
  unfold State.recordMirror
  exact foldl_view (view := State.jobs) (fun _ _ => by rw [bumpTile_jobs]; rfl) ds s

theorem linkFault_jobs (s : State) (l cause slot : Nat) : (s.linkFault l cause slot).jobs = s.jobs := by
  unfold State.linkFault
  dsimp only
  split <;> rfl

theorem shortTransfers_notes : (s.job j).OnlyNotes ((s.shortTransfers j p).job j) := by
  unfold State.shortTransfers
  refine foldl_onlyNotes (fun u q => foldl_onlyNotes (fun u l => ?_) _ u) _ s
  extract_lets key emptied
  split
  · exact .refl _
  · exact onlyNotes_updJob (linkFault_jobs ..) fun _ => rfl

theorem gatherReports_notes : (s.job j).OnlyNotes ((s.gatherReports j p).job j) := by
  unfold State.gatherReports
  extract_lets s1
  have settled : (s.job j).OnlyBeads (s1.job j) := foldl_onlyBeads (fun u t => putTile_job u t _ j) _ s
  exact (settled.notes.trans (onlyNotes_of_jobs (recordMirror_jobs ..))).trans shortTransfers_notes

theorem sendAudits_jobs : (s.sendAudits p).jobs = s.jobs := by
  unfold State.sendAudits
  exact foldl_view (view := State.jobs) (fun _ _ => by dsimp only; split <;> rfl) _ s

theorem recordBreaks_jobs (len : Nat) (br : List Nat × List Nat) : (s.recordBreaks len br).jobs = s.jobs := by
  unfold State.recordBreaks
  extract_lets s1
  have routers : s1.jobs = s.jobs := by
    refine foldl_view (view := State.jobs) (fun _ _ => ?_) _ s
    rw [State.lifeFault_jobs, bumpTile_jobs]
    rfl
  have engines := foldl_view (view := State.jobs)
    (f := fun s e => ((s.updEng (engIx e) (engFault 7 0 0 len)).bump (ck 0x9140 8) 1).lifeFault 4 (2048 + e) 7) (fun _ _ => rfl) br.2 s1
  exact engines.trans routers

/-- The root decides on a job that the reports have left as it was but for their notes. -/
theorem atDecision_notes : (s.job j).OnlyNotes ((s.atDecision j p).job j) := by
  unfold State.atDecision
  exact gatherReports_notes.trans (onlyNotes_of_jobs ((recordBreaks_jobs ..).trans sendAudits_jobs))

/-! ## The outcome by the rules of R228 -/

/-- The state in which the root carries out its decision: the detections of the execution are noted in the job (R271). -/
def State.decided (s : State) (j : SlotIx) (p : Plan) : State :=
  (s.atDecision j p).updJob j fun b => { b with execs := b.execs ++ [(s.atDecision j p).detections j p] }

/-- The outcome at the root (R228). -/
def State.rootOutcome (s : State) (j : SlotIx) (p : Plan) : FenceOut :=
  (s.atDecision j p).fenceOutcome j p (((s.gatherReports j p).sendAudits p).breaks p)

theorem rootDecision_alone (h : AllIn s j p) : s.rootDecision j = (s.decided j p).carryOut j p (s.rootOutcome j p) := by
  simp only [State.rootDecision, h.plan, h.phase, h.running, h.free, h.noHalt, h.arrived, h.alone]
  rfl

theorem fenceOutcome_broken {br : List Nat × List Nat} (broken : br ≠ ([], [])) : s.fenceOutcome j p br = .stop 0x0960 := by
  refine if_pos ?_
  obtain ⟨_ | ⟨_, _⟩, _ | ⟨_, _⟩⟩ := br
  · exact absurd rfl broken
  all_goals rfl

theorem rootOutcome_of_whole (whole : ((s.gatherReports j p).sendAudits p).breaks p = ([], [])) :
    s.rootOutcome j p = (s.atDecision j p).fenceOutcome j p ([], []) := congrArg _ whole

section
variable (noStops : (s.job j).linkStops = [])
include noStops

theorem fenceOutcome_detected (detected : s.anyDetection j p = true) (reruns : (s.job j).reruns < 2) :
    s.fenceOutcome j p ([], []) = .rerun := by
  simp [State.fenceOutcome, noStops, detected, reruns]

theorem fenceOutcome_trapped (clean : s.anyDetection j p = false) (trapped : s.anyTrap j p = true) :
    s.fenceOutcome j p ([], []) = .stop 0x0710 := by
  simp [State.fenceOutcome, noStops, clean, trapped]

theorem fenceOutcome_disagreed (clean : s.anyDetection j p = false) (untrapped : s.anyTrap j p = false) (next : s.agreedNext p = none) :
    s.fenceOutcome j p ([], []) = .stop 0x0712 := by
  simp [State.fenceOutcome, noStops, clean, untrapped, next]

theorem fenceOutcome_next {n : Nat} {plan : Bool} (clean : s.anyDetection j p = false) (untrapped : s.anyTrap j p = false)
    (next : s.agreedNext p = some (n, plan)) (carried : (s.job j).carried = false) (stopReq : (s.job j).stopReq = none)
    (groupStop : (s.job j).groupStop = none) : s.fenceOutcome j p ([], []) = if n = 255 then .finish 0x0700 else .go n := by
  simp [State.fenceOutcome, noStops, clean, untrapped, next, carried, stopReq, groupStop]

end

/-- The flag on which the cores agree is the root's. -/
theorem fenceIsPlan_of_agreed {n : Nat} {plan : Bool} (next : s.agreedNext p = some (n, plan)) : s.fenceIsPlan p = plan := by
  unfold State.agreedNext at next
  unfold State.fenceIsPlan
  cases root : (s.tile p.root).next with
  | none => simp [root] at next
  | some q =>
    simp only [root] at next
    split at next
    · rw [Option.some.inj next]
    · exact nomatch next

/-! ## A step that completes (R230 to R235) -/

/-- The job with the step counted (R230). -/
def Job.stepped (p : Plan) (plan : Bool) (sums : Vector U64 8) (b : Job) : Job :=
  { b with
    steps := satAdd b.steps 1, planFences := b.planFences + (if plan then 1 else 0), jobCy := satAdd b.jobCy (b.len + nominalFence p.fenceD plan)
    extraCy := satAdd b.extraCy b.late, layer := Vector.zipWith (· + ·) b.layer sums }

theorem memWrite_jobs (s : State) (addr : Nat) (bs : List Byte) (poison : Bool) : (s.memWrite addr bs poison).jobs = s.jobs :=
  (congrArg State.jobs (State.memWrite_only s addr bs poison) :)

theorem applyEvent_notes (e : FenceEv) : (s.job j).OnlyNotes ((s.applyEvent j e).job j) := by
  unfold State.applyEvent
  extract_lets b
  split
  · exact onlyNotes_updJob (memWrite_jobs ..) fun _ => rfl
  · exact onlyNotes_updJob (memWrite_jobs ..) fun _ => rfl
  · exact .refl _

theorem logEvent_notes (fence : Nat) (e : FenceEv) : (s.job j).OnlyNotes ((s.logEvent j fence e).job j) := by
  unfold State.logEvent
  dsimp only
  split
  · exact .refl _
  · exact onlyNotes_updJob (memWrite_jobs ..) fun _ => rfl

theorem applyEvents_notes (fence : Nat) : (s.job j).OnlyNotes ((s.applyEvents j fence).job j) := by
  unfold State.applyEvents
  extract_lets b due0 due s1
  have waiting : (s.job j).OnlyNotes (s1.job j) := onlyNotes_updJob rfl fun _ => rfl
  exact waiting.trans (foldl_onlyNotes (fun u e => (applyEvent_notes e).trans (logEvent_notes fence e)) due s1)

theorem digestLog_notes : (s.job j).OnlyNotes ((s.digestLog j).job j) := by
  unfold State.digestLog
  dsimp only
  split
  · exact onlyNotes_updJob (memWrite_jobs ..) fun _ => rfl
  · exact .refl _

theorem completeStep_notes (plan : Bool) : ((s.job j).stepped p plan (s.digestSums p)).OnlyNotes ((s.completeStep j p plan).job j) := by
  unfold State.completeStep
  extract_lets b sums s1 s2 s3 s4
  have counted : s1.job j = (s.job j).stepped p plan (s.digestSums p) := job_updJob ..
  have applied : (s1.job j).OnlyNotes (s2.job j) := by
    unfold s2
    split
    · exact applyEvents_notes _
    · exact .refl _
  have logged : (s2.job j).OnlyNotes (s3.job j) := by
    unfold s3
    split
    · exact digestLog_notes
    · exact .refl _
  have cleared : (s3.job j).OnlyNotes (s4.job j) := onlyNotes_of_jobs (forTiles_jobs ..)
  rw [← counted]
  split
  · exact (applied.trans logged).trans cleared
  · exact (applied.trans logged).trans cleared

end

/-- The counts of a job with a step more, of the length and the lateness of that step (R230). -/
structure StepCounted (p : Plan) (plan : Bool) (b b' : Job) : Prop where
  steps : b'.steps = satAdd b.steps 1
  planFences : b'.planFences = b.planFences + (if plan then 1 else 0)
  jobCy : b'.jobCy = satAdd b.jobCy (b.len + nominalFence p.fenceD plan)
  extraCy : b'.extraCy = satAdd b.extraCy b.late

section
variable {s : State} {j : SlotIx} {p : Plan} {b : Job}

theorem completeStep_counts (plan : Bool) (notes : b.OnlyNotes (s.job j)) : StepCounted p plan b ((s.completeStep j p plan).job j) := by
  have stepped := completeStep_notes (s := s) (j := j) (p := p) plan
  unfold Job.OnlyNotes at notes
  rw [← notes]
  exact ⟨(congrArg Job.steps stepped :), (congrArg Job.planFences stepped :), (congrArg Job.jobCy stepped :), (congrArg Job.extraCy stepped :)⟩

/-- A job that finishes ends with the step counted (R228, R230). -/
theorem finish_ends (plan : Bool) (notes : b.OnlyNotes (s.job j)) (hasPlan : b.plan = some p) (status : Nat) (normal : Bool) :
    let u := (s.completeStep j p plan).endJob j status normal
    StepCounted p plan b (u.job j) ∧ (u.job j).state = jsEnded ∧ (u.job j).status = status := by
  have stepped := completeStep_notes (s := s) (j := j) (p := p) plan
  obtain ⟨steps, planFences, jobCy, extraCy⟩ := completeStep_counts (p := p) plan notes
  have planned : ((s.completeStep j p plan).job j).plan = some p :=
    ((congrArg Job.plan stepped :).trans (congrArg Job.plan notes :)).trans hasPlan
  obtain ⟨b', beads, job⟩ := endJob_job planned status normal
  unfold Job.OnlyBeads at beads
  rw [← beads] at steps planFences jobCy extraCy
  dsimp only
  rw [job]
  exact ⟨⟨steps, planFences, jobCy, extraCy⟩, rfl, rfl⟩

/-- The cycles by which a tile has ended a step of this length late (R225). -/
def Tile.lateBy (t : Tile) (len : Nat) : Nat :=
  match t.arrivedAt with
  | some a => a - len
  | none => 0

theorem arrive_tile {t : TileIx} (late : Nat) (hasPlan : (s.job j).plan = some p) (phase : (s.job j).phase = .step)
    (running : (s.job j).running = true) (free : (s.job j).halted = false) (arrived : tileArrived (s.tile t.val) = true)
    (unit : p.units.any (fun v => unitKey v == t.val) = true) (first : (s.job j).arrived.any (fun v => unitKey v == t.val) = false) :
    s.arrive j (.tile t) late
      = s.updJob j fun b =>
          { b with arrived := b.arrived ++ [.tile t], late := max b.late (max late ((s.tile t.val).lateBy (s.job j).len)) } := by
  have own : unitKey (.tile t) = t.val := rfl
  simp only [State.arrive, hasPlan, phase, running, free, own, first, unit, arrived]
  rfl

/-! ## The decision carried out -/

theorem decided_notes : (s.job j).OnlyNotes ((s.decided j p).job j) := atDecision_notes.trans (onlyNotes_updJob rfl fun _ => rfl)

/-- The command of the root carries out the outcome of the rules. -/
theorem root_decides {o : FenceOut} (h : AllIn s j p) (outcome : s.rootOutcome j p = o) :
    ∃ u, exec (.fenceRootDecision j) s = .next u ∧ u.job j = ((s.decided j p).carryOut j p o).job j := by
  refine ⟨_, exec_fenceRootDecision .., ?_⟩
  rw [(noteFeatures_aside _).job, rootDecision_alone h, outcome]

theorem root_stops {status : Nat} (h : AllIn s j p) (outcome : s.rootOutcome j p = .stop status) :
    ∃ u, exec (.fenceRootDecision j) s = .next u ∧ (u.job j).state = 5 ∧ (u.job j).status = status := by
  obtain ⟨u, next, job⟩ := root_decides h outcome
  obtain ⟨state, statusIs, -, -⟩ := endJob_fields (s := s.decided j p) j status false
  exact ⟨u, next, (congrArg Job.state job).trans state, (congrArg Job.status job).trans statusIs⟩

theorem root_reruns (h : AllIn s j p) (outcome : s.rootOutcome j p = .rerun) :
    ∃ u, exec (.fenceRootDecision j) s = .next u ∧ (u.job j).phase = .decided (s.job j).task true ((s.atDecision j p).fenceIsPlan p)
      ∧ (u.job j).steps = (s.job j).steps ∧ (u.job j).state = (s.job j).state := by
  obtain ⟨u, next, job⟩ := root_decides h outcome
  have notes := decided_notes (s := s) (j := j) (p := p)
  have task : ((s.decided j p).job j).task = (s.job j).task := (congrArg Job.task notes :)
  refine ⟨u, next, ?_⟩
  rw [job, State.carryOut, job_updJob, ← task]
  exact ⟨rfl, (congrArg Job.steps notes :), (congrArg Job.state notes :)⟩

/-- The step completes: it is counted, and the job ends after its last task or goes on with the next. -/
theorem root_completes {n : Nat} {plan : Bool} (h : AllIn s j p) (agreed : (s.atDecision j p).agreedNext p = some (n, plan))
    (outcome : s.rootOutcome j p = if n = 255 then .finish 0x0700 else .go n) :
    ∃ u, exec (.fenceRootDecision j) s = .next u ∧ StepCounted p plan (s.job j) (u.job j)
      ∧ (n = 255 → (u.job j).state = 5 ∧ (u.job j).status = 0x0700)
      ∧ (n ≠ 255 → (u.job j).phase = .decided n false plan ∧ (u.job j).state = (s.job j).state) := by
  obtain ⟨u, next, job⟩ := root_decides h outcome
  have notes := decided_notes (s := s) (j := j) (p := p)
  have flag : (s.decided j p).fenceIsPlan p = plan := fenceIsPlan_of_agreed agreed
  refine ⟨u, next, ?_⟩
  rw [job]
  by_cases last : n = 255
  · rw [if_pos last, State.carryOut, flag]
    obtain ⟨counts, state, status⟩ := finish_ends plan notes h.plan 0x0700 (endsNormally 0x0700)
    exact ⟨counts, fun _ => ⟨state, status⟩, fun other => absurd last other⟩
  · rw [if_neg last, State.carryOut, flag, job_updJob]
    obtain ⟨steps, planFences, jobCy, extraCy⟩ := completeStep_counts (p := p) plan notes
    have stepped := completeStep_notes (s := s.decided j p) (j := j) (p := p) plan
    have state : (((s.decided j p).completeStep j p plan).job j).state = (s.job j).state :=
      (congrArg Job.state stepped :).trans (congrArg Job.state notes :)
    exact ⟨⟨steps, planFences, jobCy, extraCy⟩, fun same => absurd same last, fun _ => ⟨rfl, state⟩⟩

end

/-- Settles O23: a tile arrives by `arrive_tile`; the outcome of the root is told by the lemmas on `fenceOutcome`, one for each rule of R228, and
`root_stops`, `root_reruns` and `root_completes` carry it out on a job that differs from the one before only in its notes. -/
theorem stepFences : Obligations.StepFences := by
  unfold Obligations.StepFences
  refine ⟨fun s j p t late hasPlan phase running free arrived unit first => ?arrives, fun s j p allIn =>
    ⟨fun ⟨whole, noStops⟩ clean untrapped => ⟨fun next => ?disagreed, fun n plan next carried stopReq groupStop => ?next⟩,
      fun ⟨whole, noStops⟩ detected reruns => ?detected, fun ⟨whole, noStops⟩ clean trapped => ?trapped,
      fun broken => root_stops allIn (fenceOutcome_broken broken)⟩⟩
  case arrives =>
    refine ⟨_, (exec_unitFenceArrival ..).trans (congrArg Host.Outcome.next (arrive_tile late hasPlan phase running free arrived unit first)),
      rfl, fun k other => job_setJob_ne s _ other, ?_⟩
    rw [job_updJob]
    exact ⟨rfl, rfl⟩
  case disagreed => exact root_stops allIn ((rootOutcome_of_whole whole).trans <| fenceOutcome_disagreed noStops clean untrapped next)
  case next =>
    obtain ⟨u, exec, ⟨steps, planFences, jobCy, extraCy⟩, ended, goes⟩ :=
      root_completes allIn next ((rootOutcome_of_whole whole).trans <| fenceOutcome_next noStops clean untrapped next carried stopReq groupStop)
    exact ⟨u, exec, steps, planFences, jobCy, extraCy, ended, goes⟩
  case detected =>
    have again : ((s.atDecision j p).job j).reruns < 2 := (congrArg Job.reruns (atDecision_notes (s := s) (j := j) (p := p)) :).trans_lt reruns
    exact root_reruns allIn ((rootOutcome_of_whole whole).trans <| fenceOutcome_detected noStops detected again)
  case trapped => exact root_stops allIn ((rootOutcome_of_whole whole).trans <| fenceOutcome_trapped noStops clean trapped)

end Sys2Proof.Machine
end

section
namespace Sys2Proof.Machine

/-! # Writes to fence events (R231, R235, R260) -/

section
variable {s : State} {j : SlotIx} {car : Carrier} {index sub value size : Nat}

/-- A write that `acceptEvent` takes: neither in a replay, nor to a target that has passed, nor into a full log. -/
structure TakesEvent (b : Job) : Prop where
  live : ¬ (b.replay = true ∧ b.running = true)
  ahead : ¬ (b.target.toNat / 2 ^ 63 = 1 ∧ b.target.toNat % 2 ^ 63 ≤ b.planFences)
  room : 32 * (b.evUsed + b.pending.length + 1) ≤ b.evLen

/-- The job with one event more that waits, under its next sequence number. -/
def Job.withEvent (index sub value size : Nat) (b : Job) : Job :=
  { b with seq := b.seq + 1, pending := b.pending ++ [⟨b.seq + 1, index, sub, value, size, b.target.toNat⟩] }

theorem acceptEvent_takes (h : TakesEvent (s.job j)) :
    State.acceptEvent j index sub value size s = (s.updJob j (Job.withEvent index sub value size), 1) := by
  unfold State.acceptEvent
  rw [if_neg h.live, if_neg h.ahead, if_neg (Nat.not_lt.mpr h.room)]
  rfl

theorem acceptEvent_replay (replay : (s.job j).replay = true) (running : (s.job j).running = true) :
    State.acceptEvent j index sub value size s = (s, 0x0721) := if_pos ⟨replay, running⟩

theorem acceptEvent_passed (live : (s.job j).replay = false) (ordinal : (s.job j).target.toNat / 2 ^ 63 = 1)
    (passed : (s.job j).target.toNat % 2 ^ 63 ≤ (s.job j).planFences) : State.acceptEvent j index sub value size s = (s, 0x0720) := by
  unfold State.acceptEvent
  rw [if_neg (by simp [live]), if_pos ⟨ordinal, passed⟩]

theorem acceptEvent_full (live : (s.job j).replay = false) (tally : (s.job j).target.toNat < 2 ^ 63)
    (full : (s.job j).evLen < 32 * ((s.job j).evUsed + (s.job j).pending.length + 1)) :
    State.acceptEvent j index sub value size s = (s, 0x0722) := by
  unfold State.acceptEvent
  rw [if_neg (by simp [live]), if_neg (by omega), if_pos full]

/-- GROUP_ETA takes a finite number that is not negative for a group of the schedule (R260). -/
theorem writeEta_accepts {g v : Nat} (engines : s.fuses.updateEngines = true) (group : g < (s.job j).schedGroups) (finite : v < 0x7F800000) :
    State.writeEta j g v s = State.acceptEvent j (0x8200 + 16 * j.val + g / 256) (g % 256) v 4 s := by
  unfold State.writeEta
  rw [engines, if_neg (by decide), if_neg (by omega)]

/-- GROUP_FROZEN takes 0 and 1 for a group of the schedule (R260). -/
theorem writeFrozen_accepts {g v : Nat} (engines : s.fuses.updateEngines = true) (group : g < (s.job j).schedGroups) (flag : v ≤ 1) :
    State.writeFrozen j g v s = State.acceptEvent j (0x8300 + 16 * j.val + g / 256) (g % 256) v 1 s := by
  unfold State.writeFrozen
  rw [if_neg (by omega), engines, if_neg (by decide), if_neg (by omega)]

/-- DIGEST_SNAPSHOT by its index is neither of the group objects (R238). -/
theorem writeEvent_snapshot {v : Nat} (byte : v < 256) : State.writeEvent j (0x7100 + j.val) 0x0B v = State.writeSnapshot j v := by
  have eta : evEta (0x7100 + j.val) 0x0B = none := if_neg (by omega)
  have frozen : evFrozen (0x7100 + j.val) 0x0B = none := if_neg (by omega)
  unfold State.writeEvent
  rw [eta, frozen]
  exact (if_pos ⟨rfl, rfl⟩).trans (if_pos byte)

/-- An accepted event is answered 0x0001 and is one event more of its job. -/
theorem Served.takes_event {c : Instr} {w : Writer} (served : Served s car 1) (cmd : exec c s = mgmtWrite car clsJobs w s)
    (accepts : w s = State.acceptEvent j index sub value size s) (h : TakesEvent (s.job j)) :
    ∃ u, exec c s = .next u ∧ { u with jobs := s.jobs, out := s.out } = s ∧ onlyJob s u j ∧ answers s u car 1
      ∧ u.job j = (s.job j).withEvent index sub value size := by
  refine ⟨_, cmd.trans (served.eq w), ?_⟩
  rw [accepts, acceptEvent_takes h, countRefusal_one]
  exact ⟨rfl, fun k other => job_setJob_ne s _ other, rfl, job_updJob ..⟩

/-- A write that changes nothing, with a status of the job chapter. -/
theorem Served.turned {c : Instr} {w : Writer} {st : Nat} (served : Served s car 1) (cmd : exec c s = mgmtWrite car clsJobs w s)
    (refused : w s = (s, st)) (uncounted : s.countRefusal st = s) :
    ∃ u, exec c s = .next u ∧ { u with out := s.out } = s ∧ answers s u car st := by
  refine ⟨_, cmd.trans (served.eq w), ?_⟩
  rw [refused, uncounted]
  exact ⟨rfl, rfl⟩

end

/-- Settles O25: the writers of the four fence events come to `acceptEvent`, whose branches are told by `TakesEvent` and by the three refusals. -/
theorem fenceEvents : Obligations.FenceEvents := by
  unfold Obligations.FenceEvents
  refine ⟨fun s j car b served slot live ahead room => ?_, fun s j car v b served slot => ?_⟩
  · subst slot
    have takes : TakesEvent (s.job j) := ⟨live, ahead, room⟩
    refine ⟨fun v => ⟨served.takes_event (exec_digestSnapshot ..) rfl takes, ?_⟩, fun g engines group => ⟨fun v finite => ?_, fun v flag => ?_⟩⟩
    · have index : (BitVec.ofNat 16 (0x7100 + j.val)).toNat = 0x7100 + j.val := Nat.mod_eq_of_lt (by omega)
      have value : (v.setWidth 64).toNat = v.toNat := BitVec.toNat_setWidth_of_le (by decide)
      refine served.takes_event (exec_fenceEventWrite ..) ?_ takes
      rw [index, value]
      exact congrFun (writeEvent_snapshot v.isLt) s
    · exact served.takes_event (exec_groupEta ..) (writeEta_accepts engines group finite) takes
    · exact served.takes_event (exec_groupFrozen ..) (writeFrozen_accepts engines group flag) takes
  · subst slot
    exact ⟨fun replay running => served.turned (exec_digestSnapshot ..) (acceptEvent_replay replay running) rfl,
      fun live ordinal passed => served.turned (exec_digestSnapshot ..) (acceptEvent_passed live ordinal passed) rfl,
      fun live tally full => served.turned (exec_digestSnapshot ..) (acceptEvent_full live tally full) rfl⟩

end Sys2Proof.Machine
end

section
namespace Sys2Proof.Machine

/-! # The update engine with nothing in flight (R242, R254, R258) -/

/-! ## No condition of R137 is met -/

/-- Regions in bound, aligned and in banks of the copy engines meet no condition (R242, R258). -/
theorem regionCauses_ok {s : State} {i : CoreAt} {rs : List (Nat × Nat)} (ok : ∀ r ∈ rs, regionOk s i clsCopy r.1 r.2) :
    regionCauses (s.tile i.tile.val) rs = [] := by
  have bound : (rs.any fun r => ! (s.tile i.tile.val).inBound r.1 r.2) = false := by simpa using fun a b h => (ok (a, b) h).1
  have aligned : (rs.any fun r => r.1 % 64 != 0) = false := by simpa using fun a b h => (ok (a, b) h).2.1
  have banks : (rs.any fun r => ! (s.tile i.tile.val).classOk clsCopy r.1 r.2) = false := by simpa using fun a b h => (ok (a, b) h).2.2
  rw [regionCauses, bound, aligned, banks]
  rfl

section
variable {s : State} {i : CoreAt} {srcs : List Nat}

/-- Core c3 of a part with update engines may issue instructions of the engine (R258). -/
theorem UpdReady.updCauses_eq (ready : UpdReady s i srcs) : updCauses (s.env i.tile.val) i.core = [] := by
  obtain ⟨-, c3, engines, -⟩ := ready
  simp [updCauses, State.env, c3, engines, causeIf]

theorem UpdReady.core (ready : UpdReady s i srcs) : CoreReady s i srcs [] none := ready.1

theorem UpdReady.idle (ready : UpdReady s i srcs) : (s.tile i.tile.val).upd.ops = [] := ready.2.2.2

/-! ## What an instruction leaves that changes the engine and retires, or traps -/

/-- Nothing of the tile but its update engine and its frame's clock. -/
def EngineOnly (t t' : Tile) : Prop := ∃ n e, t' = (t.atCycle n).updUpd fun _ => e

variable {f : TEnv → Tile → TOut} {t : Tile} {t0 : Nat}

theorem onTile_updRetires {nx : Nat} (hI : s.Inv) (ready : UpdReady s i srcs) (engine : EngineOnly (s.tile i.tile.val) t)
    (effect : f (s.env i.tile.val) (s.tile i.tile.val) = TOut.of (t.updCore i.core (retire t0 nx 1 [] none))) :
    ∃ u, onTile i.tile f s = .next u ∧ restOfTile s u i ∧ goesOn s u i nx ∧ keepsS (s.coreAt i) (u.coreAt i)
      ∧ (u.tile i.tile.val).upd = t.upd := by
  obtain ⟨n, e, rfl⟩ := engine
  obtain ⟨u, hu, only, tile⟩ := onTile_only ready.core.grid hI effect (.of_ _)
  rw [TOut.of_tile] at tile
  have core : u.coreAt i = retire t0 nx 1 [] none (s.coreAt i) := (coreAt_of_updCore tile).trans rfl
  refine ⟨u, hu, restOfTile_of_updCore only tile (fun _ _ => rfl) rfl, ?_, fun r => by rw [core, retire_getS], by rw [tile]; rfl⟩
  simp [goesOn, keepsV, keepsFlags, core, ready.core.running]

theorem onTile_updTraps {cause major : Nat} (hI : s.Inv) (ready : UpdReady s i srcs) (engine : EngineOnly (s.tile i.tile.val) t)
    (effect : f (s.env i.tile.val) (s.tile i.tile.val) = coreTrap i.core cause major t0 t) (trap : cause ≠ 9) :
    ∃ u, onTile i.tile f s = .next u ∧ trapped s u i cause major t0 := by
  obtain ⟨n, e, rfl⟩ := engine
  obtain ⟨u, hu, only, tile⟩ := onTile_only ready.core.grid hI effect (coreTrap_plain _ _ _ _ _)
  rw [coreTrap, TOut.bump_tile, TOut.of_tile] at tile
  have core : u.coreAt i = (s.coreAt i).trappedAt cause major t0 := by
    rw [State.coreAt, tile, core_trapTile]
    rfl
  refine ⟨u, hu, only, ?_⟩
  rw [keepsS, keepsV, core, tile]
  refine ⟨rfl, rfl, rfl, fun _ => rfl, rfl, rfl, ?_, Option.some_ne_none _⟩
  simp [trapTile, Tile.stop, trap]

end

/-! ## The operations on the tile of a ready core -/

section
variable {s : State} {i : CoreAt} {sa sb : Reg}

/-- The point lines of the record that `a` names, as its header counts them (R245). -/
def Tile.recordLines (t : Tile) (a : U64) : Nat :=
  pointLines (t.sp.read (t.tsk.base + lo32 a + 5)).toNat (t.sp.read (t.tsk.base + lo32 a + 3)).toNat

/-- The read of the record and the expected group that `a` names, for step count `b` (R242, R254). -/
def recordEntry (t : Tile) (a b : U64) (t1 : Nat) : FOp :=
  let args := { FArgs.zero with e1 := t.tsk.base + lo32 a, want := a.toNat / 2 ^ 32 % 2 ^ 12, step := b }
  ⟨6, t1, t1, 0, 0, 0, false, grpAccs t1 (t.recordLines a) args, args⟩

/-- The cycle in which a record's read begins: the occupancy is over (R254). -/
def State.groupAt (s : State) (i : CoreAt) (sa sb : Reg) : Nat := max (s.issueAt i [rS sa, rS sb] [] none) (s.tile i.tile.val).upd.occEnd

/-- The engine that a record's read has entered in cycle `t1` (R246, R254). -/
def UpdSt.reading (u : UpdSt) (op : FOp) (t1 : Nat) : UpdSt := { u with ops := u.ops ++ [op], readEnd := t1 + 24, clk := min u.clk t1 }

/-- UPD.GROUP of a record that its core may read starts the read, once the occupancy is over. -/
theorem updGroupOp_reads (ready : UpdReady s i [rS sa, rS sb]) (small : ((s.coreAt i).getS sa).toNat < 2 ^ 44)
    (region : regionOk s i clsCopy (lo32 ((s.coreAt i).getS sa)) (64 * (1 + (s.tile i.tile.val).recordLines ((s.coreAt i).getS sa)))) :
    updGroupOp (s.env i.tile.val) i.core sa sb 0 (s.tile i.tile.val)
      = TOut.of ((((s.tile i.tile.val).unitsAt (s.issueAt i [rS sa, rS sb] [] none)).updUpd fun u =>
          u.reading (recordEntry (s.tile i.tile.val) ((s.coreAt i).getS sa) ((s.coreAt i).getS sb) (s.groupAt i sa sb)) (s.groupAt i sa sb)).updCore
            i.core (retire (s.groupAt i sa sb) (s.groupAt i sa sb + 1) 1 [] none)) := by
  have legal : causeIf (0#12 != 0 || ((s.coreAt i).getS sa).toNat / 2 ^ 44 != 0) 4 = [] := by rw [Nat.div_eq_of_lt small]; rfl
  have regions : regionCauses (s.tile i.tile.val)
      [(lo32 ((s.coreAt i).getS sa), 64 * (1 + (s.tile i.tile.val).recordLines ((s.coreAt i).getS sa)))] = [] :=
    regionCauses_ok (by simpa using region)
  have clocks := updTo_idle (s.issueAt i [rS sa, rS sb] [] none) ((s.tile i.tile.val).atCycle (s.issueAt i [rS sa, rS sb] [] none)) ready.idle
  refine (coreGo_ready ready.core.tile ?_).trans ((congrArg (fun o : TOut => o.andThen _) clocks).trans rfl)
  exact congrArg pickCause (congrArg₂ (· ++ ·) (congrArg₂ (· ++ ·) ready.updCauses_eq legal) regions)

/-- The engine that a run of `n` beads has entered (R242, R250). -/
def UpdSt.entered (u : UpdSt) (op : FOp) (t1 n : Nat) : UpdSt :=
  { u with ops := u.ops ++ [op], occEnd := t1 + n, ordRun := u.ordRun + 1, ubead := (u.ubead + n) % 2 ^ 32, clk := min u.clk t1 }

section
variable {opt : BitVec 12}

/-- The cycle in which a run issues: the record is read and the occupancy before it is over (R254). -/
def State.runAt (s : State) (i : CoreAt) (sa sb : Reg) : Nat :=
  max (max (s.issueAt i [rS sa, rS sb] [] none) (s.tile i.tile.val).upd.occEnd) (s.tile i.tile.val).upd.readEnd

/-- A run meets no condition of R137, whether or not a group is in force, and its cycle is not barred (R254, R258). -/
structure RunReady (s : State) (i : CoreAt) (sa sb : Reg) (opt : BitVec 12) : Prop where
  upd : UpdReady s i [rS sa, rS sb]
  may : mayIssue (s.tile i.tile.val) (s.runAt i sa sb) = true
  weights : optF opt 10 2 ≠ 3
  gradients : optF opt 8 2 ≠ 3
  regions : ∀ r, r ∈ runRegions (s.tile i.tile.val) ((s.coreAt i).getS sa) ((s.coreAt i).getS sb) (optF opt 10 2) (optF opt 8 2)
    (optF opt 0 8 + 1) → regionOk s i clsCopy r.1 r.2

/-- The tile in which a run has waited for its cycle. -/
def State.runTile (s : State) (i : CoreAt) (sa sb : Reg) : Tile :=
  ((s.tile i.tile.val).atCycle (s.issueAt i [rS sa, rS sb] [] none)).updUpd fun u => { u with clk := max u.clk (s.runAt i sa sb) }

theorem RunReady.causes (ready : RunReady s i sa sb opt) :
    updCauses (s.env i.tile.val) i.core ++ causeIf (optF opt 10 2 == 3 || optF opt 8 2 == 3) 4
      ++ regionCauses (s.tile i.tile.val)
          (runRegions (s.tile i.tile.val) ((s.coreAt i).getS sa) ((s.coreAt i).getS sb) (optF opt 10 2) (optF opt 8 2) (optF opt 0 8 + 1)) = [] := by
  have legal : causeIf (optF opt 10 2 == 3 || optF opt 8 2 == 3) 4 = [] := by simp [causeIf, ready.weights, ready.gradients]
  rw [ready.upd.updCauses_eq, legal, regionCauses_ok ready.regions]
  rfl

/-- The accesses and the captured operands of a run of registers `a` and `b` that enters the engine of tile `t` (R242, R254, R255). -/
def runEntry (t : Tile) (g : UpdGroup) (a b : U64) (opt : BitVec 12) (t1 : Nat) : FOp :=
  let n := optF opt 0 8 + 1
  let args := { FArgs.zero with
    fmt := optF opt 10 2, fmt2 := optF opt 8 2
    e1 := t.tsk.base + lo32 a, s1 := t.tsk.base + hi32 a, e2 := t.tsk.base + lo32 b, s2 := t.tsk.base + hi32 b
    eo := t.tsk.base + lo32 t.upd.uoBase, so := t.tsk.base + hi32 t.upd.uoBase
    dig := t.digFor 3 t.upd.ordRun, run := some (captureRun t g n) }
  ⟨7, t1, t1 + n, 0, 0, 0, false, runAccs t1 n args, args⟩

/-- A run takes effect, in its cycle, on the valid group in force (R246, R250). -/
theorem updRunOp_enters {g : UpdGroup} (ready : RunReady s i sa sb opt) (grp : (s.tile i.tile.val).upd.grp = some g) (valid : g.valid = true)
    (free : g.frozen = false) :
    updRunOp (s.env i.tile.val) i.core sa sb opt (s.tile i.tile.val)
      = TOut.of (((s.runTile i sa sb).updUpd fun u =>
          u.entered (runEntry (s.tile i.tile.val) g ((s.coreAt i).getS sa) ((s.coreAt i).getS sb) opt (s.runAt i sa sb)) (s.runAt i sa sb)
            (optF opt 0 8 + 1)).updCore i.core (retire (s.runAt i sa sb) (s.runAt i sa sb + 1) 1 [] none)) := by
  have clocks := updTo_idle (s.runAt i sa sb) ((s.tile i.tile.val).atCycle (s.issueAt i [rS sa, rS sb] [] none)) ready.upd.idle
  have may : (! mayIssue (s.runTile i sa sb) (s.runAt i sa sb)) = false := congrArg not ready.may
  have legal : (! g.valid) = false := congrArg not valid
  unfold updRunOp
  dsimp only
  rw [coreGo_ready ready.upd.core.tile (congrArg pickCause ready.causes)]
  refine (congrArg (fun o : TOut => o.andThen _) clocks).trans ((if_neg (ne_true_of_eq_false may)).trans ?_)
  split
  next h => cases grp.symm.trans h
  next g' h =>
    obtain rfl : g = g' := Option.some.inj (grp.symm.trans h)
    refine (if_neg (ne_true_of_eq_false legal)).trans ?_
    simp only [free, Bool.false_eq_true, if_false, TOut.bump_zero]
    rfl

/-- Without a valid group in force the run traps (R246, R258). -/
theorem updRunOp_traps (ready : RunReady s i sa sb opt) (without : ∀ g, (s.tile i.tile.val).upd.grp = some g → g.valid = false) :
    updRunOp (s.env i.tile.val) i.core sa sb opt (s.tile i.tile.val) = coreTrap i.core 4 0x3B (s.runAt i sa sb) (s.runTile i sa sb) := by
  have clocks := updTo_idle (s.runAt i sa sb) ((s.tile i.tile.val).atCycle (s.issueAt i [rS sa, rS sb] [] none)) ready.upd.idle
  have may : (! mayIssue (s.runTile i sa sb) (s.runAt i sa sb)) = false := congrArg not ready.may
  unfold updRunOp
  dsimp only
  rw [coreGo_ready ready.upd.core.tile (congrArg pickCause ready.causes)]
  refine (congrArg (fun o : TOut => o.andThen _) clocks).trans ((if_neg (ne_true_of_eq_false may)).trans ?_)
  split
  next => rfl
  next g grp =>
    exact if_pos (congrArg not (without g grp))

end

/-- With nothing in flight a wait ends with the occupancy (R254). -/
theorem updFinish_idle (c : Nat) {t : Tile} (idle : t.upd.ops = []) :
    updFinish c t = (max c t.upd.occEnd, TOut.of (t.updUpd fun u => { u with clk := max u.clk c })) := by
  have none_due : nextDue (t.updUpd fun u => { u with clk := max u.clk c }).upd.ops = none := by
    rw [show (t.updUpd fun u => { u with clk := max u.clk c }).upd.ops = [] from idle]
    rfl
  simp only [updFinish, updTo_idle c t idle, TOut.of_tile, none_due, Option.isNone_none, if_true]
  rfl

/-- UPD.WAIT with nothing in flight holds its core to the end of the occupancy (R242, R254). -/
theorem updWaitOp_ready (ready : UpdReady s i []) :
    updWaitOp (s.env i.tile.val) i.core 0 0 0 (s.tile i.tile.val)
      = TOut.of (((s.tile i.tile.val).unitsAt (s.issueAt i [] [] none)).updCore i.core
          (retire (s.issueAt i [] [] none) (max (s.issueAt i [] [] none + 1) (s.tile i.tile.val).upd.occEnd) 1 [] none)) := by
  have done := updFinish_idle (s.issueAt i [] [] none) (t := (s.tile i.tile.val).atCycle (s.issueAt i [] [] none)) ready.idle
  have last : max (s.issueAt i [] [] none + 1) (max (s.issueAt i [] [] none) (s.tile i.tile.val).upd.occEnd)
      = max (s.issueAt i [] [] none + 1) (s.tile i.tile.val).upd.occEnd := by omega
  rw [← last]
  refine (coreGo_ready ready.core.tile ?_).trans (congrArg (fun r : Nat × TOut =>
    r.2.upd fun t => t.updCore i.core (retire (s.issueAt i [] [] none) (max (s.issueAt i [] [] none + 1) r.1) 1 [] none)) done)
  exact congrArg pickCause (congrArg (· ++ []) ready.updCauses_eq)

end

/-- Settles O17: with nothing in flight a ready core brings the engine's clock to its cycle; a read of a record and a run then enter as the only
operation of the engine, a run without a group is a trap, and a wait ends with the occupancy. -/
theorem updateEngine : Obligations.UpdateEngine := by
  unfold Obligations.UpdateEngine
  refine ⟨fun s i sa sb hI ready => ?group, fun s i sa sb opt g hI ready => ?run, fun s i hI ready => ?wait⟩
  case group =>
    intro a p t1 lines small region
    obtain ⟨u, hu, rest, goes, keeps, upd⟩ := onTile_updRetires (f := fun e => updGroupOp e i.core sa sb 0) hI ready ⟨_, _, rfl⟩
      (updGroupOp_reads ready small region)
    refine ⟨u, (exec_updGroup _ _ _ _ _).trans hu, rest, goes, keeps, ?_⟩
    rw [keepsUpdRegs, upd]
    exact ⟨rfl, ⟨rfl, rfl, rfl⟩, rfl, _, congrArg (· ++ [_]) ready.idle, rfl, rfl, rfl, rfl, rfl⟩
  case run =>
    intro t n t1 may weights gradients regions
    have run : RunReady s i sa sb opt := ⟨ready, may, weights, gradients, regions⟩
    refine ⟨fun grp valid free => ?enters, fun grp => ?traps⟩
    case enters =>
      obtain ⟨u, hu, rest, goes, keeps, upd⟩ := onTile_updRetires (f := fun e => updRunOp e i.core sa sb opt) hI ready ⟨_, _, rfl⟩
        (updRunOp_enters run grp valid free)
      refine ⟨u, (exec_updRun _ _ _ _ _).trans hu, rest, goes, keeps, ?_⟩
      rw [keepsUpdRegs, upd]
      exact ⟨rfl, rfl, ⟨rfl, rfl, rfl⟩, grp, _, congrArg (· ++ [_]) ready.idle, rfl, rfl, rfl⟩
    case traps =>
      obtain ⟨u, hu, trap⟩ := onTile_updTraps (f := fun e => updRunOp e i.core sa sb opt) hI ready ⟨_, _, rfl⟩
        (updRunOp_traps run fun g some_g => by cases grp.symm.trans some_g) (by decide)
      exact ⟨u, (exec_updRun _ _ _ _ _).trans hu, trap⟩
  case wait =>
    obtain ⟨u, hu, rest, goes, keeps, upd⟩ := onTile_updRetires (f := fun e => updWaitOp e i.core 0 0 0) hI ready ⟨_, _, rfl⟩
      (updWaitOp_ready ready)
    refine ⟨u, (exec_updWait _ _ _ _ _).trans hu, rest, goes, keeps, ?_⟩
    rw [keepsUpdRegs, upd]
    exact ⟨⟨rfl, rfl, rfl⟩, rfl⟩

end Sys2Proof.Machine
end

section
namespace Sys2Proof.Machine

/-! # The reference, crossings and stretches of zone clocks (R290, R293 to R295) -/

theorem next_of_eq {c : Instr} {s u v : State} (cmd : exec c s = .next v) (effect : v = u) : exec c s = .next u := effect ▸ cmd

/-! ## The clock of one zone -/

@[simp] theorem zoneClk_updZoneClk (s : State) (z : ZoneIx) (f : ZoneClk → ZoneClk) : (s.updZoneClk z.val f).zoneClk z.val = f (s.zoneClk z.val) :=
  Vector.getElem_set_self _

@[simp] theorem zoneClk_bump (s : State) (k n z : Nat) : (s.bump k n).zoneClk z = s.zoneClk z := rfl
@[simp] theorem zoneClk_send (s : State) (o : Out) (z : Nat) : (s.send o).zoneClk z = s.zoneClk z := rfl

theorem zoneClk_updZoneClk_ne (s : State) {y z : ZoneIx} (f : ZoneClk → ZoneClk) (other : y ≠ z) :
    (s.updZoneClk z.val f).zoneClk y.val = s.zoneClk y.val :=
  Vector.getElem_set_ne (zoneIx z.val).isLt (zoneIx y.val).isLt fun same => other (Fin.ext (by have : z.val % 48 = y.val % 48 := same; omega))

/-! ## Counters after other counts -/

section
variable {s : State} {k : Nat}

@[simp] theorem counter_send (o : Out) : (s.send o).counter k = s.counter k := rfl
@[simp] theorem counter_raise (kind unit : Nat) (data : List Byte) : (s.raise kind unit data).counter k = s.counter k := rfl
@[simp] theorem counter_updClk (f : ClkSt → ClkSt) : (s.updClk f).counter k = s.counter k := rfl
@[simp] theorem counter_updZoneClk (z : Nat) (f : ZoneClk → ZoneClk) : (s.updZoneClk z f).counter k = s.counter k := rfl

theorem counter_bump_same {n : Nat} (more : 0 < n) : (s.bump k n).counter k = satAdd (s.counter k) n := (counted_bump s k more).1

theorem counter_bump_ne {k' n : Nat} (other : k ≠ k') : (s.bump k' n).counter k = s.counter k := SMap.get_put_ne 0 s.ctr _ other

/-- A counter has risen where the counters are as after its count. -/
theorem counted_of_bump {u : State} {n : Nat} (ctr : u.ctr = (s.bump k n).ctr) (more : 0 < n) : counted s u k n := by
  have same : ∀ x, u.counter x = (s.bump k n).counter x := fun x => congrArg (fun m => SMap.get 0 m x) ctr
  exact ⟨(same k).trans (counted_bump s k more).1, fun x other => (same x).trans ((counted_bump s k more).2 x other)⟩

end

/-! ## Crossings (R293) -/

theorem tile_updTile_same {u : State} (t : Nat) (f : Tile → Tile) (wf : SMap.wf Tile.reset u.tiles = true) : (u.updTile t f).tile t = f (u.tile t) :=
  State.tile_setTile_same u t _ wf

theorem tile_updTile_ne {t T : Nat} (u : State) (f : Tile → Tile) (other : T ≠ t) : (u.updTile t f).tile T = u.tile T :=
  State.tile_setTile_ne u _ other

/-- What a slipped crossing before an input leaves in the tile that receives from it (R293). -/
def Tile.slipDetected (port : Nat) (t : Tile) : Tile :=
  if t.job.isSome then { t with detected := true, dets := t.dets ++ [(6, port, 0)] } else t

theorem Tile.slipDetected_sp (port : Nat) (t : Tile) : (t.slipDetected port).sp = t.sp := by
  unfold Tile.slipDetected
  split <;> rfl

theorem Tile.slipDetected_detected {t : Tile} (port : Nat) (job : t.job.isSome = true) : (t.slipDetected port).detected = true :=
  congrArg Tile.detected (if_pos job)

/-- The crossing before an input slips: it is noted and counted, for the device and for its two zones, and its tile detects it. -/
theorem slip_crossing {s : State} {t port x y : Nat} (router : s.grid.portTo (t % 48) (t / 48) port = .router x y)
    (apart : s.grid.tileZone t ≠ s.grid.zone x y) (sound : s.crossingSlipped t port = false) :
    ∃ v : State, s.slip t port = v.updTile t (Tile.slipDetected port) ∧ { v with clk := s.clk, ctr := s.ctr } = s
      ∧ v.clk.slipped = s.clk.slipped ++ [8 * t + port] ∧ v.ctr = (s.bump (ck 0x3030 6) 1).ctr := by
  have goes : ¬ (s.grid.tileZone t = s.grid.zone x y ∨ s.crossingSlipped t port = true) := by simp [apart, sound]
  unfold State.slip
  rw [router]
  dsimp only
  rw [if_neg goes]
  exact ⟨_, rfl, by simp, rfl, rfl⟩

/-! ## The stretches of a zone's own detectors (R294, R321) -/

/-- The clock of a zone whose detectors begin a stretch: it is counted under a new number, and the shunt has fired. -/
def ZoneClk.begun (st : Stretch) (k : ZoneClk) : ZoneClk :=
  { k with stretch := some st, seq := (k.seq + 1) % 16, stretches := min (k.stretches + 1) (2 ^ 24 - 1), recharging := true }

section
variable {s : State} {z : ZoneIx} {st : Stretch}

theorem ownStretch_only : { s.ownStretch z.val st with clk := s.clk, ctr := s.ctr, out := s.out } = s := by
  simp [State.ownStretch]

theorem ownStretch_out : (s.ownStretch z.val st).out = s.out ++ [.notice z.val z.val (((s.zoneClk z.val).seq + 1) % 16) 16] := rfl

theorem zoneClk_ownStretch : (s.ownStretch z.val st).zoneClk z.val = (s.zoneClk z.val).begun st :=
  zoneClk_updZoneClk s z fun _ => (s.zoneClk z.val).begun st

theorem zoneClk_ownStretch_ne {y : ZoneIx} (other : y ≠ z) : (s.ownStretch z.val st).zoneClk y.val = s.zoneClk y.val :=
  zoneClk_updZoneClk_ne s (fun _ => (s.zoneClk z.val).begun st) other

theorem counter_ownStretch : (s.ownStretch z.val st).counter (ck 0x3030 1) = satAdd (s.counter (ck 0x3030 1)) 1 := by
  unfold State.ownStretch
  rw [counter_send, counter_bump_ne (by decide), counter_bump_same one_pos, counter_updZoneClk]

/-- A stretch counts nothing but itself and the shunt's want of charge. -/
theorem counter_ownStretch_ne {k : Nat} (stretches : k ≠ ck 0x3030 1) (shunt : k ≠ ck 0x4070 5) : (s.ownStretch z.val st).counter k = s.counter k := by
  unfold State.ownStretch
  rw [counter_send, counter_bump_ne shunt, counter_bump_ne stretches, counter_updZoneClk]

/-- A detector asserts where no stretch is in progress. -/
theorem droop_starts {elapsed : Nat} (band : s.bandOn z.val = true) (rest : (s.zoneClk z.val).stretch = none) :
    s.droop z.val elapsed = s.ownStretch z.val ⟨some (0, 16), []⟩ := by
  simp [State.droop, band, rest]

/-- A detector asserts later than what decided the end of the zone's stretch: the end moves to 16 cycles after it. -/
theorem droop_lengthens {elapsed a n : Nat} (band : s.bandOn z.val = true) (stretch : (s.zoneClk z.val).stretch = some st) (own : st.own = some (a, n))
    (short : elapsed - a + 16 ≤ 64) (later : n < elapsed - a + 16) :
    s.droop z.val elapsed = (s.updZoneClk z.val fun k => { k with stretch := some { st with own := some (a, elapsed - a + 16) } }).send
      (.notice z.val z.val (s.zoneClk z.val).seq (elapsed - a + 16)) := by
  have len : min 64 (max n (elapsed - a + 16)) = elapsed - a + 16 := by omega
  have moves : elapsed - a + 16 ≠ n := by omega
  simp [State.droop, band, stretch, own, len, moves]

theorem stretchEnds_eq (stretch : (s.zoneClk z.val).stretch = some st) :
    s.stretchEnds z.val = (s.updZoneClk z.val fun k => { k with stretch := none }).bump (ck 0x3030 3) st.total := by
  rw [State.stretchEnds, stretch]

/-- A detector asserts at the 64th cycle of a stretch that copies nothing: its cycles and the restart are counted, and a new one begins. -/
theorem restart_alone {a : Nat} (stretch : (s.zoneClk z.val).stretch = some ⟨some (a, 64), []⟩) :
    s.restart z.val = ((s.bump (ck 0x3030 3) (a + 64)).bump (ck 0x3030 4) 1).ownStretch z.val ⟨some (0, 16), []⟩ := by
  rw [State.restart, stretch]
  rfl

end

/-! ## Copies of other zones' stretches (R295) -/

section
variable {s : State} {z origin : ZoneIx} {seq len elapsed : Nat}

/-- A zone at rest copies a notice that it has not seen. -/
theorem copyStretch_rest (band : s.bandOn z.val = true) (apart : z ≠ origin) (rest : (s.zoneClk z.val).stretch = none)
    (new : (s.zoneClk z.val).seen.any (fun c => c.origin == origin.val && c.seq == seq) = false) :
    s.copyStretch z.val origin.val seq len elapsed = ((s.updZoneClk z.val fun k => { k with
      stretch := some ⟨none, [⟨origin.val, seq, 0, len⟩]⟩
      seen := ⟨origin.val, seq, 0, len⟩ :: (s.zoneClk z.val).seen.filter (fun x => x.origin != origin.val) }).bump (ck 0x3030 2) 1).send
        (.notice z.val origin.val seq len) := by
  have acts : (! s.bandOn z.val || z.val == origin.val || (s.zoneClk z.val).seen.any (fun c => c.origin == origin.val && c.seq == seq)) = false := by
    simp [band, new, Fin.val_ne_of_ne apart]
  rw [State.copyStretch, if_neg (ne_true_of_eq_false acts), rest]
  rfl

theorem copyStretch_seen (seen : (s.zoneClk z.val).seen.any (fun c => c.origin == origin.val && c.seq == seq) = true) :
    s.copyStretch z.val origin.val seq len elapsed = s :=
  if_pos ((congrArg _ seen).trans (Bool.or_true _))

/-- A longer length of the one copy in progress is its length from then on. -/
theorem extendStretch_longer {c : StretchCopy} {own : Option (Nat × Nat)} (band : s.bandOn z.val = true)
    (stretch : (s.zoneClk z.val).stretch = some ⟨own, [c]⟩) (ofOrigin : c.origin = origin.val) (ofSeq : c.seq = seq) (longer : c.len < len) :
    s.extendStretch z.val origin.val seq len = (s.updZoneClk z.val fun k => { k with stretch := some ⟨own, [{ c with len := len }]⟩ }).send
      (.notice z.val origin.val seq len) := by
  simp [State.extendStretch, stretch, band, ofOrigin, ofSeq, longer]

end

/-- Settles O27: the commands of the reference and of crossings by their branches, and each of a stretch by the lemma that says what it leaves. -/
theorem referenceAndStretches : Obligations.ReferenceAndStretches := by
  unfold Obligations.ReferenceAndStretches
  refine ⟨⟨fun s board => ?loss, fun s fallback => ?returns, fun s t port x y hI grid router apart sound => ?slip, fun s t port off => ?offGrid⟩,
    fun s z elapsed band rest => ?starts, fun s z elapsed st a n band stretch own short later => ?lengthens, fun s z => ?recharged,
    fun s z st stretch long => ?ends, fun s z a stretch => ?restarts, fun s z origin seq len elapsed band apart rest new => ?copies,
    fun s z origin seq len elapsed seen => ?once, fun s z origin seq len c own band stretch ofOrigin ofSeq longer => ?lengthensCopy⟩
  case loss => exact ⟨_, next_of_eq (exec_refLoss s) (if_pos board), rfl, rfl, counted_bump _ _ one_pos⟩
  case returns => exact ⟨_, next_of_eq (exec_refReturn s) (if_pos fallback), rfl, rfl⟩
  case slip =>
    obtain ⟨v, slipped, only, crossings, ctr⟩ := slip_crossing router apart sound
    have tiles : v.tiles = s.tiles := (congrArg State.tiles only :)
    have before : ∀ T, v.tile T = s.tile T := fun T => congrArg (fun m => SMap.get Tile.reset m T) tiles
    have tile : (v.updTile t.val (Tile.slipDetected port)).tile t.val = (s.tile t.val).slipDetected port := by
      rw [tile_updTile_same _ _ (tiles ▸ hI.2), before]
    refine ⟨_, next_of_eq ((exec_crossingSlip t port s).trans (if_pos grid)) slipped, ?_⟩
    rw [tile]
    refine ⟨(congrArg (fun w : State => { w with tiles := s.tiles }) only :), crossings, ?_, counted_of_bump ctr one_pos,
      fun T other => (tile_updTile_ne _ _ other).trans (before T), Tile.slipDetected_sp .., Tile.slipDetected_detected _⟩
    exact List.contains_iff_mem.mpr (crossings ▸ List.mem_append_right _ (List.mem_singleton_self _))
  case offGrid => exact (exec_crossingSlip t port s).trans (if_neg (ne_true_of_eq_false off))
  case starts =>
    refine ⟨_, next_of_eq (exec_droopAssert z elapsed s) (droop_starts band rest), ownStretch_only, ?_, ?_, fun y other => zoneClk_ownStretch_ne other,
      counter_ownStretch, ownStretch_out⟩
    · exact congrArg ZoneClk.stretch zoneClk_ownStretch
    · exact congrArg ZoneClk.recharging zoneClk_ownStretch
  case lengthens =>
    refine ⟨_, next_of_eq (exec_droopAssert z elapsed s) (droop_lengthens band stretch own short later), rfl, ?_, rfl⟩
    rw [zoneClk_send, zoneClk_updZoneClk]
  case recharged => exact ⟨_, exec_shuntRecharged z s, rfl, zoneClk_updZoneClk .., fun y other => zoneClk_updZoneClk_ne _ _ other⟩
  case ends =>
    refine ⟨_, next_of_eq (exec_stretchEnd z s) (stretchEnds_eq stretch), rfl, ?_, counted_of_bump rfl long⟩
    rw [zoneClk_bump, zoneClk_updZoneClk]
  case restarts =>
    refine ⟨_, next_of_eq (exec_stretchRestart z s) (restart_alone stretch), ?_, congrArg ZoneClk.stretch zoneClk_ownStretch, ?_⟩
    · simp [State.ownStretch]
    · rw [counter_ownStretch_ne (by decide) (by decide), counter_bump_same one_pos, counter_bump_ne (by decide)]
  case copies =>
    refine ⟨_, next_of_eq (exec_stretchNotice z origin seq len elapsed s) (copyStretch_rest band apart rest new), by simp, ?_,
      counted_of_bump rfl one_pos, rfl⟩
    rw [zoneClk_send, zoneClk_bump, zoneClk_updZoneClk]
  case once => exact next_of_eq (exec_stretchNotice z origin seq len elapsed s) (copyStretch_seen seen)
  case lengthensCopy =>
    refine ⟨_, next_of_eq (exec_stretchExtension z origin seq len s) (extendStretch_longer band stretch ofOrigin ofSeq longer), rfl, ?_, rfl⟩
    rw [zoneClk_send, zoneClk_updZoneClk]

end Sys2Proof.Machine
end

section
namespace Sys2Proof.Machine

/-! # The count of the tally (R305 to R311) -/

/-! ## What comes due on a count (R311) -/

theorem addDue_keeps {l : List Due} {x : Due} (b : Bool) (d : Due) (held : l.contains x = true) : (addDue b d l).contains x = true := by
  unfold addDue
  split
  · exact List.contains_iff_mem.mpr (List.mem_append_left _ (List.contains_iff_mem.mp held))
  · exact held

theorem addDue_adds {b : Bool} (d : Due) (l : List Due) (due : b = true) : (addDue b d l).contains d = true := by
  unfold addDue
  split
  · exact List.contains_iff_mem.mpr (List.mem_append_right _ (List.mem_singleton_self d))
  · next held => simpa [due] using held

/-- A multiple of `m` lies on the way of the tally to `n`. -/
def State.passes (s : State) (n m : Nat) : Bool := decide (0 < m) && decide (s.tally.now / m < n / m)

theorem passes_of_lt {s : State} {n m : Nat} (period : m ≠ 0) (later : s.tally.now / m < n / m) : s.passes n m = true := by
  simp [State.passes, later, Nat.pos_of_ne_zero period]

/-- The events that are due once the tally has come to `n`. -/
def State.dueTo (s : State) (n : Nat) : List Due :=
  let due := addDue (s.clk.pending != 0 && decide (s.clk.pendingTally ≤ n)) .freqSwitch s.tally.due
  let due := addDue (match s.clk.lowerAt with | some t => decide (t ≤ n) | none => false) .vlogLower due
  let due := addDue (s.passes n s.check.period) .wcmp due
  let due := addDue (s.passes n 1024) .energy due
  let due := addDue (s.passes n s.pwr.token.period) .token due
  addDue (s.passes n (2 ^ 30)) .lifeCommit due

/-- The tally stands at `n`, with the life record and the links that its way has left. -/
def State.atCount (s : State) (n : Nat) (life : Life) (link : LinkSys) : State :=
  { s with tally := { s.tally with now := n % 2 ^ 64, due := s.dueTo n }, life := life, link := link }

theorem tallyTo_eq (s : State) (n : Nat) : ∃ life link, s.tallyTo n = s.atCount n life link := by
  unfold State.tallyTo
  extract_lets o past d0 d1 d2 d3 d4 d5 d6 s1
  split
  · exact ⟨_, _, rfl⟩
  · exact ⟨_, _, rfl⟩

/-- A state whose tally stands at `n` with its events due has counted to `n`. -/
theorem counts_of {s u : State} {n : Nat} (now : u.tally.now = n % 2 ^ 64) (due : u.tally.due = s.dueTo n) : counts s u n := by
  unfold counts
  rw [due]
  refine ⟨now, fun d held => ?held, fun pending reached => ?switch, fun period passed => ?compare, fun passed => ?energy, fun passed => ?commit⟩
  case held => exact addDue_keeps _ _ (addDue_keeps _ _ (addDue_keeps _ _ (addDue_keeps _ _ (addDue_keeps _ _ (addDue_keeps _ _ held)))))
  case switch =>
    refine addDue_keeps _ _ (addDue_keeps _ _ (addDue_keeps _ _ (addDue_keeps _ _ (addDue_keeps _ _ (addDue_adds _ _ ?_)))))
    simp [pending, reached]
  case compare => exact addDue_keeps _ _ (addDue_keeps _ _ (addDue_keeps _ _ (addDue_adds _ _ (passes_of_lt period passed))))
  case energy => exact addDue_keeps _ _ (addDue_keeps _ _ (addDue_adds _ _ (passes_of_lt (by decide) passed)))
  case commit => exact addDue_adds _ _ (passes_of_lt (by decide) passed)

/-! ## Edges of the source (R308, R310) -/

section
variable {s : State}

/-- Outside a slew an edge of the source is one count. -/
theorem sourceEdge_steady (steady : s.tally.state ≠ tsSlewing) : ∃ life link, s.sourceEdge = s.atCount (s.tally.now + 1) life link := by
  obtain ⟨life, link, counted⟩ := tallyTo_eq s (s.tally.now + 1)
  have goes : ¬ (s.tally.state = tsSlewing ∧ s.tally.slewPhase = 1023) := fun h => steady h.1
  have phase : (if s.tally.state = tsSlewing then s.tally.slewPhase + 1 else s.tally.slewPhase) = s.tally.slewPhase := if_neg steady
  refine ⟨life, link, (if_neg goes).trans ?_⟩
  rw [counted]
  exact congrArg (fun p => (s.atCount (s.tally.now + 1) life link).updTally fun t => { t with slewPhase := p }) phase

/-- The tally after a correction that leaves `left` counts of the slew. -/
def TallySt.corrected (t : TallySt) (left : Int) : TallySt :=
  { t with slewLeft := left, slewPhase := 0, state := if left = 0 then tsLocked else tsSlewing }

/-- The 1,024th count of a slew ahead takes two. -/
theorem sourceEdge_skips (slewing : s.tally.state = tsSlewing) (phase : s.tally.slewPhase = 1023) (ahead : 0 < s.tally.slewLeft) :
    ∃ life link, s.sourceEdge = (s.atCount (s.tally.now + 2) life link).updTally fun t => t.corrected (s.tally.slewLeft - 1) := by
  obtain ⟨life, link, counted⟩ := tallyTo_eq s (s.tally.now + 2)
  refine ⟨life, link, (if_pos ⟨slewing, phase⟩).trans ?_⟩
  rw [if_pos ahead, if_pos ahead, counted]
  rfl

/-- The 1,024th count of a slew back is held. -/
theorem sourceEdge_holds (slewing : s.tally.state = tsSlewing) (phase : s.tally.slewPhase = 1023) (back : s.tally.slewLeft < 0) :
    s.sourceEdge = s.updTally fun t => t.corrected (s.tally.slewLeft + 1) := by
  have notAhead : ¬ 0 < s.tally.slewLeft := by omega
  refine (if_pos ⟨slewing, phase⟩).trans ?_
  rw [if_neg notAhead, if_neg notAhead]
  rfl

/-- An edge of a line that is in use counts as a source edge. -/
theorem lineEdge_inUse (selected : s.tally.selected ≠ 2) (locked : s.tally.state = tsLocked) (line : s.tally.inUse = 1) :
    s.lineEdge = s.sourceEdge.updTally fun t => { t with edges := t.edges + 1 } := by
  simp [State.lineEdge, selected, locked, line, tsLocked, tsAbsent, tsHoldover]

/-- A source in use on whose edges the tally counts is lost. -/
theorem sourceLost_counting (absent : s.tally.state ≠ tsAbsent) (holdover : s.tally.state ≠ tsHoldover) (used : s.tally.inUse ≠ 0) :
    s.sourceLost = s.updTally fun t => { t with
      state := tsHoldover, inUse := 0, edges := 0, losses := t.losses + 1, linkLive := t.linkLive && t.inUse != 2 } :=
  if_neg (by simp [absent, holdover, used])

/-! ## Marks (R306, R308) -/

variable {e use : Nat}

/-- The first mark with a written epoch, with no job in progress, steps the tally to the count expected and locks it. -/
theorem takeMark_first (first : s.tally.marked = false) (epoch : s.tally.epochNext = some e) (free : s.anyRunning = false) :
    s.takeMark none use = ((s.updTally fun t => { t with epochNext := none, marked := true }).tallyTo (e * 65536)).updTally fun t => { t with
      state := tsLocked, inUse := use, offset := 0, slewLeft := 0 } := by
  have once (f g : TallySt → TallySt) : (s.updTally f).updTally g = s.updTally fun t => g (f t) := rfl
  simp [State.takeMark, first, epoch, once, free]

/-- A later mark with a written epoch gives the offset to the count expected. -/
theorem takeMark_again (again : s.tally.marked = true) (epoch : s.tally.epochNext = some e) :
    s.takeMark none use = (s.updTally fun t => { t with epochNext := none }).takeOffset (e * 65536) use := by
  simp [State.takeMark, again, epoch]

theorem execTallyMark_line (line : s.tally.selected = 1) : execTallyMark s = .next (s.takeMark none 1) := by
  simp [execTallyMark, line]

end

/-- Settles O29: an edge and a count on the reference are `tallyTo` the next count, by `counts_of`; the rest are the branches of a lost source, of a
slew and of a mark. -/
theorem tallyCount : Obligations.TallyCount := by
  unfold Obligations.TallyCount
  refine ⟨fun s highNs long selected locked line => ?edge, fun s highNs short => ?short, fun s => ?glitch, fun s line absent holdover => ?lost,
    fun s slewing phase ahead => ?skips, fun s slewing phase back => ?holds, fun s powered holdover => ?reference,
    fun s e line first epoch free => ?first, fun s e line again epoch => ?again⟩
  case edge =>
    have steady : s.tally.state ≠ tsSlewing := by
      rw [locked]
      decide
    obtain ⟨life, link, counted⟩ := sourceEdge_steady steady
    refine ⟨_, next_of_eq (exec_tallyPulse highNs s) ((if_neg (Nat.not_lt.mpr long)).trans (lineEdge_inUse selected locked line)), ?_⟩
    rw [counted]
    exact ⟨rfl, counts_of rfl rfl, locked, rfl⟩
  case short => exact ⟨_, next_of_eq (exec_tallyPulse highNs s) (if_pos short), rfl, rfl⟩
  case glitch => exact ⟨_, exec_tallyGlitch s, rfl, rfl⟩
  case lost =>
    have used : s.tally.inUse ≠ 0 := by omega
    exact ⟨_, next_of_eq (exec_tallyLoss s) ((if_pos line).trans (sourceLost_counting absent holdover used)), rfl, rfl, rfl, rfl, rfl⟩
  case skips =>
    obtain ⟨life, link, counted⟩ := sourceEdge_skips slewing phase ahead
    refine ⟨_, next_of_eq (exec_tallySlewStep s) (if_pos ⟨slewing, phase⟩), ?_⟩
    rw [counted]
    exact ⟨rfl, counts_of rfl rfl, rfl, rfl⟩
  case holds =>
    refine ⟨_, next_of_eq (exec_tallySlewStep s) (if_pos ⟨slewing, phase⟩), ?_⟩
    rw [sourceEdge_holds slewing phase back]
    exact ⟨rfl, rfl, rfl, rfl⟩
  case reference =>
    obtain ⟨life, link, counted⟩ := tallyTo_eq s (s.tally.now + 1)
    have advances : execTallyReferenceCount s
        = .next ((s.tallyTo (s.tally.now + 1)).updTally fun t => { t with holdoverTk := t.holdoverTk + 1 }) := by
      simp [execTallyReferenceCount, powered, holdover, tsHoldover, tsAbsent]
    refine ⟨_, (exec_tallyReferenceCount s).trans advances, ?_⟩
    rw [counted]
    exact ⟨rfl, counts_of rfl rfl, rfl⟩
  case first =>
    refine ⟨_, (exec_tallyMark s).trans (execTallyMark_line line), ?_⟩
    rw [takeMark_first first epoch free]
    obtain ⟨life, link, counted⟩ := tallyTo_eq (s.updTally fun t => { t with epochNext := none, marked := true }) (e * 65536)
    rw [counted]
    exact ⟨rfl, rfl, rfl, rfl, rfl, rfl, rfl⟩
  case again =>
    refine ⟨_, (exec_tallyMark s).trans (execTallyMark_line line), ?_⟩
    rw [takeMark_again again epoch]
    exact ⟨rfl, rfl, rfl, rfl⟩

end Sys2Proof.Machine
end

section
namespace Sys2Proof.Machine

/-! # The common frequency and its switches (R298 to R301) -/

/-! ## The target -/

/-- The evaluation of the target touches neither the limits nor the frequency in force. -/
theorem retarget_eq (s : State) : ∃ upWait fallAt fenceSeen vlogMv, s.retarget = { s with
    clk := { s.clk with
      target := s.freqTarget.1, limiter := s.freqTarget.2, upWait := upWait, fallAt := fallAt, fenceSeen := fenceSeen }
    pwr := { s.pwr with vlogMv := vlogMv } } := by
  unfold State.retarget
  extract_lets t c drop fell s1
  split
  · exact ⟨_, _, _, _, rfl⟩
  · exact ⟨_, _, _, s.pwr.vlogMv, rfl⟩

theorem noteFeatures_eq (s u : State) : ∃ boot, s.noteFeatures u = { u with boot := boot } := by
  unfold State.noteFeatures
  split
  · exact ⟨_, rfl⟩
  · exact ⟨u.boot, rfl⟩

/-- `u` holds the target that its limits give, and otherwise the clocks, tiles, jobs and messages of `v`. -/
structure Retargeted (v u : State) : Prop where
  target : u.clk.target = u.freqTarget.1
  limiter : u.clk.limiter = u.freqTarget.2
  freq : u.clk.freq = v.clk.freq
  zones : u.clk.zones = v.clk.zones
  tiles : u.tiles = v.tiles
  jobs : u.jobs = v.jobs
  out : u.out = v.out

/-- The limits of R298 are read from the fuses, the request, the zones' clocks, the stacks and the power system, which an evaluation of the target
leaves as they are. -/
theorem retarget_retargeted (s v : State) : Retargeted v (s.noteFeatures v.retarget) := by
  obtain ⟨_, _, _, _, evaluated⟩ := retarget_eq v
  obtain ⟨_, noted⟩ := noteFeatures_eq s v.retarget
  rw [noted, evaluated]
  exact ⟨rfl, rfl, rfl, rfl, rfl, rfl, rfl⟩

theorem execFreqTargetChange_margin {s : State} {z : ZoneIx} {mhz : Nat} (margin : 1200 ≤ mhz) :
    execFreqTargetChange z mhz s = .next (s.noteFeatures (s.updZoneClk z.val fun k => { k with margin := mhz }).retarget) := by
  simp only [execFreqTargetChange, if_neg (Nat.not_lt.mpr margin)]

/-! ## Announcements (R299, R301) -/

section
variable {s : State}

/-- With no switch pending an announcement is the pending switch. -/
theorem announce_idle (idle : s.clk.pending = 0) (f t : Nat) :
    s.announce f t = s.updClk fun c => { c with pending := f, pendingTally := t, next := none } := if_pos (.inl idle)

/-- A fall that has seen its plan fence is announced for the count 2 tk from now, by at most 400 MHz. -/
theorem announceDown_fenced {a : Nat} (fell : s.clk.fallAt = some a) (below : s.clk.target < s.clk.freq) (idle : s.clk.pending = 0)
    (fence : s.clk.fenceSeen = true) : s.announceDown = s.updClk fun c => { c with
      pending := max s.clk.target (s.clk.freq - 400), pendingTally := s.tally.now + 2, next := none } := by
  unfold State.announceDown
  simp only [fell, if_neg (Nat.not_le.mpr below), fence, Bool.true_or, if_true]
  exact announce_idle idle _ _

end

/-! ## Switches (R300, R311) -/

section
variable {s : State}

/-- The event `d` that was due has been taken. -/
def State.taken (s : State) (d : Due) : State := s.updTally fun t => { t with due := t.due.filter fun x => x != d }

theorem takeDue_due {d : Due} (due : s.tally.due.contains d = true) : s.takeDue d = (s.taken d, true) := if_pos due

theorem taken_notDue (s : State) (d : Due) : (s.taken d).tally.due.contains d = false := by simp [State.taken]

/-- The clock system in which the pending switch has applied, with none announced behind it. -/
def ClkSt.switched (c : ClkSt) (now : Nat) : ClkSt :=
  let up := decide (c.freq < c.pending)
  { c with
    freq := c.pending, pending := 0, pendingTally := 0, next := none, guard := up || c.guard
    lowerAt := if up then c.lowerAt else some (now + 2)
    fallAt := if c.pending ≤ c.target then none else c.fallAt
    fenceSeen := true }

/-- The state in which the pending switch has applied: its counter, the guard window of a step up, and its event. -/
def State.switched (s : State) : State :=
  (((s.updClk fun c => c.switched s.tally.now).bump (ck 0x3000 8) 1).bump (ck 0x3030 5) (if decide (s.clk.freq < s.clk.pending) then 1 else 0)).raise
    0x05 0 (leOfNat 2 s.clk.pending ++ leOfNat 2 s.clk.limiter)

theorem switched_only (s : State) : { s.switched with clk := s.clk, ctr := s.ctr, events := s.events } = s := by simp [State.switched]

theorem counter_switched (s : State) : s.switched.counter (ck 0x3000 8) = satAdd (s.counter (ck 0x3000 8)) 1 := by
  unfold State.switched
  rw [counter_raise, counter_bump_ne (by decide), counter_bump_same one_pos, counter_updClk]

/-- With none announced behind it and no stack that waits for the lower frequency, a switch applies as it is pending. -/
theorem applySwitch_alone (last : s.clk.next = none) (settled : ∀ m : Fin 16, (s.stackSt m.val).shortenDue = false) : s.applySwitch = s.switched := by
  unfold State.applySwitch
  extract_lets c up s1 s2 s3
  have clk : s1 = s.updClk fun c => c.switched s.tally.now := by
    unfold s1 State.updClk
    dsimp only
    rw [last]
    rfl
  have same : s3 = s2 := List.foldl_fixed' (fun m => if_neg (by
    rw [show (s2.stackSt m.val).shortenDue = false from settled m, Bool.false_and]
    exact Bool.false_ne_true)) _
  rw [same]
  unfold s2
  rw [clk]
  rfl

theorem execFreqSwitchApply_alone (due : s.tally.due.contains .freqSwitch = true) (pending : s.clk.pending ≠ 0) (last : s.clk.next = none)
    (settled : ∀ m : Fin 16, (s.stackSt m.val).shortenDue = false) : execFreqSwitchApply s = .next (s.taken .freqSwitch).switched := by
  have pends : (s.taken .freqSwitch).clk.pending ≠ 0 := pending
  have alone : (s.taken .freqSwitch).applySwitch = (s.taken .freqSwitch).switched := applySwitch_alone last settled
  simp [execFreqSwitchApply, takeDue_due due, pends, alone]

end

/-! ## Management writes of the clock and tally objects (R304, R312 to R314) -/

section
variable {s v v' : State} {car : Carrier} {cls : Nat}

/-- A write that is served early too is served alike in normal service. -/
theorem Served.early (served : Served s car cls) (how : Serve) (w : Writer) : mgmtWriteIn how car cls w s = mgmtWrite car cls w s := by
  obtain ⟨service, policy⟩ := served
  have usable : s.usable = true := by simp [State.usable, service.powered, service.stage]
  have normal : s.recovery = false := by simp [State.recovery, service.normal]
  simp [mgmtWrite, mgmtWriteIn, State.guarded, usable, normal, service.mgmt, policy]

/-- A write that is let through is answered the status of its writer, once that is counted. -/
theorem Served.answered {c : Instr} {w : Writer} {st : Nat} (served : Served s car cls) (cmd : exec c s = mgmtWrite car cls w s)
    (writes : w s = (v, st)) (counted : v.countRefusal st = v') : exec c s = .next (v'.answer car st []) := by
  rw [cmd, served.eq w, writes, counted]

/-- A write that is refused leaves the state but for the one counter of its refusal. -/
theorem Served.refusal_counted {c : Instr} {w : Writer} {st k : Nat} (served : Served s car cls) (cmd : exec c s = mgmtWrite car cls w s)
    (writes : w s = (v, st)) (refusal : v.countRefusal st = s.bump k 1) :
    ∃ u, exec c s = .next u ∧ { u with ctr := s.ctr, out := s.out } = s ∧ counted s u k 1 ∧ answers s u car st :=
  ⟨_, served.answered cmd writes refusal, by simp, counted_of_bump (by simp) one_pos, rfl⟩

/-- The statuses of the clock chapter have no counter among the protocol's (R314, R432). -/
theorem countRefusal_clock {st : Nat} (chapter : st / 256 = 3) : s.countRefusal st = s := by
  unfold State.countRefusal
  repeat rw [if_neg (by omega)]

theorem countRefusal_jobs (s : State) : s.countRefusal 0x0106 = s.bump (ck 0x1041 6) 1 := by simp [State.countRefusal, refusalSubs]

theorem rwj_between {w : Writer} (free : s.betweenJobs = true) : rwj w s = w s := if_pos free

theorem rwj_during {w : Writer} (jobs : s.betweenJobs = false) : rwj w s = (s, 0x0106) := if_neg (ne_true_of_eq_false jobs)

theorem writeEpoch_fits {n : Nat} (fits : n < 2 ^ 48) : State.writeEpoch n s = (s.updTally fun t => { t with epochNext := some n }, 0) :=
  if_neg (Nat.not_le.mpr fits)

theorem writeEpoch_outside {n : Nat} (outside : 2 ^ 48 ≤ n) : State.writeEpoch n s = (s.bump (ck 0x3030 7) 1, 0x0301) := if_pos outside

/-- Between jobs no slot is LOADING, RUNNING or STOPPING. -/
theorem noJobs_of_between (free : s.betweenJobs = true) : allSlots.any (fun j => (s.job j).state == jsLoading || (s.job j).running) = false := by
  refine List.any_eq_false.mpr fun j slot => ?_
  have idle := List.all_eq_true.mp free j slot
  simp only [Bool.or_eq_true, beq_iff_eq] at idle
  rcases idle with empty | ended
  · simp [Job.running, empty, jsEmpty, jsLoading, jsRunning, jsStopping]
  · simp [Job.running, ended, jsEnded, jsLoading, jsRunning, jsStopping]

/-- A resynchronisation in DISAGREE steps the tally by the offset measured and locks it. -/
theorem writeResync_steps (free : s.betweenJobs = true) (disagree : s.tally.state = tsDisagree) :
    State.writeResync s
      = ((s.tallyTo ((s.tally.now : Int) + s.tally.offset).toNat).updTally fun t => { t with state := tsLocked, slewLeft := 0 }, 0) := by
  refine (if_neg (ne_true_of_eq_false (noJobs_of_between free))).trans ?_
  simp [disagree, tsDisagree, tsLocked, tsSlewing]

theorem writeResync_running (running : s.anyRunning = true) : State.writeResync s = (s.bump (ck 0x3030 7) 1, 0x0303) := by
  obtain ⟨j, slot, run⟩ := List.any_eq_true.mp running
  exact if_pos (List.any_eq_true.mpr ⟨j, slot, (congrArg _ run).trans (Bool.or_true _)⟩)

end

/-- Settles O28: the target is what `retarget` names, each step of a switch a branch of its command, and the writes go by `Served.answered`. -/
theorem frequencyAndClockObjects : Obligations.FrequencyAndClockObjects := by
  unfold Obligations.FrequencyAndClockObjects
  refine ⟨⟨fun s z mhz margin => ?target, fun s a mgmt fell below idle fence => ?down, fun s below idle free => ?up, fun s f mgmt waits idle => ?reached,
      fun s f waits => ?timeout, fun s due pending last settled => ?applies, fun s => ?guard, fun s due => ?lower⟩,
    fun s car v served free flag => ?shimmer, fun s car v served free range => ?offset, fun s car v served jobs => ?offsetJobs,
    fun s car v served fits => ?epoch, fun s car v served outside => ?epochOutside, fun s car served free disagree forward => ?resync,
    fun s car served running => ?resyncJobs, fun s car v served => ?origin⟩
  case target =>
    have done := retarget_retargeted s (s.updZoneClk z.val fun k => { k with margin := mhz })
    refine ⟨_, (exec_freqTargetChange z mhz s).trans (execFreqTargetChange_margin margin), ?_, done.freq, ⟨done.target, done.limiter⟩, done.tiles,
      done.jobs, done.out⟩
    exact congrArg ZoneClk.margin ((congrArg (fun zs : Vector ZoneClk 48 => zs[zoneIx z.val]) done.zones).trans (zoneClk_updZoneClk s z _))
  case down => exact ⟨_, next_of_eq (exec_freqSwitchAnnounce s) ((if_pos mgmt).trans (announceDown_fenced fell below idle fence)), rfl, rfl, rfl, rfl⟩
  case up =>
    have steps : ¬ (s.clk.target ≤ s.clk.freq ∨ s.clk.pending ≠ 0 ∨ s.clk.upWait.isSome = true) := by simp [below, idle, free]
    exact ⟨_, (exec_stepUpDelayExpiry s).trans (if_neg steps), rfl, rfl, rfl⟩
  case reached =>
    have announces : execVlogTargetReached s = .next ((s.updClk fun c => { c with upWait := none }).announce f (s.tally.now + 2)) := by
      simp [execVlogTargetReached, waits, mgmt]
    refine ⟨_, (exec_vlogTargetReached s).trans announces, ?_⟩
    rw [announce_idle (by exact idle)]
    exact ⟨rfl, rfl, rfl, rfl⟩
  case timeout =>
    have gives : execStepUpVoltageTimeout s
        = .next { s.updClk (fun c => { c with upWait := none }) with pwr := { s.pwr with vlogMv := s.vfMv s.clk.freq } } := by
      rw [execStepUpVoltageTimeout, waits]
    exact ⟨_, (exec_stepUpVoltageTimeout s).trans gives, rfl, rfl, rfl⟩
  case applies =>
    have noted := switched_only (s.taken .freqSwitch)
    refine ⟨_, (exec_freqSwitchApply s).trans (execFreqSwitchApply_alone due pending last settled),
      (congrArg (fun u : State => { u with tally := s.tally }) noted :), rfl, rfl, fun up => ?_, fun notUp => ?_, counter_switched _, rfl⟩
    · exact (congrArg (· || s.clk.guard) (decide_eq_true up)).trans (Bool.true_or _)
    · exact if_neg (ne_true_of_eq_false (decide_eq_false (Nat.not_lt.mpr notUp)))
  case guard => exact ⟨_, exec_guardWindowClose s, rfl, rfl⟩
  case lower =>
    have lowers : execVlogLower s = .next { (s.taken .vlogLower).updClk (fun c => { c with lowerAt := none }) with
        pwr := { s.pwr with vlogMv := s.vfMv (max s.clk.freq (s.clk.upWait.getD 0)) } } := by
      rw [execVlogLower, takeDue_due due]
      rfl
    exact ⟨_, (exec_vlogLower s).trans lowers, rfl, rfl, taken_notDue s _, rfl⟩
  case shimmer =>
    have writes : State.writeShimmer v.toNat s = (s.updClk fun c => { c with shimmerOn := v.toNat == 1 }, 0) :=
      (rwj_between free).trans (if_neg (by omega))
    exact ⟨_, served.answered (exec_shimmerEnable car v s) writes (countRefusal_zero _), rfl, rfl, rfl⟩
  case offset =>
    have writes : State.writeShimmerOffset v.toNat s = (s.updClk fun c => { c with shimmerOffset := v.toNat }, 0) :=
      (rwj_between free).trans (if_neg (by omega))
    exact ⟨_, served.answered (exec_shimmerOffset car v s) writes (countRefusal_zero _), rfl, rfl, rfl⟩
  case offsetJobs =>
    obtain ⟨u, answered, only, -, status⟩ := served.refusal_counted (exec_shimmerOffset car v s) (rwj_during jobs) (countRefusal_jobs s)
    exact ⟨u, answered, only, status⟩
  case epoch =>
    exact ⟨_, served.answered ((exec_tallyEpochNext car v s).trans (served.early _ _)) (writeEpoch_fits fits) (countRefusal_zero _), rfl, rfl, rfl⟩
  case epochOutside =>
    exact served.refusal_counted ((exec_tallyEpochNext car v s).trans (served.early _ _)) (writeEpoch_outside outside) (countRefusal_clock (by decide))
  case resync =>
    obtain ⟨life, link, counted⟩ := tallyTo_eq s ((s.tally.now : Int) + s.tally.offset).toNat
    refine ⟨_, served.answered (exec_tallyResync car s) (writeResync_steps free disagree) (countRefusal_zero _), ?_⟩
    rw [counted]
    exact ⟨(Int.natCast_mod _ _).trans (congrArg (· % _) (Int.toNat_of_nonneg forward)), rfl, rfl, rfl, rfl, rfl⟩
  case resyncJobs => exact served.refusal_counted (exec_tallyResync car s) (writeResync_running running) (countRefusal_clock (by decide))
  case origin =>
    exact ⟨_, served.answered ((exec_tallyOrigin car v s).trans (served.early _ _)) rfl (countRefusal_zero _), rfl, rfl, rfl⟩

end Sys2Proof.Machine
end

section
namespace Sys2Proof.Machine

/-! # A step and the fuses -/

/-- Settles O1: both cases of the queue are the two branches of `step`. -/
theorem stepTakesTheFrontCommand : Obligations.StepTakesTheFrontCommand := by
  unfold Obligations.StepTakesTheFrontCommand
  refine ⟨fun c cs s queue => ?front, fun s empty => ?idle⟩
  case front => simp only [step, queue]
  case idle => simp only [step, empty]

/-- Settles O60: a step keeps legal fuses by `step_keeps`, and a command keeps the queue by `exec_keeps`. -/
theorem fusesOnlyGrow : Obligations.FusesOnlyGrow := by
  unfold Obligations.FusesOnlyGrow
  exact ⟨fun s u legal hs => (step_keeps hs).fuses legal, fun c s u hs => (exec_keeps c (Keeps.refl s) u hs).queue⟩

end Sys2Proof.Machine
end

section
namespace Sys2Proof.Machine

/-! # Restarts and the loss of power (R338, R345, R368, R478) -/

section
variable {s u : State}

/-- The slots that are emptied before a warm restart leave everything but the jobs and the events (R368). -/
theorem clearEnded_eq (s : State) : ∃ jobs events, s.clearEnded = { s with jobs := jobs, events := events } := by
  refine List.foldlRecOn (motive := fun u : State => ∃ jobs events, u = { s with jobs := jobs, events := events }) allSlots _ ⟨s.jobs, s.events, rfl⟩
    fun u before j _ => ?_
  obtain ⟨jobs, events, rfl⟩ := before
  split
  · exact ⟨_, _, rfl⟩
  · exact ⟨jobs, events, rfl⟩

/-- A start that follows a shutdown begins at S2, whatever the jobs and the events were. -/
theorem restart_restarted (s : State) (jobs : Vector Job 8) (events : List Event) {kind : Nat} (warm : kind ≠ 1) :
    Restarted s (({ s with jobs := jobs, events := events } : State).restart_ kind) kind :=
  ⟨if_neg warm, rfl, rfl, rfl, rfl, rfl, rfl, rfl, rfl, rfl, rfl, rfl⟩

/-- An answer is no part of what a restart leaves. -/
theorem Restarted.answer {kind st : Nat} {car : Carrier} {data : List Byte} (h : Restarted s u kind) : Restarted s (u.answer car st data) kind :=
  ⟨h.stage, h.powered, h.kindIs, h.bytes, h.fuses, h.jobs, h.tiles, h.counters, h.number, h.defects, h.nonce, h.queue⟩

end

/-- Settles O32: a restart is `restart_` of a state that differs in jobs and events alone, and the loss of power is `powerDown`. -/
theorem restartsAndPowerLoss : Obligations.RestartsAndPowerLoss := by
  unfold Obligations.RestartsAndPowerLoss
  refine ⟨fun s car served free => ?warm, fun s car served jobs => ?refused, fun s powered tripped waits => ?cooled, fun s car served waits => ?trip,
    fun s due => ?commit, fun s => ?brownout⟩
  case warm =>
    obtain ⟨jobs, events, cleared⟩ := clearEnded_eq s
    have writes : State.writeWarmRestart s = (({ s with jobs := jobs, events := events } : State).restart_ 2, 0) :=
      (if_pos free).trans (by rw [cleared])
    exact ⟨_, served.answered (exec_warmRestart car s) writes (countRefusal_zero _), (restart_restarted s _ _ (by decide)).answer, rfl, rfl⟩
  case refused =>
    have writes : State.writeWarmRestart s = (s, 0x0A03) := if_neg (ne_true_of_eq_false jobs)
    exact ⟨_, served.answered (exec_warmRestart car s) writes (by simp [State.countRefusal]), rfl, rfl⟩
  case cooled =>
    have restarts : (s.boot.powered && s.pwr.tripped && ! s.pwr.tripWait) = true := by simp [powered, tripped, waits]
    exact ⟨_, next_of_eq (exec_tripCoolExpiry s) (if_pos restarts), restart_restarted s s.jobs s.events (by decide), rfl⟩
  case trip =>
    have writes : State.writeTripRestart s = (s.restart_ 3, 0) := congrArg (·, 0) (if_pos waits)
    exact ⟨_, served.answered (exec_tripRestart car s) writes (countRefusal_zero _), (restart_restarted s s.jobs s.events (by decide)).answer, rfl⟩
  case commit =>
    have commits : execLifeRecordCommit s = .next (s.taken .lifeCommit).commitCounts := by
      rw [execLifeRecordCommit, takeDue_due due]
      rfl
    exact ⟨_, (exec_lifeRecordCommit s).trans commits, rfl, rfl, taken_notDue s _, rfl⟩
  case brownout => exact ⟨_, exec_brownout s, ⟨rfl, rfl⟩, rfl, rfl, rfl, rfl, rfl, rfl⟩

end Sys2Proof.Machine
end

section
namespace Sys2Proof.Machine

/-! # Zone cores and their power (R316 to R331) -/

/-! ## The power side of one zone -/

section
variable {s u v : State} {z : ZoneIx}

theorem zoneIx_val (z : ZoneIx) : zoneIx z.val = z := Fin.ext (Nat.mod_eq_of_lt z.isLt)

theorem zoneState_eq (s : State) (z : ZoneIx) : s.zoneState z.val = (s.zonePwr z.val).state := by
  simp [State.zoneState, State.zonePwr, zoneIx_val]

@[simp] theorem zonePwr_updZone (s : State) (z : ZoneIx) (f : ZonePwr → ZonePwr) : (s.updZone z.val f).zonePwr z.val = f (s.zonePwr z.val) :=
  Vector.getElem_set_self _

theorem zonePwr_updZone_ne (s : State) {y z : ZoneIx} (f : ZonePwr → ZonePwr) (other : y ≠ z) : (s.updZone z.val f).zonePwr y.val = s.zonePwr y.val :=
  Vector.getElem_set_ne (zoneIx z.val).isLt (zoneIx y.val).isLt fun same => other (Fin.ext (by have : z.val % 48 = y.val % 48 := same; omega))

@[simp] theorem zoneState_updZone (s : State) (z : ZoneIx) (f : ZonePwr → ZonePwr) : (s.updZone z.val f).zoneState z.val = (f (s.zonePwr z.val)).state := by
  rw [zoneState_eq, zonePwr_updZone]

theorem zonePwr_of_zones (same : u.pwr.zones = s.pwr.zones) (y : Nat) : u.zonePwr y = s.zonePwr y :=
  congrArg (fun zs : Vector ZonePwr 48 => zs[zoneIx y]) same

/-- A state whose zones are those of an update of one zone has that zone updated. -/
theorem zonePwr_of_updZone {f : ZonePwr → ZonePwr} (same : u.pwr.zones = (s.updZone z.val f).pwr.zones) : u.zonePwr z.val = f (s.zonePwr z.val) :=
  (zonePwr_of_zones same z.val).trans (zonePwr_updZone s z f)

theorem zoneState_of_updZone {f : ZonePwr → ZonePwr} (same : u.pwr.zones = (s.updZone z.val f).pwr.zones) :
    u.zoneState z.val = (f (s.zonePwr z.val)).state := by
  rw [zoneState_eq, zonePwr_of_updZone same]

theorem onlyZone_of_updZone {f : ZonePwr → ZonePwr} (same : u.pwr.zones = (s.updZone z.val f).pwr.zones) : onlyZone s u z :=
  fun y other => (zonePwr_of_zones same y.val).trans (zonePwr_updZone_ne s f other)

theorem updZone_updZone (s : State) (z : ZoneIx) (f g : ZonePwr → ZonePwr) : (s.updZone z.val f).updZone z.val g = s.updZone z.val fun p => g (f p) := by
  unfold State.updZone
  dsimp only
  rw [Vector.set_set, show State.zonePwr { s with pwr := _ } z.val = f (s.zonePwr z.val) from zonePwr_updZone s z f]

theorem onlyZone.trans (h : onlyZone s u z) (h' : onlyZone u v z) : onlyZone s v z := fun y other => (h' y other).trans (h y other)

end

/-! ## The tiles of a zone -/

section
variable {s : State} {ts : List Nat} {g : State → Nat → State} {f : Nat → Tile → Tile}



/-- The tiles of a set of zones come once each, in the order of the grid. -/
theorem zoneTiles_nodup (s : State) (mask : Nat) : (s.zoneTiles mask).Nodup := List.nodup_range.filter _

/-- What a loop over tiles leaves that puts the image of each tile in its place: the images of its tiles, and every other tile as it was. -/
theorem tile_foldl (wf : SMap.wf Tile.reset s.tiles = true) (image : ∀ u : State, SMap.wf Tile.reset u.tiles = true → ∀ t,
      SMap.wf Tile.reset (g u t).tiles = true ∧ (g u t).tile t = f t (u.tile t) ∧ ∀ T, T ≠ t → (g u t).tile T = u.tile T) (once : ts.Nodup) :
    SMap.wf Tile.reset (ts.foldl g s).tiles = true ∧ (∀ t, t ∈ ts → (ts.foldl g s).tile t = f t (s.tile t))
      ∧ ∀ T, T ∉ ts → (ts.foldl g s).tile T = s.tile T := by
  induction ts generalizing s with
  | nil => exact ⟨wf, fun t h => absurd h List.not_mem_nil, fun T _ => rfl⟩
  | cons a ts ih =>
    obtain ⟨new, once⟩ := List.nodup_cons.mp once
    obtain ⟨wf, atA, beside⟩ := image s wf a
    obtain ⟨wf, inside, outside⟩ := ih wf once
    refine ⟨wf, fun t mem => ?_, fun T out => ?_⟩
    · rcases List.mem_cons.mp mem with rfl | mem
      · exact (outside t new).trans atA
      · have apart : t ≠ a := fun same => new (same ▸ mem)
        exact (inside t mem).trans (congrArg (f t) (beside t apart))
    · obtain ⟨apart, out⟩ := not_or.mp (mt List.mem_cons.mpr out)
      exact (outside T out).trans (beside T apart)

theorem tile_forTiles (wf : SMap.wf Tile.reset s.tiles = true) (once : ts.Nodup) :
    SMap.wf Tile.reset (s.forTiles ts f).tiles = true ∧ (∀ t, t ∈ ts → (s.forTiles ts f).tile t = f t (s.tile t))
      ∧ ∀ T, T ∉ ts → (s.forTiles ts f).tile T = s.tile T :=
  tile_foldl wf (fun u wf t => ⟨SMap.wf_put _ _ _ _ wf, tile_updTile_same t (f t) wf, fun _ other => tile_updTile_ne u (f t) other⟩) once

/-- The same said of the map of tiles that the loop leaves, beside which it changes nothing. -/
theorem forTiles_eq (wf : SMap.wf Tile.reset s.tiles = true) (once : ts.Nodup) : ∃ tiles, s.forTiles ts f = { s with tiles := tiles }
    ∧ (∀ t, t ∈ ts → SMap.get Tile.reset tiles t = f t (s.tile t)) ∧ ∀ T, T ∉ ts → SMap.get Tile.reset tiles T = s.tile T :=
  ⟨(s.forTiles ts f).tiles, (congrArg (fun u : State => { u with tiles := (s.forTiles ts f).tiles }) (forTiles_only s ts f) :),
    (tile_forTiles wf once).2⟩

theorem powerUp_plain (t : Tile) : PlainBumps t.powerUp := (PlainBumps.of_ _).bump_ (by decide) (by decide)

/-- The scrub of a zone's tiles changes tiles and counters alone (R159, R327). -/
theorem powerUps_eq (wf : SMap.wf Tile.reset s.tiles = true) (ts : List Nat) : ∃ (tiles : SMap Tile) (ctr tctr : SMap Nat),
    ts.foldl (fun u t => u.putTile t (u.tile t).powerUp) s = { s with tiles := tiles, ctr := ctr, tctr := tctr } := by
  induction ts generalizing s with
  | nil => exact ⟨s.tiles, s.ctr, s.tctr, rfl⟩
  | cons a ts ih =>
    obtain ⟨only, -⟩ := (putTile_only (T := a) wf (powerUp_plain (s.tile a))).1
    obtain ⟨tiles, ctr, tctr, rest⟩ := ih (s := s.putTile a (s.tile a).powerUp) (putTile_tiles s a _ (powerUp_plain _).1 ▸ SMap.wf_put _ _ _ _ wf)
    exact ⟨tiles, ctr, tctr, rest.trans (congrArg (fun v : State => { v with tiles := tiles, ctr := ctr, tctr := tctr }) only :)⟩

theorem tile_powerUps (wf : SMap.wf Tile.reset s.tiles = true) (once : ts.Nodup) :
    SMap.wf Tile.reset (ts.foldl (fun u t => u.putTile t (u.tile t).powerUp) s).tiles = true
      ∧ (∀ t, t ∈ ts → (ts.foldl (fun u t => u.putTile t (u.tile t).powerUp) s).tile t = (s.tile t).powerUp.tile)
      ∧ ∀ T, T ∉ ts → (ts.foldl (fun u t => u.putTile t (u.tile t).powerUp) s).tile T = s.tile T := by
  refine tile_foldl (f := fun _ t => t.powerUp.tile) wf (fun u wf t => ?_) once
  obtain ⟨⟨-, beside⟩, same⟩ := putTile_only (T := t) wf (powerUp_plain (u.tile t))
  exact ⟨putTile_tiles u t _ (powerUp_plain _).1 ▸ SMap.wf_put _ _ _ _ wf, same, beside⟩

/-- The reload of a tile's firmware leaves every core with its function tables (R124, R327). -/
theorem loadFw_loaded (sec : List Byte) (t : Tile) (c : CoreIx) : ((t.loadFw sec).core c).fnLoaded = true := by
  simp [Tile.loadFw, Tile.core]

end

/-! ## Switching on (R326 to R328) -/

section
variable {s : State} {z : ZoneIx}

/-- A zone whose request to be switched on waits in its group. -/
def ZonePwr.waiting (p : ZonePwr) : ZonePwr :=
  { p with state := zsWaiting, unpark := p.state == zsParked, slow := false, gateClosed := false, parkAfter := none, seqWait := 0 }

theorem requestOn_idle (idle : s.zoneState z.val = zsOff ∨ s.zoneState z.val = zsParked) :
    s.requestOn z.val = (({ s with pwr := { s.pwr with queue := s.pwr.queue ++ [z.val] } } : State).updZone z.val ZonePwr.waiting).bump
      (ck 0x4070 2) (if s.headroom (z.val / 6) < 176 then 1 else 0) :=
  if_pos (zoneState_eq s z ▸ idle)

/-- A zone whose ramp has started. -/
def ZonePwr.ramped (slow : Bool) (wait : Nat) (p : ZonePwr) : ZonePwr :=
  { p with state := if p.unpark then zsUnparking else zsRamping, slow := slow, gateClosed := false, seqWait := min wait 65535 }

theorem startRamp_zones (slow : Bool) (wait : Nat) :
    (s.startRamp z.val slow wait).pwr.zones = (s.updZone z.val (ZonePwr.ramped slow wait)).pwr.zones := rfl

/-- The zone as the end of its ramp leaves it where no park has waited (R327). -/
def ZonePwr.switchedOn (p : ZonePwr) : ZonePwr :=
  { p with state := zsOn, parkCause := 0, gateClosed := true, parkAfter := none, unpark := false, slow := false, toOff := false }

/-- The tiles of the zone as the end of its ramp leaves them: scrubbed and, where there is firmware, reloaded (R327). -/
def State.zoneReloaded (s : State) (z : ZoneIx) : State :=
  let scrubbed := (s.zoneTiles (2 ^ z.val)).foldl (fun u t => u.putTile t (u.tile t).powerUp) s
  match s.boot.image with
  | some f => scrubbed.forTiles (s.zoneTiles (2 ^ z.val)) (fun _ t => t.loadFw f.sec)
  | none => scrubbed

theorem forTiles_pwr (s : State) (ts : List Nat) (f : Nat → Tile → Tile) : (s.forTiles ts f).pwr = s.pwr := (congrArg State.pwr (forTiles_only s ts f) :)


theorem zoneReloaded_pwr (wf
 : SMap.wf Tile.reset s.tiles = true) : (s.zoneReloaded z).pwr = s.pwr := by
  obtain ⟨tiles, ctr, tctr, scrub⟩ := powerUps_eq wf (s.zoneTiles (2 ^ z.val))
  unfold State.zoneReloaded
  rw [scrub]
  split
  · exact forTiles_pwr ..
  · rfl

theorem tile_zoneReloaded (wf : SMap.wf Tile.reset s.tiles = true) :
    (∀ T, T ∉ s.zoneTiles (2 ^ z.val) → (s.zoneReloaded z).tile T = s.tile T)
      ∧ ∀ f, s.boot.image = some f → ∀ t, t ∈ s.zoneTiles (2 ^ z.val) → (s.zoneReloaded z).tile t = (s.tile t).powerUp.tile.loadFw f.sec := by
  have once := zoneTiles_nodup s (2 ^ z.val)
  obtain ⟨scrubbed, inside, outside⟩ := tile_powerUps wf once
  unfold State.zoneReloaded
  cases image : s.boot.image with
  | none => exact ⟨outside, fun f none => nomatch none⟩
  | some f =>
    obtain ⟨-, loaded, beside⟩ := tile_forTiles (f := fun _ t => t.loadFw f.sec) scrubbed once
    refine ⟨fun T out => (beside T out).trans (outside T out), fun k same t mem => ?_⟩
    cases same
    exact (loaded t mem).trans (congrArg (Tile.loadFw f.sec) (inside t mem))

/-- Power-good brings a zone on for which no park has waited. -/
theorem powerGood_alone (wf : SMap.wf Tile.reset s.tiles = true) (alone : (s.zonePwr z.val).parkAfter = none) :
    s.powerGood z.val = (s.zoneReloaded z).updZone z.val ZonePwr.switchedOn := by
  have zone : (s.zoneReloaded z).zonePwr z.val = s.zonePwr z.val := zonePwr_of_zones (congrArg PwrSt.zones (zoneReloaded_pwr wf)) z.val
  have waits := congrArg ZonePwr.parkAfter zone
  rw [alone] at waits
  unfold State.powerGood
  extract_lets ts s1 s2 p s3
  rw [show p.parkAfter = none from waits]
  exact updZone_updZone ..

/-- A zone whose power-good has not come (R328). -/
def ZonePwr.faulted (p : ZonePwr) : ZonePwr :=
  { p with state := zsFault, hold := if p.hold = 0 then hoDomain else p.hold, parkAfter := none, toOff := false }



/-- Tests that are abandoned leave all but the record of tests (R281). -/
theorem abandonTests_eq (s : State) (which : TestReq → Bool) : ∃ check, s.abandonTests which = { s with check := check } := by
  unfold State.abandonTests
  split
  · exact ⟨s.check, rfl⟩
  · exact ⟨_, rfl⟩

/-- A zone whose power-good does not come is in FAULT, and its tiles are as after reset (R328). -/
theorem domainFault_eq (wf : SMap.wf Tile.reset s.tiles = true) : ∃ tiles check,
    s.domainFault z.val = { (({ s with tiles := tiles } : State).updZone z.val ZonePwr.faulted).bump (ck 0x4070 4) 1 with check := check }
      ∧ (∀ t, t ∈ s.zoneTiles (2 ^ z.val) → SMap.get Tile.reset tiles t = Tile.reset)
      ∧ ∀ T, T ∉ s.zoneTiles (2 ^ z.val) → SMap.get Tile.reset tiles T = s.tile T := by
  obtain ⟨tiles, off, inside, outside⟩ := forTiles_eq (f := fun _ t => t.powerOff) wf (zoneTiles_nodup s (2 ^ z.val))
  obtain ⟨check, abandoned⟩ := abandonTests_eq ((({ s with tiles := tiles } : State).updZone z.val ZonePwr.faulted).bump (ck 0x4070 4) 1)
    fun q => q.unit == z.val && q.kind != 6
  refine ⟨tiles, check, ?_, inside, outside⟩
  unfold State.domainFault
  rw [off]
  exact abandoned

end

/-! ## The current ledger (R326) -/

/-- A bit that is cleared reads as 0. -/
theorem testBit_setBit_false (m i : Nat) : (setBit m i false).testBit i = false := by
  unfold setBit
  split
  · assumption
  · next set =>
    rw [if_neg (by decide), Nat.testBit_eq_decide_div_mod_eq] at *
    have quotient : (m - 2 ^ i) / 2 ^ i = m / 2 ^ i - 1 := by simpa using Nat.sub_mul_div m (2 ^ i) 1
    rw [quotient]
    simp only [decide_eq_false_iff_not] at *
    omega

/-- The estimates of a group's zones touch the zones alone. -/
theorem foldl_updZone_eq {α : Type} (s : State) (l : List α) (zone : α → Nat) (f : α → ZonePwr → ZonePwr) :
    ∃ zones, l.foldl (fun (u : State) i => u.updZone (zone i) (f i)) s = { s with pwr := { s.pwr with zones := zones } } := by
  refine List.foldlRecOn (motive := fun u : State => ∃ zones, u = { s with pwr := { s.pwr with zones := zones } }) l _ ⟨s.pwr.zones, rfl⟩
    fun u before a _ => ?_
  obtain ⟨zones, rfl⟩ := before
  exact ⟨_, rfl⟩

theorem ledger_leaves {s : State} {g : GroupIx} {m : Nat} (ws : List Nat) (within : m ≤ s.rating g.val) : onlyPwr s (s.ledger g m ws)
    ∧ (s.ledger g m ws).pwr.excess = setBit s.pwr.excess g.val false
    ∧ (s.ledger g m ws).pwr.measured = s.pwr.measured.set g ((m :: s.pwr.measured[g]).take 10) := by
  unfold State.ledger
  extract_lets w sum share zs s1
  obtain ⟨zones, estimates⟩ := foldl_updZone_eq s (upTo 6) (fun i => 6 * g.val + i) fun i p => { p with current := min (share i) 65535 }
  rw [show s1 = { s with pwr := { s.pwr with zones := zones } } from estimates]
  exact ⟨rfl, if_pos within, rfl⟩

/-- Settles O35: a request is `requestOn_off`, a ramp `startRamp`, power-good the update of `powerGood_alone`, its timeout
 a loop over the zone's tiles. -/
theorem switchingOn : Obligations.SwitchingOn := by
  unfold Obligations.SwitchingOn
  refine ⟨fun s z mgmt free idle => ?request, fun s z held => ?held, fun s z us oldest quiet band room => ?ramp, fun s z us short fast => ?waits,
    fun s z oldest quiet band => ?slow, fun s z hI ramps alone => ?good, fun s z hI ramps => ?timeout, fun s g m ws within => ?ledger⟩
  case request =>
    have goes : ¬ (! s.boot.mgmt || s.zoneHeld z.val) = true := by simp [mgmt, free]
    exact ⟨_, next_of_eq (exec_zoneSwitchOnRequest z s) ((if_neg goes).trans (requestOn_idle idle)), rfl,
      zoneState_of_updZone (f := ZonePwr.waiting) rfl, rfl, onlyZone_of_updZone (f := ZonePwr.waiting) rfl⟩
  case held =>
    have stays : (! s.boot.mgmt || s.zoneHeld z.val) = true := by simp [held]
    exact next_of_eq (exec_zoneSwitchOnRequest z s) (if_pos stays)
  case ramp =>
    have starts := next_of_eq (exec_zoneRampStart z us s) (if_pos ⟨oldest, quiet, band, .inr room⟩)
    have zones := startRamp_zones (s := s) (z := z) (s.actionOf 3 z.val == raLevel1) us
    refine ⟨_, starts, rfl, onlyZone_of_updZone zones, ?_, zoneState_of_updZone zones, congrArg ZonePwr.seqWait (zonePwr_of_updZone zones)⟩
    exact fun mem => by simpa using (List.mem_filter.mp mem).2
  case waits =>
    exact next_of_eq (exec_zoneRampStart z us s) (if_neg fun ⟨_, _, _, enough⟩ => enough.elim (by simp [fast]) (by omega))
  case slow =>
    refine ⟨_, next_of_eq (exec_slowRampStart z s) (if_pos ⟨oldest, quiet, band⟩), rfl,
      onlyZone_of_updZone (f := ZonePwr.ramped true 1000) rfl, ?_, counted_of_bump rfl one_pos⟩
    exact congrArg ZonePwr.slow (zonePwr_of_updZone (f := ZonePwr.ramped true 1000) rfl)
  case good =>
    have tiles := tile_zoneReloaded (z := z) hI.2
    have zones : ((s.zoneReloaded z).updZone z.val ZonePwr.switchedOn).pwr.zones = (s.updZone z.val ZonePwr.switchedOn).pwr.zones := by
      simp [State.updZone, State.zonePwr, zoneReloaded_pwr hI.2]
    have on : s.zoneRamps z.val = true := by simp [State.zoneRamps, ramps]
    refine ⟨_, next_of_eq (exec_zonePowerGood z s) ((if_pos on).trans (powerGood_alone hI.2 alone)), zoneState_of_updZone zones,
      onlyZone_of_updZone zones, tiles.1, fun f image t mem c => ?_⟩
    exact (congrArg (fun k : Tile => (k.core c).fnLoaded) (tiles.2 f image t mem)).trans (loadFw_loaded f.sec _ c)
  case timeout =>
    have ramps : s.zoneRamps z.val = true := by simp [State.zoneRamps, ramps]
    obtain ⟨boot, noted⟩ := noteFeatures_eq s (s.domainFault z.val)
    obtain ⟨tiles, check, faulted, inside, outside⟩ := domainFault_eq (z := z) hI.2
    have faults := noted.trans (congrArg (fun u : State => { u with boot := boot }) faulted)
    exact ⟨_, next_of_eq (exec_powerGoodTimeout z s) ((congrArg s.noteFeatures (if_pos ramps)).trans faults),
      zoneState_of_updZone (f := ZonePwr.faulted) rfl, onlyZone_of_updZone (f := ZonePwr.faulted) rfl, counted_of_bump rfl one_pos, outside, inside⟩
  case ledger =>
    obtain ⟨only, excess, measured⟩ := ledger_leaves ws within
    refine ⟨_, exec_currentLedgerTick g m ws s, only, ?_, ?_, fun h other => ?_⟩
    · rw [excess, testBit_setBit_false]
    · rw [measured]
      exact Vector.getElem_set_self _
    · rw [measured]
      exact Vector.getElem_set_ne _ _ fun same => other (Fin.ext same.symm)


end Sys2Proof.Machine
end

section
namespace Sys2Proof.Machine

/-! # Parking, unparking and switching off (R328 to R331) -/

section
variable {s u v : State} {z : ZoneIx} {car : Carrier}

/-- A zone that has begun to park. -/
def ZonePwr.parking (cause : Nat) (toOff : Bool) (p : ZonePwr) : ZonePwr :=
  { p with state := zsParking, parkCause := cause, toOff := toOff, gateClosed := false }

theorem beginPark_on (on : s.zoneState z.val = zsOn) (cause : Nat) (toOff : Bool) :
    s.beginPark z.val cause toOff = s.updZone z.val (ZonePwr.parking cause toOff) :=
  if_pos (zoneState_eq s z ▸ on)

/-- A zone whose gate has opened (R330, R331). -/
def ZonePwr.parked (p : ZonePwr) : ZonePwr :=
  { p with state := if p.toOff then zsOff else zsParked, parkCause := if p.toOff then 0 else p.parkCause, toOff := false }

/-- A tile of a zone whose gate has opened. -/
def Tile.gated (toOff : Bool) (t : Tile) : Tile := if toOff then t.powerOff else t.park

/-- The end of parking changes the tiles of the zone and the zone. -/
theorem parkDone_parking (wf : SMap.wf Tile.reset s.tiles = true) (parks : s.zoneState z.val = zsParking) : ∃ tiles,
    s.parkDone z.val = ({ s with tiles := tiles } : State).updZone z.val ZonePwr.parked
      ∧ (∀ t, t ∈ s.zoneTiles (2 ^ z.val) → SMap.get Tile.reset tiles t = (s.tile t).gated (s.zonePwr z.val).toOff)
      ∧ ∀ T, T ∉ s.zoneTiles (2 ^ z.val) → SMap.get Tile.reset tiles T = s.tile T := by
  obtain ⟨tiles, gates, inside, outside⟩ := forTiles_eq (f := fun _ t => t.gated (s.zonePwr z.val).toOff) wf (zoneTiles_nodup s (2 ^ z.val))
  have runs : ¬ (s.zonePwr z.val).state ≠ zsParking := not_not.mpr (zoneState_eq s z ▸ parks)
  refine ⟨tiles, ?_, inside, outside⟩
  exact (if_neg runs).trans (congrArg (fun v : State => v.updZone z.val ZonePwr.parked) gates)

theorem startTests_none (none : s.check.tests = []) : s.startTests = s := by rw [State.startTests, none]; rfl

theorem FreeZone.zoneFree (free : FreeZone s z) : s.zoneFree z.val = true := by simp [State.zoneFree, free.idle, free.tests]

/-! ## Requests by mask (R329, R331, R346) -/

/-- The mask of one zone names that zone. -/
theorem maskZones_one (z : ZoneIx) : maskZones (BitVec.ofNat 64 (2 ^ z.val)).toNat = [z.val] := by
  have : ∀ z : Fin 48, maskZones (BitVec.ofNat 64 (2 ^ z.val)).toNat = [z.val] := by decide
  exact this z

theorem mask_fits (z : ZoneIx) : ¬ 2 ^ 48 ≤ (BitVec.ofNat 64 (2 ^ z.val)).toNat := by
  have : ∀ z : Fin 48, ¬ 2 ^ 48 ≤ (BitVec.ofNat 64 (2 ^ z.val)).toNat := by decide
  exact this z

/-- A request to park one free zone that is on begins to park it; the count of refused requests rises by none. -/
theorem writePark_one (free : FreeZone s z) (on : s.zoneState z.val = zsOn) (toOff : Bool) : ∃ ctr,
    State.writePark toOff (BitVec.ofNat 64 (2 ^ z.val)).toNat s = ({ s.updZone z.val (ZonePwr.parking pcRequest toOff) with ctr := ctr }, 0) := by
  have parks : (s.zoneFree z.val && (s.zoneState z.val == zsOn || s.zoneState z.val == zsWaiting || s.zoneState z.val == zsRamping
      || s.zoneState z.val == zsUnparking || (toOff && (s.zoneState z.val == zsParked || s.zoneState z.val == zsParking)))) = true := by
    simp [free.zoneFree, on]
  unfold State.writePark
  simp only [if_neg (mask_fits z), maskZones_one, List.foldl_cons, List.foldl_nil, parks, if_true, beginPark_on on]
  cases toOff with
  | true => exact ⟨s.ctr, rfl⟩
  | false => exact ⟨_, rfl⟩

theorem writeUnpark_one (free : FreeZone s z) (parked : s.zoneState z.val = zsParked) : ∃ ctr,
    State.writeUnpark (BitVec.ofNat 64 (2 ^ z.val)).toNat s
      = ({ ({ s with pwr := { s.pwr with queue := s.pwr.queue ++ [z.val] } } : State).updZone z.val ZonePwr.waiting with ctr := ctr }, 0) := by
  have goes : (! s.zoneHeld z.val && (s.zoneState z.val == zsOff || s.zoneState z.val == zsParked)) = true := by simp [free.held, parked]
  unfold State.writeUnpark
  simp only [if_neg (mask_fits z), maskZones_one, List.foldl_cons, List.foldl_nil, goes, if_true, requestOn_idle (.inr parked)]
  exact ⟨_, rfl⟩

/-- A write that may change the features changes beside its effect the record of the start alone (R448). -/
theorem featWriter_of {w : Writer} {st : Nat} (writes : w s = (v, st)) : ∃ boot, featWriter w s = ({ v with boot := boot }, st) := by
  obtain ⟨boot, noted⟩ := noteFeatures_eq s v
  exact ⟨boot, by rw [featWriter, writes, noted]⟩

/-- The statuses of the power chapter have no counter among the protocol's but that of frames over the limit. -/
theorem countRefusal_mask (s : State) : s.countRefusal 0x0401 = s := by simp [State.countRefusal]

end

/-- Settles O36: a park is `beginPark_on`, its end `parkDone_parking`, a request of one zone `writePark_one` or `writeUnpark_one`, and a mask with a bit
above the zones a refusal of the writer. -/
theorem parking : Obligations.Parking := by
  unfold Obligations.Parking
  refine ⟨fun s z full mgmt free on => ?parks, fun s z mgmt free on limit => ?idles, fun s z hI parks tests => ?done,
    fun s car z served free on => ⟨?request, ?off⟩, fun s car z served free parked => ?unpark, fun s car m served above c cmd => ?above⟩
  case parks =>
    have goes : (s.boot.mgmt && s.zoneFree z.val) = true := by simp [mgmt, free.zoneFree]
    have begins : (if s.regHeld z.val then s.fieldParks (z.val / 6) else if s.boot.mgmt && s.zoneFree z.val then s.beginPark z.val (s.parkReason z.val) false
        else s) = s.updZone z.val (ZonePwr.parking (s.parkReason z.val) false) := by
      rw [if_neg (ne_true_of_eq_false full), if_pos goes, beginPark_on on]
    exact ⟨_, next_of_eq (exec_zonePark z s) begins, rfl, onlyZone_of_updZone rfl, zoneState_updZone .., congrArg ZonePwr.parkCause (zonePwr_updZone ..)⟩
  case idles =>
    exact ⟨_, next_of_eq (exec_zoneIdlePark z s) ((if_pos ⟨mgmt, free.zoneFree, limit, beq_iff_eq.mpr on⟩).trans (beginPark_on on pcIdle false)), rfl, onlyZone_of_updZone rfl, zoneState_updZone .., congrArg ZonePwr.parkCause (zonePwr_updZone ..)⟩
  case done =>
    obtain ⟨tiles, gates, inside, outside⟩ := parkDone_parking hI.2 parks
    have starts : (s.parkDone z.val).startTests = ({ s with tiles := tiles } : State).updZone z.val ZonePwr.parked := by
      rw [gates]
      exact startTests_none tests
    obtain ⟨boot, noted⟩ := noteFeatures_eq s (s.parkDone z.val).startTests
    refine ⟨_, next_of_eq (exec_parkingComplete z s) (noted.trans (congrArg (fun u : State => { u with boot := boot }) starts)), ?_⟩
    exact ⟨onlyZone_of_updZone (f := ZonePwr.parked) rfl, zoneState_of_updZone (f := ZonePwr.parked) rfl, outside, inside⟩
  case request =>
    obtain ⟨ctr, writes⟩ := writePark_one free on false
    have zone : (s.updZone z.val (ZonePwr.parking pcRequest false)).zonePwr z.val = _ := zonePwr_updZone ..
    refine ⟨_, served.answered (exec_parkRequest car _ s) writes (countRefusal_zero _), ?_⟩
    exact ⟨onlyZone_of_updZone (f := ZonePwr.parking pcRequest false) rfl, zoneState_of_updZone (f := ZonePwr.parking pcRequest false) rfl,
      congrArg ZonePwr.parkCause zone, congrArg ZonePwr.toOff zone, rfl⟩
  case off =>
    obtain ⟨ctr, writes⟩ := writePark_one free on true
    obtain ⟨boot, noting⟩ := featWriter_of writes
    have zone : (s.updZone z.val (ZonePwr.parking pcRequest true)).zonePwr z.val = _ := zonePwr_updZone ..
    refine ⟨_, served.answered (exec_powerOffRequest car _ s) noting (countRefusal_zero _), ?_⟩
    exact ⟨onlyZone_of_updZone (f := ZonePwr.parking pcRequest true) rfl, zoneState_of_updZone (f := ZonePwr.parking pcRequest true) rfl,
      congrArg ZonePwr.toOff zone, rfl⟩
  case unpark =>
    obtain ⟨ctr, writes⟩ := writeUnpark_one free parked
    have zone : (s.updZone z.val ZonePwr.waiting).zonePwr z.val = _ := zonePwr_updZone ..
    refine ⟨_, served.answered (exec_unparkRequest car _ s) writes (countRefusal_zero _), ?_⟩
    refine ⟨onlyZone_of_updZone (f := ZonePwr.waiting) rfl, zoneState_of_updZone (f := ZonePwr.waiting) rfl, ?_, rfl, rfl⟩
    exact (congrArg ZonePwr.unpark zone).trans (beq_iff_eq.mpr (zoneState_eq s z ▸ parked))
  case above =>
    have refused : ∀ toOff, State.writePark toOff m.toNat s = (s.bump (ck 0x4070 8) 1, 0x0401) := fun _ => if_pos above
    have refused' : State.writeUnpark m.toNat s = (s.bump (ck 0x4070 8) 1, 0x0401) := if_pos above
    rcases cmd with rfl | rfl
    · exact served.refusal_counted (exec_parkRequest car m s) (refused false) (countRefusal_mask _)
    · exact served.refusal_counted (exec_unparkRequest car m s) refused' (countRefusal_mask _)

end Sys2Proof.Machine
end

section
namespace Sys2Proof.Machine

/-! # Power tokens (R341 to R344) -/

section
variable {s : State} {seq w : Nat} {m : TokenMove}

theorem writePool_divides {v : Nat} (free : s.betweenJobs = true) (holds : s.holdsPool = true) (some : v ≠ 0) :
    State.writePool v s = (s.updToken fun t => { t with
      pool := v, held := v / s.cascade.length, member := true, fair := v / s.cascade.length, reserve := v - s.cascade.length * (v / s.cascade.length)
      record := s.cascade.map fun d => (d, v / s.cascade.length), move := none, broken := false }, 0) := by
  rw [State.writePool, rwj_between free, if_pos holds]
  have member : (v != 0) = true := bne_iff_ne.mpr some
  simp only [State.setPool, if_neg some, member]

/-! ## The period of the master (R342) -/

/-- Of two members the one that waits longer gives. -/
theorem pickWait_longest {a b wa wb : Nat} (longer : wb < wa) : pickWait (fun a b => decide (b < a)) [(a, wa), (b, wb)] = some (a, wa) := by
  simp [pickWait, Nat.not_lt.mpr (Nat.le_of_lt longer), Nat.ne_of_lt longer]

/-- Of two members the one that waits less receives. -/
theorem pickWait_shortest {a b wa wb : Nat} (longer : wb < wa) : pickWait (fun a b => decide (a < b)) [(a, wa), (b, wb)] = some (b, wb) := by
  simp [pickWait, longer]

/-- A debit of another member is not carried out by the master. -/
theorem ownHalves_debit (move : s.pwr.token.move = some m) (waits : m.credited = false) (other : m.donor ≠ s.boot.deviceId) : s.ownHalves = s := by
  simp [State.ownHalves, move, waits, other]

/-- A credit of another member is not carried out by the master. -/
theorem ownHalves_credit (move : s.pwr.token.move = some m) (credited : m.credited = true) (other : m.receiver ≠ s.boot.deviceId) : s.ownHalves = s := by
  simp [State.ownHalves, move, credited, other]

/-- A period in which the one member waits longer than the other by more than the threshold asks the donor for a debit. -/
theorem tokenReports_moves {a b ha hb wa wb n : Nat} (holds : s.holdsPool = true) (pool : s.pwr.token.pool ≠ 0) (rest : s.pwr.token.move = none)
    (sum : s.pwr.token.sumOk = true) (recordA : holdingOf s.pwr.token.record a = ha) (recordB : holdingOf s.pwr.token.record b = hb) (longer : wb < wa)
    (enough : 5 * s.pwr.token.period < 100 * (wa - wb)) (other : a ≠ s.boot.deviceId)
    (amount : n = min s.pwr.token.step (min (ha - s.pwr.token.floor) (s.fuses.powerLimit - hb))) (some : 0 < n) :
    s.tokenReports [(a, ha, wa), (b, hb, wb)] = (s.updToken fun t => { t with
      seq := s.pwr.token.seq + 1, move := .some ⟨s.pwr.token.seq + 1, a, b, n, false, 0⟩ }).send (.peer a pkDebit [s.pwr.token.seq + 1, n]) := by
  have idle : (! s.holdsPool || s.pwr.token.pool == 0 || s.pwr.token.move.isSome) = false := by simp [holds, pool, rest]
  have agrees : ([(a, ha, wa), (b, hb, wb)].any (fun r => holdingOf s.pwr.token.record r.1 != r.2.1) || ! s.pwr.token.sumOk) = false := by
    simp [recordA, recordB, sum]
  have moves : ¬ (100 * (wa - wb) ≤ 5 * s.pwr.token.period ∨ n = 0) := by omega
  unfold State.tokenReports
  rw [if_neg (ne_true_of_eq_false idle), if_neg (ne_true_of_eq_false agrees)]
  simp only [List.map_cons, List.map_nil, pickWait_longest longer, pickWait_shortest longer, recordA, recordB, ← amount]
  rw [if_neg moves, if_neg other]
  exact ownHalves_debit rfl rfl other

/-! ## The halves of a move (R343) -/

/-- A half whose sequence number was applied changes nothing again. -/
theorem applyMove_again {up : Bool} (again : (2 * seq + if up then 1 else 0) ∈ s.pwr.token.applied) : s.applyMove seq w up = s :=
  if_pos (List.contains_iff_mem.mpr again)

theorem applyMove_new {up : Bool} (new : (2 * seq + if up then 1 else 0) ∉ s.pwr.token.applied) : ∃ token, s.applyMove seq w up = s.updToken (fun _ => token)
    ∧ token.held = if up then s.pwr.token.held + w else s.pwr.token.held - w :=
  ⟨_, if_neg (mt List.contains_iff_mem.mp new), rfl⟩

theorem ackMove_moved (token : TokenSt) : movedTokens s ((s.updToken fun _ => token).ackMove seq) seq token.held := ⟨rfl, rfl, rfl⟩

/-- The acknowledgement of a debit asks the receiver for its credit. -/
theorem tokenAck_debit (move : s.pwr.token.move = some m) (holds : s.holdsPool = true) (waits : m.credited = false)
    (sum : ({ s.pwr.token with
      record := setHolding s.pwr.token.record m.donor (holdingOf s.pwr.token.record m.donor - m.watts)
      move := some { m with credited := true, tries := 0 } } : TokenSt).sumOk = true) :
    s.tokenAck m.donor m.seq (holdingOf s.pwr.token.record m.donor - m.watts) = (s.updToken fun t => { t with
      record := setHolding t.record m.donor (holdingOf s.pwr.token.record m.donor - m.watts)
      move := some { m with credited := true, tries := 0 } }).send (.peer m.receiver pkCredit [m.seq, m.watts]) := by
  unfold State.tokenAck
  simp only [move, holds, waits, State.updToken_pwr]
  simp [sum]

end

/-- Settles O38: the pool is `writePool_divides`, a period `tokenReports_moves`, a half `applyMove`, its acknowledgement `tokenAck_debit`, and silence
and timeouts are branches of their commands. -/
theorem powerTokens : Obligations.PowerTokens := by
  unfold Obligations.PowerTokens
  refine ⟨fun s car v served free holds some => ?pool, fun s a b ha hb wa wb due holds pool rest sum recordA recordB longer enough other => ?period,
    fun s seq w new => ?debit, fun s seq w new => ?credit, fun s seq w again => ?again, fun s m move holds waits other => ?ack,
    fun s m move tries => ?timeout, fun s m move tries credited => ?lost, fun s member state => ?silence⟩
  case pool =>
    have some : v.toNat ≠ 0 := fun zero => some (BitVec.eq_of_toNat_eq zero)
    exact ⟨_, served.answered (exec_tokenPoolW car v s) (writePool_divides free holds some) (countRefusal_zero _), rfl, rfl, rfl, rfl, rfl, rfl, rfl⟩
  case period =>
    intro n some
    have moves : execTokenPeriod [(a, ha, wa), (b, hb, wb)] s = .next ((s.taken .token).tokenReports [(a, ha, wa), (b, hb, wb)]) := by
      rw [execTokenPeriod, takeDue_due due]
      rfl
    exact ⟨_, next_of_eq ((exec_tokenPeriod _ s).trans moves) (tokenReports_moves holds pool rest sum recordA recordB longer enough other rfl some),
      rfl, rfl, rfl, rfl⟩
  case debit =>
    obtain ⟨token, applies, held⟩ := applyMove_new (w := w) (up := false) new
    refine ⟨_, next_of_eq (exec_tokenDebit seq w s) (congrArg (State.ackMove · seq) applies), ?_⟩
    rw [← show token.held = s.pwr.token.held - w from held]
    exact ackMove_moved token
  case credit =>
    obtain ⟨token, applies, held⟩ := applyMove_new (w := w) (up := true) new
    refine ⟨_, next_of_eq (exec_tokenCredit seq w s) (congrArg (State.ackMove · seq) applies), ?_⟩
    rw [← show token.held = s.pwr.token.held + w from held]
    exact ackMove_moved token
  case again =>
    exact ⟨_, next_of_eq (exec_tokenDebit seq w s) (congrArg (State.ackMove · seq) (applyMove_again (up := false) again)), rfl, rfl, rfl⟩
  case ack =>
    intro v sum
    have acks := congrArg State.ownHalves (tokenAck_debit move holds waits sum)
    exact ⟨_, next_of_eq (exec_tokenAck m.donor m.seq v s) (acks.trans (ownHalves_credit rfl rfl other)), rfl, rfl, rfl, rfl⟩
  case timeout =>
    have again : m.tries + 1 < 3 := by omega
    have sends : execTokenAckTimeout s = .next ((s.updToken fun t => { t with move := some { m with tries := m.tries + 1 } }).send
        (if m.credited then .peer m.receiver pkCredit [m.seq, m.watts] else .peer m.donor pkDebit [m.seq, m.watts])) := by
      simp only [execTokenAckTimeout, move, if_pos again]
      split <;> rfl
    exact ⟨_, (exec_tokenAckTimeout s).trans sends, rfl, rfl, rfl⟩
  case lost =>
    have thrice : ¬ m.tries + 1 < 3 := by omega
    have gives : execTokenAckTimeout s = .next (s.updToken fun t => { t with move := none, reserve := t.reserve + m.watts }) := by
      simp only [execTokenAckTimeout, move, if_neg thrice, credited, if_true]
    exact ⟨_, (exec_tokenAckTimeout s).trans gives, rfl, rfl⟩
  case silence => exact ⟨_, next_of_eq (exec_tokenMasterSilence s) (if_pos ⟨member, state⟩), rfl, rfl⟩

end Sys2Proof.Machine
end

section
namespace Sys2Proof.Machine

/-! # The stages of a start (R348 to R359, R366) -/

/-! ## The items of a start and their records (R350, R364 to R366) -/

section
variable {s u v : State}

/-- What the trying of items may change: the retry table, the counts of the start log, the code of the last refused image, and the counters. -/
def ItemsNoted (s u : State) : Prop := ∃ (retry : List Retry) (newRetry : Bool) (failed status : Nat) (reduced : Bool) (lastReject : Nat) (ctr : SMap Nat),
  u = { s with
    life := { s.life with retry := retry }
    boot := { s.boot with newRetry := newRetry, failedItems := failed, status := status, reduced := reduced }
    prot := { s.prot with lastReject := lastReject }
    ctr := ctr }

theorem ItemsNoted.refl (s : State) : ItemsNoted s s := ⟨_, _, _, _, _, _, _, rfl⟩

theorem ItemsNoted.trans (h : ItemsNoted s u) (h' : ItemsNoted u v) : ItemsNoted s v := by
  obtain ⟨_, _, _, _, _, _, _, rfl⟩ := h
  obtain ⟨_, _, _, _, _, _, _, rfl⟩ := h'
  exact ⟨_, _, _, _, _, _, _, rfl⟩

theorem ItemsNoted.foldl {α : Type} {f : State → α → State} (step : ∀ u a, ItemsNoted u (f u a)) (l : List α) (s : State) :
    ItemsNoted s (l.foldl f s) :=
  List.foldlRecOn l f (.refl s) fun u before a _ => before.trans (step u a)

theorem retryPass_noted (s : State) (kind unit : Nat) : ItemsNoted s (s.retryPass kind unit) := by
  unfold State.retryPass
  split
  · exact ⟨_, _, _, _, _, _, _, rfl⟩
  · exact .refl s

/-- What a failure adds to the retry table is left open; the start log counts it (R350, R364). -/
theorem itemFails_eq (s : State) (kind unit cause : Nat) : ∃ retry status reduced, s.itemFails kind unit cause = { s with
    life := { s.life with retry := retry }
    boot := { s.boot with newRetry := true, failedItems := min 255 (s.boot.failedItems + 1), status := status, reduced := reduced } } :=
  ⟨_, _, _, rfl⟩

theorem itemFails_noted (s : State) (kind unit cause : Nat) : ItemsNoted s (s.itemFails kind unit cause) := by
  obtain ⟨_, _, _, fails⟩ := itemFails_eq s kind unit cause
  exact ⟨_, _, _, _, _, _, _, fails⟩

theorem itemFailsNow_noted (s : State) (kind unit cause : Nat) : ItemsNoted s (s.itemFailsNow kind unit cause) := by
  unfold State.itemFailsNow
  split
  · exact .refl s
  · exact itemFails_noted ..

theorem verifyImage_noted (s : State) (kind : Nat) (b : List Byte) : ItemsNoted s (s.verifyImage kind b).1 := by
  unfold State.verifyImage
  extract_lets code
  split
  · exact .refl s
  · exact ⟨_, _, _, _, _, _, _, rfl⟩

theorem trySlots_noted (s : State) (item kind : Nat) (img : Nat → List Byte) (slots : List Nat) : ItemsNoted s (s.trySlots item kind img slots).1 := by
  induction slots generalizing s with
  | nil => exact .refl s
  | cons i slots ih =>
    unfold State.trySlots
    extract_lets r
    have verified := verifyImage_noted s kind (img i)
    split
    · exact ih s
    · split
      · exact verified.trans (retryPass_noted ..)
      · exact (verified.trans (itemFails_noted ..)).trans (ih _)

/-- A start that the retry table does not direct takes every item on its normal path. -/
theorem retryPass_plain (plain : s.boot.actions = []) (kind unit : Nat) : s.retryPass kind unit = s := by
  simp [State.retryPass, State.triesNormal, plain]

end

/-! ## The outcomes of stages (R345, R367, R412) -/

section
variable (s : State) (k next ms : Nat)

/-- A stage's outcome is written into the log, with a commit of the counts and an event; the lists themselves are left open. -/
theorem stageOutcome_eq : ∃ stageMs log events, s.stageOutcome k ms = { s with
    boot := { s.boot with stageMs := stageMs, elapsedMs := ms }
    life := { s.life with log := log, committed := s.life.counts }
    events := events } :=
  ⟨_, _, _, rfl⟩

theorem stageDone_eq : ∃ stageMs ms log events, s.stageDone k next = { s with
    boot := { s.boot with stage := next, stageMs := stageMs, elapsedMs := ms }
    life := { s.life with log := log, committed := s.life.counts }
    events := events } :=
  ⟨_, _, _, _, rfl⟩

theorem endStart_eq (outcome : Nat) : ∃ stageMs ms log events, s.endStart k outcome = { s with
    boot := { s.boot with outcome := outcome, stage := 10, stageMs := stageMs, elapsedMs := ms }
    life := { s.life with log := log, committed := s.life.counts }
    events := events } :=
  ⟨_, _, _, _, rfl⟩

end

/-! ## What no item of a stage touches -/

section
variable {s u v : State}

/-- What the items of a start leave alone: the fuses, the queue, the map and the defects it is built from, the domains, and the place of the start. -/
structure StageFrame where
  fuses : Fuses
  queue : List Instr
  powered : Bool
  stage : Nat
  grid : Grid
  defects : List Defect
  bands : Nat
  memIf : Nat

def State.stageFrame (s : State) : StageFrame :=
  ⟨s.fuses, s.pending, s.boot.powered, s.boot.stage, s.grid, s.life.defects, s.pwr.bands, s.pwr.memIf⟩

theorem ItemsNoted.stageFrame (h : ItemsNoted s u) : u.stageFrame = s.stageFrame := by
  obtain ⟨_, _, _, _, _, _, _, rfl⟩ := h
  rfl

theorem keepsFuses_of_stageFrame (same : u.stageFrame = s.stageFrame) : keepsFuses s u :=
  ⟨congrArg StageFrame.fuses same, congrArg StageFrame.queue same⟩

theorem keepsFuses.trans (h : keepsFuses s u) (h' : keepsFuses u v) : keepsFuses s v := ⟨h'.1.trans h.1, h'.2.trans h.2⟩

theorem keepsFuses_stageDone (k next : Nat) : keepsFuses s (s.stageDone k next) := ⟨rfl, rfl⟩

theorem keepsFuses_endStart (k outcome : Nat) : keepsFuses s (s.endStart k outcome) := ⟨rfl, rfl⟩

theorem AtStage.of_stageFrame {k : Nat} (h : AtStage s k) (same : u.stageFrame = s.stageFrame) : AtStage u k :=
  ⟨(congrArg StageFrame.powered same).trans h.powered, (congrArg StageFrame.stage same).trans h.stage⟩

theorem stageDone_atStage {k : Nat} (powered : s.boot.powered = true) (k' : Nat) : AtStage (s.stageDone k' k) k := ⟨powered, rfl⟩

theorem endStart_atStage (powered : s.boot.powered = true) (k outcome : Nat) : AtStage (s.endStart k outcome) 10 := ⟨powered, rfl⟩

theorem AtStage.inStage {k : Nat} (h : AtStage s k) : s.inStage k = true := by simp [State.inStage, h.powered, h.stage]

end

/-! ## The zones at S3, at S5 and at a return pass (R327 to R330) -/

section
variable (s : State) (z : Nat)

theorem putTile_powerUp_eq (t : Nat) : ∃ tiles ctr tctr, s.putTile t (s.tile t).powerUp = { s with tiles := tiles, ctr := ctr, tctr := tctr } := by
  obtain ⟨hits, bumps⟩ := powerUp_plain (s.tile t)
  obtain ⟨ctr, tctr, bumped⟩ := bumps_eq t (s.tile t).powerUp.bumps (s.setTile t (s.tile t).powerUp.tile)
  refine ⟨_, ctr, tctr, Eq.trans ?_ bumped⟩
  unfold State.putTile
  simp only [hits, List.foldl_nil, filter_sum_zero _ _ fun b mem => (bumps b mem).1, filter_sum_zero _ _ fun b mem => (bumps b mem).2, Nat.add_zero,
    if_true]
  split <;> rfl

theorem forTiles_tiles (ts : List Nat) (f : Nat → Tile → Tile) : ∃ tiles, s.forTiles ts f = { s with tiles := tiles } :=
  ⟨(s.forTiles ts f).tiles, (congrArg (fun u : State => { u with tiles := (s.forTiles ts f).tiles }) (forTiles_only s ts f) :)⟩

theorem beginPark_eq (cause : Nat) (toOff : Bool) : ∃ tiles zones, s.beginPark z cause toOff = { s with tiles := tiles, pwr := { s.pwr with zones := zones } } := by
  unfold State.beginPark
  extract_lets p
  obtain ⟨tiles, off⟩ := forTiles_tiles s (s.zoneTiles (2 ^ z)) fun _ t => t.powerOff
  split
  · exact ⟨_, _, rfl⟩
  split
  · exact ⟨_, _, rfl⟩
  split
  · rw [off]
    exact ⟨tiles, _, rfl⟩
  split
  · exact ⟨_, _, rfl⟩
  · exact ⟨s.tiles, s.pwr.zones, rfl⟩

theorem parkHeld_eq (zones : List Nat) : ∃ tiles cores, s.parkHeld zones = { s with tiles := tiles, pwr := { s.pwr with zones := cores } } := by
  refine List.foldlRecOn (motive := fun u : State => ∃ tiles cores, u = { s with tiles := tiles, pwr := { s.pwr with zones := cores } }) zones _
    ⟨s.tiles, s.pwr.zones, rfl⟩ fun u before z _ => ?_
  obtain ⟨tiles, cores, rfl⟩ := before
  split
  · obtain ⟨_, _, parks⟩ := beginPark_eq { s with tiles := tiles, pwr := { s.pwr with zones := cores } } z pcHold false
    exact ⟨_, _, parks⟩
  · exact ⟨tiles, cores, rfl⟩

theorem powerGood_stageFrame : (s.powerGood z).stageFrame = s.stageFrame := by
  unfold State.powerGood
  extract_lets ts s1 s2 p s3
  have scrubbed : s1.stageFrame = s.stageFrame := foldl_view (view := State.stageFrame) (fun u t => by
    obtain ⟨_, _, _, put⟩ := putTile_powerUp_eq u t
    rw [put]
    rfl) ts s
  have loaded : s2.stageFrame = s1.stageFrame := by
    unfold s2
    split
    · obtain ⟨_, loads⟩ := forTiles_tiles s1 ts fun _ t => t.loadFw _
      rw [loads]
      rfl
    · rfl
  have on : s3.stageFrame = s.stageFrame := loaded.trans scrubbed
  split
  · obtain ⟨_, _, parks⟩ := beginPark_eq s3 z _ p.toOff
    rw [parks]
    exact on
  · exact on

theorem domainFault_stageFrame : (s.domainFault z).stageFrame = s.stageFrame := by
  unfold State.domainFault
  extract_lets s1 s2
  have off : s1.stageFrame = s.stageFrame := by
    obtain ⟨_, off⟩ := forTiles_tiles s (s.zoneTiles (2 ^ z)) fun _ t => t.powerOff
    unfold s1
    rw [off]
    rfl
  obtain ⟨_, abandoned⟩ := abandonTests_eq (s2.bump (ck 0x4070 4) 1) fun q => q.unit == z && q.kind != 6
  rw [abandoned]
  exact off

theorem zoneAtS3_stageFrame (notGood : List ZoneIx) : (s.zoneAtS3 notGood z).stageFrame = s.stageFrame := by
  unfold State.zoneAtS3
  split
  · rfl
  split
  · rfl
  split
  · exact (itemFailsNow_noted ..).stageFrame.trans (domainFault_stageFrame s z)
  · exact (retryPass_noted ..).stageFrame.trans (powerGood_stageFrame s z)

end

end Sys2Proof.Machine
end

section
namespace Sys2Proof.Machine

/-! # Power-on and the stages S0 to S2 (R348, R351 to R353) -/

section
variable {s u : State}

/-! ## S0: the regulators -/

theorem regIx_val (d : RegDieIx) : regIx d.val = d := Fin.ext (Nat.mod_eq_of_lt d.isLt)

/-- A die that passes its self-check comes into service (R351). -/
theorem dieAtS0_plain (plain : plainStart s) (d : Nat) : s.dieAtS0 [] d = s.setReg d rsInService 0 := by
  obtain ⟨actions, left⟩ := plain
  have normal : s.actionOf 1 d ≠ raSkip := by simp [State.actionOf, actions, raSkip]
  have kept : (([] : List RegDieIx).any (fun f => f.val == d) || s.leftOut 1 d) = false := by simp [State.leftOut, left]
  unfold State.dieAtS0
  rw [if_neg normal, if_neg (ne_true_of_eq_false kept)]
  exact retryPass_plain (s := s.setReg d rsInService 0) actions 1 d

/-- The dies of a list come into service, and nothing else changes. -/
theorem diesAtS0 (plain : plainStart s) (dies : List Nat) : ∃ reg cause, dies.foldl (fun (u : State) d => u.dieAtS0 [] d) s
      = { s with pwr := { s.pwr with reg := reg, regCause := cause } }
    ∧ ∀ d : RegDieIx, (d.val ∈ dies ∨ s.pwr.reg[d] = rsInService) → reg[d] = rsInService := by
  induction dies generalizing s with
  | nil => exact ⟨_, _, rfl, fun d h => h.resolve_left List.not_mem_nil⟩
  | cons a dies ih =>
    obtain ⟨reg, cause, rest, serve⟩ := ih (s := s.setReg a rsInService 0) plain
    refine ⟨reg, cause, (congrArg (dies.foldl _) (dieAtS0_plain plain a)).trans rest, fun d h => serve d ?_⟩
    have stored : (s.setReg a rsInService 0).pwr.reg[d] = if regIx a = d then rsInService else s.pwr.reg[d] := by
      simp [State.setReg, Vector.getElem_set, Fin.ext_iff]
    rw [stored]
    rcases h with h | h
    · rcases List.mem_cons.mp h with rfl | h
      · exact .inr (if_pos (regIx_val d))
      · exact .inl h
    · exact .inr (by split <;> trivial)

/-- The device can run with every die in service (R318, R319). -/
theorem fatalDie_none (serve : ∀ d : RegDieIx, s.pwr.reg[d] = rsInService) : s.fatalDie = none := by
  have each : ∀ d, s.regState d = rsInService := fun d => serve (regIx d)
  simp [State.fatalDie, each]

/-- S0 in a part whose dies are all good, where the retry table directs nothing. -/
theorem execS0Rails_plain (a b c : BitVec 7) (at0 : AtStage s 0) (plain : plainStart s) : ∃ (host : HostSt) (pwr : PwrSt),
    host.straps = (majority a b c).toNat ∧ pwr.rails = true ∧ pwr.powerGood = true ∧ (∀ d : RegDieIx, pwr.reg[d] = rsInService)
      ∧ execS0Rails [] a b c s = .next (({ s with host := host, pwr := pwr } : State).stageDone 0 1) := by
  unfold execS0Rails
  rw [if_neg (by simp [at0.inStage])]
  extract_lets straps s1 s2 mv
  obtain ⟨reg, cause, served, serve⟩ := diesAtS0 (s := s1) plain (upTo 56)
  have all : ∀ d : RegDieIx, reg[d] = rsInService := fun d => serve d (.inl (List.mem_range.mpr d.isLt))
  rw [fatalDie_none (s := s2) fun d => by rw [show s2 = _ from served]; exact all d]
  refine ⟨s1.host, { s1.pwr with reg := reg, regCause := cause, rails := true, powerGood := true, vlogMv := mv, setMv := Vector.replicate 8 mv },
    rfl, rfl, rfl, all, ?_⟩
  rw [show s2 = _ from served]
  rfl

/-! ## S1: the boot -/

theorem bootSlots_noted (s : State) : ItemsNoted s s.bootSlots.1 := trySlots_noted ..

theorem nonceAndAddresses_eq (s : State) : ∃ prot host draws,
    ({ (s.random 16).2 with prot := { (s.random 16).2.prot with maintNonce := (s.random 16).1 } } : State).takeAddresses
      = { s with prot := prot, host := host, draws := draws } :=
  ⟨_, _, _, rfl⟩

/-- The image of the slot runs, with the addresses of the Ethernet port and MAINT_NONCE (R352, R422, R465). -/
theorem execS1Boot_runs (at1 : AtStage s 1) {slot : Nat} (found : s.bootSlots.2 = some slot) : ∃ prot host draws,
    execS1Boot s = .next (({ (s.bootSlots.1.mgmtRuns slot).updPwr fun p => { p with hostIo := true } with
      prot := prot, host := host, draws := draws } : State).stageDone 1 2) := by
  unfold execS1Boot
  rw [if_pos at1.inStage]
  extract_lets r
  rw [show r.2 = some slot from found]
  obtain ⟨prot, host, draws, addressed⟩ := nonceAndAddresses_eq ((s.bootSlots.1.mgmtRuns slot).updPwr fun p => { p with hostIo := true })
  exact ⟨prot, host, draws, congrArg (fun u : State => Host.Outcome.next (u.stageDone 1 2)) addressed⟩

theorem execS1Boot_recovers (at1 : AtStage s 1) (found : s.bootSlots.2 = none) :
    execS1Boot s = .next ((s.bootSlots.1.updPwr fun p => { p with hostIo := true }).endStart 1 3) := by
  unfold execS1Boot
  rw [if_pos at1.inStage]
  extract_lets r
  rw [show r.2 = none from found]

/-! ## S2: the map -/

theorem startHolds_eq (s : State) : ∃ zones, s.startHolds = { s with
    check := { s.check with faultHeld := 0 }, pwr := { s.pwr with zones := zones } } := by
  refine List.foldlRecOn (motive := fun u : State => ∃ zones, u = { s with
    check := { s.check with faultHeld := 0 }, pwr := { s.pwr with zones := zones } }) allZones _ ⟨_, rfl⟩ fun u before z _ => ?_
  obtain ⟨_, rfl⟩ := before
  exact ⟨_, rfl⟩

theorem linksAtS2_eq (s : State) : ∃ link, s.linksAtS2 = { s with link := link } := by
  refine List.foldlRecOn (motive := fun u : State => ∃ link, u = { s with link := link }) (upTo 36) _ ⟨s.link, rfl⟩ fun u before l _ => ?_
  obtain ⟨_, rfl⟩ := before
  exact ⟨_, rfl⟩

theorem takeIdentity_eq (s : State) : ∃ id link clk, s.takeIdentity = { s with boot := { s.boot with deviceId := id }, link := link, clk := clk } := by
  unfold State.takeIdentity
  extract_lets b d s1
  split
  · exact ⟨_, _, _, rfl⟩
  · exact ⟨_, _, s.clk, rfl⟩

/-- What S2 leaves that it read both from the fuses and the life record (R353). -/
structure MapBuilt (s u : State) : Prop where
  keeps : keepsFuses s u
  grid : u.grid = buildGrid s.fuses.grade (s.allEntries.filter smValid)
  read : u.prot.fusesRead = true
  held : u.check.faultHeld = 0
  tiles : u.tiles = s.tiles
  powered : u.boot.powered = s.boot.powered

theorem s2_mapBuilt (s : State) (fuse0Ok : Bool) : MapBuilt s (s.s2Values fuse0Ok).buildMap.takeIdentity := by
  obtain ⟨_, held⟩ := startHolds_eq s
  obtain ⟨_, linked⟩ := linksAtS2_eq s.startHolds
  obtain ⟨_, _, _, named⟩ := takeIdentity_eq (s.s2Values fuse0Ok).buildMap
  rw [named]
  unfold State.s2Values
  rw [linked, held]
  exact ⟨⟨rfl, rfl⟩, rfl, rfl, rfl, rfl, rfl⟩

theorem MapBuilt.stageDone (h : MapBuilt s u) (k next : Nat) : MapBuilt s (u.stageDone k next) :=
  ⟨h.keeps.trans (keepsFuses_stageDone k next), h.grid, h.read, h.held, h.tiles, h.powered⟩

end

/-- Settles O30: each stage is its items, which leave the place of the start alone, and then its outcome. -/
theorem startStages0To2 : Obligations.StartStages0To2 := by
  unfold Obligations.StartStages0To2
  refine ⟨fun s off sound => ?cold, fun s a b c at0 plain => ?s0, fun s at1 => ?s1, fun s f0 f1 at2 good rows => ?s2, fun s f0 f1 j at2 bad => ?s2Fails⟩
  case cold =>
    exact ⟨_, next_of_eq (exec_coldStart s) (if_neg (by simp [off, sound])), ⟨rfl, rfl⟩, ⟨rfl, rfl⟩, rfl, rfl, rfl, rfl, rfl, rfl, rfl⟩
  case s0 =>
    obtain ⟨host, pwr, straps, rails, good, serve, runs⟩ := execS0Rails_plain a b c at0 plain
    exact ⟨_, (exec_s0Rails [] a b c s).trans runs, ⟨rfl, rfl⟩, ⟨at0.powered, rfl⟩, rails, good, serve, straps⟩
  case s1 =>
    obtain ⟨_, _, _, _, _, _, _, noted⟩ := bootSlots_noted s
    cases found : s.bootSlots.2 with
    | some slot =>
      obtain ⟨_, _, _, runs⟩ := execS1Boot_runs at1 found
      rw [noted] at runs
      refine ⟨_, (exec_s1Boot s).trans runs, ⟨rfl, rfl⟩, fun slot' same => ?_, fun unfound => nomatch unfound⟩
      obtain rfl := Option.some.inj same
      exact ⟨⟨at1.powered, rfl⟩, rfl, rfl, rfl, rfl, rfl, rfl⟩
    | none =>
      have runs := execS1Boot_recovers at1 found
      rw [noted] at runs
      refine ⟨_, (exec_s1Boot s).trans runs, ⟨rfl, rfl⟩, fun _ other => ?_, fun _ => ⟨⟨at1.powered, rfl⟩, rfl, rfl⟩⟩
      exact nomatch other
  case s2 =>
    have built := s2_mapBuilt s f0
    have map := built.stageDone 2 3
    have some : ¬ (s.s2Values f0).buildMap.takeIdentity.grid.rows = 0 := by rwa [built.grid]
    have runs : execS2FusesAndShadowMap f0 f1 true s = .next ((s.s2Values f0).buildMap.takeIdentity.stageDone 2 3) := by
      unfold execS2FusesAndShadowMap
      rw [if_neg (by simp [at2.inStage]), if_neg (by simp [good])]
      exact congrArg _ (if_neg some)
    exact ⟨_, (exec_s2FusesAndShadowMap f0 f1 true s).trans runs, map.keeps, ⟨map.powered.trans at2.powered, rfl⟩, map.grid, map.read, map.held,
      map.tiles⟩
  case s2Fails =>
    have fails : (! (f0 || f1) || ! j) = true := by
      rcases bad with unread | unread <;> simp [unread]
    have runs : execS2FusesAndShadowMap f0 f1 j s = .next (s.endStart 2 2) := by
      unfold execS2FusesAndShadowMap
      rw [if_neg (by simp [at2.inStage]), if_pos fails]
    exact ⟨_, (exec_s2FusesAndShadowMap f0 f1 j s).trans runs, ⟨rfl, rfl⟩, ⟨at2.powered, rfl⟩, rfl⟩

end Sys2Proof.Machine
end

section
namespace Sys2Proof.Machine

/-! # The stages S3 to S9 (R349, R350, R354 to R359, R366) -/

section
variable {s u : State}

/-! ## S4: the clocks -/

/-- An item's record of passing is no more than its entry in the retry table. -/
theorem retryPasses_eq (s : State) (kind : Nat) (units : List Nat) : ∃ retry, units.foldl (fun (u : State) z => u.retryPass kind z) s
    = { s with life := { s.life with retry := retry } } := by
  refine List.foldlRecOn (motive := fun u : State => ∃ retry, u = { s with life := { s.life with retry := retry } }) units _ ⟨_, rfl⟩
    fun u before z _ => ?_
  obtain ⟨retry, rfl⟩ := before
  unfold State.retryPass
  split
  · exact ⟨_, rfl⟩
  · exact ⟨retry, rfl⟩

/-- The clocks of the zones are aligned at 1,200 MHz (R292, R355). -/
theorem execS4_aligned (at4 : AtStage s 4) (plain : plainStart s) : ∃ (clk : ClkSt) (vlogMv : Nat) (retry : List Retry),
    clk.freq = 1200 ∧ (∀ z : Fin 48, (clk.zones[z]).lock = true)
      ∧ execS4ClockAlignment [] s = .next (({ s with
        clk := clk, pwr := { s.pwr with vlogMv := vlogMv }, life := { s.life with retry := retry } } : State).stageDone 4 5) := by
  unfold execS4ClockAlignment
  rw [if_neg (by simp [at4.inStage])]
  extract_lets bad s1 s2
  have allGood : bad.isEmpty = true := by simp [bad, State.leftOut, plain.2]
  obtain ⟨retry, passed⟩ := retryPasses_eq s1 4 allZones
  obtain ⟨_, _, _, vlogMv, targeted⟩ := retarget_eq s2
  rw [if_pos allGood, targeted, show s2 = _ from passed]
  refine ⟨_, vlogMv, retry, ?_, fun z => ?_, rfl⟩
  · rfl
  · exact congrArg ZoneClk.lock (Vector.getElem_map _ z.isLt)

/-! ## S5: the ramp -/

theorem updClk_stageFrame (s : State) (f : ClkSt → ClkSt) : (s.updClk f).stageFrame = s.stageFrame := rfl

theorem raise_stageFrame (s : State) (kind unit : Nat) (data : List Byte) : (s.raise kind unit data).stageFrame = s.stageFrame := rfl

theorem applySwitch_stageFrame (s : State) : s.applySwitch.stageFrame = s.stageFrame := by
  unfold State.applySwitch
  extract_lets c up s1 s2 s3
  have shortened : s3.stageFrame = s2.stageFrame := foldl_view (view := State.stageFrame) (fun u m => by split <;> rfl) _ s2
  exact (raise_stageFrame s3 ..).trans shortened

theorem ramp_stageFrame (s : State) : s.ramp.stageFrame = s.stageFrame := by
  refine foldl_view (view := State.stageFrame) (fun u _ => ?_) (upTo 6) s
  unfold State.rampStep
  extract_lets f s1
  split
  · rfl
  · exact (updClk_stageFrame ..).trans (applySwitch_stageFrame s1)

/-- A test of the tiles that finds nothing, in an array whose banks can all be repaired (R356). -/
theorem execS5_clean (rd : List U32) (at5 : AtStage s 5) (repairable : s.ramp.unrepairable = []) (rows : s.ramp.grid.rows ≠ 0) :
    execS5TileTest [] rd s
      = .next ((s.ramp.parkHeld (allZones.filter fun z => s.ramp.check.faultHeld.testBit z)).stageDone 5 6) := by
  unfold execS5TileTest
  rw [if_neg (by simp [at5.inStage])]
  simp only [repairable, List.append_nil, List.filter_nil, List.any_nil, Bool.false_eq_true, if_false, State.s5Enter, List.foldl_nil, if_neg rows]

/-! ## S6: the stacks -/

theorem stackOut_stageFrame (s : State) (m : StackIx) (state : Nat) : (s.stackOut m state).stageFrame = s.stageFrame := rfl

theorem stackOut_present (s : State) (m : StackIx) (state : Nat) : (s.stackOut m state).mem.present = s.mem.present := rfl

/-- A stack that trains becomes present; what else it changes is its own entry and the retry table (R358). -/
theorem stackIn_eq (s : State) (m : StackIx) (r : TrainResult) : ∃ (v : State), ItemsNoted (s.updStack m fun k =>
      { StackSt.reset with state := 1, speed := speedOf (s.actionOf 6 m.val), temp := k.temp, spareBlocks := s.grid.blocksUsed m.val }) v
    ∧ s.stackIn m r = { v with
      mem := { v.mem with present := v.mem.present ||| (1#16 <<< m.val) }
      life := { v.life with stackTraining := setBit v.life.stackTraining m.val true } } := by
  unfold State.stackIn
  extract_lets fresh i sp recorded s1 s2 s3
  have passed : ItemsNoted _ s1 := retryPass_noted _ 6 i
  have trained : ItemsNoted s1 s2 := by
    unfold s2
    split
    · exact itemFails_noted ..
    · exact .refl s1
  have removed : ItemsNoted s2 s3 := by
    unfold s3
    split
    · exact .refl s2
    · exact ⟨_, _, _, _, _, _, _, rfl⟩
  exact ⟨s3, (passed.trans trained).trans removed, rfl⟩

/-- At S6 a stack leaves the frame of the stage, and becomes present only where it is fitted (R212, R358). -/
theorem stackAtS6_fitted (results : List (StackIx × TrainResult)) (s : State) (m : StackIx) :
    (s.stackAtS6 results m).stageFrame = s.stageFrame
      ∧ ∀ i : Fin 16, bitOf (s.stackAtS6 results m).mem.present i.val = true → bitOf s.mem.present i.val = true ∨ bitOf s.fuses.stacksFitted i.val = true := by
  unfold State.stackAtS6
  extract_lets i r
  split
  · exact ⟨rfl, fun _ => .inl⟩
  next fitted =>
  split
  · exact ⟨rfl, fun _ => .inl⟩
  split
  · exact ⟨rfl, fun _ => .inl⟩
  split
  · obtain ⟨_, _, _, _, _, _, _, fails⟩ := itemFailsNow_noted (s.stackOut m 2) 6 i rcTrain
    rw [fails]
    exact ⟨rfl, fun _ => .inl⟩
  · obtain ⟨v, ⟨_, _, _, _, _, _, _, rfl⟩, trains⟩ := stackIn_eq s m r
    rw [trains]
    refine ⟨rfl, fun j present => ?_⟩
    rw [bitOf, BitVec.getLsbD_or, Bool.or_eq_true] at present
    refine present.imp id fun isM => ?_
    obtain rfl : j = m := by
      simp at isM
      omega
    simpa using fitted

/-- After S6 the stacks that are present are fitted. -/
theorem stacksAtS6_fitted (results : List (StackIx × TrainResult)) (ms : List StackIx) (s : State) (none : s.mem.present = 0) :
    (ms.foldl (fun (u : State) m => u.stackAtS6 results m) s).stageFrame = s.stageFrame
      ∧ ∀ i : Fin 16, bitOf (ms.foldl (fun (u : State) m => u.stackAtS6 results m) s).mem.present i.val = true
        → bitOf s.fuses.stacksFitted i.val = true := by
  refine List.foldlRecOn (motive := fun u : State => u.stageFrame = s.stageFrame
    ∧ ∀ i : Fin 16, bitOf u.mem.present i.val = true → bitOf s.fuses.stacksFitted i.val = true) ms _
    ⟨rfl, fun i present => by simp [none, bitOf] at present⟩ fun u before m _ => ?_
  obtain ⟨frame, fitted⟩ := before
  obtain ⟨same, next⟩ := stackAtS6_fitted results u m
  have fuses : u.fuses = s.fuses := congrArg StageFrame.fuses frame
  exact ⟨same.trans frame, fun i present => (next i present).elim (fitted i) fun fit => fuses ▸ fit⟩

/-! ## S8: the links -/

theorem dieLinks_stageFrame (s : State) (k : Nat) (f : Nat → LinkSt → LinkSt) : (s.dieLinks k f).stageFrame = s.stageFrame :=
  foldl_view (view := State.stageFrame) (f := fun (u : State) l => u.linkTo l (f l (u.linkSt l))) (fun _ _ => rfl) _ s

theorem dieAtS8_stageFrame (failed : List LinkDieIx) (links : List (LinkIx × LinkTrain)) (s : State) (k : Nat) :
    (s.dieAtS8 failed links k).stageFrame = s.stageFrame := by
  unfold State.dieAtS8
  extract_lets down s1
  generalize (if k < 9 then 48 else 49) = laserRail
  split
  · rfl
  split
  · exact dieLinks_stageFrame ..
  split
  · exact (itemFailsNow_noted ..).stageFrame.trans (dieLinks_stageFrame ..)
  · have trained : s1.stageFrame = s.stageFrame := (retryPass_noted ..).stageFrame.trans (dieLinks_stageFrame ..)
    clear_value s1
    exact trained

/-! ## The stages as a whole -/

theorem execS3_done (at3 : AtStage s 3) : ∃ v : State,
    v.stageFrame = (s.updPwr fun p => { p with bands := 0xFF, memIf := s.memIfMask }).stageFrame ∧ execS3DomainsOn [] s = .next (v.stageDone 3 4) := by
  unfold execS3DomainsOn
  rw [if_neg (by simp [at3.inStage])]
  extract_lets s1 s2 s3
  have zones : s2.stageFrame = s1.stageFrame := foldl_view (view := State.stageFrame) (fun u z => zoneAtS3_stageFrame u z []) _ s1
  have links : s3.stageFrame = s2.stageFrame := foldl_view (view := State.stageFrame) (f := fun (u : State) l => u.updLink l fun k =>
    { k with state := if k.state = lsDark then lsHold else k.state }) (fun _ _ => rfl) _ s2
  exact ⟨s3, (links.trans zones).trans rfl, rfl⟩

theorem execS4_fails (z : ZoneIx) (at4 : AtStage s 4) : ∃ v : State, ItemsNoted s v ∧ execS4ClockAlignment [z] s = .next (v.endStart 4 2) := by
  unfold execS4ClockAlignment
  rw [if_neg (by simp [at4.inStage])]
  extract_lets bad s1 s2
  have isBad : z.val ∈ bad := List.mem_filter.mpr ⟨List.mem_range.mpr z.isLt, by simp⟩
  rw [if_neg (by simpa using List.ne_nil_of_mem isBad)]
  exact ⟨_, ItemsNoted.foldl (fun u z => itemFailsNow_noted u 4 z rcNotGood) bad s, rfl⟩

theorem execS6_done (results : List (StackIx × TrainResult)) (at6 : AtStage s 6) : ∃ v : State, v.stageFrame = s.stageFrame
    ∧ (∀ i : Fin 16, bitOf v.mem.present i.val = true → bitOf s.fuses.stacksFitted i.val = true)
    ∧ execS6StackTraining results s = .next (v.stageDone 6 7) := by
  unfold execS6StackTraining
  rw [if_neg (by simp [at6.inStage])]
  extract_lets mem s1 s2
  have after : s2.stageFrame = s.stageFrame ∧ ∀ i : Fin 16, bitOf s2.mem.present i.val = true → bitOf s.fuses.stacksFitted i.val = true :=
    stacksAtS6_fitted results (List.finRange 16) s1 rfl
  clear_value s2
  obtain ⟨frame, fitted⟩ := after
  obtain ⟨_, _, _, _, targeted⟩ := retarget_eq s2
  rw [targeted]
  refine ⟨_, ?_, ?_, rfl⟩
  · exact frame
  · exact fitted

theorem execS8_done (failed : List LinkDieIx) (links : List (LinkIx × LinkTrain)) (powered : s.boot.powered = true) (s8 : s.boot.s8Done = false)
    (from5 : 5 ≤ s.boot.stage) (to8 : s.boot.stage ≤ 8) : ∃ v : State, v.stageFrame = s.stageFrame
      ∧ execS8LinkBringup failed links s = .next ((v.updBoot fun b =>
        { b with s8Done := true, stage := if b.stage = 8 then 9 else b.stage }).stageOutcome 8 s.sinceT0) := by
  unfold execS8LinkBringup
  extract_lets b s1
  rw [if_neg (by simp [b, powered, s8, from5, to8])]
  exact ⟨s1, foldl_view (view := State.stageFrame) (dieAtS8_stageFrame failed links) (upTo 18) _, rfl⟩

/-! ## A zone that gets hot -/

theorem hotItem_noted (s : State) (z : ZoneIx) :
    ItemsNoted s (match hotItem s.boot.stage with | some k => s.itemFailsNow k z.val rcHot | none => s) := by
  split
  · exact itemFailsNow_noted ..
  · exact .refl s

/-- A start that a zone too hot for it ends, with every zone core off (R338, R359). -/
theorem execFailedHot_trips (z : ZoneIx) (powered : s.boot.powered = true) (from3 : 3 ≤ s.boot.stage) (to9 : s.boot.stage ≤ 9) :
    ∃ (v : State) (pwr : PwrSt), ItemsNoted s v ∧ pwr.tripped = true ∧ (∀ y : Fin 48, (pwr.zones[y]).state = zsOff)
      ∧ execFailedHot z s = .next (({ v with tiles := [], pwr := pwr } : State).endStart s.boot.stage 4) := by
  have opened : ¬ (! s.boot.powered || decide (s.boot.stage < 3) || decide (9 < s.boot.stage)) = true := by simp [powered]; omega
  unfold execFailedHot
  extract_lets b now s1 s2
  rw [if_neg opened]
  exact ⟨s1, _, hotItem_noted s z, rfl, fun y => congrArg ZonePwr.state (Vector.getElem_map _ y.isLt), rfl⟩

end

/-- Settles O31: the items of a stage leave its frame alone, and the stage's outcome moves the start on or ends it. -/
theorem startStages3To9 : Obligations.StartStages3To9 := by
  unfold Obligations.StartStages3To9
  refine ⟨fun s at3 => ?s3, fun s at4 plain => ?s4, fun s z at4 => ?s4Fails, fun s rd at5 repairable rows => ?s5, fun s rs at6 => ?s6,
    fun s fd ls powered s8 from5 to8 => ?s8, fun s ms at9 s8 => ?s9, fun s item opened clock fetch => ?budget, fun s z powered from3 to9 => ?hot⟩
  case s3 =>
    obtain ⟨v, frame, runs⟩ := execS3_done at3
    have powered : v.boot.powered = true := (congrArg StageFrame.powered frame).trans at3.powered
    exact ⟨_, (exec_s3DomainsOn [] s).trans runs, ⟨congrArg StageFrame.fuses frame, congrArg StageFrame.queue frame⟩,
      stageDone_atStage powered 3, congrArg StageFrame.bands frame, congrArg StageFrame.memIf frame⟩
  case s4 =>
    obtain ⟨_, _, _, freq, locks, runs⟩ := execS4_aligned at4 plain
    exact ⟨_, (exec_s4ClockAlignment [] s).trans runs, ⟨rfl, rfl⟩, ⟨at4.powered, rfl⟩, freq, locks⟩
  case s4Fails =>
    obtain ⟨v, ⟨_, _, _, _, _, _, _, rfl⟩, runs⟩ := execS4_fails z at4
    exact ⟨_, (exec_s4ClockAlignment [z] s).trans runs, ⟨rfl, rfl⟩, ⟨at4.powered, rfl⟩, rfl⟩
  case s5 =>
    have runs := (exec_s5TileTest [] rd s).trans (execS5_clean rd at5 repairable rows)
    have frame := ramp_stageFrame s
    generalize s.ramp = v at runs frame
    obtain ⟨_, _, parks⟩ := parkHeld_eq v (allZones.filter fun z => v.check.faultHeld.testBit z)
    rw [parks] at runs
    exact ⟨_, runs, (keepsFuses_of_stageFrame frame).trans ⟨rfl, rfl⟩, ⟨(at5.of_stageFrame frame).powered, rfl⟩,
      congrArg StageFrame.grid frame, congrArg StageFrame.defects frame, rfl⟩
  case s6 =>
    obtain ⟨v, frame, fitted, runs⟩ := execS6_done rs at6
    exact ⟨_, (exec_s6StackTraining rs s).trans runs, (keepsFuses_of_stageFrame frame).trans ⟨rfl, rfl⟩,
      stageDone_atStage (at6.of_stageFrame frame).powered 6, fitted⟩
  case s8 =>
    obtain ⟨v, frame, runs⟩ := execS8_done fd ls powered s8 from5 to8
    have stage : v.boot.stage = s.boot.stage := congrArg StageFrame.stage frame
    exact ⟨_, (exec_s8LinkBringup fd ls s).trans runs, (keepsFuses_of_stageFrame frame).trans ⟨rfl, rfl⟩, rfl, by rw [← stage]; rfl⟩
  case s9 =>
    have runs : execS9Usable ms s = _ := if_pos (by simp [at9.inStage, s8])
    have usable : (s.boot.powered && 10 == 10) = true := by simp [at9.powered]
    exact ⟨_, (exec_s9Usable ms s).trans runs, ⟨rfl, rfl⟩, ⟨at9.powered, rfl⟩, rfl, usable, rfl, rfl, rfl⟩
  case budget =>
    obtain ⟨_, _, _, fails⟩ := itemFails_eq s item.kind.val item.unit rcBudget
    have runs : execItemBudgetExpiry item s = .next ((s.itemFails item.kind.val item.unit rcBudget).updBoot fun b =>
        { b with left := b.left ++ [(item.kind.val, item.unit)] }) := by
      unfold execItemBudgetExpiry
      extract_lets k s1
      rw [if_neg (by simp [k, opened]), if_neg clock, if_neg fetch]
    rw [fails] at runs
    exact ⟨_, (exec_itemBudgetExpiry item s).trans runs, ⟨rfl, rfl⟩, rfl, rfl, rfl, rfl, rfl⟩
  case hot =>
    obtain ⟨v, pwr, ⟨_, _, _, _, _, _, _, rfl⟩, tripped, off, runs⟩ := execFailedHot_trips z powered from3 to9
    exact ⟨_, (exec_failedHot z s).trans runs, ⟨rfl, rfl⟩, ⟨powered, rfl⟩, rfl, tripped, off, rfl⟩

end Sys2Proof.Machine
end

section
namespace Sys2Proof.Machine

/-! # The Ecmet firmware (R360 to R363) -/

section
variable {s : State}

/-! ## S7 and the fetches of the tiles -/

/-- The end of S7 touches the retry table and what the outcome of a stage writes. -/
theorem endS7_eq (s : State) : ∃ retry log committed stage stageMs elapsedMs events, s.endS7 = { s with
    life := { s.life with retry := retry, log := log, committed := committed }
    boot := { s.boot with stage := stage, stageMs := stageMs, elapsedMs := elapsedMs }
    events := events } := by
  unfold State.endS7
  extract_lets s1
  split
  · obtain ⟨_, passed⟩ := retryPasses_eq s 8 (maskZones s.fetchZones)
    rw [show s1 = _ from passed]
    exact ⟨_, _, _, _, _, _, _, rfl⟩
  · exact ⟨_, _, _, _, _, _, _, rfl⟩

theorem endS7_inService (usable : s.boot.stage = 10) : s.endS7 = s := if_neg (by simp [State.inStage, usable])

/-- What S7 puts in force of the slot whose image verified. -/
def State.imageTaken (s : State) (slot : Nat) (half : Vector (List Byte) 2) (chunk : Nat) : State :=
  { s with
    mem := { s.mem with fwStore := half }
    boot := { s.boot with image := some (fwImage (s.ecmetSlotBytes slot)), reported := [], chunks := [], rounds := 0, nextChunk := chunk }
    life := { s.life with ecmetSlot := slot } }

theorem execS7_takes (at7 : AtStage s 7) (fresh : s.boot.image = none) {v : State} {slot : Nat}
    (tried : s.trySlots 9 imgEcmet s.ecmetSlotBytes (s.slotOrder 9 s.life.ecmetSlot) = (v, some slot)) :
    ∃ half chunk, execS7EcmetFirmware s = .next (v.imageTaken slot half chunk).endS7 := by
  unfold execS7EcmetFirmware
  rw [if_neg (by simp [at7.inStage, fresh])]
  simp only [tried]
  exact ⟨_, _, rfl⟩

theorem execS7_ends (at7 : AtStage s 7) (fresh : s.boot.image = none) {v : State}
    (tried : s.trySlots 9 imgEcmet s.ecmetSlotBytes (s.slotOrder 9 s.life.ecmetSlot) = (v, none)) :
    execS7EcmetFirmware s = .next (v.endStart 7 2) := by
  unfold execS7EcmetFirmware
  rw [if_neg (by simp [at7.inStage, fresh])]
  simp only [tried]

/-- A tile that has been told to report stands among the tiles that have. -/
theorem mem_reported (l : List Nat) (t : Nat) : (if l.contains t then l else l ++ [t]).contains t = true := by
  split
  · assumption
  · simp

/-! ## The image of an update -/

theorem verifyImage_good {kind : Nat} {b : List Byte} (good : s.imageFault kind b = 0) : s.verifyImage kind b = (s, true) := if_pos good

theorem verifyImage_bad {kind : Nat} {b : List Byte} (bad : s.imageFault kind b ≠ 0) : ∃ ctr,
    s.verifyImage kind b = ({ s with prot := { s.prot with lastReject := s.imageFault kind b }, ctr := ctr }, false) :=
  ⟨_, if_neg bad⟩

theorem setUpd_eq (s : State) (st : Nat) : ∃ events, s.setUpd st = { s with boot := { s.boot with updState := st }, events := events } := ⟨_, rfl⟩

/-- An update whose image verifies is broadcast from its first chunk (R362). -/
theorem writeFwUpdate_good {img : List Byte} (idle : s.boot.updState = 0) (staged : s.memBytes s.boot.stageAddr.toNat (256 + 65536) = img)
    (good : s.imageFault imgEcmet img = 0) : ∃ half events, State.writeFwUpdate 1 s = ({ s with
      mem := { s.mem with fwStore := half }
      boot := { s.boot with
        staged := some (fwImage img), nextChunk := 0, chunks := [], reported := [], laggards := [], updState := fuBroadcasting }
      events := events }, 0) := by
  have verified : (s.setUpd fuVerifying).verifyImage imgEcmet img = (s.setUpd fuVerifying, true) := verifyImage_good good
  unfold State.writeFwUpdate
  simp only [staged, verified, idle]
  rw [if_neg (by decide), if_neg (by decide), if_neg (by decide)]
  obtain ⟨_, verifying⟩ := setUpd_eq s fuVerifying
  generalize taken : State.updBoot _ _ = v
  obtain ⟨events, broadcasting⟩ := setUpd_eq v fuBroadcasting
  rw [broadcasting, ← taken, verifying]
  exact ⟨_, events, rfl⟩

theorem writeFwUpdate_bad {img : List Byte} (idle : s.boot.updState = 0) (staged : s.memBytes s.boot.stageAddr.toNat (256 + 65536) = img)
    (bad : s.imageFault imgEcmet img ≠ 0) : ∃ ctr events, State.writeFwUpdate 1 s = ({ s with
      prot := { s.prot with lastReject := s.imageFault imgEcmet img }
      ctr := ctr
      boot := { s.boot with updState := fuFailed }
      events := events }, 0x0A04) := by
  obtain ⟨ctr, verified⟩ := verifyImage_bad (s := s.setUpd fuVerifying) (kind := imgEcmet) (b := img) bad
  unfold State.writeFwUpdate
  simp only [staged, verified, idle]
  rw [if_neg (by decide), if_neg (by decide), if_pos (by decide)]
  exact ⟨ctr, _, rfl⟩

/-- The statuses of the chapter of starts have no counter among the protocol's (R372, R432). -/
theorem countRefusal_start {st : Nat} (chapter : st / 256 = 0x0A) : s.countRefusal st = s := by
  have other (k : Nat) (protocol : k / 256 ≠ 0x0A) : st ≠ k := fun same => protocol (same ▸ chapter)
  unfold State.countRefusal
  rw [if_neg (other _ (by decide)), if_neg (other _ (by decide)), if_neg (other _ (by decide)), if_neg (other _ (by decide)),
    if_neg (other _ (by decide)), if_neg (by simp [chapter])]

/-! ## The chunks -/

/-- While an update is broadcast or repaired it is the staged image that is carried. -/
theorem bcastImage_update (update : s.boot.updState = fuBroadcasting ∨ s.boot.updState = fuRepairing) : s.bcastImage = s.boot.staged := if_pos update

theorem chunksOf_stageChunk (s : State) (t c : Nat) : (s.stageChunk t c).chunksOf t = s.chunksOf t ||| 2 ^ c := by
  have some : SMap.get 0 s.boot.chunks t ||| 2 ^ c ≠ 0 := by simp [Nat.or_eq_zero_iff]
  exact (congrArg (fun m => SMap.get 0 m t) (if_neg some)).trans (SMap.get_ins_same ..)

theorem chunksOf_stageChunk_ne (s : State) {t T : Nat} (c : Nat) (other : T ≠ t) : (s.stageChunk t c).chunksOf T = s.chunksOf T :=
  SMap.get_put_ne 0 s.boot.chunks _ other

theorem testBit_stageChunk (s : State) (t c : Nat) : ((s.stageChunk t c).chunksOf t).testBit c = true := by
  simp [chunksOf_stageChunk]

/-- In service a tile that has the whole image only reports. -/
theorem reportIfWhole_inService (usable : s.boot.stage = 10) (t : Nat) : ∃ reported, s.reportIfWhole t = { s with boot := { s.boot with reported := reported } } := by
  have served : ¬ s.inStage 7 = true := by simp [State.inStage, usable]
  unfold State.reportIfWhole
  split
  · rw [if_neg served]
    split
    · exact ⟨_, rfl⟩
    · exact ⟨_, rfl⟩
  · exact ⟨_, rfl⟩

theorem afterFinal_eq (s : State) : ∃ updState events, s.afterFinal = { s with boot := { s.boot with updState := updState }, events := events } := by
  unfold State.afterFinal
  extract_lets st
  split
  · exact ⟨_, _, rfl⟩
  · exact ⟨_, _, rfl⟩

/-- Every tile of a zone that is on loads the staged image, which is then in force (R363). -/
theorem execFwActivation_loads {f : FwImage} (staged : s.boot.staged = some f) (waits : s.boot.updState = fuWaiting) (free : s.betweenJobs = true)
    (reported : s.updateTiles.all (fun t => s.boot.reported.contains t) = true) : ∃ tiles images half events,
      execFwActivation s = .next { s with
        tiles := tiles
        life := { s.life with ecmetSlot := 1 - s.life.ecmetSlot, ecmetImages := images }
        mem := { s.mem with fwHalf := half }
        boot := { s.boot with image := some f, staged := none, chunks := [], updState := fuActivated }
        events := events } := by
  obtain ⟨_, loaded⟩ := forTiles_tiles s (s.zoneTiles (zonesMask (allZones.filter s.zoneOn))) fun _ t => t.loadFw f.sec
  unfold execFwActivation
  rw [staged]
  dsimp only
  rw [if_pos ⟨waits, free, reported⟩, loaded]
  exact ⟨_, _, _, _, rfl⟩

end

/-- Settles O33: each step of a fetch or of an update changes the tiles it loads, its own record of the update, and the store of the image. -/
theorem ecmetFirmware : Obligations.EcmetFirmware := by
  unfold Obligations.EcmetFirmware
  refine ⟨fun s at7 fresh => ?s7, fun s t f good inv here image on digest fetched usable => ?fetch, fun s car served idle => ?control,
    fun s f update staged more => ?chunk, fun s t c f here update staged left most => ?receive, fun s t c here update missed usable => ?refetch,
    fun s f staged waits free reported => ?activate, fun s update => ?laggards⟩
  case s7 =>
    have noted := trySlots_noted s 9 imgEcmet s.ecmetSlotBytes (s.slotOrder 9 s.life.ecmetSlot)
    rcases tried : s.trySlots 9 imgEcmet s.ecmetSlotBytes (s.slotOrder 9 s.life.ecmetSlot) with ⟨v, found⟩
    rw [tried] at noted
    obtain ⟨_, _, _, _, _, _, _, rfl⟩ := noted
    cases found with
    | some slot =>
      obtain ⟨_, _, runs⟩ := execS7_takes at7 fresh tried
      obtain ⟨_, _, _, _, _, _, _, ends⟩ := endS7_eq (State.imageTaken _ slot _ _)
      rw [ends] at runs
      refine ⟨_, (exec_s7EcmetFirmware s).trans runs, ⟨rfl, rfl⟩, fun slot' same => ?_, fun unfound => nomatch unfound⟩
      obtain rfl := Option.some.inj same
      exact ⟨rfl, rfl⟩
    | none =>
      refine ⟨_, (exec_s7EcmetFirmware s).trans (execS7_ends at7 fresh tried), ⟨rfl, rfl⟩, fun slot found => ?_, fun _ => ⟨⟨at7.powered, rfl⟩, rfl⟩⟩
      exact nomatch found
  case fetch =>
    have runs : execTileFirmwareFetch t good s = .next (s.tileReports t.val f) := by
      unfold execTileFirmwareFetch
      rw [if_neg (by simp [here]), image]
      dsimp only
      rw [if_neg (by simp [on]), if_pos ⟨digest, fetched⟩, endS7_inService (s := s.tileReports t.val f) usable]
    exact ⟨_, (exec_tileFirmwareFetch t good s).trans runs, rfl, tile_updTile_same _ _ inv.2, fun T other => tile_updTile_ne s _ other,
      mem_reported s.boot.reported t.val⟩
  case control =>
    generalize held : s.memBytes s.boot.stageAddr.toNat (256 + 65536) = img
    by_cases good : s.imageFault imgEcmet img = 0
    · obtain ⟨_, _, writes⟩ := writeFwUpdate_good idle held good
      exact ⟨_, served.answered (exec_fwUpdateControl car 1 s) writes (countRefusal_zero _), ⟨rfl, rfl⟩, rfl, rfl, rfl,
        fun _ => ⟨rfl, rfl, rfl, rfl, rfl⟩, fun bad => absurd good bad⟩
    · obtain ⟨_, _, writes⟩ := writeFwUpdate_bad idle held good
      exact ⟨_, served.answered (exec_fwUpdateControl car 1 s) writes (countRefusal_start (by decide)), ⟨rfl, rfl⟩, rfl, rfl, rfl,
        fun none => absurd none good, fun _ => ⟨rfl, rfl, rfl, rfl⟩⟩
  case chunk =>
    have runs : execFwChunkBroadcast s = .next ((s.updBoot fun b => { b with nextChunk := s.boot.nextChunk + 1 }).send
        (.chunk f.version s.boot.nextChunk (chunkDigest f.sec s.boot.nextChunk).toNat)) := by
      unfold execFwChunkBroadcast
      rw [bcastImage_update (.inl update), staged]
      exact if_pos more
    exact ⟨_, (exec_fwChunkBroadcast s).trans runs, rfl, rfl, rfl⟩
  case receive =>
    have carried : s.bcastImage = some f := (bcastImage_update (.inl update)).trans staged
    have runs : execFwChunkReceive t c true true s = .next (s.stageChunk t.val c.val) := by
      unfold execFwChunkReceive
      rw [if_neg (by simp [here]), if_pos (by simp [carried, left, most])]
    exact ⟨_, (exec_fwChunkReceive t c true true s).trans runs, rfl, testBit_stageChunk .., fun T other => chunksOf_stageChunk_ne s c.val other⟩
  case refetch =>
    have runs : execFwChunkRefetch t c s = .next ((((s.stageChunk t.val c.val).bump (ck 0x0122 5) 1).reportIfWhole t.val).afterFinal) := by
      unfold execFwChunkRefetch
      rw [if_neg (by simp [here]), if_pos ⟨update, missed⟩]
    obtain ⟨_, reports⟩ := reportIfWhole_inService (s := (s.stageChunk t.val c.val).bump (ck 0x0122 5) 1) usable t.val
    obtain ⟨_, _, final⟩ := afterFinal_eq (((s.stageChunk t.val c.val).bump (ck 0x0122 5) 1).reportIfWhole t.val)
    rw [final, reports] at runs
    exact ⟨_, (exec_fwChunkRefetch t c s).trans runs, rfl, testBit_stageChunk s t.val c.val, counted_of_bump rfl one_pos⟩
  case activate =>
    obtain ⟨_, _, _, _, runs⟩ := execFwActivation_loads staged waits free reported
    exact ⟨_, (exec_fwActivation s).trans runs, ⟨rfl, rfl⟩, rfl, rfl, rfl, rfl, rfl, rfl⟩
  case laggards =>
    have runs : execFwLaggardTimeout s = _ := if_pos update
    exact ⟨_, (exec_fwLaggardTimeout s).trans runs, rfl, rfl, rfl, rfl, rfl⟩

end Sys2Proof.Machine
end

section
namespace Sys2Proof.Machine

/-! # The event queues and the resets of the host interface (R406, R410 to R413, R418, R419) -/

/-! ## What the drain of the backlog touches (R411) -/

section
variable {s u v : State}

/-- The queues and the backlog may have changed, and messages have left. -/
def Drained (s u : State) : Prop := ∃ eqs backlog es, u = { s with host := { s.host with eqs := eqs, backlog := backlog }, out := s.out ++ es }

theorem Drained.refl (s : State) : Drained s s := ⟨s.host.eqs, s.host.backlog, [], by rw [List.append_nil]⟩

theorem Drained.trans (h : Drained s u) (h' : Drained u v) : Drained s v := by
  obtain ⟨_, _, es, rfl⟩ := h
  obtain ⟨eqs, backlog, es', rfl⟩ := h'
  exact ⟨eqs, backlog, es ++ es', by rw [← List.append_assoc]⟩

theorem Drained.foldl {α : Type} {f : State → α → State} (step : ∀ u a, Drained u (f u a)) (l : List α) (s : State) : Drained s (l.foldl f s) :=
  List.foldlRecOn l f (.refl s) fun u before a _ => before.trans (step u a)

/-- An entry goes to the ring of its queue, whose tail moves on. -/
theorem writeEntry_eq (s : State) (q : Fin 16) (e : Event) : ∃ bytes, s.writeEntry q e =
    (s.send (.hostWrite ((s.host.eqs[q]).base.toNat + 32 * (s.host.eqs[q]).tail) bytes)).updEq q (fun k => { k with
      tail := ((s.host.eqs[q]).tail + 1) % (s.host.eqs[q]).ring
      phase := if ((s.host.eqs[q]).tail + 1) % (s.host.eqs[q]).ring = 0 then ! k.phase else k.phase
      unsignalled := k.unsignalled + 1 })
    ∧ bytes.getD 1 0 = (if (s.host.eqs[q]).phase then 0x80 else 0) ∧ bytes.drop 2 = (entryBytes e.kind e.unit e.tally e.data).drop 2 :=
  ⟨_, rfl, rfl, rfl⟩

theorem writeEntry_drained (s : State) (q : Fin 16) (e : Event) : Drained s (s.writeEntry q e) := by
  obtain ⟨_, written, -, -⟩ := writeEntry_eq s q e
  exact ⟨_, s.host.backlog, _, written⟩

theorem drainOne_drained (s : State) (q : Fin 16) : Drained s (s.drainOne q) := by
  unfold State.drainOne
  split
  · exact .refl s
  split
  · obtain ⟨_, _, _, written⟩ := writeEntry_drained s q ⟨0x0F, q.val, leOfNat 8 (s.eq_ q).dropped, s.tally.now⟩
    rw [written]
    exact ⟨_, _, _, rfl⟩
  split
  · exact .refl s
  · refine Drained.trans ?_ (writeEntry_drained _ q _)
    exact ⟨s.host.eqs, _, [], by rw [List.append_nil]; rfl⟩

theorem drainAll_drained (s : State) : Drained s s.drainAll := .foldl (fun u q => .foldl (fun u _ => drainOne_drained u q) _ u) _ s

/-- An empty queue has nothing to drain. -/
theorem drainQueue_empty (empty : noBacklog s) (q : Fin 16) : s.drainQueue q = s := by
  obtain ⟨backlog, dropped⟩ := empty
  have rest : s.drainOne q = s := by
    unfold State.drainOne
    split
    · rfl
    · rw [if_neg (show ¬ (s.eq_ q).dropped ≠ 0 from not_not.mpr (dropped q)), backlog]
      rfl
  unfold State.drainQueue
  rw [backlog]
  exact rest

theorem setBusMaster_drained (s : State) (b : Bool) : Drained (s.updHost fun h => { h with busMaster := b }) (s.setBusMaster b) := by
  cases b with
  | true => exact drainAll_drained _
  | false => exact .refl _

end

/-! ## Resets (R418, R419) -/

section
variable {s u : State}

/-- After a reset every vector of the MSI-X table is masked. -/
theorem msixReset_masks {v : Nat} (vector : v < 64) : bitOf (msixReset.read (16 * v + 12)) 0 = true := by
  have entry : ∀ v : Fin 64, bitOf (msixReset.read (16 * v.val + 12)) 0 = true := by decide
  exact entry ⟨v, vector⟩

theorem hostReset_wasReset (s : State) : HostWasReset s s.hostReset where
  rest := rfl
  master := rfl
  d0 := rfl
  base := rfl
  routes := rfl
  queues := rfl
  backlog := rfl
  masked _ vector := msixReset_masks vector
  messages := rfl
  slots n := congrArg Mbx.state (Vector.getElem_map _ n.isLt)
  sessions := rfl
  waiting := List.length_map _
  trace := ⟨rfl, rfl⟩
  ports := ⟨rfl, rfl, rfl⟩

/-- What a reset of the interface leaves, whether or not the link goes down with it. -/
theorem HostWasReset.link (h : HostWasReset s u) (up perst : Bool) : HostWasReset s (u.updHost fun h => { h with linkUp := up, perst := perst }) :=
  ⟨h.rest, h.master, h.d0, h.base, h.routes, h.queues, h.backlog, h.masked, h.messages, h.slots, h.sessions, h.waiting, h.trace, h.ports⟩

/-- Recording an error before the reset changes nothing that the reset leaves. -/
theorem HostWasReset.recorded {k : Nat} (h : HostWasReset (s.aerErr k) u) : HostWasReset s u :=
  ⟨(congrArg (fun v : State => { v with host := s.host }) h.rest :), h.master, h.d0, h.base, h.routes, h.queues, h.backlog, h.masked, h.messages, h.slots,
    h.sessions, h.waiting, h.trace, h.ports⟩

end

/-! ## Configuration requests (R369, R406) -/

section
variable {s : State}

theorem bnot_ne_true {b : Bool} (holds : b = true) : ¬ (! b) = true := by rw [holds]; decide

theorem linkOn_of_configOn (on : s.configOn = true) : s.linkOn = true := (Bool.and_eq_true_iff.mp on).1

theorem listening_of_configOn (on : s.configOn = true) : s.listening = true := (Bool.and_eq_true_iff.mp on).2

/-- The class code of R434 above a revision of eight bits. -/
theorem configRead_class (s : State) : ∃ rev, rev < 256 ∧ s.configRead 8 = 0x120000 * 256 + rev := ⟨_, Nat.mod_lt _ (by decide), rfl⟩

theorem configRequest_read (on : s.configOn = true) (off : Nat) (v : U32) :
    execPcieConfigRequest false off v s = .next (s.send (.completion cplOk false (leOfNat 4 (s.configRead off)))) := by
  simp [execPcieConfigRequest, linkOn_of_configOn on, listening_of_configOn on]

/-- A write changes the configuration bytes and, at the command register, Bus Master Enable, with which the backlog may leave (R413). -/
theorem configRequest_write (on : s.configOn = true) (off : Nat) (v : U32) : ∃ (host : HostSt) (es : List Out),
    host.busMaster = (if off / 4 = 1 then v.getLsbD 2 else s.host.busMaster)
      ∧ execPcieConfigRequest true off v s = .next { s with host := host, out := s.out ++ es ++ [.completion 0 false []] } := by
  unfold execPcieConfigRequest
  extract_lets s1 s2
  rw [if_neg (bnot_ne_true (linkOn_of_configOn on)), if_neg (bnot_ne_true (listening_of_configOn on)), if_pos rfl]
  by_cases command : off / 4 = 1
  · obtain ⟨_, _, es, drained⟩ := setBusMaster_drained s1 (bitOf v 2)
    rw [if_pos command, show s2 = _ from (if_pos command).trans drained]
    exact ⟨_, es, rfl, rfl⟩
  · rw [if_neg command, show s2 = s1 from if_neg command]
    exact ⟨s1.host, [], rfl, by rw [List.append_nil]; rfl⟩

end

/-- Settles O43: the configuration space answers by the state of the link, and every reset is `hostReset` with the link as it says. -/
theorem hostLinkAndResets : Obligations.HostLinkAndResets := by
  unfold Obligations.HostLinkAndResets
  refine ⟨fun s off v link mute => ?retried, fun s v on => ?ids, fun s v on => ?cls, fun s off v on => ?write, fun s on => ?flr, fun s link => ?hot,
    fun s up => ?down, fun s free => ?perst, fun s link => ?fatal, fun s => ?release, fun s rate width powered started free settles => ?up,
    fun s on => ?d3, fun s on d3 => ?d0, fun s on => ?master⟩
  case retried =>
    have runs : execPcieConfigRequest false off v s = .next (s.send (.completion cplRetry false [])) := by simp [execPcieConfigRequest, link, mute]
    exact ⟨_, (exec_pcieConfigRequest false off v s).trans runs, rfl, rfl⟩
  case ids => exact ⟨_, (exec_pcieConfigRequest false 0 v s).trans (configRequest_read on 0 v), rfl, rfl⟩
  case cls =>
    obtain ⟨rev, small, reads⟩ := configRead_class s
    have runs := (exec_pcieConfigRequest false 8 v s).trans (configRequest_read on 8 v)
    rw [reads] at runs
    exact ⟨_, rev, runs, small, rfl, rfl⟩
  case write =>
    obtain ⟨host, es, master, runs⟩ := configRequest_write on off v
    exact ⟨_, es, (exec_pcieConfigRequest true off v s).trans runs, rfl, rfl, master⟩
  case flr => exact ⟨_, next_of_eq (exec_functionLevelReset s) (if_pos on), hostReset_wasReset s, rfl⟩
  case hot => exact ⟨_, next_of_eq (exec_hotReset s) (if_pos link), hostReset_wasReset s, rfl⟩
  case down => exact ⟨_, next_of_eq (exec_pcieLinkDown s) (if_pos up), (hostReset_wasReset s).link false s.host.perst, rfl, rfl⟩
  case perst =>
    exact ⟨_, next_of_eq (exec_perstAssert s) (if_neg (ne_true_of_eq_false free)), (hostReset_wasReset s).link false true, rfl, rfl⟩
  case fatal =>
    refine ⟨_, next_of_eq (exec_aerFatalError s) (if_pos link), ((hostReset_wasReset _).link false s.host.perst).recorded, rfl, ?_⟩
    exact List.contains_iff_mem.mpr ((mem_insNat).mpr (.inl rfl))
  case release => exact ⟨_, exec_perstRelease s, rfl, rfl⟩
  case up =>
    exact ⟨_, next_of_eq (exec_pcieLinkUp rate width s) (if_pos (by simp [powered, started, free, settles])), rfl, rfl⟩
  case d3 => exact ⟨_, next_of_eq (exec_d3hotEntry s) (if_pos on), rfl, rfl⟩
  case d0 =>
    obtain ⟨_, _, es, drained⟩ := drainAll_drained (s.updHost fun h => { h with d3hot := false })
    refine ⟨_, (exec_d0Entry s).trans (congrArg Host.Outcome.next ((if_pos (by simp [on, d3])).trans drained)), rfl, rfl, rfl, rfl, rfl, rfl, rfl⟩
  case master => exact ⟨_, next_of_eq (exec_busMasterDisable s) (if_pos on), rfl, rfl⟩

end Sys2Proof.Machine
end

section
namespace Sys2Proof.Machine

/-! # The registers of BAR0 and the mailboxes (R408 to R410, R414) -/

section
variable {s : State}

theorem linkOn_of_barsOn (on : s.barsOn = true) : s.linkOn = true := by
  simp only [State.barsOn, State.hostUp, Bool.and_eq_true] at on
  obtain ⟨⟨⟨⟨⟨powered, -⟩, up⟩, free⟩, -⟩, -⟩ := on
  simp only [State.linkOn, powered, up, free, Bool.and_self]

theorem barWrite_on (on : s.barsOn = true) (f : State → State) : barWrite f s = .next (f s) := by
  unfold barWrite
  rw [if_neg (bnot_ne_true (linkOn_of_barsOn on)), if_pos on]

theorem barRead_on (on : s.barsOn = true) (f : State → State) : barRead f s = .next (f s) := by
  unfold barRead
  rw [if_neg (bnot_ne_true (linkOn_of_barsOn on)), if_pos on]

theorem barWrite_off (link : s.linkOn = true) (off : s.barsOn = false) (f : State → State) : barWrite f s = .next (s.aerErr aerUR) := by
  unfold barWrite
  rw [if_neg (bnot_ne_true link), if_neg (ne_true_of_eq_false off)]

theorem discardBar0_discarded (s : State) : discarded s s.discardBar0 := ⟨by simp [State.discardBar0], counted_of_bump rfl one_pos⟩

/-! ## Mailboxes -/

theorem mbxSt_val (s : State) (n : Fin 16) : s.mbxSt n.val = s.host.mbx[n] := by
  simp [State.mbxSt, Nat.mod_eq_of_lt n.isLt]

theorem setMbx_same (s : State) (n : Fin 16) (m : Mbx) : (s.setMbx n.val m).host.mbx[n] = m := by
  simp [State.setMbx, State.updHost, Nat.mod_eq_of_lt n.isLt]

theorem setMbx_only (s : State) (n : Fin 16) (m : Mbx) : onlyMbx s (s.setMbx n.val m) n := fun k other => by
  have apart : n.val % 16 ≠ k.val := fun same => other (Fin.ext (by have := n.isLt; omega))
  exact Vector.getElem_set_ne (Nat.mod_lt _ (by decide)) k.isLt apart

theorem mbxSt_setMbx (s : State) (n : Fin 16) (m : Mbx) : (s.setMbx n.val m).mbxSt n.val = m := (mbxSt_val _ n).trans (setMbx_same s n m)

theorem setMbx_setMbx (s : State) (n : Fin 16) (m m' : Mbx) : (s.setMbx n.val m).setMbx n.val m' = s.setMbx n.val m' := by
  simp [State.setMbx, State.updHost]

theorem doorbell_slot (v : U64) (n : Fin 16) (usable : s.usable = true) (normal : s.recovery = false) (named : v.toNat % 16 = n.val) :
    s.doorbell v = if (s.host.mbx[n]).state ≠ 0 then s.bump (ck 0x1040 7) 1 else s.setMbx n.val { s.host.mbx[n] with state := 1 } := by
  unfold State.doorbell
  simp only [named, mbxSt_val, usable, normal, Bool.not_true, Bool.false_and, Bool.or_self, Bool.false_eq_true, if_false]

/-- One slot of a release. -/
def State.releaseSlot (v : U64) (s : State) (n : Nat) : State :=
  if bitOf v n && (s.mbxSt n).state == 3 then s.setMbx n { s.mbxSt n with state := 0 } else s

theorem releaseSlot_eq (v : U64) (s : State) (n : Fin 16) : ∃ mbx, s.releaseSlot v n.val = s.updHost (fun h => { h with mbx := mbx })
    ∧ mbx[n] = (if v.getLsbD n.val = true ∧ (s.host.mbx[n]).state = 3 then { s.host.mbx[n] with state := 0 } else s.host.mbx[n])
    ∧ ∀ k : Fin 16, k ≠ n → mbx[k] = s.host.mbx[k] := by
  unfold State.releaseSlot
  rw [mbxSt_val]
  split
  next ready =>
    have ready : v.getLsbD n.val = true ∧ (s.host.mbx[n]).state = 3 := by simpa [bitOf] using ready
    exact ⟨_, rfl, (setMbx_same s n _).trans (if_pos ready).symm, setMbx_only s n _⟩
  next other =>
    have other : ¬ (v.getLsbD n.val = true ∧ (s.host.mbx[n]).state = 3) := by simpa [bitOf] using other
    exact ⟨s.host.mbx, rfl, (if_neg other).symm, fun _ _ => rfl⟩

/-- After the first `k` slots of a release those that were ready and named are free, and the others are as before. -/
theorem releaseSlots_upTo (v : U64) (s : State) (k : Nat) (slots : k ≤ 16) : ∃ mbx,
    (upTo k).foldl (State.releaseSlot v) s = s.updHost (fun h => { h with mbx := mbx })
      ∧ ∀ n : Fin 16, mbx[n] = if n.val < k ∧ v.getLsbD n.val = true ∧ (s.host.mbx[n]).state = 3 then { s.host.mbx[n] with state := 0 }
        else s.host.mbx[n] := by
  induction k with
  | zero => exact ⟨s.host.mbx, rfl, fun n => (if_neg fun h => absurd h.1 (Nat.not_lt_zero _)).symm⟩
  | succ k ih =>
    obtain ⟨before, first, freed⟩ := ih (by omega)
    obtain ⟨mbx, last, here, others⟩ := releaseSlot_eq v (s.updHost fun h => { h with mbx := before }) ⟨k, slots⟩
    refine ⟨mbx, ?_, fun n => ?_⟩
    · rw [upTo, List.range_succ, List.foldl_append]
      exact (congrArg (fun u : State => u.releaseSlot v k) first).trans last
    · have start := freed n
      by_cases same : n = ⟨k, slots⟩
      · subst same
        rw [if_neg (by simp)] at start
        rw [here]
        simp only [State.updHost, start, Nat.lt_succ_self, true_and]
      · have apart : n.val ≠ k := fun h => same (Fin.ext h)
        have bound : n.val < k + 1 ↔ n.val < k := by omega
        rw [others n same]
        simpa only [bound, State.updHost] using start

theorem releaseSlots_eq (v : U64) (s : State) : ∃ mbx, s.releaseSlots v = s.updHost (fun h => { h with mbx := mbx })
    ∧ ∀ n : Fin 16, mbx[n] = if v.getLsbD n.val = true ∧ (s.host.mbx[n]).state = 3 then { s.host.mbx[n] with state := 0 } else s.host.mbx[n] := by
  obtain ⟨mbx, release, freed⟩ := releaseSlots_upTo v s 16 (Nat.le_refl _)
  refine ⟨mbx, release, fun n => (freed n).trans ?_⟩
  simp only [n.isLt, true_and]

/-! ## Registers -/

/-- W2_BASE has bits 30 to 47 (R409). -/
theorem w2Base_bits (v : U64) (k : Nat) :
    (BitVec.ofNat 64 (fieldN v.toNat 30 18 * 2 ^ 30)).getLsbD k = (v.getLsbD k && decide (30 ≤ k) && decide (k < 48)) := by
  unfold fieldN
  rw [BitVec.getLsbD_ofNat, Nat.testBit_mul_two_pow, Nat.testBit_mod_two_pow, Nat.testBit_shiftRight, BitVec.testBit_toNat]
  by_cases low : 30 ≤ k
  · have place : 30 + (k - 30) = k := by omega
    have field : k - 30 < 18 ↔ k < 48 := by omega
    rw [place]
    by_cases high : k < 48
    · have word : k < 64 := by omega
      simp [low, high, word, field]
    · simp [low, high, field]
  · simp [low]

theorem writeW2Base_eq (s : State) (v : U64) : ∃ base : U64, s.writeW2Base v = s.updHost (fun h => { h with w2Base := base })
    ∧ ∀ k, base.getLsbD k = (v.getLsbD k && decide (30 ≤ k) && decide (k < 48)) :=
  ⟨_, rfl, w2Base_bits v⟩

theorem updEq_same (s : State) (q : Fin 16) (f : Eq_ → Eq_) : (s.updEq q f).host.eqs[q] = f s.host.eqs[q] := by
  simp [State.updEq, State.updHost]

theorem updEq_only (s : State) (q : Fin 16) (f : Eq_ → Eq_) : onlyEq s (s.updEq q f) q := fun p other =>
  Vector.getElem_set_ne q.isLt p.isLt fun same => other (Fin.ext same.symm)

/-- An update of a queue that loses no entry leaves nothing waiting. -/
theorem noBacklog_updEq {q : Fin 16} {f : Eq_ → Eq_} (empty : noBacklog s) (kept : (f s.host.eqs[q]).dropped = 0) : noBacklog (s.updEq q f) := by
  refine ⟨empty.1, fun p => ?_⟩
  by_cases same : p = q
  · rw [same, updEq_same]
    exact kept
  · rw [updEq_only s q f p same]
    exact empty.2 p

theorem fieldN_eq (v lo n : Nat) : fieldN v lo n = v / 2 ^ lo % 2 ^ n := by rw [fieldN, Nat.shiftRight_eq_div_pow]

/-- A write of EQ_CTRL to a queue that is off (R410). -/
theorem writeEqCtrl_takes {q : Fin 16} {v : U64} (queue : q.val < 14) (good : eqCtrlBad v.toNat = false) (off : (s.host.eqs[q]).enable = false)
    (empty : noBacklog s) : s.writeEqCtrl q v = s.updEq q fun k => { k with
      enable := v.getLsbD 63, size := v.toNat / 2 ^ 48 % 16, vector := v.toNat / 2 ^ 40 % 64, count := v.toNat / 2 ^ 16 % 2 ^ 16
      time := v.toNat % 2 ^ 16, tail := if v.getLsbD 63 then 0 else k.tail, phase := if v.getLsbD 63 then true else k.phase } := by
  have off : (s.eq_ q).enable = false := off
  unfold State.writeEqCtrl
  extract_lets n k on
  rw [if_neg (by simp [k, n, good, off]; omega), drainQueue_empty (noBacklog_updEq empty (empty.2 q))]
  simp only [fieldN_eq, n, on, Nat.pow_zero, Nat.div_one]
  rfl

theorem writeEqHead_takes {q : Fin 16} {v : U64} (queue : q.val < 14) (inRing : v.toNat < (s.host.eqs[q]).ring) (small : v.toNat < 2 ^ 16)
    (empty : noBacklog s) : s.writeEqHead q v = s.updEq q fun k => { k with head := v.toNat } := by
  have inRing : v.toNat < (s.eq_ q).ring := inRing
  unfold State.writeEqHead
  extract_lets n
  rw [if_neg (by simp only [n]; omega), drainQueue_empty (noBacklog_updEq empty (empty.2 q))]

/-! ## The other offsets of BAR0 -/

theorem writeBar0_evRoute (v : U64) : s.writeBar0 0x28 8 v = s.updHost fun h => { h with evRoute := v } := rfl

/-- A write of less than a word below the queues names nothing that takes bytes. -/
theorem writeBar0_partial {off w : Nat} (v : U64) (low : off < 0x1000) (partWord : w < 8) : s.writeBar0 off w v = s.discardBar0 := by
  unfold State.writeBar0
  extract_lets bs n m
  rw [if_neg (by omega), if_neg (by omega), if_neg (by omega)]

/-- A byte laid over an empty request buffer. -/
theorem writeBar0_request (n : Fin 16) (b : U64) (empty : (s.host.mbx[n]).req = []) :
    s.writeBar0 (0x100000 + 4096 * n.val) 1 b = s.setMbx n.val { s.host.mbx[n] with req := [BitVec.ofNat 8 b.toNat] } := by
  have slot : (0x100000 + 4096 * n.val - 0x100000) / 4096 = n.val := by omega
  have start : (0x100000 + 4096 * n.val) % 4096 = 0 := by omega
  unfold State.writeBar0
  extract_lets bs k m
  rw [if_neg (by omega), if_pos (by have := n.isLt; omega)]
  have buffer : m = s.host.mbx[n] := by rw [show m = s.mbxSt k from rfl, show k = n.val from slot, mbxSt_val]
  rw [show k = n.val from slot, buffer, start, empty]
  rfl

/-! ## The dispatch of a slot -/

theorem bump_setMbx (s : State) (k n : Nat) (m : Mbx) : (s.setMbx n m).bump k 1 = (s.bump k 1).setMbx n m := rfl

theorem countRefusal_frame (s : State) : s.countRefusal 0x0108 = s.bump (ck 0x1041 8) 1 := by simp [State.countRefusal, refusalSubs]

/-- An answer to a mailbox fills the slot that its request came in, and its event is raised (R414). -/
theorem respond_mailbox (n : Fin 16) (taken : (s.host.mbx[n]).state = 1 ∨ (s.host.mbx[n]).state = 2) (normal : s.recovery = false) (status : Nat)
    (frame : List Byte) :
    s.respond 1 n.val status frame = (s.setMbx n.val { s.host.mbx[n] with state := 3, resp := frame }).raise 1 n.val (leOfNat 2 status) := by
  unfold State.respond
  extract_lets m s1
  have slot : m = s.host.mbx[n] := mbxSt_val s n
  have service : s1.recovery = false := normal
  rw [if_pos rfl, if_neg (Nat.not_le.mpr n.isLt), slot, if_pos taken, if_neg (ne_true_of_eq_false service)]
  unfold s1
  rw [slot]

/-- Where no request waits, a frame that does not hold together is only answered (R424, R428). -/
theorem arriveServed_bad {frame : List Byte} {car origin : Nat} (fast : car ≠ 2) (invalid : parseFrame car frame = none) (same : (s.badFrame car origin).host.queue = s.host.queue) :
    s.arriveServed car origin frame = s.badFrame car origin := by
  have arrives : s.arriveFrame car origin frame = s.badFrame car origin := by
    unfold State.arriveFrame State.deliverFrame
    rw [if_neg fast, invalid]
  unfold State.arriveServed
  rw [arrives]
  dsimp only
  split
  next empty =>
    have none : (s.badFrame car origin).host.queue = [] := same.trans (List.isEmpty_iff.mp empty)
    simp only [State.serveFront, none]
  · rfl

/-- A queued slot whose frame does not hold together is answered 0x0108 (R414, R424, R432). -/
theorem execMailboxDispatch_bad (n : Fin 16) (queued : (s.host.mbx[n]).state = 1) (normal : s.recovery = false)
    (invalid : parseFrame 1 (mbxFrame (s.host.mbx[n]).req) = none) :
    execMailboxDispatch n s = .next (((s.bump (ck 0x1041 8) 1).setMbx n.val ⟨3, (s.host.mbx[n]).req, pennosFrame true 0 4 0 0 0x0108 []⟩).raise 1 n.val
      (leOfNat 2 0x0108)) := by
  have served (v : State) (slot : v.host.mbx[n] = { s.host.mbx[n] with state := 2 }) (normal : v.recovery = false) : v.badFrame 1 n.val
      = ((v.bump (ck 0x1041 8) 1).setMbx n.val ⟨3, (s.host.mbx[n]).req, pennosFrame true 0 4 0 0 0x0108 []⟩).raise 1 n.val (leOfNat 2 0x0108) := by
    unfold State.badFrame State.answerFrame
    rw [if_neg (by decide), countRefusal_frame, respond_mailbox (s := v.bump (ck 0x1041 8) 1) n (.inr (congrArg Mbx.state slot)) normal]
    simp only [State.bump_host, slot]
    rfl
  unfold execMailboxDispatch
  extract_lets m
  have slot : m = s.host.mbx[n] := mbxSt_val s n
  rw [slot, if_pos queued]
  have bad := served (s.setMbx n.val { s.host.mbx[n] with state := 2 }) (setMbx_same s n _) normal
  rw [arriveServed_bad (by decide) invalid (by rw [bad]; rfl), bad, bump_setMbx, setMbx_setMbx]

end

/-- Settles O44: a write reaches `writeBar0` or a queue's own register, and changes what that register holds. -/
theorem hostRegisters : Obligations.HostRegisters := by
  unfold Obligations.HostRegisters
  refine ⟨fun s v on => ?w2Base, fun s v n on usable normal named free => ?doorbell, fun s v n on usable normal named busy => ?busyDoorbell,
    fun s v on early => ?earlyDoorbell, fun s n queued normal invalid => ?dispatch, fun s v on => ?release, fun s q v on queue good off empty => ?ctrl,
    fun s q v on bad => ?ctrlBad, fun s q v on queue inRing small empty => ?head, fun s q v on bad => ?headBad, fun s v on => ?route,
    fun s n b on empty byte => ?request, fun s off w v on low partWord => ?narrow, fun s off w v link off' => ?closed⟩
  case w2Base =>
    obtain ⟨base, writes, bits⟩ := writeW2Base_eq s v
    exact ⟨_, (exec_w2Base v s).trans ((barWrite_on on _).trans (congrArg _ writes)), rfl, rfl, bits⟩
  case doorbell =>
    have rings := doorbell_slot v n usable normal named
    rw [if_neg (not_not.mpr free)] at rings
    exact ⟨_, (exec_mbxDoorbell v s).trans ((barWrite_on on _).trans (congrArg _ rings)), rfl, setMbx_same s n _, setMbx_only s n _, rfl⟩
  case busyDoorbell =>
    have rings := doorbell_slot v n usable normal named
    rw [if_pos busy] at rings
    exact ⟨_, (exec_mbxDoorbell v s).trans ((barWrite_on on _).trans (congrArg _ rings)), by simp, counted_of_bump rfl one_pos⟩
  case earlyDoorbell =>
    exact (exec_mbxDoorbell v s).trans ((barWrite_on on _).trans (congrArg _ (if_pos (by simp [early]))))
  case dispatch =>
    have runs := (exec_mailboxDispatch n s).trans (execMailboxDispatch_bad n queued normal invalid)
    generalize pennosFrame true 0 4 0 0 0x0108 [] = frame at runs ⊢
    exact ⟨_, runs, by simp, rfl, counted_of_bump rfl one_pos, setMbx_same _ n _, setMbx_only _ n _, rfl⟩
  case release =>
    obtain ⟨mbx, releases, freed⟩ := releaseSlots_eq v s
    exact ⟨_, (exec_mbxRelease v s).trans ((barWrite_on on _).trans (congrArg _ releases)), rfl, rfl, freed⟩
  case ctrl =>
    exact ⟨_, (exec_eqCtrl q v s).trans ((barWrite_on on _).trans (congrArg _ (writeEqCtrl_takes queue good off empty))), rfl, updEq_only s q _,
      updEq_same s q _⟩
  case ctrlBad =>
    have discards : s.writeEqCtrl q v = s.discardBar0 := if_pos (bad.imp id .inl)
    exact ⟨_, (exec_eqCtrl q v s).trans ((barWrite_on on _).trans (congrArg _ discards)), discardBar0_discarded s⟩
  case head =>
    exact ⟨_, (exec_eqHead q v s).trans ((barWrite_on on _).trans (congrArg _ (writeEqHead_takes queue inRing small empty))), rfl, updEq_only s q _,
      updEq_same s q _⟩
  case headBad =>
    have discards : s.writeEqHead q v = s.discardBar0 := if_pos (bad.imp id fun ⟨beyond, small⟩ => .inl ((Nat.mod_eq_of_lt small).symm ▸ beyond))
    exact ⟨_, (exec_eqHead q v s).trans ((barWrite_on on _).trans (congrArg _ discards)), discardBar0_discarded s⟩
  case route => exact ⟨_, (exec_bar0RegisterWrite 0x28 8 v s).trans ((barWrite_on on _).trans (congrArg _ (writeBar0_evRoute v))), rfl, rfl⟩
  case request =>
    refine ⟨_, (exec_bar0RegisterWrite _ 1 b s).trans ((barWrite_on on _).trans (congrArg _ (writeBar0_request n b empty))), rfl, ?_, ?_,
      setMbx_only s n _⟩
    · rw [setMbx_same]
    · rw [setMbx_same]
  case narrow =>
    exact ⟨_, (exec_bar0RegisterWrite off w v s).trans ((barWrite_on on _).trans (congrArg _ (writeBar0_partial v low partWord))), discardBar0_discarded s⟩
  case closed => exact ⟨_, (exec_bar0RegisterWrite off w v s).trans (barWrite_off link off' _), rfl, rfl⟩

end Sys2Proof.Machine
end


section
namespace Sys2Proof.Machine

/-! # Events (R411 to R413, R423, R473) -/

section
variable {s : State}

/-! ## Routes -/

/-- Nothing is sent where no session has subscribed to the kind (R427). -/
theorem notify_none {e : Event} (unsubscribed : ∀ q ∈ s.host.sessions, q.mask.testBit e.kind = false) : s.notify e = s := by
  unfold State.notify
  rw [List.filter_eq_nil_iff.mpr fun q mem => ne_true_of_eq_false (unsubscribed q mem)]
  rfl

/-- The newest record of the trace is the last one added (R473). -/
theorem getLast_trace (trace : List (List Byte)) (r : List Byte) :
    ((trace ++ [r]).drop ((trace ++ [r]).length - traceSize)).getLast? = some r := by
  have kept : ¬ (trace ++ [r]).length ≤ (trace ++ [r]).length - traceSize := by
    simp only [List.length_append, List.length_singleton, traceSize]
    omega
  rw [List.getLast?_drop, if_neg kept, List.getLast?_concat]

theorem traceEvent_eq (s : State) (e : Event) : ∃ trace, trace.getLast? = some (entryBytes e.kind e.unit e.tally e.data)
    ∧ s.traceEvent e = s.updHost fun h => { h with trace := trace, traceCount := h.traceCount + 1 } :=
  ⟨_, getLast_trace s.host.trace _, rfl⟩

/-- An event that no session has subscribed to goes to the trace before its route (R473). -/
theorem traced_notified {e : Event} (unsubscribed : ∀ q ∈ s.host.sessions, q.mask.testBit e.kind = false) :
    ∃ trace, trace.getLast? = some (entryBytes e.kind e.unit e.tally e.data)
      ∧ (s.traceEvent e).notify e = s.updHost fun h => { h with trace := trace, traceCount := h.traceCount + 1 } := by
  obtain ⟨trace, last, traced⟩ := traceEvent_eq s e
  refine ⟨trace, last, ?_⟩
  rw [traced]
  exact notify_none (s := s.updHost fun h => { h with trace := trace, traceCount := h.traceCount + 1 }) unsubscribed

/-- An event whose route is no queue goes to the trace and, for its route or its kind, to SMBus (R412, R423). -/
theorem routeEvent_noQueue {e : Event} (unsubscribed : ∀ q ∈ s.host.sessions, q.mask.testBit e.kind = false) (route : 14 ≤ s.evRouteOf e.kind) :
    ∃ trace, trace.getLast? = some (entryBytes e.kind e.unit e.tally e.data) ∧ s.routeEvent e = s.updHost fun h => { h with
      trace := trace
      traceCount := h.traceCount + 1
      alerts := if s.evRouteOf e.kind = 14 ∨ e.kind = 6 then h.alerts ++ [e] else h.alerts } := by
  obtain ⟨trace, last, traced⟩ := traced_notified unsubscribed
  refine ⟨trace, last, ?_⟩
  unfold State.routeEvent
  extract_lets n s1 s2
  rw [if_neg (Nat.not_lt.mpr route)]
  unfold s2 s1
  rw [traced]
  by_cases alert : s.evRouteOf e.kind = 14 ∨ e.kind = 6
  · simp only [if_pos alert]
    exact if_pos alert
  · simp only [if_neg alert]
    exact if_neg alert

/-- An event for a queue that the device cannot write to waits in the backlog (R411). -/
theorem queueEvent_waits {q : Fin 16} (closed : s.posts = false) (room : s.host.backlog.length < 256) (e : Event) :
    s.queueEvent q e = s.updHost fun h => { h with backlog := h.backlog ++ [(q.val, e)] } := by
  unfold State.queueEvent
  rw [if_neg (by simp [State.eqOpen, closed]), if_pos room]

theorem routeEvent_waits {e : Event} {q : Fin 16} (unsubscribed : ∀ q ∈ s.host.sessions, q.mask.testBit e.kind = false) (route : s.evRouteOf e.kind = q.val)
    (queue : q.val < 14) (noAlert : e.kind ≠ 6) (closed : s.posts = false) (room : s.host.backlog.length < 256) :
    ∃ trace, s.routeEvent e = s.updHost fun h => { h with trace := trace, traceCount := h.traceCount + 1, backlog := h.backlog ++ [(q.val, e)] } := by
  obtain ⟨trace, -, traced⟩ := traced_notified unsubscribed
  refine ⟨trace, ?_⟩
  unfold State.routeEvent
  extract_lets n s1 s2
  have toQueue : n = q.val := route
  have named : (⟨n % 16, Nat.mod_lt _ (by decide)⟩ : Fin 16) = q := Fin.ext (by rw [toQueue]; exact Nat.mod_eq_of_lt q.isLt)
  rw [if_pos (toQueue ▸ queue), named]
  unfold s2 s1
  rw [if_neg (by rw [toQueue]; omega), traced]
  exact queueEvent_waits (s := s.updHost fun h => { h with trace := trace, traceCount := h.traceCount + 1 }) closed room e

/-- The kinds that are sent (R412). -/
theorem kind_sent {kind : Byte} (powered : s.boot.powered = true) (normal : s.recovery = false) (least : 1 ≤ kind.toNat) (most : kind.toNat ≤ 10) :
    ¬ (! s.boot.powered || s.recovery || kind.toNat == 0 || decide (11 ≤ kind.toNat)) = true := by
  simp [powered, normal]
  omega

/-- The oldest waiting event that the command names is routed. -/
theorem execEventRaise_found {kind : Byte} {unit : U16} {data : List Byte} {e : Event} (powered : s.boot.powered = true) (normal : s.recovery = false)
    (least : 1 ≤ kind.toNat) (most : kind.toNat ≤ 10)
    (found : s.events.find? (fun x => x.kind == kind.toNat && x.unit == unit.toNat && x.data == data) = some e) :
    execEventRaise kind unit data s = .next (({ s with events := s.events.erase e } : State).routeEvent e) := by
  unfold execEventRaise
  extract_lets fresh
  rw [if_neg (kind_sent powered normal least most), found]

/-- Where no event waits a fresh one is routed. -/
theorem execEventRaise_fresh {kind : Byte} (unit : U16) (data : List Byte) (powered : s.boot.powered = true) (normal : s.recovery = false)
    (least : 1 ≤ kind.toNat) (most : kind.toNat ≤ 10) (none : s.events = []) :
    execEventRaise kind unit data s = .next (s.routeEvent ⟨kind.toNat, unit.toNat, data, s.tally.now⟩) := by
  unfold execEventRaise
  extract_lets fresh
  rw [if_neg (kind_sent powered normal least most), none, List.find?_nil]

/-! ## Entries and messages -/

theorem eqOpen_of_room {q : Fin 16} (posts : s.posts = true) (queue : q.val < 14) (room : (s.host.eqs[q]).room = true) : s.eqOpen q = true := by
  have room : (s.eq_ q).room = true := room
  simp [State.eqOpen, posts, queue, room]

theorem drainOne_closed (closed : s.posts = false) (q : Fin 16) : s.drainOne q = s := if_pos (by simp [State.eqOpen, closed])

/-- The oldest entry of a queue's backlog goes to its ring (R411). -/
theorem drainOne_first {q : Fin 16} {e : Event} {l : List (Nat × Event)} (opened : s.eqOpen q = true) (none : (s.host.eqs[q]).dropped = 0)
    (first : s.host.backlog = (q.val, e) :: l) : s.drainOne q = (s.updHost fun h => { h with backlog := l }).writeEntry q e := by
  unfold State.drainOne
  rw [if_neg (bnot_ne_true opened), if_neg (show ¬ (s.eq_ q).dropped ≠ 0 from not_not.mpr none), first]
  simp [State.updHost, first]

theorem message_masked {v : Nat} (masked : s.msixMasked v = true) : s.message v = s.updHost fun h => { h with msixPending := setBit h.msixPending v true } :=
  if_pos masked

theorem message_sent {v : Nat} (open_ : s.msixMasked v = false) : s.message v = s.send (.msix v) := if_neg (ne_true_of_eq_false open_)

theorem testBit_setBit (m i : Nat) : (setBit m i true).testBit i = true := by
  unfold setBit
  split
  · assumption
  next clear =>
    have clear : m.testBit i = false := by simpa using clear
    rw [if_pos rfl, Nat.add_comm, Nat.testBit_two_pow_add_eq, clear]
    rfl

theorem execMsixSignal_due {q : Fin 16} {timer : Bool} (posts : s.posts = true) (on : (s.host.eqs[q]).enable = true)
    (due : if timer then (s.host.eqs[q]).time ≠ 0 ∧ (s.host.eqs[q]).unsignalled ≠ 0 else max 1 (s.host.eqs[q]).count ≤ (s.host.eqs[q]).unsignalled) :
    execMsixSignal q timer s = .next ((s.message (s.host.eqs[q]).vector).updEq q fun k => { k with unsignalled := 0 }) := by
  have on : (s.eq_ q).enable = true := on
  have isDue : (if timer then (s.eq_ q).time != 0 && (s.eq_ q).unsignalled != 0 else decide (max 1 (s.eq_ q).count ≤ (s.eq_ q).unsignalled)) = true := by
    cases timer with
    | true => simpa [State.eq_] using due
    | false => exact decide_eq_true due
  unfold execMsixSignal
  extract_lets k due'
  rw [if_pos (by simp only [posts, show k.enable = true from on, show due' = true from isDue, Bool.and_self])]
  rfl

end

/-- Settles O45: an event is routed by `routeEvent`, an entry written by `drainOne`, and a vector signalled by `message`. -/
theorem eventQueues : Obligations.EventQueues := by
  unfold Obligations.EventQueues
  refine ⟨fun s kind unit data e powered normal least most unsubscribed found route => ?routed,
    fun s kind unit data q powered normal least most noAlert unsubscribed none route queue closed room => ?waits,
    fun s q e l posts queue room none first => ?entry, fun s q closed => ?noEntry, fun s q timer posts on due => ?signal, fun s q timer closed => ?noSignal⟩
  case routed =>
    have named := List.find?_some found
    simp only [Bool.and_eq_true, beq_iff_eq] at named
    obtain ⟨⟨isKind, isUnit⟩, isData⟩ := named
    have runs := execEventRaise_found powered normal least most found
    obtain ⟨trace, last, routes⟩ := routeEvent_noQueue (s := { s with events := s.events.erase e }) (e := e) (isKind ▸ unsubscribed) (isKind ▸ route)
    rw [isKind] at routes
    rw [isKind, isUnit, isData] at last
    exact ⟨_, (exec_eventRaise kind unit data s).trans (runs.trans (congrArg _ routes)), rfl, rfl, rfl, last, rfl, rfl, rfl⟩
  case waits =>
    have runs := execEventRaise_fresh unit data powered normal least most none
    obtain ⟨trace, waits⟩ := routeEvent_waits (e := ⟨kind.toNat, unit.toNat, data, s.tally.now⟩) unsubscribed route queue noAlert closed room
    exact ⟨_, (exec_eventRaise kind unit data s).trans (runs.trans (congrArg _ waits)), rfl, rfl, rfl, rfl⟩
  case entry =>
    obtain ⟨bytes, written, phase, rest⟩ := writeEntry_eq (s.updHost fun h => { h with backlog := l }) q e
    have drains := (drainOne_first (eqOpen_of_room posts queue room) none first).trans written
    refine ⟨_, (exec_eventEntryWrite q s).trans (congrArg Host.Outcome.next drains), rfl, rfl, updEq_only _ q _, ⟨bytes, rfl, phase, rest⟩, ?_, ?_, ?_⟩
    all_goals rw [updEq_same]
    all_goals rfl
  case noEntry => exact (exec_eventEntryWrite q s).trans (congrArg _ (drainOne_closed closed q))
  case signal =>
    have runs := (exec_msixSignal q timer s).trans (execMsixSignal_due posts on due)
    cases masked : s.msixMasked (s.host.eqs[q]).vector with
    | true =>
      rw [message_masked masked] at runs
      refine ⟨_, runs, rfl, congrArg Eq_.unsignalled (updEq_same _ q _), updEq_only _ q _, fun sent => ?_, fun _ => ⟨rfl, testBit_setBit _ _⟩⟩
      exact nomatch sent
    | false =>
      rw [message_sent masked] at runs
      refine ⟨_, runs, rfl, congrArg Eq_.unsignalled (updEq_same _ q _), updEq_only _ q _, fun _ => ⟨rfl, rfl⟩, fun held => ?_⟩
      exact nomatch held
  case noSignal => exact (exec_msixSignal q timer s).trans (congrArg _ (if_neg (by simp [closed])))

end Sys2Proof.Machine
end

section
namespace Sys2Proof.Machine

/-! # The windows of the host port (R215, R416, R417, R456, R473) -/

/-! ## Addresses of device memory (R197) -/

section
variable {s : State} {a b i : Nat} {p q : Nat × Nat}

/-- A granule is a whole number of lines, and a stack a whole number of granules. -/
theorem granule_divides (c : Nat) : ∃ lines rows, granuleBytes c = 64 * lines ∧ 0 < lines ∧ stackBytes = granuleBytes c * rows := by
  unfold granuleBytes
  split
  · exact ⟨64, 25165824, rfl, by decide, rfl⟩
  · exact ⟨32768, 49152, rfl, by decide, rfl⟩
  · exact ⟨1024, 1572864, rfl, by decide, rfl⟩

theorem locate_eq (within : a < s.memCapacity) : s.locate a = some
    (s.presentList.getD (a / granuleBytes s.mem.granule % s.presentList.length) 0,
      a / granuleBytes s.mem.granule / s.presentList.length * granuleBytes s.mem.granule + a % granuleBytes s.mem.granule) := if_pos within

theorem locate_beyond (beyond : s.memCapacity ≤ a) : s.locate a = none := if_neg (Nat.not_lt.mpr beyond)

theorem locate_within (place : s.locate a = some p) : a < s.memCapacity := by
  by_contra beyond
  rw [locate_beyond (Nat.not_lt.mp beyond)] at place
  cases place

/-- A local address stays below the size of a stack. -/
theorem locate_local (place : s.locate a = some p) : p.2 < stackBytes := by
  have within := locate_within place
  obtain ⟨lines, rows, granule, some, stack⟩ := granule_divides s.mem.granule
  rw [locate_eq within] at place
  obtain rfl := Option.some.inj place
  generalize granuleBytes s.mem.granule = g at granule stack
  generalize size : s.presentList.length = m at within
  have positive : 0 < g := by omega
  have inStacks : a < g * (m * rows) := by
    rw [State.memCapacity, size, stack] at within
    exact within.trans_eq (by ring)
  have granules : a / g / m < rows := by
    rw [Nat.div_div_eq_div_mul]
    exact Nat.div_lt_of_lt_mul (inStacks.trans_eq (by ring))
  have rest := Nat.mod_lt a positive
  dsimp only
  calc a / g / m * g + a % g < a / g / m * g + g := by omega
    _ = (a / g / m + 1) * g := by ring
    _ ≤ rows * g := Nat.mul_le_mul_right g granules
    _ = stackBytes := by rw [stack, Nat.mul_comm]

/-- A byte of the same line lies in the same stack, as far on. -/
theorem locate_line (place : s.locate a = some p) (line : a % 64 + i < 64) : s.locate (a + i) = some (p.1, p.2 + i) := by
  have within := locate_within place
  obtain ⟨lines, rows, granule, some, stack⟩ := granule_divides s.mem.granule
  have whole : s.memCapacity = 64 * (lines * rows * s.presentList.length) := by
    rw [State.memCapacity, stack, granule]
    ring
  rw [locate_eq (a := a + i) (by omega)]
  rw [locate_eq within] at place
  obtain rfl := Option.some.inj place
  generalize granuleBytes s.mem.granule = g at granule
  have room : a % g + i < g := by
    have lineOf : a % g % 64 = a % 64 := by rw [granule]; exact Nat.mod_mul_right_mod a 64 lines
    have below : a % g < 64 * lines := granule ▸ Nat.mod_lt a (by omega)
    omega
  have same : (a + i) / g = a / g := by
    rw [Nat.add_div (by omega), Nat.div_eq_of_lt (by omega : i < g), Nat.mod_eq_of_lt (by omega : i < g), if_neg (by omega), Nat.add_zero]
  have next : (a + i) % g = a % g + i := by
    rw [Nat.add_mod, Nat.mod_eq_of_lt (by omega : i < g), Nat.mod_eq_of_lt room]
  rw [same, next, Nat.add_assoc]

theorem presentList_nodup (s : State) : s.presentList.Nodup := List.nodup_range.filter _

/-- Two addresses of device memory have two places (R197). -/
theorem locate_injective (atA : s.locate a = some p) (atB : s.locate b = some q) (same : stackKey p.1 p.2 = stackKey q.1 q.2) : a = b := by
  have localA := locate_local atA
  have localB := locate_local atB
  have withinA := locate_within atA
  have withinB := locate_within atB
  have halves : p.1 = q.1 ∧ p.2 = q.2 := by
    unfold stackKey at same
    unfold stackBytes at localA localB
    omega
  rw [locate_eq withinA] at atA
  rw [locate_eq withinB] at atB
  obtain rfl := Option.some.inj atA
  obtain rfl := Option.some.inj atB
  obtain ⟨stack, place⟩ := halves
  dsimp only at stack place
  have unique := presentList_nodup s
  have some : 0 < s.presentList.length := by
    unfold State.memCapacity at withinA
    by_contra none
    simp [Nat.eq_zero_of_not_pos none] at withinA
  obtain ⟨lines, rows, granule, positive, -⟩ := granule_divides s.mem.granule
  generalize granuleBytes s.mem.granule = g at *
  have positive : 0 < g := by omega
  have index : a / g % s.presentList.length = b / g % s.presentList.length := by
    rw [List.getD_eq_getElem _ _ (Nat.mod_lt _ some), List.getD_eq_getElem _ _ (Nat.mod_lt _ some)] at stack
    exact (List.Nodup.getElem_inj_iff unique).mp stack
  have offset : a % g = b % g := by
    have := congrArg (· % g) place
    simpa using this
  have block : a / g / s.presentList.length = b / g / s.presentList.length := by
    rw [offset] at place
    exact Nat.eq_of_mul_eq_mul_right positive (Nat.add_right_cancel place)
  have granules : a / g = b / g := by
    rw [← Nat.div_add_mod (a / g) s.presentList.length, ← Nat.div_add_mod (b / g) s.presentList.length, block, index]
  rw [← Nat.div_add_mod a g, ← Nat.div_add_mod b g, granules, offset]

end

/-! ## A write within a line -/

section
variable {s : State} {a b : Nat} {p : Nat × Nat} {data : List Byte}

/-- A write that stays within a line is one write of its stack. -/
theorem memWrite_within (full : data ≠ []) (line : a % 64 + data.length ≤ 64) (place : s.locate a = some p) (poison : Bool) :
    s.memWrite a data poison = s.stackWrite p.1 p.2 data poison := by
  have full : data.isEmpty = false := by simpa using full
  have whole : data.take (64 - a % 64) = data := List.take_of_length_le (by omega)
  have rest : data.drop (64 - a % 64) = [] := List.drop_of_length_le (by omega)
  rw [State.memWrite, State.memWriteLines, full, place]
  simp only [Bool.false_eq_true, if_false, whole, rest]
  cases data.length / 64 <;> rfl

/-- The bytes of device memory as read through a map of its addresses. -/
def bytesAt (place : Nat → Option (Nat × Nat)) (mem : Mem) (addr n : Nat) : List Byte :=
  (upTo n).map (fun i => match place (addr + i) with | some p => mem.read (stackKey p.1 p.2) | none => 0)

theorem memBytes_eq (s : State) (addr n : Nat) : s.memBytes addr n = bytesAt s.locate s.mem.data addr n := rfl

/-- Bytes that lie side by side in a stack read back as they were written. -/
theorem bytesAt_written {place : Nat → Option (Nat × Nat)} {mem : Mem} (wf : mem.wf = true)
    (line : ∀ i, i < data.length → place (a + i) = some (p.1, p.2 + i)) :
    bytesAt place (mem.writeBytes (stackKey p.1 p.2) data) a data.length = data := by
  refine List.ext_getElem (by simp [bytesAt, upTo]) fun i short long => ?_
  have read := Mem.read_writeBytes_in mem (stackKey p.1 p.2) i data wf long
  simp only [bytesAt, upTo, List.getElem_map, List.getElem_range, line i long, stackKey, ← Nat.add_assoc]
  exact read

/-- A byte that lies elsewhere reads as before. -/
theorem bytesAt_outside {place : Nat → Option (Nat × Nat)} {mem : Mem}
    (outside : ∀ q, place b = some q → stackKey q.1 q.2 < stackKey p.1 p.2 ∨ stackKey p.1 p.2 + data.length ≤ stackKey q.1 q.2) :
    bytesAt place (mem.writeBytes (stackKey p.1 p.2) data) b 1 = bytesAt place mem b 1 := by
  refine List.map_congr_left fun i first => ?_
  obtain rfl : i = 0 := Nat.lt_one_iff.mp (List.mem_range.mp first)
  rw [Nat.add_zero]
  split
  next q here => exact Mem.read_writeBytes_out _ _ _ _ (outside q here)
  · rfl

theorem locate_ctr (s : State) (ctr : SMap Nat) : ({ s with ctr := ctr } : State).locate = s.locate := rfl

theorem memBytes_ctr (s : State) (ctr : SMap Nat) (addr n : Nat) : ({ s with ctr := ctr } : State).memBytes addr n = s.memBytes addr n := by
  rw [memBytes_eq, memBytes_eq, locate_ctr]

theorem locate_stackWrite (s : State) (st loc : Nat) (bs : List Byte) (poison : Bool) : (s.stackWrite st loc bs poison).locate = s.locate := rfl

/-- What a write within a line of a stack does to the bytes of device memory. -/
theorem memBytes_stackWrite (line : a % 64 + data.length ≤ 64) (place : s.locate a = some p) (poison : Bool) :
    (s.mem.data.wf = true → (s.stackWrite p.1 p.2 data poison).memBytes a data.length = data)
      ∧ ∀ b, b < a ∨ a + data.length ≤ b → (s.stackWrite p.1 p.2 data poison).memBytes b 1 = s.memBytes b 1 := by
  refine ⟨fun wf => ?_, fun b outside => ?_⟩
  · rw [memBytes_eq, locate_stackWrite]
    exact bytesAt_written wf fun i inside => locate_line place (by omega)
  · rw [memBytes_eq, memBytes_eq, locate_stackWrite]
    refine bytesAt_outside fun q place' => ?_
    by_contra inside
    have inLine := locate_line place (by omega : a % 64 + (stackKey q.1 q.2 - stackKey p.1 p.2) < 64)
    have key : stackKey p.1 (p.2 + (stackKey q.1 q.2 - stackKey p.1 p.2)) = stackKey q.1 q.2 := by
      unfold stackKey at *
      omega
    have address := locate_injective inLine place' key
    omega

/-- A whole line written without poison reads without it (R208). -/
theorem memPoisoned_stackWrite (full : data.length = 64) (line : a % 64 + data.length ≤ 64) (place : s.locate a = some p) :
    (s.stackWrite p.1 p.2 data false).memPoisoned a 64 = false := by
  have aligned : a % 64 = 0 := by omega
  have one : (a + 64 + 63) / 64 - a / 64 = 1 := by omega
  have start : (a / 64 + 0) * 64 = a := by omega
  have located : (s.stackWrite p.1 p.2 data false).locate a = s.locate a := rfl
  have cleared : (s.stackWrite p.1 p.2 data false).mem.poison.contains (stackKey p.1 p.2 / 64) = false := by simp [State.stackWrite, full]
  rw [State.memPoisoned, one, upTo, List.range_one, List.any_cons, start, located, place, List.any_nil, Bool.or_false]
  exact cleared

/-- A part of a TLP that stays within a line is the only one. -/
theorem lineParts_within (n : Nat) (some : data ≠ []) (line : a % 64 + data.length ≤ 64) : lineParts (n + 2) a data = [(a, data)] := by
  have full : data.isEmpty = false := by simpa using some
  have whole : data.take (64 - a % 64) = data := List.take_of_length_le (by omega)
  have rest : data.drop (64 - a % 64) = [] := List.drop_of_length_le (by omega)
  simp [lineParts, full, whole, rest]

/-- A part whose engine answers is written; what it merges with may be counted (R208, R215). -/
theorem writePart_answers (answers : s.lineAnswers a = true) (poison : Bool) : ∃ ctr, s.writePart (a, data) poison = ({ s with ctr := ctr } : State).memWrite a data poison := by
  unfold State.writePart
  rw [if_neg (bnot_ne_true answers)]
  split
  · exact ⟨_, rfl⟩
  · exact ⟨s.ctr, rfl⟩

/-- Whether the engine of a place answers. -/
def answersAt (s : State) : Option (Nat × Nat) → Bool
  | some p => s.stackUsable p.1
  | none => false

theorem lineAnswers_eq (s : State) (a : Nat) : s.lineAnswers a = answersAt s (s.locate a) := by
  -- unfolded as a function: unfolded at its arguments, the kernel would evaluate `State.locate`
  have unfolded := Eq.refl @State.lineAnswers
  conv_rhs at unfolded => delta State.lineAnswers
  rw [unfolded]
  beta_reduce
  generalize s.locate a = place
  cases place <;> rfl

theorem locate_of_answers (answers : s.lineAnswers a = true) : ∃ p, s.locate a = some p := by
  rw [lineAnswers_eq] at answers
  generalize s.locate a = place at answers
  cases place with
  | some p => exact ⟨p, rfl⟩
  | none => cases answers

end

/-! ## BAR2 (R416, R456) -/

section
variable {s : State} {off len : Nat}

theorem execBar2Write_on (on : s.barsOn = true) (data : List Byte) (poisoned : Bool) : execBar2Write off data poisoned s = .next
    (if s.bar2Refused then (s.bump (ck 0x1040 0x0A) 1).aerErr aerAdvisory
     else if s.bar2Beyond off data.length then s.aerErr aerUR
     else
       let s1 := (lineParts (data.length / 64 + 2) (s.host.w2Base.toNat + off) data).foldl (fun (s : State) p => s.writePart p poisoned) s
       if poisoned then s1.aerErr aerPoison else s1) := by
  -- unfolded as a function: unfolded at its arguments, the kernel would evaluate the capacity of the memory
  have unfolded := Eq.refl @execBar2Write
  conv_rhs at unfolded => delta execBar2Write
  rw [unfolded]
  beta_reduce
  exact barWrite_on on _

/-- A write that the policy and the window let through, within a line. -/
theorem execBar2Write_line {data : List Byte} (on : s.barsOn = true) (allowed : s.bar2Refused = false) (within : s.bar2Beyond off data.length = false)
    (some : data ≠ []) (line : (s.host.w2Base.toNat + off) % 64 + data.length ≤ 64) (answers : s.lineAnswers (s.host.w2Base.toNat + off) = true) :
    ∃ ctr, execBar2Write off data false s = .next (({ s with ctr := ctr } : State).memWrite (s.host.w2Base.toNat + off) data false) := by
  obtain ⟨ctr, writes⟩ := writePart_answers (data := data) answers false
  refine ⟨ctr, ?_⟩
  rw [execBar2Write_on on, if_neg (ne_true_of_eq_false allowed), if_neg (ne_true_of_eq_false within), lineParts_within _ some line, ← writes]
  dsimp only
  rw [if_neg Bool.false_ne_true, List.foldl_cons, List.foldl_nil]

theorem execBar2Read_on (on : s.barsOn = true) : execBar2Read off len s = .next
    (let ls := linesOf (s.host.w2Base.toNat + off) len
     if s.bar2Beyond off len then s.unsupportedRead
     else
       let mute := (ls.filter (fun l => ! s.lineAnswers l)).length
       let s1 := s.countPoison (ls.filter s.lineAnswers)
       if mute ≠ 0 then (((s1.bump (ck 0x9150 8) mute).bump (ck 0x1040 9) 1).aerErr aerCA).send (.completion cplCA false [])
       else if s.memPoisoned (s.host.w2Base.toNat + off) len then
         (s1.bump (ck 0x1040 8) 1).send (.completion cplOk true (s.memBytes (s.host.w2Base.toNat + off) len))
       else s1.send (.completion cplOk false (s.memBytes (s.host.w2Base.toNat + off) len))) := by
  -- unfolded as a function: unfolded at its arguments, the kernel would evaluate the capacity of the memory
  have unfolded := Eq.refl @execBar2Read
  conv_rhs at unfolded => delta execBar2Read
  rw [unfolded]
  beta_reduce
  exact barRead_on on _

/-- A read of lines that all answer, none of them poisoned. -/
theorem execBar2Read_good (on : s.barsOn = true) (within : s.bar2Beyond off len = false)
    (answers : ∀ a ∈ linesOf (s.host.w2Base.toNat + off) len, s.lineAnswers a = true) (clean : s.memPoisoned (s.host.w2Base.toNat + off) len = false) :
    ∃ ctr, execBar2Read off len s = .next (({ s with ctr := ctr } : State).send (.completion cplOk false (s.memBytes (s.host.w2Base.toNat + off) len))) := by
  have mute : ((linesOf (s.host.w2Base.toNat + off) len).filter fun l => ! s.lineAnswers l).length = 0 := by
    rw [List.filter_eq_nil_iff.mpr fun a mem => bnot_ne_true (answers a mem)]
    rfl
  refine ⟨(s.countPoison ((linesOf (s.host.w2Base.toNat + off) len).filter s.lineAnswers)).ctr, ?_⟩
  rw [execBar2Read_on on]
  rw [if_neg (ne_true_of_eq_false within), if_neg (not_not.mpr mute), if_neg (ne_true_of_eq_false clean)]
  rfl

/-- A read of one line that does not answer (R215). -/
theorem execBar2Read_mute {a : Nat} (on : s.barsOn = true) (within : s.bar2Beyond off len = false) (one : linesOf (s.host.w2Base.toNat + off) len = [a])
    (mute : s.lineAnswers a = false) : execBar2Read off len s
      = .next (((((s.bump (ck 0x9150 3) 0).bump (ck 0x9150 8) 1).bump (ck 0x1040 9) 1).aerErr aerCA).send (.completion cplCA false [])) := by
  rw [execBar2Read_on on]
  extract_lets ls silent s1
  have single : ls.filter (fun l => ! s.lineAnswers l) = [a] := (congrArg _ one).trans (List.filter_cons_of_pos (by rw [mute]; rfl))
  have none : ls.filter s.lineAnswers = [] := (congrArg _ one).trans (List.filter_cons_of_neg (by rw [mute]; decide))
  have silence : silent = 1 := congrArg List.length single
  have counted : s1 = s.bump (ck 0x9150 3) 0 := congrArg s.countPoison none
  rw [if_neg (ne_true_of_eq_false within), silence, counted, if_pos one_ne_zero]

/-- The same with what its counters come to. -/
theorem execBar2Read_counts {a : Nat} (on : s.barsOn = true) (within : s.bar2Beyond off len = false)
    (one : linesOf (s.host.w2Base.toNat + off) len = [a]) (mute : s.lineAnswers a = false) : ∃ v : State, (∃ ctr, v = { s with ctr := ctr })
      ∧ v.counter (ck 0x9150 8) = satAdd (s.counter (ck 0x9150 8)) 1 ∧ v.counter (ck 0x1040 9) = satAdd (s.counter (ck 0x1040 9)) 1
      ∧ execBar2Read off len s = .next ((v.aerErr aerCA).send (.completion cplCA false [])) := by
  refine ⟨((s.bump (ck 0x9150 3) 0).bump (ck 0x9150 8) 1).bump (ck 0x1040 9) 1, ⟨_, rfl⟩, ?_, ?_, execBar2Read_mute on within one mute⟩
  · rw [counter_bump_ne (by decide), counter_bump_same one_pos, counter_bump_ne (by decide)]
  · rw [counter_bump_same one_pos, counter_bump_ne (by decide), counter_bump_ne (by decide)]

end

/-! ## BAR4 (R417, R473) -/

section
variable {s : State}

/-- A record that the ring still holds, where it never ran over. -/
theorem traceSlot_kept {n : Nat} (written : n < s.host.traceCount) (fits : s.host.traceCount ≤ traceSize) (all : s.host.trace.length = s.host.traceCount) :
    s.traceSlot n = s.host.trace.getD n [] := by
  unfold State.traceSlot
  extract_lets c k
  have inRing : (c - 1 - n) % traceSize = c - 1 - n := Nat.mod_eq_of_lt (by omega)
  have number : k + s.host.trace.length - c = n := by omega
  rw [if_neg (Nat.not_le.mpr written), number]

/-- A byte of a record by its place in BAR4 (R417). -/
theorem traceByte_record (n : Nat) {k : Nat} (inRecord : k < 32) : s.traceByte (64 + 32 * n + k) = (s.traceSlot n).getD k 0 := by
  have slot : (64 + 32 * n + k - 64) / 32 = n := by omega
  have place : (64 + 32 * n + k - 64) % 32 = k := by omega
  unfold State.traceByte
  rw [if_neg (by omega), if_neg (by omega), slot, place]

theorem execBar4Read_on (on : s.barsOn = true) (normal : s.recovery = false) {off len : Nat} (within : off + len ≤ bar4Bytes) :
    execBar4Read off len s = .next (s.send (.completion cplOk false ((upTo len).map fun i => s.traceByte (off + i)))) := by
  have inside : ¬ (s.recovery || decide (bar4Bytes < off + len)) = true := by simp [normal, within]
  unfold execBar4Read
  rw [barRead_on on, if_neg inside]

theorem execBar4Write_on (on : s.barsOn = true) (normal : s.recovery = false) {off : Nat} {data : List Byte} (within : off + data.length ≤ bar4Bytes) :
    execBar4Write off data s = .next (s.bump (ck 0x1040 0x0B) 1) := by
  have inside : ¬ (s.recovery || decide (bar4Bytes < off + data.length)) = true := by simp [normal, within]
  unfold execBar4Write
  rw [barWrite_on on, if_neg inside]

end

/-- Settles O46: BAR2 reaches device memory at the place `locate` gives, BAR4 the ring of the trace. -/
theorem hostWindows : Obligations.HostWindows := by
  unfold Obligations.HostWindows
  refine ⟨fun s off len on beyond => ?readBeyond, fun s off len on within answers _ clean => ?read, fun s off len a on within one mute => ?readMute,
    fun s off data p on refused => ?refused, fun s off data p on allowed beyond => ?writeBeyond, fun s off data on allowed within some line answers => ?write,
    fun s off len on normal within => ?trace, fun s n written fits all k inRecord => ?record, fun s off data on normal within => ?traceWrite⟩
  case readBeyond =>
    have runs := execBar2Read_on (off := off) (len := len) on
    rw [if_pos beyond] at runs
    exact ⟨_, (exec_bar2Read off len s).trans runs, rfl, rfl, rfl⟩
  case read =>
    obtain ⟨_, reads⟩ := execBar2Read_good on within answers clean
    exact ⟨_, (exec_bar2Read off len s).trans reads, rfl, rfl⟩
  case readMute =>
    obtain ⟨v, ⟨ctr, frame⟩, timedOut, aborted, runs⟩ := execBar2Read_counts on within one mute
    subst frame
    exact ⟨_, (exec_bar2Read off len s).trans runs, rfl, rfl, timedOut, aborted, rfl⟩
  case refused =>
    have runs := execBar2Write_on (off := off) on data p
    rw [if_pos refused] at runs
    exact ⟨_, (exec_bar2Write off data p s).trans runs, rfl, counted_of_bump rfl one_pos, rfl⟩
  case writeBeyond =>
    have runs := execBar2Write_on (off := off) on data p
    rw [if_neg (ne_true_of_eq_false allowed), if_pos beyond] at runs
    exact ⟨_, (exec_bar2Write off data p s).trans runs, rfl, rfl⟩
  case write =>
    obtain ⟨ctr, writes⟩ := execBar2Write_line on allowed within some line answers
    obtain ⟨p, place⟩ := locate_of_answers answers
    rw [← locate_ctr s ctr] at place
    rw [memWrite_within some line place] at writes
    obtain ⟨bytes, others⟩ := memBytes_stackWrite line place false
    have unpoisoned := fun full => memPoisoned_stackWrite full line place
    exact ⟨_, (exec_bar2Write off data false s).trans writes, rfl, bytes, fun b outside => (others b outside).trans (memBytes_ctr s ctr b 1), unpoisoned⟩
  case trace =>
    refine ⟨_, _, (exec_bar4Read off len s).trans (execBar4Read_on on normal within), ⟨rfl, rfl⟩, ?_, fun k inside => ?_⟩
    · simp [upTo]
    · simp [upTo, inside]
  case record => rw [traceByte_record n inRecord, traceSlot_kept written fits all]
  case traceWrite =>
    exact ⟨_, (exec_bar4Write off data s).trans (execBar4Write_on on normal within), by simp, counted_of_bump rfl one_pos⟩

end Sys2Proof.Machine
end

section
namespace Sys2Proof.Machine

/-! # The SPDM responder (R420, R421) -/

section
variable {s : State}

/-! ## Answers -/

theorem doe_served (served : DoeServed s) (r : DoeReq) : s.doe r = s.serveDoe r := by
  unfold State.doe
  rw [if_neg (bnot_ne_true served.reachable), if_neg (bnot_ne_true served.runs)]

theorem doe_waits (reachable : s.doeOn = true) (reset : s.boot.mgmt = false) (r : DoeReq) :
    s.doe r = s.updHost fun h => { h with doeWait := h.doeWait ++ [r] } := by
  unfold State.doe
  rw [if_neg (bnot_ne_true reachable), if_pos (by rw [reset]; rfl)]

/-- What an answer leaves that changes the state of SPDM alone. -/
theorem doeAnswer_sent (s : State) (version caps algs : Bool) (transcript cert meas msg : List Byte) (draws : Nat) :
    spdmSent s (({ s with draws := draws } : State).updHost (fun h => { h with
      spdmVersion := version, spdmCaps := caps, spdmAlgs := algs, transcript := transcript, spdmCert := cert, spdmMeas := meas }) |>.doeAnswer msg) msg :=
  ⟨rfl, rfl, rfl, rfl, rfl⟩

/-- The agreement as the responder reads it. -/
theorem agreed_eq_true (agreed : spdmAgreed s) : (s.host.spdmVersion && s.host.spdmCaps && s.host.spdmAlgs) = true := by
  obtain ⟨version, caps, algs⟩ := agreed
  rw [version, caps, algs]
  rfl

theorem agreed_eq_false (early : ¬ spdmAgreed s) : (s.host.spdmVersion && s.host.spdmCaps && s.host.spdmAlgs) = false := by
  rw [← Bool.not_eq_true]
  intro holds
  simp only [Bool.and_eq_true] at holds
  obtain ⟨⟨version, caps⟩, algs⟩ := holds
  exact early ⟨version, caps, algs⟩

/-! ## One lemma a request -/

theorem serveDoe_capabilities (version : s.host.spdmVersion = true) : ∃ ans, s.serveDoe .capabilities
      = (s.updHost fun h => { h with spdmCaps := true, transcript := h.transcript ++ DoeReq.capabilities.bytes ++ ans }).doeAnswer ans
    ∧ ans.take 2 = [0x12, 0x61] ∧ natOfLE ((ans.drop 8).take 4) = 0x16 :=
  ⟨_, if_neg (bnot_ne_true version), rfl, by decide⟩

theorem and_bit_ne_zero (x : U32) (k : Nat) : x.toNat &&& 2 ^ k ≠ 0 ↔ x.getLsbD k = true := by
  rw [Nat.and_two_pow, BitVec.testBit_toNat]
  cases x.getLsbD k <;> simp

theorem serveDoe_algorithms (asym hash : U32) (version : s.host.spdmVersion = true) (caps : s.host.spdmCaps = true) : ∃ ans,
    s.serveDoe (.algorithms asym.toNat hash.toNat) = (s.updHost fun h => { h with
      spdmAlgs := asym.getLsbD 10 && hash.getLsbD 2
      transcript := h.transcript ++ (DoeReq.algorithms asym.toNat hash.toNat).bytes ++ ans }).doeAnswer ans
    ∧ ans.take 2 = [0x12, 0x63] := by
  have chosen : decide (asym.toNat &&& spdmEd25519 ≠ 0 ∧ hash.toNat &&& spdmSha512 ≠ 0) = (asym.getLsbD 10 && hash.getLsbD 2) := by
    refine Eq.trans ?_ (Bool.decide_coe _)
    refine decide_eq_decide.mpr (Iff.trans ?_ (Bool.and_eq_true_iff).symm)
    exact and_congr (and_bit_ne_zero asym 10) (and_bit_ne_zero hash 2)
  have ready : ¬ (! (s.host.spdmVersion && s.host.spdmCaps)) = true := by rw [version, caps]; decide
  rw [← chosen]
  exact ⟨_, if_neg ready, rfl⟩

/-- The answer to a request about certificates, which joins their transcript. -/
def State.certAnswered (s : State) (req ans : List Byte) : State :=
  (s.updHost fun h => { h with spdmCert := h.spdmCert ++ req ++ ans, spdmMeas := [] }).doeAnswer ans

theorem serveDoe_digests (agreed : spdmAgreed s) :
    s.serveDoe .digests = s.certAnswered DoeReq.digests.bytes ([0x12, 0x01, 0, 1] ++ sha512 s.life.certChain) :=
  if_neg (bnot_ne_true (agreed_eq_true agreed))

theorem serveDoe_digests_early (early : ¬ spdmAgreed s) : s.serveDoe .digests = s.doeAnswer (spdmError seUnexpected) :=
  if_pos (by rw [agreed_eq_false early]; rfl)

theorem natOfLE_leOfNat_small {n v : Nat} (small : v < 256 ^ n) : natOfLE (leOfNat n v) = v := by
  have value := natOfLE_leOfNat_append n v []
  rwa [List.append_nil, show natOfLE [] = 0 from rfl, Nat.mul_zero, Nat.add_zero, Nat.mod_eq_of_lt small] at value

/-- A portion of the certificate chain (R420). -/
theorem serveDoe_certificate (off len : U16) (agreed : spdmAgreed s) (inside : off.toNat ≤ s.life.certChain.length)
    (fits : s.life.certChain.length ≤ 4096) : ∃ ans,
      s.serveDoe (.certificate 0 off.toNat len.toNat) = s.certAnswered (DoeReq.certificate 0 off.toNat len.toNat).bytes ans
      ∧ ans.drop 8 = (s.life.certChain.drop off.toNat).take len.toNat
      ∧ natOfLE ((ans.drop 4).take 2) = min len.toNat (s.life.certChain.length - off.toNat) := by
  have short : ((s.life.certChain.drop off.toNat).take (spdmMax - 8)) = s.life.certChain.drop off.toNat :=
    List.take_of_length_le (by rw [List.length_drop, spdmMax]; omega)
  have part : (s.life.certChain.drop off.toNat).take (min len.toNat (spdmMax - 8)) = (s.life.certChain.drop off.toNat).take len.toNat := by
    rw [← List.take_take, short]
  have valid : ¬ (0 ≠ 0 ∨ s.life.certChain.length < off.toNat) := by omega
  refine ⟨_, (if_neg (bnot_ne_true (agreed_eq_true agreed))).trans (if_neg valid), part, ?_⟩
  have length : ((s.life.certChain.drop off.toNat).take len.toNat).length = min len.toNat (s.life.certChain.length - off.toNat) := by
    rw [List.length_take, List.length_drop]
  refine Eq.trans ?_ length
  have field := natOfLE_leOfNat_small (n := 2) (v := ((s.life.certChain.drop off.toNat).take len.toNat).length) (by rw [length]; omega)
  rw [part]
  exact field

/-- A challenge of slot 0 (R420). -/
theorem spdmChallenge_eq (s : State) (req : List Byte) : ∃ text,
    s.spdmChallenge req = (({ s with draws := s.draws + 1 } : State).updHost fun h => { h with spdmCert := [], spdmMeas := [] }).doeAnswer
      ([0x12, 0x03, 0x00, 0x01] ++ sha512 s.life.certChain ++ (s.random 32).1 ++ [0, 0] ++ s.identitySign text) :=
  ⟨_, rfl⟩

theorem serveDoe_challenge (agreed : spdmAgreed s) {nonce : List Byte} (whole : nonce.length = 32) :
    s.serveDoe (.challenge 0 nonce) = s.spdmChallenge (DoeReq.challenge 0 nonce).bytes :=
  (if_neg (bnot_ne_true (agreed_eq_true agreed))).trans (if_neg (by simp [whole]))

theorem serveDoe_challenge_slot (agreed : spdmAgreed s) {slot : Nat} (nonce : List Byte) (other : slot ≠ 0) :
    s.serveDoe (.challenge slot nonce) = s.doeAnswer (spdmError seInvalid) :=
  (if_neg (bnot_ne_true (agreed_eq_true agreed))).trans (if_pos (.inl other))

/-- One signed measurement (R421). -/
theorem spdmMeasurements_one {k : Nat} (req : List Byte) (least : 1 ≤ k) (most : k ≤ 8) (present : s.measurement k ≠ []) : ∃ head text,
    s.spdmMeasurements k true req = (({ s with draws := s.draws + 1 } : State).updHost fun h => { h with spdmMeas := [] }).doeAnswer
        (head ++ s.identitySign text)
      ∧ head.take 2 = [0x12, 0x60] ∧ (head.drop 8).take (s.measBlock k).length = s.measBlock k := by
  have known : k ∈ s.measPresent := List.mem_filter.mpr ⟨by simp; omega, by simpa using present⟩
  have once : s.measPresent.Nodup := List.Nodup.filter _ (by decide)
  have one : s.measPresent.filter (fun j => j == k) = [k] := by
    rw [List.filter_beq, List.count_eq_one_of_mem once known]
    rfl
  have indexed : (if k = 0 then [] else if k = 0xFF then s.measPresent else s.measPresent.filter (fun j => j == k)) = [k] := by
    rw [if_neg (by omega), if_neg (by omega), one]
  unfold State.spdmMeasurements
  rw [indexed]
  extract_lets ks blocks n head msgs
  have record : blocks = s.measBlock k := List.append_nil _
  have rest : head.drop 8 = s.measBlock k ++ (n.1 ++ leOfNat 2 0) := by
    rw [← record, ← List.append_assoc]
    rfl
  rw [if_neg (by simp [ks]), if_pos rfl]
  exact ⟨head, _, rfl, rfl, by rw [rest, List.take_left]⟩

end

/-- Settles O47: each request is answered by `serveDoe`, whose answer changes the state of SPDM alone. -/
theorem spdmResponder : Obligations.SpdmResponder := by
  unfold Obligations.SpdmResponder
  refine ⟨fun s served => ?version, fun s served version => ?caps, fun s served version => ?capsEarly, fun s asym hash served version caps => ?algs,
    fun s served agreed => ?digests, fun s served early => ?digestsEarly, fun s off len served agreed inside fits => ?cert,
    fun s slot nonce served agreed whole other => ?slot, fun s nonce served agreed whole => ?challenge,
    fun s k nonce served agreed whole least most present => ?meas, fun s on runs => ?discovery, fun s on reset => ?waits, fun s off => ?closed⟩
  case version =>
    exact ⟨_, next_of_eq (exec_getVersion s) (doe_served served _), doeAnswer_sent s true false false _ [] [] _ s.draws, rfl, rfl, rfl⟩
  case caps =>
    obtain ⟨ans, answers, head, flags⟩ := serveDoe_capabilities version
    exact ⟨_, ans, next_of_eq (exec_getCapabilities s) ((doe_served served _).trans answers),
      doeAnswer_sent s s.host.spdmVersion true s.host.spdmAlgs _ s.host.spdmCert s.host.spdmMeas ans s.draws, head, flags, rfl⟩
  case capsEarly =>
    have refuses : s.serveDoe .capabilities = s.doeAnswer (spdmError seUnexpected) := if_pos (by rw [version]; rfl)
    exact ⟨_, next_of_eq (exec_getCapabilities s) ((doe_served served _).trans refuses), rfl, rfl⟩
  case algs =>
    obtain ⟨ans, answers, head⟩ := serveDoe_algorithms asym hash version caps
    exact ⟨_, ans, next_of_eq (exec_negotiateAlgorithms asym hash s) ((doe_served served _).trans answers),
      doeAnswer_sent s s.host.spdmVersion s.host.spdmCaps _ _ s.host.spdmCert s.host.spdmMeas ans s.draws, head, rfl⟩
  case digests =>
    exact ⟨_, next_of_eq (exec_getDigests s) ((doe_served served _).trans (serveDoe_digests agreed)), ⟨rfl, rfl, rfl, rfl, rfl⟩, rfl⟩
  case digestsEarly =>
    exact ⟨_, next_of_eq (exec_getDigests s) ((doe_served served _).trans (serveDoe_digests_early early)), rfl, rfl⟩
  case cert =>
    obtain ⟨ans, answers, part, length⟩ := serveDoe_certificate off len agreed inside fits
    exact ⟨_, ans, next_of_eq (exec_getCertificate 0 off len s) ((doe_served served _).trans answers), ⟨rfl, rfl, rfl, rfl, rfl⟩, part, length⟩
  case slot =>
    have other : slot.toNat ≠ 0 := fun zero => other (BitVec.eq_of_toNat_eq zero)
    exact ⟨_, next_of_eq (exec_challenge slot nonce s) ((doe_served served _).trans (serveDoe_challenge_slot agreed nonce other)), rfl, rfl⟩
  case challenge =>
    obtain ⟨text, challenged⟩ := spdmChallenge_eq s (DoeReq.challenge 0 nonce).bytes
    exact ⟨_, _, text, next_of_eq (exec_challenge 0 nonce s) (((doe_served served _).trans (serveDoe_challenge agreed whole)).trans challenged),
      ⟨rfl, rfl, rfl, rfl, rfl⟩, rfl, rfl⟩
  case meas =>
    obtain ⟨head, text, measured, start, block⟩ := spdmMeasurements_one (DoeReq.measurements k.toNat true nonce).bytes least most present
    have answers : s.serveDoe (.measurements k.toNat true nonce) = s.spdmMeasurements k.toNat true (DoeReq.measurements k.toNat true nonce).bytes :=
      (if_neg (bnot_ne_true (agreed_eq_true agreed))).trans (if_neg (by simp [whole]))
    exact ⟨_, head, text, next_of_eq (exec_getMeasurements k true nonce s) (((doe_served served _).trans answers).trans measured),
      ⟨rfl, rfl, rfl, rfl, rfl⟩, start, block, rfl⟩
  case discovery => exact ⟨_, next_of_eq (exec_doeDiscovery 0 s) (doe_served ⟨on, runs⟩ _), rfl, rfl⟩
  case waits => exact ⟨_, next_of_eq (exec_getVersion s) (doe_waits on reset _), rfl, rfl⟩
  case closed => exact next_of_eq (exec_getVersion s) (if_pos (by rw [off]; rfl))

end Sys2Proof.Machine
end

section
namespace Sys2Proof.Machine

/-! # The shared queue of requests and the sessions (R369 to R371, R424 to R429) -/

section
variable {s : State} {q : Session} {p : PFrame} {origin : Nat} {frame : List Byte}

theorem InService.normalService (service : InService s) : s.recovery = false := by simp [State.recovery, service.normal]

theorem InService.inUse (service : InService s) : s.usable = true := by simp [State.usable, service.powered, service.stage]

/-! ## Answers -/

/-- A session's entry of the list changes, and nothing else. -/
theorem updSession_eq (s : State) (id : Nat) (f : Session → Session) : ∃ sessions, s.updSession id f = s.updHost fun h => { h with sessions := sessions } :=
  ⟨_, rfl⟩

/-- An answer goes to its mailbox, to SMBus or out; the queue stays. -/
theorem respond_eq (s : State) (car origin status : Nat) (frame : List Byte) : ∃ host events out,
    s.respond car origin status frame = { s with host := host, events := events, out := out } ∧ host.queue = s.host.queue := by
  unfold State.respond
  extract_lets m s1
  split
  · split
    · exact ⟨_, _, _, rfl, rfl⟩
    split
    · split
      · exact ⟨_, _, _, rfl, rfl⟩
      · exact ⟨_, _, _, rfl, rfl⟩
    · exact ⟨_, _, _, rfl, rfl⟩
  split
  · split
    · exact ⟨_, _, _, rfl, rfl⟩
    · exact ⟨_, _, _, rfl, rfl⟩
  · exact ⟨_, _, _, rfl, rfl⟩

/-- An answer over Ethernet is one frame (R422). -/
theorem respond_ethernet (s : State) (origin status : Nat) (frame : List Byte) : s.respond 0 origin status frame = s.send (.frame 0 origin frame) := rfl

theorem respondTo_ethernet (s : State) {r : Request} (ethernet : r.car = 0) (status : Nat) (body : List Byte) : ∃ sessions,
    s.respondTo r status body = (s.updHost fun h => { h with sessions := sessions }).send
      (.frame 0 r.origin (pennosFrame true r.ver fkResponse (sessField r.sess) r.seq status body)) := by
  unfold State.respondTo
  rw [ethernet]
  exact ⟨_, rfl⟩

theorem respondTo_eq (s : State) (r : Request) (status : Nat) (body : List Byte) : ∃ host events out,
    s.respondTo r status body = { s with host := host, events := events, out := out } ∧ host.queue = s.host.queue := by
  unfold State.respondTo
  extract_lets f
  obtain ⟨_, updated⟩ := updSession_eq s r.sess fun q => { q with kept := ((r.seq, f) :: q.kept).take 32 }
  rw [updated]
  obtain ⟨_, _, _, responds, queue⟩ := respond_eq (s.updHost fun h => { h with sessions := _ }) r.car r.origin status f
  rw [responds]
  exact ⟨_, _, _, rfl, queue⟩

/-! ## A request that finds the queue empty -/

/-- The request that a frame of a session makes. -/
def Session.request (q : Session) (origin : Nat) (p : PFrame) (frame : List Byte) : Request :=
  { car := 0, origin := origin, sess := q.id, ver := q.version, maxFrame := q.maxFrame, seq := p.seq, body := p.body, frame := frame, early := false }

theorem updHost_queue_same {l : List Request} (same : s.host.queue = l) : (s.updHost fun h => { h with queue := l }) = s := by
  subst same
  rfl

/-- A request in its session's version, with a new SEQ, is accepted (R426, R428). -/
theorem takeRequest_next (serves : ServesFrames s) (session : s.sessionOf 0 origin p.sess = some q) (next : NextRequest p q) :
    s.takeRequest 0 origin p frame = (s.accepted q p.seq).updHost fun h => { h with queue := [q.request origin p frame] } := by
  have inTime : ¬ (! s.usable && decide (64 ≤ s.host.queue.length)) = true := by simp [serves.service.inUse]
  have fresh : ¬ (s.host.queue.any fun r => r.sess == q.id && r.seq == p.seq) = true := by simp [serves.empty]
  have room : ¬ (! ! s.usable && (decide (64 ≤ s.host.queue.length) || decide (4 ≤ s.outstanding 0 q.id))) = true := by
    simp [serves.empty, State.outstanding]
  unfold State.takeRequest
  extract_lets early
  rw [if_neg inTime, session]
  dsimp only
  rw [if_neg (not_not.mpr next.version), next.fresh]
  dsimp only
  rw [if_neg fresh]
  refine (if_neg ?ahead).trans ?accepted
  case ahead =>
    cases high : q.high with
    | none => simp
    | some a =>
      obtain ⟨positive, near⟩ := next.higher a high
      dsimp only
      omega
  case accepted =>
    have alone : s.host.queue ++ [q.request origin p frame] = [q.request origin p frame] := by rw [serves.empty, List.nil_append]
    rw [if_neg room, show early = false from by simp [early, serves.service.inUse]]
    exact congrArg (fun l => (s.accepted q p.seq).updHost fun h => { h with queue := l }) alone

theorem arriveServed_request (serves : ServesFrames s) (session : s.sessionOf 0 origin p.sess = some q) (parsed : parseFrame 0 frame = some p)
    (next : NextRequest p q) : s.arriveServed 0 origin frame = (s.accepted q p.seq).serve (q.request origin p frame) := by
  have arrives : s.arriveFrame 0 origin frame = (s.accepted q p.seq).updHost fun h => { h with queue := [q.request origin p frame] } := by
    refine Eq.trans ?_ (takeRequest_next serves session next)
    unfold State.arriveFrame State.deliverFrame
    rw [if_neg (by decide), parsed]
    dsimp only
    rw [if_neg (by simp [serves.service.mgmt]), if_neg (by rw [next.kind]; decide), if_neg (by rw [next.kind]; decide)]
  have empty : (s.accepted q p.seq).host.queue = [] := serves.empty
  unfold State.arriveServed
  rw [arrives, serves.empty]
  exact congrArg (fun v : State => v.serve (q.request origin p frame)) (updHost_queue_same empty)

/-- A request whose operations fit is answered with what they gave (R427, R428). -/
theorem serve_fits {r : Request} {ops : List Op} (parsed : parseOps r.body.length r.body = some ops) (few : ops.length ≤ opsMax r.ver)
    (fits : frameOver r.car + (State.runOps (r.env s) ops s).2.length ≤ r.maxFrame) :
    s.serve r = (State.runOps (r.env s) ops s).1.respondTo r 0 (State.runOps (r.env s) ops s).2 := by
  unfold State.serve
  rw [parsed]
  dsimp only
  rw [if_neg (Nat.not_lt.mpr few), if_neg (Nat.not_lt.mpr fits)]

theorem serve_many {r : Request} {ops : List Op} (parsed : parseOps r.body.length r.body = some ops) (many : opsMax r.ver < ops.length) :
    s.serve r = (s.countRefusal 0x010C).respondTo r 0x010C [] := by
  unfold State.serve
  rw [parsed]
  exact if_pos many

theorem serve_broken {r : Request} (broken : parseOps r.body.length r.body = none) : s.serve r = (s.countRefusal 0x0108).respondTo r 0x0108 [] := by
  unfold State.serve
  rw [broken]

/-- The operations of a session's request run in the environment of the session. -/
theorem request_env (serves : ServesFrames s) (origin : Nat) (frame : List Byte) :
    (q.request origin p frame).env (s.accepted q p.seq) = sessEnv 0 q := by
  have usable : (s.accepted q p.seq).usable = true := serves.service.inUse
  unfold Request.env
  rw [usable]
  rfl

end

end Sys2Proof.Machine
end

section
namespace Sys2Proof.Machine

/-! # Sessions, and what ends a wait in the queue (R371, R425, R426, R429) -/

section
variable {s : State}

/-! ## HELLO and CLOSE -/

/-- The numbers that a new session may take, in the order in which they are tried (R425). -/
def State.sessionChoices (s : State) : List Nat := (upTo 17).map fun k => (s.host.nextSession - 1 + k) % 65535 + 1

theorem sessionChoices_range {n : Nat} (choice : n ∈ s.sessionChoices) : 1 ≤ n ∧ n ≤ 65535 := by
  obtain ⟨k, -, rfl⟩ := List.mem_map.mp choice
  have := Nat.mod_lt (s.host.nextSession - 1 + k) (by decide : 0 < 65535)
  omega

theorem sessionChoices_nodup (s : State) : s.sessionChoices.Nodup := by
  refine List.Nodup.map_on (fun a ha b hb same => ?_) List.nodup_range
  have := List.mem_range.mp ha
  have := List.mem_range.mp hb
  omega

theorem session_free_iff {n : Nat} : (s.session n).isNone = true ↔ ∀ q ∈ s.host.sessions, q.id ≠ n := by
  simp [State.session]

/-- Of seventeen numbers one is free where at most fifteen sessions hold one (R425). -/
theorem freeSession_spec (few : s.openCount < 16) (debug : ∀ q ∈ s.host.sessions, q.car = 3 → 65535 < q.id) :
    1 ≤ s.freeSession ∧ s.freeSession ≤ 65535 ∧ ∀ q ∈ s.host.sessions, q.id ≠ s.freeSession := by
  have some : ∃ n ∈ s.sessionChoices, (s.session n).isNone = true := by
    by_contra none
    have held : s.sessionChoices ⊆ (s.host.sessions.filter fun q => q.car != 3).map Session.id := by
      intro n choice
      have taken : ¬ ∀ q ∈ s.host.sessions, q.id ≠ n := fun free => none ⟨n, choice, session_free_iff.mpr free⟩
      push Not at taken
      obtain ⟨q, open_, number⟩ := taken
      have limit := (sessionChoices_range choice).2
      have carrier : q.car ≠ 3 := fun isDebug => by
        have := debug q open_ isDebug
        omega
      exact List.mem_map.mpr ⟨q, List.mem_filter.mpr ⟨open_, by simpa using carrier⟩, number⟩
    have count := (List.subperm_of_subset (sessionChoices_nodup s) held).length_le
    have choices : s.sessionChoices.length = 17 := by simp [State.sessionChoices, upTo]
    rw [choices, List.length_map] at count
    exact absurd few (by unfold State.openCount; omega)
  obtain ⟨n, choice, free⟩ := some
  obtain ⟨m, found⟩ := Option.isSome_iff_exists.mp (List.find?_isSome (p := fun n => (s.session n).isNone).mpr ⟨n, choice, free⟩)
  have chosen : s.freeSession = m := (congrArg (Option.getD · 1) found :)
  obtain ⟨least, most⟩ := sessionChoices_range (List.mem_of_find?_eq_some found)
  rw [chosen]
  exact ⟨least, most, session_free_iff.mp (List.find?_some (p := fun n => (s.session n).isNone) found)⟩

theorem minors_service (service : InService s) : s.minors = [0, 1, 2, 3] := if_neg (ne_true_of_eq_false service.normalService)

/-- Version 1.3 is the highest of a service that is offered it (R425). -/
theorem helloFrom_newest (service : InService s) {origin seq maxFrame : Nat} {versions : List Nat} (offered : 0x0103 ∈ versions) (few : s.openCount < 16) :
    s.helloFrom 0 origin seq versions maxFrame = (s.updHost fun h => { h with
      sessions := h.sessions ++ [⟨s.freeSession, 0, origin, 3, min maxFrame 1400, none, [], 0, 0⟩]
      nextSession := s.freeSession % 65535 + 1 }).send (.frame 0 origin (pennosFrame true 0 fkHelloAck s.freeSession seq 0
        (helloAck [0, 1, 2, 3] 0x0103 s.freeSession (min maxFrame 1400) 32))) := by
  have last : (([0, 1, 2, 3] : List Nat).filter fun m => versions.contains (0x100 + m)).getLast? = some 3 := by
    have newest : versions.contains (0x100 + 3) = true := by simpa using offered
    rw [show ([0, 1, 2, 3] : List Nat) = [0, 1, 2] ++ [3] from rfl, List.filter_append,
      List.filter_cons_of_pos (p := fun m => versions.contains (0x100 + m)) newest, List.filter_nil, List.getLast?_concat]
  unfold State.helloFrom
  extract_lets ms size ack
  rw [show ms = [0, 1, 2, 3] from minors_service service, last]
  dsimp only
  rw [if_neg (by simp; omega)]
  simp only [ack, countRefusal_zero]
  rfl

theorem countRefusal_version (s : State) : s.countRefusal 0x0109 = s.bump (ck 0x1041 9) 1 := by simp [State.countRefusal, refusalSubs]

/-- Without a common version no session opens (R425). -/
theorem helloFrom_none (service : InService s) {origin seq maxFrame : Nat} {versions : List Nat} (strange : ∀ v ∈ versions, v < 0x0100 ∨ 0x0103 < v) :
    s.helloFrom 0 origin seq versions maxFrame = (s.bump (ck 0x1041 9) 1).send (.frame 0 origin (pennosFrame true 0 fkHelloAck 0 seq 0x0109
      (helloAck [0, 1, 2, 3] 0 0 (min maxFrame 1400) 8))) := by
  have none : ([0, 1, 2, 3] : List Nat).filter (fun m => versions.contains (0x100 + m)) = [] := by
    refine List.filter_eq_nil_iff.mpr fun m minor common => ?_
    have offered := strange _ (List.contains_iff_mem.mp common)
    simp at minor
    omega
  unfold State.helloFrom
  extract_lets ms size ack
  rw [show ms = [0, 1, 2, 3] from minors_service service, none]
  simp only [List.getLast?_nil, ack, countRefusal_version]
  rfl

theorem execHello_served (service : InService s) (on : s.carrierOn .ethernet = true) {versions : List U16} (some : 1 ≤ versions.length)
    (few : versions.length ≤ 8) (origin : Nat) (maxFrame : U16) :
    execHello .ethernet origin versions maxFrame s = .next (s.helloFrom 0 origin 0 (versions.map BitVec.toNat) maxFrame.toNat) := by
  have named : versions.isEmpty = false := by
    cases versions
    · cases some
    · rfl
  unfold execHello
  extract_lets c
  rw [if_neg (bnot_ne_true on), if_neg (by simp [c, carNum, named]; omega), if_neg (by simp [service.mgmt])]
  rfl

theorem closeFrom_open {origin : Nat} {p : PFrame} {q : Session} (session : s.sessionOf 0 origin p.sess = some q) (version : p.ver = 16 + q.version) :
    s.closeFrom 0 origin p = (s.dropSession q.id).send (.frame 0 origin (pennosFrame true q.version fkResponse p.sess p.seq 0 [])) := by
  unfold State.closeFrom
  rw [session]
  exact if_neg (not_not.mpr version)

/-! ## The front of the queue -/

theorem serveFront_cons {r : Request} {l : List Request} (front : s.host.queue = r :: l) :
    s.serveFront = (s.updHost fun h => { h with queue := l }).serve r := by
  unfold State.serveFront
  rw [front]

theorem countRefusal_ops (s : State) : s.countRefusal 0x010C = s.bump (ck 0x1041 0x0C) 1 := by simp [State.countRefusal, refusalSubs]
theorem countRefusal_timeout (s : State) : s.countRefusal 0x010E = s.bump (ck 0x1040 3) 1 := by simp [State.countRefusal]

/-- The request at the front has waited too long (R429). -/
theorem timeoutFront_cons {r : Request} {l : List Request} {ops : List Op} (front : s.host.queue = r :: l)
    (parsed : parseOps r.body.length r.body = some ops) :
    s.timeoutFront = ((s.updHost fun h => { h with queue := l }).bump (ck 0x1040 3) 1).respondTo r 0
      ((List.replicate ops.length (opAnswer 0x010E [])).flatMap id) := by
  unfold State.timeoutFront
  rw [front]
  dsimp only
  rw [countRefusal_timeout, parsed]
  rfl

theorem timeoutFront_ethernet {r : Request} {l : List Request} {ops : List Op} (front : s.host.queue = r :: l) (ethernet : r.car = 0)
    (parsed : parseOps r.body.length r.body = some ops) : ∃ host : HostSt, host.queue = l
      ∧ s.timeoutFront = (({ s with host := host } : State).bump (ck 0x1040 3) 1).send (.frame 0 r.origin
        (pennosFrame true r.ver fkResponse (sessField r.sess) r.seq 0 ((List.replicate ops.length (opAnswer 0x010E [])).flatMap id))) := by
  rw [timeoutFront_cons front parsed]
  obtain ⟨sessions, answers⟩ := respondTo_ethernet ((s.updHost fun h => { h with queue := l }).bump (ck 0x1040 3) 1) ethernet 0
    ((List.replicate ops.length (opAnswer 0x010E [])).flatMap id)
  exact ⟨{ s.host with queue := l, sessions := sessions }, rfl, answers⟩

theorem timeoutFront_nil (empty : s.host.queue = []) : s.timeoutFront = s := by
  unfold State.timeoutFront
  rw [empty]

/-- A request of too many operations is refused (R428). -/
theorem execPennosRequest_many {origin : Nat} {frame : List Byte} {p : PFrame} {q : Session} {ops : List Op} (serves : ServesFrames s)
    (on : s.carrierOn .ethernet = true) (session : s.sessionOf 0 origin p.sess = some q) (parsed : parseFrame 0 frame = some p) (next : NextRequest p q)
    (whole : parseOps p.body.length p.body = some ops) (many : opsMax q.version < ops.length) : ∃ host : HostSt, host.queue = []
      ∧ execPennosRequest .ethernet origin frame s = .next ((({ s with host := host } : State).bump (ck 0x1041 0x0C) 1).send (.frame 0 origin
        (pennosFrame true q.version fkResponse (sessField q.id) p.seq 0x010C []))) := by
  have runs : execPennosRequest .ethernet origin frame s = .next (s.arriveServed 0 origin frame) := by
    unfold execPennosRequest
    extract_lets c
    rw [if_neg (bnot_ne_true on), serves.empty]
    rfl
  rw [runs, arriveServed_request serves session parsed next, serve_many (r := q.request origin p frame) whole many, countRefusal_ops]
  obtain ⟨sessions, answers⟩ := respondTo_ethernet ((s.accepted q p.seq).bump (ck 0x1041 0x0C) 1) (r := q.request origin p frame) rfl 0x010C []
  rw [answers]
  exact ⟨{ s.host with sessions := sessions }, serves.empty, rfl⟩

/-- A request that does not hold whole operations is refused (R428). -/
theorem execPennosRequest_broken {frame : List Byte} {r : Request} {l : List Request} (on : s.carrierOn .ethernet = true) (front : s.host.queue = r :: l)
    (ethernet : r.car = 0) (named : r.frame = frame) (broken : parseOps r.body.length r.body = none) : ∃ host : HostSt, host.queue = l
      ∧ execPennosRequest .ethernet r.origin frame s = .next ((({ s with host := host } : State).bump (ck 0x1041 8) 1).send (.frame 0 r.origin
        (pennosFrame true r.ver fkResponse (sessField r.sess) r.seq 0x0108 []))) := by
  have runs : execPennosRequest .ethernet r.origin frame s = .next s.serveFront := by
    unfold execPennosRequest
    extract_lets c
    rw [if_neg (bnot_ne_true on), front]
    exact congrArg _ (if_pos ⟨ethernet, rfl, named⟩)
  rw [runs, serveFront_cons front, serve_broken broken, countRefusal_frame]
  obtain ⟨sessions, answers⟩ := respondTo_ethernet ((s.updHost fun h => { h with queue := l }).bump (ck 0x1041 8) 1) ethernet 0x0108 []
  rw [answers]
  exact ⟨{ s.host with queue := l, sessions := sessions }, rfl, rfl⟩

/-! ## A management reset (R371) -/

/-- What the answers to waiting requests leave alone. -/
def WaitsAnswered (s u : State) : Prop := u.boot = s.boot ∧ u.life = s.life ∧ u.tiles = s.tiles ∧ u.jobs = s.jobs ∧ u.mem = s.mem

theorem WaitsAnswered.trans {u v : State} (h : WaitsAnswered s u) (h' : WaitsAnswered u v) : WaitsAnswered s v := by
  obtain ⟨boot, life, tiles, jobs, mem⟩ := h
  obtain ⟨boot', life', tiles', jobs', mem'⟩ := h'
  exact ⟨boot'.trans boot, life'.trans life, tiles'.trans tiles, jobs'.trans jobs, mem'.trans mem⟩

theorem respondTo_answered (s : State) (r : Request) (status : Nat) (body : List Byte) :
    WaitsAnswered s (s.respondTo r status body) ∧ (s.respondTo r status body).host.queue = s.host.queue := by
  obtain ⟨_, _, _, responds, queue⟩ := respondTo_eq s r status body
  rw [responds]
  exact ⟨⟨rfl, rfl, rfl, rfl, rfl⟩, queue⟩

theorem countRefusal_ctr (s : State) (st : Nat) : ∃ ctr, s.countRefusal st = { s with ctr := ctr } := by
  unfold State.countRefusal
  split
  · exact ⟨_, rfl⟩
  split
  · exact ⟨_, rfl⟩
  split
  · exact ⟨_, rfl⟩
  split
  · exact ⟨_, rfl⟩
  split
  · exact ⟨_, rfl⟩
  split
  · exact ⟨_, rfl⟩
  · exact ⟨s.ctr, rfl⟩

theorem timeoutFront_answered (s : State) : WaitsAnswered s s.timeoutFront := by
  unfold State.timeoutFront
  split
  · exact ⟨rfl, rfl, rfl, rfl, rfl⟩
  next r l front =>
    extract_lets n
    obtain ⟨_, counts⟩ := countRefusal_ctr (s.updHost fun h => { h with queue := l }) 0x010E
    rw [counts]
    exact (respondTo_answered _ r 0 _).1

/-- Every request that waits is answered, and the queue is empty. -/
theorem busyRest_answered (n : Nat) (s : State) (all : s.host.queue.length ≤ n) :
    WaitsAnswered s (State.busyRest n s) ∧ (State.busyRest n s).host.queue = [] := by
  induction n generalizing s with
  | zero => exact ⟨⟨rfl, rfl, rfl, rfl, rfl⟩, List.length_eq_zero_iff.mp (Nat.le_zero.mp all)⟩
  | succ n ih =>
    unfold State.busyRest
    split
    next empty => exact ⟨⟨rfl, rfl, rfl, rfl, rfl⟩, empty⟩
    next r l front =>
      obtain ⟨answered, queue⟩ := respondTo_answered ((s.updHost fun h => { h with queue := l }).bump (ck 0xA120 0x0A) 1) r 0x0A02 (busyBody r.ver)
      have rest : l.length ≤ n := by
        rw [front] at all
        exact Nat.le_of_succ_le_succ all
      obtain ⟨others, empty⟩ := ih _ (by rw [queue]; exact rest)
      have first : WaitsAnswered s ((s.updHost fun h => { h with queue := l }).bump (ck 0xA120 0x0A) 1) := ⟨rfl, rfl, rfl, rfl, rfl⟩
      exact ⟨(first.trans answered).trans others, empty⟩

theorem execMgmtWatchdogExpiry_resets (powered : s.boot.powered = true) (runs : s.boot.mgmt = true) : ∃ u, WaitsAnswered s u ∧ u.host.queue = []
    ∧ execMgmtWatchdogExpiry s = .next { u with
      boot := { u.boot with mgmt := false }, life := { u.life with mgmtResets := (u.life.mgmtResets + 1) % 2 ^ 32 } } := by
  unfold execMgmtWatchdogExpiry
  extract_lets s1 s2
  obtain ⟨answered, empty⟩ := busyRest_answered s1.host.queue.length s1 (Nat.le_refl _)
  rw [if_neg (by simp [powered, runs])]
  exact ⟨s2, (timeoutFront_answered s).trans answered, empty, rfl⟩

end

/-- Settles O49: HELLO and CLOSE change the list of sessions, a request is served or answered at the front of the queue, and a reset answers what waits. -/
theorem sessionsAndTheQueue : Obligations.SessionsAndTheQueue := by
  unfold Obligations.SessionsAndTheQueue
  refine ⟨fun s origin vs mf service on some few offered open_ debug => ?hello, fun s origin vs mf service on some few strange => ?strange,
    fun s origin session q service on found => ?close, fun s session number => ?idle,
    fun s origin frame p q ops serves on session parsed next whole many => ?many,
    fun s origin frame r l service on front ethernet from' named broken => ?broken, fun s r l ops powered front ethernet whole => ?timeout,
    fun s powered empty => ?noTimeout, fun s powered runs => ?watchdog⟩
  case hello =>
    have offered : 0x0103 ∈ vs.map BitVec.toNat := List.mem_map.mpr ⟨_, offered, rfl⟩
    have runs := (execHello_served service on some few origin mf).trans (congrArg _ (helloFrom_newest service offered open_))
    obtain ⟨least, most, free⟩ := freeSession_spec open_ debug
    exact ⟨_, s.freeSession, (exec_hello .ethernet origin vs mf s).trans runs, rfl, least, most, free, rfl, rfl⟩
  case strange =>
    have strange : ∀ v ∈ vs.map BitVec.toNat, v < 0x0100 ∨ 0x0103 < v := by
      intro v mem
      obtain ⟨w, offered, rfl⟩ := List.mem_map.mp mem
      exact strange w offered
    have runs := (execHello_served service on some few origin mf).trans (congrArg _ (helloFrom_none service strange))
    exact ⟨_, (exec_hello .ethernet origin vs mf s).trans runs, rfl, rfl, rfl⟩
  case close =>
    have runs : execClose .ethernet origin session s = .next (s.closeFrom 0 origin ⟨16 + q.version, fkClose, session, 0, []⟩) := by
      unfold execClose
      extract_lets c ver
      have version : ver = 16 + q.version := by
        unfold ver
        rw [show s.sessionOf c origin session = some q from found]
      rw [if_neg (bnot_ne_true on), if_neg (by decide), if_neg (by simp [service.mgmt]), version]
      rfl
    exact ⟨_, (exec_close .ethernet origin session s).trans (runs.trans (congrArg _ (closeFrom_open found rfl))), rfl, rfl, rfl⟩
  case idle => exact ⟨_, next_of_eq (exec_sessionIdleTimeout session s) (if_neg (by unfold dbgSess; omega)), rfl, rfl⟩
  case many =>
    obtain ⟨host, queue, runs⟩ := execPennosRequest_many serves on session parsed next whole many
    exact ⟨_, (exec_pennosRequest .ethernet origin frame s).trans runs, rfl, queue, counted_of_bump rfl one_pos, rfl⟩
  case broken =>
    subst from'
    obtain ⟨host, queue, runs⟩ := execPennosRequest_broken on front ethernet named broken
    exact ⟨_, (exec_pennosRequest .ethernet r.origin frame s).trans runs, rfl, queue, counted_of_bump rfl one_pos, rfl⟩
  case timeout =>
    obtain ⟨host, queue, runs⟩ := timeoutFront_ethernet front ethernet whole
    exact ⟨_, next_of_eq (exec_dictRequestTimeout s) ((if_pos powered).trans runs), rfl, queue, counted_of_bump rfl one_pos, rfl⟩
  case noTimeout => exact next_of_eq (exec_dictRequestTimeout s) ((if_pos powered).trans (timeoutFront_nil empty))
  case watchdog =>
    obtain ⟨u, ⟨boot, life, tiles, jobs, mem⟩, empty, resets⟩ := execMgmtWatchdogExpiry_resets powered runs
    refine ⟨_, (exec_mgmtWatchdogExpiry s).trans resets, empty, ?_, ?_, tiles, jobs, mem⟩
    · rw [← boot]
    · rw [← life]

end Sys2Proof.Machine
end

section
namespace Sys2Proof.Machine

/-! # The Ethernet and SMBus ports (R422, R423) -/

section
variable {s : State}

/-! ## Ethernet -/

theorem execEthPennosDatagram_on (on : s.ethOn = true) (origin : Nat) (frame : List Byte) :
    execEthPennosDatagram origin frame s = .next (s.arriveServed 0 origin frame) := congrArg _ (if_pos on)

theorem badFrame_ethernet (s : State) (origin : Nat) : s.badFrame 0 origin = s.bump (ck 0x1040 1) 1 := rfl

/-- A datagram whose request fits is answered by one frame after what its operations sent (R422, R428). -/
theorem arriveServed_answer {origin : Nat} {frame : List Byte} {p : PFrame} {q : Session} {ops : List Op} (serves : ServesFrames s)
    (session : s.sessionOf 0 origin p.sess = some q) (parsed : parseFrame 0 frame = some p) (next : NextRequest p q)
    (whole : parseOps p.body.length p.body = some ops) (few : ops.length ≤ opsMax q.version)
    (fits : 20 + (State.runOps (sessEnv 0 q) ops (s.accepted q p.seq)).2.length ≤ q.maxFrame) :
    (s.arriveServed 0 origin frame).out = (State.runOps (sessEnv 0 q) ops (s.accepted q p.seq)).1.out ++ [.frame 0 origin
      (pennosFrame true q.version fkResponse (sessField q.id) p.seq 0 (State.runOps (sessEnv 0 q) ops (s.accepted q p.seq)).2)] := by
  have env := request_env (p := p) (q := q) serves origin frame
  have served := serve_fits (s := s.accepted q p.seq) (r := q.request origin p frame) whole few (by rw [env]; exact fits)
  rw [arriveServed_request serves session parsed next, served, env]
  obtain ⟨_, answers⟩ := respondTo_ethernet (State.runOps (sessEnv 0 q) ops (s.accepted q p.seq)).1 (r := q.request origin p frame) rfl 0
    (State.runOps (sessEnv 0 q) ops (s.accepted q p.seq)).2
  rw [answers]
  rfl

theorem ethDiscard_counted (s : State) : { s.ethDiscard with ctr := s.ctr } = s ∧ counted s s.ethDiscard (ck 0x1040 0x0C) 1 :=
  ⟨by simp [State.ethDiscard], counted_of_bump rfl one_pos⟩

/-- The addresses in force are those of their objects, and with them every Ethernet session closes. -/
theorem execEthAddressApply_due (powered : s.boot.powered = true) (due : s.host.ethDue = true) : ∃ (host : HostSt) (draws : Nat),
    execEthAddressApply s = .next { s with host := host, draws := draws } ∧ host.ethDue = false
      ∧ host.sessions = s.host.sessions.filter (fun q => q.car != 0)
      ∧ (s.keptNat (ck 0x1020 2) 0 = 1 → host.ethAddr4 = s.keptNat (ck 0x1020 3) 0) := by
  unfold execEthAddressApply
  rw [if_pos (by simp [powered, due])]
  exact ⟨_, _, rfl, rfl, rfl, fun static => if_pos static⟩

/-! ## SMBus -/

theorem smbusRow_good (on : s.carrierOn .smbus = true) (f : State → State) : smbusRow true f s = .next (f s) := by
  unfold smbusRow
  rw [if_neg (bnot_ne_true on), if_pos rfl]

theorem smbusRow_bad (on : s.carrierOn .smbus = true) (f : State → State) : smbusRow false f s = .next (s.bump (ck 0x1040 0x0D) 1) := by
  unfold smbusRow
  rw [if_neg (bnot_ne_true on), if_neg Bool.false_ne_true]

/-- The request that an SMBus frame makes (R423). -/
def smRequest (p : PFrame) (frame : List Byte) : Request :=
  { car := 2, origin := 0, sess := 0, ver := 0, maxFrame := 255, seq := p.seq, body := p.body, frame := frame, early := false }

/-- A good frame joins an empty queue, and the port is busy. -/
theorem deliverSmbus_request {frame : List Byte} {p : PFrame} (serves : ServesFrames s) (parsed : parseFrame 2 frame = some p) (kind : p.kind = 3)
    (version : p.ver = 16) (session : p.sess = 0) :
    s.deliverSmbus frame = s.updHost fun h => { h with queue := [smRequest p frame], smBusy := true } := by
  have usable := serves.service.inUse
  have empty : ¬ 64 ≤ s.host.queue.length := by simp [serves.empty]
  have alone : s.host.queue ++ [smRequest p frame] = [smRequest p frame] := by rw [serves.empty, List.nil_append]
  unfold State.deliverSmbus
  rw [parsed]
  dsimp only
  rw [if_neg (by simp [serves.service.mgmt]), if_neg (by simp [usable]), if_neg (show ¬ p.kind ≠ fkRequest from not_not.mpr kind),
    if_neg (show ¬ p.ver ≠ 16 from not_not.mpr version), if_neg (show ¬ p.sess ≠ 0 from not_not.mpr session), if_neg empty,
    show (! s.usable) = false from by rw [usable]; rfl]
  exact congrArg (fun l => s.updHost fun h => { h with queue := l, smBusy := true }) alone

theorem respondTo_smbus (s : State) (p : PFrame) (frame body : List Byte) : ∃ host : HostSt, host.smBusy = false
    ∧ host.smResp = some (pennosFrame false 0 4 0 p.seq 0 body) ∧ s.respondTo (smRequest p frame) 0 body = { s with host := host } :=
  ⟨_, rfl, rfl, rfl⟩

/-- A good frame that finds the queue empty is served at once. -/
theorem arriveServed_smbus {frame : List Byte} {p : PFrame} (serves : ServesFrames s) (parsed : parseFrame 2 frame = some p) (kind : p.kind = 3)
    (version : p.ver = 16) (session : p.sess = 0) :
    s.arriveServed 2 0 frame = (s.updHost fun h => { h with smBusy := true }).serve (smRequest p frame) := by
  have arrives : s.arriveFrame 2 0 frame = s.updHost fun h => { h with queue := [smRequest p frame], smBusy := true } := by
    refine Eq.trans ?_ (deliverSmbus_request serves parsed kind version session)
    exact if_pos rfl
  have empty : (s.updHost fun h => { h with smBusy := true }).host.queue = [] := serves.empty
  unfold State.arriveServed
  rw [arrives, serves.empty]
  exact congrArg (fun v : State => v.serve (smRequest p frame)) (updHost_queue_same empty)

/-- A Block Write whose request fits leaves its answer for a Block Read (R423). -/
theorem execSmbusBlockWrite_request {frame : List Byte} {p : PFrame} {ops : List Op} (serves : ServesFrames s) (on : s.carrierOn .smbus = true)
    (some : frame ≠ []) (most : frame.length ≤ 255) (parsed : parseFrame 2 frame = .some p) (kind : p.kind = 3) (version : p.ver = 16)
    (session : p.sess = 0) (whole : parseOps p.body.length p.body = .some ops) (few : ops.length ≤ 8)
    (fits : 16 + (State.runOps smEnv ops s.smServing).2.length ≤ 255) : ∃ (v : State) (host : HostSt), host.smBusy = false
      ∧ host.smResp = .some (pennosFrame false 0 4 0 p.seq 0 (State.runOps smEnv ops s.smServing).2)
      ∧ execSmbusBlockWrite true frame s = .next { v with host := host } := by
  have none_waits : s.host.queue.map (fun r => if r.car = 2 then { r with origin := 1 } else r) = s.host.queue := by
    rw [serves.empty, List.map_nil]
  have discards : (s.updHost fun h => { h with
      smResp := none, smBusy := false, queue := h.queue.map (fun r => if r.car = 2 then { r with origin := 1 } else r) }) =
      s.updHost fun h => { h with smResp := none, smBusy := false } :=
    congrArg (fun l => s.updHost fun h => { h with smResp := none, smBusy := false, queue := l }) none_waits
  have fit : ¬ (frame.isEmpty = true ∨ 255 < frame.length) := by simp [some, most]
  have env : (smRequest p frame).env s.smServing = smEnv := by
    have usable : s.smServing.usable = true := serves.service.inUse
    unfold Request.env
    rw [usable]
    rfl
  have idle : ServesFrames (s.updHost fun h => { h with smResp := none, smBusy := false }) :=
    ⟨⟨serves.service.powered, serves.service.stage, serves.service.normal, serves.service.mgmt⟩, serves.empty⟩
  have served : s.smServing.serve (smRequest p frame) =
      (State.runOps smEnv ops s.smServing).1.respondTo (smRequest p frame) 0 (State.runOps smEnv ops s.smServing).2 := by
    refine (serve_fits (s := s.smServing) (r := smRequest p frame) whole few ?_).trans ?_ <;> rw [env]
    exact fits
  obtain ⟨host, busy, answer, responds⟩ :=
    respondTo_smbus (State.runOps smEnv ops s.smServing).1 p frame (State.runOps smEnv ops s.smServing).2
  refine ⟨(State.runOps smEnv ops s.smServing).1, host, busy, answer, ?_⟩
  unfold execSmbusBlockWrite
  rw [smbusRow_good on, if_neg fit, discards]
  refine congrArg _ ?_
  exact (arriveServed_smbus idle parsed kind version session).trans (served.trans responds)

theorem execSmbusBlockWrite_bad (on : s.carrierOn .smbus = true) (frame : List Byte) :
    execSmbusBlockWrite false frame s = .next (s.bump (ck 0x1040 0x0D) 1) := smbusRow_bad on _

/-- The port takes an Alert Response Address while an event waits. -/
theorem execSmbusAlertResponse_waiting (on : s.carrierOn .smbus = true) (waits : s.host.alerts ≠ []) : execSmbusAlertResponse true s =
    .next ((s.updHost fun h => { h with alertNext := true }).send (.smbus [BitVec.ofNat 8 (2 * s.smAddr)])) := by
  unfold execSmbusAlertResponse
  rw [smbusRow_good on, if_neg (by simpa using waits)]

theorem execSmbusAlertResponse_none (on : s.carrierOn .smbus = true) (none : s.host.alerts = []) : execSmbusAlertResponse true s = .next s := by
  unfold execSmbusAlertResponse
  rw [smbusRow_good on, if_pos (by simp [none])]

/-- A Block Read after the Alert Response Address gives the event. -/
theorem execSmbusBlockRead_alert {e : Event} {l : List Event} (on : s.carrierOn .smbus = true) (next : s.host.alertNext = true)
    (waits : s.host.alerts = e :: l) : execSmbusBlockRead true s =
      .next ((s.updHost fun h => { h with alertNext := false, alerts := l }).send (.smbus (alertFrame e))) := by
  unfold execSmbusBlockRead
  rw [smbusRow_good on, next, waits]

theorem execSmbusBlockRead_answer {f : List Byte} (on : s.carrierOn .smbus = true) (next : s.host.alertNext = false)
    (ready : s.host.smResp = some f) : execSmbusBlockRead true s = .next ((s.updHost fun h => { h with smResp := none }).send (.smbus f)) := by
  unfold execSmbusBlockRead
  rw [smbusRow_good on, next, ready]

theorem execSmbusBlockRead_empty (on : s.carrierOn .smbus = true) (next : s.host.alertNext = false) (none : s.host.smResp = none) :
    execSmbusBlockRead true s = .next (s.send (.smbus [])) := by
  unfold execSmbusBlockRead
  rw [smbusRow_good on, next, none]

theorem execSmbusReadByte_good (on : s.carrierOn .smbus = true) : execSmbusReadByte true s =
    .next (s.send (.smbus [if s.host.smResp.isSome then 2 else if s.host.smBusy then 1 else 0])) := smbusRow_good on _

end

/-- Settles O48: a frame that finds the queue empty is served at once, and its answer is one datagram or waits for a Block Read. -/
theorem ethernetAndSmbus : Obligations.EthernetAndSmbus := by
  unfold Obligations.EthernetAndSmbus
  refine ⟨fun s origin frame on invalid => ?invalid, fun s origin frame p q ops serves session parsed next whole few fits => ?datagram,
    fun s target on => ?arp, fun s target on => ?ndp, fun s v6 payload on => ?echo, fun s on => ?other, fun s powered due => ?address,
    fun s up powered => ?link, fun s frame on => ?badPec,
    fun s frame p ops serves on some most parsed kind version session whole few fits => ?write,
    fun s f on next ready => ?answer, fun s e l on next waits => ?alert, fun s on next none => ?empty, fun s on => ?byte,
    fun s on none => ?quiet, fun s on waits => ?response⟩
  case invalid =>
    refine ⟨_, execEthPennosDatagram_on on origin frame, ?_⟩
    rw [arriveServed_bad (by decide) invalid (by rw [badFrame_ethernet, State.bump_host]), badFrame_ethernet]
    exact ⟨by simp, counted_of_bump rfl one_pos⟩
  case datagram =>
    exact ⟨_, execEthPennosDatagram_on session.ethOn origin frame,
      arriveServed_answer serves session.session parsed next whole few fits⟩
  case arp =>
    refine ⟨_, congrArg Host.Outcome.next (if_neg (bnot_ne_true on)), fun own => ?_, fun other => ?_⟩
    · rw [if_pos own]; exact ⟨rfl, rfl⟩
    · rw [if_neg other]; exact ethDiscard_counted s
  case ndp =>
    refine ⟨_, congrArg Host.Outcome.next (if_neg (bnot_ne_true on)), fun own => ?_, fun local6 global6 => ?_⟩
    · rw [if_pos own]; exact ⟨rfl, rfl⟩
    · rw [if_neg (not_or.mpr ⟨local6, global6⟩)]; exact ethDiscard_counted s
  case echo => exact ⟨_, congrArg Host.Outcome.next (if_pos on), rfl, rfl⟩
  case other => exact ⟨_, congrArg Host.Outcome.next (if_pos on), ethDiscard_counted s⟩
  case address =>
    obtain ⟨host, draws, cmd, clear, sessions, address⟩ := execEthAddressApply_due powered due
    exact ⟨_, cmd, rfl, clear, sessions, address⟩
  case link => exact ⟨_, congrArg Host.Outcome.next (if_pos powered), rfl, rfl⟩
  case badPec => exact ⟨_, execSmbusBlockWrite_bad on frame, by simp, counted_of_bump rfl one_pos⟩
  case write =>
    obtain ⟨v, host, busy, answer, cmd⟩ := execSmbusBlockWrite_request serves on some most parsed kind version session whole few fits
    exact ⟨_, cmd, busy, answer⟩
  case answer => exact ⟨_, execSmbusBlockRead_answer on next ready, rfl, rfl, rfl⟩
  case alert => exact ⟨_, execSmbusBlockRead_alert on next waits, rfl, rfl, rfl⟩
  case empty => exact ⟨_, execSmbusBlockRead_empty on next none, rfl, rfl⟩
  case byte =>
    refine ⟨_, _, execSmbusReadByte_good on, ⟨rfl, rfl⟩, fun ready => ?_, fun none busy => ?_, fun none idle => ?_⟩
    · rw [if_pos (Option.isSome_iff_ne_none.mpr ready)]
    · rw [none, busy]; rfl
    · rw [none, idle]; rfl
  case quiet => exact execSmbusAlertResponse_none on none
  case response => exact ⟨_, execSmbusAlertResponse_waiting on waits, rfl, rfl, rfl⟩

end Sys2Proof.Machine
end

section
namespace Sys2Proof.Machine

/-! # The JTAG instructions (R466, R484) -/

section
variable {s : State}

theorem jtagRow_on (powered : s.boot.powered = true) (f : State → State) : jtagRow f s = .next (f s) := congrArg _ (if_pos powered)

theorem jtag_did (s : State) (ir value : Nat) : jtagDid s (s.jtag ir value) ir value := ⟨rfl, rfl, rfl⟩

theorem execBypass_on (powered : s.boot.powered = true) : execBypass s = .next (s.jtag irBypass 0) := jtagRow_on powered _

theorem execIdcode_on (powered : s.boot.powered = true) : execIdcode s = .next (s.jtag irIdcode s.idcode) := jtagRow_on powered _

/-- The boundary cells take what is shifted in, and the pins are captured. -/
theorem execSamplePreload_on (powered : s.boot.powered = true) (value : Nat) : execSamplePreload value s =
    .next { s.jtag irSample (Config.pinSample s.draws) with draws := s.draws + 1, prot := { s.prot with ir := irSample, boundary := value } } :=
  jtagRow_on powered _

theorem execTrstAssert_on (powered : s.boot.powered = true) : execTrstAssert s = .next { s with prot := { s.prot with ir := irIdcode } } :=
  jtagRow_on powered _

/-- From the observe level on, an instruction that needs it does its work. -/
theorem jtagRow_observed (served : DbgServed s 1) (f : State → State) : jtagRow (observed f) s = .next (f s) :=
  (jtagRow_on served.powered _).trans (congrArg _ (if_pos served.level))

/-- Below it BYPASS is selected. -/
theorem jtagRow_bypassed (powered : s.boot.powered = true) (low : s.level = 0) (f : State → State) :
    jtagRow (observed f) s = .next (s.jtag irBypass 0) :=
  (jtagRow_on powered _).trans (congrArg _ (if_neg (by omega)))

theorem idcode_low (s : State) : s.idcode % 2 = 1 := by
  unfold State.idcode
  omega

theorem idcode_version (s : State) : s.idcode / 2 ^ 28 = s.fuses.stepping % 16 := by
  unfold State.idcode
  omega

/-- The debug port has its session after a DBGFRAME, opened by it where none was. -/
theorem openDebug_session (s : State) : (s.openDebug.session dbgSess).isSome = true := by
  unfold State.session
  refine List.find?_isSome.mpr ⟨_, List.mem_append_right _ (List.mem_singleton_self _), ?_⟩
  rfl

/-- The state in which a frame of the debug port arrives. -/
def State.inDebugSession (s : State) : State := if (s.session dbgSess).isSome then s else s.openDebug

theorem inDebugSession_session (s : State) : (s.inDebugSession.session dbgSess).isSome = true := by
  unfold State.inDebugSession
  split
  case isTrue already => exact already
  case isFalse => exact openDebug_session s

theorem inDebugSession_eq (s : State) : ∃ sessions, s.inDebugSession = s.updHost fun h => { h with sessions := sessions } := by
  unfold State.inDebugSession
  split
  · exact ⟨s.host.sessions, rfl⟩
  · exact ⟨_, rfl⟩

theorem badFrame_debug (s : State) :
    s.badFrame 3 1 = (s.bump (ck 0x1041 8) 1).send (.frame 3 1 (pennosFrame true 0 4 0 0 0x0108 [])) := by
  unfold State.badFrame
  rw [if_neg (by decide), countRefusal_frame]
  rfl

theorem execDbgframe_on (served : DbgServed s 1) (on : s.carrierOn .debug = true) (frame : List Byte) :
    execDbgframe frame s = .next ((s.jtag irDbgframe 0).inDebugSession.arriveServed 3 1 frame) := by
  unfold execDbgframe
  rw [jtagRow_observed served]
  exact congrArg _ (if_neg (bnot_ne_true on))

/-- A frame that does not hold together is answered 0x0108 in the session that the port has. -/
theorem execDbgframe_invalid {frame : List Byte} (served : DbgServed s 1) (on : s.carrierOn .debug = true) (invalid : parseFrame 3 frame = none) :
    ∃ u, execDbgframe frame s = .next u ∧ { u with out := s.out, prot := s.prot, host := s.host, ctr := s.ctr } = s
      ∧ u.prot = { s.prot with ir := 0x10 } ∧ counted s u (ck 0x1041 8) 1
      ∧ u.out = s.out ++ [.jtag 0x10 0, .frame 3 1 (pennosFrame true 0 4 0 0 0x0108 [])] ∧ (u.session 65536).isSome = true := by
  obtain ⟨sessions, opened⟩ := inDebugSession_eq (s.jtag irDbgframe 0)
  have session := inDebugSession_session (s.jtag irDbgframe 0)
  have served := execDbgframe_on served on frame
  rw [opened] at session served
  rw [arriveServed_bad (by decide) invalid (by rw [badFrame_debug]; simp), badFrame_debug] at served
  exact ⟨_, served, by simp [State.jtag], by simp [State.jtag, irDbgframe], counted_of_bump rfl one_pos, by simp [State.jtag, irDbgframe], session⟩

end

/-- Settles O54: each instruction is the row of its data register, behind the observe level where it needs it. -/
theorem jtagInstructions : Obligations.JtagInstructions := by
  unfold Obligations.JtagInstructions
  refine ⟨fun s powered => ⟨_, execBypass_on powered, jtag_did s _ _⟩,
    fun s powered => ⟨_, _, execIdcode_on powered, jtag_did s _ _, idcode_low s, idcode_version s⟩,
    fun s value powered => ⟨_, _, execSamplePreload_on powered value, rfl, rfl, rfl⟩,
    fun s served => ⟨_, jtagRow_observed served _, jtag_did s _ _⟩,
    fun s served => ⟨_, jtagRow_observed served _, jtag_did s _ _⟩,
    fun s served => ⟨_, jtagRow_observed served _, jtag_did s _ _⟩,
    fun s frame served on mgmt invalid => execDbgframe_invalid served on invalid,
    fun s frame powered low => ⟨⟨_, jtagRow_bypassed powered low _, jtag_did s _ _⟩, ⟨_, jtagRow_bypassed powered low _, jtag_did s _ _⟩,
      ⟨_, jtagRow_bypassed powered low _, jtag_did s _ _⟩, ⟨_, jtagRow_bypassed powered low _, jtag_did s _ _⟩⟩,
    fun s powered => ⟨_, execTrstAssert_on powered, rfl⟩⟩

end Sys2Proof.Machine
end

section
namespace Sys2Proof.Machine

/-! # The gates of writes and of debug commands (R370, R371, R431, R456, R457, R472) -/

section
variable {s : State} {car : Carrier} {cls : Nat} {mk : Carrier → Instr}

/-! ## A write at each of its gates -/

/-- Outside of recovery a device that listens serves every carrier (R369). -/
theorem carrierOn_listening (powered : s.boot.powered = true) (listens : 2 ≤ s.boot.stage) (normal : s.boot.outcome ≠ 3) (car : Carrier) :
    s.carrierOn car = true := by
  simp [State.carrierOn, State.listening, State.recovery, powered, listens, normal]

theorem mgmtWriteIn_unpowered (dark : s.boot.powered = false) (how : Serve) (car : Carrier) (cls : Nat) (w : Writer) :
    mgmtWriteIn how car cls w s = .next s :=
  if_pos (by simp [State.carrierOn, State.listening, dark])

/-- In a management reset a write is answered 0x0A02 (R371). -/
theorem mgmtWriteIn_reset (powered : s.boot.powered = true) (listens : 2 ≤ s.boot.stage) (normal : s.boot.outcome ≠ 3) (reset : s.boot.mgmt = false)
    (how : Serve) (car : Carrier) (cls : Nat) (w : Writer) :
    mgmtWriteIn how car cls w s = .next ((s.bump (ck 0xA120 0x0A) 1).answer car 0x0A02 []) := by
  have recovers : s.recovery = false := by simp [State.recovery, normal]
  unfold mgmtWriteIn State.guarded
  simp [carrierOn_listening powered listens normal, recovers, reset]

/-- Before S9 a write that is not served early is answered 0x0A01 (R370). -/
theorem mgmtWriteIn_starting (powered : s.boot.powered = true) (listens : 2 ≤ s.boot.stage) (before : s.boot.stage < 10) (normal : s.boot.outcome ≠ 3)
    (mgmt : s.boot.mgmt = true) {how : Serve} (late : how.early = false) (car : Carrier) (cls : Nat) (w : Writer) :
    mgmtWriteIn how car cls w s = .next ((s.bump (ck 0xA120 9) 1).answer car 0x0A01 []) := by
  have recovers : s.recovery = false := by simp [State.recovery, normal]
  have starting : s.usable = false := by
    have : s.boot.stage ≠ 10 := by omega
    simp [State.usable, this]
  unfold mgmtWriteIn State.guarded
  simp [carrierOn_listening powered listens normal, recovers, mgmt, starting, late]

/-- In normal service a class that the carrier's policy keeps out is answered 0x0105 (R431, R456). -/
theorem mgmtWriteIn_denied (service : InService s) (denied : s.policyAllows car cls = false) (how : Serve) (w : Writer) :
    mgmtWriteIn how car cls w s = .next ((s.bump (ck 0x1040 4) 1).answer car 0x0105 []) := by
  have listens : 2 ≤ s.boot.stage := by rw [service.stage]; decide
  unfold mgmtWriteIn State.guarded
  simp [carrierOn_listening service.powered listens service.normal, service.normalService, service.mgmt, service.inUse, denied, State.countRefusal]

theorem refused_counted (s : State) (car : Carrier) (k st : Nat) : { (s.bump k 1).answer car st [] with ctr := s.ctr, out := s.out } = s
    ∧ counted s ((s.bump k 1).answer car st []) k 1 ∧ answers s ((s.bump k 1).answer car st []) car st :=
  ⟨by simp, counted_of_bump (by simp) one_pos, by simp [answers, State.answer]⟩

/-! ## What is such a write -/

theorem gatedWrite_of_mgmtWriteIn {early : Bool}
    (form : ∀ s car, ∃ how w, (early = false → how.early = false) ∧ exec (mk car) s = mgmtWriteIn how car cls w s) : GatedWrite cls early mk := by
  intro s car
  obtain ⟨how, w, late, cmd⟩ := form s car
  rw [cmd]
  refine ⟨fun service denied => ⟨_, mgmtWriteIn_denied service denied how w, refused_counted ..⟩,
    fun powered listens normal reset => ⟨_, mgmtWriteIn_reset powered listens normal reset how car cls w, refused_counted ..⟩,
    fun notEarly powered listens before normal mgmt =>
      ⟨_, mgmtWriteIn_starting powered listens before normal mgmt (late notEarly) car cls w, refused_counted ..⟩,
    fun dark => mgmtWriteIn_unpowered dark how car cls w⟩

/-- A write that only normal service takes. -/
theorem gatedWrite_late {how : Serve} (late : how.early = false) (form : ∀ s car, ∃ w, exec (mk car) s = mgmtWriteIn how car cls w s) :
    GatedWrite cls false mk :=
  gatedWrite_of_mgmtWriteIn fun s car => (form s car).elim fun w cmd => ⟨how, w, fun _ => late, cmd⟩

theorem gatedWrite_plain (form : ∀ s car, ∃ w, exec (mk car) s = mgmtWrite car cls w s) : GatedWrite cls false mk :=
  gatedWrite_late (how := ⟨false, false⟩) rfl form

/-- A write that is served before S9 as well (R370). -/
theorem gatedWrite_early {how : Serve} (form : ∀ s car, ∃ w, exec (mk car) s = mgmtWriteIn how car cls w s) : GatedWrite cls true mk :=
  gatedWrite_of_mgmtWriteIn fun s car => (form s car).elim fun w cmd => ⟨how, w, fun early => Bool.noConfusion early, cmd⟩

/-- A maintenance command whose operation is the one of its row (R464). -/
theorem gatedWrite_maint {mop : Nat} {cmd : List Byte} {blown : Bool} (names : imgField cmd 0 1 = mop)
    (form : ∀ s car, exec (mk car) s = maintRow mop car cmd blown s) : GatedWrite 3 false mk :=
  gatedWrite_plain fun s car => ⟨_, (form s car).trans (if_pos names)⟩

/-! ## Debug commands -/

theorem gatedDebug_of_dbgCommand {need : Nat} {i : Instr} (form : ∀ s, ∃ f, exec i s = .next (s.dbgCommand need f)) : GatedDebug need i := by
  refine ⟨fun s powered low => ?_, fun s dark => ?_⟩
  · obtain ⟨f, cmd⟩ := form s
    exact ⟨_, cmd, by simp [State.dbgCommand, powered, low, dbgOnly, State.dbgReplies]⟩
  · obtain ⟨f, cmd⟩ := form s
    rw [cmd]
    simp [State.dbgCommand, dark]

theorem stillTile_eq (s : State) (need t : Nat) (f : State → State) : s.stillTile need t f = s.dbgCommand need fun s =>
    if s.grid.hasTile t then if s.dbgStill t then f s else s.dbgReplies 0x0C04 [] else s.dbgReplies 0x0C05 [] := rfl

theorem gatedDebug_of_stillTile {need t : Nat} {i : Instr} (form : ∀ s, ∃ f, exec i s = .next (s.stillTile need t f)) : GatedDebug need i :=
  gatedDebug_of_dbgCommand fun s => (form s).elim fun f cmd => ⟨_, cmd.trans (congrArg _ (stillTile_eq s need t f))⟩

end

/-- Settles O55: every write is `mgmtWriteIn` of its class, and every debug command `dbgCommand` of its level. -/
theorem writesAndDebugAreGated : Obligations.WritesAndDebugAreGated := by
  unfold Obligations.WritesAndDebugAreGated
  refine ⟨⟨?_, ?_, ?_, fun v => ?_, fun v => ?_, fun v => ?early, fun v => ?early', fun m => ?_, fun m => ?_, fun m => ?_, fun v => ?_, fun z => ?_,
      fun z => ?_, fun z => ?_, fun z => ?_, fun z => ?_, fun z => ?_⟩,
    fun j => ⟨?_, ?_, ?_, ?_, ?_, fun a b c => ?_, fun i k v => ?_, fun v => ?_, fun g v => ?_, fun g v => ?_⟩,
    ⟨fun v => ?_, fun v => ?recovers, fun o d => ?recovers'⟩,
    ⟨fun n => ?_, fun v => ?_, fun r t => ?_, ?_,
      fun c names => gatedWrite_maint names fun _ _ => rfl, fun c names => gatedWrite_maint names fun _ _ => rfl,
      fun c names => gatedWrite_maint names fun _ _ => rfl, fun c names => gatedWrite_maint names fun _ _ => rfl,
      fun c b names => gatedWrite_maint (blown := b) names fun _ _ => rfl, fun c b names => gatedWrite_maint (blown := b) names fun _ _ => rfl,
      fun c b names => gatedWrite_maint (blown := b) names fun _ _ => rfl⟩,
    ?debug⟩
  case early => exact gatedWrite_early (how := ⟨true, false⟩) fun _ _ => ⟨_, rfl⟩
  case early' => exact gatedWrite_early (how := ⟨true, false⟩) fun _ _ => ⟨_, rfl⟩
  case recovers => exact gatedWrite_late (how := ⟨false, true⟩) rfl fun _ _ => ⟨_, rfl⟩
  case recovers' => exact gatedWrite_late (how := ⟨false, true⟩) rfl fun _ _ => ⟨_, rfl⟩
  case debug =>
    refine ⟨fun j all a b c => ?_, fun j all => ?_, fun j all => ?_, fun j all n => ?_, fun j i => ?_, fun i n pc e => ?_, fun t n p l k a e => ?_,
      fun j i c n => gatedDebug_of_stillTile fun _ => ⟨_, rfl⟩, fun j t p l => gatedDebug_of_stillTile fun _ => ⟨_, rfl⟩, fun a l => ?_,
      fun j t b r => gatedDebug_of_stillTile fun _ => ⟨_, rfl⟩, ?_, fun j i c n v => gatedDebug_of_stillTile fun _ => ⟨_, rfl⟩,
      fun j t p d => gatedDebug_of_stillTile fun _ => ⟨_, rfl⟩,
      fun j a d => ?_⟩
    all_goals exact gatedDebug_of_dbgCommand fun _ => ⟨_, rfl⟩
  all_goals exact gatedWrite_plain fun _ _ => ⟨_, rfl⟩

end Sys2Proof.Machine
end

section
namespace Sys2Proof.Machine

/-! # Debug commands: halts, points, and debug reads and writes (R468 to R472) -/

section
variable {s : State} {need : Nat} {j : SlotIx}

/-! ## A command that its level allows -/

theorem dbgCommand_served (served : DbgServed s need) (f : State → State) : s.dbgCommand need f = f s := by
  unfold State.dbgCommand
  rw [if_neg (bnot_ne_true served.powered), if_neg (Nat.not_lt.mpr served.level)]

theorem dbgTile_served {t : Nat} (served : DbgServed s need) (exists_ : s.grid.hasTile t = true) (f : State → State) : s.dbgTile need t f = f s :=
  (dbgCommand_served served _).trans (if_pos exists_)

theorem stillTile_served {t : TileIx} (served : DbgServed s need) (still : StillTile s t) (f : State → State) : s.stillTile need t.val f = f s :=
  (dbgTile_served served still.exists_ _).trans (if_pos still.still)

theorem stillTile_moving {t : Nat} (served : DbgServed s need) (exists_ : s.grid.hasTile t = true) (moving : s.dbgStill t = false)
    (f : State → State) : s.stillTile need t f = s.dbgReplies 0x0C04 [] :=
  (dbgTile_served served exists_ _).trans (if_neg (ne_true_of_eq_false moving))

theorem dbgReplies_only (s : State) (status : Nat) (data : List Byte) : dbgOnly s (s.dbgReplies status data) status data := rfl

/-! ## A command over one slot -/

theorem onSlots_stopped (stopped : (s.job j).running = false) (cond : Job → Bool) (f : State → SlotIx → State) :
    s.onSlots [j] cond f = s.dbgReplies 0x0C06 [] := if_pos (by simp [stopped])

theorem onSlots_refused {cond : Job → Bool} (running : (s.job j).running = true) (fails : cond (s.job j) = false) (f : State → SlotIx → State) :
    s.onSlots [j] cond f = s.dbgReplies 0x0C04 [] :=
  (if_neg (by simp [running])).trans (if_pos (by simp [fails]))

theorem onSlots_taken {cond : Job → Bool} (running : (s.job j).running = true) (holds : cond (s.job j) = true) (f : State → SlotIx → State) :
    s.onSlots [j] cond f = (f s j).dbgReplies 0 [] :=
  (if_neg (by simp [running])).trans (if_neg (by simp [holds]))

/-! ## Halts -/

theorem armTiles_eq (s : State) (j : SlotIx) : ∃ tiles, s.armTiles j = { s with tiles := tiles } :=
  ⟨(s.armTiles j).tiles, (congrArg (fun u : State => { u with tiles := (s.armTiles j).tiles }) (armTiles_only s j) :)⟩

theorem armHalt_eq (s : State) (j : SlotIx) (h : HaltReq) : ∃ tiles,
    s.armHalt j h = { s with prot := { s.prot with halts := s.prot.halts.set j (some h) }, tiles := tiles } := by
  obtain ⟨tiles, arms⟩ := armTiles_eq { s with prot := { s.prot with halts := s.prot.halts.set j (some h) } } j
  exact ⟨tiles, arms⟩

/-- The halts of the other slots stay. -/
theorem halts_set (halts : Vector (Option HaltReq) 8) (j : SlotIx) (h : HaltReq) :
    (halts.set j (some h))[j] = some h ∧ ∀ k : SlotIx, k ≠ j → (halts.set j (some h))[k] = halts[k] := by
  refine ⟨by simp, fun k other => ?_⟩
  have apart : j.val ≠ k.val := fun same => other (Fin.ext same.symm)
  simp [apart]

theorem traceAdd_eq (s : State) (kind unit : Nat) (data : List Byte) : ∃ trace,
    s.traceAdd kind unit data = { s with host := { s.host with trace := trace, traceCount := s.host.traceCount + 1 } } := ⟨_, rfl⟩

/-- A command that is traced and answered. -/
theorem traced_replies (s : State) (kind unit : Nat) (data : List Byte) : ∃ host : HostSt, host.traceCount = s.host.traceCount + 1
    ∧ (s.traceAdd kind unit data).dbgReplies 0 [] = { s with host := host, prot := { s.prot with dbgReply := [0, 0] } } := by
  obtain ⟨_, traced⟩ := traceAdd_eq s kind unit data
  rw [traced]
  exact ⟨_, rfl, rfl⟩

/-- A command that arms a halt of one slot and is traced. -/
theorem haltArmed_of {v : State} {h : HaltReq} {host : HostSt} (rest : { v with prot := s.prot, tiles := s.tiles, jobs := s.jobs } = s)
    (halts : v.prot.halts = s.prot.halts.set j (some h)) (traced : host.traceCount = v.host.traceCount + 1) :
    HaltArmed s { v with host := host, prot := { v.prot with dbgReply := [0, 0] } } j h := by
  obtain ⟨armed, others⟩ := halts_set s.prot.halts j h
  have before : v.host = s.host := (congrArg State.host rest :)
  rw [before] at traced
  exact ⟨(congrArg (fun u : State => { u with host := s.host }) rest :), (congrArg (fun l => l[j]) halts).trans armed,
    fun k other => (congrArg (fun l => l[k]) halts).trans (others k other), rfl, traced⟩

/-- A halt that is armed for a job that runs. -/
theorem haltArmed_armHalt (s : State) (j : SlotIx) (h : HaltReq) (kind unit : Nat) (data : List Byte) :
    HaltArmed s (((s.armHalt j h).traceAdd kind unit data).dbgReplies 0 []) j h
      ∧ (((s.armHalt j h).traceAdd kind unit data).dbgReplies 0 []).jobs = s.jobs := by
  obtain ⟨tiles, arms⟩ := armHalt_eq s j h
  rw [arms]
  obtain ⟨host, traced, all⟩ :=
    traced_replies { s with prot := { s.prot with halts := s.prot.halts.set j (some h) }, tiles := tiles } kind unit data
  rw [all]
  exact ⟨haltArmed_of (v := { s with prot := { s.prot with halts := s.prot.halts.set j (some h) }, tiles := tiles }) rfl rfl traced, rfl⟩

theorem unfreeze_eq (s : State) (j : SlotIx) : ∃ tiles, s.unfreeze j =
    { s.updJob j (fun b => { b with halted := false }) with tiles := tiles, prot := { s.prot with haltAt := s.prot.haltAt.set j none } } := by
  have frees (ts : List Nat) (f : Nat → Tile → Tile) : s.forTiles ts f = { s with tiles := (s.forTiles ts f).tiles } :=
    (congrArg (fun u : State => { u with tiles := (s.forTiles ts f).tiles }) (forTiles_only s ts f) :)
  unfold State.unfreeze
  dsimp only
  rw [frees]
  exact ⟨_, rfl⟩

/-- The job goes on, and only that job. -/
theorem unfrozen_job (s : State) (j : SlotIx) : (s.updJob j fun b => { b with halted := false }).job j = { s.job j with halted := false }
    ∧ onlyJob s (s.updJob j fun b => { b with halted := false }) j :=
  ⟨job_updJob .., fun _ other => job_setJob_ne s _ other⟩

/-- A halt that is armed for a job that goes on until it. -/
theorem haltArmed_unfreeze (s : State) (j : SlotIx) (h : HaltReq) : ∃ v, (s.unfreeze j).armHalt j h = v
    ∧ { v with prot := s.prot, tiles := s.tiles, jobs := s.jobs } = s ∧ v.prot.halts = s.prot.halts.set j (some h)
    ∧ v.job j = { s.job j with halted := false } ∧ onlyJob s v j := by
  obtain ⟨_, frees⟩ := unfreeze_eq s j
  rw [frees]
  obtain ⟨_, arms⟩ := armHalt_eq { s.updJob j (fun b => { b with halted := false }) with
    tiles := _, prot := { s.prot with haltAt := s.prot.haltAt.set j none } } j h
  obtain ⟨goes, only⟩ := unfrozen_job s j
  exact ⟨_, arms, rfl, rfl, goes, only⟩

theorem execHaltAt_taken (served : DbgServed s 1) (runs : runsFree s j) {ahead : Nat} (inTime : 1 ≤ ahead) (steps cyc : Nat) :
    execHaltAt j false steps cyc ahead s =
      .next (((s.armHalt j ⟨steps, cyc, 1, false⟩).traceAdd tkHalt j.val (leOfNat 1 1)).dbgReplies 0 []) := by
  obtain ⟨running, free⟩ := runs
  unfold execHaltAt
  rw [dbgCommand_served served, if_neg (by omega)]
  exact congrArg _ (onSlots_taken running (by rw [free]; rfl) _)

theorem execHaltAt_late (served : DbgServed s 1) (all : Bool) (steps cyc : Nat) : execHaltAt j all steps cyc 0 s = .next (s.dbgReplies 0x0C03 []) := by
  unfold execHaltAt
  rw [dbgCommand_served served, if_pos (by decide)]

/-- HALT_NOW names one slot. -/
theorem execHaltNow_one (served : DbgServed s 1) (j : SlotIx) : execHaltNow j false s = .next (s.onSlots [j] (fun b => ! b.halted) fun s k =>
    (s.armHalt k (s.haltReq k (s.rootCycle k + (s.job k).haltDist) 2)).traceAdd tkHalt k.val (leOfNat 1 2)) :=
  congrArg _ (dbgCommand_served served _)

theorem execResume_one (served : DbgServed s 1) (j : SlotIx) : execResume j false s = .next (s.onSlots [j] Job.halted fun s k =>
    (s.unfreeze k).traceAdd tkResume k.val []) :=
  congrArg _ (dbgCommand_served served _)

theorem execStepCy_taken (served : DbgServed s 1) (halted : runsHalted s j) {n : Nat} (some : 1 ≤ n) (most : n ≤ 2 ^ 20) :
    execStepCy j false n s = .next ((((s.unfreeze j).armHalt j (s.haltReq j (s.haltedCy j + n) 5)).traceAdd tkHalt j.val (leOfNat 1 4)).dbgReplies 0 []) := by
  unfold execStepCy
  rw [dbgCommand_served served, if_neg (by omega)]
  exact congrArg _ (onSlots_taken halted.1 halted.2 _)

theorem execStepInsn_taken {i : CoreAt} (served : DbgServed s 1) (halted : runsHalted s j) (exists_ : s.grid.hasTile i.tile.val = true) :
    execStepInsn j i s = .next ((({ (s.unfreeze j).armHalt j (s.haltReq j (s.haltedCy j + 1) 5) with
      prot := { ((s.unfreeze j).armHalt j (s.haltReq j (s.haltedCy j + 1) 5)).prot with
        stepCore := ((s.unfreeze j).armHalt j (s.haltReq j (s.haltedCy j + 1) 5)).prot.stepCore.set j
          (some (4 * i.tile.val + i.core.val, (s.coreAt i).now)) } } : State).traceAdd tkHalt j.val (leOfNat 1 5)).dbgReplies 0 []) := by
  unfold execStepInsn
  rw [dbgCommand_served served, if_neg (bnot_ne_true exists_)]
  exact congrArg _ (onSlots_taken halted.1 halted.2 _)

/-- The word that DBG_HALT takes (R468). -/
theorem haltWord_lt {c r : Nat} (cyc : Nat) (j : SlotIx) (cause : c < 256) :
    cyc % 2 ^ 32 * 2 ^ 32 + c * 2 ^ 24 + j.val * 2 ^ 21 + min 3 r * 2 ^ 19 < 2 ^ 64 := by
  have := j.isLt
  omega

/-- A job that freezes: its halt is no longer armed, and DBG_HALT says where it stands. -/
theorem freeze_halts {c : Nat} (s : State) (j : SlotIx) (cyc : Nat) (cause : c < 256) : ((s.freeze j cyc c).job j).halted = true
    ∧ (s.freeze j cyc c).prot.halts[j] = none ∧ (s.freeze j cyc c).prot.haltAt[j] = some cyc
    ∧ (s.freeze j cyc c).prot.dbgHalt.toNat = cyc % 2 ^ 32 * 2 ^ 32 + c * 2 ^ 24 + j.val * 2 ^ 21 + min 3 (s.job j).reruns * 2 ^ 19 := by
  unfold State.freeze
  extract_lets ts s1 s2 w p s3
  have job : (s2.job j).halted = true := by
    unfold s2
    rw [job_updJob]
  obtain ⟨_, traced⟩ := traceAdd_eq s3 tkHalt j.val (leOfNat 8 w)
  rw [traced]
  refine ⟨job, ?_, ?_, ?_⟩
  · exact (by simp : (s2.prot.halts.set j none)[j] = none)
  · exact (by simp : (s2.prot.haltAt.set j (some cyc))[j] = some cyc)
  · exact (BitVec.toNat_ofNat w 64).trans (Nat.mod_eq_of_lt (haltWord_lt cyc j cause))

theorem execJobHalt_lands {h : HaltReq} (runs : runsFree s j) (armed : s.prot.halts[j] = some h) (inStep : s.haltInStep j = true)
    (issued : s.stepPending j = false) : execJobHalt j s = .next (s.freeze j h.cyc h.cause) := by
  obtain ⟨running, free⟩ := runs
  unfold execJobHalt
  extract_lets b
  rw [if_neg (by simp [b, running, free]), armed]
  dsimp only
  rw [if_pos inStep, if_neg (ne_true_of_eq_false issued)]

theorem execJobHalt_none (none : s.prot.halts[j] = none) : execJobHalt j s = .next s := by
  unfold execJobHalt
  extract_lets b
  rw [none]
  exact congrArg _ (ite_self s)

/-! ## Breakpoints and watchpoints -/

/-- A traced change of one tile. -/
theorem updTile_traced {T : Nat} (wf : SMap.wf Tile.reset s.tiles = true) (f : Tile → Tile) (kind unit : Nat) (data : List Byte) :
    ∃ u, ((s.updTile T f).traceAdd kind unit data).dbgReplies 0 [] = u ∧ { u with tiles := s.tiles, host := s.host, prot := s.prot } = s
      ∧ u.tile T = f (s.tile T) ∧ (∀ U, U ≠ T → u.tile U = s.tile U) ∧ u.prot = { s.prot with dbgReply := [0, 0] } := by
  obtain ⟨host, -, all⟩ := traced_replies (s.updTile T f) kind unit data
  exact ⟨_, all, rfl, tile_updTile_same T f wf, fun U other => tile_updTile_ne s f other, rfl⟩

theorem execBpSet_taken {i : CoreAt} (served : DbgServed s 1) (exists_ : s.grid.hasTile i.tile.val = true) (n : Fin 4) (pc : U16) (e : Bool) :
    execBpSet i n pc e s = .next (((s.updTile i.tile.val fun t => t.updCore i.core fun k => { k with bps := k.bps.set n ⟨pc, e⟩ }).traceAdd tkWrite
      i.tile.val (leOfNat 1 6)).dbgReplies 0 []) :=
  congrArg _ (dbgTile_served served exists_ _)

theorem execWpSet_taken {t : TileIx} (served : DbgServed s 1) (exists_ : s.grid.hasTile t.val = true) {p len : Nat} {kind : BitVec 2} (some : 1 ≤ len)
    (most : len ≤ 2 ^ 22) (inside : p < 2 ^ 22) (defined : kind ≠ 3) (n : Fin 2) (agents : BitVec 5) (e : Bool) :
    execWpSet t n p len kind agents e s = .next (((s.updTile t.val fun k => { k with wps := k.wps.set n ⟨p, len, kind, agents, e⟩ }).traceAdd tkWrite
      t.val (leOfNat 1 7)).dbgReplies 0 []) := by
  unfold execWpSet
  rw [dbgTile_served served exists_, if_neg]
  rintro (zero | long | out | reserved)
  · omega
  · omega
  · omega
  · exact defined reserved

/-- A tile without a point that is enabled. -/
def Tile.pointless (t : Tile) : Prop :=
  (∀ n : Fin 2, (t.wps[n]).enable = false) ∧ ∀ (c : CoreIx) (n : Fin 4), (((t.core c).bps)[n]).enable = false

theorem execClearPoints_served (served : DbgServed s 1) : execClearPoints s = .next ((s.forTiles s.allTiles (fun _ t => { t with
    wps := Vector.replicate 2 ⟨0, 0, 0, 0, false⟩, cores := t.cores.map (fun k => { k with bps := CoreSt.reset.bps }) })).dbgReplies 0 []) :=
  congrArg _ (dbgCommand_served served _)

theorem pointless_cleared (t : Tile) : Tile.pointless { t with
    wps := Vector.replicate 2 ⟨0, 0, 0, 0, false⟩, cores := t.cores.map (fun k => { k with bps := CoreSt.reset.bps }) } := by
  refine ⟨fun n => by simp, fun c n => ?_⟩
  have reset : ∀ n : Fin 4, (CoreSt.reset.bps[n]).enable = false := by decide
  simpa [Tile.core] using reset n

/-! ## Reads and writes -/

/-- A register number that fits in its field is read as it is. -/
theorem regNum_toNat {n : Nat} (small : n < 32) : (BitVec.ofNat 12 n).toNat = n := by
  rw [BitVec.toNat_ofNat]
  exact Nat.mod_eq_of_lt (by omega)

theorem execReadCore_scalar {i : CoreAt} (served : DbgServed s 1) (still : StillTile s i.tile) (j : SlotIx) (r : Reg) :
    execReadCore j i 1 (BitVec.ofNat 12 r.val) s = .next (s.dbgReplies 0 (leOfNat 8 ((s.coreAt i).s[r]).toNat)) := by
  have number := regNum_toNat r.isLt
  have small : r.val % 32 = r.val := Nat.mod_eq_of_lt r.isLt
  unfold execReadCore
  dsimp only
  rw [stillTile_served served still, if_neg (by simp [coreNumOk, number])]
  simp only [number, small]
  rfl

theorem execReadCore_pc {i : CoreAt} (served : DbgServed s 1) (still : StillTile s i.tile) (j : SlotIx) :
    execReadCore j i 0 0 s = .next (s.dbgReplies 0 (leOfNat 8 (s.coreAt i).pc)) := by
  unfold execReadCore
  dsimp only
  rw [stillTile_served served still, if_neg (by simp [coreNumOk])]
  rfl

theorem execReadCore_moving {i : CoreAt} (served : DbgServed s 1) (exists_ : s.grid.hasTile i.tile.val = true)
    (moving : s.dbgStill i.tile.val = false) (j : SlotIx) (c : Fin 4) (n : BitVec 12) : execReadCore j i c n s = .next (s.dbgReplies 0x0C04 []) :=
  congrArg _ (stillTile_moving served exists_ moving _)

theorem execWriteCore_scalar {i : CoreAt} (served : DbgServed s 2) (still : StillTile s i.tile) (j : SlotIx) (r : Reg) (v : V512) :
    execWriteCore j i 1 (BitVec.ofNat 12 r.val) v s =
      .next ((s.updTile i.tile.val fun t => t.updCore i.core fun k => k.setS r (v.setWidth 64)).dbgWrote j 9) := by
  have number := regNum_toNat r.isLt
  have small : r.val % 32 = r.val := Nat.mod_eq_of_lt r.isLt
  unfold execWriteCore
  rw [stillTile_served served still]
  dsimp only
  rw [if_neg (by simp [coreNumOk, number])]
  simp only [number, small]
  rfl

theorem execWriteCore_vector {i : CoreAt} (served : DbgServed s 2) (still : StillTile s i.tile) (j : SlotIx) (r : VReg) (v : V512) :
    execWriteCore j i 2 (BitVec.ofNat 12 r.val) v s =
      .next ((s.updTile i.tile.val fun t => t.updCore i.core fun k => { k with v := k.v.set r v }).dbgWrote j 9) := by
  have number := regNum_toNat (r.isLt.trans (by decide))
  have small : r.val % 16 = r.val := Nat.mod_eq_of_lt r.isLt
  unfold execWriteCore
  rw [stillTile_served served still]
  dsimp only
  rw [if_neg (by simp [coreNumOk, number])]
  simp only [number, small]
  rfl

theorem dbgWrote_eq (s : State) (j : SlotIx) (cmd : Nat) : ∃ host, host.traceCount = s.host.traceCount + 1
    ∧ s.dbgWrote j cmd = { s with host := host, prot := { s.prot with
      dbgReply := [0, 0], modified := if (s.job j).halted then s.prot.modified ||| (1#8 <<< j.val) else s.prot.modified } } := by
  unfold State.dbgWrote
  extract_lets p s1
  obtain ⟨_, traced⟩ := traceAdd_eq s1 tkWrite j.val (leOfNat 1 cmd)
  rw [traced]
  unfold s1
  split
  · exact ⟨_, rfl, rfl⟩
  · exact ⟨_, rfl, rfl⟩

/-- A write to one tile, and what it leaves in the tile. -/
theorem dbgWrote_updTile {t : TileIx} (wf : SMap.wf Tile.reset s.tiles = true) (f : Tile → Tile) (j : SlotIx) (cmd : Nat) :
    DbgWrote s ((s.updTile t.val f).dbgWrote j cmd) t j ∧ ((s.updTile t.val f).dbgWrote j cmd).tile t.val = f (s.tile t.val) := by
  obtain ⟨_, traced, wrote⟩ := dbgWrote_eq (s.updTile t.val f) j cmd
  rw [wrote]
  exact ⟨⟨rfl, fun T other => tile_updTile_ne s f other, rfl, rfl, traced⟩, tile_updTile_same t.val f wf⟩

theorem execReadSp_inside {t : TileIx} {p len : Nat} (served : DbgServed s 1) (still : StillTile s t) (few : len ≤ 4032) (inside : p + len ≤ 2 ^ 22)
    (j : SlotIx) : execReadSp j t p len s = .next (s.dbgReplies 0 ((s.tile t.val).sp.readBytes p len)) := by
  have fit : ¬ (dbgMax < len ∨ 2 ^ 22 < p + len) := by unfold dbgMax; omega
  unfold execReadSp
  dsimp only
  rw [stillTile_served served still, if_neg fit]
  rfl

theorem execWriteSp_inside {t : TileIx} {p : Nat} {data : List Byte} (served : DbgServed s 2) (still : StillTile s t) (few : data.length ≤ 4032)
    (inside : p + data.length ≤ 2 ^ 22) (j : SlotIx) : execWriteSp j t p data s = .next ((s.updTile t.val fun k => { k with
      sp := k.sp.writeBytes p data, spBad := k.spBad.filter (fun a => ! (decide (p ≤ a) && decide (a < p + data.length))) }).dbgWrote j 0x0B) := by
  have fit : ¬ (dbgMax < data.length ∨ 2 ^ 22 < p + data.length) := by unfold dbgMax; omega
  unfold execWriteSp
  rw [stillTile_served served still, if_neg fit]

theorem execReadMem_inside {addr len : Nat} (served : DbgServed s 1) (few : len ≤ 4032) (inside : addr + len ≤ s.memCapacity) :
    execReadMem addr len s = .next (s.dbgReplies 0 (s.memBytes addr len)) := by
  have fit : ¬ (dbgMax < len ∨ s.memCapacity < addr + len) := by unfold dbgMax; omega
  unfold execReadMem
  rw [dbgCommand_served served, if_neg fit]

theorem execReadMem_beyond {addr len : Nat} (served : DbgServed s 1) (beyond : s.memCapacity < addr + len) :
    execReadMem addr len s = .next (s.dbgReplies 0x0C05 []) := by
  unfold execReadMem
  rw [dbgCommand_served served, if_pos (.inr beyond)]

theorem execWriteMem_inside {addr : Nat} {data : List Byte} (served : DbgServed s 2) (few : data.length ≤ 4032)
    (inside : addr + data.length ≤ s.memCapacity) (j : SlotIx) :
    execWriteMem j addr data s = .next ((s.memWrite addr data false).dbgWrote j 0x0D) := by
  have fit : ¬ (dbgMax < data.length ∨ s.memCapacity < addr + data.length) := by unfold dbgMax; omega
  unfold execWriteMem
  rw [dbgCommand_served served, if_neg fit]

theorem memWrite_eq (s : State) (addr : Nat) (data : List Byte) (poison : Bool) : ∃ mem, s.memWrite addr data poison = { s with mem := mem } :=
  ⟨(s.memWrite addr data poison).mem,
    (congrArg (fun u : State => { u with mem := (s.memWrite addr data poison).mem }) (State.memWrite_only s addr data poison) :)⟩

theorem execReadFrame_still {t : TileIx} (served : DbgServed s 1) (still : StillTile s t) (j : SlotIx) (b : Fin 2) (r : Fin 32) :
    execReadFrame j t b r s = .next (s.dbgReplies 0 ((SMap.get AccRow.zero ((s.tile t.val).frame.banks[b]).rows r.val).flatMap
      (accRecord (s.tile t.val).residue (SMap.get 0 ((s.tile t.val).frame.banks[b]).cnt r.val)))) :=
  congrArg _ (stillTile_served served still _)

end

/-- Settles O53: a command that its level allows does its work in one slot or one tile, which its equation names, and is answered. -/
theorem debugCommands : Obligations.DebugCommands := by
  unfold Obligations.DebugCommands
  refine ⟨fun s j steps cyc ahead served inTime runs => ?haltAt, fun s j all steps cyc served => ⟨_, execHaltAt_late served all steps cyc, rfl⟩,
    fun s j served stopped => ?idle, fun s j served halted => ?halted, fun s j served runs => ?haltNow,
    fun s j h runs armed cause inStep issued => ?lands, fun s j none => execJobHalt_none none, fun s j served halted => ?resume,
    fun s j served runs => ?free, fun s j n served halted some most => ?stepCy, fun s j i served halted exists_ => ?stepInsn,
    fun s i n pc e served inv exists_ => ?breakpoint, fun s t n p len kind agents e served inv exists_ some most inside defined => ?watchpoint,
    fun s served inv => ?clear, fun s j i r served still => ⟨_, execReadCore_scalar served still j r, rfl⟩,
    fun s j i served still => ⟨_, execReadCore_pc served still j, rfl⟩,
    fun s j i c n served exists_ moving => ⟨_, execReadCore_moving served exists_ moving j c n, rfl⟩,
    fun s j i r v served still => ?writeScalar, fun s j i r v served still => ?writeVector,
    fun s j t p len served still few inside => ⟨_, execReadSp_inside served still few inside j, rfl⟩,
    fun s j t p data served still wf few inside => ?writeSp,
    fun s addr len served few inside => ⟨_, execReadMem_inside served few inside, rfl⟩,
    fun s addr len served beyond => ⟨_, execReadMem_beyond served beyond, rfl⟩,
    fun s j addr data served few inside => ?writeMem, fun s j t b r served still => ⟨_, _, execReadFrame_still served still j b r, rfl, rfl⟩⟩
  case haltAt => exact ⟨_, execHaltAt_taken served runs inTime steps cyc, haltArmed_armHalt ..⟩
  case idle => exact ⟨_, (execHaltNow_one served j).trans (congrArg _ (onSlots_stopped stopped _ _)), rfl⟩
  case halted =>
    obtain ⟨running, halted⟩ := halted
    exact ⟨_, (execHaltNow_one served j).trans (congrArg _ (onSlots_refused running (by rw [halted]; rfl) _)), rfl⟩
  case haltNow =>
    obtain ⟨running, free⟩ := runs
    obtain ⟨armed, jobs⟩ := haltArmed_armHalt s j (s.haltReq j (s.rootCycle j + (s.job j).haltDist) 2) tkHalt j.val (leOfNat 1 2)
    exact ⟨_, (execHaltNow_one served j).trans (congrArg _ (onSlots_taken running (by rw [free]; rfl) _)), jobs, armed⟩
  case lands => exact ⟨_, execJobHalt_lands runs armed inStep issued, freeze_halts s j h.cyc cause⟩
  case resume =>
    obtain ⟨running, halted⟩ := halted
    obtain ⟨tiles, frees⟩ := unfreeze_eq s j
    obtain ⟨host, -, traced⟩ := traced_replies (s.unfreeze j) tkResume j.val []
    have resumes := (execResume_one served j).trans (congrArg _ (onSlots_taken running halted _))
    rw [traced, frees] at resumes
    obtain ⟨goes, only⟩ := unfrozen_job s j
    exact ⟨_, resumes, rfl, goes, only, by simp, rfl⟩
  case free =>
    obtain ⟨running, free⟩ := runs
    exact ⟨_, (execResume_one served j).trans (congrArg _ (onSlots_refused running free _)), rfl⟩
  case stepCy =>
    obtain ⟨v, arms, rest, halts, goes, only⟩ := haltArmed_unfreeze s j (s.haltReq j (s.haltedCy j + n) 5)
    obtain ⟨host, traced, all⟩ := traced_replies v tkHalt j.val (leOfNat 1 4)
    have steps := execStepCy_taken served halted some most
    rw [arms, all] at steps
    exact ⟨_, steps, goes, only, haltArmed_of rest halts traced⟩
  case stepInsn =>
    obtain ⟨v, arms, rest, halts, goes, only⟩ := haltArmed_unfreeze s j (s.haltReq j (s.haltedCy j + 1) 5)
    have steps := execStepInsn_taken served halted exists_
    rw [arms] at steps
    obtain ⟨host, traced, all⟩ := traced_replies { v with prot := { v.prot with
      stepCore := v.prot.stepCore.set j (.some (4 * i.tile.val + i.core.val, (s.coreAt i).now)) } } tkHalt j.val (leOfNat 1 5)
    rw [all] at steps
    exact ⟨_, steps, goes, only, haltArmed_of (v := { v with prot := { v.prot with
      stepCore := v.prot.stepCore.set j (.some (4 * i.tile.val + i.core.val, (s.coreAt i).now)) } }) rest halts traced, by simp⟩
  case breakpoint =>
    have cmd := execBpSet_taken served exists_ n pc e
    obtain ⟨u, all, rest, own, others, reply⟩ := updTile_traced (T := i.tile.val) inv.2
      (fun t => t.updCore i.core fun k => { k with bps := k.bps.set n ⟨pc, e⟩ }) tkWrite i.tile.val (leOfNat 1 6)
    rw [all] at cmd
    exact ⟨u, cmd, rest, coreAt_of_updCore own, others, reply⟩
  case watchpoint =>
    have cmd := execWpSet_taken served exists_ some most inside defined n agents e
    obtain ⟨u, all, rest, own, others, reply⟩ := updTile_traced (T := t.val) inv.2
      (fun k => { k with wps := k.wps.set n ⟨p, len, kind, agents, e⟩ }) tkWrite t.val (leOfNat 1 7)
    rw [all] at cmd
    exact ⟨u, cmd, rest, own, others, reply⟩
  case clear =>
    obtain ⟨tiles, clears, cleared, -⟩ := forTiles_eq (s := s) (ts := s.allTiles) (f := fun _ t => { t with
      wps := Vector.replicate 2 ⟨0, 0, 0, 0, false⟩, cores := t.cores.map (fun k => { k with bps := CoreSt.reset.bps }) }) inv.2 List.nodup_range
    have cmd := execClearPoints_served served
    rw [clears] at cmd
    refine ⟨_, cmd, rfl, rfl, fun T exists_ => ?_⟩
    have tile := cleared T (List.mem_range.mpr (of_decide_eq_true exists_))
    obtain ⟨watch, breaks⟩ := pointless_cleared (s.tile T)
    rw [← tile] at watch breaks
    exact ⟨watch, breaks⟩
  case writeScalar =>
    obtain ⟨wrote, own⟩ := dbgWrote_updTile (t := i.tile) still.inv.2 (fun t => t.updCore i.core fun k => k.setS r (v.setWidth 64)) j 9
    exact ⟨_, execWriteCore_scalar served still j r v, wrote, coreAt_of_updCore own⟩
  case writeVector =>
    obtain ⟨wrote, own⟩ := dbgWrote_updTile (t := i.tile) still.inv.2 (fun t => t.updCore i.core fun k => { k with v := k.v.set r v }) j 9
    exact ⟨_, execWriteCore_vector served still j r v, wrote, coreAt_of_updCore own⟩
  case writeSp =>
    obtain ⟨wrote, own⟩ := dbgWrote_updTile (t := t) still.inv.2 (fun k => { k with
      sp := k.sp.writeBytes p data, spBad := k.spBad.filter (fun a => ! (decide (p ≤ a) && decide (a < p + data.length))) }) j 0x0B
    refine ⟨_, execWriteSp_inside served still few inside j, wrote, ?_⟩
    rw [own]
    exact ⟨Mem.wf_writeBytes _ p data wf, Mem.readBytes_writeBytes _ p data wf, fun q out => Mem.read_writeBytes_out _ p q data out, rfl⟩
  case writeMem =>
    obtain ⟨mem, writes⟩ := memWrite_eq s addr data false
    obtain ⟨host, -, wrote⟩ := dbgWrote_eq (s.memWrite addr data false) j 0x0D
    have cmd := execWriteMem_inside served few inside j
    rw [wrote] at cmd
    refine ⟨_, cmd, ?_, rfl, rfl⟩
    rw [writes]

end Sys2Proof.Machine
end

section
namespace Sys2Proof.Machine

/-! # Attestation, management updates and the maintenance commands (R454, R455, R460 to R465) -/

section
variable {s v : State} {car : Carrier} {cmd : List Byte} {blown : Bool}

/-! ## Statuses and reads -/

/-- The statuses of the protection chapter have no counter among the protocol's (R432). -/
theorem countRefusal_protection {st : Nat} (chapter : st / 256 = 0x0B) : s.countRefusal st = s := by
  have other (k : Nat) (protocol : k / 256 ≠ 0x0B) : st ≠ k := fun same => protocol (same ▸ chapter)
  unfold State.countRefusal
  rw [if_neg (other _ (by decide)), if_neg (other _ (by decide)), if_neg (other _ (by decide)), if_neg (other _ (by decide)),
    if_neg (other _ (by decide)), if_neg (by simp [chapter])]

theorem countRefusal_unknown (s : State) : s.countRefusal 0x0101 = s := by simp [State.countRefusal, refusalSubs]

/-- Normal service answers a read with what its object gives. -/
theorem mgmtRead_inService (service : InService s) (f : State → State × Nat × List Byte) :
    mgmtRead f s = .next (((f s).1.countRefusal (f s).2.1).send (.answer 4 (f s).2.1 (f s).2.2)) := by
  have listens : s.listening = true := by simp [State.listening, service.powered, service.stage]
  simp [mgmtRead, listens, service.normalService, service.mgmt, service.inUse]

/-! ## The report and the images -/

theorem writeAttestNonce_whole {nonce : List Byte} (whole : nonce.length = 32) :
    State.writeAttestNonce nonce s = (s.updProt fun p => { p with attestNonce := nonce }, 0) := by
  unfold State.writeAttestNonce
  rw [if_neg (by omega), if_neg (not_not.mpr whole)]

theorem writeAttestNonce_short {nonce : List Byte} (short : nonce.length < 32) : State.writeAttestNonce nonce s = (s, 0x0107) := by
  unfold State.writeAttestNonce
  rw [if_neg (by omega), if_pos (by omega)]

/-- The report begins with the nonce, SERIAL and the tally (R463). -/
theorem attestReport_fields (whole : s.prot.attestNonce.length = 32) : ∃ body, s.attestReport = body ++ s.identitySign body
    ∧ body.take 32 = s.prot.attestNonce ∧ (body.drop 32).take 8 = leOfNat 8 s.fuses.serial ∧ (body.drop 40).take 8 = leOfNat 8 s.tally.now := by
  have nonce : (s.prot.attestNonce ++ List.replicate 32 0).take 32 = s.prot.attestNonce := List.take_left' whole
  refine ⟨_, rfl, ?_, ?_, ?_⟩ <;> rw [nonce]
  · simp only [List.append_assoc]
    exact List.take_left' whole
  · simp only [List.append_assoc]
    rw [List.drop_left' whole]
    exact List.take_left' (leOfNat_length 8 _)
  · rw [List.append_assoc, List.drop_left' (by simp [whole, leOfNat_length])]
    exact List.take_left' (leOfNat_length 8 _)

/-- A management image in a slot of the flash, from which the next start boots (R460). -/
def State.mgmtImageTaken (s : State) (slot : Fin 2) (img : List Byte) : State :=
  { s with life := { s.life with mgmtImages := s.life.mgmtImages.set slot img, lastBoot := slot.val }, prot := { s.prot with mgmtUpdState := 3 } }

theorem execAttestReport_service (service : InService s) :
    execAttestReport s = .next ((s.countRefusal 0).send (.answer 4 0 s.attestReport)) := mgmtRead_inService service _

/-- An update whose image verifies fills the slot that is not in force (R460). -/
theorem writeMgmtUpdate_good {slot : Fin 2} (normal : s.recovery = false) (free : s.prot.mgmtUpdState ≠ 1) (idle : s.prot.mgmtUpdState ≠ 2)
    (good : s.imageFault imgMgmt s.stagedImage = 0) (other : (if s.boot.mgmtSlot = 0 then 1 else 0) = slot) :
    State.writeMgmtUpdate 1 s = (s.mgmtImageTaken slot s.stagedImage, 0) := by
  have staged : (if s.recovery = true then s.prot.recovery else s.stagedImage) = s.stagedImage := if_neg (ne_true_of_eq_false normal)
  have fills : (if s.recovery = true then 0 else if s.boot.mgmtSlot = 0 then 1 else 0) = slot :=
    (if_neg (ne_true_of_eq_false normal)).trans other
  unfold State.writeMgmtUpdate
  rw [staged]
  generalize s.stagedImage = img at good ⊢
  rw [if_neg (by decide), if_neg (by simp [free, idle])]
  extract_lets _ r
  have verifies : r = (s, true) := verifyImage_good good
  clear_value r
  subst verifies
  exact congrArg (fun n => (s.mgmtImageTaken n img, 0)) fills

theorem mgmtUpdState_failed (s : State) (ctr : SMap Nat) (code : Nat) :
    ({ s with prot := { s.prot with lastReject := code }, ctr := ctr } : State).updProt (fun p => { p with mgmtUpdState := 4 }) =
      { s with ctr := ctr, prot := { s.prot with lastReject := code, mgmtUpdState := 4 } } := rfl

theorem writeMgmtUpdate_bad (normal : s.recovery = false) (free : s.prot.mgmtUpdState ≠ 1) (idle : s.prot.mgmtUpdState ≠ 2)
    (bad : s.imageFault imgMgmt s.stagedImage ≠ 0) : ∃ ctr, State.writeMgmtUpdate 1 s = ({ s with ctr := ctr, prot := { s.prot with
      lastReject := s.imageFault imgMgmt s.stagedImage, mgmtUpdState := 4 } }, 0) := by
  have staged : (if s.recovery = true then s.prot.recovery else s.stagedImage) = s.stagedImage := if_neg (ne_true_of_eq_false normal)
  unfold State.writeMgmtUpdate
  rw [staged]
  generalize s.stagedImage = img at bad ⊢
  obtain ⟨ctr, verifies⟩ := verifyImage_bad bad
  rw [if_neg (by decide), if_neg (by simp [free, idle])]
  dsimp only
  rw [verifies]
  generalize s.imageFault imgMgmt img = code
  refine ⟨ctr, (if_pos rfl).trans ?_⟩
  exact congrArg (fun v => (v, 0)) (mgmtUpdState_failed s ctr code)

/-- An update that failed leaves its code. -/
theorem mgmtUpdate_failed {c : Instr} {ctr : SMap Nat} {code : Nat}
    (cmd : exec c s = .next (({ s with ctr := ctr, prot := { s.prot with lastReject := code, mgmtUpdState := 4 } } : State).answer car 0 [])) :
    ∃ u, exec c s = .next u ∧ { u with life := s.life, prot := s.prot, ctr := s.ctr, out := s.out } = s ∧ answers s u car 0
      ∧ u.life = s.life ∧ u.prot.mgmtUpdState = 4 ∧ u.prot.lastReject = code :=
  ⟨_, cmd, rfl, rfl, rfl, rfl, rfl⟩

/-- An update that is taken fills one slot and leaves the other. -/
theorem mgmtImageTaken_answered {c : Instr} {slot : Fin 2} {img : List Byte} (cmd : exec c s = .next ((s.mgmtImageTaken slot img).answer car 0 [])) :
    ∃ u, exec c s = .next u ∧ { u with life := s.life, prot := s.prot, ctr := s.ctr, out := s.out } = s ∧ answers s u car 0
      ∧ u.prot.mgmtUpdState = 3
      ∧ ∀ m n : Fin 2, slot = m → n ≠ m → u.life.mgmtImages[m] = img ∧ u.life.mgmtImages[n] = s.life.mgmtImages[n] := by
  refine ⟨_, cmd, rfl, rfl, rfl, fun m n same other => ?_⟩
  have apart : m.val ≠ n.val := fun eq => other (Fin.ext eq.symm)
  subst same
  simp [State.mgmtImageTaken, State.answer, apart]

theorem writeRecovery_service (normal : s.recovery = false) (offset : Nat) (data : List Byte) : State.writeRecovery offset data s = (s, 0x0101) :=
  if_pos (by simp [normal])

/-- In recovery the boot ROM takes the image over the mailbox (R461). -/
theorem execRecoveryImage_recovery {offset : Nat} {data : List Byte} (listens : s.listening = true) (recovers : s.recovery = true)
    (policy : s.policyAllows .mailbox 2 = true) (fits : offset + data.length ≤ 8388608 + 256) : execRecoveryImage .mailbox offset data s =
      .next ((s.updProt fun p => { p with recovery := overlay p.recovery offset data }).answer .mailbox 0 []) := by
  have on : s.carrierOn .mailbox = true := by simp [State.carrierOn, listens, show (Carrier.mailbox == Carrier.ethernet) = false from rfl,
    show (Carrier.mailbox == Carrier.debug) = false from rfl]
  have writes : State.writeRecovery offset data s = (s.updProt fun p => { p with recovery := overlay p.recovery offset data }, 0) := by
    unfold State.writeRecovery recoveryMax
    rw [if_neg (bnot_ne_true recovers), if_neg (by omega)]
  unfold execRecoveryImage mgmtWriteIn State.guarded
  simp [on, recovers, clsFirmware, policy, writes]

/-! ## The checks of a maintenance command (R465) -/

/-- A refusal before the check of SERIAL and NONCE has held: the nonce stays. -/
theorem maintRefused_kept {code : Nat} (early : code ≠ 0x0B05) : ∃ prot draws ctr,
    s.maintRefused code = ({ s with prot := prot, draws := draws, ctr := ctr }, code) ∧ prot.lastReject = code
      ∧ prot.maintNonce = if code = 0x0B05 then (s.random 16).1 else s.prot.maintNonce :=
  ⟨_, _, _, rfl, rfl, (if_neg early).symm⟩

/-- A refusal after it: the nonce is new. -/
theorem maintRefused_renewed : ∃ prot draws ctr,
    s.newMaintNonce.maintRefused 0x0B05 = ({ s with prot := prot, draws := draws, ctr := ctr }, 0x0B05) ∧ prot.lastReject = 0x0B05
      ∧ prot.maintNonce = if 0x0B05 = 0x0B05 then (s.random 16).1 else s.prot.maintNonce :=
  ⟨_, _, _, rfl, rfl, (if_pos rfl).symm⟩

/-- A command that fails a check leaves the code of its refusal, and after the check of SERIAL and NONCE a new nonce. -/
theorem writeMaint_refused {mop : Nat} (form : MaintForm cmd mop) (fails : s.maintCheck cmd ≠ 0) : ∃ prot draws ctr,
    State.writeMaint cmd blown s = ({ s with prot := prot, draws := draws, ctr := ctr }, s.maintCheck cmd) ∧ prot.lastReject = s.maintCheck cmd
      ∧ prot.maintNonce = if s.maintCheck cmd = 0x0B05 then (s.random 16).1 else s.prot.maintNonce := by
  unfold State.maintCheck at fails ⊢
  unfold State.writeMaint
  extract_lets slot s1
  rw [if_neg (by simp [form.length]), if_neg (by simp [form.length])]
  by_cases usable : s.slotUsable slot roleMaint = false
  case pos =>
    rw [if_pos usable, if_pos (by simp [usable])]
    exact maintRefused_kept (by decide)
  rw [if_neg usable] at fails ⊢
  rw [if_neg (by simpa using usable)]
  by_cases key : s.slotKeyOk slot = false
  case pos =>
    rw [if_pos key, if_pos (by simp [key])]
    exact maintRefused_kept (by decide)
  rw [if_neg key] at fails ⊢
  rw [if_neg (by simpa using key)]
  by_cases named : imgField cmd 8 8 ≠ s.fuses.serial ∨ (cmd.drop 16).take 16 ≠ s.prot.maintNonce
  case pos =>
    rw [if_pos named, if_pos named]
    exact maintRefused_kept (by decide)
  rw [if_neg named] at fails ⊢
  rw [if_neg named]
  by_cases signed : Config.ed25519Verify (Config.slotKey (s.slotHash slot)) (cmd.take 64) (cmd.drop 64) = false
  case pos =>
    rw [if_pos signed, if_pos signed]
    exact maintRefused_renewed
  rw [if_neg signed] at fails
  exact absurd rfl fails

/-- A command that passes every check does its operation on the state with a new nonce. -/
theorem writeMaint_passed {mop : Nat} {f : MaintOp} (form : MaintForm cmd mop) (passes : s.maintCheck cmd = 0)
    (op : maintOp mop (imgField cmd 1 1) = some f) (does : f (maintArgs cmd) blown s.newMaintNonce = (v, 0)) : State.writeMaint cmd blown s = (v, 0) := by
  unfold State.maintCheck at passes
  unfold State.writeMaint
  extract_lets slot s1
  rw [if_neg (by simp [form.length]), if_neg (by simp [form.length])]
  split at passes
  · cases passes
  split at passes
  · cases passes
  split at passes
  · cases passes
  split at passes
  · cases passes
  case isFalse usable key named signed =>
    rw [if_neg (by simpa using usable), if_neg (by simpa using key), if_neg named, if_neg signed, form.op, op]
    dsimp only
    rw [if_neg (by simp [form.reserved])]
    rw [show (cmd.drop 32).take 32 = maintArgs cmd from rfl, show s1 = s.newMaintNonce from rfl, does]
    exact if_neg (show ¬ 0 = 0x0B08 by decide)

/-- What an operation leaves of the rest: it changes the life record, the fuses, and the state of protection beside the code and the nonce. -/
structure MaintRest (s v : State) : Prop where
  rest : { v with life := s.life, fuses := s.fuses, prot := s.prot, pwr := s.pwr, draws := s.draws, ctr := s.ctr, out := s.out } = s
  out : v.out = s.out
  code : v.prot.lastReject = s.prot.lastReject
  nonce : v.prot.maintNonce = (s.random 16).1

/-- A maintenance command: refused by its checks, or its operation done. -/
theorem maintAnswered_of {c : Instr} {mop : Nat} {f : MaintOp} (served : Served s car 3) (row : exec c s = maintRow mop car cmd blown s)
    (form : MaintForm cmd mop) (op : maintOp mop (imgField cmd 1 1) = some f) (does : f (maintArgs cmd) blown s.newMaintNonce = (v, 0))
    (keeps : MaintRest s v) : ∃ u, exec c s = .next u ∧ MaintAnswered s u car cmd
      ∧ ((s.maintCheck cmd = 0 ∧ u = v.answer car 0 []) ∨ (s.maintCheck cmd ≠ 0 ∧ u.life = s.life ∧ u.fuses = s.fuses ∧ u.pwr = s.pwr)) := by
  have cmdEq : exec c s = mgmtWrite car 3 (State.writeMaint cmd blown) s := row.trans (if_pos form.op)
  by_cases passes : s.maintCheck cmd = 0
  case pos =>
    refine ⟨_, served.answered cmdEq (writeMaint_passed form passes op does) (countRefusal_zero v), ?_, .inl ⟨passes, rfl⟩⟩
    obtain ⟨rest, out, code, nonce⟩ := keeps
    refine ⟨rest, ?_, ?_, ?_, fun fails => absurd passes fails⟩
    · rw [passes]
      exact congrArg (fun l => l ++ [Out.answer (carNum car) 0 []]) out
    · rw [if_pos passes]; exact code
    · rw [if_pos (.inl passes)]; exact nonce
  case neg =>
    obtain ⟨prot, draws, ctr, writes, code, nonce⟩ := writeMaint_refused (blown := blown) form passes
    have chapter : s.maintCheck cmd / 256 = 0x0B := by
      unfold State.maintCheck at passes ⊢
      split_ifs at passes ⊢ <;> trivial
    refine ⟨_, served.answered cmdEq writes (countRefusal_protection chapter), ⟨rfl, rfl, ?_, ?_, fun _ => ⟨rfl, rfl⟩⟩,
      .inr ⟨passes, rfl, rfl, rfl⟩⟩
    · rw [if_neg passes]; exact code
    · simp only [passes, false_or]; exact nonce

/-- A command whose operation changes the life record. -/
theorem maintAnswered_life {c : Instr} {mop : Nat} {f : MaintOp} {life : Life} (served : Served s car 3)
    (row : exec c s = maintRow mop car cmd blown s) (form : MaintForm cmd mop) (op : maintOp mop (imgField cmd 1 1) = some f)
    (does : f (maintArgs cmd) blown s.newMaintNonce = ({ s.newMaintNonce with life := life }, 0)) : ∃ u, exec c s = .next u
      ∧ MaintAnswered s u car cmd ∧ u.fuses = s.fuses ∧ u.pwr = s.pwr ∧ (s.maintCheck cmd = 0 → u.life = life) := by
  obtain ⟨u, runs, answered, ⟨-, rfl⟩ | ⟨fails, -, fuses, pwr⟩⟩ := maintAnswered_of served row form op does ⟨rfl, rfl, rfl, rfl⟩
  · exact ⟨_, runs, answered, rfl, rfl, fun _ => rfl⟩
  · exact ⟨u, runs, answered, fuses, pwr, fun passes => absurd passes fails⟩

/-- A command whose operation blows fuses. -/
theorem maintAnswered_fuses {c : Instr} {mop : Nat} {f : MaintOp} {fuses : Fuses} (served : Served s car 3)
    (row : exec c s = maintRow mop car cmd blown s) (form : MaintForm cmd mop) (op : maintOp mop (imgField cmd 1 1) = some f)
    (does : f (maintArgs cmd) blown s.newMaintNonce = ({ s.newMaintNonce with fuses := fuses }, 0)) : ∃ u, exec c s = .next u
      ∧ MaintAnswered s u car cmd ∧ u.life = s.life ∧ u.pwr = s.pwr ∧ (s.maintCheck cmd = 0 → u.fuses = fuses) := by
  obtain ⟨u, runs, answered, ⟨-, rfl⟩ | ⟨fails, life, -, pwr⟩⟩ := maintAnswered_of served row form op does ⟨rfl, rfl, rfl, rfl⟩
  · exact ⟨_, runs, answered, rfl, rfl, fun _ => rfl⟩
  · exact ⟨u, runs, answered, life, pwr, fun passes => absurd passes fails⟩

/-! ## The operations of the commands (R464) -/

theorem maintDefect_does {args : List Byte} (entry : leAt args 0 2 < s.life.defects.length) (zeros : zerosAt args 2 30 = true) (b : Bool) :
    maintDefect args b s = ({ s with life := { s.life with defects := s.life.defects.eraseIdx (leAt args 0 2) } }, 0) :=
  if_neg (by simp [zeros]; omega)

theorem maintOverflow_does {args : List Byte} (held : s.life.overflowHeld &&& leAt args 0 6 ≠ 0) (zeros : zerosAt args 6 26 = true) (b : Bool) :
    maintOverflow args b s = ({ s with life := { s.life with
      overflowHeld := s.life.overflowHeld ^^^ (s.life.overflowHeld &&& leAt args 0 6) } }, 0) :=
  if_neg (by simp [held, zeros])

theorem testBit_cleared (held mask z : Nat) : (held ^^^ (held &&& mask)).testBit z = (held.testBit z && ! mask.testBit z) := by
  rw [Nat.testBit_xor, Nat.testBit_and]
  cases held.testBit z <;> cases mask.testBit z <;> rfl

/-- The entries of the retry table that a command names. -/
def namedRetry (args : List Byte) (r : Retry) : Bool := r.stage == leAt args 0 1 && r.item == leAt args 1 1 && r.unit == leAt args 2 2

theorem namedRetry_iff {args : List Byte} {r q : Retry} (stage : r.stage = leAt args 0 1) (item : r.item = leAt args 1 1)
    (unit : r.unit = leAt args 2 2) : namedRetry args q = true ↔ q.stage = r.stage ∧ q.item = r.item ∧ q.unit = r.unit := by
  simp [namedRetry, stage, item, unit, and_assoc]

theorem maintRetry_does {args : List Byte} {r : Retry} (listed : r ∈ s.life.retry) (named : namedRetry args r = true)
    (zeros : zerosAt args 4 28 = true) (b : Bool) :
    maintRetry args b s = ({ s with life := { s.life with retry := s.life.retry.filter (fun r => ! namedRetry args r) } }, 0) := by
  have one : s.life.retry.any (namedRetry args) = true := List.any_eq_true.mpr ⟨r, listed, named⟩
  have whole : ¬ (s.life.retry.any (namedRetry args) = false ∨ zerosAt args 4 28 = false) := by simp [one, zeros]
  exact if_neg whole

theorem maintThaw_does {args : List Byte} (frozen : ck (leAt args 0 2) (leAt args 2 1) ∈ s.life.frozen) (zeros : zerosAt args 3 29 = true) (b : Bool) :
    maintThaw args b s = ({ s with life := { s.life with
      frozen := s.life.frozen.filter (fun f => f != ck (leAt args 0 2) (leAt args 2 1)) } }, 0) :=
  if_neg (by simp [frozen, zeros])

theorem maintRollback_does {args : List Byte} (higher : s.fuses.rollback < leAt args 0 1) (most : leAt args 0 1 ≤ 64)
    (zeros : zerosAt args 1 31 = true) : maintRollback args true s = ({ s with fuses := { s.fuses with rollback := leAt args 0 1 } }, 0) := by
  unfold maintRollback
  extract_lets v cur
  rw [if_neg (by simp [zeros, v, cur]; omega), if_neg (by simp only [v, cur]; omega)]
  rfl

/-- A key that is revoked, beside those that were. -/
theorem getLsbD_revoked (revoked : BitVec 4) {k n : Nat} (bit : n < 4) :
    (revoked ||| BitVec.ofNat 4 (2 ^ k)).getLsbD n = (revoked.getLsbD n || decide (n = k)) := by
  rw [BitVec.getLsbD_or, BitVec.getLsbD_ofNat, Nat.testBit_two_pow]
  simp [bit, eq_comm]

theorem maintRevoke_does {args : List Byte} {signer : Nat} (slot : leAt args 0 1 < 4) (other : leAt args 0 1 ≠ signer)
    (left : ∃ q : Fin 4, q.val ≠ leAt args 0 1 ∧ s.slotUsable q.val roleImage = true) (zeros : zerosAt args 1 31 = true) : ∃ revoked,
    maintRevoke signer args true s = ({ s with fuses := { s.fuses with keyRevoked := revoked } }, 0)
      ∧ ∀ k, k < 4 → revoked.getLsbD k = (s.fuses.keyRevoked.getLsbD k || decide (k = leAt args 0 1)) := by
  unfold maintRevoke
  extract_lets k leftAny
  have some : leftAny = true := by
    obtain ⟨q, apart, usable⟩ := left
    have listed : q.val ∈ [0, 1, 2, 3] := by
      have := q.isLt
      simp only [List.mem_cons, List.not_mem_nil, or_false]
      omega
    exact List.any_eq_true.mpr ⟨q.val, listed, by simp [k, apart, usable]⟩
  rw [if_neg (by simp [some, zeros, k, other, slot])]
  by_cases already : bitOf s.fuses.keyRevoked k = true
  · refine ⟨s.fuses.keyRevoked, if_pos already, fun n bit => ?_⟩
    by_cases same : n = k
    · rw [show s.fuses.keyRevoked.getLsbD n = true from same ▸ already, Bool.true_or]
    · simp [show n ≠ leAt args 0 1 from same]
  · exact ⟨_, if_neg already, fun n bit => getLsbD_revoked _ bit⟩

theorem maintLock_does {args : List Byte} (higher : s.fuses.debugLock < leAt args 0 1) (most : leAt args 0 1 ≤ 3) (zeros : zerosAt args 1 31 = true) :
    maintLock args true s = ((s.setLock (s.fuses.debugLock ||| leAt args 0 1)).lockDebug, 0) := by
  unfold maintLock
  extract_lets v cur
  exact if_neg (by simp [zeros, v, cur]; omega)

/-- A lock above 0 ends every level (R457). -/
theorem level_locked {lock : Nat} (locks : lock ≠ 0) : ((s.setLock lock).lockDebug).level = 0 := by
  have closed : (s.setLock lock).prot.dbgLevel = 0 := if_neg locks
  unfold State.level
  rw [show (s.setLock lock).lockDebug.prot.dbgLevel = (s.setLock lock).prot.dbgLevel from rfl, closed]
  rfl

end

/-- Settles O51: a maintenance command is refused by the first check that fails, or does its operation on the state with a new nonce. -/
theorem protectionCommands : Obligations.ProtectionCommands := by
  unfold Obligations.ProtectionCommands
  refine ⟨fun s car nonce served whole => ?nonce, fun s car nonce served short => ?short, fun s service whole => ?report,
    fun s car served free idle => ?update, fun s car off data served => ?serviceImage,
    fun s off data listens recovers policy fits => ⟨_, execRecoveryImage_recovery listens recovers policy fits, rfl, rfl, rfl⟩,
    fun s car cmd served form entry zeros => ?defect, fun s car cmd served form held zeros => ?overflow,
    fun s car cmd r served form listed stage item unit zeros => ?retry, fun s car cmd served form frozen zeros => ?thaw,
    fun s car cmd served form higher most zeros => ?rollback, fun s car cmd served form slot other left zeros => ?revoke,
    fun s car cmd served form higher most zeros => ?lock⟩
  case nonce =>
    exact ⟨_, served.answered (exec_attestNonce car nonce s) (writeAttestNonce_whole whole) (countRefusal_zero _), rfl, rfl, rfl⟩
  case short =>
    refine ⟨_, served.answered (exec_attestNonce car nonce s) (writeAttestNonce_short short) (countRefusal_wrongState s), rfl, rfl⟩
  case report =>
    obtain ⟨body, report, nonce, serial, tally⟩ := attestReport_fields whole
    refine ⟨_, body, execAttestReport_service service, ?_, nonce, serial, tally⟩
    rw [report, countRefusal_zero]
    exact ⟨rfl, rfl⟩
  case update =>
    have cmd : exec (.mgmtUpdateControl car 1) s = mgmtWrite car 2 (State.writeMgmtUpdate 1) s :=
      (exec_mgmtUpdateControl car 1 s).trans (served.early _ _)
    have normal := served.1.normalService
    by_cases good : s.imageFault imgMgmt s.stagedImage = 0
    · obtain ⟨u, takes, rest, answered, state, fills⟩ :=
        mgmtImageTaken_answered (served.answered cmd (writeMgmtUpdate_good normal free idle good rfl) (countRefusal_zero _))
      refine ⟨u, takes, rest, answered, fun _ => ⟨state, fun first => ?_, fun second => ?_⟩, fun bad => absurd good bad⟩
      · obtain ⟨filled, kept⟩ := fills 1 0 (if_pos first) (by decide)
        exact ⟨filled, kept⟩
      · obtain ⟨filled, kept⟩ := fills 0 1 (if_neg second) (by decide)
        exact ⟨filled, kept⟩
    · obtain ⟨ctr, writes⟩ := writeMgmtUpdate_bad normal free idle good
      obtain ⟨u, fails, rest, answered, noted⟩ := mgmtUpdate_failed (served.answered cmd writes (countRefusal_zero _))
      exact ⟨u, fails, rest, answered, fun fine => absurd fine good, fun _ => noted⟩
  case serviceImage =>
    have cmd : exec (.recoveryImage car off data) s = mgmtWrite car 2 (State.writeRecovery off data) s :=
      (exec_recoveryImage car off data s).trans (served.early _ _)
    exact ⟨_, served.answered cmd (writeRecovery_service served.1.normalService off data) (countRefusal_unknown s), rfl, rfl⟩
  case defect => exact maintAnswered_life served (exec_maintRemoveDefect car cmd s) form rfl (maintDefect_does (s := s.newMaintNonce) entry zeros true)
  case overflow =>
    obtain ⟨u, runs, answered, fuses, pwr, does⟩ :=
      maintAnswered_life served (exec_maintClearOverflow car cmd s) form rfl (maintOverflow_does (s := s.newMaintNonce) held zeros true)
    exact ⟨u, runs, answered, fuses, pwr, fun passes => by rw [does passes]; exact ⟨rfl, fun z => testBit_cleared ..⟩⟩
  case retry =>
    have named := fun q => namedRetry_iff (q := q) stage item unit
    obtain ⟨u, runs, answered, fuses, pwr, does⟩ := maintAnswered_life served (exec_maintRemoveRetry car cmd s) form rfl
      (maintRetry_does (s := s.newMaintNonce) listed ((named r).mpr ⟨rfl, rfl, rfl⟩) zeros true)
    refine ⟨u, runs, answered, fuses, pwr, fun passes => ?_⟩
    rw [does passes]
    refine ⟨rfl, fun q => List.mem_filter.trans (and_congr_right fun _ => ?_)⟩
    rw [← named q]
    simp
  case thaw => exact maintAnswered_life served (exec_maintThaw car cmd s) form rfl (maintThaw_does (s := s.newMaintNonce) frozen zeros true)
  case rollback =>
    exact maintAnswered_fuses served (exec_maintAdvanceRollback car cmd true s) form rfl (maintRollback_does (s := s.newMaintNonce) higher most zeros)
  case revoke =>
    obtain ⟨revoked, does, bits⟩ := maintRevoke_does (s := s.newMaintNonce) slot other left zeros
    obtain ⟨u, runs, answered, life, pwr, blows⟩ := maintAnswered_fuses served (exec_maintRevokeKey car cmd true s) form rfl does
    exact ⟨u, runs, answered, life, pwr, fun passes => by rw [blows passes]; exact ⟨rfl, bits⟩⟩
  case lock =>
    have does := maintLock_does (s := s.newMaintNonce) higher most zeros
    obtain ⟨u, runs, answered, passed | ⟨fails, life, fuses, pwr⟩⟩ :=
      maintAnswered_of served (exec_maintRaiseDebugLock car cmd true s) form rfl does ⟨rfl, rfl, rfl, rfl⟩
    · obtain ⟨-, rfl⟩ := passed
      have locks : s.fuses.debugLock ||| leAt (maintArgs cmd) 0 1 ≠ 0 := by
        have := Nat.right_le_or (n := s.fuses.debugLock) (m := leAt (maintArgs cmd) 0 1)
        omega
      exact ⟨_, runs, answered, rfl, fun _ => ⟨rfl, level_locked locks⟩⟩
    · exact ⟨u, runs, answered, life, fun passes => absurd passes fails⟩

end Sys2Proof.Machine
end

section
namespace Sys2Proof.Machine

/-! # The unlock of debug (R457, R466, R467) -/

section
variable {s : State} {car : Carrier} {resp : List Byte} {inTime : Bool}

theorem writeDbgRequest_level {v : Nat} (level : v = 1 ∨ v = 2) :
    State.writeDbgRequest v s = (s.updProt fun p => { p with dbgWanted := v }, 0) := if_pos level

theorem writeDbgRequest_other {v : Nat} (other : ¬ (v = 1 ∨ v = 2)) : State.writeDbgRequest v s = (s, 0x0107) := if_neg other

/-! ## The challenge -/

theorem execDbgChallenge_service (service : InService s) : execDbgChallenge s =
    .next ((s.readChallenge.1.countRefusal s.readChallenge.2.1).send (.answer 4 s.readChallenge.2.1 s.readChallenge.2.2)) :=
  mgmtRead_inService service _

/-- The challenge that a read of DBG_CHALLENGE issues (R467). -/
def State.nextChallenge (s : State) : List Byte :=
  (s.random 16).1 ++ leOfNat 8 s.fuses.serial ++ leOfNat 1 s.prot.dbgWanted ++ List.replicate 7 0

theorem readChallenge_issues (few : s.prot.dbgFails < 8) : s.readChallenge = ({ s with
    draws := s.draws + 1, prot := { s.prot with challenge := some s.nextChallenge, challengeAt := s.tally.now } }, 0, s.nextChallenge) :=
  if_neg (by omega)

theorem readChallenge_refused (many : 8 ≤ s.prot.dbgFails) : s.readChallenge = (s, 0x0C02, []) := if_pos many

/-- The statuses of the debug chapter have no counter among the protocol's (R432). -/
theorem countRefusal_unlocks (s : State) : s.countRefusal 0x0C02 = s := by simp [State.countRefusal]

/-! ## The response -/

theorem writeDbgResponse_whole (whole : resp.length = 72) : State.writeDbgResponse resp inTime s =
    if s.unlockValid resp inTime = false then (((s.updProt fun p => { p with challenge := none, dbgFails := p.dbgFails + 1 }).bump (ck 0xB040 2) 1,
      Config.unlockFailStatus % 65536) : State × Nat)
    else if s.wantedLevel = 0 ∨ s.unlockCap < s.wantedLevel then (s.updProt fun p => { p with challenge := none }, Config.unlockFailStatus % 65536)
    else ({ s.updProt (fun p => { p with challenge := none, dbgGranted := s.wantedLevel }) with pwr := { s.pwr with debugDom := true } }, 0) := by
  unfold State.writeDbgResponse
  rw [if_neg (by omega), if_neg (not_not.mpr whole)]
  by_cases valid : s.unlockValid resp inTime = false
  · rw [if_pos valid]
    exact if_pos (show (! s.unlockValid resp inTime) = true from by rw [valid]; rfl)
  · rw [if_neg valid]
    exact if_neg (show ¬ (! s.unlockValid resp inTime) = true from by simpa using valid)

/-- The protocol's counters of refusals are not the counter of failed unlocks. -/
theorem countRefusal_counter (s : State) (st : Nat) : (s.countRefusal st).counter (ck 0xB040 2) = s.counter (ck 0xB040 2) := by
  unfold State.countRefusal
  split
  · exact counter_bump_ne (by decide)
  split
  · exact counter_bump_ne (by decide)
  split
  · exact counter_bump_ne (by decide)
  split
  · exact counter_bump_ne (by decide)
  split
  · exact counter_bump_ne (by decide)
  split
  · refine counter_bump_ne ?_
    unfold ck
    omega
  · rfl

/-- A response ends the challenge; only a valid one for a level that DEBUG_LOCK allows grants it. -/
theorem execDbgResponse_whole (served : Served s car 3) (whole : resp.length = 72) : ∃ u, execDbgResponse car resp inTime s = .next u
    ∧ { u with prot := s.prot, pwr := s.pwr, ctr := s.ctr, out := s.out } = s ∧ u.prot.challenge = none
    ∧ (s.unlockValid resp inTime = true → s.wantedLevel ≠ 0 → s.wantedLevel ≤ s.unlockCap →
      u.prot.dbgGranted = s.wantedLevel ∧ u.pwr.debugDom = true ∧ answers s u car 0)
    ∧ (s.unlockValid resp inTime = false → u.prot.dbgGranted = s.prot.dbgGranted ∧ u.prot.dbgFails = s.prot.dbgFails + 1 ∧ u.pwr = s.pwr
      ∧ u.counter (ck 0xB040 2) = satAdd (s.counter (ck 0xB040 2)) 1)
    ∧ (s.unlockCap < s.wantedLevel → u.prot.dbgGranted = s.prot.dbgGranted) := by
  have writes := writeDbgResponse_whole (s := s) (inTime := inTime) whole
  generalize Config.unlockFailStatus % 65536 = st at writes
  by_cases valid : s.unlockValid resp inTime = false
  · rw [if_pos valid] at writes
    have counted := countRefusal_counter ((s.updProt fun p => { p with challenge := none, dbgFails := p.dbgFails + 1 }).bump (ck 0xB040 2) 1) st
    obtain ⟨ctr, refuses⟩ := countRefusal_ctr ((s.updProt fun p => { p with challenge := none, dbgFails := p.dbgFails + 1 }).bump (ck 0xB040 2) 1) st
    rw [refuses] at counted
    refine ⟨_, served.answered (exec_dbgResponse car resp inTime s) writes refuses, rfl, rfl, fun good => absurd (valid.symm.trans good) (by decide),
      fun _ => ⟨rfl, rfl, rfl, ?_⟩, fun _ => rfl⟩
    exact counted.trans (counter_bump_same one_pos)
  rw [if_neg valid] at writes
  by_cases beyond : s.wantedLevel = 0 ∨ s.unlockCap < s.wantedLevel
  · rw [if_pos beyond] at writes
    obtain ⟨ctr, refuses⟩ := countRefusal_ctr (s.updProt fun p => { p with challenge := none }) st
    exact ⟨_, served.answered (exec_dbgResponse car resp inTime s) writes refuses, rfl, rfl, fun _ some cap => absurd beyond (by omega),
      fun bad => absurd bad valid, fun _ => rfl⟩
  · rw [if_neg beyond] at writes
    exact ⟨_, served.answered (exec_dbgResponse car resp inTime s) writes (countRefusal_zero _), rfl, rfl, fun _ _ _ => ⟨rfl, rfl, rfl⟩,
      fun bad => absurd bad valid, fun high => absurd (.inr high) beyond⟩

theorem unlockValid_unasked (none : s.prot.challenge = none) (resp : List Byte) : s.unlockValid resp true = false := by
  simp [State.unlockValid, none]

theorem unlockValid_late (s : State) (resp : List Byte) : s.unlockValid resp false = false := by simp [State.unlockValid]

end

/-- Settles O52: a response is judged once, against the challenge in force and the level that DEBUG_LOCK allows. -/
theorem debugUnlock : Obligations.DebugUnlock := by
  unfold Obligations.DebugUnlock
  refine ⟨fun s car v served level => ?request, fun s car v served one two => ?reserved, fun s service few => ?challenge,
    fun s service many => ?refused, fun s car resp inTime served whole => execDbgResponse_whole served whole,
    fun s resp none => unlockValid_unasked none resp, unlockValid_late,
    fun s car served => ?lock, fun s on => ⟨_, congrArg Host.Outcome.next (if_pos on), rfl, rfl⟩⟩
  case request =>
    have named : v.toNat = 1 ∨ v.toNat = 2 := level.imp (fun one => by rw [one]; rfl) (fun two => by rw [two]; rfl)
    exact ⟨_, served.answered (exec_dbgRequest car v s) (writeDbgRequest_level named) (countRefusal_zero _), rfl, rfl, rfl⟩
  case reserved =>
    have other : ¬ (v.toNat = 1 ∨ v.toNat = 2) := by
      rintro (same | same)
      · exact one (BitVec.eq_of_toNat_eq same)
      · exact two (BitVec.eq_of_toNat_eq same)
    exact ⟨_, served.answered (exec_dbgRequest car v s) (writeDbgRequest_other other) (countRefusal_wrongState s), rfl, rfl⟩
  case challenge =>
    have cmd := execDbgChallenge_service service
    rw [readChallenge_issues few, countRefusal_zero] at cmd
    exact ⟨_, _, cmd, rfl, rfl, rfl, rfl, rfl⟩
  case refused =>
    have cmd := execDbgChallenge_service service
    rw [readChallenge_refused many, countRefusal_unlocks] at cmd
    exact ⟨_, cmd, rfl, rfl⟩
  case lock =>
    exact ⟨_, served.answered (exec_dbgLockNow car s) rfl (countRefusal_zero _), rfl, rfl, rfl, rfl⟩

end Sys2Proof.Machine
end

section
namespace Sys2Proof.Machine

/-! # The rows of the dictionary that the operations name (R435, R442, R450) -/

section

/-- The tile arrays lie above every other index. -/
theorem objTable_tileArrays : (objTable.all fun r => r.units != 1440 || decide (0xD100 ≤ r.index)) = true := by decide +kernel

theorem objTable_least : (objTable.all fun r => decide (0x0100 ≤ r.index)) = true := by decide +kernel

/-- At the tiles' index only their own array has rows. -/
theorem objTable_tiles : (objTable.all fun r => (r.index == 0xD100 && r.units == 1440) || decide (0xD6A0 ≤ r.index)
    || (r.units != 1440 && decide (r.index + r.units ≤ 0xD100) && r.index != 0xD100)) = true := by decide +kernel

/-- Below the tile arrays the rows of an index are the same for every grid. -/
theorem covers_fixed {i : Nat} (below : i < 0xD100) (tiles : Nat) :
    objTable.filter (fun r => r.covers tiles i) = objTable.filter (fun r => r.covers 0 i) := by
  refine List.filter_congr fun r listed => ?_
  have above := List.all_eq_true.mp objTable_tileArrays r listed
  simp only [Bool.or_eq_true, bne_iff_ne, decide_eq_true_eq] at above
  unfold ObjRow.covers
  by_cases array : r.units = 1440
  · have high : ¬ r.index ≤ i := by have := above.resolve_left (not_not.mpr array); omega
    simp [high]
  · simp [array]

theorem findObj_fixed {i : Nat} (below : i < 0xD100) (s : State) (sub : Nat) : s.findObj i sub = findObj 0 i sub := by
  unfold State.findObj findObj
  rw [covers_fixed below]

/-- No object stands below 0x0100. -/
theorem findObj_below {i : Nat} (below : i < 0x0100) (s : State) (sub : Nat) : s.findObj i sub = (0x0101, none) := by
  have none : objTable.filter (fun r => r.covers (48 * s.grid.logicalRows) i) = [] := by
    refine List.filter_eq_nil_iff.mpr fun r listed => ?_
    have least := of_decide_eq_true (List.all_eq_true.mp objTable_least r listed)
    have high : ¬ r.index ≤ i := by omega
    simp [ObjRow.covers, high]
  unfold State.findObj findObj
  rw [none]

theorem findObj_serial (s : State) : s.findObj 0x0100 5 = (0, some (⟨0x0100, 1, 0x05, 1, 4, 1, false, false, 8⟩, 0)) :=
  (findObj_fixed (by decide) s 5).trans (by decide +kernel)

theorem findObj_label (s : State) : s.findObj 0x0100 9 = (0, some (⟨0x0100, 1, 0x09, 1, 11, 4, true, false, 64⟩, 0)) :=
  (findObj_fixed (by decide) s 9).trans (by decide +kernel)

theorem findObj_fwControl (s : State) : s.findObj 0x0122 2 = (0, some (⟨0x0122, 1, 0x02, 1, 1, 2, false, false, 1⟩, 0)) :=
  (findObj_fixed (by decide) s 2).trans (by decide +kernel)

theorem findObj_idlePark (s : State) : s.findObj 0x4040 1 = (0, some (⟨0x4040, 1, 0x01, 1, 3, 5, false, false, 4⟩, 0)) :=
  (findObj_fixed (by decide) s 1).trans (by decide +kernel)

theorem findObj_keyHashes (s : State) : s.findObj 0xB000 1 = (0, some (⟨0xB000, 1, 0x01, 1, 12, 1, false, false, 256⟩, 0)) :=
  (findObj_fixed (by decide) s 1).trans (by decide +kernel)

/-- The first object of a tile of the grid (R450). -/
theorem findObj_tile {s : State} {t : TileIx} (exists_ : s.grid.hasTile t.val = true) :
    s.findObj (0xD100 + t.val) 1 = (0, some (⟨0xD100, 1440, 0x01, 1, 2, 1, false, false, 2⟩, t.val)) := by
  have inGrid : t.val < 48 * s.grid.logicalRows := of_decide_eq_true exists_
  have small := t.isLt
  have rows : objTable.filter (fun r => r.covers (48 * s.grid.logicalRows) (0xD100 + t.val)) = objTable.filter (fun r => r.index == 0xD100) := by
    refine List.filter_congr fun r listed => ?_
    have place := List.all_eq_true.mp objTable_tiles r listed
    simp only [Bool.or_eq_true, Bool.and_eq_true, beq_iff_eq, bne_iff_ne, decide_eq_true_eq] at place
    unfold ObjRow.covers
    obtain ((⟨index, units⟩ | high) | ⟨⟨units, low⟩, apart⟩) := place
    · simp [index, units, inGrid]
    · have out : ¬ r.index ≤ 0xD100 + t.val := by omega
      have apart : r.index ≠ 0xD100 := by omega
      simp [out, apart]
    · have out : ¬ 0xD100 + t.val < r.index + r.units := by omega
      simp [units, out, apart]
  have own : (objTable.filter (fun r => r.index == 0xD100)).find? (fun r => decide (r.sub ≤ 1) && decide (1 < r.sub + r.subs)) =
      some ⟨0xD100, 1440, 0x01, 1, 2, 1, false, false, 2⟩ := by decide +kernel
  have some_ : objTable.filter (fun r => r.index == 0xD100) ≠ [] := by decide +kernel
  unfold State.findObj findObj
  rw [rows]
  split
  case h_1 none => exact absurd none some_
  case h_2 =>
    rw [own]
    simp

end

end Sys2Proof.Machine
end

section
namespace Sys2Proof.Machine

/-! # Operations of the dictionary and packets to its agents (R395, R427, R433 to R442, R450) -/

section
variable {s : State} {l : LinkIx}

/-! ## The state of a link -/

theorem linkSt_val (s : State) (l : LinkIx) : s.linkSt l.val = s.link.links[l] := by
  simp [State.linkSt, List.getD]

theorem linkIx_val (l : LinkIx) : linkIx l.val = l := Fin.ext (Nat.mod_eq_of_lt l.isLt)

theorem updLink_val (s : State) (l : LinkIx) (f : LinkSt → LinkSt) :
    s.updLink l.val f = { s with link := { s.link with links := s.link.links.set l (f (s.linkSt l.val)) } } :=
  congrArg (fun k : LinkIx => { s with link := { s.link with links := s.link.links.set k (f (s.linkSt l.val)) } }) (linkIx_val l)

theorem linkSt_updLink_same (s : State) (l : LinkIx) (f : LinkSt → LinkSt) : (s.updLink l.val f).linkSt l.val = f (s.linkSt l.val) := by
  rw [updLink_val, linkSt_val]
  simp

theorem linkSt_updLink_ne (s : State) {k l : LinkIx} (other : k ≠ l) (f : LinkSt → LinkSt) : (s.updLink l.val f).linkSt k.val = s.linkSt k.val := by
  have apart : l.val ≠ k.val := fun same => other (Fin.ext same.symm)
  refine Eq.trans ?_ (linkSt_val s k).symm
  rw [updLink_val, linkSt_val]
  simp [apart]

end

section
variable {s : State} {q : Session} {session : Nat}

/-! ## An operation as a command -/

/-- The environment of an SMBus operation. -/
def smOpEnv : OpEnv := ⟨2, 0, 0, true, valueRoom 2 255⟩

/-- The environment of an operation of an Ethernet session. -/
def ethOpEnv (session : Nat) (q : Session) : OpEnv := ⟨0, session, q.version, true, valueRoom 0 q.maxFrame⟩

theorem InService.carrierOn (service : InService s) (car : Carrier) : s.carrierOn car = true :=
  carrierOn_listening service.powered (by rw [service.stage]; decide) service.normal car

theorem opRow_smbus (service : InService s) (o : Op) :
    opRow 0 o s = .next ((s.runOp smOpEnv o).1.answer .smbus (s.runOp smOpEnv o).2.1 (s.runOp smOpEnv o).2.2) := by
  unfold opRow
  simp only [if_true]
  rw [if_neg (bnot_ne_true (service.carrierOn _)), service.inUse]
  rfl

theorem opRow_session (service : InService s) (some_ : session ≠ 0) (open_ : s.session session = some q) (ethernet : q.car = 0) (o : Op) :
    opRow session o s =
      .next ((s.runOp (ethOpEnv session q) o).1.answer .ethernet (s.runOp (ethOpEnv session q) o).2.1 (s.runOp (ethOpEnv session q) o).2.2) := by
  unfold opRow
  rw [if_neg some_, open_]
  dsimp only [Option.map_some]
  rw [if_neg (bnot_ne_true (service.carrierOn _)), service.inUse, ethernet]
  rfl

/-! ## The operations of the later versions (R425) -/

section
variable {e : OpEnv} {sub index len offset : Nat} {value : List Byte}

theorem runOp_readRange (newer : 1 ≤ e.minor) :
    s.runOp e ⟨3, sub, index, len, 0, offset, []⟩ = s.readOp e.served index sub len (some offset) e.room :=
  (if_neg (Nat.not_lt.mpr newer)).trans (if_neg (not_not.mpr rfl))

theorem runOp_writeRange (newer : 1 ≤ e.minor) :
    s.runOp e ⟨4, sub, index, len, 0, offset, value⟩ = noValue (s.writeOp (carOf e.car) e.served index sub (some offset) value) :=
  (if_neg (Nat.not_lt.mpr newer)).trans (if_neg (not_not.mpr rfl))

theorem runOp_writeRange_old (older : e.minor < 1) : s.runOp e ⟨4, sub, index, len, 0, offset, value⟩ = s.refuseOp 0x0111 := if_pos older

theorem runOp_subscribe (newer : 2 ≤ e.minor) : s.runOp e ⟨5, 0, 0, len, 0, 0, value⟩ = s.subscribeOp e ⟨5, 0, 0, len, 0, 0, value⟩ :=
  (if_neg (Nat.not_lt.mpr newer)).trans (if_neg (not_not.mpr rfl))

theorem runOp_commit (newer : 3 ≤ e.minor) :
    s.runOp e ⟨6, sub, index, 0, 0, 0, []⟩ = noValue (s.commitOp (carOf e.car) e.served index sub) :=
  ((if_neg (Nat.not_lt.mpr newer)).trans (if_neg (not_not.mpr rfl))).trans (if_neg (not_not.mpr rfl))

end

/-! ## Reads -/

theorem readOp_service (service : InService s) (i sub len : Nat) (offset : Option Nat) (room : Nat) : s.readOp true i sub len offset room =
    ((s.readAt i sub len offset room).1.countRefusal (s.readAt i sub len offset room).2.1, (s.readAt i sub len offset room).2.1,
      (s.readAt i sub len offset room).2.2) := by
  unfold State.readOp
  rw [if_neg (by simp [service.normalService]), if_neg (by simp [service.mgmt]), if_neg (by simp)]

/-- A read over SMBus is answered as its object is read. -/
theorem execPennosRead_smbus (service : InService s) (i : U16) (sub : Byte) (len : U16) {v : State} {status : Nat} {value : List Byte}
    (reads : s.readAt i.toNat sub.toNat len.toNat none smOpEnv.room = (v, status, value)) :
    execPennosRead 0 i sub len s = .next ((v.countRefusal status).answer .smbus status value) := by
  have runs : s.runOp smOpEnv ⟨1, sub.toNat, i.toNat, len.toNat, 0, 0, []⟩ = (v.countRefusal status, status, value) := by
    refine (readOp_service service i.toNat sub.toNat len.toNat none smOpEnv.room).trans ?_
    rw [reads]
  unfold execPennosRead
  rw [opRow_smbus service, runs]

/-- An operation that is answered and counts at most. -/
theorem opAnswered_of (s : State) (status : Nat) (car : Carrier) (value : List Byte) :
    opAnswered s ((s.countRefusal status).answer car status value) (carNum car) status value := by
  obtain ⟨_, counts⟩ := countRefusal_ctr s status
  rw [counts]
  exact ⟨rfl, rfl⟩

theorem readAt_serial (s : State) (room : Nat) : s.readAt 0x0100 5 8 none room = (s, 0, leOfNat 8 (s.fuses.serial % 2 ^ 64)) := by
  unfold State.readAt
  rw [findObj_serial]
  rfl

theorem readAt_serialLength (s : State) {len : Nat} (other : len ≠ 8) (room : Nat) : s.readAt 0x0100 5 len none room = (s, 0x0104, []) := by
  unfold State.readAt
  rw [findObj_serial]
  dsimp only
  rw [if_neg (by decide), if_neg (by decide), if_pos (.inr other)]

theorem readAt_unknown (s : State) {i : Nat} (below : i < 0x0100) (sub len : Nat) (offset : Option Nat) (room : Nat) :
    s.readAt i sub len offset room = (s, 0x0101, []) := by
  unfold State.readAt
  rw [findObj_below below]

theorem readAt_writeOnly (s : State) (len : Nat) (room : Nat) : s.readAt 0x0122 2 len none room = (s, 0x0103, []) := by
  unfold State.readAt
  rw [findObj_fwControl]
  exact if_pos rfl

theorem readAt_keyHashes (s : State) (off len room : Nat) :
    s.readAt 0xB000 1 len (some off) room = (s, 0, ((s.objBytes 0xB000 0 1).drop off).take len) := by
  unfold State.readAt
  rw [findObj_keyHashes]
  rfl

/-! ## Writes -/

/-- A write that its carrier's policy lets through in normal service. -/
theorem guarded_service {car : Carrier} {cls : Nat} (served : Served s car cls) (how : Serve) (w : Writer) :
    s.guarded car cls true how w = ((w s).1.countRefusal (w s).2, (w s).2) := by
  obtain ⟨service, policy⟩ := served
  simp [State.guarded, service.normalService, service.mgmt, policy]

/-- A write of an object of the configuration. -/
theorem writeOp_config {car : Carrier} (served : Served s car 0) {i sub : Nat} (config : classOf i sub (s.findObj i sub).2.isSome = 0)
    {offset : Option Nat} {bs : List Byte} {v v' : State} {status : Nat} (writes : State.writeObj i sub offset bs s = (v, status))
    (counts : v.countRefusal status = v') : s.writeOp car true i sub offset bs = (v', status) := by
  unfold State.writeOp
  rw [config, guarded_service served, writes, counts]

theorem classOf_config {i : Nat} (config : i = 0x0100 ∨ i = 0x4040) (sub : Nat) (known : Bool) : classOf i sub known = 0 := by
  rcases config with rfl | rfl <;> rfl

theorem execPennosWrite_smbus (served : Served s .smbus 0) (i : U16) (sub : Byte) (bs : List Byte) {v : State} {status : Nat}
    (writes : s.writeOp .smbus true i.toNat sub.toNat none bs = (v, status)) :
    execPennosWrite 0 i sub bs s = .next (v.answer .smbus status []) := by
  have runs : s.runOp smOpEnv ⟨2, sub.toNat, i.toNat, bs.length, 0, 0, bs⟩ = (v, status, []) := by
    refine (Eq.refl (noValue (s.writeOp .smbus true i.toNat sub.toNat none bs)) :).trans ?_
    rw [writes]
    rfl
  unfold execPennosWrite
  rw [opRow_smbus served.1, runs]

theorem writeObj_idlePark (between : s.betweenJobs = true) (thawed : s.life.frozen.contains (ck 0x4040 1) = false) (v : U32) :
    State.writeObj 0x4040 1 none (leOfNat 4 v.toNat) s = (s.updPwr fun p => { p with idleParkMs := v.toNat }, 0) := by
  have value : natOfLE (leOfNat 4 v.toNat) = v.toNat := natOfLE_leOfNat_small v.isLt
  unfold State.writeObj
  rw [findObj_idlePark]
  dsimp only
  rw [if_neg (by decide), if_neg (by simp [between]), if_neg (ne_true_of_eq_false thawed), if_neg (by decide),
    if_neg (by simp [leOfNat_length, typeSize]),
    if_neg (fun bool => absurd bool.1 (by decide)), value]
  rfl

theorem writeObj_running (running : s.betweenJobs = false) (bs : List Byte) : State.writeObj 0x4040 1 none bs s = (s, 0x0106) := by
  unfold State.writeObj
  rw [findObj_idlePark]
  dsimp only
  rw [if_neg (by decide), if_pos ⟨rfl, running⟩]

theorem writeObj_readOnly (s : State) (bs : List Byte) : State.writeObj 0x0100 5 none bs s = (s, 0x0103) := by
  unfold State.writeObj
  rw [findObj_serial]
  exact if_pos rfl

/-- A value that is written into the label is kept (R440). -/
theorem writeObj_label {offset : Nat} {bs : List Byte} (thawed : s.life.frozen.contains (ck 0x0100 9) = false)
    (fits : (overlay (s.objBytes 0x0100 0 9) offset bs).length ≤ 64) (text : utf8Ok (overlay (s.objBytes 0x0100 0 9) offset bs) = true) :
    State.writeObj 0x0100 9 (some offset) bs s = (s.keep (ck 0x0100 9) (overlay (s.objBytes 0x0100 0 9) offset bs), 0) := by
  unfold State.writeObj
  rw [findObj_label]
  dsimp only
  rw [if_neg (by decide), if_neg (by simp), if_neg (ne_true_of_eq_false thawed), if_pos (by decide), if_neg (by decide),
    if_neg (show ¬ 4 = 2 by decide), if_neg (Nat.not_lt.mpr fits)]
  exact if_pos text

/-- What is kept under a key is found there. -/
theorem find_ins (k : Nat) (v : List Byte) (m : SMap (List Byte)) : (SMap.ins k v m).find? (fun e => e.1 == k) = some (k, v) := by
  induction m with
  | nil => simp [SMap.ins]
  | cons e m ih =>
    obtain ⟨a, w⟩ := e
    unfold SMap.ins
    split
    · simp
    split
    · simp
    · have apart : a ≠ k := by omega
      simp [apart, ih]

theorem keptBytes_keep (s : State) (k : Nat) (v dflt : List Byte) : (s.keep k v).keptBytes k dflt = v := by
  unfold State.keptBytes State.keep
  dsimp only
  rw [find_ins]

/-! ## SUBSCRIBE and COMMIT -/

/-- A session whose entry has changed is found as it is now. -/
theorem session_updSession (open_ : s.session session = some q) (f : Session → Session) (id : ∀ q, (f q).id = q.id) :
    (s.updSession session f).session session = some (f q) := by
  unfold State.session at open_
  unfold State.session State.updSession State.updHost
  dsimp only
  generalize s.host.sessions = l at open_ ⊢
  induction l with
  | nil => cases open_
  | cons a l ih =>
    by_cases same : a.id = session
    · rw [List.find?_cons_of_pos (by simpa using same)] at open_
      cases open_
      rw [List.map_cons, if_pos same, List.find?_cons_of_pos (by simpa [id] using same)]
    · rw [List.find?_cons_of_neg (by simpa using same)] at open_
      rw [List.map_cons, if_neg same, List.find?_cons_of_neg (by simpa using same)]
      exact ih open_

theorem subscribeOp_mask (s : State) {e : OpEnv} (served : e.served = true) (mask : U64) :
    s.subscribeOp e ⟨5, 0, 0, 8, 0, 0, leOfNat 8 mask.toNat⟩ = (s.updSession e.sess fun q => { q with mask := mask.toNat }, 0, []) := by
  have value : natOfLE (leOfNat 8 mask.toNat) = mask.toNat := natOfLE_leOfNat_small mask.isLt
  unfold State.subscribeOp
  rw [if_neg (by simp [served]), if_neg (not_not.mpr rfl), if_neg (by simp), value]

theorem commitOp_label {car : Carrier} (served : Served s car 0) :
    s.commitOp car true 0x0100 9 = ({ s with life := { s.life with frozen := insNat (ck 0x0100 9) s.life.frozen } }, 0) := by
  unfold State.commitOp
  rw [classOf_config (.inl rfl), guarded_service served, findObj_label]
  exact congrArg (·, 0) (countRefusal_zero _)

/-! ## The agents' packets -/

theorem agentIndex_toNat (t : TileIx) : (BitVec.ofNat 16 (0xD100 + t.val)).toNat = 0xD100 + t.val := by
  have := t.isLt
  rw [BitVec.toNat_ofNat]
  omega

theorem agentObj_tile {t : TileIx} (exists_ : s.grid.hasTile t.val = true) :
    s.agentObj t.val (0xD100 + t.val) 1 = (0, some ⟨0xD100, 1440, 0x01, 1, 2, 1, false, false, 2⟩) := by
  unfold State.agentObj
  rw [if_pos (.inl rfl), findObj_tile exists_]
  rfl

theorem execDictObjectRead_tile {t : TileIx} (exists_ : s.grid.hasTile t.val = true) (req : U16) :
    execDictObjectRead t req (BitVec.ofNat 16 (0xD100 + t.val)) 1 s =
      .next (s.dictAnswer req.toNat 0 (leOfNat 2 (s.objNat 0xD100 t.val 1 % 2 ^ 16))) := by
  unfold execDictObjectRead agentPacket
  rw [if_pos exists_, agentIndex_toNat, show (1 : Byte).toNat = 1 from rfl]
  dsimp only
  rw [agentObj_tile exists_]
  rfl

theorem execDictObjectWrite_tile {t : TileIx} (exists_ : s.grid.hasTile t.val = true) (req : U16) (v : U64) :
    execDictObjectWrite t req (BitVec.ofNat 16 (0xD100 + t.val)) 1 v s = .next (s.dictAnswer req.toNat 0x0103 []) := by
  unfold execDictObjectWrite agentPacket
  rw [if_pos exists_, agentIndex_toNat, show (1 : Byte).toNat = 1 from rfl]
  dsimp only
  rw [agentObj_tile exists_]

/-- A packet for bytes of the engine's own stack, which answers, is served now. -/
theorem engineMemory_own {e : EngineIx} {req addr count a b : Nat} (some_ : 1 ≤ count) (most : count ≤ 4032) (inside : addr < 2 ^ 48)
    (first : s.locate addr = some (e.val / 2, a)) (last : s.locate (addr + count - 1) = some (e.val / 2, b))
    (usable : s.stackUsable (e.val / 2) = true) (m : MemRequest) (now : State → State) : s.engineMemory e req addr count m now = now s := by
  unfold State.engineMemory
  rw [if_neg (by omega), first, last]
  dsimp only
  rw [if_neg (by simp), if_pos usable]

/-- A read counts the poisoned lines that it meets. -/
theorem countPoisonRead_eq (s : State) (addr len : Nat) : ∃ ctr, s.countPoisonRead addr len = { s with ctr := ctr } := ⟨_, rfl⟩

theorem execDictReply_front {req : U16} {st : Nat} {v : List Byte} {l : List (Nat × Nat × List Byte)}
    (front : s.host.dictReplies = (req.toNat, st, v) :: l) :
    execDictReply req s = .next (({ s with host := { s.host with dictReplies := l } } : State).send (.answer 4 st v)) := by
  unfold execDictReply
  rw [front, List.find?_cons_of_pos (by simp)]
  dsimp only
  rw [List.erase_cons_head]

theorem execLinkFaultRead_service (service : InService s) (l : LinkIx) :
    execLinkFaultRead l s = .next (((s.clearLinkFault l.val).countRefusal 0).send (.answer 4 0 (leOfNat 8 (s.linkSt l.val).fault))) :=
  mgmtRead_inService service _

end

/-- Settles O50: each operation comes to the row of its object, whose right, length and value decide it. -/
theorem dictionaryOperations : Obligations.DictionaryOperations := by
  unfold Obligations.DictionaryOperations
  refine ⟨fun s service => ?serial, fun s len service other => ?length, fun s i sub len service below => ?unknown, fun s service => ?writeOnly,
    fun s v served between thawed => ?idlePark, fun s v served running => ?running, fun s v served => ?readOnly,
    fun s session q off len service some_ open_ ethernet newer => ?readRange,
    fun s session q off v service some_ open_ ethernet older => ?old,
    fun s session q off v served some_ open_ ethernet newer thawed fits text => ?label,
    fun s session q mask service some_ open_ ethernet newer => ?subscribe, fun s session q served some_ open_ ethernet newest => ?commit,
    fun s t req exists_ => ⟨_, execDictObjectRead_tile exists_ req, rfl, rfl⟩,
    fun s t req v exists_ => ⟨_, execDictObjectWrite_tile exists_ req v, rfl, rfl⟩,
    fun s e req addr count a b some_ most inside first last usable => ?memoryRead,
    fun s e req addr data a b some_ most inside first last usable => ?memoryWrite,
    fun s req st v l front => ⟨_, execDictReply_front front, rfl, rfl, rfl⟩, fun s l service => ?linkFault⟩
  case serial => exact ⟨_, execPennosRead_smbus service _ _ _ (readAt_serial s _), opAnswered_of s 0 .smbus _⟩
  case length =>
    have other' : len.toNat ≠ 8 := fun same => other (BitVec.eq_of_toNat_eq same)
    exact ⟨_, execPennosRead_smbus service _ _ _ (readAt_serialLength s other' _), opAnswered_of s 0x0104 .smbus _⟩
  case unknown => exact ⟨_, execPennosRead_smbus service _ _ _ (readAt_unknown s below _ _ _ _), opAnswered_of s 0x0101 .smbus _⟩
  case writeOnly => exact ⟨_, execPennosRead_smbus service _ _ _ (readAt_writeOnly s _ _), opAnswered_of s 0x0103 .smbus _⟩
  case idlePark =>
    refine ⟨_, execPennosWrite_smbus served _ _ _
      (writeOp_config served (classOf_config (.inr rfl) _ _) (writeObj_idlePark between thawed v) (countRefusal_zero _)), rfl, rfl, rfl⟩
  case running =>
    refine ⟨_, execPennosWrite_smbus served _ _ _
      (writeOp_config served (classOf_config (.inr rfl) _ _) (writeObj_running running v) (countRefusal_jobs s)), ?_, ?_⟩
    · exact ⟨rfl, rfl⟩
    · exact counted_of_bump rfl one_pos
  case readOnly =>
    exact ⟨_, execPennosWrite_smbus served _ _ _ (writeOp_config served (classOf_config (.inl rfl) _ _) (writeObj_readOnly s v) rfl),
      opAnswered_of s 0x0103 .smbus _⟩
  case readRange =>
    have runs := (runOp_readRange (s := s) (e := ethOpEnv session q) (sub := 1) (index := 0xB000) (len := len.toNat) (offset := off.toNat) newer).trans
      (readOp_service service _ _ _ _ _)
    have cmd := opRow_session service some_ open_ ethernet ⟨3, 1, 0xB000, len.toNat, 0, off.toNat, []⟩
    rw [runs, readAt_keyHashes] at cmd
    exact ⟨_, cmd, opAnswered_of s 0 .ethernet _⟩
  case old =>
    have runs := runOp_writeRange_old (s := s) (e := ethOpEnv session q) (sub := 9) (index := 0x0100) (len := v.length) (offset := off.toNat)
      (value := v) (show q.version < 1 by omega)
    have cmd := opRow_session service some_ open_ ethernet ⟨4, 9, 0x0100, v.length, 0, off.toNat, v⟩
    rw [runs] at cmd
    exact ⟨_, cmd, opAnswered_of s 0x0111 .ethernet _⟩
  case label =>
    have runs := runOp_writeRange (s := s) (e := ethOpEnv session q) (sub := 9) (index := 0x0100) (len := v.length) (offset := off.toNat)
      (value := v) newer
    have cmd := opRow_session served.1 some_ open_ ethernet ⟨4, 9, 0x0100, v.length, 0, off.toNat, v⟩
    have writes := writeOp_config served (classOf_config (.inl rfl) 9 _) (writeObj_label thawed fits text) (countRefusal_zero _)
    rw [runs, show (ethOpEnv session q).served = true from rfl, show carOf (ethOpEnv session q).car = .ethernet from rfl, writes] at cmd
    exact ⟨_, cmd, rfl, keptBytes_keep s _ _ _, rfl⟩
  case subscribe =>
    have runs := (runOp_subscribe (s := s) (e := ethOpEnv session q) (len := 8) (value := leOfNat 8 mask.toNat) newer).trans
      (subscribeOp_mask s rfl mask)
    have cmd := opRow_session service some_ open_ ethernet ⟨5, 0, 0, 8, 0, 0, leOfNat 8 mask.toNat⟩
    rw [runs] at cmd
    exact ⟨_, cmd, rfl, rfl, session_updSession open_ _ fun _ => rfl⟩
  case commit =>
    have runs := runOp_commit (s := s) (e := ethOpEnv session q) (sub := 9) (index := 0x0100) (show 3 ≤ q.version by omega)
    have cmd := opRow_session served.1 some_ open_ ethernet ⟨6, 9, 0x0100, 0, 0, 0, []⟩
    rw [runs, show (ethOpEnv session q).served = true from rfl, show carOf (ethOpEnv session q).car = .ethernet from rfl,
      commitOp_label served] at cmd
    exact ⟨_, cmd, rfl, rfl, rfl, List.contains_iff_mem.mpr (mem_insNat.mpr (.inl rfl))⟩
  case memoryRead =>
    obtain ⟨ctr, counts⟩ := countPoisonRead_eq s addr.toNat count.toNat
    have served := engineMemory_own (req := req.toNat) some_ most inside first last usable (.read addr.toNat count.toNat) fun s =>
      (s.countPoisonRead addr.toNat count.toNat).dictAnswer req.toNat 0 (s.memBytes addr.toNat count.toNat)
    rw [counts] at served
    exact ⟨_, congrArg Host.Outcome.next served, rfl, rfl⟩
  case memoryWrite =>
    obtain ⟨mem, writes⟩ := memWrite_eq s addr.toNat data false
    have served := engineMemory_own (req := req.toNat) some_ most inside first last usable (.write addr.toNat data false) fun s =>
      (s.memWrite addr.toNat data false).dictAnswer req.toNat 0 []
    rw [writes] at served ⊢
    exact ⟨_, congrArg Host.Outcome.next served, rfl, rfl, rfl⟩
  case linkFault =>
    have cmd := execLinkFaultRead_service service l
    rw [countRefusal_zero] at cmd
    exact ⟨_, cmd, rfl, rfl, congrArg LinkSt.fault (linkSt_updLink_same s l fun k => { k with fault := 0 }),
      fun k other => linkSt_updLink_ne s other fun k => { k with fault := 0 }⟩

end Sys2Proof.Machine
end

section
namespace Sys2Proof.Machine

/-! # A flit held for no link (R381, R385)

The statement of the links speaks of every state, so also of one whose port holds a flit that came on a link with a number above 35. Its credit
goes back to the link that has this number modulo 36, which then reads as one that is not fitted. -/

/-- Link 0 is up, and its port holds the flit after the next one of the management lane, as if received on a link 36. -/
def strayFlitState : State :=
  { State.reset with link := { State.reset.link with
    links := State.reset.link.links.set 0 { LinkSt.reset with state := lsUp }
    ports := State.reset.link.ports.set 0 { PortSt.reset with rxq := [(36, ⟨vlMgmt, 1, []⟩)] } } }

/-- The first 252 bytes of the first flit of the management lane, with FSEQ 0 and PSEQ 0. -/
def firstMgmtBody : List Byte := leOfNat 8 (2 ^ 60 + vlMgmt * 2 ^ 58) ++ List.replicate 244 0

/-- That flit: the body and its CRC. -/
def firstMgmtFlit : List Byte := firstMgmtBody ++ leOfNat 4 (crc32 firstMgmtBody).toNat

theorem strayFlitState_up : (strayFlitState.linkSt 0).state = lsUp := by decide +kernel

theorem firstMgmtBody_length : firstMgmtBody.length = 252 := by
  rw [firstMgmtBody, List.length_append, leOfNat_length, List.length_replicate]

theorem firstMgmtFlit_length : firstMgmtFlit.length = 256 := by
  rw [firstMgmtFlit, List.length_append, firstMgmtBody_length, leOfNat_length]

/-- The last four bytes are the CRC of the others. -/
theorem firstMgmtFlit_crc : crc32 (firstMgmtFlit.take 252) = BitVec.ofNat 32 (natOfLE (firstMgmtFlit.drop 252)) := by
  rw [firstMgmtFlit, List.take_left' firstMgmtBody_length, List.drop_left' firstMgmtBody_length,
    natOfLE_leOfNat_small (n := 4) (crc32 firstMgmtBody).isLt, BitVec.ofNat_toNat, BitVec.setWidth_eq]

theorem firstMgmtFlit_header : firstMgmtFlit.take 8 = leOfNat 8 (2 ^ 60 + vlMgmt * 2 ^ 58) := by
  rw [firstMgmtFlit, firstMgmtBody, List.append_assoc, List.take_left' (leOfNat_length ..)]

theorem firstMgmtFlit_expected : fieldN (natOfLE (firstMgmtFlit.take 8)) 46 12 = (strayFlitState.linkSt 0).expect := by
  rw [firstMgmtFlit_header]
  decide +kernel

theorem firstMgmtFlit_data : fieldN (natOfLE (firstMgmtFlit.take 8)) 60 4 = 1 := by
  rw [firstMgmtFlit_header]
  decide +kernel

section
variable {s : State} {l symbols : Nat} {bytes : List Byte}

/-- What a link holds once the flit that is next on it has been taken, before its port has it. -/
def State.flitTaken (s : State) (l symbols h : Nat) : State :=
  let k := s.linkSt l
  ((s.setLink l { k with
      fecSymbols := satAdd k.fecSymbols (if symbols ≤ 15 then symbols else 0), fecLoad := if 15 < symbols then 255 else max k.fecLoad symbols }).takeHeader
    l (fieldN h 34 12) (fieldN h 32 2) (fieldN h 24 8)).updLink l fun k =>
      ({ k with expect := (k.expect + 1) % 4096, discarding := false }).updVl (fieldN h 58 2) fun v => { v with received := (v.received + 1) % 2 ^ 32 }

/-- A good flit that is next on its link reaches its port. -/
theorem flitArrives_inOrder (up : (s.linkSt l).state = lsUp) (len : bytes.length = 256) (fec : symbols ≤ 15)
    (crc : crc32 (bytes.take 252) = BitVec.ofNat 32 (natOfLE (bytes.drop 252))) {h : Nat} (header : natOfLE (bytes.take 8) = h)
    (data : fieldN h 60 4 = 1) (next : fieldN h 46 12 = (s.linkSt l).expect) :
    s.flitArrives l bytes symbols
      = (s.flitTaken l symbols h).portReceive (s.portOfLink l) l ⟨fieldN h 58 2, fieldN h 8 16, (bytes.drop 8).take 244⟩ := by
  subst header
  have good : (bytes.length == 256 && decide (symbols ≤ 15) && crc32 (bytes.take 252) == BitVec.ofNat 32 (natOfLE (bytes.drop 252))) = true := by
    simp [len, fec, crc]
  unfold State.flitArrives
  dsimp only
  rw [if_neg (not_not.mpr up), good, if_neg (by decide), if_neg (not_not.mpr data), if_neg (not_not.mpr next)]
  rfl

end

/-- The flit is taken, the held one behind it too, and link 0 is no longer fitted. -/
theorem strayFlit_overwrites_link : ((strayFlitState.flitArrives 0 firstMgmtFlit 0).linkSt 0).state = lsNone := by
  rw [flitArrives_inOrder strayFlitState_up firstMgmtFlit_length (by decide) firstMgmtFlit_crc (congrArg natOfLE firstMgmtFlit_header)
    (by decide +kernel) (by decide +kernel)]
  decide +kernel

/-- Refutes O39: a good flit in order can end with its link not up. The port holds a later flit marked as received on link 36, which is no link;
its credit is returned to link 36 modulo 36, and link 0 is overwritten. -/
theorem not_linkLifecycleAndFlits : ¬ Obligations.LinkLifecycleAndFlits := by
  unfold Obligations.LinkLifecycleAndFlits
  intro holds
  obtain ⟨-, inOrder, -⟩ := holds
  obtain ⟨u, taken, -, -, up, -⟩ := inOrder strayFlitState 0 firstMgmtFlit 0 strayFlitState_up firstMgmtFlit_length (by decide) firstMgmtFlit_crc
    firstMgmtFlit_data firstMgmtFlit_expected
  rw [exec_dataFlitReceive, execDataFlitReceive] at taken
  have result := Host.Outcome.next.inj taken
  rw [← result, show ((0 : LinkIx).val) = 0 from rfl, strayFlit_overwrites_link] at up
  exact absurd up (by decide)

end Sys2Proof.Machine
end

section
namespace Sys2Proof.Machine

/-! # The tally on the links, the heartbeat and the election (R393, R396, R397) -/

section
variable {s : State}

/-- A loop that only sends, where what it sends is read from the links. -/
theorem foldl_send {α : Type} (message : LinkSys → α → Out) (l : List α) (s : State) :
    l.foldl (fun (u : State) a => u.send (message u.link a)) s = { s with out := s.out ++ l.map (message s.link) } := by
  induction l generalizing s with
  | nil => exact (congrArg (fun out => { s with out := out }) (List.append_nil s.out)).symm
  | cons a l ih =>
    rw [List.foldl_cons, ih, List.map_cons, ← List.singleton_append, ← List.append_assoc]
    rfl

/-- A flood tells the partner of every up link but one the lowest identity heard (R396). -/
theorem flood_eq (s : State) (but : Nat) : s.flood but = { s with
    out := s.out ++ ((upTo 36).filter (fun k => (s.linkSt k).state == lsUp && k != but)).map fun k => .peer (s.linkSt k).partner pkElect [s.link.lowest] } :=
  foldl_send (fun (links : LinkSys) k => .peer (links.links.toList.getD k LinkSt.reset).partner pkElect [links.lowest]) _ s

/-! ## The tally -/

/-- A source whose epoch is marked gives its offset (R308). -/
theorem takeMark_marked (marked : s.tally.marked = true) (src use : Nat) : s.takeMark (some src) use = s.takeOffset src use := by
  unfold State.takeMark
  dsimp only
  rw [marked, if_neg (by simp), if_pos rfl, if_neg (by simp)]

/-- A member that has no copy of the tally yet takes the one that comes, and sends it on with one hop more (R393). -/
theorem tallyFlit_first {l t hops : Nat} (member : s.link.state = csMember) (up : s.tallyLinkUp l = true) (none : s.link.tallyLink = none)
    (selected : s.tally.selected = 2) (marked : s.tally.marked = true) :
    s.tallyFlit l t hops =
      let src := t + ((s.linkSt l).latencyNs + 32) / 64
      let v := ({ s with link := { s.link with tallyLink := some l, tallyHops := hops }, tally := { s.tally with linkLive := true } }).takeOffset src 2
      { v with out := s.out ++ ((upTo 36).filter fun k => k != l && s.tallyLinkUp k).map fun k => .control k 5 [src, hops + 1] } := by
  unfold State.tallyFlit
  extract_lets better src links s1 s2
  have first : better = true := by
    unfold better
    rw [none]
  have taken : s2 = s1.takeOffset src 2 := (if_pos (.inl selected)).trans (takeMark_marked (s := s1) marked src 2)
  rw [if_neg (by simp [member, up, first]), taken]
  exact foldl_send (fun _ k => .control k 5 [src, hops + 1]) _ _

/-- A locked source that is lost leaves the tally in holdover (R310). -/
theorem sourceLost_locked {use : Nat} (inUse : s.tally.inUse = use) (used : use ≠ 0) (locked : s.tally.state = tsLocked) :
    s.sourceLost = s.updTally fun t =>
      { t with state := tsHoldover, inUse := 0, edges := 0, losses := t.losses + 1, linkLive := t.linkLive && t.inUse != 2 } := by
  unfold State.sourceLost
  dsimp only
  rw [if_neg (by rw [inUse, locked]; simp [used, tsLocked, tsAbsent, tsHoldover])]

/-! ## The master -/

/-- Without job groups nothing stops for want of a master. -/
theorem groupsLost_of_noGroups (alone : s.noGroups) : s.groupsLost = s := by
  unfold State.groupsLost
  have each (l : List SlotIx) : l.foldl (fun (s : State) j =>
      if (s.job j).running && (s.job j).groupId != 0 then s.applyDecision j (.stop 0x0716) else s) s = s := by
    induction l with
    | nil => rfl
    | cons j l ih => rw [List.foldl_cons, alone j, if_neg (by simp), ih]
  exact each allSlots

/-- A lower identity that is heard is taken and sent on (R396). -/
theorem execMasterElectionAnnounce_lower {l : LinkIx} {n : Nat} (up : (s.linkSt l.val).state = lsUp) (elected : s.link.masterSet = 0xFFFF)
    (lower : n < min s.link.lowest s.boot.deviceId) (whole : s.link.state ≠ csConflict) :
    execMasterElectionAnnounce l n s
      = .next (State.flood { s with link := { s.link with heard := insNat n s.link.heard, lowest := n, state := csElecting } } l.val) := by
  have other : n ≠ s.boot.deviceId := by omega
  unfold execMasterElectionAnnounce
  dsimp only
  rw [if_neg (by simp [up, elected]), if_neg other, if_pos ⟨lower, whole⟩]

/-- Without groups and without a pool, the election only names its master (R396). -/
theorem execElectionSettle_alone (electing : s.link.state = csElecting) (alone : s.noGroups) (noPool : s.pwr.token.pool = 0) :
    execElectionSettle s = .next { s with link := { s.link with
      master := min s.link.lowest s.boot.deviceId
      state := if min s.link.lowest s.boot.deviceId = s.boot.deviceId then csMaster else csMember } } := by
  unfold execElectionSettle
  extract_lets m links s1 s2
  have kept : s2 = s1 := by
    unfold s2
    rw [groupsLost_of_noGroups (s := s1) alone, ite_self]
  have empty : ¬ (m = s.boot.deviceId ∧ s2.pwr.token.pool ≠ 0) := fun pool => pool.2 (by rw [kept]; exact noPool)
  rw [if_neg (not_not.mpr electing), if_neg empty, kept]

/-- A member without groups that misses the heartbeat elects anew (R396). -/
theorem execHeartbeatLoss_alone (member : s.link.state = csMember) (alone : s.noGroups) :
    ∃ low, execHeartbeatLoss s = .next (State.flood (State.bump { s with link := { s.link with state := csElecting, lowest := low } } (ck 0x6030 6) 1) 36) := by
  unfold execHeartbeatLoss
  extract_lets low links s1
  refine ⟨low, ?_⟩
  rw [if_neg (not_not.mpr member), groupsLost_of_noGroups (s := s1) alone]

end

/-- Settles O41: each message is one loop over the up links, and without groups or a pool the election changes the cascade alone. -/
theorem cascadeAndElection : Obligations.CascadeAndElection := by
  unfold Obligations.CascadeAndElection
  refine ⟨fun s l master up => ?send, fun s l v hops member up none selected marked => ?receive, fun s l v hops other => ?ignored,
    fun s inUse locked => ?loss, fun s l n up elected lower whole => ?announce, fun s electing alone noPool => ?settle, fun s master => ?heartbeat,
    fun s member alone => ?missed⟩
  case send => exact ⟨_, congrArg Host.Outcome.next (if_pos ⟨master, up⟩), rfl, rfl⟩
  case receive =>
    exact ⟨_, congrArg Host.Outcome.next (tallyFlit_first member up none selected marked), rfl, rfl, rfl, rfl, rfl, rfl, rfl⟩
  case ignored => exact congrArg Host.Outcome.next (if_pos (.inl other))
  case loss =>
    exact ⟨_, congrArg Host.Outcome.next ((if_pos inUse).trans (sourceLost_locked (use := 2) inUse (by decide) locked)), rfl, rfl, rfl, rfl, rfl, rfl⟩
  case announce =>
    exact ⟨_, next_of_eq (execMasterElectionAnnounce_lower up elected lower whole) (flood_eq ..), rfl, rfl, rfl, rfl⟩
  case settle => exact ⟨_, execElectionSettle_alone electing alone noPool, rfl, rfl, rfl⟩
  case heartbeat => exact ⟨_, congrArg Host.Outcome.next (if_pos master), rfl, rfl⟩
  case missed =>
    obtain ⟨low, elects⟩ := execHeartbeatLoss_alone member alone
    exact ⟨_, next_of_eq elects (flood_eq ..), rfl, rfl, counted_of_bump rfl one_pos⟩

end Sys2Proof.Machine
end

section
namespace Sys2Proof.Machine

/-! # Job groups (R398 to R400) -/

section
variable {s : State} {j : SlotIx} {p : Plan}

/-- What a change of the jobs alone leaves of the feature objects: they do not read the jobs. -/
theorem noteFeatures_updJob (s : State) (j : SlotIx) (f : Job → Job) : s.noteFeatures (s.updJob j f) = s.updJob j f := by
  have zones : (s.updJob j f).zonesAvailable = s.zonesAvailable := rfl
  have ports : (s.updJob j f).portsAvailable = s.portsAvailable := rfl
  unfold State.noteFeatures
  rw [zones, ports]
  exact if_neg (by simp)

theorem onlyJob_updJob (s : State) (j : SlotIx) (f : Job → Job) : onlyJob s (s.updJob j f) j :=
  fun _ other => job_setJob_ne s _ other

/-! ## A member that is ready -/

theorem any_ready (ready : List (Nat × List Nat × Nat)) (device : Nat) (members : List Nat) (key d : Nat) :
    (ready ++ [(device, members, key)]).any (fun r => r.1 == d) = (ready.any (fun r => r.1 == d) || device == d) := by
  rw [List.any_append, List.any_cons, List.any_nil, Bool.or_false]

/-- A member named for the first time while its group gathers is noted; it is not the last. -/
theorem memberReady_notLast {device key : Nat} {members : List Nat} (gathering : (s.job j).gathering = true)
    (member : (s.job j).members.contains device = true) (first : (s.job j).ready.any (fun r => r.1 == device) = false)
    (waits : (s.job j).members.all (fun d => (s.job j).ready.any (fun r => r.1 == d) || device == d) = false) :
    s.memberReady j device members key = s.updJob j fun b => { b with ready := (s.job j).ready ++ [(device, members, key)] } := by
  unfold State.memberReady
  dsimp only
  rw [if_neg (by rw [gathering, member, first]; decide), if_pos (by simp only [any_ready, waits, Bool.not_false])]

/-- With the last one, when all named the same members and key, the start tally goes out. -/
theorem memberReady_last {device key : Nat} {members : List Nat} (gathering : (s.job j).gathering = true)
    (member : (s.job j).members.contains device = true) (first : (s.job j).ready.any (fun r => r.1 == device) = false)
    (whole : (s.job j).members.all (fun d => ((s.job j).ready ++ [(device, members, key)]).any (fun r => r.1 == d)) = true)
    (agree : ∀ r ∈ (s.job j).ready ++ [(device, members, key)], r.2.1 = (s.job j).members ∧ r.1 ∈ (s.job j).members ∧ r.2.2 = (s.job j).keyEff) :
    ∃ u : State, s.memberReady j device members key = { u with
        out := s.out ++ ((s.job j).members.filter fun d => d != s.boot.deviceId).map fun d => .peer d pkStart [(s.job j).groupId, s.tally.now + 1024] }
      ∧ { u with jobs := s.jobs } = s ∧ (u.job j).startAt = some (s.tally.now + 1024) := by
  have sameList : ((s.job j).ready ++ [(device, members, key)]).any (fun r => r.2.1 != (s.job j).members || ! r.2.1.contains r.1) = false := by
    rw [List.any_eq_false]
    intro r mem
    obtain ⟨named, own, -⟩ := agree r mem
    simp [named, own]
  have sameKey : ((s.job j).ready ++ [(device, members, key)]).any (fun r => r.2.2 != (s.job j).keyEff) = false := by
    rw [List.any_eq_false]
    intro r mem
    obtain ⟨-, -, digest⟩ := agree r mem
    simp [digest]
  unfold State.memberReady
  dsimp only
  rw [if_neg (by rw [gathering, member, first]; decide), if_neg (by rw [whole]; simp), if_neg (ne_true_of_eq_false sameList),
    if_neg (ne_true_of_eq_false sameKey)]
  refine ⟨_, foldl_send (fun _ d => .peer d pkStart [(s.job j).groupId, s.tally.now + 1024]) _ _, rfl, ?_⟩
  rw [job_updJob]

/-! ## Decisions -/

/-- A stop decided before the start ends the job with its status. -/
theorem applyDecision_starting (member : InGroup s j p) (starting : (s.job j).phase = .starting) (st : Nat) :
    s.applyDecision j (.stop st) = s.endJob j st false := by
  obtain ⟨plan, running, group, -⟩ := member
  unfold State.applyDecision
  simp only [plan, running, group, starting, or_self, reduceCtorEq, if_false]

/-- A stop decided while a step runs waits for the next plan fence. -/
theorem applyDecision_step (member : InGroup s j p) (step : (s.job j).phase = .step) (st : Nat) :
    s.applyDecision j (.stop st) = s.updJob j fun b => { b with groupStop := some (b.groupStop.getD st) } := by
  obtain ⟨plan, running, group, -⟩ := member
  unfold State.applyDecision
  simp only [plan, running, group, step, or_self, reduceCtorEq, if_false]

/-- The state at a group fence with the wait counted and the transfers of the interval closed (R399). -/
def State.groupFenceEnds (s : State) (j : SlotIx) : State :=
  s.updJob j fun b => { b with waitTk := b.waitTk + (s.tally.now - b.waitFrom), sent := [], landed := [] }

theorem applyDecision_rerun (member : InGroup s j p) (fence : (s.job j).phase = .group) :
    s.applyDecision j .rerun = (s.groupFenceEnds j).carryOut j p .rerun := by
  obtain ⟨plan, running, group, -⟩ := member
  unfold State.applyDecision
  simp only [plan, running, group, fence, or_self, reduceCtorEq, if_false]
  rfl

theorem carryOut_rerun (s : State) (j : SlotIx) (p : Plan) :
    s.carryOut j p .rerun = s.updJob j fun b => { b with phase := .decided b.task true (s.fenceIsPlan p) } := rfl

/-- An outcome that proposes to stop with a status other than a detection's ends the job with it. -/
theorem carryOut_stop {o : FenceOut} {st : Nat} (proposal : outcomeProposal o = .stop st) (other : st ≠ 0x0711) :
    ((s.carryOut j p o).job j).state = jsEnded ∧ ((s.carryOut j p o).job j).status = st := by
  have ends (u : State) (normal : Bool) : ((u.endJob j st normal).job j).state = jsEnded ∧ ((u.endJob j st normal).job j).status = st := by
    obtain ⟨state, status, -, -⟩ := endJob_fields (s := u) j st normal
    exact ⟨state, status⟩
  cases o with
  | stop st' => obtain rfl : st' = st := by simpa [outcomeProposal] using proposal
                exact ends ..
  | finish st' => obtain rfl : st' = st := by simpa [outcomeProposal] using proposal
                  exact ends ..
  | detStop => exact absurd (by simpa [outcomeProposal] using proposal.symm) other
  | rerun => exact nomatch proposal
  | go n => exact nomatch proposal

/-- A stop decided at a group fence ends the job with its status: neither the normal end nor the stop of a detection. -/
theorem applyDecision_fenceStop (member : InGroup s j p) (fence : (s.job j).phase = .group) {st : Nat} (failed : st ≠ 0x0700) (other : st ≠ 0x0711) :
    ((s.applyDecision j (.stop st)).job j).state = jsEnded ∧ ((s.applyDecision j (.stop st)).job j).status = st := by
  obtain ⟨plan, running, group, -⟩ := member
  unfold State.applyDecision
  simp only [plan, running, group, fence, or_self, reduceCtorEq, if_false, failed]
  split
  case isTrue proposal => exact carryOut_stop proposal other
  case isFalse =>
    obtain ⟨state, status, -, -⟩ := endJob_fields (s := s.groupFenceEnds j) j st false
    exact ⟨state, status⟩

/-! ## The stop of a whole group -/

theorem find_decision {me : Nat} {members : List Nat} (own : me ∈ members) (d : Proposal) :
    (members.map fun m => (m, d)).find? (fun q => q.1 == me) = some (me, d) := by
  cases found : (members.map fun m => (m, d)).find? (fun q => q.1 == me) with
  | none => exact absurd (beq_self_eq_true me) (List.find?_eq_none.mp found (me, d) (List.mem_map_of_mem own))
  | some q =>
    have same := List.find?_some found
    obtain ⟨m, -, rfl⟩ := List.mem_map.mp (List.mem_of_find?_eq_some found)
    rw [show m = me by simpa using same]

/-- The state in which a member carries out a decision of the master that it is itself: the reports are closed, and the others have been told. -/
def State.decisionTold (s : State) (j : SlotIx) (out : List Out) : State := { s.updJob j (fun b => { b with reports := [] }) with out := out }

theorem decisionTold_job (s : State) (j : SlotIx) (out : List Out) : (s.decisionTold j out).job j = { s.job j with reports := [] } :=
  job_updJob s j fun b => { b with reports := [] }

theorem InGroup.decisionTold (member : InGroup s j p) (out : List Out) : InGroup (s.decisionTold j out) j p := by
  obtain ⟨plan, running, group, own⟩ := member
  constructor <;> rw [decisionTold_job]
  · exact plan
  · exact running
  · exact group
  · exact own

/-- The master tells the others, and takes its own part. -/
theorem stopGroup_own (own : s.boot.deviceId ∈ (s.job j).members) (st : Nat) :
    ∃ out, s.stopGroup j st = (s.decisionTold j out).applyDecision j (.stop st) := by
  unfold State.stopGroup State.decideGroup
  dsimp only
  rw [find_decision own, foldl_send fun _ (d : Nat × Proposal) => .peer d.1 pkDecision [(s.job j).groupId, proposalCode d.2]]
  exact ⟨_, rfl⟩

/-! ## Reports -/

/-- A report that is not the last is noted. -/
theorem takeReport_notLast {r : GroupReport} (first : (s.job j).reports.any (fun q => q.device == r.device) = false)
    (member : (s.job j).members.contains r.device = true)
    (waits : (s.job j).members.all (fun d => ((s.job j).reports ++ [r]).any (fun q => q.device == d)) = false) :
    s.takeReport j r = s.updJob j fun b => { b with reports := (s.job j).reports ++ [r] } := by
  unfold State.takeReport
  dsimp only
  rw [if_neg (by rw [first, member]; simp), if_neg (ne_true_of_eq_false waits)]

end

/-- A list of which one entry fails does not hold for all. -/
theorem all_eq_false_of_mem {α : Type} {l : List α} {test : α → Bool} {a : α} (mem : a ∈ l) (fails : test a = false) : l.all test = false :=
  List.all_eq_false.mpr ⟨a, mem, by rw [fails]; decide⟩

/-- The group of a job that starts waits while a member is silent. -/
theorem starting_waits {s : State} {j : SlotIx} {p : Plan} {d : Nat} (member : InGroup s j p) (starting : (s.job j).phase = .starting)
    (unset : (s.job j).startAt = none) (named : d ∈ (s.job j).members) (silent : (s.job j).ready.any (fun r => r.1 == d) = false) :
    ((s.job j).gathering && ! (s.job j).members.all fun d => (s.job j).ready.any fun r => r.1 == d) = true := by
  obtain ⟨-, running, group, -⟩ := member
  rw [all_eq_false_of_mem named silent]
  simp [Job.gathering, running, group, unset, starting]

/-- Settles O42: a report or a member that is not the last is only noted, the last one gives the start tally, and a decision ends, reruns or marks
the job by its phase. -/
theorem jobGroups : Obligations.JobGroups := by
  unfold Obligations.JobGroups
  refine ⟨fun s j device key gathering member first => ⟨fun waits => ?notLast, fun whole small agree => ?last⟩, fun s j t gathering => ?start,
    fun s j p d member starting unset named silent => ?silent, fun s j r d group master first member named waits => ?report,
    fun s j p st member starting => ?stopped, fun s j p st member step => ?marked, fun s j p member fence => ?rerun,
    fun s j p member fence reports => ?missing⟩
  case notLast =>
    refine ⟨_, congrArg Host.Outcome.next (memberReady_notLast gathering member first (by simpa only [any_ready] using waits)), rfl, fun small => ?_⟩
    rw [job_updJob, BitVec.toNat_ofNat, Nat.mod_eq_of_lt small]
  case last =>
    have same : (BitVec.ofNat 64 key).toNat = key := by rw [BitVec.toNat_ofNat, Nat.mod_eq_of_lt small]
    obtain ⟨u, starts, rest, tally⟩ := memberReady_last gathering member first whole agree
    refine ⟨_, congrArg Host.Outcome.next ((congrArg (s.memberReady j device (s.job j).members) same).trans starts), ?_, tally, rfl⟩
    exact (congrArg (fun v : State => { v with out := s.out }) rest :)
  case start => exact ⟨_, congrArg Host.Outcome.next (if_pos gathering), rfl, onlyJob_updJob s j _, job_updJob ..⟩
  case silent =>
    obtain ⟨out, stops⟩ := stopGroup_own (st := 0x0716) member.own
    have ends := stops.trans (applyDecision_starting (member.decisionTold out) (by rw [decisionTold_job]; exact starting) 0x0716)
    obtain ⟨state, status, -, -⟩ := endJob_fields (s := s.decisionTold j out) j 0x0716 false
    exact ⟨_, congrArg Host.Outcome.next ((if_pos (starting_waits member starting unset named silent)).trans ends), state, status⟩
  case report =>
    have noted := takeReport_notLast first member (all_eq_false_of_mem named waits)
    exact ⟨_, congrArg Host.Outcome.next ((if_neg (not_or.mpr ⟨group, not_not.mpr master⟩)).trans
      ((congrArg s.noteFeatures noted).trans (noteFeatures_updJob ..))), rfl, onlyJob_updJob s j _, job_updJob ..⟩
  case stopped =>
    obtain ⟨state, status, -, -⟩ := endJob_fields (s := s) j st false
    refine ⟨_, exec_groupDecision .., ?_⟩
    rw [(noteFeatures_aside _).job, applyDecision_starting member starting]
    exact ⟨state, status⟩
  case marked =>
    exact ⟨_, congrArg Host.Outcome.next ((congrArg s.noteFeatures (applyDecision_step member step st)).trans (noteFeatures_updJob ..)), rfl,
      onlyJob_updJob s j _, job_updJob ..⟩
  case rerun =>
    refine ⟨_, exec_groupDecision .., ?_⟩
    rw [(noteFeatures_aside _).job, applyDecision_rerun member fence, carryOut_rerun, job_updJob, State.groupFenceEnds, job_updJob]
    exact ⟨rfl, rfl, rfl⟩
  case missing =>
    obtain ⟨out, stops⟩ := stopGroup_own (st := 0x0716) member.own
    have present : ¬ (s.job j).reports.isEmpty = true := fun none => reports (List.isEmpty_iff.mp none)
    refine ⟨_, congrArg Host.Outcome.next (if_neg present), ?_⟩
    rw [(noteFeatures_aside _).job, stops]
    exact applyDecision_fenceStop (member.decisionTold out) (by rw [decisionTold_job]; exact fence) (by decide) (by decide)

end Sys2Proof.Machine
end
